-- ==== Sys2Proof/Word.lean ====
section
/-! DEFINITION. The plain words of the RC8 model: bytes, the canonical sparse byte store, and the
few list shapes every layer above shares (00 R8, R10). -/

namespace Sys2Proof

/-- One byte, the smallest addressable unit of every structure of the spec (00 R8). -/
abbrev Byte := BitVec 8

/-- A 32-bit register or mask (02 R45). -/
abbrev U32 := BitVec 32

/-- A byte-addressed store in canonical form: addresses strictly rising, no entry equal to the
value 0 that an unlisted address reads as. -/
abbrev Mem := List (Nat × Byte)

end Sys2Proof
end

