-- ==== Sys2Proof/Machine/Types.lean ====
section
/-! DEFINITION. The pieces the state of one RC8 module is made of, chapter by chapter of the spec, as
plain data. Each field's docstring names its width or shape, the rule of spec/ that names it and its
reset value; Machine/State.lean puts them together. -/

namespace Sys2Proof.Machine

open Sys2Proof

/-! ### Enumerations shared by the chapters -/

/-- Statuses a command completes with (02 R79). -/
inductive Status where
  | done | pending | badCommand | badLength | badField | wrongState | wrongKeyPosition
  | noAuthority | safetyLoginRequired | busy | noSpace | integrityFail | tooLate
deriving DecidableEq, Repr

/-- Authority classes in their order (02 R64). -/
inductive Cls where
  | observe | operate | engineer | safety
deriving DecidableEq, Repr

/-- Event severities (02 R68). -/
inductive Sev where
  | info | notice | warning | error | critical
deriving DecidableEq, Repr

/-- Mailbox states (02 R54). -/
inductive MbxState where
  | free | posted | busy | done
deriving DecidableEq, Repr

/-! ### Host ports (02) -/

/-- One mailbox of a host port (02 R53). -/
structure Mailbox where
  /-- State, 2 bits — 02 R54; reset FREE -/
  state : MbxState
  /-- Header and payload, 4,096 bytes, byte +18 excepted — 02 R53; reset DESIGN CHOICE 0 (log 3) -/
  mem : Mem
  /-- Last sequence accepted, u32, none — 02 R54; reset none -/
  lastSeq : Option Nat
  /-- Place in the order of arrival of doorbells, count — 02 R31, R54; reset 0 -/
  order : Nat
deriving DecidableEq, Repr

/-- One MSI-X vector (02 R47). -/
structure MsixVec where
  /-- Message address, 64 bits — 02 R44, R47; reset DESIGN CHOICE 0 (log 3) -/
  addr : Nat
  /-- Message data, 32 bits — 02 R44, R47; reset DESIGN CHOICE 0 (log 3) -/
  data : U32
  /-- Vector mask bit — 02 R47; reset PRESUMED 1, masked, as PCI Express has it (log 4) -/
  masked : Bool
  /-- Pending bit of the pending-bit array — 02 R47; reset PRESUMED 0 (log 4) -/
  pend : Bool
deriving DecidableEq, Repr

/-- The event ring of a host port and its registers (02 R45, R67 to R74). -/
structure Evq where
  /-- EVQ_BASE_LO and EVQ_BASE_HI, ring base, 64 bits, 4 KiB aligned — 02 R45; reset 0 -/
  base : Nat
  /-- EVQ_SIZE.log2_entries, 5 bits — 02 R45; reset 6 -/
  size : Nat
  /-- EVQ_CTRL.enable, 1 bit — 02 R45, R67; reset 0 -/
  enable : Bool
  /-- EVQ_HEAD_ADDR_LO and _HI, head write-back address, 64 bits, 8-byte aligned — 02 R45; reset 0 -/
  headAddr : Nat
  /-- EVQ_TAIL.tail, 16 bits — 02 R45, R71; reset 0 -/
  tail : Nat
  /-- EVQ_HEAD.head, 16 bits — 02 R45, R70; reset 0 -/
  head : Nat
  /-- EVQ_HEAD.phase, 1 bit — 02 R45, R70; reset 1 -/
  phase : Bool
  /-- EVQ_MASK0 to EVQ_MASK3, source selection, 4 times 32 bits — 02 R45; reset 0xFFFF_FFFF each -/
  mask : Vector U32 4
  /-- EVQ_COAL.time_us, 16 bits — 02 R45, R73; reset 0 -/
  coalTime : Nat
  /-- EVQ_COAL.count, 16 bits — 02 R45, R73; reset 1 -/
  coalCount : Nat
  /-- EVQ_LOST, 32 bits, saturating — 02 R45, R72; reset 0 -/
  lost : Nat
  /-- EVQ_STATUS.config_error, 1 bit — 02 R45, R67; reset 0 -/
  configError : Bool
  /-- EVQ_STATUS.tail_error, 1 bit — 02 R45, R71; reset 0 -/
  tailError : Bool
  /-- EVQ_STATUS.dma_error, 1 bit — 02 R45, R74; reset 0 -/
  dmaError : Bool
  /-- Port event sequence, u32 — 02 R69; reset 0 -/
  seq : Nat
  /-- Pending-loss count, u32 — 02 R72; reset 0 -/
  lossCount : Nat
  /-- Sequence of the first dropped event — 02 R72; reset 0 -/
  lossFirst : Nat
  /-- Sequence of the last dropped event — 02 R72; reset 0 -/
  lossLast : Nat
  /-- Entries written since the last vector 0 message — 02 R73; reset 0 -/
  uninterrupted : Nat
  /-- REFOSC time of the oldest of those entries — 02 R73; reset 0 -/
  oldest : Nat
deriving DecidableEq, Repr

/-- One entry of a port's completion log (02 R87). -/
structure ComplEntry where
  tag : Nat
  code : Nat
  status : Status
  round : Nat
  mbx : Nat
deriving DecidableEq, Repr

/-- One host port HPn (02). -/
structure HostPort where
  /-- Link up — 02 R43, R86; reset 0 -/
  link : Bool
  /-- Link speed, 0 to 3 — 02 R86; reset 0 -/
  speed : Nat
  /-- Link width, 0 to 2 — 02 R86; reset 0 -/
  width : Nat
  /-- HP_SCRATCH, 32 bits — 02 R45; reset 0 -/
  scratch : U32
  /-- MBX_DONE.done, 8 bits — 02 R45; reset 0 -/
  mbxDone : BitVec 8
  /-- MBX_ERROR, bits 7:0 mailbox_error and bit 8 bar2_write — 02 R45; reset 0 -/
  mbxError : BitVec 9
  /-- MBX_ERROR_COUNT.count, 16 bits, saturating — 02 R45; reset 0 -/
  mbxErrorCount : Nat
  /-- Event ring and its registers — 02 R45; reset per field -/
  evq : Evq
  /-- HP_TICK_ROUND_LO and _HI, 64 bits — 02 R45, R48; reset 0 -/
  tickRound : Nat
  /-- EVQ_BASE_HI latched by a read of EVQ_BASE_LO, none when no latch is held — 02 R45; reset none -/
  latchBase : Option Nat
  /-- EVQ_HEAD_ADDR_HI latched by a read of _LO — 02 R45; reset none -/
  latchHead : Option Nat
  /-- HP_TICK_ROUND_HI latched by a read of _LO — 02 R45; reset none -/
  latchTick : Option Nat
  /-- The four MSI-X vectors — 02 R47; reset per field -/
  msix : Vector MsixVec 4
  /-- The eight mailboxes — 02 R53; reset per field -/
  mbx : Vector Mailbox 8
  /-- Highest severity since the last GET_STATUS, none — 02 R573; reset none -/
  highest : Option Sev
  /-- Completion log, newest first, at most 32 entries — 02 R87; reset empty -/
  log : List ComplEntry
  /-- Completions after PENDING since module reset, u32 — 02 R87; reset 0 -/
  logTotal : Nat
deriving DecidableEq, Repr

/-- One entry of the host rights table (02 R65). -/
structure Rights where
  cls : Cls
  /-- BAR2 grant flags, 5 bits -/
  grants : BitVec 5
deriving DecidableEq, Repr

/-- How far a command taken from a mailbox has come. -/
inductive Phase where
  /-- The checks of R58 have passed; its own row has not acted yet. -/
  | checked
  /-- Its row has acted; its end waits for another event. -/
  | waiting
  /-- It has ended with this status and response (not yet written to the mailbox). -/
  | ended (st : Status) (resp : List Byte)
deriving DecidableEq, Repr

/-- A command acknowledged and not yet delivered (01 R31, 02 R58, R59). -/
structure Exec where
  /-- Model's own number of the command, from 0 -/
  id : Nat
  port : Fin 4
  mbx : Fin 8
  code : Nat
  tag : Nat
  noIrq : Bool
  /-- Request payload -/
  req : List Byte
  /-- Largest response the host accepts -/
  cap : Nat
  /-- Class in force at acknowledgement (R66) -/
  cls : Cls
  phase : Phase
  /-- REFOSC time at the start of execution -/
  start : Nat
  /-- The mailbox was completed with PENDING (R59) -/
  pendingSent : Bool
  /-- The port has been reset since the acknowledgement (R43, R59) -/
  portReset : Bool
  /-- Rule epoch whose completion its end waits for, none where it waits for none (12 R409) -/
  rules : Option Nat
  /-- Target port and its entry in force until the command completes, none where the command changes none (02 R66) -/
  rights : Option (Fin 4 × Rights)
  /-- Task whose service request it is, none for a host's command (01 R31, 08 R270) -/
  task : Option (Fin 8)
deriving DecidableEq, Repr

/-- One entry of the rate-limit table (02 R568). -/
structure Limit where
  code : Nat
  p0 : Nat
  /-- REFOSC time of the last raise, none before the first -/
  last : Option Nat
  /-- Occurrences since the last raise -/
  count : Nat
deriving DecidableEq, Repr

/-- One buffer of a BAR2 section (02 R49, R50). -/
structure Bar2Buf where
  generation : Nat
  round : Nat
  time : Nat
  data : List Byte
  /-- Addresses of its uncorrectable words (12 R397) -/
  poison : List Nat
deriving DecidableEq, Repr

/-- One section slot of BAR2 (02 R49 to R51). -/
structure Bar2Sec where
  /-- Index of the newest complete buffer — 02 R50; reset 0 -/
  newest : Nat
  /-- Buffers 0, 1 and 2 — 02 R50; reset generation 0, no data -/
  bufs : Vector Bar2Buf 3
  /-- Generation of the newest snapshot of the section — 02 R51; reset 0 -/
  generation : Nat
deriving DecidableEq, Repr

/-! ### Event recorder (16) -/

/-- One recorder record (16 R503). -/
structure Record where
  code : Nat
  rep : Nat
  seq : Nat
  /-- Plant time of the first occurrence, in 2^-16 ns -/
  time : Nat
  lastOff : Nat
  p0 : Nat
  p1 : Nat
deriving DecidableEq, Repr

/-! ### Clocks (01) -/

/-- The PTU and the crystal (01 R34 to R37, 03 R94). -/
structure Clock where
  /-- Nanoseconds of REFOSC since module reset — 01 R34, R37; reset 0 -/
  refosc : Nat
  /-- Plant time counter in units of 2^-16 ns since the epoch — 00 R13, 01 R35; reset DESIGN CHOICE 0 (log 5) -/
  ptu : Nat
  /-- PTU increment per 4 ns tick, in 2^-16 ns — 01 R35; reset 262,144 -/
  inc : Nat
  /-- Residual still to be slewed, in 2^-16 ns — 03 R94; reset 0 -/
  residual : Int
deriving DecidableEq, Repr

/-- The module's identity (02 R82, 10 R305). -/
structure Ident where
  /-- Order code, 16 ASCII bytes — 02 R82; reset DESIGN CHOICE "RC8-2440" (log 6) -/
  orderCode : List Byte
  /-- Serial number, 16 ASCII bytes — 02 R82; reset DESIGN CHOICE "0" (log 6) -/
  serial : List Byte
  /-- Hardware issue, u16 — 02 R82; reset DESIGN CHOICE 1 (log 6) -/
  issue : Nat
  /-- Slot coding of the pair base as it can be read: 0, 1 or 2 — 10 R305, 19 R557; reset DESIGN CHOICE 1 (log 6) -/
  slot : Nat
deriving DecidableEq, Repr

/-- The recorder's volatile half (16 R504 to R510). -/
structure Recorder where
  /-- Volatile buffer, at most 4,096 records, oldest first — 16 R506; reset empty -/
  buf : List Record
  /-- Records at the end of the buffer not yet flushed, 0 to 4,096 — 16 R506; reset 0 -/
  waiting : Nat
  /-- The newest record is open — 16 R505; reset 0 -/
  isOpen : Bool
  /-- The record flushed last has changed since its flush — 16 R506; reset 0 -/
  openDirty : Bool
  /-- Records dropped and not yet reported — 16 R507; reset 0 -/
  dropped : Nat
  /-- Sequence of the last record before the drops, u32 — 16 R516; reset 0 -/
  lastBefore : Nat
  /-- Records dropped since reset, u32 — 16 R515; reset 0 -/
  droppedTotal : Nat
  /-- Clears since reset, u32 — 16 R515; reset 0 -/
  clears : Nat
  /-- A flush failed at the last trigger — 16 R507, R515; reset 0 -/
  failing : Bool
  /-- Plant time seconds of the last completed flush, u64 — 16 R515; reset DESIGN CHOICE 0 (log 7) -/
  lastFlush : Nat
  /-- REFOSC time at which an event of severity ERROR or CRITICAL was last raised, shown by the FAULT LED — 19 R562; reset none -/
  alarm : Option Nat
deriving DecidableEq, Repr

/-- The recorder's MRAM log and its header (16 R506, R508, R509). -/
structure RecLog where
  /-- Records kept, oldest first, at most 524,288 — 16 R506; reset DESIGN CHOICE empty (log 7) -/
  log : List Record
  /-- Slot index of the newest record flushed — 16 R506; reset DESIGN CHOICE 0 (log 7) -/
  slot : Nat
  /-- Seal flag of the header — 16 R506, R508; reset DESIGN CHOICE 1, as after an orderly stop (log 7) -/
  sealed : Bool
  /-- Sequence the next record takes, u32 — 16 R504; reset DESIGN CHOICE 1 (log 7) -/
  nextSeq : Nat
deriving DecidableEq, Repr

/-- One milestone entry (03 R96, R113). -/
structure Milestone where
  /-- Kind code, 1 to 12 -/
  kind : Nat
  /-- 0 schedule, 1 program image, 2 host -/
  source : Nat
  param : Nat
  /-- Offset in ns -/
  off : Nat
  div : Nat
  phase : Nat
  enabled : Bool
deriving DecidableEq, Repr

/-- Rounds and milestones in force (03). -/
structure Rounds where
  /-- Round period in force, ns, u32 — 03 R90, R93; reset DESIGN CHOICE 125,000 (log 8) -/
  period : Nat
  /-- Current round number, u64 — 03 R91; reset 0, the round of the PTU's reset value -/
  round : Nat
  /-- Host-sourced entries in force, at most 64 — 03 R97; reset as stored -/
  host : List Milestone
  /-- Milestone table generation, u16 — 03 R114; reset DESIGN CHOICE 0 (log 8) -/
  generation : Nat
  /-- Setpoint slips, u32 saturating — 03 R117; reset 0 -/
  slips : Nat
  /-- Consecutive setpoint slips — 03 R118; reset 0 -/
  slipRun : Nat
  /-- Late writes per network, u32 saturating — 03 R117; reset 0 -/
  late : Vector Nat 2
  /-- Renumberings, u32 saturating — 03 R117; reset 0 -/
  renumberings : Nat
  /-- Last renumbered round, u64 — 03 R117; reset 0 -/
  lastRenumbered : Nat
  /-- Round of the last setpoint slip, u64 — 03 R117; reset 0 -/
  lastSlip : Nat
  /-- The first round after the last renumbering step, whose frames carry the renumbering flag — 03 R95, 05 R153; reset none -/
  renumbered : Option Nat
  /-- Milestones of the current round that have fired — 03 R96, R98; reset none -/
  fired : List Milestone
deriving DecidableEq, Repr

/-- Network states (04 R140, R146). -/
inductive NetState where
  | notConfigured | bypassed | listen | syncing | joined | master
deriving DecidableEq, Repr

/-- Topologies (04 R123). -/
inductive Topo where
  | ring | star | line
deriving DecidableEq, Repr

/-- Media configuration of a network (04 R149). -/
structure Media where
  topo : Topo
  /-- Channel mask, 0 leaves the network unconfigured -/
  chans : Nat
  enforce : Bool
  arm1 : Bool
  arm2 : Bool
  etherType : Nat
deriving DecidableEq, Repr

/-- One Budan port (04 R121, R147). -/
structure NetPort where
  /-- Link up — 04 R147; reset 0 -/
  link : Bool
  /-- Link-ups, u16 saturating — 04 R147; reset 0 -/
  ups : Nat
  /-- Link delay L in ns, none while not measured — 04 R136; reset none -/
  delay : Option Nat
  /-- Budan frames received with a valid FCS, u32 saturating — 04 R147; reset 0 -/
  frames : Nat
  /-- FCS errors, u32 saturating — 04 R147; reset 0 -/
  fcs : Nat
  /-- Foreign frames, u32 saturating — 04 R120, R147; reset 0 -/
  foreign : Nat
  /-- Guardian blocks, u32 saturating — 04 R132; reset 0 -/
  blocks : Nat
  /-- Guardian cuts, u32 saturating — 04 R132; reset 0 -/
  cuts : Nat
  /-- Rounds in which this port reflected, u32 saturating — 04 R126; reset 0 -/
  reflections : Nat
  /-- The port turns frames back — 04 R126; reset 0 -/
  reflecting : Bool
  /-- The missing link has come up: reflection ends at the next boundary — 04 R126; reset 0 -/
  reflectEnds : Bool
  /-- The port has reflected in this round — 04 R147; reset 0 -/
  reflected : Bool
  /-- Exchanges of the link delay measurement sent since the link came up, at most 1,024 — 04 R136, 05 R170; reset 0 -/
  exchanges : Nat
deriving DecidableEq, Repr

/-- What the module knows of one node (04 R144, R148; 05 R167). -/
structure Node where
  idx : Nat
  /-- 0 absent, 1 listening, 2 synchronising, 3 joined -/
  join : Nat
  /-- Channels on which its window was valid in the last round -/
  chans : Nat
  latency : Nat
  timeErr : Int
  mac : Nat
  stopped : Bool
  silenced : Bool
  /-- Reported misses of commands, u32 saturating -/
  missed : Nat
  /-- Held schedule id of its last reply -/
  held : Nat
  /-- Round in whose MGMT frame its last reply came, none before the first -/
  replied : Option Nat
deriving DecidableEq, Repr

/-- One neighbour report of the ring map: the port (side 0 P1, 1 P2) of a node, its neighbour and the
measured L (04 R575). -/
structure Neighbour where
  node : Nat
  side : Nat
  nbr : Nat
  delay : Nat
deriving DecidableEq, Repr

/-- Steps of the hold sequences (04 R138). -/
inductive HoldStep where
  /-- Attach step 2: channel A held, waiting for its ports and one full valid round -/
  | waitA
  /-- Attach step 4: waiting until 5 s after step 1 -/
  | waitStartB
  /-- Attach step 5: channel B held, waiting for its ports -/
  | waitB
  /-- Release step 2: waiting 5 s before channel B -/
  | waitRelease
deriving DecidableEq, Repr

/-- A hold sequence that runs (04 R138). -/
structure HoldSeq where
  step : HoldStep
  /-- REFOSC time of the sequence's step 1 -/
  start : Nat
  /-- REFOSC time at which the present wait began -/
  since : Nat
  /-- The command that started it -/
  exec : Option Nat
  /-- Issuing port, 0xFF where none -/
  by_ : Nat
deriving DecidableEq, Repr

/-- The guardian of a network (04 R131 to R134). -/
structure Guardian where
  /-- An edge of LEASE_PULSE seen within the last 1 µs — 04 R133; reset 0 -/
  lease : Bool
  /-- Windows closed after a resync fault — 04 R134; reset 0 -/
  closed : Bool
  /-- Consecutive good pulses since the fault — 04 R134; reset 0 -/
  good : Nat
  /-- Guardian cuts since reset, u32 saturating — 04 R146; reset 0 -/
  cuts : Nat
  /-- Resync faults since reset, u32 saturating — 04 R146; reset 0 -/
  faults : Nat
deriving DecidableEq, Repr

/-- One Budan network: media, joining and guardian (04). -/
structure Net where
  /-- Media configuration in force — 04 R123; reset as stored -/
  media : Media
  /-- Network state — 04 R140; reset BYPASSED, NOT_CONFIGURED where no channel is configured -/
  state : NetState
  /-- Ports 0 to 3 — 04 R121; reset per field -/
  ports : Vector NetPort 4
  /-- Mask of active hold outputs BYP_HOLD_NnA, BYP_HOLD_NnB — 04 R137; reset 0 -/
  holds : Nat
  /-- Hold sequence that runs — 04 R138; reset none -/
  seq : Option HoldSeq
  /-- Channels that run as a line, mask — 04 R126; reset 0 -/
  lineMode : Nat
  /-- Nodes heard of — 04 R148; reset none -/
  nodes : List Node
  /-- Network time error, ns — 04 R135, R146; reset 0 -/
  timeErr : Int
  /-- Consecutive rounds with the error below 20 ns — 04 R141; reset 0 -/
  conv : Nat
  /-- Round, hops and the count before it of the command copy that gave the time error last — 04 R135; reset none -/
  errFrom : Option (Nat × Nat × Nat)
  /-- Rounds without a full valid round — 04 R140; reset 0 -/
  lossRounds : Nat
  /-- Channel A alone has carried one full valid round since its hold — 04 R138; reset 0 -/
  aFull : Bool
  /-- Consecutive rounds per down condition: no link, no gather copy, no SLOT frame — 04 R140; reset 0 -/
  down : Vector Nat 3
  /-- A NETWORK_DOWN episode runs — 04 R140; reset 0 -/
  downEpisode : Bool
  /-- REFOSC start of the listen timer, none while it does not run — 04 R140; reset none -/
  listenFrom : Option Nat
  /-- A frame has broken silence since then — 04 R140; reset 0 -/
  heard : Bool
  /-- Silence met since the reference moment of the claim — 10 R317; reset 0 -/
  metSilence : Bool
  /-- First round in which launching is enabled — 04 R140; reset 0 -/
  launchFrom : Nat
  /-- The guardian — 04 R131; reset per field -/
  guard : Guardian
  /-- Neighbour reports of the ring map — 04 R575; reset none -/
  ringMap : List Neighbour
  /-- Break margins: partner position, worst position, ns, and the worst position's node index; none while the map is incomplete — 04
  R128; reset none -/
  margins : Option (Int × Int × Nat)
  /-- Source address of the partner's frames, 0 before the first — 04 R148; reset 0 -/
  partnerMac : Nat
  /-- The module's own Budan MAC address, 48 bits — 04 R148; reset DESIGN CHOICE 02-52-43-38-00-0n (log 11) -/
  mac : Nat
deriving DecidableEq, Repr

/-- One window entry of a schedule (05 R154). -/
structure Window where
  node : Nat
  station : Bool
  down : Bool
  port2 : Bool
  frame : Nat
  off : Nat
  len : Nat
  period : Nat
  phase : Nat
  hold : Nat
  slot : Nat
deriving DecidableEq, Repr

/-- One axis map entry of a schedule (05 R154). -/
structure AxisMap where
  axis : Nat
  node : Nat
  pos : Nat
deriving DecidableEq, Repr

/-- A schedule image, field by field (05 R154). -/
structure Schedule where
  format : Nat
  id : Nat
  net : Nat
  topo : Nat
  period : Nat
  motionLost : Nat
  stationLost : Nat
  gatherLaunch : Nat
  gatherDone : Nat
  engineStart : Nat
  commit : Nat
  commandLaunch : Nat
  delay : Nat
  windows : List Window
  axes : List AxisMap
  /-- The image as loaded -/
  image : List Byte
deriving DecidableEq, Repr

/-- Window states (05 R171, R185). -/
inductive WinSt where
  | valid | stale | lost | returning | new | newReturning
deriving DecidableEq, Repr

/-- State of one window in force (05 R171, R185). -/
structure WinState where
  st : WinSt
  /-- Age in rounds, u16 saturating -/
  age : Nat
  /-- Content in use -/
  content : List Byte
  /-- Channel mask of the last valid copy -/
  chans : Nat
  /-- Rounds spent LOST and RETURNING -/
  lostFor : Nat
  missedFlag : Bool
  silenced : Bool
  /-- Sequence of the station word a downstream station window carries, 15 bits -/
  seq : Nat
deriving DecidableEq, Repr

/-- What R164 has selected for a window in the round. -/
structure Chosen where
  content : List Byte
  chans : Nat
  /-- Port and tick of the copy it came from (05 R164) -/
  port : Fin 4
  tick : Nat
deriving DecidableEq, Repr

/-- A stop command in the queue (05 R169). -/
structure StopCmd where
  /-- 1 STOP, 2 SILENCE, 3 RESUME -/
  cmd : Nat
  target : Nat
  seq : Nat
  /-- MGMT frames it has been sent in, 0 to 8 -/
  sent : Nat
deriving DecidableEq, Repr

/-- A schedule load (05 R181). -/
structure SchedLoad where
  port : Fin 4
  id : Nat
  total : Nat
  data : List Byte
  /-- Its last block's command, from that block's arrival -/
  finishing : Option Nat
deriving DecidableEq, Repr

/-- A pending schedule switch of a network (05 R175, R182). -/
structure SchedSwitch where
  id : Nat
  /-- Switch round, none until it is fixed -/
  round : Option Nat
  /-- Requested switch round, 0 for the earliest -/
  asked : Nat
  /-- REFOSC time at which it began -/
  since : Nat
  exec : Option Nat
deriving DecidableEq, Repr

/-- Channel counters (05 R165). -/
structure ChanCount where
  corrupt : Nat
  late : Nat
  valid : Nat
  mismatching : Nat
  missing : Nat
  silent : Nat
  /-- Consecutive silent rounds -/
  run : Nat
  /-- A silent episode has been raised -/
  episode : Bool
  /-- Rounds since the last silent one, at most 8, shown by the channel's LED (19 R562); reset 8 -/
  calm : Nat
deriving DecidableEq, Repr

/-- A valid copy that has arrived for the round (05 R165, 04 R144). -/
structure Arrival where
  port : Fin 4
  /-- 1 COMMAND, 2 GATHER, 3 SLOT, 4 MGMT -/
  kind : Nat
  idx : Nat
  own : Bool
  round : Nat
deriving DecidableEq, Repr

/-- A management request on the wire (05 R166, R167). -/
structure MgmtReq where
  target : Nat
  code : Nat
  seq : Nat
  data : List Byte
deriving DecidableEq, Repr

/-- Outstanding management work for a target (05 R167). -/
structure MgmtWork where
  target : Nat
  code : Nat
  data : List Byte
deriving DecidableEq, Repr

/-- Schedule, windows and frames of one network (05). -/
structure Sched where
  /-- Schedule in force — 05 R175; reset none -/
  inForce : Option Schedule
  /-- Pending switch — 05 R175, R180; reset none -/
  pending : Option SchedSwitch
  /-- Load in progress — 05 R181; reset none -/
  load : Option SchedLoad
  /-- State per window in force, in schedule order — 05 R171; reset none -/
  wins : List WinState
  /-- Receive bank of the round: content selected per window — 05 R164, 01 R32; reset none -/
  sel : List (Option Chosen)
  /-- Receive bank frozen — 01 R32; reset 0 -/
  rxFrozen : Bool
  /-- Transmit bank open for the next round: content per window — 01 R32, 05 R158; reset none -/
  tx : List (List Byte)
  /-- Transmit bank frozen at COMMIT: content per window — 01 R32, 05 R158; reset none -/
  txFrozen : List (List Byte)
  /-- The transmit bank of the round is frozen — 01 R32; reset 0 -/
  txClosed : Bool
  /-- Receive windows open: gather or slot — 05 R163; reset 0 -/
  gatherOpen : Bool
  /-- Receive window of returning command copies open — 05 R163; reset 0 -/
  commandOpen : Bool
  /-- Round whose management receive window is open — 05 R163; reset none -/
  mgmtOpen : Option Nat
  /-- Round of the last MGMT_OPEN and the schedule id in force then — 05 R163; reset none -/
  mgmtLast : Option (Nat × Nat)
  /-- Ports with link when the gather, command and management windows opened, masks — 05 R165; reset 0 -/
  openLinks : Vector Nat 3
  /-- Valid copies of the round — 05 R165; reset none -/
  arrived : List Arrival
  /-- Newest round judged a full valid round — 04 R144; reset none -/
  fullSeen : Option Nat
  /-- Channel counters A and B — 05 R165; reset 0 -/
  count : Vector ChanCount 2
  /-- Stop commands queued, at most 16 — 05 R169; reset none -/
  stops : List StopCmd
  /-- Stop sequence last assigned, u16 — 05 R169; reset 0 -/
  stopSeq : Nat
  /-- Request of the last MGMT frame — 05 R166; reset none -/
  request : MgmtReq
  /-- Request of the MGMT frame before it, which the node replies of the last one answer — 05 R167; reset none -/
  answered : MgmtReq
  /-- Place in the cycle over the nodes — 05 R167; reset 0 -/
  cycle : Nat
  /-- Deleted ids the partner has not confirmed, each with the sequence of the APPLY under way — 10 R569; reset none -/
  toDelete : List (Nat × Option Nat)
  /-- Outstanding management work — 05 R167; reset none -/
  work : List MgmtWork
  /-- Nodes that a SILENCE command has silenced and no RESUME has freed — 05 R169, R185; reset none -/
  quiet : List Nat
  /-- A schedule that is fetched in the management window: its id and the bytes received — 04 R141; reset none -/
  fetch : Option (Nat × List Byte)
  /-- Ids whose deletion the holder has asked for and this module's storage has refused — 10 R569; reset none -/
  kept : List Nat
deriving DecidableEq, Repr

/-- A block floating value m × 2^e (06 R192). -/
structure Fl where
  m : Int
  e : Int
deriving DecidableEq, Repr

/-- Axis states (06 R207). -/
inductive AxisMode where
  | idle | active | extrapolating | fault
deriving DecidableEq, Repr

/-- BAND states (06 R206). -/
inductive BandSt where
  | low | lowHeld | high | highHeld
deriving DecidableEq, Repr

/-- Feedback states of an axis (06 R198). -/
inductive FbSt where
  | valid | stale | lost
deriving DecidableEq, Repr

/-- A command record (05 R160). -/
structure CmdRec where
  command : Int
  feedforward : Int
  enable : Bool
  quick : Bool
  /-- 0 NONE, 1 POSITION, 2 VELOCITY, 3 TORQUE -/
  mode : Nat
deriving DecidableEq, Repr

/-- The fault reaction an axis runs, fixed when it entered FAULT (06 R208, R211). -/
inductive Reaction where
  | hold
  | ramp
  /-- RAMP_TO_STANDSTILL of law BAND: the low level -/
  | low (level : Int)
deriving DecidableEq, Repr

/-- What the engine keeps of one axis: its state block (06 R191) and its status record (R214). -/
structure Axis where
  /-- Axis state — 06 R207; reset IDLE -/
  st : AxisMode
  /-- The axis has been computed since it was configured — 06 R202; reset 0 -/
  started : Bool
  /-- Biquad states s1 and s2 of each stage, in order — 06 R201; reset none -/
  biq : Vector (List Fl) 5
  /-- Stage exponents S0 to S4, s8 — 06 R194; reset 0 -/
  exps : Vector Int 5
  /-- S2 integrator — 06 R202; reset 0 -/
  i : Fl
  /-- y of the last round at full precision — 06 R202; reset 0 -/
  y : Fl
  /-- ff of the last round — 06 R211; reset 0 -/
  ff : Fl
  /-- ev of the last round — 06 R211; reset 0 -/
  ev : Fl
  /-- Velocity estimate of the last round — 06 R208; reset 0 -/
  v : Fl
  /-- Position error ep of the last round — 07 R229; reset 0 -/
  ep : Fl
  /-- v_ref of the last round — 06 R202; reset 0 -/
  vRef : Int
  /-- p_used of the last round, none before the first — 06 R198; reset none -/
  p : Option Int
  /-- Δ — 06 R198; reset 0 -/
  delta : Int
  /-- The last round's position was received — 06 R198; reset 0 -/
  received : Bool
  /-- Consecutive missing rounds — 06 R199; reset 0 -/
  miss : Nat
  /-- y stood at a bound last round: 1 upper, −1 lower, 0 none — 06 R202; reset 0 -/
  bound : Int
  /-- Fault-reset bit of the last record — 06 R197; reset 0 -/
  resetBit : Bool
  /-- BAND state — 06 R206; reset LOW -/
  band : BandSt
  /-- BAND hold counter — 06 R206; reset 0 -/
  bandCount : Nat
  /-- Fault cause, 0 to 6 — 06 R214; reset 0 -/
  cause : Nat
  /-- The fault was taken from IDLE — 06 R208; reset 0 -/
  fromIdle : Bool
  /-- Enable has been 0 since the fault — 06 R207; reset 0 -/
  enableOff : Bool
  /-- Quick stop is sent until the fault reset — 06 R209; reset 0 -/
  quick : Bool
  /-- Round the fault began — 06 R223; reset 0 -/
  since : Nat
  /-- Velocity of the ramp, counts per round × 2^8 — 06 R208; reset 0 -/
  ramp : Int
  /-- The ramp has reached standstill — 06 R208; reset 0 -/
  rampDone : Bool
  /-- Last command record before FAULT — 06 R208; reset zeros -/
  last : CmdRec
  /-- Consecutive extrapolated rounds — 06 R223; reset 0 -/
  extra : Nat
  /-- An uncorrectable word of the axis has been read — 06 R207; reset 0 -/
  memError : Bool
  /-- ENGINE_AXIS_HALT due at the next ENGINE_START — 06 R221; reset 0 -/
  haltDue : Bool
  /-- ENGINE_AXIS_RESET due at the next ENGINE_START — 06 R221; reset 0 -/
  resetDue : Bool
  /-- Fault reaction that runs — 06 R208, R211; reset hold -/
  react : Reaction
  /-- Axis status record, 64 bytes, none written before the first ENGINE_START — 06 R214; reset empty (R213: state and
  flags read 0, law as configured) -/
  status : List Byte
deriving DecidableEq, Repr

/-- Engine states (06 R209). -/
inductive EngSt where
  | run | recover | failed
deriving DecidableEq, Repr

/-- A parameter bank: the 768-byte blocks written, by axis; an unlisted axis has the default block (06 R191, R195, R210). -/
structure Bank where
  blocks : List (Nat × List Byte)
  /-- Generation, u32 -/
  generation : Nat
deriving DecidableEq, Repr

/-- The control engine (06). -/
structure Engine where
  /-- Engine state — 06 R209; reset RUN -/
  st : EngSt
  /-- What the engine keeps of each axis computed; an unlisted axis is at its reset — 06 R191; reset none -/
  axes : List (Nat × Axis)
  /-- The computation of this round has started — 06 R190; reset 0 -/
  started : Bool
  /-- The computation of this round is done — 06 R209; reset 0 -/
  done : Bool
  /-- Command records of this round, by axis — 06 R189; reset none -/
  records : List (Nat × CmdRec)
  /-- Command records launched in the previous round — 06 R209; reset none -/
  lastRecords : List (Nat × CmdRec)
  /-- Records are repeated, or quick stop is forced — 06 R213 bit 26; reset 0 -/
  repeating : Bool
  /-- Round of the last recovery — 06 R209; reset none -/
  recovered : Option Nat
  /-- The setpoints of an earlier round were used — 03 R107; reset 0 -/
  slipped : Bool
  /-- Generation of the setpoints used at the last ENGINE_START — 03 R107, 10 R319; reset 0 -/
  usedGen : Nat
  /-- Pending swap round — 06 R216; reset none -/
  swapAt : Option Nat
  /-- Round of the last swap, u64 — 06 R216; reset 0 -/
  lastSwap : Nat
  /-- Engine faults, u32 saturating — 06 R216; reset 0 -/
  faults : Nat
  /-- Extrapolated axis-rounds, u32 saturating — 06 R216; reset 0 -/
  extraRounds : Nat
  /-- Saturated axis-rounds, u32 saturating — 06 R216; reset 0 -/
  satRounds : Nat
  /-- Axis faults, u32 saturating — 06 R216; reset 0 -/
  axisFaults : Nat
  /-- Last engine fault round — 06 R216; reset 0 -/
  lastFault : Nat
  /-- Axis states and fault causes handed to the safety channels at the last COMMIT — 06 R208, 11 R353; reset none -/
  handed : List (Nat × AxisMode × Nat)
  /-- Round whose boundary lies in the gap from COMMIT to ENGINE_START, none outside the gap — 07 R237, R238; reset none -/
  gap : Option Nat
  /-- Bytes of tables moved in this gap — 07 R237; reset 0 -/
  moved : Nat
  /-- Consecutive rounds without a schedule in force, u16 saturating, that no axis has counted yet — 06 R199; reset 0 -/
  bare : Nat
  /-- An engine fault of this standby bars it until the resync after its recovery — 06 R209; reset 0 -/
  barred : Bool
deriving DecidableEq, Repr

/-- Learning states (07 R231). -/
inductive LearnSt where
  | off | playback | learning | frozen
deriving DecidableEq, Repr

/-- A learning configuration (07 R234). -/
structure LearnCfg where
  k : Nat
  /-- 0 none, 1 axis, 2 virtual -/
  kind : Nat
  master : Nat
  exp : Int
  lead : Nat
  restore : Bool
  origin : Int
  cycle : Nat
  low : Int
  high : Int
  gainM : Int
  gainE : Int
  monitor : Nat
  growth : Nat
  q0 : Int
  q1 : Int
  q2 : Int
  q3 : Int
deriving DecidableEq, Repr

/-- A table that waits for its move into table memory (07 R237). -/
structure TableMove where
  /-- 1 resample by LEARN_CONFIGURE, 2 LEARN_RESTORE, 3 the waymark, 4 restore at start, 5 the way back after a failed conversion -/
  why : Nat
  /-- Round whose COMMIT opens the move -/
  round : Nat
  cfg : LearnCfg
  table : List Int
  exec : Option Nat
deriving DecidableEq, Repr

/-- A snapshot slot in MRAM: header fields and entries (07 R238). -/
structure SnapSlot where
  k : Nat
  exp : Int
  generation : Nat
  round : Nat
  time : Nat
  kind : Nat
  master : Nat
  cycle : Nat
  /-- Check value over header and entries -/
  check : Nat
  /-- The valid word stands: the slot is written and verified -/
  written : Bool
  entries : List Int
deriving DecidableEq, Repr

/-- Whom a snapshot answers: this module's LEARN_SNAPSHOT, or the holder's APPLY by its sequence (07 R238, R240). -/
inductive SnapFor where
  | own (exec : Nat)
  | partner (seq : Nat)
deriving DecidableEq, Repr

/-- Repetitive learning of one axis (07). -/
structure Learn where
  /-- Configuration in force — 07 R234; reset as stored -/
  cfg : LearnCfg
  /-- Table, entries 0 to N−1, s32 mantissas; entries beyond the list are 0 — 07 R226; reset zero -/
  table : List Int
  /-- Learning state — 07 R231; reset OFF -/
  st : LearnSt
  /-- Error history, newest first, at most 7: point and error — 07 R229; reset empty -/
  hist : List (Nat × Rat)
  /-- phi in use, u32 — 07 R225; reset 0 -/
  phi : Nat
  /-- Master position of the last round, none before the first — 07 R225; reset none -/
  master : Option Int
  /-- Pause causes of the last round, 7 bits — 07 R230; reset 0 -/
  pauses : Nat
  /-- Learning ran in the last round — 07 R229; reset 0 -/
  ran : Bool
  /-- Growth count — 07 R233; reset 0 -/
  growth : Nat
  /-- Mean square of the last counted cycle, none after a monitor reset — 07 R233; reset none -/
  msRef : Option Rat
  /-- Mean squares of the last and the previous counted cycle — 07 R233; reset 0 -/
  ms : Rat × Rat
  /-- Sum of the squares of the cycle's updates — 07 R229; reset 0 -/
  sumsq : Nat
  /-- Updates of the running cycle — 07 R229; reset 0 -/
  updates : Nat
  /-- Updates of the last cycle — 07 R242; reset 0 -/
  lastUpdates : Nat
  /-- Cycles closed since the last monitor reset, u32 — 07 R242; reset 0 -/
  cycles : Nat
  /-- Saturated updates since reset, u32 — 07 R242; reset 0 -/
  saturated : Nat
  /-- Round of the last snapshot — 07 R242; reset 0 -/
  lastSnap : Nat
  /-- Table move that waits — 07 R237; reset none -/
  move : Option TableMove
  /-- LEARN_SNAPSHOT that waits for its boundary — 07 R238; reset none -/
  snapFor : Option SnapFor
  /-- Controls due at the next ENGINE_START in their order: 0 OFF, 1 PLAYBACK, 2 LEARN — 07 R231; reset none -/
  control : List Nat
  /-- The table before the waymark's move — 09 R290; reset none -/
  oldTable : Option (List Int)
  /-- The table in table memory is out of use until the old one is back, r = 0 — 09 R290; reset 0 -/
  skip : Bool
  /-- Entries updated in the round, in order: point and value — 10 R323; reset none -/
  touched : List (Nat × Int)
deriving DecidableEq, Repr

/-- Modes (08 R263). -/
inductive Mode where
  | stop | run | layby
deriving DecidableEq, Repr

/-- Key positions (08 R262). -/
inductive Key where
  | stop | remote | run
deriving DecidableEq, Repr

/-- States of a task (08 R276). -/
inductive TaskSt where
  | unused | waiting | running | halted | breakpoint
deriving DecidableEq, Repr

/-- A task entry of a program image (08 R245). -/
structure TaskEntry where
  core : Nat
  /-- Bit 0 motion-class input, bit 1 station-class input, bit 2 station-class output -/
  images : Nat
  /-- Period in rounds, 0 leaves the task unconfigured -/
  period : Nat
  phase : Nat
  /-- Release offset in ns -/
  offset : Nat
  entry : Nat
deriving DecidableEq, Repr

/-- A program image: the header, field by field, and all its bytes (08 R244). -/
structure Image where
  level : Nat
  id : Nat
  codeSize : Nat
  dataSize : Nat
  retainedSize : Nat
  dirtyLimit : Nat
  taskCount : Nat
  overrunLimit : Nat
  overrunReaction : Nat
  authority : Nat
  autostart : Bool
  check : Nat
  tasks : List TaskEntry
  /-- Offset and length of each of the eight sections -/
  sections : List (Nat × Nat)
  bytes : List Byte
deriving DecidableEq, Repr

/-- Elementary types of program data, as *Table: Conversion rules* tells them apart, with their widths in bytes (09 R292). -/
inductive ValKind where
  /-- SINT to ULINT -/
  | int (signed : Bool) (bytes : Nat)
  /-- BYTE to LWORD -/
  | bits (bytes : Nat)
  | real
  | lreal
  /-- TIME and LTIME, in ns -/
  | time (bytes : Nat)
  /-- STRING and WSTRING of so many characters -/
  | str (wide : Bool) (chars : Nat)
  /-- An enumeration by its name, with its value names and their values -/
  | enum (name : List Byte) (bytes : Nat) (values : List (List Byte × Nat))
  /-- REF_TO and pointers -/
  | ref (bytes : Nat)
  /-- Any other type, by its name -/
  | other (name : List Byte) (bytes : Nat)
deriving DecidableEq, Repr

/-- One elementary value that a mapping table lists, a member or an element by itself (08 R244; 09 R291). -/
structure Place where
  /-- Instance it belongs to -/
  inst : Nat
  /-- Path of the instance, with member names and index values -/
  path : List Byte
  /-- Type names of the structures and function blocks around it, outermost first -/
  types : List (List Byte)
  kind : ValKind
  /-- It lies in retained memory, else in data memory -/
  retained : Bool
  /-- Its offset there -/
  off : Nat
  /-- Tasks that access it, mask -/
  tasks : Nat
deriving DecidableEq, Repr

/-- A load of an image or a package in blocks (08 R274, 09 R300). -/
structure BlockLoad where
  total : Nat
  data : List Byte
  /-- The last block's command, from that block's arrival -/
  finishing : Option Nat
deriving DecidableEq, Repr

/-- A task's snapshot (08 R248, R255). -/
structure Snapshot where
  motion : List Byte
  station : List Byte
  results : List (List Byte)
  /-- Plant time of the release, 2^-16 ns -/
  time : Nat
  /-- Monotonic time of the release, ns -/
  mono : Nat
deriving DecidableEq, Repr

/-- What a task asks of a service channel (08 R270). -/
inductive SvcCall where
  | event (reason sev p0 p1 p2 : Nat)
  | record (code p0 p1 : Nat)
  /-- A service that is also a command, with its request, and whether a write it makes verifies. -/
  | command (code : Nat) (req : List Byte) (stored : Bool)
deriving DecidableEq, Repr

/-- Kinds of timer function block (08 R256). -/
inductive TimerKind where
  | ton | tof | tp
deriving DecidableEq, Repr

/-- An evaluation of a timer instance in a cycle: its input and preset in ns (08 R256). -/
structure TimerEval where
  inst : Nat
  kind : TimerKind
  input : Bool
  preset : Nat
deriving DecidableEq, Repr

/-- An evaluation of an edge detector instance in a cycle: its input (08 R257). -/
structure EdgeEval where
  inst : Nat
  input : Bool
deriving DecidableEq, Repr

/-- What a task cycle hands over at its end (08 R248, R252, 10 R323): its time after its release in ns, its
output images, its dirty granules as offset and 64 bytes, and the service requests it issued. -/
structure CycleOut where
  ns : Nat
  motion : List Byte
  station : List Byte
  granules : List (Nat × List Byte)
  /-- Writes to program data, in order: offset and bytes -/
  data : List (Nat × List Byte)
  requests : List Byte
  /-- Service requests the cycle made that have no row of their own -/
  calls : List SvcCall
  /-- Evaluations of timer instances, in order -/
  timers : List TimerEval
  /-- Evaluations of edge detector instances, in order -/
  edges : List EdgeEval
deriving DecidableEq, Repr

/-- A task (08 R247 to R260, R276). -/
structure Task where
  /-- Its entry in the active image, none where unconfigured — 08 R245; reset as the image has it -/
  cfg : Option TaskEntry
  /-- State — 08 R276; reset unused -/
  st : TaskSt
  /-- The running cycle has overrun — 08 R258; reset 0 -/
  overran : Bool
  /-- The running cycle is under debug control and does not publish — 08 R266; reset 0 -/
  debug : Bool
  /-- A cycle, a run to a breakpoint or a step has been asked for at the next release: 0 none, 1 cycle, 2 run, 3 step — 08 R266, 12
  R420; reset 0 -/
  wanted : Nat
  /-- The image has changed since the last cycle began: the next release runs the new code — 09 R279; reset 0 -/
  newCode : Bool
  /-- Consecutive overruns, u8 saturating — 08 R259; reset 0 -/
  consec : Nat
  /-- OVERRUN_LIMIT has been raised since the count was 0 — 08 R259; reset 0 -/
  limitRaised : Bool
  /-- Total overruns, u32 saturating — 08 R276; reset 0 -/
  overruns : Nat
  /-- Completed cycles, u32 saturating — 08 R276; reset 0 -/
  cycles : Nat
  /-- Last execution time, µs — 08 R276; reset 0 -/
  lastExec : Nat
  /-- Longest execution time, µs — 08 R276; reset 0 -/
  longExec : Nat
  /-- Retained bytes committed by the last cycle — 08 R276; reset 0 -/
  lastCommit : Nat
  /-- Last release round, u64 — 08 R276; reset 0 -/
  lastRound : Nat
  /-- Cycle sequence, u64 — 08 R252, 10 R323; reset 0 -/
  seq : Nat
  /-- REFOSC time of the release of the running cycle — 08 R276; reset 0 -/
  since : Nat
  /-- Snapshot of the running or last cycle — 08 R248; reset empty -/
  snap : Snapshot
  /-- Service results not yet delivered, oldest first, at most 16 — 08 R270; reset none -/
  results : List (List Byte)
  /-- Station-class output image this task published last — 08 R249; reset empty -/
  stationOut : List Byte
  /-- The cycle's code has ended, and it waits at its end for the commit of the cycle before — 08 R252; reset 0 -/
  ending : Bool
  /-- What a shadow cycle whose code has ended waits to hand over, until the holder's CYCLE_END — 10 R321; reset none -/
  parked : Option CycleOut
  /-- Shadow releases that wait for the holder's RELEASE and its images, oldest first: plant time, monotonic time, round — 10 R321; reset none -/
  held : List (Nat × Nat × Nat)
deriving DecidableEq, Repr

/-- A journal record of retained changes (08 R252). -/
structure JournalRec where
  task : Nat
  seq : Nat
  /-- Granules: offset and 64 data bytes -/
  granules : List (Nat × List Byte)
  /-- CRC-32C of its header -/
  crc : Nat
  /-- The commit word is written -/
  committed : Bool
  /-- A switch record: the new image id and the retained area it names (09 R283) -/
  switch : Option (Nat × Fin 2)
deriving DecidableEq, Repr

/-- A request in a service channel (01 R31). -/
structure SvcReq where
  task : Fin 8
  call : SvcCall
deriving DecidableEq, Repr

/-- A timer instance (08 R256; 09 R293). -/
structure Timer where
  /-- Instance, by path and type, as the mapping table numbers it -/
  inst : Nat
  task : Nat
  kind : TimerKind
  /-- Input at its last evaluation -/
  input : Bool
  /-- Monotonic time at which it started, none while it does not run -/
  start : Option Nat
  /-- Elapsed time at its last evaluation, ns -/
  elapsed : Nat
  /-- Preset, ns -/
  preset : Nat
  /-- Output at its last evaluation -/
  out : Bool
deriving DecidableEq, Repr

/-- An edge detector instance (08 R257; 09 R294). -/
structure Edge where
  inst : Nat
  task : Nat
  /-- Previous state of its input -/
  prev : Bool
  /-- Cycle sequence of its last first evaluation -/
  cycle : Nat
  /-- Rising and falling edge found then -/
  rose : Bool
  fell : Bool
deriving DecidableEq, Repr

/-- The program runtime (08). -/
structure Runtime where
  /-- Mode — 08 R263; reset STOP (08 R265: STOP in every case but those of the start) -/
  mode : Mode
  /-- Cause of the last mode change, 0 to 6 — 08 R273; reset 0 -/
  lastCause : Nat
  /-- Round at which the mode in force was entered, u64 — 08 R273; reset 0 -/
  modeRound : Nat
  /-- SET_MODE LAYBY that waits for the tasks' cycle ends — 08 R272; reset none -/
  laybyExec : Option Nat
  /-- Key position that counts — 08 R262; reset DESIGN CHOICE STOP (log 16) -/
  key : Key
  /-- REFOSC time since which the two keys differ, none — 08 R269; reset none -/
  keysDiffer : Option Nat
  /-- KEY_MISMATCH has been raised since then — 08 R269; reset 0 -/
  keyWarned : Bool
  /-- The runtime has started — 08 R253, R265; reset 0 -/
  started : Bool
  /-- Monotonic time at the start of the current round, ns, u64 — 08 R255; reset 0 -/
  mono : Nat
  /-- Tasks T0 to T7 — 08 R245; reset per field -/
  tasks : Vector Task 8
  /-- Commits of retained changes that wait, in the order the cycles ended — 08 R252; reset none -/
  commits : List JournalRec
  /-- DRAM copy of retained data — 08 R253; reset empty, loaded at start -/
  retained : Mem
  /-- A RETAIN_COMMIT_FAILED or a failed restore bars RUN until the next restore — 08 R264; reset 0 -/
  retainBad : Bool
  /-- The plan in force failed the round-plan check at start or at a cold start — 03 R105; reset 0 -/
  planBad : Bool
  /-- Newest published motion-class input image — 08 R250; reset empty -/
  motionIn : List Byte
  /-- Motion-class input images published before the newest, newest first, at most 4 — 10 R320; reset none -/
  motionInPast : List (List Byte)
  /-- Newest published motion-class output image — 08 R250; reset empty -/
  motionOut : List Byte
  /-- Motion-class output image published before the newest — 10 R319; reset empty -/
  motionPrev : List Byte
  /-- REFOSC time at which the newest motion-class output image was published — 03 R107; reset none -/
  motionAt : Option Nat
  /-- Generation of the motion-class output image, u64 — 03 R107, 10 R319; reset 0 -/
  setGen : Nat
  /-- Setpoint sets published before the newest, with their generations, newest first, at most 8 — 10 R320; reset none -/
  setPast : List (Nat × List Byte)
  /-- Newest published station-class input image — 08 R250; reset empty -/
  stationIn : List Byte
  /-- Station-class input images published before the newest, newest first, at most 4 — 10 R320; reset none -/
  stationInPast : List (List Byte)
  /-- PROGRAM_LOAD in progress — 08 R274; reset none -/
  load : Option BlockLoad
  /-- PROGRAM_ACTIVATE that executes — 08 R275; reset none -/
  activating : Option Nat
  /-- Keys of this module and its partner at their last comparison — 08 R269; reset 0, 0 -/
  keysSeen : Nat × Nat
  /-- Releases under new code that wait for its rule epoch: task, plant time, monotonic time — 12 R409; reset none -/
  heldReleases : List (Fin 8 × Nat × Nat)
  /-- Service requests in the service channels, oldest first — 01 R31, 08 R270; reset none -/
  channel : List SvcReq
  /-- Service requests with effects outside the module that a standby has counted and not executed, u32 — 08 R270; reset 0 -/
  notExecuted : Nat
  /-- Timer instances of the program — 08 R256, 09 R293; reset none -/
  timers : List Timer
  /-- Edge detector instances of the program — 08 R257, 09 R294; reset none -/
  edges : List Edge
  /-- Instances that the online change which brought the running program has made new — 09 R294; reset none -/
  fresh : List Nat
  /-- Program data area in DRAM — 08 R244, 09 R282; reset empty, set to the initial values at a start -/
  data : Mem
  /-- Two code areas in DRAM — 09 R281; reset empty -/
  code : Vector (List Byte) 2
  /-- Code area that holds the running code — 09 R281; reset DESIGN CHOICE 0 (log 16) -/
  codeUse : Fin 2
  /-- Scratch area of the conversion: what phase 1 has written, by data offset — 09 R289; reset empty -/
  scratch : List (Nat × List Byte)
deriving DecidableEq, Repr

/-- States of an online change (09 R284). -/
inductive ChgSt where
  | idle | loaded | preparing | armed
deriving DecidableEq, Repr

/-- A change package: its header, field by field, and its sections (09 R278). -/
structure Package where
  id : Nat
  base : Nat
  newId : Nat
  timeout : Nat
  /-- Tasks Plovcy marks affected -/
  marked : Nat
  strict : Bool
  image : Image
  /-- Engine blocks: axis and 768-byte parameter block -/
  engine : List (Nat × List Byte)
  /-- Learning configurations: axis and 64 bytes -/
  learn : List (Nat × List Byte)
  /-- Schedule images of N0 and N1 -/
  scheds : Vector (Option (List Byte)) 2
  check : Nat
deriving DecidableEq, Repr

/-- The online change (09 R284, R303). -/
structure Change where
  /-- State — 09 R284; reset IDLE, LOADED where a package is kept -/
  st : ChgSt
  /-- CHANGE_LOAD in progress — 09 R300; reset none -/
  load : Option BlockLoad
  /-- Last result: 0 none, 1 applied, 2 abandoned — 09 R303; reset 0 -/
  result : Nat
  /-- Last abandon cause, 0 to 7 — 09 R303; reset 0 -/
  cause : Nat
  /-- CHANGE_ARM that waits — 09 R301; reset none -/
  exec : Option Nat
  /-- REFOSC end of the change timeout, none where it does not run — 09 R287; reset none -/
  deadline : Option Nat
  /-- Not-before round — 09 R301; reset 0 -/
  notBefore : Nat
  /-- Next candidate round — 09 R286; reset none -/
  candidate : Option Nat
  /-- Candidates the partner has confirmed in time — 09 R286; reset none -/
  confirmed : List Nat
  /-- The waymark is fixed by a schedule — 09 R298; reset 0 -/
  fixed : Bool
  /-- Aborts that wait for the candidate — 09 R297; reset none -/
  aborts : List Nat
  /-- Step of preparation that has failed, as abandon cause and condition — 09 R285; reset none -/
  failed : Option (Nat × Nat)
  /-- Round at whose boundary a failed conversion was undone last — 09 R290; reset 0 -/
  undone : Nat
  /-- Waymark round, fixed or last applied, u64 — 09 R303; reset 0 -/
  waymark : Nat
  /-- Candidates missed, u32 — 09 R303; reset 0 -/
  missed : Nat
  /-- Clipped values of the last change, u32 — 09 R303; reset 0 -/
  clipped : Nat
  /-- Instances carried by the last change, u32 — 09 R303; reset 0 -/
  carried : Nat
  /-- Cycles cut by the last change, u16 — 09 R303; reset 0 -/
  cut : Nat
deriving DecidableEq, Repr

/-- Token states (10 R318). -/
inductive Token where
  | unclaimed | holder | handover | standby | standbyReady
deriving DecidableEq, Repr

/-- Kinds of lease record (10 R312). -/
inductive LeaseKind where
  | renew | release | handover | committed | claim
deriving DecidableEq, Repr

/-- A lease record (10 R312). -/
structure LeaseRec where
  epoch : Nat
  kind : LeaseKind
  position : Nat
  round : Nat
  mark : Nat
  key : Nat
  mode : Nat
  prio : Nat
deriving DecidableEq, Repr

/-- A lease answer (10 R312). -/
structure LeaseAns where
  epoch : Nat
  role : Nat
  position : Nat
  round : Nat
  inelig : Nat
  confirmed : Bool
  homeReclaim : Bool
  resync : Bool
  key : Nat
  mismatches : Nat
deriving DecidableEq, Repr

/-- What arrives on the lease path. -/
inductive LeaseMsg where
  | record (r : LeaseRec)
  | answer (a : LeaseAns)
deriving DecidableEq, Repr

/-- The path a lease message or a digest came on (10 R312, R324). -/
inductive PairPath where
  | pairLink
  | window
deriving DecidableEq, Repr

/-- A digest record (10 R324). -/
structure DigestRec where
  chain : Nat
  seq : Nat
  kind : Nat
  own : Bool
deriving DecidableEq, Repr

/-- The parts of a pair link message header that a receiver acts on (10 R308). -/
structure PlkHdr where
  /-- The CRC-32C over the header and the payload is right, as the receiving PLK has it -/
  crcOk : Bool
  /-- Payload bytes -/
  length : Fin 2049 := 0
  /-- Flag bit 0 -/
  ack : Bool
  /-- Flag bit 1 -/
  last : Bool
  seq : Nat
  round : Nat
deriving DecidableEq, Repr

/-- An operation applied to both modules of the pair (10 R309). -/
inductive PairOp where
  /-- A host command that acts on both modules, with its request. -/
  | command (code : Nat) (req : List Byte)
  /-- A mode change: target and cause (08 R267). -/
  | mode (target cause : Nat)
  /-- A time step: Δ in 2^-16 ns (13 R426). -/
  | timeStep (delta : Int)
  /-- A change of the time state of the holder (13 R426). -/
  | timeState (code : Nat)
  /-- The waymark of an online change (09 R295). -/
  | waymark
  /-- A candidate that the holder has missed (09 R286, R295). -/
  | missed
deriving DecidableEq, Repr

/-- A pair-applied operation that waits for its round or its confirmation. -/
structure PendOp where
  /-- Sequence of the APPLY message that carried it, none where none was sent -/
  seq : Option Nat
  /-- Round at whose boundary it takes effect -/
  round : Nat
  op : PairOp
  /-- The host command that caused it -/
  exec : Option Nat
  /-- Confirmed, or no confirmation needed -/
  confirmed : Bool
  /-- Response of the command where it ends with DONE -/
  resp : List Byte
  /-- The command ends at the round's boundary and not at the confirmation -/
  late : Bool
  /-- The partner applied it: the module is the standby -/
  fromPartner : Bool
deriving DecidableEq, Repr

/-- A task release as the holder forwards it (10 R309, R321). -/
structure RelMsg where
  task : Nat
  released : Bool
  time : Nat
  mono : Nat
  /-- Generations of the images in the snapshot -/
  gens : List Nat
deriving DecidableEq, Repr

/-- A cycle end as the holder forwards it (10 R309). -/
structure CycMsg where
  task : Nat
  seq : Nat
  published : Bool
deriving DecidableEq, Repr

/-- One item of the state a STATE_COPY message carries (10 R326, R336; 11 R372; 04 R575). -/
inductive CopyItem where
  /-- Program images and the change package -/
  | images (active loaded : Option Image) (package : Option Package)
  /-- Published images and the setpoint generation, with those published before them -/
  | publish (motionIn motionOut stationIn : List Byte) (setGen : Nat) (motionPast stationPast : List (List Byte)) (setPast : List (Nat × List Byte))
  /-- Retained area in use, its content, the DRAM copy, the journal and the commits that wait -/
  | retained (use : Fin 2) (area data : Mem) (journal commits : List JournalRec)
  /-- A parameter bank -/
  | bank (b : Fin 2) (x : Bank)
  | bankActive (b : Fin 2)
  /-- Stage state blocks, BAND and axis states -/
  | axes (l : List (Nat × Axis))
  /-- Learning of the axes -/
  | learning (l : List (Nat × Learn))
  | learnStored (cfg : List (Nat × LearnCfg)) (snaps : List (Nat × Vector (Option SnapSlot) 2))
  | windows (n : Fin 2) (l : List WinState)
  /-- Stored schedules, the one in force and a pending switch -/
  | schedules (n : Fin 2) (stored : List Schedule) (id : Nat) (pending : Option SchedSwitch)
  | task (t : Fin 8) (x : Task)
  /-- Timer and edge detector instances, with the instances that the last online change has made new -/
  | instances (timers : List Timer) (edges : List Edge) (fresh : List Nat)
  /-- Program data -/
  | program (data : Mem)
  | change (x : Change)
  | pend (l : List PendOp)
  /-- Service requests in flight -/
  | services (l : List SvcReq)
  | chains (l : List Nat)
  /-- Round period in force and as stored, media, host-sourced milestones and the home setting -/
  | config (period stored : Nat) (media : Vector Media 2) (milestones : List Milestone) (home settle : Nat)
  /-- Active safety parameter set, and the operator of the holder's last log entry -/
  | safety (set : List Byte) (operator : List Byte)
  /-- Safety password value, where one is set -/
  | password (x : Option (List Byte × List Byte))
  /-- Links of a network's ring map: the whole map of the holder, or the links of the module that sends them -/
  | ringMap (n : Fin 2) (whole : Bool) (l : List Neighbour)
  /-- A schedule asked for by its id, by a module that does not hold it -/
  | wantSchedule (n : Fin 2) (id : Nat)
  /-- A schedule, as asked for, or ahead of a switch -/
  | schedule (n : Fin 2) (image : List Byte)
  /-- Whether the items of eligibility bit 4 now equal the holder's -/
  | equal (b : Bool)
deriving DecidableEq, Repr

/-- Contents of pair link messages the module sends (10 R309). -/
inductive PlkBody where
  | none
  | lease (m : LeaseMsg)
  | digest (l : List DigestRec)
  | windows (l : List (Nat × Nat × List Byte))
  | roundInputs (setpoint : Nat) (states : List (Nat × Nat × Nat × Nat)) (feedback : List Nat) (field : List Byte) (groups : Nat)
  | release (r : RelMsg)
  | cycleEnd (c : CycMsg)
  | service (task : Nat) (data : List Byte)
  | apply (op : PairOp) (round : Nat)
  /-- Confirmation or refusal of the APPLY of a sequence -/
  | confirm (seq : Nat) (ok : Bool)
  /-- Confirmation or refusal of a waymark round -/
  | waymark (round : Nat) (ok : Bool)
  /-- End of a copy pass, and whether it was the final one -/
  | copyDone (final : Bool)
  /-- Whether the standby's verification of the copied pages passed -/
  | copied (ok : Bool)
  /-- Items of state (10 R326, R336; 04 R141, R575; 05 R175) -/
  | copy (items : List CopyItem)
  /-- A further 2,048 bytes of a content that is longer than one message, counted from 1 (10 R308) -/
  | part (k : Nat) (body : PlkBody)
deriving DecidableEq, Repr

/-- A message sent and not yet acknowledged (10 R308). -/
structure PlkAwait where
  type : Nat
  flags : Nat
  seq : Nat
  round : Nat
  body : PlkBody
  /-- Retransmissions so far -/
  tries : Nat
  /-- REFOSC time it was last sent -/
  since : Nat
deriving DecidableEq, Repr

/-- The pair link (10 R307 to R310). -/
structure Plk where
  /-- Link up — 10 R310; reset 0 -/
  up : Bool
  /-- Lanes in use, 0 to 2 — 10 R307, R340; reset 0 -/
  lanes : Nat
  /-- Sequence last sent per message type, u32 — 10 R308; reset 0 each -/
  tx : List (Nat × Nat)
  /-- Reliable messages received, as type and sequence, newest first, at most 256 — 10 R308; reset none -/
  rx : List (Nat × Nat)
  /-- Reliable messages awaiting acknowledgement — 10 R308; reset none -/
  awaiting : List PlkAwait
  /-- Messages discarded for a wrong CRC, u32 — 10 R308; reset 0 -/
  crcErrors : Nat
  /-- REFOSC time of the last message sent — 10 R308; reset 0 -/
  lastTx : Nat
  /-- REFOSC time of the last valid message received — 10 R310; reset 0 -/
  lastRx : Nat
deriving DecidableEq, Repr

/-- What is known of the partner (10 R306, R312, R340). -/
structure Partner where
  /-- Present — 10 R306; reset 0 -/
  present : Bool
  /-- Round of the last lease traffic in the management window, none — 10 R306; reset none -/
  heard : Option Nat
  /-- Position, 0 to 2 — 10 R312; reset 0 -/
  position : Nat
  /-- Key, as GET_STATUS codes it — 10 R312; reset DESIGN CHOICE 0 (log 9) -/
  key : Nat
  /-- Pair mode of its last lease record, as R312 codes it — 10 R312, 08 R268; reset 0 -/
  mode : Nat
  /-- Role of its last lease answer: 2 STANDBY, 3 STANDBY_READY, 0 none — 10 R312; reset 0 -/
  role : Nat
  /-- Ineligibility of its last lease answer — 10 R340; reset 0xFFFF -/
  inelig : Nat
  /-- Pair compatibility level, 0 unknown — 10 R336, R340; reset 0 -/
  level : Nat
  /-- The split settings of the two modules are equal — 10 R336; reset 0 -/
  split : Bool
  /-- The items of eligibility bit 4 are known to equal the holder's — 10 R328, R336; reset 0 -/
  equalItems : Bool
  /-- The last transfer of those items failed — 10 R336, 19 R562; reset 0 -/
  failed : Bool
deriving DecidableEq, Repr

/-- Who asked for a planned crossover (10 R331, R333). -/
inductive HandBy where
  | command (id : Nat)
  | homeReclaim
  /-- The end of a confirm window (18 R544) -/
  | expiry
deriving DecidableEq, Repr

/-- A planned crossover asked for on the holder (10 R331, R332). -/
structure Handover where
  by_ : HandBy
  notBefore : Nat
  /-- REFOSC time at which the wait limit runs out -/
  waitEnd : Nat
  /-- Handover round, none while the request waits -/
  round : Option Nat
  confirmed : Bool
  committed : Bool
deriving DecidableEq, Repr

/-- Resync (10 R326, R327). -/
structure Resync where
  /-- A resync is requested — 10 R326; reset 0 -/
  requested : Bool
  /-- A resync is running — 10 R327; reset 0 -/
  running : Bool
  /-- Cause, 1 to 4 — 10 R343; reset 0 -/
  cause : Nat
  /-- REFOSC time of its start — 10 R327; reset 0 -/
  start : Nat
  /-- Copy passes so far — 10 R343; reset 0 -/
  passes : Nat
  /-- Pages recorded in the last pass — 10 R327, R343; reset 0 -/
  pages : Nat
  /-- The last pass's pages have come; the final pass is due at a sync boundary — 10 R327; reset 0 -/
  finalDue : Bool
  /-- PAIR_RESYNC command that waits — 10 R342; reset none -/
  exec : Option Nat
  /-- What has been copied, as it stood then: what differs since is what the page records name — 10 R327; reset none -/
  sent : List CopyItem
deriving DecidableEq, Repr

/-- Pair redundancy (10). -/
structure Pair where
  /-- Position 0, 1 or 2 — 10 R305; reset 0, read at start -/
  position : Nat
  /-- Token state — 10 R318; reset UNCLAIMED -/
  token : Token
  /-- Current lease epoch, u16 — 10 R311; reset 0 -/
  epoch : Nat
  /-- Lease timer as the REFOSC time at which it reaches zero — 10 R313, R314; reset 0 -/
  leaseEnd : Nat
  /-- LEASE_PULSE driven — 10 R313; reset 0 -/
  pulse : Bool
  /-- The partner — 10 R306; reset per field -/
  partner : Partner
  /-- Pair link — 10 R307; reset per field -/
  plk : Plk
  /-- Reference moment of the claim wait, REFOSC — 10 R317; reset 0 -/
  claimRef : Nat
  /-- A lease record other than CLAIM has arrived since the reference moment — 10 R317; reset 0 -/
  recordSeen : Bool
  /-- Highest priority of CLAIM records from the partner since the reference moment — 10 R317; reset none -/
  partnerClaim : Option Nat
  /-- CLAIM records have been sent since the reference moment — 10 R317; reset 0 -/
  claimSent : Bool
  /-- Claim inhibited until module reset by a fault in UNCLAIMED — 10 R318; reset 0 -/
  claimInhibit : Bool
  /-- Planned crossover on the holder — 10 R331; reset none -/
  hand : Option Handover
  /-- Handover round the standby confirms — 10 R331; reset none -/
  offered : Option Nat
  /-- Committed handover round on the standby — 10 R331; reset none -/
  committed : Option Nat
  /-- The take-over due at a boundary: cause, and the first round it may open — 10 R314, R318; reset none -/
  takeAt : Option (Nat × Nat)
  /-- Round of the last renewal received (for the gap) — 10 R314, R329; reset 0 -/
  lastRenewal : Nat
  /-- Round of the last command frame copy received from the partner (for the gap) — 10 R314, R329; reset 0 -/
  lastCommand : Nat
  /-- Round of the last renewal this module sent as holder — 10 R312; reset none -/
  renewed : Option Nat
  /-- Mark round of a RELEASE record that the next management window still carries — 10 R318; reset none -/
  releasing : Option Nat
  /-- REFOSC time before which the holder begins no home reclaim — 10 R333; reset 0 -/
  reclaimAfter : Nat
  /-- Resync — 10 R326; reset per field -/
  resync : Resync
  /-- A resync has completed since the module became standby — 10 R328 bit 0; reset 0 -/
  synced : Bool
  /-- A digest mismatch since that resync — 10 R328 bit 1; reset 0 -/
  mismatch : Bool
  /-- A shadow lag since the last resync — 10 R328 bit 9; reset 0 -/
  lag : Bool
  /-- Self-test passed — 10 R328 bit 8; reset 0 -/
  selfTest : Bool
  /-- Records compared in the window since the pair link went down have matched — 10 R328 bit 10; reset 1 -/
  windowMatch : Bool
  /-- A fault recorded as standby — 10 R318; reset 0 -/
  faultSeen : Bool
  /-- Digest chain values: engine, then tasks 0 to 7, u64 — 10 R323; reset 0 -/
  chains : Vector Nat 9
  /-- Last 16 own records per chain, newest first — 10 R324; reset empty -/
  history : Vector (List DigestRec) 9
  /-- Digest mismatches since the last resync, u16 saturating — 10 R312; reset 0 -/
  mismatchRun : Nat
  /-- Forwarded-set messages of the round: windows, as network, window index and content — 10 R319; reset none -/
  fwdWindows : List (Nat × Nat × List Byte)
  /-- Forwarded window states of the round, as network, window index, state code and age — 10 R319; reset none -/
  fwdStates : List (Nat × Nat × Nat × Nat)
  /-- The last ROUND_INPUTS message of the round has arrived — 10 R319; reset 0 -/
  fwdDone : Bool
  /-- The round was computed on own inputs — 10 R319, R340; reset 0 -/
  ownRound : Bool
  /-- It is settled on whose inputs the round is computed — 10 R319; reset 0 -/
  sourceKnown : Bool
  /-- Setpoint generation the holder used — 10 R319; reset 0 -/
  fwdSetpoint : Nat
  /-- LEARN_SNAPSHOT commands whose partner has not reported its slots: sequence of the APPLY, and command — 07 R242; reset none -/
  snapWait : List (Nat × Nat)
  /-- Release decisions received and not yet used — 10 R321; reset none -/
  releases : List RelMsg
  /-- Cycle-end decisions received and not yet used — 10 R321; reset none -/
  cycles : List CycMsg
  /-- Service results received and not yet used: task and bytes, oldest first — 10 R321; reset none -/
  services : List (Nat × List Byte)
  /-- Results of services in the call, received and not yet used: task and bytes, oldest first — 10 R309, R320; reset none -/
  reads : List (Nat × List Byte)
  /-- Pair-applied operations that wait — 10 R309; reset none -/
  pend : List PendOp
  /-- Start of the home module's settle time, REFOSC, none while it does not run — 10 R333; reset none -/
  settleFrom : Option Nat
  /-- Flag bit 1 of the lease answer: home reclaim requested — 10 R333; reset 0 -/
  reclaim : Bool
  /-- Insertion step, 0 before the first — 10 R335; reset 0 -/
  step : Nat
  /-- REFOSC start of the insertion step — 10 R335; reset 0 -/
  stepFrom : Nat
  /-- REFOSC time from which pair-link training (step 5) counts, none where it has ended — 10 R335; reset none -/
  training : Option Nat
  /-- Mask bits of insertion steps that exceeded their maximum — 10 R335; reset 0 -/
  stepFailed : Nat
  /-- Resyncs, u32 saturating — 10 R340; reset 0 -/
  resyncs : Nat
  /-- Digest mismatches, u32 saturating — 10 R340; reset 0 -/
  mismatches : Nat
  /-- Own-input rounds, u32 saturating — 10 R340; reset 0 -/
  ownRounds : Nat
  /-- Duration of the last resync, ms — 10 R340; reset 0 -/
  lastResyncMs : Nat
  /-- Crossovers, u32 saturating — 10 R340; reset 0 -/
  crossovers : Nat
  /-- Renewals that reached a holder and were ignored: of an older epoch, or of its own from a holder of lower priority, u32
  saturating — 10 R318; reset 0 -/
  ignored : Nat
  /-- Uncompared digest records, u32 saturating — 10 R340; reset 0 -/
  uncompared : Nat
  /-- Last crossover round, u64 — 10 R340; reset 0 -/
  lastCrossRound : Nat
  /-- Last crossover kind, 0 to 4 — 10 R340; reset 0 -/
  lastCrossKind : Nat
  /-- Last gap in rounds — 10 R340; reset 0 -/
  lastGap : Nat
deriving DecidableEq, Repr

/-- What one safety channel keeps of one axis (11 R347 to R352). -/
structure ChAxis where
  /-- Rounds and positions of accepted containers, newest first, as far back as W plus the loss limit — 11 R350; reset empty -/
  hist : List (Nat × Int)
  /-- Sequence and round of the last accepted container, none after a start or a safe stop reset — 11 R349; reset none -/
  last : Option (Nat × Nat)
  /-- Consecutive rounds without an accepted container — 11 R352; reset 0 -/
  miss : Nat
  /-- Result byte of its record — 11 R347; reset 0 -/
  result : Nat
  /-- Windowed difference, before its record saturates it — 11 R350; reset 0 -/
  delta : Int
  /-- Its distance d in rounds — 11 R350; reset 0 -/
  dist : Nat
  /-- Limit violation of the round: 0 none, 1 SLS, 2 SLP, 3 SDI, 4 encoder fault — 11 R352, R383; reset 0 -/
  fail : Nat
  /-- Consecutive disagreeing rounds — 11 R352; reset 0 -/
  disagree : Nat
deriving DecidableEq, Repr

/-- One safety channel: 0 the processor channel, 1 the SML (11 R344). -/
structure Channel where
  /-- Monitored axes computed; an unlisted axis is at its reset — 11 R350; reset none -/
  axes : List (Nat × ChAxis)
  /-- Permit bytes of the last check point, by axis; an axis beyond the list has 0x00 — 11 R355; reset none -/
  permits : List Nat
  /-- Lease epoch and round of those permits' CRCs — 11 R355; reset 0 -/
  permitFor : Nat × Nat
  /-- Latched groups, 16 bits — 11 R352; reset 0 -/
  latched : BitVec 16
  /-- Cause and round since which the channel is unavailable for every axis — 11 R357; reset none -/
  lost : Option (Nat × Nat)
  /-- Containers accepted this round, per network — 11 R357; reset 0 -/
  seen : Vector Bool 2
  /-- Own switches closed, 8 bits: low side or high side — 11 R361; reset 0 -/
  closed : BitVec 8
  /-- Its records in the exchange buffer, by axis: result byte and Δ_W; an axis beyond the list has zeros — 11 R346, R347; reset none -/
  records : List (Nat × Int)
  /-- Its self-test has passed — 11 R359; reset 0 -/
  tested : Bool
deriving DecidableEq, Repr

/-- A window the SML has selected in the round (11 R570). -/
structure SmlSel where
  /-- Index of the window -/
  window : Nat
  /-- Tick on which its copy ended -/
  tick : Nat
  /-- Port it came in on: 0 port 2, 1 port 3 -/
  port : Fin 2
  content : List Byte
deriving DecidableEq, Repr

/-- The SML's own receive and load side (11 R345, R346, R570). -/
structure Sml where
  /-- Own round count, none before the first accepted copy — 11 R570; reset none -/
  round : Option Nat
  /-- A strobe fault in the round — 11 R345; reset 0 -/
  strobe : Bool
  /-- First copy selected per network and window of the round — 11 R570; reset none -/
  sel : Vector (List SmlSel) 2
  /-- Exchange buffer: load page number and load data, processor's — 11 R346; reset 0 -/
  page : Nat
  data : List Byte
  /-- Exchange buffer: acknowledged page number — 11 R346; reset 0 -/
  ack : Nat
  /-- Bytes of the object received so far — 11 R346; reset none -/
  object : List Byte
  /-- CRC the SML computed of the last set it received, u32 — 11 R346, R380; reset 0 -/
  crc : Nat
  /-- Axis maps loaded: network, schedule id and the CRC it computed — 11 R346; reset none -/
  held : List (Nat × Nat × Nat)
  /-- Schedule id whose axis map it uses, per network — 11 R346; reset 0 -/
  maps : Vector Nat 2
  /-- Its self-test failed, until module reset — 11 R357 cause 4; reset 0 -/
  failed : Bool
  /-- Told over the dedicated line of an SVP fault: every high side open — 12 R385, R405; reset 0 -/
  svpFault : Bool
deriving DecidableEq, Repr

/-- Detour (11 R357 to R359, R379). -/
structure Detour where
  /-- Axes in detour: axis, unavailable channel, consecutive agreeing rounds — 11 R357, R359; reset none -/
  axes : List (Nat × Fin 2 × Nat)
  /-- Axes for which both channels are unavailable — 11 R358; reset none -/
  both : List Nat
  /-- Entry round, none outside detour — 11 R358, R379; reset none -/
  entry : Option Nat
  /-- REFOSC time of the entry — 11 R358; reset 0 -/
  entryAt : Nat
  /-- REFOSC end of the detour timer — 11 R358; reset 0 -/
  endAt : Nat
  /-- Cause, 0 to 7 — 11 R379; reset 0 -/
  cause : Nat
  /-- Unavailable channel, 0 none, 1, 2 — 11 R379; reset 0 -/
  chan : Nat
  /-- The timer has ended — 11 R358, R379; reset 0 -/
  expired : Bool
  /-- Detours since reset, u32 — 11 R379; reset 0 -/
  count : Nat
deriving DecidableEq, Repr

/-- A test pulse that runs (11 R363). -/
structure Pulse where
  out : Fin 8
  dark : Bool
  /-- 0 low side, 1 high side -/
  side : Fin 2
  /-- REFOSC time of its start -/
  start : Nat
  /-- SAFE_STOP_RESET that asked for it -/
  exec : Option Nat
deriving DecidableEq, Repr

/-- A safety session (11 R369). -/
structure SafeSess where
  /-- Operator identifier, 16 bytes -/
  operator : List Byte
  /-- REFOSC time of the last command that needed it -/
  last : Nat
  /-- Opened while no password is set -/
  first : Bool
deriving DecidableEq, Repr

/-- A change log entry (11 R371). -/
structure SafeLogEntry where
  seq : Nat
  kind : Nat
  port : Nat
  /-- Plant time, 2^-16 ns -/
  time : Nat
  crcBefore : Nat
  crcAfter : Nat
  verBefore : Nat
  verAfter : Nat
  operator : List Byte
deriving DecidableEq, Repr

/-- The safety functions (11). -/
structure Safety where
  /-- Processor channel and SML channel — 11 R344; reset per field -/
  ch : Vector Channel 2
  /-- SML receive and load side — 11 R345, R346, R570; reset per field -/
  sml : Sml
  /-- Per network: rounds channel B has been silent while the processor accepts — 11 R357 cause 5; reset 0 -/
  silentB : Vector Nat 2
  /-- Per network: round since which the SML is unavailable by cause 5 — 11 R357; reset none -/
  lostB : Vector (Option Nat) 2
  /-- Latching round of each group — 11 R353; reset 0 -/
  since : Vector Nat 16
  /-- Group mask received with ROUND_INPUTS — 11 R353; reset 0 -/
  partnerMask : BitVec 16
  /-- Detour — 11 R357; reset per field -/
  det : Detour
  /-- Latched output faults, 8 bits — 11 R363; reset 0 -/
  faults : BitVec 8
  /-- Test pulse that runs — 11 R363; reset none -/
  pulse : Option Pulse
  /-- REFOSC time of the last pulse's start — 11 R363; reset none -/
  lastPulse : Option Nat
  /-- REFOSC time at which each output's test interval began — 11 R363; reset 0 -/
  testFrom : Vector Nat 8
  /-- Side each output's next test opens or closes — 11 R363; reset low side -/
  nextSide : Vector (Fin 2) 8
  /-- Terminals as read last: P and M show their own switch closed, 8 bits each — 11 R363; reset 0 -/
  readP : BitVec 8
  readM : BitVec 8
  /-- Outputs opened for the activation round — 11 R370; reset 0 -/
  forced : BitVec 8
  /-- Round before which the outputs stay open after a crossover — 11 R364; reset 0 -/
  outputsFrom : Nat
  /-- REFOSC time at which the old holder opens its outputs — 11 R364, 15 R482; reset none -/
  offAt : Option Nat
  /-- Light tests still to run for SAFE_STOP_RESET: output and side — 11 R363, R382; reset none -/
  resetTests : List (Fin 8 × Fin 2)
  /-- Disagreeing axis-rounds since reset, u32 — 11 R380; reset 0 -/
  disagreements : Nat
  /-- Round of the last disagreement — 11 R372; reset none -/
  lastDisagree : Option Nat
  /-- Safety sessions of the four ports — 11 R369; reset none -/
  sess : Vector (Option SafeSess) 4
  /-- Consecutive failed logins — 11 R368; reset 0 -/
  fails : Nat
  /-- REFOSC end of the login lock — 11 R368; reset none -/
  lockUntil : Option Nat
  /-- SAFETY_LOAD in progress — 11 R376; reset none -/
  load : Option BlockLoad
  /-- SAFETY_ACTIVATE that runs: its command and activation round — 11 R370; reset none -/
  activating : Option (Nat × Nat)
deriving DecidableEq, Repr

/-- States of a lockstep pair (12 R416). -/
inductive LsSt where
  | lockstep | split | suspended | halted
deriving DecidableEq, Repr

/-- A lockstep pair: 0 AP0, 1 AP1, 2 the SVP (12 R384). -/
structure LsPair where
  /-- State — 12 R416; reset LOCKSTEP, SPLIT where the boot configuration says so -/
  st : LsSt
  /-- Suspended through the debug port — 12 R389; reset 0 -/
  byPort : Bool
  /-- Suspended by a breakpoint or a step — 12 R389; reset 0 -/
  byTask : Bool
  /-- Round in which the suspension began — 12 R421; reset 0 -/
  since : Nat
  /-- REFOSC time at which the suspension ended, none — 12 R390; reset none -/
  endedAt : Option Nat
  /-- No restore point came within 1 s: suspended until module reset — 12 R390; reset 0 -/
  stuck : Bool
deriving DecidableEq, Repr

/-- A debug session (12 R388, R415). -/
structure DebugSess where
  port : Fin 4
  /-- Bit 0 AP0, bit 1 AP1, bit 2 boundary scan -/
  scope : Nat
  /-- REFOSC time of its expiry -/
  endAt : Nat
deriving DecidableEq, Repr

/-- A debug session that opens, or ends, once its rule epoch is complete (12 R388, R409). -/
structure SessWait where
  epoch : Nat
  /-- The session that opens, none where the open one ends -/
  sess : Option DebugSess
  /-- Duration in min where one opens; else the cause of the end -/
  arg : Nat
  /-- Port that asked, 0xFF where none did -/
  by_ : Nat
  /-- The command that waits -/
  exec : Option Nat
deriving DecidableEq, Repr

/-- What the memory code makes of a word that is read (12 R393, R397). -/
inductive CodeResult where
  | clean
  | corrected (double : Bool)
  /-- Uncorrectable, of class data -/
  | data
  /-- Uncorrectable, of class ADDRESS -/
  | address
deriving DecidableEq, Repr, Inhabited

/-- Counters of one memory area (12 R414). -/
structure MemArea where
  single : Nat
  double : Nat
  uncorrectable : Nat
  lastAddr : Nat
deriving DecidableEq, Repr

/-- A region descriptor (12 R400). -/
structure Region where
  base : Nat
  sizeCode : Nat
  enabled : Bool
  perms : Nat
deriving DecidableEq, Repr

/-- An entry of the ASV log (12 R412). -/
structure AsvEntry where
  seq : Nat
  master : Fin 16
  level : Nat
  kind : Nat
  cause : Nat
  addr : Nat
  len : Nat
  st : Nat
  epoch : Nat
  /-- Plant time, 2^-16 ns -/
  time : Nat
deriving DecidableEq, Repr

/-- Lockstep, memory code, access control and debugging (12). -/
structure Integrity where
  /-- Lockstep pairs AP0, AP1 and SVP — 12 R384; reset per field -/
  pairs : Vector LsPair 3
  /-- Suspensions since reset, u32 — 12 R416; reset 0 -/
  suspensions : Nat
  /-- Restores since reset, u32 — 12 R416; reset 0 -/
  restores : Nat
  /-- Debug session — 12 R388; reset none -/
  sess : Option DebugSess
  /-- Breakpoints per core: code offsets, at most 16 — 12 R418; reset none -/
  breaks : Vector (List Nat) 4
  /-- Cores halted through the debug port, 4 bits — 12 R388, R389; reset 0 -/
  portHalts : BitVec 4
  /-- Breakpoints set through the debug port per core: addresses — 12 R388, R389; reset none -/
  portBreaks : Vector (List Nat) 4
  /-- TEST state — 12 R391; reset 0 -/
  test : Bool
  /-- Memory areas 0 to 12 — 12 R395, R414; reset 0 -/
  areas : Vector MemArea 13
  /-- REFOSC times of the corrected errors of each DRAM device within 24 h — 12 R395; reset none -/
  device : Vector (List Nat) 5
  /-- Words that are uncorrectable and not yet overwritten, but in MRAM: area code, axis where the region has one, address — 12 R397;
  reset none -/
  poisoned : List (Nat × Nat × Nat)
  /-- DRAM scrub passes completed, u32 — 12 R414; reset 0 -/
  scrubs : Nat
  /-- DRAM scrub position, lines of 64 bytes — 12 R396, R414; reset 0 -/
  scrubAt : Nat
  /-- Frozen masters, 16 bits — 12 R403; reset 0 -/
  frozen : BitVec 16
  /-- ASV log, at most 16, oldest first — 12 R403; reset empty -/
  asv : List AsvEntry
  /-- Violations since reset, u32 — 12 R412; reset 0 -/
  violations : Nat
  /-- Rule epoch in force, u32 — 12 R407; reset 0 -/
  epoch : Nat
  /-- Newest complete epoch, u32 — 12 R408; reset 0 -/
  complete : Nat
  /-- Commits since reset, u32 — 12 R413; reset 0 -/
  commits : Nat
  /-- Late epochs since reset, u32 — 12 R413; reset 0 -/
  lateEpochs : Nat
  /-- Commits not yet complete: epoch, REFOSC time, reported late — 12 R408; reset none -/
  waiting : List (Nat × Nat × Bool)
  /-- Region descriptors of the 16 masters in force; an absent descriptor is disabled — 12 R400; reset none -/
  regions : Vector (List Region) 16
  /-- Code and data must be set anew before the next RUN — 12 R398; reset 0 -/
  reload : Bool
  /-- Debug sessions that open or end once their rule epoch is complete, oldest first — 12 R409; reset none -/
  sessWaits : List SessWait
  /-- Rule epoch of the code in use, whose completion the first release under it waits for — 12 R409; reset none -/
  codeEpoch : Option Nat
deriving DecidableEq, Repr

/-- Time states (13 R426). -/
inductive TimeSt where
  | freeRunning | locked | holdover | stepPending
deriving DecidableEq, Repr

/-- The PTP configuration (13 R442). -/
structure PtpCfg where
  mask : Nat
  kind : Nat
  profile : Nat
  transport : Nat
  flags : Nat
  domain : Nat
  prio1 : Nat
  prio2 : Nat
  logSync : Int
  logAnnounce : Int
  logDelay : Int
  threshold : Nat
deriving DecidableEq, Repr

/-- One PTP port (13 R430, R443). -/
structure PtpPort where
  /-- IEEE 1588-2019 portState value, 0 with PTP off — 13 R443; reset 0 -/
  st : Nat
  /-- Sequence of the next message of each kind it sends: Announce, Sync, Delay_Req, Pdelay_Req, u16 — 13 R430; reset 0 -/
  seq : Vector Nat 4
deriving DecidableEq, Repr

/-- Plant time (13 R422 to R429). -/
structure PlantTime where
  /-- Time state — 13 R426; reset FREE_RUNNING -/
  st : TimeSt
  /-- PTP ports 0 and 1 — 13 R443; reset per field -/
  ports : Vector PtpPort 2
  /-- Last offset measured, ns — 13 R443; reset 0 -/
  last : Int
  /-- Last three offsets less the residual, newest first, in 2^-16 ns — 13 R424; reset empty -/
  recent : List Int
  /-- Mean path delay, ns, u32 — 13 R443; reset 0 -/
  delay : Nat
  /-- Grandmaster identity, u64 — 13 R443; reset 0 -/
  gm : Nat
  /-- Refusal sequence last given, u32 — 13 R426; reset 0 -/
  refSeq : Nat
  /-- Outstanding refusal, 0 none — 13 R443; reset 0 -/
  refusal : Nat
  /-- Newest recorded offset of a refusal or a step, ns — 13 R443; reset 0 -/
  offset : Int
  /-- Step boundary, none — 13 R443; reset none -/
  stepAt : Option Nat
  /-- TIME_ACCEPT_STEP that waits — 13 R441; reset none -/
  exec : Option Nat
  /-- Holdover start, plant seconds, 0 none — 13 R443; reset 0 -/
  holdFrom : Nat
  /-- REFOSC time of the holdover start, none — 13 R427; reset none -/
  holdAt : Option Nat
  /-- Steps applied since reset, u32 — 13 R443; reset 0 -/
  steps : Nat
  /-- Refusals since reset, u32 — 13 R443; reset 0 -/
  refusals : Nat
deriving DecidableEq, Repr

/-- Configuration of a plant Ethernet port (13 R444). -/
structure EthCfg where
  speed : Nat
  enabled : Bool
  /-- Pair IPv4 address, 32 bits -/
  ip : Nat
  /-- Weights of queues 0 to 6 -/
  weights : List Nat
deriving DecidableEq, Repr

/-- What a queued frame is (13 R431, R434, R437, R438). -/
inductive EthPayload where
  /-- A peer channel frame: channel, sequence, flags, round, data. -/
  | peer (chan seq flags round : Nat) (data : List Byte)
  /-- An ARP answer for the pair address to a sender's address. -/
  | arpReply (ip : Nat) (mac : Nat)
  /-- The gratuitous ARP of a new holder. -/
  | arpGratuitous (ip : Nat)
  /-- The answer to an ICMP echo: the sender's address and the echoed data. -/
  | echoReply (ip : Nat) (data : List Byte)
  /-- A PTP message by its IEEE 1588 messageType and sequence. -/
  | ptp (messageType seq : Nat)
deriving DecidableEq, Repr

/-- A frame in a transmit queue (13 R435, R436). -/
structure EthFrame where
  /-- Queue 0 to 7 -/
  queue : Nat
  /-- Launch time, plant time in 2^-16 ns, none for a frame sent when its turn comes -/
  launch : Option Nat
  payload : EthPayload
  /-- VLAN id of its tag, 0 untagged — 13 R438 -/
  vlan : Nat := 0
deriving DecidableEq, Repr

/-- An entry of the transmit timestamp queue (13 R433). -/
structure TsEntry where
  id : Nat
  correction : Nat
  /-- Corrected plant time, 2^-16 ns -/
  time : Nat
deriving DecidableEq, Repr

/-- A plant Ethernet port (13 R434 to R436, R445). -/
structure EthPort where
  /-- Link up — 13 R445; reset 0 -/
  link : Bool
  /-- Speed code of the link — 13 R445; reset 0 -/
  speed : Nat
  /-- Frames in the transmit queues, oldest first, at most 64 with the frame on the wire — 13 R435; reset empty -/
  queue : List EthFrame
  /-- Frame on the wire — 13 R435; reset none -/
  sending : Option EthFrame
  /-- Round-robin credit left of queues 0 to 6 — 13 R435; reset 0 -/
  credit : List Nat
  /-- Transmit timestamps, at most 16, oldest first — 13 R433; reset empty -/
  ts : List TsEntry
  /-- Overflow flag of the timestamp queue — 13 R433; reset 0 -/
  tsOver : Bool
  /-- Timestamps dropped since the flag was last cleared — 13 R433; reset 0 -/
  tsDropped : Nat
  /-- The eleven counters of ETH_STATUS, u32 saturating — 13 R445; reset 0 -/
  count : Vector Nat 11
  /-- Own port MAC address, 48 bits — 13 R437; reset DESIGN CHOICE 02-52-43-38-01-0n (log 23) -/
  mac : Nat
deriving DecidableEq, Repr

/-- A peer channel record (13 R438). -/
structure PeerCfg where
  port : Nat
  flags : Nat
  pcp : Nat
  vlan : Nat
  udp : Nat
  mac : Nat
  len : Nat
  ip : Nat
  filter : Nat
  delay : Nat
  loss : Nat
deriving DecidableEq, Repr

/-- A peer channel (13 R438, R439, R446). -/
structure Peer where
  /-- State: 0 off, 1 VALID, 2 LOST — 13 R446; reset 0 -/
  st : Nat
  /-- Data published last — 13 R439; reset DESIGN CHOICE zeros (log 23) -/
  tx : List Byte
  /-- Published since the previous launch — 13 R439; reset 0 -/
  fresh : Bool
  /-- Last sequence sent, u32 — 13 R446; reset 0 -/
  sent : Nat
  /-- Receive buffer: data of the newest accepted frame — 13 R439; reset empty -/
  rx : List Byte
  /-- Last sequence accepted, none before the first — 13 R439, R446; reset none -/
  rxSeq : Option Nat
  /-- Corrected receive time, 2^-16 ns — 13 R439; reset 0 -/
  rxTime : Nat
  /-- Round of the newest accepted frame, or of the configuration — 13 R439; reset 0 -/
  rxRound : Nat
  /-- Round in which it became LOST — 13 R447; reset 0 -/
  lostAt : Nat
  /-- LATE frames, u32 saturating — 13 R446; reset 0 -/
  late : Nat
deriving DecidableEq, Repr

/-- Transmit object statuses (14 R455). -/
inductive TxSt where
  | empty | pending | selected | sent | failed | cancelled | held
deriving DecidableEq, Repr

/-- A transmit object: its frame and status (14 R455, R470). -/
structure TxObj where
  st : TxSt
  ext : Bool
  fd : Bool
  brs : Bool
  oneShot : Bool
  dlc : Nat
  id : Nat
  /-- 64 bytes -/
  data : List Byte
deriving DecidableEq, Repr

/-- A receive object's contents (14 R451). -/
structure RxObj where
  ext : Bool
  id : Nat
  dlc : Nat
  /-- Bit 0 FDF, bit 1 BRS, bit 2 ESI, bit 3 RTR -/
  flags : Nat
  isNew : Bool
  lost : Bool
  generation : Nat
  /-- Plant time of the start of frame, 2^-16 ns -/
  time : Nat
  overwrites : Nat
  data : List Byte
deriving DecidableEq, Repr

/-- A receive object's configuration: number, enabled, and the extended identifier that claims it (14 R450,
R468). -/
structure RxCfg where
  obj : Nat
  enabled : Bool
  ext : Option Nat
deriving DecidableEq, Repr

/-- Error states of a CAN port (14 R460, R473). -/
inductive CanErr where
  | active | passive | busOff | recovering
deriving DecidableEq, Repr

/-- A CAN port's configuration (14 R467). -/
structure CanCfg where
  flags : Nat
  /-- Bit timing: request bytes +2 to +11 -/
  timing : List Byte
  /-- Reference identifier, 32 bits, 0 for none -/
  ref : Nat
  repeats : Nat
deriving DecidableEq, Repr

/-- A CAN port (14). -/
structure CanPort where
  /-- Error state — 14 R460; reset error active -/
  err : CanErr
  /-- Receive error counter — 14 R460; reset 0 -/
  rec_ : Nat
  /-- Transmit error counter — 14 R460; reset 0 -/
  tec : Nat
  /-- Transmit objects 0 to 63 — 14 R455; reset EMPTY -/
  tx : Vector TxObj 64
  /-- Stop object — 14 R464; reset EMPTY -/
  stop : TxObj
  /-- Repeats of the stop frame still to become PENDING — 14 R465; reset 0 -/
  stopLeft : Nat
  /-- A CAN_STOP accepted while the stop frame is on the bus: its frame and repeats — 14 R465; reset none -/
  stopNext : Option (List Byte × Nat)
  /-- Reference object — 14 R461; reset EMPTY -/
  ref : TxObj
  /-- Sequence the reference object carries — 14 R461; reset 0 -/
  refNow : Nat
  /-- Reference message that replaces the present one once its attempt ends — 14 R461; reset none -/
  refNext : Option Nat
  /-- Receive objects with contents, by number; an unlisted object is empty — 14 R451; reset none -/
  rx : List (Nat × RxObj)
  /-- REFOSC time of the entry to bus-off — 14 R476; reset 0 -/
  offAt : Nat
  /-- Recovery was started by CAN_RECOVER — 14 R476; reset 0 -/
  byCommand : Bool
  /-- Bus-offs, u32 saturating — 14 R473; reset 0 -/
  busOffs : Nat
  /-- Frames received, u32 saturating — 14 R473; reset 0 -/
  received : Nat
  /-- Frames discarded without an object, u32 saturating — 14 R473; reset 0 -/
  discarded : Nat
  /-- Overwrites, u32 saturating — 14 R473; reset 0 -/
  overwrites : Nat
  /-- Frames sent, u32 saturating — 14 R473; reset 0 -/
  sentCount : Nat
  /-- One-shot failures, u32 saturating — 14 R473; reset 0 -/
  failures : Nat
  /-- Reference messages sent, u32 saturating — 14 R473; reset 0 -/
  refSent : Nat
  /-- Reference messages skipped, u32 saturating — 14 R473; reset 0 -/
  refSkipped : Nat
  /-- Reference sequence last loaded, u32 — 14 R461, R473; reset 0 -/
  refSeq : Nat
  /-- Stop sequence, u16 — 14 R464, R473; reset 0 -/
  stopSeq : Nat
deriving DecidableEq, Repr

/-- A DIO pin's configuration (15 R497). -/
structure PinCfg where
  /-- 0 unused, 1 input Type 1, 2 input Type 3, 3 output -/
  mode : Nat
  /-- Bit 0 latched thermal restart, bit 1 open-load test -/
  flags : Nat
  /-- Filter time in units of 0.1 ms -/
  filter : Nat
deriving DecidableEq, Repr

/-- A DIO pin (15 R477 to R483). -/
structure Pin where
  /-- Filtered state — 15 R479; reset 0 -/
  filtered : Bool
  /-- Plant time of the last filtered change, 2^-16 ns — 15 R477; reset 0 -/
  changed : Nat
  /-- Filtered changes since the previous SAMPLE — 15 R477; reset 0 -/
  changes : Nat
  /-- The output is switched on — 15 R477, R482; reset 0 -/
  on : Bool
  /-- REFOSC time of the last switching — 15 R483; reset 0 -/
  switched : Nat
  /-- Pin fault code: bit 0 short, 1 thermal, 2 open load, 3 readback, 4 thermal latched — 15 R499; reset 0 -/
  fault : BitVec 5
  /-- In latched thermal shutdown: cleared, waiting to cool — 15 R501; reset 0 -/
  cleared : Bool
  /-- In latched thermal shutdown: cooled by 15 K — 15 R501; reset 0 -/
  cooled : Bool
  /-- Consecutive SAMPLEs at which the standby's reading disagreed — 15 R484; reset 0 -/
  bad : Nat
deriving DecidableEq, Repr

/-- Field supply states (15 R481). -/
inductive SupplySt where
  | ok | low | missing
deriving DecidableEq, Repr

/-- A loop channel's configuration (15 R498). -/
structure LoopCfg where
  /-- 0 unused, 1 passive, 2 active -/
  mode : Nat
  /-- v_tmin, units of 10 mV -/
  vtmin : Nat
  /-- r_w, Ω -/
  rw : Nat
  /-- Passive source voltage, units of 10 mV -/
  vsrc : Nat
deriving DecidableEq, Repr

/-- A loop channel's trims (15 R493, R500). -/
structure Trim where
  z : Int
  s : Int
  /-- 0 delivery, 1 command, 2 buttons -/
  source : Nat
deriving DecidableEq, Repr

/-- A loop channel (15 R488 to R492). -/
structure Loop where
  /-- BYP_HOLD_Lc active — 15 R488; reset 0 -/
  hold : Bool
  /-- REFOSC end of settling, none — 15 R488; reset none -/
  settleEnd : Option Nat
  /-- REFOSC time since which the limit has acted, none — 15 R489; reset none -/
  limitFrom : Option Nat
  /-- REFOSC time at which a released hold is activated again, none — 15 R489; reset none -/
  retryAt : Option Nat
  /-- Overcurrent flag — 15 R489; reset 0 -/
  over_ : Bool
  /-- Source limit flag — 15 R489; reset 0 -/
  srcLimit : Bool
  /-- COMPLIANCE flag — 15 R492; reset 0 -/
  compliance : Bool
  /-- Reported current, units of 0.5 µA — 15 R493; reset 0 -/
  current : Nat
  /-- Status — 15 R491; reset NOT_CONFIGURED -/
  status : Nat
  /-- Headroom, mV — 15 R492; reset 0 -/
  headroom : Int
  /-- Plant time of the newest conversion's end, 2^-16 ns — 15 R490; reset 0 -/
  convAt : Nat
deriving DecidableEq, Repr

/-- Trim mode (15 R494, R495). -/
structure TrimMode where
  /-- Channel shown -/
  chan : Nat
  /-- The span step -/
  span : Bool
  /-- Zero captured -/
  z : Int
  /-- A capture runs: factory-calibrated currents converted since the long press -/
  capture : Option (List Int)
  /-- REFOSC time of the last press -/
  press : Nat
deriving DecidableEq, Repr

/-- The field front of the module (15). -/
structure FieldFront where
  /-- DIO pins 0 to 31 — 15 R478; reset per field -/
  pins : Vector Pin 32
  /-- Loop channels 0 to 7 — 15 R488; reset per field -/
  loops : Vector Loop 8
  /-- Field supplies FS1 and FS2: state and voltage in units of 10 mV — 15 R481; reset DESIGN CHOICE MISSING, 0 V until the first
  measurement (log 25) -/
  supply : Vector (SupplySt × Nat) 2
  /-- Field-front input area latched at the last SAMPLE, 256 bytes — 15 R477; reset 0 -/
  area : List Byte
  /-- Field-front output area applied last, 256 bytes — 15 R477; reset 0 -/
  applied : List Byte
  /-- Output set the CEN read at the last ENGINE_START, field-front area — 15 R477; reset 0 -/
  next : List Byte
  /-- A set read at ENGINE_START waits for its LATCH — 15 R477; reset 0 -/
  fresh : Bool
  /-- Rounds since an output set was applied — 15 R482; reset 0 -/
  missed : Nat
  /-- Readback of the pins at the last SAMPLE — 15 R499; reset 0 -/
  readback : BitVec 32
  /-- Readbacks of the last SAMPLEs with their rounds, newest first, at most 8 — 10 R330, 15 R484; reset none -/
  past : List (Nat × BitVec 32)
  /-- Filtered input states at the last SAMPLE — 15 R499; reset 0 -/
  inputs : BitVec 32
  /-- Pin fault codes at the last SAMPLE, one byte a pin — 15 R499; reset 0 -/
  codes : List Byte
  /-- Voltages of FS1 and FS2 at the last SAMPLE, u16 each in units of 10 mV — 15 R499; reset 0 -/
  volts : List Byte
  /-- Round of the last SAMPLE — 15 R499; reset 0 -/
  sampled : Nat
  /-- A condition of 15 R482 has switched the output pins off until the next LATCH — 15 R482; reset 0 -/
  dark : Bool
  /-- Holder's field-front readings received with ROUND_INPUTS — 15 R484, 10 R319; reset empty -/
  holder : List Byte
  /-- First round whose LATCH may switch outputs on, after a take-over — 10 R330; reset 0 -/
  from_ : Nat
  /-- REFOSC time at which the old holder switches its outputs off — 15 R482; reset none -/
  offAt : Option Nat
  /-- Trim mode — 15 R494; reset none -/
  trim : Option TrimMode
  /-- Three flashes of the trim procedure: of FAULT, or of N0A to N1B together, and their REFOSC start — 15 R494; reset none -/
  flashes : Option (Bool × Nat)
deriving DecidableEq, Repr

/-- Feed states (17 R518). -/
inductive FeedSt where
  | ok | low | missing
deriving DecidableEq, Repr

/-- One feed (17 R517, R518). -/
structure Feed where
  /-- State — 17 R518; reset DESIGN CHOICE MISSING until the first measurement (log 19) -/
  st : FeedSt
  /-- Voltage last measured, units of 10 mV, u16 — 17 R531; reset DESIGN CHOICE 0 (log 19) -/
  volt : Nat
deriving DecidableEq, Repr

/-- Hold-up states (17 R527). -/
inductive HoldSt where
  | charging | ready | supplying
deriving DecidableEq, Repr

/-- Power (17). -/
structure Power where
  /-- Power is on: the logic runs — 17 R519, R524; reset 1 -/
  powered : Bool
  /-- Feeds A and B — 17 R518; reset per field -/
  feeds : Vector Feed 2
  /-- Feed loss is in force — 17 R522; reset 0 -/
  loss : Bool
  /-- REFOSC time of the feed loss — 17 R522; reset 0 -/
  lossAt : Nat
  /-- The power-fail flush runs — 17 R522; reset 0 -/
  flushing : Bool
  /-- Hold-up state — 17 R527; reset CHARGING -/
  holdup : HoldSt
  /-- REFOSC time at which the charge began — 17 R532; reset 0 -/
  chargeFrom : Nat
  /-- Store capacitance last measured, µF, u16 — 17 R531; reset DESIGN CHOICE 0 (log 19) -/
  cap : Nat
  /-- Hold-up degraded — 17 R528; reset 0 -/
  degraded : Bool
  /-- Domains on, bit d for PDd — 01 R38, 17 R531; reset PD0, PD1, PD2, PD5, PD6 and PD10 (01 R38) -/
  domains : BitVec 12
  /-- Start cause: 1 power-on, 2 watchdog — 17 R531; reset 1 -/
  cause : Nat
deriving DecidableEq, Repr

/-- A firmware part image: version, security version, interfaces it provides with their ranges, interfaces it
needs with their level (18 R534, R536). -/
structure FwPart where
  version : Nat
  security : Nat
  provides : List (Nat × Nat × Nat)
  needs : List (Nat × Nat)
deriving DecidableEq, Repr

/-- The two flash slots of a part (18 R533). -/
structure FwSlots where
  inForce : Fin 2
  slots : Vector FwPart 2
deriving DecidableEq, Repr

/-- States of an update (18 R540). -/
inductive UpdSt where
  | idle | receiving | verified | armed | trial
deriving DecidableEq, Repr

/-- A manifest entry (18 R536). -/
structure ManEntry where
  part : Nat
  off : Nat
  len : Nat
  digest : List Byte
  sig : List Byte
  image : FwPart
deriving DecidableEq, Repr

/-- The update a module holds (18 R538 to R545): kept through resets. -/
structure Update where
  /-- State — 18 R540; reset DESIGN CHOICE IDLE (log 20) -/
  st : UpdSt
  /-- Session number, u32, 0 if none — 18 R549; reset 0 -/
  session : Nat
  /-- Session number last given — 18 R549; reset DESIGN CHOICE 0 (log 20) -/
  lastSession : Nat
  /-- Bundle length, u32 — 18 R549; reset 0 -/
  length : Nat
  /-- Manifest hash, 32 bytes — 18 R549; reset none -/
  hash : List Byte
  /-- Granules held in staging: granule number and its bytes, numbers rising — 18 R538; reset none -/
  held : List (Nat × List Byte)
  /-- Bundle id, u64, 0 if none — 18 R554; reset 0 -/
  bundle : Nat
  /-- Key index and revoke flag of the bundle — 18 R537; reset 0 -/
  key : Nat
  /-- Revoke lower keys — 18 R537; reset 0 -/
  revoke : Bool
  /-- Manifest of the verified bundle — 18 R536; reset none -/
  manifest : List ManEntry
  /-- Confirm window, min — 18 R552; reset 0 -/
  window : Nat
  /-- Trial start, 0 to 3 — 18 R542; reset 0 -/
  trial : Nat
  /-- Running time of the window used, s — 18 R542; reset 0 -/
  used : Nat
  /-- Last result, 0 to 4 — 18 R554; reset 0 -/
  result : Nat
  /-- Refusal condition — 18 R554; reset 0 -/
  refusal : Nat
  /-- Objects migrated — 18 R555; reset 0 -/
  migrated : Nat
  /-- Parts whose slot changes are reverted at the next start — 18 R544; reset none -/
  revert : List Nat
deriving DecidableEq, Repr

end Sys2Proof.Machine
end

