-- ==== Sys2Proof/Syntax.lean ====
section
/-! DEFINITION. The commands of the block: the host-port accesses, mailbox commands, milestones,
received frames, timers and hardware events of spec/opcode_table.json, with their operands. -/

namespace Sys2Proof

open Sys2Proof.Machine

/-- Link speed of a host port that came up (02 R86): 1 2.5 GT/s, 2 5.0 GT/s, 3 8.0 GT/s. -/
inductive LinkSpeed where
  | gt2_5 | gt5 | gt8
deriving DecidableEq, Repr

/-- Link width of a host port that came up (02 R86). -/
inductive LinkWidth where
  | x1 | x2
deriving DecidableEq, Repr

/-- How an MRAM flush of the recorder ended (16 R507): stored, a record write failed, or the
header could be written on neither copy. -/
inductive FlushResult where
  | stored | recordFailed | headerFailed
deriving DecidableEq, Repr


/-- The window a frame was cut in (04 R152). -/
inductive CutWindow where
  | gather | command | management
deriving DecidableEq, Repr

/-- A frame copy as it ends at a Budan port (04 R120, 05 R153, R163): its tag and EtherType, whether its
FCS is right, its Budan header and payload, the tick on which its last byte arrived (05 R164), the time error its
timestamp gives where it is a command copy, with the path delay in ns and the hops it came over (04 R135), and the
holder's round period in ns, which a joining module learns beside the frames (04 R140, R141). -/
structure BudanCopy where
  tagged : Bool
  etherType : Nat
  fcsOk : Bool
  src : Nat
  version : Nat
  kind : Nat
  net : Nat
  chan : Nat
  round : Nat
  schedId : Nat
  flags : Nat
  data : List Byte
  tick : Nat
  timeErr : Int
  delay : Nat
  hops : Nat
  period : Nat
deriving DecidableEq, Repr

/-- How far the journal commit at the head has come (08 R252, R254): its commit word is verified, its granules
are copied and the record marked applied, or it cannot be verified. -/
inductive CommitStep where
  | word | applied | failed
deriving DecidableEq, Repr

/-- A PTP message as a port receives it (13 R430): its IEEE 1588-2019 messageType, domain, sequence and body. -/
structure PtpMsg where
  messageType : Nat
  domain : Nat
  seq : Nat
  body : List Byte
deriving DecidableEq, Repr

/-- A PTP message interval that elapses (13 R431, R442). -/
inductive PtpTimer where
  | announce | sync | delay
deriving DecidableEq, Repr

/-- What a received plant Ethernet frame carries (13 R434, R437, R438). -/
inductive EthContent where
  /-- An ARP request for an address, with the sender's addresses. -/
  | arp (target senderIp senderMac : Nat)
  /-- An ICMP echo request to an address. -/
  | echo (target sender : Nat) (data : List Byte)
  /-- A UDP datagram: sender, port and payload. -/
  | udp (sender port : Nat) (payload : List Byte)
  /-- A pause frame. -/
  | pause
  /-- Anything else. -/
  | other
deriving DecidableEq, Repr

/-- A plant Ethernet frame as it ends at a port: FCS, size, PCP, and the receive buffers that are in use (13 R434,
R435). -/
structure EthRx where
  fcsOk : Bool
  size : Nat
  pcp : Fin 8
  buffers : Nat
  content : EthContent
deriving DecidableEq, Repr

/-- Speed of a plant Ethernet link (13 R434). -/
inductive EthSpeed where
  | mbit1000 | mbit100 | mbit10
deriving DecidableEq, Repr

/-- A CAN frame as it ends at a port with a right CRC: its fields, and the time since its start of frame in ns (14
R451, R452). -/
structure CanRx where
  ext : Bool
  id : Nat
  fd : Bool
  brs : Bool
  esi : Bool
  rtr : Bool
  dlc : Fin 16
  data : List Byte
  sinceStart : Nat
deriving DecidableEq, Repr

/-- How a CAN transmit attempt ends (14 R458): sent, lost in arbitration, or broken off by an error frame, with
whether ISO 11898-1 counts the error. -/
inductive CanEnd where
  | sent | lost | error (counted : Bool)
deriving DecidableEq, Repr

/-- The terminals of the field front as they stand at a SAMPLE (15 R477, R483; 11 R363): DIO terminals above the ON
threshold, above 8 V, outputs whose current limit acts, and safety terminals P and M that show their switch closed. -/
structure FieldSample where
  on : BitVec 32
  high : BitVec 32
  limiting : BitVec 32
  pClosed : BitVec 8
  mClosed : BitVec 8
deriving DecidableEq, Repr

/-- One conversion of a loop channel (15 R489, R490, R492): factory-calibrated current in units of 0.5 µA, loop entry
voltage and source voltage in mV, and whether the current limit acts. -/
structure LoopSample where
  current : Int
  entry : Int
  source : Int
  limit : Bool
deriving DecidableEq, Repr

/-- What a CONFIRM message confirms or refuses (10 R309): an APPLY by its sequence, a waymark round, or the copied
pages of a resync (10 R342). -/
inductive ConfirmMsg where
  | apply (seq : Nat) (ok : Bool)
  | waymark (round : Nat) (ok : Bool)
  | copied (ok : Bool)
deriving DecidableEq, Repr

/-- A transaction on the system interconnect (12 R399, R402): kind 1 read, 2 write, 3 execute. -/
structure Transaction where
  master : Fin 16
  level : Fin 3
  kind : Fin 4
  addr : Nat
  len : Nat
deriving DecidableEq, Repr

/-- A core debug request (12 R389): a halt or the end of one, a register access, a breakpoint. In a split pair it names the main core or
the checker, which runs as a core of its own. -/
inductive CoreDebug where
  | halt (checker : Bool)
  | resume (checker : Bool)
  | registers
  | setBreak (checker : Bool) (addr : Nat)
  | clearBreak (checker : Bool) (addr : Nat)
deriving DecidableEq, Repr

/-- What arrives at the debug port (12 R387, R389): IDCODE, BYPASS or SAMPLE/PRELOAD; a boundary-scan instruction that
drives or isolates pins; a core debug request for AP0, AP1 or the SVP; a memory access. -/
inductive DebugRequest where
  | passive
  | scan
  | core (pair : Fin 3) (op : CoreDebug)
  | access (t : Transaction)
deriving DecidableEq, Repr

/-- A stored object in MRAM of which copies A and B are kept (11 R367; 17 R529). -/
inductive StoredObj where
  | safeActive
  | safePending
  | other
deriving DecidableEq, Repr

/-- What is wrong with a word of memory as it is read (12 R393): the stored bits of its 64 data and 16 check bits that are wrong, and the
bits [31:3] of its address that a fault changes. -/
structure CodeErrors where
  bits    : BitVec 80
  address : BitVec 29
deriving DecidableEq, Repr

/-- The region an uncorrectable word lies in (12 R397). -/
inductive MemRegion where
  /-- DRAM code areas, program data, process images, runtime and kernel memory, or a dirty L2 line of these -/
  | program
  | bar2
  /-- A clean L2 line -/
  | clean
  | table (axis : Fin 256)
  | engine (axis : Fin 256)
  /-- The journal record with a number in the order of the journal -/
  | journal (record : Nat)
  /-- The retained area, during a commit or at start -/
  | retained (commit : Bool)
  /-- A snapshot slot of an axis (07 R238) -/
  | snapshot (axis : Fin 256) (slot : Fin 2)
  /-- A copy of another object, whose partner copy is used -/
  | object (o : StoredObj) (copy : Fin 2)
  /-- A line of a level-1 cache, which parity protects, dirty or clean -/
  | l1 (dirty : Bool)
  | svp
deriving DecidableEq, Repr

/-- The occasion at which the firmware builds the regions of the masters anew (12 R401). -/
inductive RuleSource where
  | start
  | activation
  | waymark
  | hostRights
  | debugSession
deriving DecidableEq, Repr

/-- What a start of the module finds that its stored state does not say (02 R56; 08 R253, R265; 10 R335; 18 R541, R545): the key
position, whether the self-test passes, and with it the SML's (11 R357 cause 4), the self-check of each part to install, objects
migrated and the formats of the last, whether the retained area reads without an uncorrectable error, and the durations of steps 1
to 3 of the insertion sequence in ms. -/
structure StartReport where
  key : Key
  selfTest : Bool
  smlTest : Bool := true
  checks : List Bool
  migrated : Nat
  oldFormat : Nat
  newFormat : Nat
  migrationOk : Bool
  retainOk : Bool
  steps : Vector Nat 3
deriving DecidableEq, Repr

/-- What the power monitors measure for POWER_STATUS (17 R531): bus and store voltage in units of 10 mV, input power in
mW, feed currents in mA. -/
structure PowerReading where
  bus : Nat
  store : Nat
  power : Nat
  currentA : Nat
  currentB : Nat
deriving DecidableEq, Repr


/-- The commands the block takes: one constructor per row of spec/opcode_table.json, in its order.
A mailbox command carries the port and the mailbox it was posted in; its request lies in State. -/
inductive Instr where
  /-- MAILBOX_WRITE (R55): A host write into a mailbox header or payload is stored, discarded or frees the mailbox, depending on the
  mailbox state. -/
  | mailboxWrite (p : Fin 4) (off : Nat) (data : List (Option Byte))
  /-- MAILBOX_FREE (R55): A host write of 0 into the state byte of a DONE mailbox releases the mailbox to FREE. -/
  | mailboxFree (p : Fin 4) (m : Fin 8)
  /-- MBX_DOORBELL (R54): A doorbell write moves a FREE mailbox to POSTED, or completes it with BAD_FIELD, or is discarded as an error. -/
  | mbxDoorbell (p : Fin 4) (val : U32)
  /-- MBX_DONE (R16): A write-1-to-clear write to MBX_DONE clears the completion flags it names. -/
  | mbxDone (p : Fin 4) (val : U32)
  /-- MBX_ERROR (R16): A write-1-to-clear write to MBX_ERROR clears the error flags it names. -/
  | mbxError (p : Fin 4) (val : U32)
  /-- MBX_ERROR_COUNT (R17): A read of MBX_ERROR_COUNT returns the count and clears it in the same access. -/
  | mbxErrorCount (p : Fin 4)
  /-- EVQ_CTRL (R67): A write to EVQ_CTRL.enable enables the event ring after checking its configuration, or disables the ring. -/
  | evqCtrl (p : Fin 4) (val : U32)
  /-- EVQ_TAIL (R71): A host tail write is accepted when it lies between tail and head, and may trigger EVENTS_LOST; otherwise it is
  discarded with tail_error set. -/
  | evqTail (p : Fin 4) (val : U32)
  /-- EVQ_LOST (R17): A read of EVQ_LOST returns the dropped-event count and clears it. -/
  | evqLost (p : Fin 4)
  /-- EVQ_STATUS (R16): A write-1-to-clear write to EVQ_STATUS clears its error bits. -/
  | evqStatus (p : Fin 4) (val : U32)
  /-- REGISTER_WRITE (R46): A write to a port register without behaviour of its own is stored, or is discarded where the register is
  locked, reserved or the access is malformed. -/
  | registerWrite (p : Fin 4) (off : Nat) (width : Nat) (val : U32)
  /-- BAR2_WRITE (R52): A host write to BAR2 is discarded and sets MBX_ERROR.bar2_write. -/
  | bar2Write (p : Fin 4)
  /-- MSIX_UNMASK (R47): The host unmasks an MSI-X vector, and the module sends the message that was pending for it. -/
  | msixUnmask (p : Fin 4) (v : Fin 4)
  /-- LINK_UP (R88): A host port link comes up, and the module raises LINK_UP. -/
  | linkUp (p : Fin 4) (speed : LinkSpeed) (width : LinkWidth)
  /-- LINK_DOWN (R43): A host port link goes down: posted mailboxes are discarded, busy responses are dropped, the ring is disabled
  and the safety session ends. -/
  | linkDown (p : Fin 4)
  /-- FUNCTION_LEVEL_RESET (R43): A function-level reset of a host port resets that port alone, as a link-down does. -/
  | functionLevelReset (p : Fin 4)
  /-- CONVENTIONAL_RESET (R560): Assertion of PERSTn_N resets host port n alone. -/
  | conventionalReset (p : Fin 4)
  /-- MAILBOX_ACKNOWLEDGE (R58): The SVP takes a POSTED mailbox in order of priority, moves it to BUSY and runs the command checks. -/
  | mailboxAcknowledge
  /-- COMMAND_EXECUTION_END (R54): A command's execution ends: response and status are written, the mailbox enters DONE and a
  completion is sent. -/
  | commandExecutionEnd (id : Nat)
  /-- PENDING_COMPLETION (R59): A command still executing 100 ms after it started completes its mailbox with PENDING. -/
  | pendingCompletion (id : Nat)
  /-- EVQ_COALESCE_TIMEOUT (R73): The oldest uninterrupted ring entry has waited EVQ_COAL.time_us, and the vector 0 message is sent. -/
  | evqCoalesceTimeout (p : Fin 4)
  /-- EVQ_WRITE_FAILED (R74): A write into host memory fails; the ring is disabled, dma_error is set and the event is lost. -/
  | evqWriteFailed (p : Fin 4)
  /-- IDENTIFY (R82): Returns order code, serial number, issue, position, port, interface levels and part versions. -/
  | identify (p : Fin 4) (m : Fin 8)
  /-- GET_STATUS (R83): Returns mode, key, pair role, flags, feeds, round, plant time and highest severity, and starts a new severity
  interval. -/
  | getStatus (p : Fin 4) (m : Fin 8)
  /-- READ_PLANT_TIME (R84): Returns plant time, time state, round number and round period read from the PTU. -/
  | readPlantTime (p : Fin 4) (m : Fin 8)
  /-- COMMAND_RESULTS (R87): Returns the port's completion log of finished PENDING commands. -/
  | commandResults (p : Fin 4) (m : Fin 8)
  /-- SET_HOST_RIGHTS (R85): Stores and verifies a port's authority class and BAR2 grants, then applies them. -/
  | setHostRights (p : Fin 4) (m : Fin 8) (stored : Bool)
  /-- GET_HOST_RIGHTS (R86): Returns the rights, link and session state of all four ports. -/
  | getHostRights (p : Fin 4) (m : Fin 8)
  /-- MILESTONE_READ (R114): Returns the milestone table header and its 64 entries. -/
  | milestoneRead (p : Fin 4) (m : Fin 8)
  /-- MILESTONE_WRITE (R115): Replaces the host-sourced milestones on both modules, effective at a boundary at least 1 ms later. -/
  | milestoneWrite (p : Fin 4) (m : Fin 8) (stored : Bool)
  /-- ROUND_SET_PERIOD (R116): Stores the round period for the next cold start of the pair on both modules. -/
  | roundSetPeriod (p : Fin 4) (m : Fin 8) (stored : Bool)
  /-- ROUND_STATUS (R117): Returns round number, periods, milestone generation and the slip, late-write and renumbering counters. -/
  | roundStatus (p : Fin 4) (m : Fin 8)
  /-- ROUND_BOUNDARY (R90): A round boundary is reached: pending mode changes, schedule switches, swaps and milestone sets take force,
  and the guardians are resynchronised. -/
  | roundBoundary
  /-- LATCH (R477): The FFE and nodes apply the commands and outputs of the previous round. -/
  | latch
  /-- SAMPLE (R477): The FFE and nodes latch inputs and encoders and write the field-front input area. -/
  | samplePoint (x : FieldSample)
  /-- GATHER_LAUNCH (R157): The holder launches the empty gather frames in a ring or line, or the slot phase opens in a star. -/
  | gatherLaunch (n : Fin 2)
  /-- GATHER_DONE (R32): The receive bank freezes, window states advance and the station-class input image is published. -/
  | gatherDone (n : Fin 2)
  /-- ENGINE_START (R188): The CEN starts its fixed slot sequence over all axes on frozen feedback and the latest setpoints, and
  evaluates axis and learning states. -/
  | engineStart
  /-- ENGINE_DONE (R189): The engine's slot sequence completes and its command records are written into the transmit banks. -/
  | engineDone
  /-- SHADOW_ENGINE_START (R33): The standby's CEN starts its shadow computation at GATHER_DONE + 5 µs on the forwarded set. -/
  | shadowEngineStart
  /-- SAFETY_CHECK_POINT (R351): At COMMIT − 1 µs each safety channel compares the other's records, latches stop groups and writes permits. -/
  | safetyCheckPoint
  /-- COMMIT (R32): The transmit bank freezes with engine, processor and SML writes, station outputs are taken and the permit
  containers are copied. -/
  | commitPoint
  /-- COMMAND_LAUNCH (R158): The holder launches the command frames from the frozen transmit bank. -/
  | commandLaunch (n : Fin 2)
  /-- MGMT_OPEN (R166): The management window opens: the MGMT frame is launched with the lease record, digest, stop command and
  management request. -/
  | mgmtOpen (n : Fin 2) (deferred : BitVec 2)
  /-- TASK_RELEASE (R248): A task is released with a snapshot, or the release is skipped and counted as an overrun. -/
  | taskRelease (t : Fin 8)
  /-- HOST_TICK (R48): The tick round registers are written, then the vector 3 message is sent. -/
  | hostTick (p : Fin 4)
  /-- CAN_REFERENCE (R461): The reference object of a CAN port is loaded with the next reference message and made PENDING. -/
  | canReference (c : Fin 4)
  /-- ETH_LAUNCH (R439): A peer channel's published data are queued with their launch time and the next sequence. -/
  | ethLaunch (e : Fin 2) (ch : Fin 16)
  /-- TIME_STEP_BOUNDARY (R94): At the boundary fixed for an accepted step, k periods are added to the PTU and the residual is slewed. -/
  | timeStepBoundary
  /-- BUDAN_COPY_RECEIVED (R163): A Budan frame copy arrives and is checked, counted, selected window by window or compared, or
  discarded as foreign. -/
  | budanCopyReceived (n : Fin 2) (port : Fin 4) (f : BudanCopy)
  /-- SML_COPY_RECEIVED (R570): The SML tap receives a channel B copy and selects and checks its safety containers. -/
  | smlCopyReceived (n : Fin 2) (port : Fin 2) (f : BudanCopy)
  /-- SML_LOAD_PAGE (R346): The processor channel writes a load page number into the exchange buffer, and the SML copies the page and
  acknowledges it. -/
  | smlLoadPage (page : Nat) (data : List Byte)
  /-- SML_STROBE_FAULT (R345): A PTU strobe is missing or off its expected time; the SML writes no permits and opens its high-side switches. -/
  | smlStrobeFault (strobe : Fin 3) (deviation : Int)
  /-- PORT_LINK_UP (R140): A Budan port's link comes up, which may give LINKS_READY and ends the reflection at the next boundary. -/
  | portLinkUp (n : Fin 2) (port : Fin 4)
  /-- PORT_LINK_DOWN (R126): A Budan port's link goes down and the node reflects frames on the other port. -/
  | portLinkDown (n : Fin 2) (port : Fin 4)
  /-- LISTEN_SILENCE (R140): The 2 ms listen time passes in silence: a module with a valid lease cold-starts, otherwise the listen
  timer restarts. -/
  | listenSilence (n : Fin 2)
  /-- TIME_CONVERGED (R141): The network time error stays below 20 ns for 16 rounds, and the network goes to JOINED or MASTER. -/
  | timeConverged (n : Fin 2)
  /-- NETWORK_LOST (R140): No full valid round arrives for 8 rounds, and the network returns to LISTEN. -/
  | networkLost (n : Fin 2)
  /-- NETWORK_DOWN (R140): A down condition lasts 3 rounds for a module in MASTER. -/
  | networkDown (n : Fin 2)
  /-- CHANNEL_SILENT (R187): A channel delivers no valid copy for 8 rounds. -/
  | channelSilent (n : Fin 2) (ch : Fin 2)
  /-- BYPASS_HOLD_TIMER (R138): A wait of the attach or release hold sequence ends, and the next hold is switched or the channel is failed. -/
  | bypassHoldTimer (n : Fin 2)
  /-- LINK_DELAY_MEASURED (R136): The 1,024 delay exchanges of a link complete, and L and the path delays and margins are updated. -/
  | linkDelayMeasured (n : Fin 2) (port : Fin 4) (ns : Nat) (nbr : Fin 64)
  /-- GUARDIAN_CUT (R132): A launch window closes while a frame is still being sent, and the guardian cuts the frame. -/
  | guardianCut (n : Fin 2) (port : Fin 4) (window : CutWindow)
  /-- GUARDIAN_RESYNC_FAULT (R134): A resync pulse arrives more than 500 ns off prediction or not at all, and the guardian closes
  every window. -/
  | guardianResyncFault (n : Fin 2) (deviation : Option Int)
  /-- LEASE_PULSE_LOSS (R133): The guardian sees no LEASE_PULSE edge for 1 µs and takes the lease as invalid. -/
  | leasePulseLoss (n : Fin 2)
  /-- NET_STATUS (R146): Returns the state, links, holds, margins and guardian counters of both networks. -/
  | netStatus (p : Fin 4) (m : Fin 8)
  /-- NET_PORT_COUNTERS (R147): Returns the per-port link and frame counters of one network. -/
  | netPortCounters (p : Fin 4) (m : Fin 8)
  /-- NET_NODE_LIST (R148): Returns the node list of one network. -/
  | netNodeList (p : Fin 4) (m : Fin 8)
  /-- NET_SET_MEDIA (R149): Stores a network's media configuration on both modules for the next cold start. -/
  | netSetMedia (p : Fin 4) (m : Fin 8) (stored : Bool)
  /-- NET_RELEASE (R150): Runs the release sequence of the holds and puts the named networks into BYPASSED. -/
  | netRelease (p : Fin 4) (m : Fin 8)
  /-- NET_ATTACH (R151): Runs the attach sequence for the named networks that are in BYPASSED. -/
  | netAttach (p : Fin 4) (m : Fin 8)
  /-- SCHED_STATUS (R180): Returns the schedule state of one network. -/
  | schedStatus (p : Fin 4) (m : Fin 8)
  /-- SCHED_LOAD (R181): Takes one block of a schedule image; the last block starts the checks and the storage on both modules. -/
  | schedLoad (p : Fin 4) (m : Fin 8) (stored : Bool)
  /-- SCHED_SWITCH (R182): Runs the schedule switch procedure towards a switch round. -/
  | schedSwitch (p : Fin 4) (m : Fin 8)
  /-- SCHEDULE_SWITCH_TIMEOUT (R182): The nodes have not all confirmed within 10 s, and the switch ends TOO_LATE. -/
  | scheduleSwitchTimeout
  /-- SCHED_DELETE (R183): Removes a stored schedule from the holder and sends the deletion to the partner. -/
  | schedDelete (p : Fin 4) (m : Fin 8)
  /-- SCHED_CHANNEL_COUNTERS (R184): Returns the channel counters of one network. -/
  | schedChannelCounters (p : Fin 4) (m : Fin 8)
  /-- SCHED_WINDOW_STATUS (R185): Returns the state and age of up to 256 windows. -/
  | schedWindowStatus (p : Fin 4) (m : Fin 8)
  /-- NODE_STOP (R186): Queues a STOP, SILENCE or RESUME command for the MGMT frames of the named networks. -/
  | nodeStop (p : Fin 4) (m : Fin 8)
  /-- ENGINE_STATUS (R216): Returns engine state, banks, generations and counters. -/
  | engineStatus (p : Fin 4) (m : Fin 8)
  /-- ENGINE_PARAM_WRITE (R217): Writes an axis parameter block into the shadow bank of both modules. -/
  | engineParamWrite (p : Fin 4) (m : Fin 8) (stored : Bool)
  /-- ENGINE_PARAM_READ (R218): Returns an axis parameter block from the active or shadow bank. -/
  | engineParamRead (p : Fin 4) (m : Fin 8)
  /-- ENGINE_BANK_COPY (R219): Copies the active bank into the shadow bank on both modules. -/
  | engineBankCopy (p : Fin 4) (m : Fin 8) (stored : Bool)
  /-- ENGINE_BANK_SWAP (R220): Schedules a bank swap of all axes at a swap round. -/
  | engineBankSwap (p : Fin 4) (m : Fin 8)
  /-- ENGINE_AXIS_RESET (R221): Applies a fault reset to the masked axes at the effective round. -/
  | engineAxisReset (p : Fin 4) (m : Fin 8)
  /-- ENGINE_AXIS_HALT (R221): Applies a halt to the masked axes at the effective round. -/
  | engineAxisHalt (p : Fin 4) (m : Fin 8)
  /-- ENGINE_AXIS_STATUS (R222): Returns the axis status records of consecutive axes. -/
  | engineAxisStatus (p : Fin 4) (m : Fin 8)
  /-- ENGINE_SELF_TEST_DONE (R209): The CEN self-test ends: pass returns the engine to RUN with the axes in FAULT, failure goes to FAILED. -/
  | engineSelfTestDone (passed : Bool)
  /-- LEARN_STATUS (R242): Returns the learning status records of consecutive axes. -/
  | learnStatus (p : Fin 4) (m : Fin 8)
  /-- LEARN_CONFIGURE (R235): Checks and applies an axis's learning configuration, with a resample where N or e_T change. -/
  | learnConfigure (p : Fin 4) (m : Fin 8)
  /-- LEARN_CONTROL (R231): Sets the learning state of the masked axes to OFF, PLAYBACK or LEARN. -/
  | learnControl (p : Fin 4) (m : Fin 8)
  /-- LEARN_TABLE_READ (R242): Returns table entries captured at one round boundary. -/
  | learnTableRead (p : Fin 4) (m : Fin 8)
  /-- LEARN_TABLE_WRITE (R242): Replaces table entries of an axis. -/
  | learnTableWrite (p : Fin 4) (m : Fin 8)
  /-- LEARN_SNAPSHOT (R238): Captures the tables of the masked axes into the MRAM snapshot slots. -/
  | learnSnapshot (p : Fin 4) (m : Fin 8)
  /-- LEARN_RESTORE (R239): Restores the tables of the masked axes from their newest valid snapshots. -/
  | learnRestore (p : Fin 4) (m : Fin 8)
  /-- LEARN_CLEAR (R242): Zeroes the tables of the masked axes. -/
  | learnClear (p : Fin 4) (m : Fin 8)
  /-- TABLE_MOVE (R237): Resampled or captured tables are moved between DRAM and table memory between COMMIT and the next ENGINE_START. -/
  | tableMove (a : Fin 256) (stored : Bool)
  /-- TASK_CYCLE_END (R248): A task cycle ends: outputs are published unless it overran, and its retained changes are committed. -/
  | taskCycleEnd (t : Fin 8) (o : CycleOut)
  /-- RETAIN_COMMIT_DONE (R252): A journal commit of retained changes completes its commit word, copy and applied mark. -/
  | retainCommitDone (step : CommitStep)
  /-- TASK_EXCEPTION (R264): Task code takes an exception the runtime cannot return from, which is a program fault. -/
  | taskException (t : Fin 8)
  /-- KEY_CHANGED (R262): A debounced key turn counts and may change the mode or end sessions. -/
  | keyChanged (k : Key)
  /-- MODE_CHANGE_EFFECT (R264): A mode change takes effect at the first boundary at least 250 µs after its cause. -/
  | modeChangeEffect
  /-- KEY_MISMATCH (R269): The two modules' keys have differed for 5 s. -/
  | keyMismatch
  /-- SET_MODE (R272): Requests the mode STOP, RUN or LAYBY for the pair. -/
  | setMode (p : Fin 4) (m : Fin 8)
  /-- GET_MODE (R273): Returns mode, keys, lockstep and image state. -/
  | getMode (p : Fin 4) (m : Fin 8)
  /-- PROGRAM_LOAD (R274): Takes one block of a program image; the last block starts the checks and the copy to the partner. -/
  | programLoad (p : Fin 4) (m : Fin 8) (stored : Bool)
  /-- PROGRAM_ACTIVATE (R275): Makes the loaded image active on both modules with a WARM or COLD start. -/
  | programActivate (p : Fin 4) (m : Fin 8) (stored : Bool)
  /-- TASK_STATUS (R276): Returns the state and counters of the eight tasks. -/
  | taskStatus (p : Fin 4) (m : Fin 8)
  /-- TIME (R270): Runtime service returning the plant time and monotonic time of the release. -/
  | timeService (t : Fin 8)
  /-- TASK_INFO (R270): Runtime service returning the task's number, cycle sequence, overruns and mode. -/
  | taskInfo (t : Fin 8)
  /-- RAISE_EVENT (R270): Runtime service that raises a program event under source 19. -/
  | raiseEvent (t : Fin 8) (reason sev p0 p1 p2 : Nat)
  /-- RECORD (R511): Runtime service that creates a recorder record with a source-19 code. -/
  | recordService (t : Fin 8) (code p0 p1 : Nat)
  /-- TS_READ (R433): Runtime service that reads and removes the oldest transmit timestamp entry. -/
  | tsRead (t : Fin 8) (e : Fin 2)
  /-- PEER_WRITE (R439): Runtime service that publishes transmit data of a peer channel. -/
  | peerWrite (t : Fin 8) (ch : Fin 16) (data : List Byte)
  /-- PEER_READ (R439): Runtime service that returns a peer channel's newest data, sequence, time and age. -/
  | peerRead (t : Fin 8) (ch : Fin 16)
  /-- CHANGE_LOAD (R300): Takes one block of a change package; the last block starts the checks and the copy to the partner. -/
  | changeLoad (p : Fin 4) (m : Fin 8) (stored : Bool)
  /-- CHANGE_ARM (R301): Arms the loaded change and starts preparation and the timeout. -/
  | changeArm (p : Fin 4) (m : Fin 8)
  /-- CHANGE_ABORT (R297): Aborts a loaded or armed change. -/
  | changeAbort (p : Fin 4) (m : Fin 8)
  /-- CHANGE_STATUS (R303): Returns the state of the change. -/
  | changeStatus (p : Fin 4) (m : Fin 8)
  /-- CHANGE_PREPARATION_END (R285): Preparation ends: the change becomes ARMED with its first candidate, or is abandoned. -/
  | changePreparationEnd (verified : Bool)
  /-- WAYMARK_CANDIDATE (R286): At a candidate boundary the change is applied with conversion, or the candidate is missed. -/
  | waymarkCandidate (bad : Option Nat)
  /-- CHANGE_TIMEOUT (R287): The change timeout ends before the waymark, and the change is abandoned. -/
  | changeTimeout
  /-- LEASE (R312): A lease record or lease answer arrives over the pair link or in the management window. -/
  | leaseMessage (path : PairPath) (h : PlkHdr) (m : LeaseMsg)
  /-- DIGEST (R324): Digest records of the partner arrive and are compared. -/
  | digestMessage (h : PlkHdr) (l : List DigestRec)
  /-- WINDOWS (R319): The standby receives the forwarded first-valid windows of one frame. -/
  | windowsMessage (h : PlkHdr) (n : Fin 2) (l : List (Nat × List Byte))
  /-- ROUND_INPUTS (R319): The standby receives window states, setpoint generation, field-front readings and the latched group mask. -/
  | roundInputsMessage (h : PlkHdr) (setpoint : Nat) (states : List (Nat × Nat × Nat × Nat)) (feedback : List Nat) (field : List Byte) (groups : BitVec 16)
  /-- RELEASE (R321): The standby receives a task release decision with its times and generations. -/
  | releaseMessage (h : PlkHdr) (m : RelMsg)
  /-- CYCLE_END (R321): The standby receives the holder's publication decision for a cycle. -/
  | cycleEndMessage (h : PlkHdr) (m : CycMsg)
  /-- SERVICE (R321): The standby receives logged service results and object reads. -/
  | serviceMessage (h : PlkHdr) (task : Nat) (data : List Byte)
  /-- APPLY (R569): The standby receives a pair-applied operation and its effective round. -/
  | applyMessage (h : PlkHdr) (op : PairOp) (round : Nat) (stored : Bool)
  /-- CONFIRM (R309): The holder receives a confirmation or refusal of an APPLY, waymark or swap round. -/
  | confirmMessage (h : PlkHdr) (c : ConfirmMsg)
  /-- STATE_COPY (R327): The standby receives pages of state during resync. -/
  | stateCopyMessage (h : PlkHdr) (items : List CopyItem) (verified : Bool)
  /-- COPY_DONE (R327): A resync copy pass ends. -/
  | copyDoneMessage (h : PlkHdr) (final : Bool) (pages : Nat)
  /-- KEEPALIVE (R308): A KEEPALIVE message arrives. -/
  | keepaliveMessage (h : PlkHdr)
  /-- KEEPALIVE_SEND (R308): The pair link has run idle for 10 µs and a KEEPALIVE is sent. -/
  | keepaliveSend
  /-- PLK_RETRANSMIT_TIMEOUT (R308): A reliable message has no acknowledgement after 20 µs; it is retransmitted, or the link is taken down. -/
  | plkRetransmitTimeout
  /-- PLK_UP (R310): The pair link trains and comes up. -/
  | plkUp (lanes : Fin 3) (ms level : Nat) (splitEqual equal : Bool)
  /-- PLK_DOWN (R310): The pair link goes down on lock loss, 50 µs of silence or a failed retransmission. -/
  | plkDown (lockLost : Bool)
  /-- PLK_LANE_DEGRADED (R307): One lane fails and the link continues at half rate. -/
  | plkLaneDegraded (lane : Fin 2)
  /-- LEASE_TIMER_OUT (R313): The lease timer reaches zero: LEASE_PULSE stops, or the standby takes the token at the next boundary. -/
  | leaseTimerOut
  /-- CLAIM (R317): An UNCLAIMED module whose claim wait has passed with every condition met claims the token. -/
  | claimToken
  /-- PARTNER_ABSENT (R306): The pair link is down and no lease traffic has arrived for 8 rounds. -/
  | partnerAbsent
  /-- RESYNC_SLOW (R327): A resync has not completed after 1 s. -/
  | resyncSlow
  /-- HOME_RECLAIM (R333): The home module has been ready for the settle time, and a planned crossover is requested. -/
  | homeReclaim
  /-- CROSSOVER_WAIT_LIMIT (R332): A waiting crossover request reaches its wait limit and ends TOO_LATE. -/
  | crossoverWaitLimit
  /-- CROSSOVER_REQUEST (R339): Requests a planned crossover at a handover round. -/
  | crossoverRequest (p : Fin 4) (m : Fin 8)
  /-- PAIR_STATUS (R340): Returns the token, eligibility, link and crossover state of the pair. -/
  | pairStatus (p : Fin 4) (m : Fin 8)
  /-- SET_HOME (R341): Stores the home module and settle time on both modules. -/
  | setHome (p : Fin 4) (m : Fin 8) (stored : Bool)
  /-- PAIR_RESYNC (R342): Starts a resync of the standby. -/
  | pairResync (p : Fin 4) (m : Fin 8)
  /-- SAFETY_LOGIN (R375): Opens a safety session with the password. -/
  | safetyLogin (p : Fin 4) (m : Fin 8)
  /-- SAFETY_LOAD (R376): Takes one block of a safety parameter set; the last block stores it as pending on both modules. -/
  | safetyLoad (p : Fin 4) (m : Fin 8) (stored : Bool)
  /-- SAFETY_ACTIVATE (R370): Activates the pending set at an activation round after the SML load and the affected-axis test. -/
  | safetyActivate (p : Fin 4) (m : Fin 8) (smlOk : Bool)
  /-- SAFETY_LOG_READ (R378): Returns entries of the safety change log. -/
  | safetyLogRead (p : Fin 4) (m : Fin 8)
  /-- DETOUR_STATUS (R379): Returns the detour state. -/
  | detourStatus (p : Fin 4) (m : Fin 8)
  /-- SAFETY_STATUS (R380): Returns the safety header and per-axis result and permit bytes. -/
  | safetyStatus (p : Fin 4) (m : Fin 8)
  /-- SAFETY_LOGOUT (R369): Ends the port's safety session. -/
  | safetyLogout (p : Fin 4) (m : Fin 8)
  /-- SAFETY_PASSWORD (R381): Sets a new safety password on both modules and ends the other sessions. -/
  | safetyPassword (p : Fin 4) (m : Fin 8) (stored : Bool) (salt : List Byte)
  /-- SAFE_STOP_RESET (R382): Clears latched groups and output faults at a boundary once the reset conditions hold. -/
  | safeStopReset (p : Fin 4) (m : Fin 8)
  /-- SAFETY_SESSION_IDLE (R369): 900 s pass without a command that needs the session, and the session ends. -/
  | safetySessionIdle (p : Fin 4)
  /-- DETOUR_EXPIRED (R358): The detour timer ends and every group with an axis in detour is latched. -/
  | detourExpired
  /-- TEST_PULSE (R363): A safety output's test interval ends and a dark or light test pulse is run. -/
  | testPulse (j : Fin 8) (named : Bool)
  /-- LOCKSTEP_MISMATCH (R385): A lockstep comparator mismatch halts the pair and the module reacts by role. -/
  | lockstepMismatch (k : Fin 3)
  /-- LOCKSTEP_RESTORED (R390): At a restore point the checker is resynchronised and comparison resumes. -/
  | lockstepRestored (k : Fin 2)
  /-- LOCKSTEP_RESTORE_FAILED (R390): No restore point occurs within 1 s, and lockstep stays suspended. -/
  | lockstepRestoreFailed (k : Fin 2)
  /-- DEBUG_PORT_REQUEST (R389): A debug-port instruction or core debug request arrives and is refused or executed. -/
  | debugPortRequest (r : DebugRequest)
  /-- DEBUG_SESSION_EXPIRY (R388): A debug session's duration ends, and the port is locked. -/
  | debugSessionExpiry
  /-- MEMORY_CORRECTED (R395): A corrected memory error is delivered, written back and counted. -/
  | memoryCorrected (area : Fin 13) (addr : Nat) (err : BitVec 80)
  /-- MEMORY_UNCORRECTABLE (R397): An uncorrectable word is read and the module reacts by region. -/
  | memoryUncorrectable (area : Fin 13) (addr : Nat) (err : CodeErrors) (region : MemRegion)
  /-- SCRUB (R396): A patrol scrubber reads and corrects the next words of a memory. -/
  | scrub (area : Fin 13)
  /-- ACCESS_VIOLATION (R403): The ACU refuses a transaction; the master is frozen, logged and the SVP interrupted. -/
  | accessViolation (x : Transaction)
  /-- RULE_EPOCH_COMMIT (R407): The SVP commits a new rule epoch on one ACU clock edge. -/
  | ruleEpochCommit (rules : RuleSource)
  /-- RULE_EPOCH_LATE (R408): An epoch is not complete within 2 µs of its commit. -/
  | ruleEpochLate (ns : Nat)
  /-- ACU_RELEASE (R411): Releases a frozen non-core master and discards its held access. -/
  | acuRelease (p : Fin 4) (m : Fin 8)
  /-- ACU_LOG_READ (R412): Returns the ASV log. -/
  | acuLogRead (p : Fin 4) (m : Fin 8)
  /-- ACU_STATUS (R413): Returns epochs, frozen masters and counters. -/
  | acuStatus (p : Fin 4) (m : Fin 8)
  /-- ACU_RULES_READ (R413): Returns a master's 16 region descriptors. -/
  | acuRulesRead (p : Fin 4) (m : Fin 8)
  /-- MEMORY_STATUS (R414): Returns memory code counters per area. -/
  | memoryStatus (p : Fin 4) (m : Fin 8)
  /-- DEBUG_UNLOCK (R415): Opens or replaces a debug session; a boundary-scan scope enters TEST. -/
  | debugUnlock (p : Fin 4) (m : Fin 8)
  /-- DEBUG_LOCK (R415): Ends the debug session. -/
  | debugLock (p : Fin 4) (m : Fin 8)
  /-- LOCKSTEP_STATUS (R416): Returns lockstep states and the debug session. -/
  | lockstepStatus (p : Fin 4) (m : Fin 8)
  /-- SPLIT_SET (R417): Stores the split bits for the next start. -/
  | splitSet (p : Fin 4) (m : Fin 8) (stored : Bool)
  /-- DEBUG_BREAKPOINT (R418): Sets or clears breakpoints on a core in LAYBY. -/
  | debugBreakpoint (p : Fin 4) (m : Fin 8)
  /-- DEBUG_TASK (R419): Runs one cycle of a halted task, continues it or steps it. -/
  | debugTask (p : Fin 4) (m : Fin 8)
  /-- DEBUG_READ (R420): Returns bytes of the program data area; `data`: what the read finds where a cycle is under way. -/
  | debugRead (p : Fin 4) (m : Fin 8) (data : List Byte)
  /-- PTP_MESSAGE_RECEIVED (R430): A PTP message arrives and is processed by the PTP port. -/
  | ptpMessageReceived (e : Fin 2) (f : PtpMsg)
  /-- PTP_OFFSET_MEASUREMENT (R426): An offset is measured at a Sync and is within or beyond the jump threshold. -/
  | ptpOffsetMeasurement (e : Fin 2) (offset : Int) (delay : Nat)
  /-- PTP_LOST (R426): No offset arrives for 4 sync intervals, and the PTU goes to HOLDOVER or a pending step is cancelled. -/
  | ptpLost
  /-- HOLDOVER_LONG (R427): HOLDOVER has lasted one hour. -/
  | holdoverLong
  /-- ETH_FRAME_RECEIVED (R434): A plant Ethernet frame arrives and is answered, delivered to a peer channel or discarded. -/
  | ethFrameReceived (e : Fin 2) (f : EthRx)
  /-- ETH_FRAME_LAUNCH (R436): A queued frame's launch time arrives and it is sent, or dropped as LATE. -/
  | ethFrameLaunch (e : Fin 2)
  /-- PEER_LOST (R439): A peer channel accepts no frame for its loss limit. -/
  | peerLost (ch : Fin 16)
  /-- ETH_LINK_UP (R447): A plant Ethernet link comes up. -/
  | ethLinkUp (e : Fin 2) (speed : EthSpeed)
  /-- ETH_LINK_DOWN (R447): A plant Ethernet link goes down. -/
  | ethLinkDown (e : Fin 2)
  /-- TIME_ACCEPT_STEP (R441): Accepts a refused time jump and fixes its step boundary. -/
  | timeAcceptStep (p : Fin 4) (m : Fin 8)
  /-- TIME_STATUS (R443): Returns the time state, offset and step information. -/
  | timeStatus (p : Fin 4) (m : Fin 8)
  /-- TIME_CONFIGURE (R442): Configures PTP ports, profile and jump threshold. -/
  | timeConfigure (p : Fin 4) (m : Fin 8) (stored : Bool)
  /-- ETH_CONFIGURE (R444): Configures a plant Ethernet port, its pair address and queue weights. -/
  | ethConfigure (p : Fin 4) (m : Fin 8) (stored : Bool)
  /-- ETH_STATUS (R445): Returns a port's link and counters. -/
  | ethStatus (p : Fin 4) (m : Fin 8)
  /-- PEER_CONFIGURE (R446): Configures one peer channel. -/
  | peerConfigure (p : Fin 4) (m : Fin 8) (stored : Bool)
  /-- PEER_STATUS (R446): Returns the state of the 16 peer channels. -/
  | peerStatus (p : Fin 4) (m : Fin 8)
  /-- CAN_FRAME_RECEIVED (R452): A CAN frame with a correct CRC is stored into its receive object, or discarded. -/
  | canFrameReceived (c : Fin 4) (f : CanRx)
  /-- CAN_SELECTION (R457): Selection closes and the winning PENDING object becomes SELECTED. -/
  | canSelection (c : Fin 4)
  /-- CAN_ATTEMPT_END (R458): A transmit attempt ends as sent, lost or errored, and the object's status changes. -/
  | canAttemptEnd (c : Fin 4) (how : CanEnd) (sinceStart : Nat)
  /-- CAN_BUS_OFF (R460): A port enters bus-off: one-shot objects fail and the others are held. -/
  | canBusOff (c : Fin 4)
  /-- CAN_RECOVERED (R460): The bus-off recovery sequence completes and held objects return to PENDING. -/
  | canRecovered (c : Fin 4)
  /-- CAN_CONFIGURE (R467): Configures a CAN port's bit timing, flags and reference. -/
  | canConfigure (p : Fin 4) (m : Fin 8) (stored : Bool)
  /-- CAN_STATUS (R473): Returns a CAN port's state and counters. -/
  | canStatus (p : Fin 4) (m : Fin 8)
  /-- CAN_RX_CONFIGURE (R468): Enables, disables or claims receive objects. -/
  | canRxConfigure (p : Fin 4) (m : Fin 8) (stored : Bool)
  /-- CAN_RX_READ (R469): Returns receive objects and clears their flags. -/
  | canRxRead (p : Fin 4) (m : Fin 8)
  /-- CAN_TX_WRITE (R470): Writes a frame into a transmit object and makes it PENDING. -/
  | canTxWrite (p : Fin 4) (m : Fin 8)
  /-- CAN_TX_CANCEL (R459): Cancels a transmit object before its selection. -/
  | canTxCancel (p : Fin 4) (m : Fin 8)
  /-- CAN_TX_STATUS (R472): Returns the 64 transmit object statuses. -/
  | canTxStatus (p : Fin 4) (m : Fin 8)
  /-- CAN_RECOVER (R474): Starts the bus-off recovery of a port without automatic recovery. -/
  | canRecover (p : Fin 4) (m : Fin 8)
  /-- CAN_STOP (R465): Loads the stop object of the named ports with repeated stop frames. -/
  | canStop (p : Fin 4) (m : Fin 8)
  /-- DIO_FILTERED_CHANGE (R479): A pin's raw state stays unchanged for the filter time and the filtered state changes. -/
  | dioFilteredChange (i : Fin 32)
  /-- DIO_SHORT (R483): An output's current limit has acted for more than 2 ms. -/
  | dioShort (i : Fin 32)
  /-- DIO_THERMAL (R483): An output reaches its shutdown temperature and switches off. -/
  | dioThermal (i : Fin 32)
  /-- DIO_OPEN_LOAD (R483): The open-load test finds the terminal above 8 V three times. -/
  | dioOpenLoad (i : Fin 32)
  /-- DIO_OUTPUT_TIMEOUT (R482): No output set has been applied for 2 rounds, and the outputs switch off. -/
  | dioOutputTimeout
  /-- FIELD_SUPPLY_CHANGED (R481): A field supply changes state. -/
  | fieldSupplyChanged (f : Fin 2) (volt : Nat)
  /-- LOOP_CONVERSION (R490): A loop channel completes a conversion; status, headroom and flags are updated. -/
  | loopConversion (c : Fin 8) (x : LoopSample)
  /-- LOOP_OVERCURRENT_RELEASE (R489): A passive limiter acts for 50 ms, and the loop hold is released. -/
  | loopOvercurrentRelease (c : Fin 8)
  /-- LOOP_HOLD_RETRY (R489): 10 s after an overcurrent release the loop hold is activated again. -/
  | loopHoldRetry (c : Fin 8)
  /-- LOOP_SETTLING_END (R488): 10 ms after a hold change, the settling flag clears. -/
  | loopSettlingEnd (c : Fin 8)
  /-- SEL (R494): A press of SEL enters or leaves trim mode, steps the channel or abandons a span step. -/
  | selButton (ms : Nat)
  /-- SET (R494): A long press of SET captures the zero or span of a trim. -/
  | setButton (ms : Nat)
  /-- TRIM_CAPTURE_DONE (R494): The 64 conversions of a trim capture complete, and Z or S is taken or refused. -/
  | trimCaptureDone
  /-- TRIM_MODE_TIMEOUT (R495): 120 s pass without a press, and trim mode ends. -/
  | trimModeTimeout
  /-- FFE_DIO_CONFIGURE (R497): Configures DIO pin modes, filters and restart options. -/
  | ffeDioConfigure (p : Fin 4) (m : Fin 8) (stored : Bool)
  /-- FFE_LOOP_CONFIGURE (R498): Configures a loop channel. -/
  | ffeLoopConfigure (p : Fin 4) (m : Fin 8) (stored : Bool)
  /-- FFE_STATUS (R499): Returns the module's own field-front readings. -/
  | ffeStatus (p : Fin 4) (m : Fin 8)
  /-- FFE_LOOP_TRIM (R500): Sets, resets or reads a channel's trims. -/
  | ffeLoopTrim (p : Fin 4) (m : Fin 8) (stored : Bool)
  /-- FFE_DIO_RESET (R501): Clears the latched faults of the named pins at the next boundary. -/
  | ffeDioReset (p : Fin 4) (m : Fin 8)
  /-- RECORDER_FLUSH (R506): A flush trigger copies new records and the open record to the MRAM log and writes the header. -/
  | recorderFlush (result : FlushResult)
  /-- RECORDER_READ (R513): Returns recorder records in sequence order. -/
  | recorderRead (p : Fin 4) (m : Fin 8)
  /-- RECORDER_CLEAR (R510): Empties the buffer and the log and writes RECORDER_CLEARED. -/
  | recorderClear (p : Fin 4) (m : Fin 8) (stored : Bool)
  /-- RECORDER_STATUS (R515): Returns the recorder's sequences, counts and flags. -/
  | recorderStatus (p : Fin 4) (m : Fin 8)
  /-- FEED_CHANGED (R518): A feed changes state. -/
  | feedChanged (f : Fin 2) (volt : Nat)
  /-- FEED_LOSS (R522): Both feeds stay below 16 V for 100 µs, and the power-fail flush starts. -/
  | feedLoss (store : Nat)
  /-- POWER_FAIL_FLUSHED (R522): The commit in progress has completed and the recorder has been sealed. -/
  | powerFailFlushed (commitWait sealTime : Nat)
  /-- FEED_RETURN (R523): A feed stands at 16.5 V for 1 ms after feed loss, and the module carries on. -/
  | feedReturn (us store : Nat) (which : Fin 3)
  /-- HOLDUP_READY (R527): The store reaches 41.5 V, and its capacitance is measured. -/
  | holdupReady (store cap ms : Nat)
  /-- HOLDUP_TOPUP (R528): The 24 h capacitance top-up measures the store. -/
  | holdupTopup (store cap : Nat)
  /-- POWER_LOST (R524): The store is exhausted and the module stops wherever it is. -/
  | powerLost
  /-- WATCHDOG_RESET (R521): The watchdog is not served for 100 ms and asserts module reset. -/
  | watchdogReset
  /-- MODULE_START (R519): The module starts after power-on or reset: holds and outputs inactive, recorder and journal recovery,
  installation, self-test and joining. -/
  | moduleStart (r : StartReport)
  /-- UPDATE_CONFIRM_EXPIRY (R544): The confirm window ends, and the module reverts by its role. -/
  | updateConfirmExpiry
  /-- UPDATE_RESTART (R552): 100 ms after an arm with restart at once, the module resets. -/
  | updateRestart
  /-- UPDATE_BEGIN (R549): Opens or resumes a bundle delivery session. -/
  | updateBegin (p : Fin 4) (m : Fin 8)
  /-- UPDATE_BLOCK (R550): Writes and verifies one block of the bundle in staging. -/
  | updateBlock (p : Fin 4) (m : Fin 8) (stored : Bool)
  /-- UPDATE_END (R551): Verifies the whole bundle against the bundle conditions. -/
  | updateEnd (p : Fin 4) (m : Fin 8)
  /-- UPDATE_ARM (R552): Arms or disarms the verified bundle for installation at the next start. -/
  | updateArm (p : Fin 4) (m : Fin 8)
  /-- UPDATE_CONFIRM (R543): Confirms the new firmware in TRIAL. -/
  | updateConfirm (p : Fin 4) (m : Fin 8)
  /-- UPDATE_STATUS (R554): Returns the update state. -/
  | updateStatus (p : Fin 4) (m : Fin 8)
  /-- POWER_STATUS (R531): Returns feeds, hold-up, domains, power and the loss counters. -/
  | powerStatus (p : Fin 4) (m : Fin 8) (x : PowerReading)
  /-- REGISTER_LO_READ (R45): A host read of a _LO register returns its value and latches the matching _HI value for the next _HI read. -/
  | registerLoRead (p : Fin 4) (off : Nat) (width : Nat)
  /-- RULE_EPOCH_COMPLETE (R408): The ACU reports that no transaction of an older epoch is outstanding, so the epoch is complete. -/
  | ruleEpochComplete (epoch : Nat)
  /-- TEST_PULSE_END (R363): A dark or light test pulse reaches its width, the tested switch returns to its state and the readback
  during the pulse is judged. -/
  | testPulseEnd (pClosed mClosed : BitVec 8)
  /-- HANDOVER_OUTPUTS_OFF (R482): 100 µs after LATCH of the handover round the old holder switches its DIO outputs off and opens its
  safety switches. -/
  | handoverOutputsOff
  /-- BREAKPOINT_REACHED (R419): A task under debug control reaches a breakpoint, halts there and raises TASK_HALTED. -/
  | breakpointReached (t : Fin 8) (step : Bool)
  /-- INSERTION_STEP_TIMEOUT (R335): An insertion step exceeds its maximum time and leaves the module in STANDBY with the failing
  condition's mask bit set. -/
  | insertionStepTimeout
  /-- PTP_MESSAGE_INTERVAL (R431): A configured PTP message interval elapses and the port sends Announce, Sync, Follow_Up, Delay_Req
  or Pdelay messages. -/
  | ptpMessageInterval (e : Fin 2) (k : PtpTimer)
  /-- ETH_FRAME_SENT (R435): A plant Ethernet frame finishes transmission, frees its transmit buffer, returns its timestamp entry and
  lets the queue service pick the next frame. -/
  | ethFrameSent (e : Fin 2)
  /-- CAN_RECEIVE_ERROR (R460): An error detected while receiving on a CAN port raises the receive error counter and may change the
  error state. -/
  | canReceiveError (c : Fin 4) (eight : Bool)
  /-- DIO_THERMAL_RESTART (R483): An output pin in thermal shutdown has cooled by 15 K and switches on again, or becomes able to
  restart once cleared. -/
  | dioThermalRestart (i : Fin 32)
  /-- DIO_FAULT_CONDITION_ENDS (R483): The condition of a non-latched DIO fault (short or open load) ends and the pin's fault bit
  clears by itself. -/
  | dioFaultConditionEnds (i : Fin 32) (openLoad : Bool)
deriving DecidableEq, Repr

end Sys2Proof
end

