-- ==== Sys2Proof/Decode.lean ====
section
/-! DEFINITION. Commands spelled by words: the table of this block gives no row any bits. -/

namespace Sys2Proof

/-- The command a word spells by the bits of spec/opcode_table.json: the table gives no row bits, so no word spells one. -/
def decodeTableWord (_nbits _w : Nat) : Option Instr := none

end Sys2Proof
end

