-- ==== Sys2Proof/Config.lean ====
section
/-! DEFINITION. What the spec leaves to something outside it: values it does not state, layouts it gives
to another product, and algorithms of the standards it names. Each is opaque: nothing in Lean can know
its value, so a statement about it holds for every value. -/

namespace Sys2Proof.Config

open Sys2Proof.Machine

/-- What the reply data of a STATUS request say of a node's neighbours and links: 04 R575 says what is
reported, and no rule gives the layout (log 13). -/
opaque statusNeighbours (node : Nat) (reply : List Byte) : List Neighbour

/-- The reply data with which a module answers a STATUS request from its own neighbours and links: 04 R575 says what is
reported, and no rule gives the layout (log 13). -/
opaque statusBody (links : List Neighbour) : List Byte

/-- The MAC address and declared forwarding latency in a node's reply data: 04 R148 says they are
reported, and no rule gives the layout (log 13). -/
opaque replyIdentity (node : Nat) (reply : List Byte) : Nat × Nat

/-- A node's safe-value selection as its CONFIG carries it: 05 R166 names it, and no rule gives its source or its
code (log 15). -/
opaque safeSelection (net node : Nat) : Byte

/-- Command and feedforward of the record of an IDLE axis by axis and round: 06 R205, R207 fix its enable bit
and mode, and no rule states the two values (log 18). -/
opaque idleCommand (axis round : Nat) : Int × Int

/-- RUN_REFUSED's cause where a split AP0 refuses RUN: 11 R360 says that RUN is refused, and 08 R277 lists no
cause for it (log 27). -/
opaque splitRunCause : Nat

/-- What an image's mapping table lists, down to elementary values; none where it cannot be read: 08 R244 says what it
holds and gives it to Plovcy, and no rule gives its layout (log 27). -/
opaque places (image : Image) : Option (List Place)

/-- The bytes of a NaN converted to LREAL, or to REAL: 09 R292 has it rounded, and no rule states its bits (log 30). -/
opaque nanAs (long : Bool) (value : List Byte) : List Byte

/-- Data offset that a stored reference names, none for NULL: 09 R292 says that references are retargeted, and no rule
gives their code (log 30). -/
opaque refTarget (value : List Byte) : Option Nat

/-- A reference to a data offset, or NULL, as it is stored (09 R292; log 30). -/
opaque refValue (target : Option Nat) : List Byte

/-- Where the data of a station window lie in the station-class images, and the task that owns a downstream
window, by network and window index: 08 R244 gives the station configuration to Plovcy, and no rule gives its
layout (log 27). -/
opaque stationRegion (stationConfig : List Byte) (net window : Nat) : Nat × Nat

/-- The stage state block of an axis as the engine's digest takes it: 06 R191 keeps the block private to the CEN,
and no rule gives its layout (log 28). -/
opaque stageStateBytes (axis : Nat) (a : Axis) : List Byte

/-- Windowed difference and distance that a safety channel takes for an axis while no accepted container lies W
or more rounds back: 11 R350 defines them from such a container alone (log 31). -/
opaque noReference (chan axis round : Nat) (x : Int) : Int × Nat

/-- Round number the SML works with while it has no round count of its own (11 R570), by the module's round
(log 31). -/
opaque smlRoundless (round : Nat) : Nat

/-- Outcome of the affected-axis test of an activation for an axis of which a channel holds no position, 0 passed,
1 speed, 2 position, taken modulo 3: 11 R370 states the test from the axis's motion alone (log 34). -/
opaque activationUnseen (chan axis round : Nat) : Nat

/-- Change of the PTU increment the PTP servo makes at an offset within the threshold, in 2^-16 ns per tick, by the
increment in force and the offset in ns: 13 R425 bounds the rate change, and no rule gives the servo (log 36). -/
opaque servoChange (inc : Nat) (offset : Int) : Int

/-- Outcome of the best master clock algorithm of IEEE 1588-2019 (13 R430): the states of both ports and the
grandmaster identity, by the configuration, the states before, the port, the message type, or 256 at the expiry of
an interval and 257 at a start, and the message's content. The spec names the standard and gives no rule of it
(log 37). -/
opaque ptpDecision (cfg : PtpCfg) (states : Nat × Nat) (gm port messageType : Nat) (content : List Byte) : Nat × Nat × Nat

/-- A record of the log is still readable after a clear whose MRAM write failed, by its sequence and the time: 16 R514
says that the log keeps whatever the write left readable (log 7). -/
opaque leftReadable (seq time : Nat) : Bool

/-- Verification of an ECDSA signature with a key of the module by its index: 18 R537 names the algorithm and the
keys, whose values no rule gives (log 38). -/
opaque signatureValid (key : Nat) (digest signature : List Byte) : Bool

/-- Receive error counter after a frame received without error while it stood above 127: 14 R460 leaves it to ISO
11898-1, which takes any value from 119 to 127; taken modulo 9 above 119 (log 40). -/
opaque recAfter (counter : Nat) : Nat

/-- Bytes of a pair link message whose layout no rule gives: 10 R309 names what it carries (log 99). -/
opaque plkContent (b : PlkBody) : List Byte

/-- MiB of the first pass of a resync started in a round: 10 R343 names the figure, and no rule gives the sizes of the
items it counts (log 42). -/
opaque resyncSize (round : Nat) : Nat

/-- Bytes of the SVP's SRAM that belong to the service channel of AP0 (0) or AP1 (1): 01 R25 and R28 name the channels,
and no rule gives their addresses (log 43). -/
opaque serviceChannel (pair addr : Nat) : Bool

/-- Cause that RESYNC_STARTED names where a standby asks for a resync after a pair fault: 12 R398 asks for it, and 10 R343
lists no cause for it (log 44). -/
opaque resyncFaultCause (round : Nat) : Nat

/-- What the memory code makes of a word with more than 3 stored bits wrong, or reached by a fault in more than 2 address bits: 12 R393
names none of these (log 125). -/
opaque codeBeyond (err : BitVec 80) (fault : BitVec 29) : CodeResult

/-- RUN_REFUSED's cause where a module in TEST refuses RUN: 12 R391 says that it leaves TEST only by a reset, and 08 R277 lists no cause
for it (log 27). -/
opaque testRunCause : Nat

/-- Whether a clean L2 line that is refetched counts as a corrected double-bit error, else as a single-bit one: 12 R397
says that it is counted as corrected (log 45). -/
opaque refetchedDouble (area addr : Nat) : Bool

/-- Stored objects changed since the trial start of a bundle, by the round: 18 R545 reports their count, and no rule says
what counts as one object (log 46). -/
opaque objectsChanged (bundle round : Nat) : Nat

/-- Regions of a master in areas of DRAM, and of a core's service channel and the SVP's code, under an active image by its id:
12 R401 names the areas, and no rule gives their addresses (log 86). -/
opaque dramRules (master image : Nat) : List Region

/-- Domain of the block whose unit registers lie at an address, taken modulo 12; none for the SML's: 01 R25 gives the window
to every block, and no rule gives a block's place in it (log 86). -/
opaque unitDomain (addr : Nat) : Option Nat

/-- Networks, bit n for Nn, whose stations the two station configurations treat differently, taken modulo 4: 08 R244 gives the
station configuration to Plovcy, and no rule gives its layout (log 27). -/
opaque stationChange (old new : List Byte) : Nat

end Sys2Proof.Config
end

