-- ==== Sys2Proof/Machine/Bytes.lean ====
section
/-! DEFINITION. Byte order, field access, signed fields, saturating counts and the canonical byte
store: the helpers every layout of the spec is read and written with (00 R8 to R11). -/

namespace Sys2Proof.Machine

/-- The unsigned byte at an offset of a structure; a byte beyond its end reads 0. -/
def u8At (b : List Byte) (i : Nat) : Nat := (b.getD i 0).toNat

/-- A u16 field, little-endian (R8). -/
def u16At (b : List Byte) (i : Nat) : Nat := u8At b i + 256 * u8At b (i + 1)

/-- A u32 field, little-endian (R8). -/
def u32At (b : List Byte) (i : Nat) : Nat := u16At b i + 65536 * u16At b (i + 2)

/-- A u64 field, little-endian (R8). -/
def u64At (b : List Byte) (i : Nat) : Nat := u32At b i + 4294967296 * u32At b (i + 4)

/-- The two's-complement value of an unsigned field of the given width (R10). -/
def toSigned (bits x : Nat) : Int := if x < 2 ^ (bits - 1) then (x : Int) else (x : Int) - 2 ^ bits

/-- An s8 field (R10). -/
def s8At (b : List Byte) (i : Nat) : Int := toSigned 8 (u8At b i)

/-- An s16 field (R10). -/
def s16At (b : List Byte) (i : Nat) : Int := toSigned 16 (u16At b i)

/-- An s32 field (R10). -/
def s32At (b : List Byte) (i : Nat) : Int := toSigned 32 (u32At b i)

/-- An s64 field (R10). -/
def s64At (b : List Byte) (i : Nat) : Int := toSigned 64 (u64At b i)

/-- The low n bytes of a number, least significant first (R8). -/
def le : Nat → Nat → List Byte
  | 0, _ => []
  | n + 1, x => BitVec.ofNat 8 x :: le n (x / 256)

/-- A big-endian ("network byte order") field of n bytes (R8). -/
def be (n x : Nat) : List Byte := (le n x).reverse

/-- A signed field of n bytes, little-endian two's complement (R10). -/
def leS (n : Nat) (x : Int) : List Byte := le n (x.emod (256 ^ n)).toNat

/-- n reserved bytes, which the module writes as zero (R11). -/
def zeros (n : Nat) : List Byte := List.replicate n 0

/-- A structure brought to exactly n bytes: cut, or filled with zeros (R11). -/
def padTo (n : Nat) (b : List Byte) : List Byte := (b ++ zeros n).take n

/-- The n bytes of a structure from an offset; bytes beyond the end read 0. -/
def slice (b : List Byte) (i n : Nat) : List Byte := padTo n (b.drop i)

/-- True where every byte of a range is zero. -/
def allZero (b : List Byte) (i n : Nat) : Bool := (slice b i n).all (· == 0)

/-- One bit of a field as a flag. -/
def bitAt (x i : Nat) : Bool := x.testBit i

/-- A flag as a bit in place i. -/
def flagBit (f : Bool) (i : Nat) : Nat := if f then 2 ^ i else 0

/-- 1 or 0. -/
def b2n (f : Bool) : Nat := if f then 1 else 0

/-- A count that saturates at its largest value. -/
def satAdd (top x k : Nat) : Nat := min top (x + k)

/-- A u16 count that saturates. -/
def inc16 (x : Nat) : Nat := satAdd 0xFFFF x 1

/-- A u32 count that saturates at 0xFFFF_FFFF. -/
def inc32 (x : Nat) : Nat := satAdd 0xFFFFFFFF x 1

/-- An integer clamped to a closed range. -/
def clampInt (lo hi x : Int) : Int := if x < lo then lo else if hi < x then hi else x

/-- Division of naturals rounded up. -/
def ceilDiv (a b : Nat) : Nat := (a + b - 1) / b

/-- Division of an integer by a positive integer, to the nearest, halves away from zero. -/
def roundDivAway (a : Int) (b : Nat) : Int :=
  if 0 ≤ a then (2 * a + b) / (2 * b) else -((2 * (-a) + b) / (2 * b))

/-- The low 32 bits of a number: "round [31:0]" and the like. -/
def lo32 (x : Nat) : Nat := x % 4294967296

/-- An integer as the 32 bits of an event parameter. -/
def s32Param (x : Int) : Nat := (x.emod 4294967296).toNat

/-- The ASCII bytes of a text. -/
def ascii (t : String) : List Byte := t.toList.map fun c => BitVec.ofNat 8 c.toNat

/-- A vector built from its index. -/
def vgen {α : Type} (n : Nat) (f : Nat → α) : Vector α n := ⟨⟨(List.range n).map f⟩, by simp⟩

/-- A vector mapped entry by entry. -/
def vmap {α β : Type} {n : Nat} (f : α → β) (v : Vector α n) : Vector β n :=
  ⟨⟨v.toArray.toList.map f⟩, by simp⟩

/-- One entry of a vector changed. -/
def vmod {α : Type} {n : Nat} (v : Vector α n) (i : Fin n) (f : α → α) : Vector α n :=
  v.set i (f v[i])

/-- An entry by a number; out of range gives the default. -/
def vget {α : Type} {n : Nat} (v : Vector α n) (i : Nat) (d : α) : α := v.toArray.toList.getD i d

/-- One entry by a number changed; out of range changes nothing. -/
def vput {α : Type} {n : Nat} (v : Vector α n) (i : Nat) (f : α → α) : Vector α n :=
  if h : i < n then v.set i (f v[i]) else v

/-- The entries of a vector as a list, lowest index first. -/
def vlist {α : Type} {n : Nat} (v : Vector α n) : List α := v.toArray.toList

/-- One entry of a list changed by its index. -/
def lmod {α : Type} (l : List α) (i : Nat) (f : α → α) : List α := l.modify i f

/-- Replace in an association list, or append. -/
def assocPut {α β : Type} [BEq α] (l : List (α × β)) (k : α) (v : β) : List (α × β) :=
  if l.any (fun e => e.1 == k) then l.map (fun e => if e.1 == k then (k, v) else e) else l ++ [(k, v)]

/-! ### The canonical byte store -/

/-- The byte at an address; an unlisted address reads 0. -/
def memRead : Mem → Nat → Byte
  | [], _ => 0
  | (k, v) :: m, a => if k = a then v else if a < k then 0 else memRead m a

/-- A byte written; the canonical form is kept: writing 0 removes the entry. -/
def memWrite : Mem → Nat → Byte → Mem
  | [], a, b => if b = 0 then [] else [(a, b)]
  | (k, v) :: m, a, b =>
    if k = a then (if b = 0 then m else (a, b) :: m)
    else if a < k then (if b = 0 then (k, v) :: m else (a, b) :: (k, v) :: m)
    else (k, v) :: memWrite m a b

/-- n bytes from an address. -/
def memReadN (m : Mem) (a : Nat) : Nat → List Byte
  | 0 => []
  | n + 1 => memRead m a :: memReadN m (a + 1) n

/-- A run of bytes written from an address. -/
def memWriteN (m : Mem) (a : Nat) : List Byte → Mem
  | [] => m
  | b :: bs => memWriteN (memWrite m a b) (a + 1) bs

/-- Every key lies above a bound, the keys rise strictly, and no entry holds 0. -/
def memWfFrom : Nat → Mem → Bool
  | _, [] => true
  | lo, (k, v) :: m => lo ≤ k && v != 0 && memWfFrom (k + 1) m

/-- The canonical form of a byte store. -/
def Mem.wf (m : Mem) : Bool := memWfFrom 0 m

end Sys2Proof.Machine
end

