-- ==== Sys2Proof/Machine/State.lean ====
section
/-! DEFINITION. The state of one RC8 module, and the module right after reset. -/

namespace Sys2Proof.Machine

open Sys2Proof



/-! ### What the module puts out -/

/-- One thing the module puts out: a write into host memory, a message, a frame. -/
inductive Out where
  /-- A write into host memory through a host port (02 R27, R73). -/
  | hostWrite (p : Fin 4) (addr : Nat) (data : List Byte)
  /-- An MSI-X message of a vector (02 R47). -/
  | msix (p : Fin 4) (vec : Fin 4) (addr : Nat) (data : U32)
  /-- The completion of a host read (02 R43 to R45). -/
  | readData (p : Fin 4) (data : List Byte)
  /-- A poisoned completion of a host read (12 R397). -/
  | readPoisoned (p : Fin 4)
  /-- A Budan frame sent on a port of a network: destination, source, EtherType, Budan header and data (05 R153). -/
  | budan (n : Fin 2) (port : Fin 4) (dest src etherType kind round schedId flags : Nat) (data : List Byte)
  /-- A Budan frame of another sender repeated on a port: forwarded, or turned back (04 R125, R126). -/
  | repeated (n : Fin 2) (port : Fin 4) (frame : BudanCopy)
  /-- A link-local exchange of the link delay measurement sent on a port in a round (04 R136, 05 R170). -/
  | linkLocal (n : Fin 2) (port : Fin 4) (src round : Nat)
  /-- The answer of the TIME service (08 R270). -/
  | timeReply (t : Fin 8) (plant mono : Nat)
  /-- The answer of the TASK_INFO service: number, cycle sequence, overruns, consecutive overruns, mode (08 R270). -/
  | taskInfo (t : Fin 8) (seq overruns consec : Nat) (mode : Mode)
  /-- A service call refused at once, or answered in the call, with a status (08 R270). -/
  | serviceStatus (t : Fin 8) (st : Status) (data : List Byte)
  /-- A message on the pair link: type, flags, sequence, round, content, and the bytes on the link (10 R308, R309). -/
  | plk (type flags seq round : Nat) (body : PlkBody) (wire : List Byte)
  /-- The partner reply inserted into the holder's MGMT frame as it passes in a ring (05 R168). -/
  | partnerReply (n : Fin 2) (data : List Byte)
  /-- The node reply of a module inserted into the holder's MGMT frame as it passes in a ring (05 R167, R576). -/
  | nodeReply (n : Fin 2) (data : List Byte)
  /-- The answer of the debug port to a request: accepted or refused in the debug status (12 R387, R389). -/
  | debugStatus (accepted : Bool)
  /-- A plant Ethernet frame starts on the wire of a port (13 R435). -/
  | eth (port : Fin 2) (frame : EthFrame)
  /-- A frame of a transmit object sent on a CAN port: −2 the stop object, −1 the reference object, else the object's number;
  identifier with bit 31 set where it is extended (14 R457, R458). -/
  | can (port : Fin 4) (obj : Int) (id dlc : Nat) (data : List Byte)
deriving DecidableEq, Repr

/-! ### The module -/

/-- The stored configuration objects of which a trial keeps the old-format copies (18 R545): all that the module stores but
its host rights (02 R65), its safety set and password, which no fallback reverts (18 R546), and what is no configuration.
DESIGN CHOICE, log 101. Every field resets as the field of Nv of its name. -/
structure StoredCfg where
  /-- Round period (03 R93) -/
  storedPeriod : Nat
  /-- Host-sourced milestones (03 R97) -/
  hostMilestones : List Milestone
  /-- Media configurations (04 R149) -/
  media : Vector Media 2
  /-- Schedules (05 R154) -/
  schedules : Vector (List Schedule) 2
  /-- Schedule in force at a cold start (05 R175) -/
  schedActive : Vector Nat 2
  /-- Engine banks (06 R210) -/
  banks : Vector Bank 2
  /-- Active bank (06 R210) -/
  bankActive : Fin 2
  /-- Learning configurations (07 R234) -/
  learnCfg : List (Nat × LearnCfg)
  /-- Snapshots (07 R238; 17 R529) -/
  snaps : List (Nat × Vector (Option SnapSlot) 2)
  /-- Active image (08 R244) -/
  active : Option Image
  /-- Loaded image (08 R244) -/
  loaded : Option Image
  /-- Change package (09 R284) -/
  package : Option Package
  /-- The retained area of the active image (09 R283) -/
  retainUse : Fin 2
  /-- Home module (10 R333) -/
  home : Nat
  /-- Settle time (10 R333) -/
  settle : Nat
  /-- Boot configuration (12 R386) -/
  split : BitVec 2
  /-- PTP configuration (13 R442) -/
  ptp : PtpCfg
  /-- Plant Ethernet ports (13 R444) -/
  ethCfg : Vector EthCfg 2
  /-- Peer channel records (13 R438) -/
  peerCfg : Vector PeerCfg 16
  /-- CAN configurations (14 R467) -/
  canCfg : Vector CanCfg 4
  /-- Receive objects (14 R468) -/
  canRx : Vector (List RxCfg) 4
  /-- DIO pins (15 R497) -/
  pinCfg : Vector PinCfg 32
  /-- Loops (15 R498) -/
  loopCfg : Vector LoopCfg 8
  /-- Loop trims (15 R493; 17 R529) -/
  trims : Vector Trim 8
deriving DecidableEq, Repr

/-- What MRAM, flash and the stored configuration hold: kept through resets and power loss. -/
structure Nv where
  /-- Host rights table, one entry per port, in MRAM — 02 R65; reset as at delivery: HP0 ENGINEER 0x1F, others OBSERVE 0x01 -/
  rights : Vector Rights 4
  /-- Recorder MRAM log — 16 R506; reset per field -/
  recLog : RecLog
  /-- Round period stored for the next cold start of the pair, ns — 03 R93, R116; reset DESIGN CHOICE 125,000 (log 8) -/
  storedPeriod : Nat
  /-- Host-sourced milestones stored — 03 R97, R115; reset DESIGN CHOICE none (log 8) -/
  hostMilestones : List Milestone
  /-- Media configurations stored for the next cold start of the pair — 04 R149; reset DESIGN CHOICE ring, both channels, EtherType
  0x88B5 (log 11) -/
  media : Vector Media 2
  /-- Stored schedules per network, at most four — 05 R154; reset DESIGN CHOICE none (log 12) -/
  schedules : Vector (List Schedule) 2
  /-- Id of the schedule a cold start puts in force per network, 0 none — 05 R154, R175; reset DESIGN CHOICE 0 (log 12) -/
  schedActive : Vector Nat 2
  /-- Parameter banks 0 and 1, an unlisted block being the default one — 06 R191, R195, R210, 17 R529; reset DESIGN CHOICE
  no block written, generation 0 (log 17) -/
  banks : Vector Bank 2
  /-- Active bank — 06 R210; reset DESIGN CHOICE 0 (log 17) -/
  bankActive : Fin 2
  /-- Learning configurations stored in MRAM, by axis — 07 R234; reset as at delivery: master kind 0, DESIGN CHOICE k 8 and zeros (log 17) -/
  learnCfg : List (Nat × LearnCfg)
  /-- Snapshot slots A and B of axes that have one, in MRAM — 07 R238; reset DESIGN CHOICE none (log 17) -/
  snaps : List (Nat × Vector (Option SnapSlot) 2)
  /-- Active program image in flash — 08 R244; reset DESIGN CHOICE none (log 16) -/
  active : Option Image
  /-- Loaded program image in flash — 08 R244; reset DESIGN CHOICE none (log 16) -/
  loaded : Option Image
  /-- Retained areas A and B in MRAM, 8 MiB each — 08 R252, 09 R283; reset DESIGN CHOICE 0 (log 16) -/
  retain : Vector Mem 2
  /-- Retained area in use — 09 R283; reset DESIGN CHOICE 0 (log 16) -/
  retainUse : Fin 2
  /-- Journal records not marked applied, oldest first — 08 R252; reset DESIGN CHOICE none (log 16) -/
  journal : List JournalRec
  /-- Change package kept with its image in flash — 09 R284, R281; reset DESIGN CHOICE none (log 16) -/
  package : Option Package
  /-- The last reset met a change in PREPARING or ARMED — 09 R283, R284; reset 0 -/
  armedAtReset : Bool
  /-- Home module, 0 none, 1, 2 — 10 R333, R341; reset DESIGN CHOICE 0 (log 9) -/
  home : Nat
  /-- Settle time in s, 10 to 3,600 — 10 R333; reset 60 -/
  settle : Nat
  /-- Highest lease epoch seen, u16 — 10 R311; reset DESIGN CHOICE 0 (log 9) -/
  highestEpoch : Nat
  /-- Active safety parameter set, 8,512 bytes, in MRAM — 11 R367; reset DESIGN CHOICE none (log 21) -/
  safeActive : Option (List Byte)
  /-- Pending safety parameter set — 11 R367; reset DESIGN CHOICE none (log 21) -/
  safePending : Option (List Byte)
  /-- Copies found bad since they were written: A and B of the active set, A and B of the pending set — 11 R367, 12 R397; reset DESIGN
  CHOICE 0 (log 21) -/
  safeBad : Vector Bool 4
  /-- Safety password: salt of 16 bytes and value of 32 bytes — 11 R368; reset none, as at delivery -/
  password : Option (List Byte × List Byte)
  /-- Change log, at most 256 entries, oldest first — 11 R371; reset DESIGN CHOICE empty (log 21) -/
  safeLog : List SafeLogEntry
  /-- Change log total, u32 — 11 R371; reset DESIGN CHOICE 0 (log 21) -/
  safeTotal : Nat
  /-- Split bits of AP0 and AP1 in the boot configuration — 12 R386; reset DESIGN CHOICE 0 (log 22) -/
  split : BitVec 2
  /-- Lockstep mismatch of the SVP recorded in PD0: its round — 12 R385; reset none -/
  pd0Mismatch : Option Nat
  /-- Access violation of the SVP recorded in PD0 — 12 R405; reset none -/
  pd0Violation : Option AsvEntry
  /-- PTP configuration — 13 R442; reset DESIGN CHOICE PTP off, threshold 1 µs and step at first lock as the defaults (log 23) -/
  ptp : PtpCfg
  /-- Configurations of the plant Ethernet ports — 13 R444; reset DESIGN CHOICE disabled, weights 1 (log 23) -/
  ethCfg : Vector EthCfg 2
  /-- Peer channel records — 13 R438; reset DESIGN CHOICE disabled (log 23) -/
  peerCfg : Vector PeerCfg 16
  /-- CAN configurations — 14 R467; reset DESIGN CHOICE disabled, 500 kbit/s (log 24) -/
  canCfg : Vector CanCfg 4
  /-- Receive object configurations; an unlisted object is a base object — 14 R468; reset DESIGN CHOICE none: every object disabled (log 24) -/
  canRx : Vector (List RxCfg) 4
  /-- DIO pin configurations — 15 R497; reset DESIGN CHOICE unused, filter 0.1 ms (log 25) -/
  pinCfg : Vector PinCfg 32
  /-- Loop configurations — 15 R498; reset DESIGN CHOICE unused (log 25) -/
  loopCfg : Vector LoopCfg 8
  /-- Loop trims of this module — 15 R493; reset 0, as at delivery -/
  trims : Vector Trim 8
  /-- Feed losses, total, u32 saturating, in MRAM — 17 R531; reset DESIGN CHOICE 0 (log 19) -/
  feedLosses : Nat
  /-- Feed losses survived, total, u32 saturating — 17 R531; reset DESIGN CHOICE 0 (log 19) -/
  lossesSurvived : Nat
  /-- Longest feed loss survived, µs, u32 — 17 R531; reset DESIGN CHOICE 0 (log 19) -/
  longestLoss : Nat
  /-- Last commit wait, µs, u32 — 17 R531; reset DESIGN CHOICE 0 (log 19) -/
  commitWait : Nat
  /-- Last seal time, µs, u32 — 17 R531; reset DESIGN CHOICE 0 (log 19) -/
  sealTime : Nat
  /-- Watchdog resets, total, u32 saturating — 17 R531; reset DESIGN CHOICE 0 (log 19) -/
  watchdogs : Nat
  /-- Plant time seconds of the last feed loss, u64 — 17 R531; reset 0: none -/
  lastLoss : Nat
  /-- Firmware parts 1 to 6 in flash — 18 R533; reset DESIGN CHOICE version 1.0.0.0, every level 1 (log 20) -/
  parts : Vector FwSlots 6
  /-- Security versions of the last confirmed images, u16 — 18 R537; reset DESIGN CHOICE 0 (log 20) -/
  security : Vector Nat 6
  /-- Revocation floor, 0 to 3 — 18 R537; reset 0 -/
  floor : Nat
  /-- The update — 18 R540; reset per field -/
  upd : Update
  /-- Old-format copies of the configuration objects, kept through a trial — 18 R544, R545; reset none -/
  oldFormat : Option StoredCfg
deriving DecidableEq, Repr

/-- Everything the spec gives one module. -/
structure Rc8 where
  /-- Identity of the part — 02 R82; reset per field -/
  ident : Ident
  /-- REFOSC and PTU — 01 R34, R35; reset per field -/
  clk : Clock
  /-- Service firmware serves mailboxes (HP_STATUS.svp_ready) — 02 R45, R56; reset 0 -/
  svpReady : Bool
  /-- Host ports HP0 to HP3 — 02 R42; reset per field -/
  hp : Vector HostPort 4
  /-- Commands acknowledged and not yet delivered, in order of acknowledgement — 01 R31, 02 R58; reset empty -/
  execs : List Exec
  /-- Number the next acknowledged command takes (the model's own) — DESIGN CHOICE (log 2); reset 0 -/
  nextExec : Nat
  /-- Doorbells accepted so far, the order of arrival — 01 R31; reset 0 -/
  arrivals : Nat
  /-- Rate-limit table of events — 02 R568; reset empty -/
  limits : List Limit
  /-- BAR2 sections: axis status, motion input, motion output, station input, station output — 02 R49; reset generation 0 -/
  bar2 : Vector Bar2Sec 5
  /-- What the module has put out so far, oldest first (the model's own trace) — DESIGN CHOICE (log 2); reset empty -/
  out : List Out
  /-- Recorder, volatile half — 16 R506; reset per field -/
  rcd : Recorder
  /-- Rounds and milestones — 03; reset per field -/
  rnd : Rounds
  /-- Networks N0 and N1 — 04; reset per field -/
  net : Vector Net 2
  /-- Schedules and frames of N0 and N1 — 05; reset per field -/
  sch : Vector Sched 2
  /-- Control engine — 06; reset per field -/
  eng : Engine
  /-- Repetitive learning of the axes that have had a configuration; an unlisted axis is at its reset — 07 R234; reset as stored -/
  learn : List (Nat × Learn)
  /-- The tables have been restored at this start — 07 R239; reset 0 -/
  tablesRestored : Bool
  /-- Program runtime — 08; reset per field -/
  run : Runtime
  /-- Online change — 09; reset per field -/
  chg : Change
  /-- Pair redundancy — 10; reset per field -/
  pair : Pair
  /-- Safety functions — 11; reset per field -/
  saf : Safety
  /-- Lockstep, memory code, access control and debugging — 12; reset per field -/
  itg : Integrity
  /-- Plant time — 13; reset per field -/
  tim : PlantTime
  /-- Plant Ethernet ports 0 and 1 — 13; reset per field -/
  eth : Vector EthPort 2
  /-- Peer channels 0 to 15 — 13; reset per field -/
  peers : Vector Peer 16
  /-- CAN ports 0 to 3 — 14; reset per field -/
  can : Vector CanPort 4
  /-- Field front — 15; reset per field -/
  ffe : FieldFront
  /-- Power — 17; reset per field -/
  pwr : Power
  /-- REFOSC time at which UPDATE_ARM's restart resets the module — 18 R552; reset none -/
  restartAt : Option Nat
  /-- REFOSC time from which the confirm window runs in this start, none while it does not — 18 R542; reset none -/
  trialFrom : Option Nat
  /-- A crossover asked for by the expiry of the window: module reset follows — 18 R544; reset 0 -/
  expiryHandover : Bool
  /-- MRAM, flash and stored configuration — 00 R18; reset per field -/
  nv : Nv
deriving DecidableEq, Repr

/-- The block's state: the module, and the commands that wait. -/
structure State extends Rc8 where
  /-- Commands waiting, first in, first out (the model's own) — DESIGN CHOICE (log 1); reset empty -/
  pending : List Instr
deriving DecidableEq, Repr

/-- Why a command stops the block.  Raised by a meaning whose operands no sender can send; safe: such
a command is given no effect at all. -/
inductive Fault where
  /-- The operands are outside what WellFormed admits: no bus transaction, frame or measurement of this
  shape exists.  Raised by the meanings that take data of a bounded length; safe. -/
  | illFormed (mnemonic : String)
deriving DecidableEq, Repr

/-- Why a command has no meaning in the model. -/
inductive Refusal where
  /-- The command has no meaning yet: raised by its arm of exec alone; safe. -/
  | notModelled (mnemonic : String)
deriving DecidableEq, Repr

/-! ### Reset -/

/-- A mailbox after module reset. -/
def Mailbox.reset : Mailbox := { state := .free, mem := [], lastSeq := none, order := 0 }

/-- An MSI-X vector after reset. -/
def MsixVec.reset : MsixVec := { addr := 0, data := 0, masked := true, pend := false }

/-- The ring registers after reset (02 R45). -/
def Evq.reset : Evq :=
  { base := 0, size := 6, enable := false, headAddr := 0, tail := 0, head := 0, phase := true,
    mask := Vector.replicate 4 0xFFFFFFFF, coalTime := 0, coalCount := 1, lost := 0,
    configError := false, tailError := false, dmaError := false, seq := 0, lossCount := 0,
    lossFirst := 0, lossLast := 0, uninterrupted := 0, oldest := 0 }

/-- A host port after module reset (02 R45). -/
def HostPort.reset : HostPort :=
  { link := false, speed := 0, width := 0, scratch := 0, mbxDone := 0, mbxError := 0,
    mbxErrorCount := 0, evq := Evq.reset, tickRound := 0, latchBase := none, latchHead := none,
    latchTick := none, msix := Vector.replicate 4 MsixVec.reset,
    mbx := Vector.replicate 8 Mailbox.reset, highest := none, log := [], logTotal := 0 }

/-- A Budan port after module reset. -/
def NetPort.reset : NetPort :=
  { link := false, ups := 0, delay := none, frames := 0, fcs := 0, foreign := 0, blocks := 0, cuts := 0, reflections := 0, reflecting := false, reflectEnds := false, reflected := false, exchanges := 0 }

/-- A network after module reset, over its stored media configuration. -/
def Net.reset (m : Media) (mac : Nat) : Net :=
  { media := m, state := if m.chans = 0 then .notConfigured else .bypassed, ports := Vector.replicate 4 NetPort.reset,
    holds := 0, seq := none, lineMode := 0, nodes := [], timeErr := 0, conv := 0, errFrom := none, lossRounds := 0, aFull := false,
    down := Vector.replicate 3 0, downEpisode := false, listenFrom := none, heard := false, metSilence := false,
    launchFrom := 0, guard := { lease := false, closed := false, good := 0, cuts := 0, faults := 0 },
    ringMap := [], margins := none, partnerMac := 0, mac := mac }

/-- Schedule and frame state after module reset. -/
def Sched.reset : Sched :=
  { inForce := none, pending := none, load := none, wins := [], sel := [], rxFrozen := false, tx := [], txFrozen := [],
    txClosed := false, gatherOpen := false, commandOpen := false, mgmtOpen := none, mgmtLast := none, openLinks := Vector.replicate 3 0,
    arrived := [], fullSeen := none, count := Vector.replicate 2 { corrupt := 0, late := 0, valid := 0, mismatching := 0, missing := 0, silent := 0, run := 0, episode := false, calm := 8 },
    stops := [], stopSeq := 0, request := { target := 0xFF, code := 0, seq := 0, data := [] }, answered := { target := 0xFF, code := 0, seq := 0, data := [] }, cycle := 0, toDelete := [], work := [],
    quiet := [], fetch := none, kept := [] }

/-- Zero. -/
def Fl.zero : Fl := { m := 0, e := 0 }

/-- No command. -/
def CmdRec.zero : CmdRec := { command := 0, feedforward := 0, enable := false, quick := false, mode := 0 }

/-- An axis before its first round. -/
def Axis.reset : Axis :=
  { st := .idle, started := false, biq := Vector.replicate 5 [], exps := Vector.replicate 5 0, i := Fl.zero, y := Fl.zero,
    ff := Fl.zero, ev := Fl.zero, v := Fl.zero, ep := Fl.zero, vRef := 0, p := none, delta := 0, received := false, miss := 0,
    bound := 0, resetBit := false, band := .low, bandCount := 0, cause := 0, fromIdle := false, enableOff := false,
    quick := false, since := 0, ramp := 0, rampDone := false, last := CmdRec.zero, extra := 0, memError := false,
    haltDue := false, resetDue := false, react := .hold, status := [] }

/-- The engine after module reset. -/
def Engine.reset : Engine :=
  { st := .run, axes := [], started := false,
    done := false, records := [], lastRecords := [], repeating := false, recovered := none, slipped := false, usedGen := 0,
    swapAt := none, lastSwap := 0, faults := 0, extraRounds := 0, satRounds := 0, axisFaults := 0, lastFault := 0,
    handed := [], gap := none, moved := 0, bare := 0, barred := false }

/-- A learning configuration as at delivery: master kind 0. -/
def LearnCfg.reset : LearnCfg :=
  { k := 8, kind := 0, master := 0, exp := 0, lead := 0, restore := false, origin := 0, cycle := 0, low := 0, high := 0,
    gainM := 0, gainE := 0, monitor := 8, growth := 5120, q0 := 0, q1 := 0, q2 := 0, q3 := 0 }

/-- Learning of an axis after reset. -/
def Learn.reset : Learn :=
  { cfg := LearnCfg.reset, table := [], st := .off, hist := [], phi := 0, master := none, pauses := 0, ran := false, growth := 0,
    msRef := none, ms := (0, 0), sumsq := 0, updates := 0, lastUpdates := 0, cycles := 0, saturated := 0, lastSnap := 0,
    move := none, snapFor := none, control := [], oldTable := none, skip := false, touched := [] }

/-- A task before any image configures it. -/
def Task.reset : Task :=
  { cfg := none, st := .unused, overran := false, debug := false, wanted := 0, newCode := false, consec := 0,
    limitRaised := false, overruns := 0, cycles := 0, lastExec := 0, longExec := 0, lastCommit := 0, lastRound := 0,
    seq := 0, since := 0, snap := { motion := [], station := [], results := [], time := 0, mono := 0 }, results := [],
    stationOut := [], ending := false, parked := none, held := [] }

/-- The runtime after module reset, before it starts. -/
def Runtime.reset : Runtime :=
  { mode := .stop, lastCause := 0, modeRound := 0, laybyExec := none, key := .stop, keysDiffer := none,
    keyWarned := false, started := false, mono := 0, tasks := Vector.replicate 8 Task.reset, commits := [],
    retained := [], retainBad := false, planBad := false, motionIn := [], motionInPast := [], motionOut := [], motionPrev := [], motionAt := none, setGen := 0, setPast := [], stationIn := [], stationInPast := [],
    load := none, activating := none, keysSeen := (0, 0), heldReleases := [], channel := [], notExecuted := 0, timers := [], edges := [], fresh := [], data := [], code := Vector.replicate 2 [], codeUse := 0,
    scratch := [] }

/-- No change. -/
def Change.reset : Change :=
  { st := .idle, load := none, result := 0, cause := 0, exec := none, deadline := none, notBefore := 0, candidate := none,
    confirmed := [], fixed := false, aborts := [], failed := none, undone := 0, waymark := 0, missed := 0, clipped := 0, carried := 0, cut := 0 }

/-- The partner before anything is heard of it. -/
def Partner.reset : Partner :=
  { present := false, heard := none, position := 0, key := 0, mode := 0, role := 0, inelig := 0xFFFF, level := 0, split := false, equalItems := false, failed := false }

/-- The pair link before training. -/
def Plk.reset : Plk :=
  { up := false, lanes := 0, tx := [], rx := [], awaiting := [], crcErrors := 0, lastTx := 0, lastRx := 0 }

/-- No resync. -/
def Resync.reset : Resync :=
  { requested := false, running := false, cause := 0, start := 0, passes := 0, pages := 0, finalDue := false, exec := none, sent := [] }

/-- Pair redundancy after module reset. -/
def Pair.reset : Pair :=
  { position := 0, token := .unclaimed, epoch := 0, leaseEnd := 0, pulse := false, partner := Partner.reset,
    plk := Plk.reset, claimRef := 0, recordSeen := false, partnerClaim := none, claimSent := false,
    claimInhibit := false, hand := none, offered := none, committed := none, takeAt := none,
    lastRenewal := 0, lastCommand := 0, renewed := none, releasing := none, reclaimAfter := 0, resync := Resync.reset, synced := false, mismatch := false, lag := false,
    selfTest := false, windowMatch := true, faultSeen := false, chains := Vector.replicate 9 0,
    history := Vector.replicate 9 [], mismatchRun := 0, fwdWindows := [], fwdStates := [], fwdDone := false,
    ownRound := false, sourceKnown := false, fwdSetpoint := 0, snapWait := [], releases := [], cycles := [], services := [], reads := [], pend := [],
    settleFrom := none, reclaim := false, step := 0, stepFrom := 0, training := none, stepFailed := 0, resyncs := 0,
    mismatches := 0, ownRounds := 0, lastResyncMs := 0, crossovers := 0, ignored := 0, uncompared := 0,
    lastCrossRound := 0, lastCrossKind := 0, lastGap := 0 }

/-- A channel's axis after start. -/
def ChAxis.reset : ChAxis := { hist := [], last := none, miss := 0, result := 0, delta := 0, dist := 0, fail := 0, disagree := 0 }

/-- A channel after start. -/
def Channel.reset : Channel :=
  { axes := [], permits := [], permitFor := (0, 0), latched := 0, lost := none, seen := Vector.replicate 2 false, closed := 0,
    records := [], tested := false }

/-- The SML after start. -/
def Sml.reset : Sml :=
  { round := none, strobe := false, sel := Vector.replicate 2 [], page := 0, data := [], ack := 0, object := [], crc := 0,
    held := [], maps := Vector.replicate 2 0, failed := false, svpFault := false }

/-- No detour. -/
def Detour.reset : Detour :=
  { axes := [], both := [], entry := none, entryAt := 0, endAt := 0, cause := 0, chan := 0, expired := false, count := 0 }

/-- Safety functions after module reset. -/
def Safety.reset : Safety :=
  { ch := Vector.replicate 2 Channel.reset, sml := Sml.reset, silentB := Vector.replicate 2 0, lostB := Vector.replicate 2 none,
    since := Vector.replicate 16 0, partnerMask := 0, det := Detour.reset, faults := 0, pulse := none,
    lastPulse := none, testFrom := Vector.replicate 8 0, nextSide := Vector.replicate 8 0, readP := 0, readM := 0, forced := 0,
    outputsFrom := 0, offAt := none, resetTests := [], disagreements := 0, lastDisagree := none, sess := Vector.replicate 4 none,
    fails := 0, lockUntil := none, load := none, activating := none }

/-- A lockstep pair at start. -/
def LsPair.reset (split : Bool) : LsPair :=
  { st := if split then .split else .lockstep, byPort := false, byTask := false, since := 0, endedAt := none, stuck := false }

/-- Integrity after module reset. -/
def Integrity.reset (split : BitVec 2) : Integrity :=
  { pairs := #v[LsPair.reset (split.getLsbD 0), LsPair.reset (split.getLsbD 1), LsPair.reset false], suspensions := 0, restores := 0,
    sess := none, breaks := Vector.replicate 4 [], portHalts := 0, portBreaks := Vector.replicate 4 [], test := false,
    areas := Vector.replicate 13 { single := 0, double := 0, uncorrectable := 0, lastAddr := 0 }, device := Vector.replicate 5 [], poisoned := [],
    scrubs := 0, scrubAt := 0, frozen := 0, asv := [], violations := 0, epoch := 0, complete := 0, commits := 0, lateEpochs := 0,
    waiting := [], regions := Vector.replicate 16 [], reload := false, sessWaits := [], codeEpoch := none }

/-- Plant time after module reset. -/
def PlantTime.reset : PlantTime :=
  { st := .freeRunning, ports := Vector.replicate 2 { st := 0, seq := Vector.replicate 4 0 }, last := 0, recent := [], delay := 0, gm := 0,
    refSeq := 0, refusal := 0, offset := 0, stepAt := none, exec := none, holdFrom := 0, holdAt := none, steps := 0, refusals := 0 }

/-- A plant Ethernet port after module reset. -/
def EthPort.reset (mac : Nat) : EthPort :=
  { link := false, speed := 0, queue := [], sending := none, credit := List.replicate 7 0, ts := [], tsOver := false, tsDropped := 0,
    count := Vector.replicate 11 0, mac := mac }

/-- A peer channel after module reset. -/
def Peer.reset : Peer :=
  { st := 0, tx := [], fresh := false, sent := 0, rx := [], rxSeq := none, rxTime := 0, rxRound := 0, lostAt := 0, late := 0 }

/-- A transmit object never written. -/
def TxObj.reset : TxObj :=
  { st := .empty, ext := false, fd := false, brs := false, oneShot := false, dlc := 0, id := 0, data := zeros 64 }

/-- A receive object that has received nothing. -/
def RxObj.reset : RxObj :=
  { ext := false, id := 0, dlc := 0, flags := 0, isNew := false, lost := false, generation := 0, time := 0, overwrites := 0, data := zeros 64 }

/-- A CAN port after module reset. -/
def CanPort.reset : CanPort :=
  { err := .active, rec_ := 0, tec := 0, tx := Vector.replicate 64 TxObj.reset, stop := TxObj.reset, stopLeft := 0, stopNext := none,
    ref := TxObj.reset, refNow := 0, refNext := none, rx := [], offAt := 0, byCommand := false, busOffs := 0, received := 0,
    discarded := 0, overwrites := 0, sentCount := 0, failures := 0, refSent := 0, refSkipped := 0, refSeq := 0, stopSeq := 0 }

/-- A pin after module reset. -/
def Pin.reset : Pin :=
  { filtered := false, changed := 0, changes := 0, on := false, switched := 0, fault := 0, cleared := false, cooled := false, bad := 0 }

/-- A loop channel after module reset. -/
def Loop.reset : Loop :=
  { hold := false, settleEnd := none, limitFrom := none, retryAt := none, over_ := false, srcLimit := false, compliance := false,
    current := 0, status := 5, headroom := 0, convAt := 0 }

/-- The field front after module reset. -/
def FieldFront.reset : FieldFront :=
  { pins := Vector.replicate 32 Pin.reset, loops := Vector.replicate 8 Loop.reset, supply := Vector.replicate 2 (.missing, 0),
    area := zeros 256, applied := zeros 256, next := zeros 256, fresh := false, missed := 0, readback := 0, past := [], inputs := 0, codes := zeros 32, volts := zeros 4, sampled := 0, dark := false, holder := [],
    from_ := 0, offAt := none, trim := none, flashes := none }

/-- Power after module reset. -/
def Power.reset : Power :=
  { powered := true, feeds := Vector.replicate 2 { st := .missing, volt := 0 }, loss := false, lossAt := 0, flushing := false,
    holdup := .charging, chargeFrom := 0, cap := 0, degraded := false, domains := 0x467, cause := 1 }

/-- The installed image of a part as delivered: level 1 of each interface of 18 R534, and level 1 of each it
needs. -/
def FwPart.reset (p : Nat) : FwPart :=
  { version := 0x01000000, security := 0,
    provides := match p with
      | 1 => [(1, 1, 1)] | 2 => [(2, 1, 1), (7, 1, 1), (8, 1, 1)] | 3 => [(3, 1, 1)] | 4 => [(4, 1, 1)] | 5 => [(6, 1, 1)] | _ => [(5, 1, 1)],
    needs := match p with
      | 1 => [] | 2 => [(1, 1), (3, 1), (4, 1), (5, 1)] | 3 => [(2, 1)] | 4 => [(2, 1)] | 5 => [(2, 1), (4, 1), (5, 1)] | _ => [(2, 1)] }

/-- No update. -/
def Update.reset : Update :=
  { st := .idle, session := 0, lastSession := 0, length := 0, hash := [], held := [], bundle := 0, key := 0, revoke := false,
    manifest := [], window := 0, trial := 0, used := 0, result := 0, refusal := 0, migrated := 0, revert := [] }

/-- Stored objects of a module as delivered, and as the assumption log says. -/
def Nv.reset : Nv where
  oldFormat := none
  rights := #v[{ cls := .engineer, grants := 0x1F }, { cls := .observe, grants := 0x01 }, { cls := .observe, grants := 0x01 }, { cls := .observe, grants := 0x01 }]
  recLog := { log := [], slot := 0, sealed := true, nextSeq := 1 }
  storedPeriod := 125000
  hostMilestones := []
  media := Vector.replicate 2 { topo := .ring, chans := 3, enforce := false, arm1 := false, arm2 := false, etherType := 0x88B5 }
  schedules := Vector.replicate 2 []
  schedActive := Vector.replicate 2 0
  banks := Vector.replicate 2 { blocks := [], generation := 0 }
  bankActive := 0
  learnCfg := []
  snaps := []
  active := none
  loaded := none
  retain := Vector.replicate 2 []
  retainUse := 0
  journal := []
  package := none
  armedAtReset := false
  home := 0
  settle := 60
  highestEpoch := 0
  safeActive := none
  safePending := none
  safeBad := Vector.replicate 4 false
  password := none
  safeLog := []
  safeTotal := 0
  split := 0
  pd0Mismatch := none
  pd0Violation := none
  ptp := { mask := 0, kind := 1, profile := 1, transport := 1, flags := 4, domain := 0, prio1 := 128, prio2 := 128, logSync := 0, logAnnounce := 1, logDelay := 0, threshold := 1000 }
  ethCfg := Vector.replicate 2 { speed := 0, enabled := false, ip := 0, weights := List.replicate 7 1 }
  peerCfg := Vector.replicate 16 { port := 0, flags := 0, pcp := 0, vlan := 0, udp := 0, mac := 0, len := 1, ip := 0, filter := 0, delay := 5000, loss := 1 }
  canCfg := Vector.replicate 4 { flags := 0, timing := [4, 1, 31, 0, 8, 2, 15, 4, 1, 0], ref := 0, repeats := 1 }
  canRx := Vector.replicate 4 []
  pinCfg := Vector.replicate 32 { mode := 0, flags := 0, filter := 1 }
  loopCfg := Vector.replicate 8 { mode := 0, vtmin := 0, rw := 0, vsrc := 1000 }
  trims := Vector.replicate 8 { z := 0, s := 0, source := 0 }
  feedLosses := 0
  lossesSurvived := 0
  longestLoss := 0
  commitWait := 0
  sealTime := 0
  watchdogs := 0
  lastLoss := 0
  parts := vgen 6 fun i => { inForce := 0, slots := Vector.replicate 2 (FwPart.reset (i + 1)) }
  security := Vector.replicate 6 0
  floor := 0
  upd := Update.reset

/-- The module right after reset, over given stored objects. -/
def Rc8.resetWith (nv : Nv) : Rc8 where
  ident := { orderCode := padTo 16 (ascii "RC8-2440"), serial := padTo 16 (ascii "0"), issue := 1, slot := 1 }
  clk := { refosc := 0, ptu := 0, inc := 262144, residual := 0 }
  svpReady := false
  hp := Vector.replicate 4 HostPort.reset
  execs := []
  nextExec := 0
  arrivals := 0
  limits := []
  bar2 := Vector.replicate 5 { newest := 0, bufs := Vector.replicate 3 { generation := 0, round := 0, time := 0, data := [], poison := [] }, generation := 0 }
  out := []
  rcd := { buf := [], waiting := 0, isOpen := false, openDirty := false, dropped := 0, lastBefore := 0, droppedTotal := 0, clears := 0, failing := false, lastFlush := 0, alarm := none }
  rnd := { period := nv.storedPeriod, round := 0, host := nv.hostMilestones, generation := 0, slips := 0, slipRun := 0, late := Vector.replicate 2 0, renumberings := 0, lastRenumbered := 0, lastSlip := 0, renumbered := none, fired := [] }
  net := #v[Net.reset nv.media[0] 0x025243380000, Net.reset nv.media[1] 0x025243380001]
  sch := Vector.replicate 2 Sched.reset
  eng := Engine.reset
  learn := nv.learnCfg.map fun x => (x.1, { Learn.reset with cfg := x.2 })
  tablesRestored := false
  run := Runtime.reset
  chg := { Change.reset with st := if nv.package.isSome then .loaded else .idle }
  pair := { Pair.reset with position := 1 }
  saf := Safety.reset
  itg := Integrity.reset nv.split
  tim := PlantTime.reset
  eth := #v[EthPort.reset 0x025243380100, EthPort.reset 0x025243380101]
  peers := Vector.replicate 16 Peer.reset
  can := Vector.replicate 4 CanPort.reset
  ffe := FieldFront.reset
  pwr := Power.reset
  restartAt := none
  trialFrom := none
  expiryHandover := false
  nv := nv

/-- The state right after reset: no command waits. -/
def State.reset : State := { Rc8.resetWith Nv.reset with pending := [] }

end Sys2Proof.Machine
end

