-- ==== Sys2Proof/Machine/Float.lean ====
section
/-! DEFINITION. Block floating arithmetic of the engine (06 R192 to R196). -/

namespace Sys2Proof.Machine

open Sys2Proof

/-- Bits up to and including the highest set bit; bitlen(0) = 0 (R193). -/
def bitlen (x : Nat) : Nat := if x = 0 then 0 else Nat.log2 x + 1

/-- The mantissa of a value at an exponent: bits shifted out are rounded to nearest, halves away from zero
(R193, R194). -/
def Fl.at (v : Fl) (e : Int) : Int :=
  if e ≤ v.e then v.m * 2 ^ (v.e - e).toNat else roundDivAway v.m (2 ^ (e - v.e).toNat)

/-- The exact product of two values. -/
def Fl.mul (a b : Fl) : Fl := { m := a.m * b.m, e := a.e + b.e }

/-- The negative of a value. -/
def Fl.neg (a : Fl) : Fl := { a with m := -a.m }

/-- An integer as a value. -/
def Fl.ofInt (x : Int) : Fl := { m := x, e := 0 }

/-- top of a term (R193). -/
def Fl.top (v : Fl) : Int := (bitlen v.m.natAbs : Int) + v.e

/-- The largest of a list of integers. -/
def maxInt : List Int → Int
  | [] => 0
  | [x] => x
  | x :: l => max x (maxInt l)

/-- A stage's sum in the 72-bit accumulator (R193). -/
def acc (l : List Fl) : Fl :=
  match l.filter fun t => t.m != 0 with
  | [] => Fl.zero
  | ts =>
    let e := maxInt (ts.map Fl.top) - 66
    { m := (ts.map fun t => t.at e).sum, e := e }

/-- The exact value as a rational. -/
def Fl.rat (v : Fl) : Rat := if 0 ≤ v.e then ((v.m * 2 ^ v.e.toNat : Int) : Rat) else mkRat v.m (2 ^ (-v.e).toNat)

/-- A rational rounded to the nearest integer, halves away from zero. -/
def roundRat (q : Rat) : Int := roundDivAway q.num q.den

/-- A rational brought to an exponent (R194's rounding). -/
def Fl.ofRat (q : Rat) (e : Int) : Fl :=
  { m := roundRat (if 0 ≤ e then q / ((2 ^ e.toNat : Int) : Rat) else q * ((2 ^ (-e).toNat : Int) : Rat)), e := e }

/-- The largest mantissa at a clamped exponent (R195). -/
def manLimit : Int := 2 ^ 30 - 1

/-- What the end of a stage leaves: its exponent and two flags (R194, R195). -/
structure StageEnd where
  exp : Int
  range : Bool
  sat : Bool

/-- The stage exponent chosen afresh from the stage's states and output, clamped to its range (R194, R195). -/
def stageEnd (vals : List Fl) (prev eMin eMax : Int) : StageEnd :=
  let nz := vals.filter fun v => v.m != 0
  let e0 := if nz = [] then prev else maxInt (nz.map Fl.top) - 30
  let e1 := if nz.any fun v => decide (2 ^ 30 ≤ (v.at e0).natAbs) then e0 + 1 else e0
  let e := clampInt eMin eMax e1
  { exp := e, range := e != e1,
    sat := e != e1 && e == eMax && nz.any fun v => decide (({ m := manLimit, e := e : Fl }).rat < ({ v with m := (v.m.natAbs : Int) } : Fl).rat) }

/-- A value of the stage at the stage's new exponent, clipped where the exponent was clamped at e_max (R194,
R195). -/
def StageEnd.put (k : StageEnd) (v : Fl) : Fl :=
  { m := if k.sat then clampInt (-manLimit) manLimit (v.at k.exp) else v.at k.exp, e := k.exp }

/-- An integer saturated to s32. -/
def satS32 (x : Int) : Int := clampInt (-2147483648) 2147483647 x

/-- A result that leaves the engine (R196). -/
def Fl.s32 (v : Fl) : Int := satS32 (v.at 0)

/-- A speed in counts per round × 2^8 as s32 (R214). -/
def Fl.speed (v : Fl) : Int := satS32 (({ v with e := v.e + 8 } : Fl).at 0)

/-- The larger integer square root, rounded to nearest, of a rational that is not negative. -/
def sqrtRound (q : Rat) : Nat := (Nat.sqrt (4 * q.num.toNat / q.den) + 1) / 2

end Sys2Proof.Machine
end

