-- ==== Sys2Proof/Machine/Ops.lean ====
section
/-! DEFINITION. The operations every chapter shares: the clock, events (recorder, rings, rate
limit), MSI-X, the life of a mailbox command, and BAR2 publication. -/

namespace Sys2Proof.Machine

open Sys2Proof

/-- The three outcomes of a command on this block. -/
abbrev Answer := Host.Outcome State Fault Refusal

/-- A command that acts on the module and always completes. -/
def act (f : Rc8 → Rc8) (s : State) : Answer := .next { s with toRc8 := f s.toRc8 }

/-- A command that acts where its operands can be sent, and stops by name where no sender can send
them. -/
def actIf (ok : Bool) (mnemonic : String) (f : Rc8 → Rc8) (s : State) : Answer :=
  if ok then act f s else .fault (.illFormed mnemonic)

/-! ### Codes of the shared enumerations -/

/-- Status codes (02 R79). -/
def Status.code : Status → Nat
  | .done => 0x0000 | .pending => 0x0001 | .badCommand => 0x0100 | .badLength => 0x0101
  | .badField => 0x0102 | .wrongState => 0x0200 | .wrongKeyPosition => 0x0201
  | .noAuthority => 0x0300 | .safetyLoginRequired => 0x0301 | .busy => 0x0400
  | .noSpace => 0x0401 | .integrityFail => 0x0500 | .tooLate => 0x0600

/-- The status a code names (02 R79). -/
def Status.ofCode (c : Nat) : Status :=
  ([.done, .pending, .badCommand, .badLength, .badField, .wrongState, .wrongKeyPosition, .noAuthority, .safetyLoginRequired, .busy,
    .noSpace, .integrityFail] : List Status).find? (fun x => x.code == c) |>.getD .tooLate

/-- Class codes (02 R85). -/
def Cls.code : Cls → Nat
  | .observe => 0 | .operate => 1 | .engineer => 2 | .safety => 3

/-- The class a code names. -/
def Cls.ofCode : Nat → Cls
  | 0 => .observe | 1 => .operate | 2 => .engineer | _ => .safety

/-- Severity codes (02 R68). -/
def Sev.code : Sev → Nat
  | .info => 0 | .notice => 1 | .warning => 2 | .error => 3 | .critical => 4

/-- Mode codes (08 R272). -/
def Mode.code : Mode → Nat
  | .stop => 0 | .run => 1 | .layby => 2

/-- Key position codes (02 R83). -/
def Key.code : Key → Nat
  | .stop => 0 | .remote => 1 | .run => 2

/-- Mailbox state codes (02 R53). -/
def MbxState.code : MbxState → Nat
  | .free => 0 | .posted => 1 | .busy => 2 | .done => 3

/-- This module holds the token (10 R318). -/
def holdsToken (s : Rc8) : Bool := s.pair.token == .holder || s.pair.token == .handover

/-- This module is the standby: it tracks a holder (10 R318). -/
def isStandby (s : Rc8) : Bool := s.pair.token == .standby || s.pair.token == .standbyReady

/-- A master stands frozen after a refused transaction (12 R403). -/
def dmaStopped (k : Nat) (s : Rc8) : Bool := s.itg.frozen.getLsbD k

/-- A host port stands frozen: HP0 to HP3 are masters 10 to 13 (01 R21; 12 R403). -/
def portFrozen (p : Fin 4) (s : Rc8) : Bool := dmaStopped (10 + p.val) s

/-- A domain is switched on when a command configures a block in it (01 R39). -/
def domainOn (d : Fin 12) (s : Rc8) : Rc8 := { s with pwr := { s.pwr with domains := s.pwr.domains ||| (1#12 <<< d.val) } }

/-! ### Plant time and REFOSC (01 R34 to R37) -/

/-- 2^-16 ns units in one nanosecond (00 R13). -/
def fracPerNs : Nat := 65536

/-- Units in one second. -/
def fracPerSec : Nat := 65536 * 1000000000

/-- The seconds of a plant time (R13), u64. -/
def secOf (t : Nat) : Nat := t / fracPerSec % 2 ^ 64

/-- The nanoseconds of a plant time (R13). -/
def nsOf (t : Nat) : Nat := t % fracPerSec / fracPerNs

/-- The fraction of a plant time (R13). -/
def fracOf (t : Nat) : Nat := t % fracPerNs

/-- Largest slew per TIME_CLK tick, 50 µs per second of the 4 ns tick, in 2^-16 ns (13 R425). -/
def slewPerTick : Nat := 13

/-- The least increment: 4 ns less the REFOSC tolerance of 100 ppm (01 R34) and the slew limit, in 2^-16 ns (01 R35). -/
def incLeast : Nat := 262144 - 26 - slewPerTick

/-- The largest increment: 4 ns, the REFOSC tolerance and the slew limit, in 2^-16 ns; it lies below 4.001 ns (01 R35). -/
def incMost : Nat := 262144 + 26 + slewPerTick

/-- What a tick can add of a residual: the slew limit, and never past the largest increment (01 R35). -/
def Clock.slewUp (c : Clock) : Nat := min slewPerTick (incMost - c.inc)

/-- What a tick can hold back of a residual: the slew limit, and never past the least increment (01 R35). -/
def Clock.slewDown (c : Clock) : Nat := min slewPerTick (c.inc - incLeast)

/-- n TIME_CLK ticks: the counter advances by the increment at each, and a residual is slewed out
within the slew limit and within the bounds of an increment (01 R35, 03 R94). -/
def Clock.ticks (c : Clock) (n : Nat) : Clock :=
  let slew := clampInt (-((c.slewDown * n : Nat) : Int)) ((c.slewUp * n : Nat) : Int) c.residual
  { c with refosc := c.refosc + 4 * n, ptu := ((c.ptu : Int) + (n * c.inc : Nat) + slew).toNat,
           residual := c.residual - slew }

/-- The least number of ticks after which the counter stands at or past a plant time (01 R35: a
milestone fires on the first tick at or after its instant). -/
def Clock.ticksTo (c : Clock) (target : Nat) : Nat :=
  if target ≤ c.ptu then 0
  else
    let d := target - c.ptu
    if 0 ≤ c.residual then
      max (ceilDiv d (c.inc + c.slewUp)) (ceilDiv (d - c.residual.toNat) c.inc)
    else
      min (ceilDiv d (c.inc - c.slewDown)) (ceilDiv (d + (-c.residual).toNat) c.inc)

/-- The clock brought forward to a plant time; never back. -/
def Clock.toPtu (c : Clock) (target : Nat) : Clock := c.ticks (c.ticksTo target)

/-- The clock brought forward to a REFOSC time; never back. -/
def Clock.toRefosc (c : Clock) (target : Nat) : Clock := c.ticks (ceilDiv (target - c.refosc) 4)

/-- A milestone's instant: the module's clock stands at its first tick at or after it. -/
def atPtu (target : Nat) (s : Rc8) : Rc8 := { s with clk := s.clk.toPtu target }

/-- A timer's instant on REFOSC. -/
def atRefosc (target : Nat) (s : Rc8) : Rc8 := { s with clk := s.clk.toRefosc target }

/-! ### The recorder takes a record (16 R503 to R507) -/

/-- Whole microseconds from the first occurrence, saturating (R503). -/
def recOffset (first now : Nat) : Nat := min 0xFFFFFFFF ((now - first) / (fracPerNs * 1000))

/-- True where an occurrence repeats the open record (R505). -/
def recMatches (r : Recorder) (code p0 p1 : Nat) : Bool :=
  r.isOpen && match r.buf.getLast? with
    | some x => x.code == code && x.p0 == lo32 p0 && x.p1 == lo32 p1
    | none => false

/-- One occurrence at the recorder: a repeat of the open record, a new record, or a drop on a buffer
full of records not yet flushed (R504, R505, R507). -/
def recAdd (code p0 p1 time : Nat) (r : Recorder) (l : RecLog) : Recorder × RecLog :=
  if recMatches r code p0 p1 then
    ({ r with
        buf := r.buf.dropLast ++ (match r.buf.getLast? with
          | some x => [{ x with rep := inc16 x.rep, lastOff := recOffset x.time time }]
          | none => []),
        openDirty := r.openDirty || r.waiting == 0 }, l)
  else if 4096 ≤ r.waiting then
    ({ r with dropped := inc32 r.dropped, droppedTotal := inc32 r.droppedTotal,
              lastBefore := if r.dropped = 0 then (l.nextSeq + 0xFFFFFFFF) % 2 ^ 32 else r.lastBefore }, l)
  else
    let x : Record := { code := code, rep := 1, seq := l.nextSeq, time := time, lastOff := 0, p0 := lo32 p0, p1 := lo32 p1 }
    ({ r with buf := (if 4096 ≤ r.buf.length then r.buf.drop 1 else r.buf) ++ [x],
              waiting := r.waiting + 1, isOpen := true },
     { l with nextSeq := (l.nextSeq + 1) % 2 ^ 32 })

/-! ### Events at a host port (02 R67 to R75, R573) -/

/-- An event as a chapter raises it: its source and reason, severity and three parameters (02 R68). -/
structure Ev where
  src : Nat
  reason : Nat
  sev : Sev
  p0 : Nat
  p1 : Nat
  p2 : Nat
deriving DecidableEq, Repr

/-- The event code (02 R76). -/
def Ev.code (e : Ev) : Nat := e.src * 256 + e.reason

/-- The 32-byte ring entry (02 R68). -/
def Ev.entry (e : Ev) (phase : Bool) (seq time : Nat) : List Byte :=
  le 2 e.code ++ le 1 e.src ++ le 1 (b2n phase + 2 * e.sev.code) ++ le 4 seq ++ le 8 (secOf time) ++
  le 4 (nsOf time) ++ le 4 e.p0 ++ le 4 e.p1 ++ le 4 e.p2

/-- The higher of two severities. -/
def Sev.higher (a : Option Sev) (b : Sev) : Option Sev :=
  match a with
  | none => some b
  | some x => if x.code < b.code then some b else some x

/-- Entries of the ring (02 R70). -/
def Evq.entries (q : Evq) : Nat := 2 ^ q.size

/-- The ring is full (02 R70). -/
def Evq.full (q : Evq) : Bool := (q.head + 1) % q.entries == q.tail

/-- A message of a vector: sent, or recorded as pending while the vector is masked (02 R47). -/
def sendVector (p v : Fin 4) (h : HostPort) : HostPort × List Out :=
  let e := h.msix[v]
  if e.masked then ({ h with msix := vmod h.msix v fun x => { x with pend := true } }, [])
  else (h, [.msix p v e.addr e.data])

/-- Head one on, with the write phase inverted where it wraps (02 R70). -/
def Evq.advance (q : Evq) : Evq :=
  let n := (q.head + 1) % q.entries
  { q with head := n, phase := if n = 0 then !q.phase else q.phase }

/-- One entry written at head, its head write-back, and the vector 0 condition (02 R70, R73). The
sequence number has been taken by the caller. -/
def ringWrite (p : Fin 4) (c : Clock) (e : Ev) (seq : Nat) (h : HostPort) : HostPort × List Out :=
  let q := h.evq
  let q1 := { q.advance with uninterrupted := q.uninterrupted + 1,
                             oldest := if q.uninterrupted = 0 then c.refosc else q.oldest }
  let o := [Out.hostWrite p (q.base + 32 * q.head) (e.entry q.phase seq c.ptu),
            Out.hostWrite p q.headAddr (le 4 q1.head)]
  if 3 ≤ e.sev.code ∨ max 1 q.coalCount ≤ q1.uninterrupted ∨ q.coalTime = 0 then
    let r := sendVector p 0 { h with evq := { q1 with uninterrupted := 0 } }
    (r.1, o ++ r.2)
  else ({ h with evq := q1 }, o)

/-- An event the ring takes: it takes the next sequence, and is written, or dropped and counted where
the ring is full or the port frozen (02 R69, R70, R72; 12 R403). -/
def ringTake (p : Fin 4) (frozen : Bool) (c : Clock) (e : Ev) (h : HostPort) : HostPort × List Out :=
  let q := h.evq
  let h1 := { h with evq := { q with seq := (q.seq + 1) % 2 ^ 32 } }
  if q.full || frozen then
    ({ h1 with evq := { h1.evq with lost := inc32 q.lost, lossCount := inc32 q.lossCount,
                                    lossFirst := if q.lossCount = 0 then q.seq else q.lossFirst,
                                    lossLast := q.seq } }, [])
  else ringWrite p c e q.seq h1

/-- The port's mask selects a source (02 R45, R75). -/
def Evq.selects (q : Evq) (src : Nat) : Bool := (vget q.mask (src / 32) 0).getLsbD (src % 32)

/-- What an event does at one port: it counts for the port's highest severity, and an enabled ring
that selects it takes it (02 R75, R573). `own` marks the events that concern this port alone. -/
def portTake (p : Fin 4) (own frozen : Bool) (c : Clock) (e : Ev) (h : HostPort) : HostPort × List Out :=
  let h1 := { h with highest := Sev.higher h.highest e.sev }
  if h1.evq.enable && (own || h1.evq.selects e.src) then ringTake p frozen c e h1 else (h1, [])

/-- The event is written to the recorder; one of severity ERROR or CRITICAL flashes the FAULT LED (19 R562). -/
def recordEvent (e : Ev) (s : Rc8) : Rc8 :=
  let r := recAdd e.code e.p0 e.p1 s.clk.ptu s.rcd s.nv.recLog
  { s with rcd := if 3 ≤ e.sev.code then { r.1 with alarm := some s.clk.refosc } else r.1, nv := { s.nv with recLog := r.2 } }

/-- An event goes to the four ports. -/
def ringEvent (e : Ev) (s : Rc8) : Rc8 :=
  let a := portTake 0 false (portFrozen 0 s) s.clk e s.hp[0]
  let b := portTake 1 false (portFrozen 1 s) s.clk e s.hp[1]
  let c := portTake 2 false (portFrozen 2 s) s.clk e s.hp[2]
  let d := portTake 3 false (portFrozen 3 s) s.clk e s.hp[3]
  { s with hp := #v[a.1, b.1, c.1, d.1], out := s.out ++ (a.2 ++ (b.2 ++ (c.2 ++ d.2))) }

/-- An event is raised: recorded, and delivered to every ring that selects it (02 R75, 16 R504). -/
def raise (e : Ev) (s : Rc8) : Rc8 := ringEvent e (recordEvent e s)

/-- An event that concerns one port alone and is not recorded: EVENTS_LOST and COMMAND_COMPLETE (02
R75, R88). -/
def raiseOwn (p : Fin 4) (e : Ev) (s : Rc8) : Rc8 :=
  let r := portTake p true (portFrozen p s) s.clk e s.hp[p]
  { s with hp := s.hp.set p r.1, out := s.out ++ r.2 }

/-- The event with the occurrence count in one of its parameters (02 R568). -/
def Ev.withCount (e : Ev) (place : Option (Fin 3)) (n : Nat) : Ev :=
  match place with
  | none => e
  | some 0 => { e with p0 := n }
  | some 1 => { e with p1 := n }
  | some 2 => { e with p2 := n }

/-- The rate-limit entry of a code and key. -/
def findLimit (l : List Limit) (code key : Nat) : Limit :=
  (l.find? fun x => x.code == code && x.p0 == key).getD { code := code, p0 := key, last := none, count := 0 }

/-- The rate-limit table with one entry replaced. -/
def putLimit (l : List Limit) (x : Limit) : List Limit :=
  l.filter (fun y => !(y.code == x.code && y.p0 == x.p0)) ++ [x]

/-- An event under a sliding window on REFOSC, in ns: raised where none of the same code and key was
raised within it, else counted only (02 R568). -/
def raiseWindow (window key : Nat) (place : Option (Fin 3)) (e : Ev) (s : Rc8) : Rc8 :=
  let x := findLimit s.limits e.code key
  let due := match x.last with
    | none => true
    | some t => decide (t + window ≤ s.clk.refosc)
  if due then
    raise (e.withCount place (inc32 x.count))
      { s with limits := putLimit s.limits { x with last := some s.clk.refosc, count := 0 } }
  else { s with limits := putLimit s.limits { x with count := inc32 x.count } }

/-- An event raised at most once per second for each value of parameter 0 (02 R568). -/
def raiseLimited (place : Option (Fin 3)) (e : Ev) (s : Rc8) : Rc8 :=
  raiseWindow 1000000000 e.p0 place e s

/-! ### Mailboxes and their errors (02 R47, R54, R89) -/

/-- A vector's message of one port; a frozen port sends none (12 R403). DESIGN CHOICE: a port whose link is down sends it all the
same, or records it while the vector is masked (a HOST_TICK is the one source that can ask for it): 02 R47 does not say (log 10). -/
def sendVec (p v : Fin 4) (s : Rc8) : Rc8 :=
  if portFrozen p s then s
  else
    let r := sendVector p v s.hp[p]
    { s with hp := s.hp.set p r.1, out := s.out ++ r.2 }

/-- One host port changed. -/
def modPort (p : Fin 4) (f : HostPort → HostPort) (s : Rc8) : Rc8 := { s with hp := vmod s.hp p f }

/-- One mailbox changed. -/
def modMbx (p : Fin 4) (m : Fin 8) (f : Mailbox → Mailbox) (s : Rc8) : Rc8 :=
  modPort p (fun h => { h with mbx := vmod h.mbx m f }) s

/-- A bit of MBX_ERROR set by an error: counted, signalled on vector 1 where the bit changes from 0 to
1, and raised as MAILBOX_ERROR within its window of 10 ms (02 R47, R88, R89). Bit 8 is bar2_write. -/
def mailboxError (p : Fin 4) (bit : Fin 9) (cause : Nat) (s : Rc8) : Rc8 :=
  let h := s.hp[p]
  let was := h.mbxError.getLsbD bit.val
  let n := inc16 h.mbxErrorCount
  let s1 := modPort p (fun h => { h with mbxError := h.mbxError ||| (1#9 <<< bit.val), mbxErrorCount := n }) s
  let s2 := if was then s1 else sendVec p 1 s1
  raiseWindow 10000000 0x100000000 none
    { src := 120 + p.val, reason := 0x06, sev := .warning, p0 := bit.val, p1 := cause, p2 := n } s2

/-- A mailbox enters DONE: its flag is set, and a message is sent unless no_irq says otherwise (02 R47,
R54). -/
def mailboxDone (p : Fin 4) (m : Fin 8) (noIrq : Bool) (s : Rc8) : Rc8 :=
  let s1 := modPort p (fun h => { h with mbx := vmod h.mbx m fun b => { b with state := .done },
                                         mbxDone := h.mbxDone ||| (1#8 <<< m.val) }) s
  if noIrq then s1 else sendVec p (if m = 0 then 2 else 1) s1

/-- Status, response length and response written into a mailbox (02 R53). -/
def mailboxReply (p : Fin 4) (m : Fin 8) (st : Status) (resp : List Byte) (s : Rc8) : Rc8 :=
  modMbx p m (fun b =>
    { b with mem := memWriteN (memWriteN (memWriteN b.mem 12 (le 4 resp.length)) 16 (le 2 st.code)) 64 resp }) s

/-! ### The life of a mailbox command (01 R31, 02 R54, R58, R59) -/

/-- The command a row acts on: acknowledged on this port and mailbox with this code, its checks passed
and its own row not yet run. -/
def findChecked (s : Rc8) (code : Nat) (p : Fin 4) (m : Fin 8) : Option Exec :=
  s.execs.find? fun e => e.task.isNone && e.code == code && e.port == p && e.mbx == m && e.phase == .checked

/-- One executing command changed. -/
def modExec (id : Nat) (f : Exec → Exec) (s : Rc8) : Rc8 :=
  { s with execs := s.execs.map fun e => if e.id == id then f e else e }

/-- The command's execution ends with a status; a response goes with DONE alone (02 R80). -/
def endExec (id : Nat) (st : Status) (resp : List Byte) (s : Rc8) : Rc8 :=
  modExec id (fun e => { e with phase := .ended st (if st = .done then resp else []) }) s

/-- A port's entry of the host rights table in force: the old one until the SET_HOST_RIGHTS that changes it completes (02 R66). -/
def rightsInForce (p : Fin 4) (s : Rc8) : Rights :=
  (s.execs.findSome? fun x => x.rights.bind fun r => if r.1 = p then some r.2 else none).getD s.nv.rights[p]

/-- The command ends without a response. -/
def endWith (id : Nat) (st : Status) (s : Rc8) : Rc8 := endExec id st [] s

/-- The command has acted and waits for a later event. -/
def waitExec (id : Nat) (s : Rc8) : Rc8 := modExec id (fun e => { e with phase := .waiting }) s

/-- The command completes its mailbox with PENDING and runs on (R59). -/
def pendNow (e : Exec) (s : Rc8) : Rc8 :=
  let s1 := modExec e.id (fun x => { x with pendingSent := true, phase := .waiting }) s
  if e.portReset ∨ e.task.isSome = true then s1
  else mailboxDone e.port e.mbx e.noIrq (mailboxReply e.port e.mbx .pending [] s1)

/-- A command's own row: its body acts on the command found; where there is none, no such event can
occur and nothing changes. -/
def runCmd (code : Nat) (p : Fin 4) (m : Fin 8) (body : Exec → Rc8 → Rc8) (s : Rc8) : Rc8 :=
  match findChecked s code p m with
  | none => s
  | some e => body e s

/-- A command that only answers: DONE with a response computed from the state. -/
def answer (code : Nat) (p : Fin 4) (m : Fin 8) (resp : Exec → Rc8 → List Byte) (s : Rc8) : Rc8 :=
  runCmd code p m (fun e s => endExec e.id .done (resp e s) s) s

/-- An optional waiting command ends with a status. -/
def endOpt (id : Option Nat) (st : Status) (s : Rc8) : Rc8 :=
  match id with
  | none => s
  | some i => endWith i st s

/-- What the checks of R58 need to know of a command: its class, whether mailbox 0 takes it, whether it
needs a safety session, the request lengths and response length of step 2, and what its chapter adds to
steps 3 and 4, to step 5 and to step 6, and whether its execution ends at once with BUSY. -/
structure CmdSpec where
  cls : Cls
  urgent : Bool := false
  session : Bool := false
  /-- The request length is right (a length implied by a field is formed only from a field in range) -/
  len : List Byte → Bool
  /-- The response length the request implies; 0 where the field that implies it is out of range -/
  resp : List Byte → Nat := fun _ => 0
  early : Exec → Rc8 → Option Status := fun _ _ => none
  fields : Exec → Rc8 → Option Status := fun _ _ => none
  state : Exec → Rc8 → Option Status := fun _ _ => none
  busy : Rc8 → Bool := fun _ => false

/-- A request length that a count or length field of the request implies: formed only from a field within its range. A field
outside it is left to step 5, whatever the request length; a request that ends before the field has no such length (R58;
DEDUCED, log 102). -/
def impliedLen (fieldEnd lo hi n base unit : Nat) (r : List Byte) : Bool :=
  if lo ≤ n ∧ n ≤ hi then r.length == base + unit * n else decide (fieldEnd ≤ r.length)

/-- A response length that is asked for only where the count or length field lies within its range (R58). -/
def impliedResp (lo hi n size : Nat) : Nat := if lo ≤ n ∧ n ≤ hi then size else 0

/-- A request of one length. -/
def lenIs (n : Nat) (r : List Byte) : Bool := r.length == n

/-- The first failing condition's status. -/
def firstFail : List (Bool × Status) → Option Status
  | [] => none
  | (fails, st) :: l => if fails then some st else firstFail l

/-- Another command of a code has acted and still waits for its end. -/
def otherWaiting (s : Rc8) (code id : Nat) : Bool :=
  s.execs.any fun x => x.code == code && x.id != id && x.phase == .waiting

/-! ### BAR2 publication (02 R49 to R51) -/

/-- A snapshot is published into the buffer that is neither the newest nor the one before it, with the
section's next generation (R51). -/
def bar2Publish (sec : Fin 5) (round time : Nat) (data : List Byte) (s : Rc8) : Rc8 :=
  { s with bar2 := vmod s.bar2 sec fun b =>
      let i := (b.newest + 1) % 3
      let g := (b.generation + 1) % 2 ^ 64
      { b with newest := i, generation := g,
               bufs := vput b.bufs i fun _ => { generation := g, round := round, time := time, data := data.take 65536, poison := [] } } }

end Sys2Proof.Machine
end

