-- ==== Sys2Proof/Machine/Plan.lean ====
section
/-! DEFINITION. Schedule images, the schedule conditions, capacity, and the round-plan check (03 R92,
R104, R105; 04 R123, R127, R128, R130; 05 R154 to R156, R178). -/

namespace Sys2Proof.Machine

open Sys2Proof

/-! ### CRC-32C (05 R154) -/

/-- One bit of the reflected CRC-32C with polynomial 0x1EDC6F41. -/
def crcBit (c : Nat) : Nat := if c % 2 = 1 then (c / 2) ^^^ 0x82F63B78 else c / 2

/-- One byte of the CRC-32C. -/
def crcByte (c : Nat) (b : Byte) : Nat :=
  crcBit (crcBit (crcBit (crcBit (crcBit (crcBit (crcBit (crcBit (c ^^^ b.toNat))))))))

/-- CRC-32C of a byte string: initial value and final XOR 0xFFFF_FFFF (05 R154). -/
def crc32c (l : List Byte) : Nat := l.foldl crcByte 0xFFFFFFFF ^^^ 0xFFFFFFFF

/-- CRC-32C of an image with the four bytes of its check field taken as zero. -/
def crcWithout (l : List Byte) (at_ : Nat) : Nat := crc32c (l.take at_ ++ zeros 4 ++ l.drop (at_ + 4))

/-! ### Images (05 R154) -/

/-- A window entry at an offset of the image. -/
def parseWindow (b : List Byte) (o : Nat) : Window :=
  let a := u8At b (o + 1)
  { node := u8At b o, station := bitAt a 0, down := bitAt a 1, port2 := bitAt a 2, frame := u8At b (o + 2),
    off := u16At b (o + 4), len := u16At b (o + 6), period := u16At b (o + 8), phase := u16At b (o + 10),
    hold := u16At b (o + 12), slot := u16At b (o + 14) }

/-- An axis map entry at an offset of the image. -/
def parseAxisMap (b : List Byte) (o : Nat) : AxisMap :=
  { axis := u8At b o, node := u8At b (o + 1), pos := u8At b (o + 2) }

/-- A schedule image, field by field (R154). -/
def parseSchedule (b : List Byte) : Schedule :=
  let nw := u16At b 6
  { format := u16At b 0, id := u16At b 2, net := u8At b 4, topo := u8At b 5, period := u32At b 8,
    motionLost := u8At b 14, stationLost := u8At b 15, gatherLaunch := u32At b 16, gatherDone := u32At b 20,
    engineStart := u32At b 24, commit := u32At b 28, commandLaunch := u32At b 32, delay := u16At b 40,
    windows := (List.range nw).map fun i => parseWindow b (64 + 16 * i),
    axes := (List.range (u16At b 12)).map fun i => parseAxisMap b (64 + 16 * nw + 4 * i), image := b }

/-- The check value of the image is right (R154). -/
def schedCrcOk (b : List Byte) : Bool := u32At b 36 == crcWithout b 36

/-- Topology codes (04 R149). -/
def Topo.code : Topo → Nat
  | .ring => 0 | .star => 1 | .line => 2

/-- The topology a code names. -/
def Topo.ofCode : Nat → Topo
  | 0 => .ring | 1 => .star | _ => .line

/-! ### Frames of a schedule (05 R155) -/

/-- A window is due in a round (R155). -/
def Window.due (w : Window) (n : Nat) : Bool := w.period != 0 && n % w.period == w.phase

/-- The frame indices a schedule uses in one direction, ascending. -/
def Schedule.frames (c : Schedule) (down : Bool) : List Nat :=
  (List.range 64).filter fun i => c.windows.any fun w => w.down == down && w.frame == i

/-- Data bytes of a frame: the largest end of any window in it, at least 30 (R155). -/
def Schedule.frameLen (c : Schedule) (down : Bool) (i : Nat) : Nat :=
  (c.windows.filter fun w => w.down == down && w.frame == i).foldl (fun m w => max m (w.off + w.len)) 30

/-- Wire bytes of a frame of d data bytes (03 "Budget terms"). -/
def wireBytes (d : Nat) : Nat := max 84 (d + 54)

/-- Wire bytes of every frame of one direction. -/
def Schedule.wire (c : Schedule) (down : Bool) : Nat :=
  ((c.frames down).map fun i => wireBytes (c.frameLen down i)).sum

/-- The node indices the windows use, ascending. -/
def Schedule.nodeList (c : Schedule) : List Nat :=
  (List.range 64).filter fun i => c.windows.any fun w => w.node == i

/-- Module port of a star node's upstream windows. -/
def Schedule.nodePort2 (c : Schedule) (i : Nat) : Bool :=
  c.windows.any fun w => !w.down && w.node == i && w.port2

/-- Upstream wire bytes U of the budget (03 R104): in a star the larger of the two module ports. -/
def Schedule.upstream (c : Schedule) : Nat :=
  if c.topo = 1 then
    let side := fun p2 => (((c.frames false).filter fun i => c.nodePort2 i == p2).map fun i => wireBytes (c.frameLen false i)).sum
    max (side false) (side true)
  else c.wire false

/-! ### Capacity (05 R178) -/

/-- Capacity of a schedule in bytes per round (R178). -/
def Schedule.capacity (c : Schedule) : Nat := c.wire false + c.wire true + 500

/-- The limit: 125 bytes per µs of the round period (R178). -/
def capacityLimit (period : Nat) : Nat := 125 * period / 1000

/-! ### Schedule conditions 1 to 10 (05 R156) -/

/-- The node count of condition 6 (R156). -/
def Schedule.nodeCount (c : Schedule) : Nat := c.nodeList.length + (if c.topo = 2 then 1 else 2)

/-- Most nodes per topology (04 R123). -/
def topoLimit (t : Nat) : Nat := if t = 0 then 32 else if t = 1 then 64 else 16

/-- Fields of a window entry within their ranges (condition 1). The module port bit has a meaning in a star upstream window alone; set
elsewhere it is refused as a field outside its range, which no rule says (05 R156: DESIGN CHOICE, log 15). -/
def windowOk (topo : Nat) (b : List Byte) (o : Nat) : Bool :=
  let w := parseWindow b o
  decide (w.node ≤ 61) && decide (u8At b (o + 1) < 8) && decide (w.frame ≤ 63) && u8At b (o + 3) == 0 &&
  (if w.station then decide (8 ≤ w.period ∧ w.period ≤ 256) else w.period == 1) && decide (w.phase < w.period) &&
  (w.down || w.hold == 0) &&
  (if topo = 1 ∧ w.down = false then w.frame == w.node else (w.slot == 0 && !w.port2))

/-- Condition 1 apart from the check value. -/
def schedCond1 (b : List Byte) (m : Media) (period total reqId reqNet : Nat) : Bool :=
  let c := parseSchedule b
  let nw := u16At b 6
  let na := u16At b 12
  c.format == 1 && c.topo == m.topo.code && c.period == period && b.length == total &&
  total == 64 + 16 * nw + 4 * na && c.id == reqId && c.net == reqNet && decide (1 ≤ c.id) &&
  decide (1 ≤ nw ∧ nw ≤ 1024) && decide (na ≤ 256) && decide (2 ≤ c.motionLost) && decide (2 ≤ c.stationLost) &&
  decide (c.delay ≤ 560) && allZero b 42 22 &&
  (List.range nw).all (fun i => windowOk c.topo b (64 + 16 * i)) &&
  (List.range na).all (fun i => decide (u8At b (64 + 16 * nw + 4 * i + 1) ≤ 61) && u8At b (64 + 16 * nw + 4 * i + 3) == 0)

/-- Two windows share a byte. -/
def overlap (a b : Window) : Bool := decide (a.off < b.off + b.len ∧ b.off < a.off + a.len)

/-- Condition 3 for one pair: overlapping windows are both station class and never due together. -/
def pairOk (a b : Window) : Bool :=
  !(a.down == b.down && a.frame == b.frame && overlap a b) ||
  (a.station && b.station && a.phase % (Nat.gcd a.period b.period) != b.phase % (Nat.gcd a.period b.period))

/-- Condition 3 over all pairs. -/
def pairsOk : List Window → Bool
  | [] => true
  | w :: ws => ws.all (pairOk w) && pairsOk ws

/-- Axes mapped to a node. -/
def Schedule.axesOf (c : Schedule) (i : Nat) : List AxisMap := c.axes.filter fun a => a.node == i

/-- Condition 4 for one drive. -/
def driveOk (c : Schedule) (i : Nat) : Bool :=
  let n := (c.axesOf i).length
  let up := c.windows.filter fun w => w.node == i && !w.station && !w.down
  let dn := c.windows.filter fun w => w.node == i && !w.station && w.down
  up.length == 1 && dn.length == 1 && up.all (fun w => w.len == 28 * n) && dn.all (fun w => w.len == 28 * n) &&
  (List.range n).all fun k => (c.axesOf i).countP (fun a => a.pos == k) == 1

/-- Condition 9 for a star: one slot start and port per node, and SLOT frames of a port do not overlap. -/
def slotsOk (c : Schedule) : Bool :=
  let ups := c.windows.filter fun w => !w.down
  ups.all (fun a => ups.all fun b => a.node != b.node || (a.slot == b.slot && a.port2 == b.port2)) &&
  ups.all (fun a => ups.all fun b =>
    a.node == b.node || a.port2 != b.port2 || decide (b.slot < a.slot) ||
      decide (a.slot * 10 + 8 * wireBytes (c.frameLen false a.frame) ≤ b.slot * 10))

/-- Conditions 2 to 11 in order: the number of the first that fails (R156). -/
def schedConditions (c : Schedule) (other : Option Schedule) : Option Nat :=
  let ws := c.windows
  let drives := (List.range 62).filter fun i => ws.any fun w => w.node == i && !w.station
  if ws.any (fun w => decide (1484 < w.off + w.len)) then some 2
  else if !pairsOk ws then some 3
  else if !(drives.all (driveOk c) && c.axes.all fun a => drives.contains a.node) then some 4
  else if c.axes.any (fun a => c.axes.countP (fun b => b.axis == a.axis) != 1) ||
      (match other with | some o => c.axes.any fun a => o.axes.any fun b => b.axis == a.axis | none => false) then some 5
  else if ws.any (fun w => ws.any fun v => w.node == v.node && w.station != v.station) ||
      decide (topoLimit c.topo < c.nodeCount) then some 6
  else if ws.any (fun w => w.station && decide (w.len < 2)) then some 7
  else if ws.any (fun w => w.down && (if w.station then decide (w.hold < 2 * w.period) else decide (w.hold < 4))) then some 8
  else if c.topo = 1 ∧ slotsOk c = false then some 9
  else if (match other with | some o => o.engineStart != c.engineStart || o.commit != c.commit | none => false) then some 10
  else if capacityLimit c.period < c.capacity then some 11
  else none

/-! ### Gather and command time (03 R104, 04 R127) -/

/-- What the check knows of the links of a network: L of the module's ports P1 and P2 on each configured channel where
it has been measured, and of the links the ring map reports. -/
structure Links where
  side1 : List (Option Nat)
  side2 : List (Option Nat)
  map : List Neighbour
  /-- A line leads an arm on P1, and on P2 (04 R149) -/
  arm1 : Bool
  arm2 : Bool
  /-- The module's own node index (05 R576) -/
  self : Nat

/-- A link of the map that the node with the lower index has reported, or of which only the other end has. -/
def linkOnce (l : List Neighbour) (x : Neighbour) : Bool :=
  decide (x.node < x.nbr) || !(l.any fun y => y.node == x.nbr && y.nbr == x.node)

/-- Distinct links of the map that do not touch the module, with their L: each counts once, whichever of its ends has reported it. -/
def mapLinks (l : List Neighbour) (self : Nat) : List Nat :=
  (l.filter fun x => linkOnce l x && x.node != self && x.nbr != self).map (·.delay)

/-- L of one side's link: the worst of its channels, the assumed delay for one not yet measured (R104). -/
def sideDelay (l : List (Option Nat)) (assumed : Nat) : Nat :=
  if l = [] then assumed else (l.map fun x => x.getD assumed).foldl max 0

/-- Sum of L over the links of a ring: the module's own two, the known ones of the others, and the assumed delay for each of
the rest. A ring has as many links as R104 counts nodes, the two module positions included: one that is empty or by-passed still
divides the wire in two, and the second of these links counts with the assumed delay (DESIGN CHOICE, log 105; R104 counts the
positions in N and does not count the links). -/
def ringSum (k : Links) (count assumed : Nat) : Nat :=
  let known := (mapLinks k.map k.self).take (count - 2)
  sideDelay k.side1 assumed + sideDelay k.side2 assumed + known.sum + (count - 2 - known.length) * assumed

/-- L of a star node's branch: the largest it has reported, else the assumed delay (R104). -/
def branchDelay (k : Links) (assumed i : Nat) : Nat :=
  let l := k.map.filter fun x => x.node == i
  if l = [] then assumed else (l.map (·.delay)).foldl max 0

/-- Largest L of any branch of a star, plus the larger L of the two module port links (R104). -/
def starPropagation (k : Links) (nodes : List Nat) (assumed : Nat) : Nat :=
  (nodes.map (branchDelay k assumed)).foldl max 0 + max (sideDelay k.side1 assumed) (sideDelay k.side2 assumed)

/-- The nodes of one arm of a line as the neighbour reports give them, each with the L of the link towards the module; fuel
bounds the walk. -/
def walkArm (l : List Neighbour) (prev cur delay : Nat) : Nat → List (Nat × Nat)
  | 0 => []
  | fuel + 1 =>
    (cur, delay) :: (match l.find? fun x => x.node == cur && x.nbr != prev with
      | none => []
      | some x => walkArm l cur x.nbr x.delay fuel)

/-- The nodes known to lie on the arm of a side. -/
def armNodes (k : Links) (side : Nat) : List (Nat × Nat) :=
  match k.map.find? fun x => x.node == k.self && x.side == side with
  | none => []
  | some x => walkArm k.map k.self x.nbr x.delay 62

/-- Nodes and sum of L of each arm of a line (R127). A node whose place is not known yet counts on every arm, with the assumed
delay (DESIGN CHOICE, log 13). -/
def lineArms (k : Links) (nodes : List Nat) (assumed : Nat) : List (Nat × Nat) :=
  let sides := (if k.arm1 then [(0, k.side1)] else []) ++ (if k.arm2 then [(1, k.side2)] else [])
  let placed := sides.flatMap fun x => (armNodes k x.1).map (·.1)
  let open_ := (nodes.filter fun i => !placed.contains i).length
  sides.map fun x =>
    let l := (armNodes k x.1).map (·.2)
    let first := if l.length + open_ = 0 then [] else [sideDelay x.2 assumed]
    (l.length + open_, (first ++ l.drop 1).sum + (l.length + open_ - max 1 l.length) * assumed)

/-- Forwarding and propagation of the arm of a line that has the larger sum, each link counted twice: with k nodes, N is 2k and
so many of them forward (R127). -/
def lineTerm (k : Links) (c : Schedule) (less : Nat) : Nat :=
  ((lineArms k c.nodeList c.delay).map fun a => (2 * a.1 - less) * 640 + 2 * a.2).foldl max 0

/-- Gather time G in ns (R104, R127). -/
def gatherTime (c : Schedule) (k : Links) : Nat :=
  let nodes := c.nodeList.length
  if c.topo = 1 then 8 * c.upstream + 1000 + starPropagation k c.nodeList c.delay + 500
  else if c.topo = 0 then 8 * c.upstream + (nodes + 1) * 640 + ringSum k (nodes + 2) c.delay + 500
  else 8 * c.upstream + lineTerm k c 1 + 500

/-- Command time C in ns (R104, R127). -/
def commandTime (c : Schedule) (k : Links) : Nat :=
  let nodes := c.nodeList.length
  let d := c.wire true
  if c.topo = 1 then 8 * d + 1000 + starPropagation k c.nodeList c.delay + 500
  else if c.topo = 0 then 8 * d + nodes * 640 + ringSum k (nodes + 2) c.delay + 500
  else 8 * d + lineTerm k c 2 + 500

/-! ### The round-plan check (03 R105) -/

/-- What the round-plan check is run on. -/
structure PlanIn where
  period : Nat
  media : Vector Media 2
  scheds : Vector (Option Schedule) 2
  /-- Axes configured in the engine's bank in force -/
  axes : List Nat
  /-- Host-sourced and program-sourced entries -/
  entries : List Milestone
  partner : Bool
  links : Vector Links 2

/-- Configured networks of a plan. -/
def PlanIn.nets (p : PlanIn) : List (Fin 2) := ([0, 1] : List (Fin 2)).filter fun n => (p.media[n]).chans != 0

/-- Axes of the module: those configured in the engine and those the schedules map (R92, R105). -/
def PlanIn.axisCount (p : PlanIn) : Nat :=
  (p.axes ++ ([0, 1] : List (Fin 2)).flatMap fun n => ((p.scheds[n]).map fun c => c.axes.map (·.axis)).getD []).dedup.length

/-- The schedules of a plan with their networks. -/
def PlanIn.list (p : PlanIn) : List (Fin 2 × Schedule) :=
  ([0, 1] : List (Fin 2)).filterMap fun n => (p.scheds[n]).map fun c => (n, c)

/-- Condition 1 on one network (R92, R130; 04 R123). -/
def planCond1 (p : PlanIn) (n : Fin 2) : Bool :=
  let m := p.media[n]
  let nodes : Nat := ((p.scheds[n]).map Schedule.nodeCount).getD 0
  (p.period != 62500 || m.topo == .star) &&
  !(m.topo == .line && p.partner) &&
  !(m.topo == .star && !m.enforce && (decide (16 < nodes) || decide (p.period < 125000)))

/-- A milestone entry meets R96 and R99. -/
def entryOk (period : Nat) (e : Milestone) : Bool :=
  e.off % 10 == 0 && decide (e.off + 10 ≤ period) && decide (1 ≤ e.div ∧ e.div ≤ 65535) && decide (e.phase < e.div)

/-- Counts of *Table: Milestone kinds* for host-sourced entries. -/
def entryCounts (l : List Milestone) : Bool :=
  l.all fun e =>
    if e.kind = 9 then decide (l.countP (fun x => x.kind == 9 && x.param == e.param) ≤ 4)
    else if e.kind = 10 then decide (l.countP (fun x => x.kind == 10 && x.param == e.param) ≤ 2)
    else if e.kind = 11 then decide (l.countP (fun x => x.kind == 11) ≤ 16)
    else if e.kind = 8 then decide (l.countP (fun x => x.kind == 8 && x.param == e.param) ≤ 1)
    else false

/-- Entries the schedules and the module itself provide (R574): LATCH, SAMPLE, one MGMT_OPEN per
configured network, three per schedule, ENGINE_START and COMMIT. -/
def scheduleEntryCount (p : PlanIn) : Nat :=
  2 + p.nets.length + 3 * p.list.length + (if p.list = [] then 0 else 2)

/-- A condition's number with the network on which it fails, 0xFF for none. -/
abbrev PlanFail := Nat × Nat

/-- The first network of a list on which a condition fails. -/
def failOn (num : Nat) (l : List (Fin 2 × Schedule)) (ok : Fin 2 × Schedule → Bool) : Option PlanFail :=
  (l.find? fun x => !ok x).map fun x => (num, x.1.val)

/-- The round-plan check: the lowest-numbered failing condition and its network (R105). Conditions 2 and
9 hold by construction, since a schedule does not carry those offsets (05 R154). -/
def planCheck (p : PlanIn) : Option PlanFail :=
  let l := p.list
  let es : Nat := (l.head?.map fun x => x.2.engineStart).getD 0
  let cm : Nat := (l.head?.map fun x => x.2.commit).getD 0
  let gd : Nat := (l.map fun x => x.2.gatherDone).foldl max 0
  let late : Nat → Bool → Option PlanFail := fun num bad => if bad && l != [] then some (num, 0xFF) else none
  ((p.nets.find? fun n => !planCond1 p n).map fun n => ((1, n.val) : PlanFail)) <|>
  (if ([62500, 125000, 250000, 500000, 1000000].contains p.period) && decide (p.axisCount ≤ (if p.period = 62500 then 128 else 256))
    then none else (some (1, 0xFF) : Option PlanFail)) <|>
  failOn 3 l (fun x => decide (1000 ≤ x.2.gatherLaunch)) <|>
  failOn 4 l (fun x => decide (x.2.gatherLaunch + gatherTime x.2 p.links[x.1] ≤ x.2.gatherDone)) <|>
  late 5 (decide (es < gd)) <|>
  late 6 (decide (cm < es + 5200)) <|>
  failOn 7 l (fun x => decide (cm + 1000 ≤ x.2.commandLaunch)) <|>
  failOn 8 l (fun x => decide (x.2.commandLaunch + commandTime x.2 p.links[x.1] + 4000 ≤ p.period)) <|>
  late 10 (p.entries.any fun e => e.kind == 8 && e.param == 0 && decide (e.off < cm)) <|>
  late 11 (decide (p.period < gd + 10120)) <|>
  (if l.all (fun x => [x.2.gatherLaunch, x.2.gatherDone, x.2.engineStart, x.2.commit, x.2.commandLaunch].all fun o =>
        o % 10 == 0 && decide (o + 10 ≤ p.period)) &&
      p.entries.all (entryOk p.period) && entryCounts p.entries &&
      decide (scheduleEntryCount p + p.entries.length ≤ 64) then none else (some (12, 0xFF) : Option PlanFail))

/-! ### Break margins (04 R128) -/

/-- Node order along one side of the module by following the neighbour reports, with the L of each link;
fuel bounds the walk. -/
def walkRing (l : List Neighbour) (prev cur self : Nat) : Nat → List (Nat × Nat)
  | 0 => []
  | fuel + 1 =>
    if cur = self then [] else
    match l.find? fun x => x.node == cur && x.nbr != prev with
    | none => []
    | some x => (cur, x.delay) :: walkRing l cur x.nbr self fuel

/-- The ring as the module sees it from P1 round to P2: the L of its first link, then each node with the
L of the link after it. -/
def ringOrder (k : Links) : List (Nat × Nat) :=
  match k.map.find? fun x => x.node == k.self && x.side == 0 with
  | none => []
  | some x => walkRing k.map k.self x.nbr k.self 64

/-- L of the module's own first link. -/
def ringFirst (k : Links) : Nat :=
  ((k.map.find? fun x => x.node == k.self && x.side == 0).map (·.delay)).getD 0

/-- The arm term of an arm of nodes (R128). -/
def armTerm (nodes sumL : Nat) : Nat := if nodes = 0 then 0 else (2 * nodes - 1) * 640 + 2 * sumL

/-- The margin with the position at place i of the ring order open, in ns (R128). -/
def breakMargin (c : Schedule) (k : Links) (i : Nat) : Int :=
  let o := ringOrder k
  let linksBefore := (ringFirst k :: o.map (·.2)).take i
  let linksAfter := (o.map (·.2)).drop (i + 1)
  let worst := max (armTerm i linksBefore.sum) (armTerm (o.length - 1 - i) linksAfter.sum)
  (c.gatherDone : Int) - c.gatherLaunch - (8 * c.upstream + worst + 500 : Nat)

/-- Both margins and the worst position's node index, once the map is complete (R128, R575). -/
def breakMargins (c : Schedule) (k : Links) (partner : Option Nat) : Option (Int × Int × Nat) :=
  let o := ringOrder k
  let need := c.nodeList ++ partner.toList
  if c.topo = 0 ∧ need.all (fun i => o.any fun x => x.1 == i) = true then
    let ms := (List.range o.length).map fun i => (breakMargin c k i, ((o[i]?).map (·.1)).getD 0)
    let pm := (partner.bind fun i => ms.find? fun x => x.2 == i).map (·.1)
    match ms with
    | [] => none
    | m :: rest =>
      let w := rest.foldl (fun a b => if b.1 < a.1 then b else a) m
      some (pm.getD 0x7FFFFFFF, w.1, w.2)
  else none

end Sys2Proof.Machine
end

