-- ==== Sys2Proof/Machine/SchedOps.lean ====
section
/-! DEFINITION. The schedule in force of a network and its window states; the milestone table and the
round-plan check on the module's state (03 R96 to R98, R105, R574; 05 R171, R175, R176). -/

namespace Sys2Proof.Machine

open Sys2Proof

/-- Both networks. -/
def bothNets : List (Fin 2) := [0, 1]

/-- One network's media and joining state changed. -/
def modNet (n : Fin 2) (f : Net → Net) (s : Rc8) : Rc8 := { s with net := vmod s.net n f }

/-- One network's schedule state changed. -/
def modSch (n : Fin 2) (f : Sched → Sched) (s : Rc8) : Rc8 := { s with sch := vmod s.sch n f }

/-! ### The SML's axis maps (11 R346) -/

/-- The axis maps of the stored schedules are loaded into the SML, each with the CRC the SML computes of it: the map of a schedule is
loaded as the schedule's image, which its check value covers (11 R346; DEDUCED, log 35). -/
def loadMaps (s : Rc8) : Rc8 :=
  let l := bothNets.flatMap fun n => (s.nv.schedules[n]).map fun c => (n.val, c.id, crcWithout c.image 36)
  { s with saf := { s.saf with sml := { s.saf.sml with held := l } } }

/-- A network is configured (04 R140). -/
def configured (n : Fin 2) (s : Rc8) : Bool := (s.net[n]).state != .notConfigured

/-- Configured networks. -/
def nets (s : Rc8) : List (Fin 2) := bothNets.filter fun n => configured n s

/-- Id of the schedule in force, 0 where none (05 R154). -/
def schedId (n : Fin 2) (s : Rc8) : Nat := ((s.sch[n]).inForce.map (·.id)).getD 0

/-- The module's own node index: 62 for module 1, else 63 (05 R576). -/
def selfNode (s : Rc8) : Nat := if s.pair.position = 1 then 62 else 63

/-- The partner's node index. -/
def partnerNode (s : Rc8) : Nat := if s.pair.position = 1 then 63 else 62

/-- A 32-bit round as the full round nearest to the module's own. -/
def fullRound (r : Nat) (s : Rc8) : Nat :=
  let base := s.rnd.round - s.rnd.round % 2 ^ 32 + r
  if s.rnd.round + 2 ^ 31 ≤ base ∧ 2 ^ 32 ≤ base then base - 2 ^ 32 else if base + 2 ^ 31 < s.rnd.round then base + 2 ^ 32 else base

/-- Start of the current round in 2^-16 ns. -/
def roundStart (s : Rc8) : Nat := s.rnd.round * s.rnd.period * fracPerNs

/-- The clock stands at an offset of the current round. -/
def atOffset (off : Nat) (s : Rc8) : Rc8 := atPtu (roundStart s + off * fracPerNs) s

/-- The round an instant of plant time lies in (03 R91). -/
def roundOf (period t : Nat) : Nat := t / fracPerNs / period % 2 ^ 64

/-- The first round boundary that lies at least so many ns ahead. -/
def roundAfter (ns : Nat) (s : Rc8) : Nat :=
  ceilDiv (s.clk.ptu + ns * fracPerNs) (s.rnd.period * fracPerNs)

/-- Bytes written over a run of a list. -/
def overwrite (l : List Byte) (off : Nat) (b : List Byte) : List Byte := l.take off ++ b ++ l.drop (off + b.length)

/-! ### Writes into a frozen bank (01 R32) -/

/-- LATE_WRITE: a write into a frozen bank is refused and counted (01 R32, 03 R118). -/
def lateWrite (n : Fin 2) (master : Nat) (s : Rc8) : Rc8 :=
  raiseLimited (some 2) { src := 91, reason := 0x04, sev := .warning, p0 := n.val, p1 := master, p2 := 0 }
    { s with rnd := { s.rnd with late := s.rnd.late.set n (inc32 s.rnd.late[n]) } }

/-! ### Windows and the schedule in force -/

/-- A downstream window's state as the status command shows it, and an upstream one that starts NEW
(05 R176, R185). -/
def WinState.start (w : Window) : WinState :=
  { st := if w.down then .valid else .new, age := 0, content := zeros w.len, chans := 0, lostFor := 0,
    missedFlag := false, silenced := false, seq := 0 }

/-- The same window in two schedules: node, class and direction equal (R176). -/
def sameWindow (a b : Window) : Bool := a.node == b.node && a.station == b.station && a.down == b.down

/-- Window states after a switch: those of windows in both schedules carry over (R176). Of several windows with one node, class and
direction the first continues the first, the second the second, and so on (DESIGN CHOICE, log 107; R176 does not tell them apart). -/
def carryWindows (oldW : List Window) (oldS : List WinState) (new : List Window) : List WinState :=
  (new.zip (List.range new.length)).map fun w =>
    let place := (new.take w.2).countP fun v => sameWindow v w.1
    match ((oldW.zip oldS).filter fun x => sameWindow x.1 w.1)[place]? with
    | some x => { x.2 with content := padTo w.1.len x.2.content }
    | none => WinState.start w.1

/-- A schedule comes into force on a network (R175, R176). -/
def Sched.put (k : Sched) (c : Schedule) : Sched :=
  let oldW := (k.inForce.map (·.windows)).getD []
  { k with inForce := some c, wins := carryWindows oldW k.wins c.windows, sel := c.windows.map fun _ => none,
           tx := c.windows.map fun w => zeros w.len, txFrozen := c.windows.map fun w => zeros w.len }

/-- The stored schedule of an id. -/
def storedSched (n : Fin 2) (id : Nat) (s : Rc8) : Option Schedule := (s.nv.schedules[n]).find? fun c => c.id == id

/-- The module still knows a command of this id: it has not been delivered. -/
def execLives (id : Nat) (s : Rc8) : Bool := s.execs.any fun e => e.id == id

/-- A load is in progress from the arrival of its last block until its completion (05 R181). -/
def loadRuns (n : Fin 2) (s : Rc8) : Bool :=
  match (s.sch[n]).load with
  | some l => (match l.finishing with
    | some id => execLives id s
    | none => false)
  | none => false

/-- The milestone table changes: its generation is counted on (03 R114). -/
def tableChanged (s : Rc8) : Rc8 := { s with rnd := { s.rnd with generation := (s.rnd.generation + 1) % 65536 } }

/-- A stored schedule comes into force, and is the one the next cold start takes. -/
def putSchedule (n : Fin 2) (id : Nat) (s : Rc8) : Rc8 :=
  match storedSched n id s with
  | none => s
  | some c =>
    tableChanged { modSch n (fun k => k.put c) s with nv := { s.nv with schedActive := s.nv.schedActive.set n id } }

/-! ### The milestone table (03 R96, R97, R574) -/

/-- A schedule-sourced entry. -/
def schedEntry (kind param off : Nat) : Milestone :=
  { kind := kind, source := 0, param := param, off := off, div := 1, phase := 0, enabled := true }

/-- TASK_RELEASE entries of the active program image, one per configured task (R97). -/
def taskEntries (s : Rc8) : List Milestone :=
  (List.range 8).filterMap fun t =>
    match vget s.run.tasks t Task.reset |>.cfg with
    | none => none
    | some c => some { kind := 8, source := 1, param := t, off := c.offset, div := c.period, phase := c.phase, enabled := true }

/-- The first schedule in force: ENGINE_START and COMMIT are equal on both networks (05 condition 10). -/
def anySched (s : Rc8) : Option Schedule := (s.sch[0]).inForce <|> (s.sch[1]).inForce

/-- A schedule-sourced entry per network with a schedule in force. -/
def perSched (kind : Nat) (off : Schedule → Nat) (s : Rc8) : List Milestone :=
  bothNets.filterMap fun n => (s.sch[n]).inForce.map fun c => schedEntry kind n.val (off c)

/-- MGMT_OPEN of every configured network that has left BYPASSED (R574). -/
def mgmtEntries (s : Rc8) : List Milestone :=
  (nets s).filterMap fun n =>
    if (s.net[n]).state = .bypassed then none else some (schedEntry 12 n.val (s.rnd.period - 4000))

/-- The used entries in order of kind (R96, R98). -/
def milestoneTable (s : Rc8) : List Milestone :=
  [schedEntry 1 0 0, schedEntry 2 0 0] ++ perSched 3 (·.gatherDone) s ++
  (match anySched s with
   | none => []
   | some c => [schedEntry 4 0 c.engineStart, schedEntry 5 0 c.commit]) ++
  perSched 6 (·.commandLaunch) s ++ perSched 7 (·.gatherLaunch) s ++ taskEntries s ++
  s.rnd.host.filter (fun e => e.kind == 9) ++ s.rnd.host.filter (fun e => e.kind == 10) ++
  s.rnd.host.filter (fun e => e.kind == 11) ++ mgmtEntries s

/-- An entry fires in a round (R96). -/
def Milestone.fires (e : Milestone) (n : Nat) : Bool := e.enabled && e.div != 0 && n % e.div == e.phase

/-- The entries that fire in the current round and have not fired yet. -/
def milestonesLeft (s : Rc8) : List Milestone :=
  (milestoneTable s).filter fun e => e.fires s.rnd.round && !s.rnd.fired.contains e

/-- Two entries share an instant, and the first acts before the second: by kind, then by parameter (R98). -/
def Milestone.before (a b : Milestone) : Bool :=
  a.off == b.off && (decide (a.kind < b.kind) || (a.kind == b.kind && decide (a.param < b.param)))

/-- The earliest entry of a list; of entries at one instant the first in the table (R98). -/
def earliestEntry (l : List Milestone) : Option Milestone :=
  l.foldl (fun (m : Option Milestone) e => match m with
    | none => some e
    | some x => if e.off < x.off then some e else some x) none

/-- The entry of a kind and parameter that is next to fire in the current round (R96), where it is its turn: no entry of the same
instant that acts before it is still to fire (R98; log 51). -/
def dueEntry (kind param : Nat) (s : Rc8) : Option Milestone :=
  let l := milestonesLeft s
  (earliestEntry (l.filter fun e => e.kind == kind && e.param == param)).filter fun e => !(l.any fun x => x.before e)

/-- An entry fires: the clock stands at its instant. -/
def fireEntry (e : Milestone) (s : Rc8) : Rc8 := atOffset e.off { s with rnd := { s.rnd with fired := s.rnd.fired ++ [e] } }

/-- A milestone row: where its entry is due in the round, the clock stands at its instant and the action
runs; else no such milestone fires and nothing changes. -/
def atMilestone (kind param : Nat) (f : Rc8 → Rc8) (s : Rc8) : Rc8 :=
  match dueEntry kind param s with
  | none => s
  | some e => f (fireEntry e s)

/-- A milestone row whose action is given the offset. -/
def atNext (kind param : Nat) (f : Nat → Rc8 → Rc8) (s : Rc8) : Rc8 :=
  match dueEntry kind param s with
  | none => s
  | some e => f e.off (fireEntry e s)

/-! ### The round-plan check on the state (03 R105) -/

/-- What is known of the links of a network. -/
def linksOf (n : Fin 2) (s : Rc8) : Links :=
  let k := s.net[n]
  let side := fun (a b : Fin 4) => (if bitAt k.media.chans 0 then [(k.ports[a]).delay] else []) ++ (if bitAt k.media.chans 1 then [(k.ports[b]).delay] else [])
  { side1 := side 0 2, side2 := side 1 3, map := k.ringMap, arm1 := k.media.arm1, arm2 := k.media.arm2, self := selfNode s }

/-- Axes a bank configures: law not NONE (06 R204, R207). -/
def Bank.configured (b : Bank) : List Nat := (b.blocks.filter fun x => u8At x.2 0 != 0).map (·.1)

/-- Axes configured in the active bank (06 R207, R216). -/
def configuredAxes (s : Rc8) : List Nat := s.nv.banks[s.nv.bankActive].configured

/-- The plan as it would be with given schedules and host entries. -/
def planOf (s : Rc8) (scheds : Vector (Option Schedule) 2) (host : List Milestone) : PlanIn :=
  { period := s.rnd.period, media := vmap (·.media) s.net, scheds := scheds, axes := configuredAxes s, entries := taskEntries s ++ host,
    partner := s.pair.partner.present, links := #v[linksOf 0 s, linksOf 1 s] }

/-- The plan as it is stored for a cold start (03 R105). -/
def storedPlan (s : Rc8) : PlanIn := planOf s #v[storedSched 0 s.nv.schedActive[0] s, storedSched 1 s.nv.schedActive[1] s] s.rnd.host

/-- The plan in force. -/
def planNow (s : Rc8) : PlanIn := planOf s (vmap (·.inForce) s.sch) s.rnd.host

/-- ROUND_CONFIG_REFUSED (03 R105, R118). -/
def configRefused (f : PlanFail) (s : Rc8) : Rc8 :=
  raise { src := 91, reason := 0x06, sev := .error, p0 := f.1, p1 := f.2, p2 := s.rnd.period } s

/-- The current holder's node index, and the other module's. -/
def holderNode (s : Rc8) : Nat := if isStandby s then partnerNode s else selfNode s

/-- The index of the module that does not hold. -/
def otherNode (s : Rc8) : Nat := if isStandby s then selfNode s else partnerNode s

/-- The break margins are computed anew, for the holder's position on both modules, and BREAK_MARGIN_SHORT is raised where either
is negative (04 R128). -/
def updateMargins (n : Fin 2) (s : Rc8) : Rc8 :=
  match (s.sch[n]).inForce with
  | none => modNet n (fun k => { k with margins := none }) s
  | some c =>
    let partner := if s.pair.partner.present then some (otherNode s) else none
    let m := breakMargins c { linksOf n s with self := holderNode s } partner
    let s1 := modNet n (fun k => { k with margins := m }) s
    match m with
    | none => s1
    | some (pm, wm, node) =>
      if pm < 0 ∨ wm < 0 then
        raise { src := 33 + 8 * n.val, reason := 0x09, sev := .warning, p0 := s32Param pm, p1 := s32Param wm, p2 := node } s1
      else s1

/-- The round-plan check as the SVP runs it on the plan in force, with the margins of both networks (03
R105, 04 R128): the state after it, and the failing condition. -/
def runPlanCheck (s : Rc8) : Rc8 × Option PlanFail :=
  (updateMargins 1 (updateMargins 0 s), planCheck (planNow s))

end Sys2Proof.Machine
end

