-- ==== Sys2Proof/Machine/Learning.lean ====
section
/-! DEFINITION. Repetitive learning inside the engine: phase, playback, update, learning states, monitor and
resampling (07 R224 to R236). -/

namespace Sys2Proof.Machine

open Sys2Proof

/-- Learning of one axis. -/
def learnOf (a : Nat) (s : Rc8) : Learn := ((s.learn.find? fun x => x.1 == a).map (·.2)).getD Learn.reset

/-- Learning of one axis replaced. -/
def putLearn (a : Nat) (l : Learn) (s : Rc8) : Rc8 := { s with learn := assocPut s.learn a l }

/-- Learning of one axis changed. -/
def modLearn (a : Nat) (f : Learn → Learn) (s : Rc8) : Rc8 := putLearn a (f (learnOf a s)) s

/-- Points of the table (R226). -/
def LearnCfg.n (c : LearnCfg) : Nat := 2 ^ c.k

/-- One entry (R226). -/
def tableAt (t : List Int) (n i : Nat) : Int := t.getD (i % n) 0

/-- A table with all its entries. -/
def fullTable (t : List Int) (n : Nat) : List Int := (List.range n).map fun i => t.getD i 0

/-- One entry replaced. -/
def tablePut (t : List Int) (n i : Nat) (x : Int) : List Int := (fullTable t n).set (i % n) x

/-- A virtual master's record in the motion-class output image: its position, and its valid bit (R224). -/
def virtualMaster (img : List Byte) (v : Nat) : Int × Bool := (s64At img (8192 + 16 * v), bitAt (u16At img (8192 + 16 * v + 8)) 15)

/-- The phase of a position (R225). -/
def phaseOf (c : LearnCfg) (pm : Int) : Nat :=
  if c.cycle = 0 then 0 else ((pm - c.origin).emod c.cycle).toNat * 2 ^ 32 / c.cycle % 2 ^ 32

/-- The master of an axis in a round: its position, whether the phase is valid, and whether a master axis is
VALID (R224, R225). -/
structure MasterIn where
  pos : Option Int
  phaseOk : Bool
  fresh : Bool

/-- r of a round at phase phi: interpolated and rounded at e_T (R227). -/
def playback (c : LearnCfg) (t : List Int) (phi : Nat) : Fl :=
  let sh := 32 - c.k
  let i := phi / 2 ^ sh
  let f := phi % 2 ^ sh
  let a := tableAt t c.n i
  let b := tableAt t c.n (i + 1)
  { m := roundDivAway (a * 2 ^ sh + (b - a) * f) (2 ^ sh), e := c.exp }

/-- Points crossed from one phase to the next in the direction of travel, with their weights (R229). -/
def crossed (c : LearnCfg) (prev phi : Nat) : List (Nat × Rat) :=
  let step := 2 ^ (32 - c.k)
  if 0 < c.high then
    let adv := (phi + 2 ^ 32 - prev) % 2 ^ 32
    let first := prev / step + 1
    (List.range ((prev + adv) / step + 1 - first)).map fun j =>
      ((first + j) % c.n, mkRat (((first + j) * step : Nat) - (prev : Int)) adv)
  else
    let adv := (prev + 2 ^ 32 - phi) % 2 ^ 32
    let start := prev + 2 ^ 32
    let first := ceilDiv start step - 1
    let last := ceilDiv (start - adv) step
    (List.range (first + 1 - last)).map fun j =>
      ((first - j) % c.n, mkRat ((start : Int) - ((first - j) * step : Nat)) adv)

/-- The history holds seven consecutive points in the direction of travel (R229). -/
def consecutive (n : Nat) (up : Bool) : List (Nat × Rat) → Bool
  | [] => true
  | [_] => true
  | a :: b :: l => (if up then a.1 == (b.1 + 1) % n else b.1 == (a.1 + 1) % n) && consecutive n up (b :: l)

/-- An error of the history by its place, newest first. -/
def histAt (h : List (Nat × Rat)) (i : Nat) : Rat := ((h[i]?).map (·.2)).getD 0

/-- The filtered error (R229). -/
def filtered (c : LearnCfg) (h : List (Nat × Rat)) : Rat :=
  ((c.q0 : Rat) * histAt h 3 + (c.q1 : Rat) * (histAt h 2 + histAt h 4) + (c.q2 : Rat) * (histAt h 1 + histAt h 5) +
    (c.q3 : Rat) * (histAt h 0 + histAt h 6)) / 32768

/-- The update du, a mantissa at e_T (R229). -/
def updateOf (c : LearnCfg) (qe : Rat) : Int :=
  (Fl.ofRat (({ m := c.gainM, e := c.gainE } : Fl).rat * qe) c.exp).m

/-- A monitor reset and an empty history; the sums restart at the close of a cycle alone (R231, R233). -/
def Learn.restart (l : Learn) : Learn := { l with hist := [], growth := 0, msRef := none, cycles := 0 }

/-- A machine cycle closes (R233). -/
def Learn.close (l : Learn) : Learn :=
  let l1 := { l with cycles := inc32 l.cycles, lastUpdates := l.updates, sumsq := 0, updates := 0 }
  if l.updates * 4 < l.cfg.n ∨ l.updates = 0 then l1
  else
    let ms := mkRat l.sumsq l.updates
    let g := mkRat l.cfg.growth 4096
    let count := match l.msRef with
      | none => l.growth
      | some r => if g * g * r < ms then l.growth + 1 else 0
    { l1 with msRef := some ms, growth := count, ms := (ms, l.ms.1) }

/-- What the crossing of one point does: the learning, and the saturated point if any (R229). -/
def Learn.cross (epPrev ep : Rat) (l : Learn) (x : Nat × Rat) : Learn × Option Nat :=
  if l.st ≠ .learning then (l, none) else
  let c := l.cfg
  let up := decide (0 < c.high)
  let h := ((x.1, epPrev + (ep - epPrev) * x.2) :: l.hist).take 7
  let l1 := { l with hist := h }
  let r : Learn × Option Nat :=
    if h.length = 7 ∧ consecutive c.n up h = true then
      let back := if up then x.1 + 2 * c.n - 3 - c.lead else x.1 + 3 + c.lead
      let j := back % c.n
      let du := updateOf c (filtered c h)
      let want := tableAt l.table c.n j + du
      let put := clampInt (-(2 ^ 31 - 1)) (2 ^ 31 - 1) want
      ({ l1 with table := tablePut l.table c.n j put, touched := l1.touched ++ [(j, put)], sumsq := l.sumsq + du.natAbs * du.natAbs, updates := l.updates + 1,
                 saturated := if put = want then l.saturated else inc32 l.saturated },
       if put = want then none else some j)
    else (l1, none)
  let l2 := if x.1 = 0 then r.1.close else r.1
  ({ l2 with st := if c.monitor ≤ l2.growth ∧ 0 < l2.growth then .frozen else l2.st }, r.2)

/-- Every point of a round, with the points that saturated. -/
def Learn.crossAll (epPrev ep : Rat) : Learn → List (Nat × Rat) → Learn × List Nat
  | l, [] => (l, [])
  | l, x :: xs =>
    let r := l.cross epPrev ep x
    let t := Learn.crossAll epPrev ep r.1 xs
    (t.1, r.2.toList ++ t.2)

/-- Conditions for learning that fail, as bits (R230). The table's way back after a conversion failed still pends in the waymark's
round (09 R290). A snapshot that waits for its boundary is no table move here: the axis learns meanwhile (DESIGN CHOICE, log 103). -/
def pauseBits (l : Learn) (linear active enable : Bool) (m : MasterIn) (speed : Int) : Nat :=
  let c := l.cfg
  let inBand := if 0 < c.high then decide (c.low ≤ speed ∧ speed ≤ c.high) else decide (c.high ≤ speed ∧ speed ≤ c.low)
  flagBit (!linear) 0 + flagBit (!active) 1 + flagBit (!enable) 2 + flagBit (!(inBand && c.kind != 0)) 3 +
  flagBit (!(m.phaseOk && (c.kind == 2 || m.fresh))) 4 + flagBit (l.move.isSome || l.skip) 5 + flagBit (l.st != .learning) 6

/-- What learning gives a round before the stages run: its state with phi renewed, r, the pause bits and the
phase of the round before. -/
structure LearnIn where
  learn : Learn
  r : Fl
  pauses : Nat
  phiPrev : Nat

/-- Phase, speed, conditions and playback of a round (R225, R227, R230). -/
def learnRound (l : Learn) (linear active enable band : Bool) (m : MasterIn) : LearnIn :=
  let phi := match m.pos with
    | some pm => if m.phaseOk then phaseOf l.cfg pm else l.phi
    | none => l.phi
  let speed := match m.pos, l.master with
    | some a, some b => (a - b) * 256
    | _, _ => 0
  let p := pauseBits l linear active enable m speed
  { learn := { l with phi := phi, master := m.pos, pauses := p, ran := p == 0, hist := if p = 0 then l.hist else [], touched := [] },
    r := if l.st = .off ∨ band ∨ l.skip then Fl.zero else playback l.cfg l.table phi, pauses := p, phiPrev := l.phi }

/-! ### Learning states (R231) -/

/-- Learning state codes (R242). -/
def LearnSt.code : LearnSt → Nat
  | .off => 0 | .playback => 1 | .learning => 2 | .frozen => 3

/-- LEARN_STATE_CHANGED (R231, R243). -/
def learnChanged (a : Nat) (old new : LearnSt) (cause : Nat) (s : Rc8) : Rc8 :=
  if old = new then s
  else raise { src := 56, reason := 0x01, sev := .notice, p0 := a, p1 := old.code + 256 * new.code, p2 := cause } s

/-- A learning state put in force by a command or an error. -/
def learnGoto (a : Nat) (new : LearnSt) (cause : Nat) (s : Rc8) : Rc8 :=
  let l := learnOf a s
  let l1 := { l with st := new }
  learnChanged a l.st new cause (putLearn a (if new = .learning ∧ l.st ≠ .learning then l1.restart else l1) s)

/-- A control command acts at ENGINE_START of its effective round (*Table: Learning state machine*); an axis whose master kind is
"none" stays in OFF. -/
def learnControl (a mode : Nat) (s : Rc8) : Rc8 :=
  if mode = 0 ∨ (learnOf a s).cfg.kind = 0 then learnGoto a .off 1 s
  else if mode = 1 then learnGoto a .playback 1 s
  else learnGoto a .learning 1 s

/-- Control commands due at this ENGINE_START, in their order. -/
def learnControls (s : Rc8) : Rc8 :=
  s.learn.foldl (fun s x => if x.2.control = [] then s else
    x.2.control.foldl (fun s m => learnControl x.1 m s) (modLearn x.1 (fun l => { l with control := [] }) s)) s

/-- An uncorrectable table error (R231). -/
def tableError (a point : Nat) (s : Rc8) : Rc8 :=
  let l := learnOf a s
  learnChanged a l.st .off 2
    (raise { src := 57, reason := 0x05, sev := .error, p0 := a, p1 := point, p2 := lo32 s.rnd.round }
      (putLearn a { l with table := [], st := .off, hist := [] } s))

/-! ### Resampling (R236) -/

/-- One entry brought from one exponent to another and clipped. -/
def rescale (e1 e2 : Int) (q : Rat) : Int :=
  let v := if e2 ≤ e1 then q * ((2 ^ (e1 - e2).toNat : Int) : Rat) else q / ((2 ^ (e2 - e1).toNat : Int) : Rat)
  clampInt (-(2 ^ 31 - 1)) (2 ^ 31 - 1) (roundRat v)

/-- A table of n1 points resampled to n2 points by linear interpolation around the cycle, at a new exponent
(R236). -/
def resample (t : List Int) (n1 n2 : Nat) (e1 e2 : Int) : List Int :=
  (List.range n2).map fun i =>
    let x := i * n1
    let i1 := x / n2
    let a := tableAt t n1 i1
    let b := tableAt t n1 (i1 + 1)
    rescale e1 e2 ((a : Rat) + ((b - a : Int) : Rat) * mkRat (x % n2 : Nat) n2)

/-- A move that waits, over a table replaced meanwhile: a resample is formed from the new table (DEDUCED, log 62). -/
def TableMove.over (l : Learn) (t : List Int) (m : TableMove) : TableMove :=
  if m.why = 1 ∨ m.why = 3 then { m with table := resample t l.cfg.n m.cfg.n l.cfg.exp m.cfg.exp } else m

/-- The table is replaced (*Table: Learning state machine*). -/
def Learn.replaced (l : Learn) (cfg : LearnCfg) (t : List Int) : Learn :=
  let l1 := { l with cfg := cfg, table := fullTable t cfg.n, move := l.move.map (TableMove.over l t) }
  if l.st = .learning then l1.restart else l1

/-- After the stages: the update of a round in which learning runs (R229), and the learning events. -/
def learnUpdate (a : Nat) (li : LearnIn) (epPrev ep : Rat) (s : Rc8) : Rc8 :=
  if li.pauses ≠ 0 then putLearn a li.learn s
  else
    let r := li.learn.crossAll epPrev ep (crossed li.learn.cfg li.phiPrev li.learn.phi)
    let s1 := r.2.foldl (fun s j => raiseLimited (some 2) { src := 56, reason := 0x03, sev := .warning, p0 := a, p1 := j, p2 := 0 } s)
      (putLearn a r.1 s)
    if r.1.st = .frozen then
      let ratio := match li.learn.msRef, r.1.msRef with
        | some x, some y => if x = 0 then 0xFFFFFFFF else min 0xFFFFFFFF (y / x * 4096).floor.toNat
        | _, _ => 0
      raise { src := 56, reason := 0x02, sev := .warning, p0 := a, p1 := r.1.growth, p2 := ratio } s1
    else s1

end Sys2Proof.Machine
end

