-- ==== Sys2Proof/Machine/Wire.lean ====
section
/-! DEFINITION. Messages of the pair link as they stand on it: lease and digest records, the bytes of a content, its division into
messages of at most 2,048 payload bytes, the header and the CRC-32C (10 R308, R309, R312, R324). -/

namespace Sys2Proof.Machine

open Sys2Proof

/-! ### Lease and digest records (10 R312, R324) -/

/-- Kind codes. -/
def LeaseKind.code : LeaseKind → Nat
  | .renew => 1 | .release => 2 | .handover => 3 | .committed => 4 | .claim => 5

/-- The 16 bytes of a lease record. -/
def LeaseRec.bytes (r : LeaseRec) : List Byte :=
  le 2 r.epoch ++ le 1 r.kind.code ++ le 1 r.position ++ le 4 r.round ++ le 4 r.mark ++ le 1 r.key ++ le 1 r.mode ++ le 2 r.prio

/-- The 16 bytes of a lease answer. -/
def LeaseAns.bytes (a : LeaseAns) : List Byte :=
  le 2 a.epoch ++ le 1 a.role ++ le 1 a.position ++ le 4 a.round ++ le 2 a.inelig ++
  le 1 (flagBit a.confirmed 0 + flagBit a.homeReclaim 1 + flagBit a.resync 2) ++ le 1 a.key ++ le 2 a.mismatches ++ zeros 2

/-- A digest record's 16 bytes (R324). -/
def DigestRec.bytes (d : DigestRec) : List Byte := le 8 d.chain ++ le 4 d.seq ++ le 1 d.kind ++ le 1 (b2n d.own) ++ zeros 2

/-! ### How many bytes a content takes (R308). The spec gives the layout of lease and digest records alone: a content takes the bytes
of the values it names (DESIGN CHOICE, log 99). -/

/-- A number of bytes for each element. -/
def sumOf {α : Type} (f : α → Nat) (l : List α) : Nat := (l.map f).foldl (· + ·) 0

/-- A journal record: header, and 72 bytes a granule (08 R252). -/
def JournalRec.size (r : JournalRec) : Nat := 64 + 72 * r.granules.length

/-- A package: its image and its blocks. -/
def Package.size (p : Package) : Nat :=
  p.image.bytes.length + sumOf (fun x => 4 + x.2.length) p.engine + sumOf (fun x => 4 + x.2.length) p.learn

/-- A learning axis: its configuration and its table. -/
def Learn.size (l : Learn) : Nat := 64 + 4 * l.table.length

/-- Bytes an item takes. -/
def CopyItem.size : CopyItem → Nat
  | .images a l p => sumOf (fun x => x.bytes.length) (a.toList ++ l.toList) + sumOf Package.size p.toList
  | .publish mi mo si _ p q x => mi.length + mo.length + si.length + 8 + sumOf List.length (p ++ q) + sumOf (fun y => 8 + y.2.length) x
  | .retained _ area data j c => area.length + data.length + sumOf JournalRec.size (j ++ c) + 1
  | .bank _ x => 4 + 772 * x.blocks.length
  | .bankActive _ => 1
  | .axes l => 768 * l.length
  | .learning l => sumOf (fun x => x.2.size) l
  | .learnStored c x => 64 * c.length + 64 * x.length
  | .windows _ l => sumOf (fun w => 4 + w.content.length) l
  | .schedules _ l _ _ => sumOf (fun c => c.image.length) l + 8
  | .task _ x => 128 + x.stationOut.length + sumOf List.length x.results
  | .instances t e f => 24 * t.length + 8 * e.length + 4 * f.length
  | .program d => d.length
  | .change _ => 64
  | .pend l => 16 * l.length
  | .services l => 32 * l.length
  | .chains l => 8 * l.length
  | .config _ _ _ m _ _ => 32 + 16 * m.length
  | .safety b _ => b.length + 16
  | .password _ => 49
  | .ringMap _ _ l => 8 * l.length
  | .wantSchedule _ _ => 3
  | .schedule _ image => 1 + image.length
  | .equal _ => 1

/-- Bytes an operation takes. -/
def PairOp.size : PairOp → Nat
  | .command _ r => 12 + r.length
  | _ => 16

/-- Payload bytes of a content, before it is divided. -/
def PlkBody.size : PlkBody → Nat
  | .none => 0
  | .lease _ => 16
  | .digest l => 16 * l.length
  | .windows l => sumOf (fun x => 4 + x.2.2.length) l
  | .roundInputs _ states feedback field _ => 10 + 5 * states.length + feedback.length + field.length
  | .release r => 18 + 8 * r.gens.length
  | .cycleEnd _ => 10
  | .service _ data => 1 + data.length
  | .apply op _ => 8 + op.size
  | .confirm _ _ => 5
  | .waymark _ _ => 9
  | .copyDone _ => 1
  | .copied _ => 1
  | .copy items => sumOf CopyItem.size items
  | .part _ b => b.size

/-! ### A message (R308) -/

/-- The bytes of a content: of the records whose layout the spec gives, those; of any other, bytes the spec does not name (log 99). -/
def PlkBody.bytes : PlkBody → List Byte
  | .none => []
  | .lease (.record r) => r.bytes
  | .lease (.answer a) => a.bytes
  | .digest l => l.flatMap DigestRec.bytes
  | .part _ b => b.bytes
  | b => padTo b.size (Config.plkContent b)

/-- The payload of one message: at most 2,048 bytes of its content. -/
def PlkBody.payload : PlkBody → List Byte
  | .part k b => slice b.bytes (2048 * k) (min 2048 (b.size - 2048 * k))
  | b => b.bytes.take 2048

/-- Messages that follow the first, for the rest of a content. -/
def PlkBody.more (b : PlkBody) : Nat := (b.size - 1) / 2048

/-- The 16-byte header (*Table: Pair link message header*). -/
def plkHeader (type flags length seq round : Nat) : List Byte := le 1 type ++ le 1 flags ++ le 2 length ++ le 4 seq ++ le 8 round

/-- A message on the link: header, payload, and the CRC-32C over both. -/
def plkWire (type flags seq round : Nat) (b : PlkBody) : List Byte :=
  let m := plkHeader type flags b.payload.length seq round ++ b.payload
  m ++ le 4 (crc32c m)

end Sys2Proof.Machine
end

