-- ==== Sys2Proof/Machine/PairOps.lean ====
section
/-! DEFINITION. What every chapter asks of the pair: who holds the token, the pair link's sending side,
and operations that act on both modules (03 R112; 10 R306 to R310, R318, R569). -/

namespace Sys2Proof.Machine

open Sys2Proof

/-- A change is armed: PREPARING or ARMED (09 R284). -/
def changeArmed (s : Rc8) : Bool := s.chg.st == .preparing || s.chg.st == .armed

/-- A standby refuses the command (WRONG_STATE at step 6). -/
def refuseStandby (_ : Exec) (s : Rc8) : Option Status := if isStandby s then some .wrongState else none

/-- The module's lease is valid: the timer drives LEASE_PULSE (04 R133, 10 R313). -/
def leaseValid (s : Rc8) : Bool := s.pair.pulse

/-- The pair redundancy state changed. -/
def modPair (f : Pair → Pair) (s : Rc8) : Rc8 := { s with pair := f s.pair }

/-- Pair link message types that are acknowledged (10 R309). -/
def plkReliable (type : Nat) : Bool := decide (0x12 ≤ type ∧ type ≤ 0x31) && type != 0x11

/-- The last sequence sent of a type. -/
def lastSeqOf (l : List (Nat × Nat)) (type : Nat) : Option Nat := (l.find? fun x => x.1 == type).map (·.2)

/-- The sequence the next message of a type takes. -/
def plkNextSeq (type : Nat) (s : Rc8) : Nat :=
  ((lastSeqOf s.pair.plk.tx type).map fun x => (x + 1) % 2 ^ 32).getD 0

/-- One message goes out: it takes the next sequence of its type, and a reliable one awaits its acknowledgement (10 R308). -/
def plkMessage (type flags : Nat) (body : PlkBody) (s : Rc8) : Rc8 :=
  let seq := plkNextSeq type s
  { s with
    pair := { s.pair with plk :=
      { s.pair.plk with tx := assocPut s.pair.plk.tx type seq, lastTx := s.clk.refosc,
                        awaiting := if plkReliable type then s.pair.plk.awaiting ++ [{ type := type, flags := flags, seq := seq, round := s.rnd.round, body := body, tries := 0, since := s.clk.refosc }]
                                    else s.pair.plk.awaiting } }
    out := s.out ++ [.plk type flags seq s.rnd.round body (plkWire type flags seq s.rnd.round body)] }

/-- A content is handed to the pair link, where the link is up (10 R308): one message, with more of its type behind it where it is
longer than 2,048 bytes (DESIGN CHOICE, log 99), the last of them with the flags. -/
def plkSend (type flags : Nat) (body : PlkBody) (s : Rc8) : Rc8 :=
  if s.pair.plk.up then
    let m := body.more
    (List.range m).foldl (fun s k => plkMessage type (if k + 1 = m then flags else 0) (.part (k + 1) body) s)
      (plkMessage type (if m = 0 then flags else 0) body s)
  else s

/-- An operation that acts on both modules and needs the partner's confirmation where a partner is present
(03 R112, 10 R309, R334): alone, it acts or is scheduled at once; with a partner, it is sent as an APPLY
and the command waits for the CONFIRM; with a partner that cannot be reached the command ends with
INTEGRITY_FAIL. Round 0 stands for "when it is confirmed". -/
def pairStore (id : Nat) (op : PairOp) (round : Nat) (resp : List Byte) (late : Bool) (eff : Rc8 → Rc8) (s : Rc8) : Rc8 :=
  let entry : PendOp := { seq := none, round := round, op := op, exec := some id, confirmed := true, resp := resp, late := late, fromPartner := false }
  if !s.pair.partner.present then
    if round = 0 then endExec id .done resp (eff s)
    else
      let s1 := modPair (fun q => { q with pend := q.pend ++ [entry] }) s
      if late then waitExec id s1 else endExec id .done resp s1
  else if s.pair.plk.up then
    waitExec id (modPair (fun q => { q with pend := q.pend ++ [{ entry with seq := some (plkNextSeq 0x20 s), confirmed := false }] })
      (plkSend 0x20 0 (.apply op round) s))
  else endWith id .integrityFail s

/-- An operation of R569: it acts on this module at its round whether or not the partner confirms, and a
present partner is told. -/
def pairTell (id : Option Nat) (op : PairOp) (round : Nat) (resp : List Byte) (late : Bool) (s : Rc8) : Rc8 :=
  modPair (fun q => { q with pend := q.pend ++
      [{ seq := none, round := round, op := op, exec := id, confirmed := true, resp := resp, late := late, fromPartner := false }] })
    (if s.pair.partner.present then plkSend 0x20 0 (.apply op round) s else s)

end Sys2Proof.Machine
end

