-- ==== Sys2Proof/Machine/Engine.lean ====
section
/-! DEFINITION. The control engine: feedback, stages, laws, axis states, fault reactions, status records, bank
swaps (06 R188 to R214). -/

namespace Sys2Proof.Machine

open Sys2Proof

/-! ### Parameter blocks (06 R200, R204) -/

/-- The block of an axis that nothing has written: law NONE, the stated defaults of the sample age limit and of every
stage's exponent range (R195, R198), else zeros (DESIGN CHOICE, log 17). -/
def defaultBlock : List Byte :=
  ([0, 1, 2, 3, 4] : List Nat).foldl (fun b s => overwrite b (129 + 128 * s) [0x80, 0x7F]) (overwrite (zeros 768) 40 [1])

/-- The 768-byte block of an axis in a bank (R191). -/
def Bank.block (b : Bank) (a : Nat) : List Byte := ((b.blocks.find? fun x => x.1 == a).map (·.2)).getD defaultBlock

/-- The block of an axis in the active bank. -/
def activeBlock (a : Nat) (s : Rc8) : List Byte := s.nv.banks[s.nv.bankActive].block a

/-- The other bank. -/
def otherBank (b : Fin 2) : Fin 2 := if b = 0 then 1 else 0

/-- Law of a block: 0 NONE, 1 LINEAR, 2 BAND, 3 PASS (R204). -/
def lawOf (b : List Byte) : Nat := u8At b 0

/-- Start of a stage block. -/
def stageAt (s : Nat) : Nat := 128 + 128 * s

/-- Biquads of a stage (R200). -/
def biquads (b : List Byte) (s : Nat) : Nat := u8At b (stageAt s)

/-- e_min and e_max of a stage. -/
def stageMin (b : List Byte) (s : Nat) : Int := s8At b (stageAt s + 1)
/-- e_max of a stage. -/
def stageMax (b : List Byte) (s : Nat) : Int := s8At b (stageAt s + 2)

/-- Entry Ck of a stage (R200). -/
def coef (b : List Byte) (s k : Nat) : Fl := { m := s32At b (stageAt s + 32 + 4 * k), e := s8At b (stageAt s + 12 + k) }

/-- The chain gain of a stage. -/
def chainGain (b : List Byte) (s : Nat) : Fl := { m := s32At b (stageAt s + 4), e := s8At b (stageAt s + 8) }

/-- Coefficient of biquad j: b1, b2, a1, a2 (R200). -/
def biqCoef (b : List Byte) (s j i : Nat) : Fl := coef b s ((if s = 4 then 0 else 4) + 4 * j + i)

/-! ### Chains and stages (06 R201) -/

/-- One biquad in transposed direct form II: y and the new states (R201). DESIGN CHOICE: a sum that feeds the next product goes in at
the accumulator's full width; R192 gives every value inside a stage a 32-bit mantissa, and no rule says where between the sums of a
round it is brought to one (log 111). -/
def biquad (b : List Byte) (s j : Nat) (x s1 s2 : Fl) : Fl × Fl × Fl :=
  let y := acc [x, s1]
  (y, acc [(biqCoef b s j 0).mul x, ((biqCoef b s j 2).mul y).neg, s2], acc [(biqCoef b s j 1).mul x, ((biqCoef b s j 3).mul y).neg])

/-- The biquads of a stage in order, from biquad j: the signal, and the new states. -/
def chainFrom (b : List Byte) (s : Nat) (st : List Fl) (x : Fl) : Nat → Nat → Fl × List Fl
  | 0, _ => (x, [])
  | n + 1, j =>
    let r := biquad b s j x (st.getD (2 * j) Fl.zero) (st.getD (2 * j + 1) Fl.zero)
    let t := chainFrom b s st r.1 n (j + 1)
    (t.1, r.2.1 :: r.2.2 :: t.2)

/-- chain(x): the biquads, then the chain gain (R201). -/
def chain (b : List Byte) (s : Nat) (a : Axis) (x : Fl) : Fl × List Fl :=
  let r := chainFrom b s (vget a.biq s []) x (biquads b s) 0
  ((chainGain b s).mul r.1, r.2)

/-- What a stage has given so far: the axis with states and exponent stored, and its flags by stage. -/
structure StageRun where
  axis : Axis
  sat : Nat
  range : Nat

/-- The end of a stage: its exponent from states and outputs, its biquad states stored (R194, R195). Answers
the means to bring the stage's values to it. -/
def finish (b : List Byte) (s : Nat) (states outs : List Fl) (r : StageRun) : StageRun × StageEnd :=
  let k := stageEnd (states ++ outs) (vget r.axis.exps s 0) (stageMin b s) (stageMax b s)
  ({ axis := { r.axis with exps := vput r.axis.exps s fun _ => k.exp, biq := vput r.axis.biq s fun _ => states.map k.put },
     sat := r.sat + flagBit k.sat s, range := r.range + flagBit k.range s }, k)

/-- S0: ep, and the velocity estimate (R202). -/
def stage0 (b : List Byte) (pRef p pPrev : Int) (r : StageRun) : StageRun :=
  let ep := (coef b 0 0).mul (Fl.ofInt (pRef - p))
  let c := chain b 0 r.axis ((coef b 0 1).mul (Fl.ofInt (p - pPrev)))
  let f := finish b 0 c.2 [ep, c.1] r
  { f.1 with axis := { f.1.axis with ep := f.2.put ep, v := f.2.put c.1 } }

/-- S1: the velocity command (R202). -/
def stage1 (b : List Byte) (ep : Fl) (vRef : Int) (r : StageRun) : StageRun × Fl :=
  let c := chain b 1 r.axis ((coef b 1 0).mul ep)
  let vc := acc [c.1, (coef b 1 1).mul { m := vRef, e := -8 }]
  let f := finish b 1 c.2 [vc] r
  (f.1, f.2.put vc)

/-- Sign of an integer. -/
def signOf (x : Int) : Int := if 0 < x then 1 else if x < 0 then -1 else 0

/-- S2: the velocity law with its integrator, held by the anti-windup (R202). -/
def stage2 (b : List Byte) (vc v : Fl) (r : StageRun) : StageRun × Fl :=
  let ev := acc [vc, v.neg]
  let step := (coef b 2 1).mul ev
  let held := bitAt (u8At b 3) 0 && r.axis.bound != 0 && signOf step.m == r.axis.bound
  let i := if held then r.axis.i else acc [r.axis.i, step]
  let c := chain b 2 r.axis (acc [(coef b 2 0).mul ev, i])
  let f := finish b 2 (c.2 ++ [i]) [c.1] r
  ({ f.1 with axis := { f.1.axis with biq := vput f.1.axis.biq 2 fun _ => c.2.map f.2.put, i := f.2.put i, ev := f.2.put ev } }, f.2.put c.1)

/-- S3 on the change dv of the velocity reference: feedforward and repetitive compensation; in PASS its chain runs on zero
and ff has neither the chain nor r (R202, R205). -/
def stage3 (b : List Byte) (pass : Bool) (dv tff : Int) (rep : Fl) (r : StageRun) : StageRun × Fl :=
  let af := (coef b 3 0).mul { m := dv, e := -8 }
  let tf := (coef b 3 1).mul (Fl.ofInt tff)
  let c := chain b 3 r.axis (if pass then Fl.zero else af)
  let ff := acc (if pass then [af, tf] else [c.1, tf, (coef b 3 2).mul rep])
  let f := finish b 3 c.2 [ff] r
  ({ f.1 with axis := { f.1.axis with ff := f.2.put ff } }, f.2.put ff)

/-- S4: output shaping: chain, limits and slew; with the flags out_limit and slew_limit (R202). -/
def stage4 (b : List Byte) (x0 : Fl) (r : StageRun) : StageRun × Fl × Bool × Bool :=
  let lo := Fl.ofInt (s32At b 8)
  let hi := Fl.ofInt (s32At b 12)
  let slew := Fl.ofInt (u32At b 16)
  let c := chain b 4 r.axis x0
  let above := decide (hi.rat < c.1.rat)
  let below := decide (c.1.rat < lo.rat)
  let y1 := if above then hi else if below then lo else c.1
  let top := acc [r.axis.y, slew]
  let bot := acc [r.axis.y, slew.neg]
  let up := slew.m != 0 && decide (top.rat < y1.rat)
  let dn := slew.m != 0 && decide (y1.rat < bot.rat)
  let y := if up then top else if dn then bot else y1
  let f := finish b 4 c.2 [y] r
  ({ f.1 with axis := { f.1.axis with y := f.2.put y, bound := if up then 1 else if dn then -1 else if above then 1 else if below then -1 else 0 } },
   f.2.put y, above || below, up || dn)

/-- S1 and S2 on zero inputs: their states and exponents are stored, their outputs discarded (R188, R194, R205; DEDUCED,
log 60). -/
def restLaws (b : List Byte) (r : StageRun) : StageRun := (stage2 b Fl.zero Fl.zero (stage1 b Fl.zero 0 r).1).1

/-- S1 to S4 on zero inputs, in the rounds whose law does not use them: every slot runs the same sequence (R188, R194, R206;
DEDUCED, log 60). The output that was sent last stays y_prev. -/
def restStages (b : List Byte) (r : StageRun) : StageRun :=
  let q := (stage4 b Fl.zero (stage3 b false 0 0 Fl.zero (restLaws b r)).1).1
  { q with axis := { q.axis with y := r.axis.y, bound := 0 } }

/-! ### Feedback (06 R198, R199) -/

/-- Network, window index and place of an axis in the schedule that carries it (05 R154). -/
structure AxisPlace where
  net : Fin 2
  sched : Schedule
  map : AxisMap
  /-- Index of the drive's upstream and downstream window -/
  up : Nat
  down : Nat

/-- Where an axis is carried, if any schedule in force maps it (06 R189). -/
def axisPlace (a : Nat) (s : Rc8) : Option AxisPlace :=
  bothNets.findSome? fun n => (s.sch[n]).inForce.bind fun c =>
    (c.axes.find? fun x => x.axis == a).map fun x =>
      { net := n, sched := c, map := x, up := c.windows.findIdx fun w => w.node == x.node && !w.station && !w.down,
        down := c.windows.findIdx fun w => w.node == x.node && !w.station && w.down }

/-- The state of a window by its index; no window is NEW. -/
def winState (n : Fin 2) (i : Nat) (s : Rc8) : WinState :=
  (((s.sch[n]).wins[i]?)).getD { st := .new, age := 0, content := [], chans := 0, lostFor := 0, missedFlag := false, silenced := false, seq := 0 }

/-- The axis record at an axis's place in its window (05 R160). -/
def axisRecord (p : AxisPlace) (s : Rc8) : List Byte := slice (winState p.net p.up s).content (28 * p.map.pos) 16

/-- Motion lost count against which an axis is judged (R199). -/
def lostLimit (p : Option AxisPlace) (s : Rc8) : Nat :=
  match p with
  | some x => x.sched.motionLost
  | none => ((anySched s).map (·.motionLost)).getD 3

/-- Feedback of an axis in a round (R198). -/
structure Feedback where
  p : Int
  st : FbSt
  extrapolated : Bool
  aged : Bool
  driveFault : Bool

/-- The position used, the feedback state and the new counts (*Table: Feedback selection*). DESIGN CHOICE: in a round in which the
window is STALE, LOST or RETURNING the count of missing rounds is kept; R199 lists the rounds in which it advances and no others, and
does not say that it ends there (log 112). -/
def selectFeedback (ageLimit limit : Nat) (w : WinSt) (mapped : Bool) (rec : List Byte) (a : Axis) : Feedback × Axis :=
  let base := a.p.getD 0
  let extra := base + a.delta
  let valid := mapped && w == .valid
  let ok := valid && bitAt (u16At rec 12) 15
  let age := u16At rec 14
  let got := ok && decide (age ≤ ageLimit)
  let isNew := !mapped || w == .new || w == .newReturning
  let miss := if got then 0 else if valid || isNew then inc16 a.miss else a.miss
  let isLost := decide (limit ≤ miss) || (mapped && (w == .lost || w == .returning))
  let p := if isLost then base else if got then s64At rec 0 + age * a.delta else extra
  ({ p := p, st := if isLost then .lost else if got then .valid else .stale, extrapolated := !isLost && !got,
     aged := got && decide (0 < age), driveFault := ok && bitAt (u16At rec 12) 1 },
   { a with p := some p, miss := miss, received := got, delta := if got && a.received then p - base else a.delta })

/-- Setpoint record of an axis, its control bits 0 where it is not valid (R197). -/
structure Setpoint where
  pRef : Int
  vRef : Int
  tff : Int
  control : Nat
  valid : Bool

/-- The setpoint record at +32 × a of the motion-class output image (R197). -/
def setpointOf (img : List Byte) (a : Nat) : Setpoint :=
  let c := u16At img (32 * a + 16)
  { pRef := s64At img (32 * a), vRef := s32At img (32 * a + 8), tff := s32At img (32 * a + 12), control := if bitAt c 15 then c else 0, valid := bitAt c 15 }

/-! ### Axis states (06 R207) -/

/-- Axis state codes (R213). -/
def AxisMode.code : AxisMode → Nat
  | .idle => 0 | .active => 1 | .extrapolating => 2 | .fault => 3

/-- Stage states zeroed and exponents reset (R194, R207). -/
def Axis.zeroed (b : List Byte) (a : Axis) : Axis :=
  { a with biq := Vector.replicate 5 [], exps := vgen 5 (fun s => clampInt (stageMin b s) (stageMax b s) 0), i := Fl.zero, bound := 0 }

/-- What the axis state machine does in a round: the axis, and an event with its last parameters. -/
inductive AxisAct where
  | none
  | faulted (cause : Nat)
  | cleared (rounds by_ : Nat)

/-- The fault reaction a block selects (R204, R208). -/
def reactionOf (b : List Byte) : Reaction :=
  if u8At b 2 = 1 then .hold else if lawOf b = 2 then .low (s32At b 32) else .ramp

/-- An axis enters FAULT: its reaction is fixed, and a ramp starts from the last velocity estimate (R207, R208). -/
def Axis.toFault (b : List Byte) (a : Axis) (cause round : Nat) : Axis :=
  { a with st := .fault, cause := cause, fromIdle := a.st == .idle, enableOff := false, quick := false, since := round, rampDone := false,
           ramp := a.v.speed, react := reactionOf b }

/-- The events of a round in their order; an ignored one lets the next act (R207). -/
def axisEvent (b : List Byte) (f : Feedback) (cond : Nat) (setReset enable : Bool) (round : Nat) (a : Axis) : Axis × AxisAct :=
  let inFault := a.st == .fault
  let reset := setReset || a.resetDue
  if f.st = .lost then
    if a.st = .extrapolating ∨ a.st = .active then (a.toFault b 1 round, .faulted 1) else (a, .none)
  else if cond ≠ 0 then
    if inFault then (a, .none) else (a.toFault b cond round, .faulted cond)
  else if a.haltDue && !inFault then (a.toFault b 5 round, .faulted 5)
  else if f.st = .stale then
    (if a.st = .active then { a with st := .extrapolating } else a, .none)
  else if reset && inFault then
    ({ a.zeroed b with st := .idle, cause := 0, quick := false }, .cleared (round - a.since) (if setReset then 1 else 2))
  else if inFault then ({ a with enableOff := a.enableOff || !enable }, .none)
  else if enable then (if a.st = .idle then { a.zeroed b with st := .active, y := Fl.zero } else { a with st := .active }, .none)
  else ({ a with st := .idle }, .none)

/-! ### BAND (06 R206) -/

/-- The BAND decision of a round: state and counter (*Table: BAND state machine*). -/
def bandStep (b : List Byte) (ep : Rat) (computing : Bool) (st : BandSt) (count : Nat) : BandSt × Nat :=
  let h := ((s32At b 24 : Int) : Rat)
  let c := count - 1
  let free := c == 0
  let st1 := if free then (match st with
    | .lowHeld => BandSt.low
    | .highHeld => BandSt.high
    | x => x) else st
  let hold := fun (held open_ : BandSt) (n : Nat) => if n = 0 then (open_, 0) else (held, n)
  match st1 with
  | .low => if computing && decide (h < ep) then hold .highHeld .high (u16At b 36) else (.low, 0)
  | .lowHeld => (.lowHeld, c)
  | .high => if !computing || decide (ep < -h) then hold .lowHeld .low (u16At b 38) else (.high, 0)
  | .highHeld => if !computing then hold .lowHeld .low (u16At b 38) else (.highHeld, c)

/-- The BAND output is high. -/
def BandSt.isHigh : BandSt → Bool
  | .high => true | .highHeld => true | _ => false

/-! ### One axis in a round -/

/-- Everything a round gives an axis. -/
structure AxisIn where
  axis : Nat
  block : List Byte
  fb : Feedback
  windowAge : Nat
  mapped : Bool
  set : Setpoint
  learn : LearnIn
  round : Nat
  slip : Bool
  bank : Nat

/-- What a round gives for an axis. -/
structure AxisOut where
  axis : Axis
  record : CmdRec
  act : AxisAct
  sat : Nat
  range : Nat

/-- The mode a law sends (R205). -/
def lawMode (b : List Byte) : Nat :=
  match lawOf b with
  | 1 => 3 | 2 => 3 | 3 => (if u8At b 1 = 1 then 1 else 2) | _ => 0

/-- The fault reaction's record, and the ramp, whose deceleration is the bank's in force (R208, R209, R211). DESIGN CHOICE:
ramp_done is set in the round in which the ramp value sent first is 0; the spec sets it after the ramp has reached 0, and does
not name the round (log 18). -/
def reaction (b : List Byte) (set : Setpoint) (a : Axis) : CmdRec × Axis :=
  let off := a.enableOff || a.fromIdle
  let en := bitAt set.control 0 && !off
  if a.quick then ({ a.last with quick := true, enable := a.last.enable && !off }, a)
  else match a.react with
    | .hold => ({ a.last with enable := a.last.enable && !off }, a)
    | .low v => ({ command := v, feedforward := 0, enable := en, quick := bitAt set.control 1, mode := 3 }, a)
    | .ramp =>
      let r := a.ramp - signOf a.ramp * min a.ramp.natAbs (u32At b 20)
      ({ command := r, feedforward := 0, enable := en, quick := bitAt set.control 1, mode := 2 }, { a with ramp := r, rampDone := r == 0 })

/-- Status bits that the record of a round carries beside the stages' flags. -/
structure RoundFlags where
  outLimit : Bool
  slewLimit : Bool
  vc : Fl

/-- The law of a round in ACTIVE and EXTRAPOLATING (R202, R205). DESIGN CHOICE: in PASS the term c2 × r of S3 joins the command exactly:
no rule rounds it to S3's exponent or counts it in S3's M (log 113). -/
def lawRecord (i : AxisIn) (r : StageRun) : StageRun × CmdRec × RoundFlags :=
  let b := i.block
  let en := bitAt i.set.control 0
  let q := bitAt i.set.control 1
  let none_ : RoundFlags := { outLimit := false, slewLimit := false, vc := Fl.zero }
  match lawOf b with
  | 1 =>
    let s1 := stage1 b r.axis.ep i.set.vRef r
    let s2 := stage2 b s1.2 r.axis.v s1.1
    let s3 := stage3 b false (i.set.vRef - r.axis.vRef) i.set.tff i.learn.r s2.1
    let s4 := stage4 b (acc [s2.2, s3.2]) s3.1
    (s4.1, { command := s4.2.1.s32, feedforward := s3.2.s32, enable := en, quick := q, mode := 3 },
     { outLimit := s4.2.2.1, slewLimit := s4.2.2.2, vc := s1.2 })
  | 2 => (restStages b r, { command := if r.axis.band.isHigh then s32At b 28 else s32At b 32, feedforward := 0, enable := en, quick := q, mode := 3 }, none_)
  | _ =>
    let rep := (coef b 3 2).mul i.learn.r
    let s3 := stage3 b true (i.set.vRef - r.axis.vRef) i.set.tff i.learn.r (restLaws b r)
    let s4 := stage4 b s3.2 s3.1
    let cmd := if u8At b 1 = 1 then toSigned 32 ((i.set.pRef + rep.at 0).emod 4294967296).toNat
               else satS32 (({ m := i.set.vRef, e := 0 } : Fl).at 0 + ({ rep with e := rep.e + 8 } : Fl).at 0)
    (s4.1, { command := cmd, feedforward := s4.2.1.s32, enable := en, quick := q, mode := lawMode b },
     { outLimit := s4.2.2.1, slewLimit := s4.2.2.2, vc := Fl.zero })

/-- The record an axis sends in IDLE: enable 0; BAND sends its low level, and the content of another law's
record is not stated (log 18). -/
def idleRecord (i : AxisIn) : CmdRec :=
  let free := Config.idleCommand i.axis i.round
  if lawOf i.block = 2 then { command := s32At i.block 32, feedforward := 0, enable := false, quick := bitAt i.set.control 1, mode := 3 }
  else { command := satS32 free.1, feedforward := satS32 free.2, enable := false, quick := bitAt i.set.control 1, mode := lawMode i.block }

/-- The axis status word (R213). -/
def statusWord (i : AxisIn) (a : Axis) (sat range : Nat) (f : RoundFlags) (fe : Bool) : Nat :=
  a.st.code + 4 * lawOf i.block + flagBit i.fb.extrapolated 4 + flagBit i.fb.aged 5 + flagBit (i.fb.st == .lost) 6 +
  flagBit fe 7 + flagBit f.outLimit 8 + flagBit f.slewLimit 9 + flagBit (lawOf i.block == 2 && a.band.isHigh) 10 +
  flagBit (lawOf i.block == 2 && (a.band == .lowHeld || a.band == .highHeld)) 11 + flagBit (a.st == .fault && a.rampDone) 12 +
  flagBit (!i.mapped) 13 + 2 ^ 14 * sat + 2 ^ 19 * range + flagBit (i.bank == 1) 24 + flagBit i.slip 25 +
  flagBit (a.st == .fault && a.quick) 26 + flagBit (i.learn.pauses == 0) 27 + flagBit i.fb.driveFault 28 + flagBit (!i.set.valid) 29

/-- The 64-byte axis status record (R214). -/
def statusRecord (i : AxisIn) (a : Axis) (word : Nat) (r : CmdRec) (vc : Fl) : List Byte :=
  le 4 word ++ le 2 i.windowAge ++ le 1 (if a.st = .fault then a.cause else 0) ++ le 1 r.mode ++ leS 8 i.fb.p ++ leS 8 i.set.pRef ++
  leS 4 a.ep.s32 ++ leS 4 a.v.speed ++ leS 4 vc.speed ++ leS 4 r.command ++ leS 4 r.feedforward ++ leS 4 i.learn.r.s32 ++
  le 4 i.learn.learn.phi ++ (vlist a.exps).flatMap (leS 1) ++ zeros 3 ++ le 4 (lo32 i.round)

/-- One axis through one round (R188, R197 to R214). The feedback has been selected: a.p holds p_used. DESIGN CHOICE: where
several fault conditions hold in one round, the cause recorded is the following error before the drive's fault before the
memory error, the order in which R207 lists them; the spec states none (log 18). -/
def axisRound (i : AxisIn) (pPrev : Option Int) (a0 : Axis) : AxisOut :=
  let b := i.block
  let a1 := if a0.started then a0 else { a0 with started := true, vRef := i.set.vRef, y := Fl.zero, exps := vgen 5 (fun s => clampInt (stageMin b s) (stageMax b s) 0) }
  let fe := u32At b 4 != 0 && decide (u32At b 4 < (i.set.pRef - i.fb.p).natAbs)
  let live := a1.st == .active || a1.st == .extrapolating
  let cond := if fe && live then 2 else if i.fb.driveFault then 3 else if a1.memError then 4 else 0
  let bit := bitAt i.set.control 2
  let ev := axisEvent b i.fb cond (bit && !a1.resetBit) (bitAt i.set.control 0) i.round a1
  let a2 := { ev.1 with resetBit := bit, haltDue := false, resetDue := false, memError := false }
  let r0 := stage0 b i.set.pRef i.fb.p (if a0.started then pPrev.getD i.fb.p else i.fb.p) { axis := a2, sat := 0, range := 0 }
  let computing := a2.st == .active || a2.st == .extrapolating
  let band := if lawOf b = 2 then bandStep b r0.axis.ep.rat computing r0.axis.band r0.axis.bandCount else (.low, 0)
  let r1 := { r0 with axis := { r0.axis with band := band.1, bandCount := band.2 } }
  let none_ : RoundFlags := { outLimit := false, slewLimit := false, vc := Fl.zero }
  let res : StageRun × CmdRec × RoundFlags :=
    if computing then lawRecord i r1
    else if a2.st = .fault then
      let q := reaction b i.set r1.axis
      (restStages b { r1 with axis := q.2 }, q.1, none_)
    else (restStages b r1, idleRecord i, none_)
  let a3 := { res.1.axis with vRef := i.set.vRef, last := if a2.st = .fault then res.1.axis.last else res.2.1,
                              extra := if i.fb.extrapolated then inc32 res.1.axis.extra else 0 }
  let word := statusWord i a3 res.1.sat res.1.range res.2.2 fe
  { axis := { a3 with status := statusRecord i a3 word res.2.1 res.2.2.vc }, record := res.2.1, act := ev.2, sat := res.1.sat, range := res.1.range }

/-! ### The engine's round (06 R188 to R190) -/

/-- What the engine keeps of an axis. -/
def axisOf (a : Nat) (s : Rc8) : Axis := ((s.eng.axes.find? fun x => x.1 == a).map (·.2)).getD Axis.reset

/-- The engine changed. -/
def modEng (f : Engine → Engine) (s : Rc8) : Rc8 := { s with eng := f s.eng }

/-- The 64-byte status record of an axis: before the first ENGINE_START it is zero but for the law of the active bank (R213,
R214). -/
def statusOf (a : Nat) (s : Rc8) : List Byte :=
  let r := (axisOf a s).status
  if r = [] then padTo 64 (le 4 (4 * lawOf (activeBlock a s))) else padTo 64 r

/-- What the engine keeps of an axis replaced. -/
def putAxis (a : Nat) (x : Axis) (s : Rc8) : Rc8 := modEng (fun e => { e with axes := assocPut e.axes a x }) s

/-- Axes the schedules in force map. -/
def mappedAxes (s : Rc8) : List Nat := bothNets.flatMap fun n => (((s.sch[n]).inForce.map (·.axes)).getD []).map (·.axis)

/-- Axes whose feedback is selected: every axis the CEN computes (R188, R198). -/
def feedbackAxes (_ : Rc8) : List Nat := List.range 256

/-- An axis after so many rounds without a schedule in force: each has counted as missing, its position goes on with Δ until the
count reaches 3, and is held from then on (R198, R199). -/
def Axis.afterBare (n : Nat) (a : Axis) : Axis :=
  if n = 0 then a
  else { a with p := some (a.p.getD 0 + (min n (2 - a.miss) : Nat) * a.delta), miss := satAdd 0xFFFF a.miss n, received := false }

/-- An axis as the rounds before this one have left it. -/
def axisNow (a : Nat) (s : Rc8) : Axis := (axisOf a s).afterBare s.eng.bare

/-- A round begins with no schedule in force (R199). -/
def countBare (s : Rc8) : Rc8 := if (anySched s).isNone then modEng (fun e => { e with bare := inc16 e.bare }) s else s

/-- Feedback of one axis selected and kept. -/
def feedbackOf (a : Nat) (s : Rc8) : Feedback × Axis :=
  let p := axisPlace a s
  let w := (p.map fun x => (winState x.net x.up s).st).getD .new
  selectFeedback (u8At (activeBlock a s) 40) (lostLimit p s) w p.isSome ((p.map fun x => axisRecord x s).getD []) (axisNow a s)

/-- The master of an axis (R224, R225), from the feedback of the round. -/
def masterOf (c : LearnCfg) (set : List Byte) (fb : List (Nat × Feedback)) : MasterIn :=
  match c.kind with
  | 1 => (match fb.find? fun x => x.1 == c.master with
    | some x => { pos := some x.2.p, phaseOk := x.2.st != .lost, fresh := x.2.st == .valid }
    | none => { pos := none, phaseOk := false, fresh := false })
  | 2 => { pos := some (virtualMaster set c.master).1, phaseOk := (virtualMaster set c.master).2, fresh := true }
  | _ => { pos := none, phaseOk := false, fresh := false }

/-- Events of an axis's round (R223). DESIGN CHOICE: an exp_range flag alone raises AXIS_SATURATED too, as it stands among its
parameters; no rule says which flags raise it (log 115). -/
def axisEvents (a : Nat) (b : List Byte) (o : AxisOut) (fb : Feedback) (s : Rc8) : Rc8 :=
  let s1 := match o.act with
    | .none => s
    | .faulted c => raise { src := 49, reason := 0x02, sev := .error, p0 := a, p1 := c, p2 := u8At b 2 }
        (modEng (fun e => { e with axisFaults := inc32 e.axisFaults }) s)
    | .cleared n by_ => raise { src := 49, reason := 0x03, sev := .notice, p0 := a, p1 := n, p2 := by_ } s
  let s2 := if fb.extrapolated then
      raiseLimited none { src := 49, reason := 0x01, sev := .warning, p0 := a, p1 := lo32 s.rnd.round, p2 := o.axis.extra }
        (modEng (fun e => { e with extraRounds := inc32 e.extraRounds }) s1) else s1
  let s3 := if o.sat ≠ 0 then modEng (fun e => { e with satRounds := inc32 e.satRounds }) s2 else s2
  if o.sat ≠ 0 ∨ o.range ≠ 0 then
    raiseLimited none { src := 49, reason := 0x04, sev := .warning, p0 := a, p1 := o.sat + 256 * o.range, p2 := lo32 s.rnd.round } s3
  else s3

/-- One configured axis of the round: stages, learning, events, its record (R188). -/
def engineAxis (set : List Byte) (fb : List (Nat × Feedback)) (prev : List (Nat × Axis)) (a : Nat) (s : Rc8) : Rc8 :=
  match fb.find? fun x => x.1 == a with
  | none => s
  | some f =>
    let b := activeBlock a s
    let place := axisPlace a s
    let before := ((prev.find? fun x => x.1 == a).map (·.2)).getD Axis.reset
    let sp := setpointOf set a
    let cur := axisOf a s
    let l := learnOf a s
    let m := masterOf l.cfg set fb
    -- the axis state after this round's events decides whether learning runs
    let probe := fun (li : LearnIn) => axisRound
      { axis := a, block := b, fb := f.2, windowAge := (place.map fun x => (winState x.net x.up s).age).getD 0, mapped := place.isSome,
        set := sp, learn := li, round := s.rnd.round, slip := s.eng.slipped, bank := s.nv.bankActive.val } before.p cur
    let st := (probe (learnRound l (lawOf b == 1) true (bitAt sp.control 3) (lawOf b == 2) m)).axis.st
    let li := learnRound l (lawOf b == 1) (st == .active) (bitAt sp.control 3) (lawOf b == 2) m
    let o := probe li
    let s1 := putAxis a o.axis (modEng (fun e => { e with records := e.records ++ [(a, o.record)] }) s)
    axisEvents a b o f.2 (learnUpdate a li before.ep.rat o.axis.ep.rat s1)

/-- An axis with law NONE in a round: its results are discarded (R188). Where it is mapped its record is valid, enable 0, mode
NONE and zeros (R205); its status record is renewed with what the round gives every axis, its results zero (R213, R214; DESIGN CHOICE,
log 18). Its phase and pause causes are renewed (07 R225, R230), and so are the setpoint's reset bit and the last record of an axis
that is not in FAULT, which R207 and R208 take of the round before. -/
def engineNone (set : List Byte) (fb : List (Nat × Feedback)) (a : Nat) (s : Rc8) : Rc8 :=
  match fb.find? fun x => x.1 == a with
  | none => s
  | some f =>
    let b := activeBlock a s
    let place := axisPlace a s
    let sp := setpointOf set a
    let old := axisOf a s
    let x := { old with started := false, vRef := sp.vRef, extra := if f.2.extrapolated then inc32 old.extra else 0,
                        resetBit := bitAt sp.control 2, last := if old.st = .fault then old.last else CmdRec.zero }
    let l := learnOf a s
    let li := learnRound l false false (bitAt sp.control 3) false (masterOf l.cfg set fb)
    let i : AxisIn := { axis := a, block := b, fb := f.2, windowAge := (place.map fun y => (winState y.net y.up s).age).getD 0, mapped := true,
                        set := sp, learn := { li with r := Fl.zero }, round := s.rnd.round, slip := s.eng.slipped, bank := s.nv.bankActive.val }
    let fe := u32At b 4 != 0 && decide (u32At b 4 < (sp.pRef - f.2.p).natAbs)
    let word := statusWord i x 0 0 { outLimit := false, slewLimit := false, vc := Fl.zero } fe
    let s1 := if l == li.learn then s else putLearn a li.learn s
    let s2 := if place.isSome then modEng (fun e => { e with records := e.records ++ [(a, CmdRec.zero)] }) s1 else s1
    putAxis a { x with status := statusRecord i { x with ep := Fl.zero, v := Fl.zero } word CmdRec.zero Fl.zero } s2

/-- Setpoints of an earlier round are used (03 R107): in RUN, after the first round, no set has been published
since the last ENGINE_START. -/
def slips (gen : Nat) (s : Rc8) : Bool :=
  s.run.mode == .run && decide (s.run.modeRound < s.rnd.round) && (s.run.tasks[0]).cfg.isSome && gen == s.eng.usedGen

/-- A setpoint slip counted and raised (03 R107, R118). -/
def countSlip (slip : Bool) (s : Rc8) : Rc8 :=
  if slip then
    let run := s.rnd.slipRun + 1
    raiseLimited none { src := 91, reason := 0x05, sev := .warning, p0 := 0, p1 := lo32 s.rnd.round, p2 := run }
      { s with rnd := { s.rnd with slips := inc32 s.rnd.slips, slipRun := run, lastSlip := s.rnd.round } }
  else { s with rnd := { s.rnd with slipRun := 0 } }

/-- The slot sequence over all axes on frozen feedback and a set of setpoints (R188, R190). The whole
computation is counted at its start; its results go to the banks at its end (log 18). -/
def engineCompute (set : List Byte) (s : Rc8) : Rc8 :=
  let sel := (feedbackAxes s).map fun a => (a, feedbackOf a s)
  let prev := (feedbackAxes s).map fun a => (a, axisNow a s)
  let fb := sel.map fun x => (x.1, x.2.1)
  let s1 := modEng (fun e => { e with axes := sel.map fun x => (x.1, x.2.2), records := [], started := true, done := false, bare := 0 }) s
  (List.range 256).foldl (fun s a => if lawOf (activeBlock a s) = 0 then engineNone set fb a s else engineAxis set fb prev a s) s1

/-! ### Command records into the transmit banks (06 R189, 05 R160) -/

/-- The 16 bytes of a command record (05 R160). DESIGN CHOICE: control word bit 2, fault reset, is always 0: 05 names the bit,
06 copies only enable and quick stop into the record and takes a fault reset of the setpoint for the axis's own state (log 18). -/
def CmdRec.bytes (r : CmdRec) : List Byte :=
  leS 4 r.command ++ leS 4 r.feedforward ++ le 2 (flagBit r.enable 0 + flagBit r.quick 1 + flagBit true 15) ++ le 1 r.mode ++ zeros 5

/-- A write into the open transmit bank at a place of a downstream window; a frozen bank refuses it and counts
a late write. The shadow results of a standby come after COMMIT, and go into its shadow bank, which is never frozen nor launched
(01 R32, R33). -/
def txWrite (n : Fin 2) (master win off : Nat) (b : List Byte) (s : Rc8) : Rc8 :=
  if (s.sch[n]).txClosed && !isStandby s then
    lateWrite n master s
  else modSch n (fun k => { k with tx := lmod k.tx win fun w => overwrite w off b }) s

/-- The command record of an axis written at its place (R189); an axis no schedule maps has its record
discarded. -/
def writeRecord (x : Nat × CmdRec) (s : Rc8) : Rc8 :=
  match axisPlace x.1 s with
  | none => s
  | some p => txWrite p.net 5 p.down (28 * p.map.pos) x.2.bytes s

/-- Every command record written. -/
def writeRecords (l : List (Nat × CmdRec)) (s : Rc8) : Rc8 := l.foldl (fun s x => writeRecord x s) s

/-! ### Bank swaps (06 R210, R211) -/

/-- DC gain of a stage's chain (R211). -/
def dcGain (b : List Byte) (s : Nat) : Rat :=
  ((List.range (biquads b s)).foldl (fun g j =>
    g * (1 + (biqCoef b s j 0).rat + (biqCoef b s j 1).rat) / (1 + (biqCoef b s j 2).rat + (biqCoef b s j 3).rat)) (chainGain b s).rat)

/-- What of an axis carries over at a swap (*Table: State at a bank swap*). DESIGN CHOICE: where the last old round had law NONE, ev and
ff in the preset are those of the last round that computed them; R211 takes the values of a round that had none (log 114). -/
def swapAxis (old new : List Byte) (a : Axis) : Axis :=
  let biq := vgen 5 fun s => if biquads old s = biquads new s then vget a.biq s [] else []
  let g2 := dcGain new 2
  let g4 := dcGain new 4
  let i := if lawOf old = 1 ∧ lawOf new = 1 then a.i
    else if g2 = 0 ∨ g4 = 0 then Fl.zero
    else Fl.ofRat ((a.y.rat / g4 - a.ff.rat) / g2 - (coef new 2 0).rat * a.ev.rat) a.exps[2]
  let keep := lawOf old == 2 && lawOf new == 2
  { a with biq := biq, i := i, band := if keep then a.band else .low, bandCount := if keep then a.bandCount else 0,
           started := a.started && lawOf new != 0 }

/-- The banks swap for all axes (R210, R211). -/
def swapBanks (cause : Nat) (s : Rc8) : Rc8 :=
  let old := s.nv.banks[s.nv.bankActive]
  let nb := otherBank s.nv.bankActive
  let new := s.nv.banks[nb]
  raise { src := 48, reason := 0x04, sev := .notice, p0 := nb.val, p1 := new.generation, p2 := cause }
    (modEng (fun e => { e with lastSwap := s.rnd.round,
                               axes := e.axes.map fun x => (x.1, swapAxis (old.block x.1) (new.block x.1) x.2) }) { s with nv := { s.nv with bankActive := nb } })

end Sys2Proof.Machine
end

