-- ==== Sys2Proof/Machine/EngineCmd.lean ====
section
/-! DEFINITION. The engine commands, the engine's own rows and its self-test (06 R209, R215 to R223). -/

namespace Sys2Proof.Machine

open Sys2Proof

/-- The shadow bank's number. -/
def shadowBank (s : Rc8) : Fin 2 := otherBank s.nv.bankActive

/-- Generation of the shadow bank. -/
def shadowGen (s : Rc8) : Nat := s.nv.banks[shadowBank s].generation

/-- A bank changed. -/
def modBank (b : Fin 2) (f : Bank → Bank) (s : Rc8) : Rc8 := { s with nv := { s.nv with banks := vmod s.nv.banks b f } }

/-- The first round whose ENGINE_START lies at least 250 µs ahead (R212). -/
def effectiveRound (s : Rc8) : Nat :=
  let es := ((anySched s).map (·.engineStart)).getD 0
  ceilDiv (s.clk.ptu + (250000 - min es 250000) * fracPerNs - (es - 250000) * fracPerNs) (s.rnd.period * fracPerNs)

/-! ### Parameter checks (06 R217) -/

/-- Gain entries a stage does not use (*Table: Stage gains*). -/
def unusedGains (s : Nat) : List Nat := if s = 3 then [3] else if s = 4 then [] else [2, 3]

/-- A stage block within its ranges. -/
def stageOk (b : List Byte) (s : Nat) : Bool :=
  let o := stageAt s
  decide (biquads b s ≤ (if s = 4 then 4 else 3)) && decide (stageMin b s ≤ stageMax b s) && u8At b (o + 3) == 0 && allZero b (o + 9) 3 &&
  allZero b (o + 28) 4 && allZero b (o + 96) 32 && (unusedGains s).all (fun k => (coef b s k).m == 0) &&
  (List.range (biquads b s)).all fun j =>
    let a1 := (biqCoef b s j 2).rat
    let a2 := (biqCoef b s j 3).rat
    decide (-1 < a2 ∧ a2 < 1 ∧ a1 < 1 + a2 ∧ -a1 < 1 + a2)

/-- The field conditions of *Table: ENGINE_PARAM_WRITE outcomes*. -/
def paramBlockOk (b : List Byte) : Bool :=
  let law := lawOf b
  let pm := u8At b 1
  let fr := u8At b 2
  decide (law ≤ 3) && (if law = 3 then pm == 1 || pm == 2 else pm == 0) && (law == 0 || fr == 1 || fr == 2) &&
  decide (u8At b 3 < 2) && decide (s32At b 8 < s32At b 12) && decide (0 ≤ s32At b 24) && decide (s32At b 32 ≤ s32At b 28) &&
  decide (u8At b 40 ≤ 3) && allZero b 41 87 && (List.range 5).all (stageOk b)

/-- ENGINE_PARAM_WRITE, step 5 (R217). -/
def checkParamWrite (e : Exec) (_ : Rc8) : Option Status :=
  if 255 < u16At e.req 0 ∨ allZero e.req 2 2 = false ∨ paramBlockOk (slice e.req 8 768) = false then some .badField else none

/-- The expected generation at an offset differs from the shadow's. -/
def genDiffers (e : Exec) (o : Nat) (s : Rc8) : Bool := u32At e.req o != 0xFFFFFFFF && u32At e.req o != shadowGen s

/-- ENGINE_PARAM_WRITE, step 6 (R217). -/
def checkParamWriteState (e : Exec) (s : Rc8) : Option Status := if isStandby s ∨ genDiffers e 4 s = true then some .wrongState else none

/-- Conditions under which an engine write is refused with BUSY (R217). -/
def engineBusy (e : Exec) (s : Rc8) : Bool :=
  s.eng.swapAt.isSome || changeArmed s || otherWaiting s 0x0502 e.id || otherWaiting s 0x0504 e.id

/-- A block written into a module's shadow bank (R217). -/
def effParamWrite (r : List Byte) (s : Rc8) : Rc8 :=
  domainOn 4 (modBank (shadowBank s) (fun b => { blocks := assocPut b.blocks (u16At r 0) (slice r 8 768), generation := (b.generation + 1) % 2 ^ 32 }) s)

/-- ENGINE_PARAMS_WRITTEN (R223). -/
def paramsWritten (axis port : Nat) (s : Rc8) : Rc8 :=
  raise { src := 48, reason := 0x05, sev := .info, p0 := axis, p1 := shadowGen s, p2 := port } s

/-- ENGINE_PARAM_WRITE on the module that took the command. -/
def ownParamWrite (port : Nat) (r : List Byte) (s : Rc8) : Rc8 := paramsWritten (u16At r 0) port (effParamWrite r s)

/-- ENGINE_PARAM_WRITE's own row; `stored` is whether this module's read-back matches (R217). -/
def paramWrite (stored : Bool) (e : Exec) (s : Rc8) : Rc8 :=
  if engineBusy e s then endWith e.id .busy s
  else if !stored then endWith e.id .integrityFail s
  else pairStore e.id (.command e.code e.req) 0 (le 4 ((shadowGen s + 1) % 2 ^ 32) ++ zeros 4) false (ownParamWrite e.port.val e.req) s

/-- The active bank copied into the shadow, with its generation (R219). -/
def effBankCopy (s : Rc8) : Rc8 := modBank (shadowBank s) (fun _ => s.nv.banks[s.nv.bankActive]) s

/-- ENGINE_BANK_COPY on the module that took the command. -/
def ownBankCopy (port : Nat) (s : Rc8) : Rc8 := paramsWritten 0xFFFF port (effBankCopy s)

/-- ENGINE_BANK_COPY's own row (R219). -/
def bankCopy (stored : Bool) (e : Exec) (s : Rc8) : Rc8 :=
  if engineBusy e s then endWith e.id .busy s
  else if !stored then endWith e.id .integrityFail s
  else pairStore e.id (.command e.code e.req) 0 (le 4 (s.nv.banks[s.nv.bankActive]).generation ++ zeros 4) false (ownBankCopy e.port.val) s

/-- Engine state code: OFF while PD4 is off (R216). -/
def engineCode (s : Rc8) : Nat :=
  if s.pwr.domains.getLsbD 4 then (match s.eng.st with | .run => 0 | .recover => 1 | .failed => 2) else 3

/-- ENGINE_BANK_SWAP, step 6 (R220). -/
def checkBankSwap (e : Exec) (s : Rc8) : Option Status :=
  if isStandby s ∨ genDiffers e 8 s = true ∨ s.eng.swapAt.isSome ∨ engineCode s ≠ 0 then some .wrongState else none

/-- An operation fixed for a round that needs the partner's confirmation before it: the command runs on until
the round (10 R309). -/
def pairAt (id : Nat) (op : PairOp) (round : Nat) (s : Rc8) : Rc8 :=
  let sent := s.pair.partner.present && s.pair.plk.up
  let s1 := if sent then plkSend 0x20 0 (.apply op round) s else s
  modPair (fun q => { q with pend := q.pend ++ [{ seq := if sent then some (plkNextSeq 0x20 s) else none, round := round, op := op, exec := some id, confirmed := !s.pair.partner.present, resp := [], late := true, fromPartner := false }] }) s1

/-- ENGINE_BANK_SWAP's own row (R220). -/
def bankSwap (e : Exec) (s : Rc8) : Rc8 :=
  let first := roundAfter 1000000 s
  let asked := u64At e.req 0
  if changeArmed s then endWith e.id .busy s
  else if asked ≠ 0 ∧ asked < first then endWith e.id .tooLate s
  else
    let w := if asked = 0 then first else asked
    pairAt e.id (.command e.code e.req) w (modEng (fun g => { g with swapAt := some w }) (pendNow e s))

/-- A pending swap ends, with the swap or without it (R220). -/
def effBankSwap (ok : Bool) (s : Rc8) : Rc8 :=
  let s1 := modEng (fun g => { g with swapAt := none }) s
  if ok then swapBanks 1 s1 else s1

/-- Axes of a 256-bit mask at an offset (R221). -/
def maskAxes (r : List Byte) (o : Nat) : List Nat := (List.range 256).filter fun a => bitAt (u8At r (o + a / 8)) (a % 8)

/-- A mask of zero (R221). -/
def checkAxisMask (e : Exec) (_ : Rc8) : Option Status := if maskAxes e.req 0 = [] then some .badField else none

/-- Resets or halts become due at the next ENGINE_START (R212, R221). -/
def effAxisRequest (halt : Bool) (r : List Byte) (s : Rc8) : Rc8 :=
  (maskAxes r 0).foldl (fun s a =>
    if (configuredAxes s).contains a then
      putAxis a (if halt then { axisOf a s with haltDue := true } else { axisOf a s with resetDue := true }) s
    else s) s

/-- ENGINE_AXIS_RESET and ENGINE_AXIS_HALT (R221, R569). -/
def axisRequest (e : Exec) (s : Rc8) : Rc8 :=
  let w := effectiveRound s
  endExec e.id .done (le 4 (lo32 w) ++ zeros 4) (pairTell none (.command e.code e.req) w [] false s)

/-! ### Status (06 R216, R218, R222) -/

/-- ENGINE_STATUS (R216). -/
def engineStatusResponse (_ : Exec) (s : Rc8) : List Byte :=
  let conf := configuredAxes s
  let num := fun (m : AxisMode) => le 2 (conf.countP fun a => (axisOf a s).st == m)
  le 1 (engineCode s) ++ le 1 s.nv.bankActive.val ++ le 2 conf.length ++ le 4 (s.nv.banks[s.nv.bankActive]).generation ++
  le 4 (shadowGen s) ++ zeros 4 ++ le 8 (s.eng.swapAt.getD 0) ++ num .idle ++ num .active ++ num .extrapolating ++ num .fault ++
  le 4 s.eng.faults ++ le 4 s.eng.extraRounds ++ le 4 s.eng.satRounds ++ le 4 s.eng.axisFaults ++ le 8 s.eng.lastSwap ++
  le 4 (lo32 s.eng.lastFault) ++ zeros 4

/-- ENGINE_PARAM_READ (R218). -/
def paramReadResponse (e : Exec) (s : Rc8) : List Byte :=
  let b := if u8At e.req 2 = 0 then s.nv.bankActive else shadowBank s
  le 4 s.nv.banks[b].generation ++ le 1 b.val ++ zeros 3 ++ s.nv.banks[b].block (u16At e.req 0)

/-- ENGINE_PARAM_READ, step 5. -/
def checkParamRead (e : Exec) (_ : Rc8) : Option Status := if 255 < u16At e.req 0 ∨ 1 < u8At e.req 2 then some .badField else none

/-- ENGINE_AXIS_STATUS, step 5 (R222). -/
def checkAxisStatus (e : Exec) (_ : Rc8) : Option Status :=
  let n := u16At e.req 2
  if n < 1 ∨ 63 < n ∨ 256 < u16At e.req 0 + n then some .badField else none

/-- ENGINE_AXIS_STATUS (R222). -/
def axisStatusResponse (e : Exec) (s : Rc8) : List Byte :=
  (List.range (u16At e.req 2)).flatMap fun i => statusOf (u16At e.req 0 + i) s

/-- ENGINE_STATUS (R215). -/
def specEngineStatus : CmdSpec := { cls := .observe, urgent := true, len := lenIs 0, resp := fun _ => 64 }
/-- ENGINE_PARAM_WRITE (R215). -/
def specEngineParamWrite : CmdSpec := { cls := .engineer, len := lenIs 776, resp := fun _ => 8, fields := checkParamWrite, state := checkParamWriteState }
/-- ENGINE_PARAM_READ (R215). -/
def specEngineParamRead : CmdSpec := { cls := .observe, len := lenIs 4, resp := fun _ => 776, fields := checkParamRead }
/-- ENGINE_BANK_COPY (R215). -/
def specEngineBankCopy : CmdSpec :=
  { cls := .engineer, len := lenIs 4, resp := fun _ => 8, fields := fun e _ => if u8At e.req 0 = 1 then none else some .badField, state := refuseStandby }
/-- ENGINE_BANK_SWAP (R215). -/
def specEngineBankSwap : CmdSpec := { cls := .engineer, len := lenIs 16, state := checkBankSwap }
/-- ENGINE_AXIS_RESET (R215). -/
def specEngineAxisReset : CmdSpec :=
  { cls := .operate, urgent := true, len := lenIs 32, resp := fun _ => 8, fields := checkAxisMask, state := refuseStandby }
/-- ENGINE_AXIS_HALT (R215). -/
def specEngineAxisHalt : CmdSpec := specEngineAxisReset
/-- ENGINE_AXIS_STATUS (R215). -/
def specEngineAxisStatus : CmdSpec :=
  { cls := .observe, len := lenIs 4, fields := checkAxisStatus,
    resp := fun r => if 1 ≤ u16At r 2 ∧ u16At r 2 ≤ 63 then 64 * u16At r 2 else 0 }

/-! ### Engine start, end and self-test (06 R189, R209) -/

/-- The 256 axis status records (R214). -/
def axisStatusSection (s : Rc8) : List Byte := (List.range 256).flatMap fun a => statusOf a s

/-- ENGINE_START (R188, R209): a computation in RUN, on a set of setpoints and its generation; a CEN whose DMA stands frozen
starts and never ends (12 R403; 01 R38: with PD4 off there is no computation). -/
def engineStart (set : List Byte) (gen : Nat) (s : Rc8) : Rc8 :=
  if engineCode s = 0 then
    if dmaStopped 5 s then modEng (fun e => { e with started := true, done := false, records := [] }) s
    else
      let slip := slips gen s
      engineCompute set (countSlip slip (modEng (fun e => { e with slipped := slip, usedGen := gen }) s))
  else modEng (fun e => { e with started := false, done := false, records := [] }) s

/-- ENGINE_DONE (R189): the records go to the transmit banks. -/
def engineDone (s : Rc8) : Rc8 :=
  if s.eng.started && !s.eng.done && !dmaStopped 5 s then modEng (fun e => { e with done := true }) (writeRecords s.eng.records s) else s

/-- The engine's self-test ends (R209): with every axis that is not IDLE in FAULT, sending quick stop. DESIGN CHOICE: an axis
already in FAULT keeps its first cause, as R207 has it for a fault condition, raises no second AXIS_FAULT, and counts among the
axes set to FAULT; R209 does not say (log 18). -/
def selfTestDone (passed : Bool) (s : Rc8) : Rc8 :=
  if s.eng.st ≠ .recover then s
  else if passed then
    let hit := (configuredAxes s).filter fun a => (axisOf a s).st != .idle
    let s1 := hit.foldl (fun s a =>
      let x := axisOf a s
      if x.st = .fault then putAxis a { x with quick := true } s
      else raise { src := 49, reason := 0x02, sev := .error, p0 := a, p1 := 6, p2 := 3 }
        (modEng (fun e => { e with axisFaults := inc32 e.axisFaults }) (putAxis a { (x.toFault (activeBlock a s) 6 s.rnd.round) with quick := true } s))) s
    raise { src := 48, reason := 0x02, sev := .notice, p0 := lo32 s.rnd.round, p1 := hit.length, p2 := 0 }
      (modEng (fun e => { e with st := .run, recovered := some s.rnd.round, started := false, done := false }) s1)
  else
    raise { src := 48, reason := 0x03, sev := .critical, p0 := lo32 s.rnd.round, p1 := s.eng.faults, p2 := 0 }
      (modEng (fun e => { e with st := .failed }) s)

/-- The next engine state at a fault: a second one within 1,000 rounds of the last recovery goes to FAILED
(R209). -/
def faultNext (s : Rc8) : EngSt :=
  match s.eng.recovered with
  | some r => if s.rnd.round < r + 1000 then .failed else .recover
  | none => .recover

/-- Engine state codes (R216). -/
def EngSt.code : EngSt → Nat
  | .run => 0 | .recover => 1 | .failed => 2

/-- Records with quick stop set where it is forced (R209). -/
def repeated (quick : Bool) (l : List (Nat × CmdRec)) : List (Nat × CmdRec) := l.map fun x => (x.1, { x.2 with quick := x.2.quick || quick })

/-- A status word with engine_fault set (R213, bit 26). -/
def faultBit (status : List Byte) : List Byte := overwrite status 3 [BitVec.ofNat 8 (u8At status 3) ||| 4]

/-- engine_fault set in the status word of every axis whose record is repeated or forced (R209, R213). -/
def markRepeated (s : Rc8) : Rc8 :=
  modEng (fun e => { e with repeating := true, started := false,
                            axes := e.axes.map fun x => if e.lastRecords.any (fun y => y.1 == x.1) then (x.1, { x.2 with status := faultBit (statusOf x.1 s) }) else x }) s

/-- Each axis's state and fault cause, handed to both safety channels (R208). -/
def handStates (s : Rc8) : Rc8 := modEng (fun e => { e with handed := e.axes.map fun x => (x.1, x.2.st, x.2.cause) }) s

/-- What of a round's records is launched at COMMIT (R209): a computation that has started and is not done is an engine fault, and
the previous round's records are repeated; in RECOVER and FAILED, and in the rest of the round of a recovery, every record sets
quick stop. -/
def launchRecords (s : Rc8) : Rc8 :=
  if engineCode s = 3 then modEng (fun e => { e with started := false, done := false }) s
  else if s.eng.done then modEng (fun e => { e with lastRecords := e.records, repeating := false, started := false, done := false }) s
  else if s.eng.st = .run ∧ s.eng.started = true then
    let next := faultNext s
    let n := inc32 s.eng.faults
    let s1 := markRepeated (modEng (fun e => { e with st := next, faults := n, lastFault := s.rnd.round }) (writeRecords s.eng.lastRecords s))
    raise { src := 48, reason := 0x01, sev := .error, p0 := lo32 s.rnd.round, p1 := n, p2 := next.code } s1
  else markRepeated (writeRecords (repeated true s.eng.lastRecords) s)

/-- COMMIT at the engine: its records, and what it hands to the safety channels (R208, R209). -/
def engineCommit (s : Rc8) : Rc8 := handStates (launchRecords s)

/-! ### Meanings -/

/-- ENGINE_STATUS (R216). -/
def execEngineStatus (p : Fin 4) (m : Fin 8) (s : State) : Answer := act (answer 0x0501 p m engineStatusResponse) s

/-- ENGINE_PARAM_WRITE (R217); `stored` is whether this module's read-back matches. -/
def execEngineParamWrite (p : Fin 4) (m : Fin 8) (stored : Bool) (s : State) : Answer := act (runCmd 0x0502 p m (paramWrite stored)) s

/-- ENGINE_PARAM_READ (R218). -/
def execEngineParamRead (p : Fin 4) (m : Fin 8) (s : State) : Answer := act (answer 0x0503 p m paramReadResponse) s

/-- ENGINE_BANK_COPY (R219). -/
def execEngineBankCopy (p : Fin 4) (m : Fin 8) (stored : Bool) (s : State) : Answer := act (runCmd 0x0504 p m (bankCopy stored)) s

/-- ENGINE_BANK_SWAP (R220). -/
def execEngineBankSwap (p : Fin 4) (m : Fin 8) (s : State) : Answer := act (runCmd 0x0505 p m bankSwap) s

/-- ENGINE_AXIS_RESET (R221). -/
def execEngineAxisReset (p : Fin 4) (m : Fin 8) (s : State) : Answer := act (runCmd 0x0506 p m axisRequest) s

/-- ENGINE_AXIS_HALT (R221). -/
def execEngineAxisHalt (p : Fin 4) (m : Fin 8) (s : State) : Answer := act (runCmd 0x0507 p m axisRequest) s

/-- ENGINE_AXIS_STATUS (R222). -/
def execEngineAxisStatus (p : Fin 4) (m : Fin 8) (s : State) : Answer := act (answer 0x0508 p m axisStatusResponse) s

end Sys2Proof.Machine
end

