-- ==== Sys2Proof/Machine/LearnCmd.lean ====
section
/-! DEFINITION. The learning commands, table moves, snapshots and restore (07 R234 to R243). -/

namespace Sys2Proof.Machine

open Sys2Proof

/-! ### Configuration (07 R234, R235) -/

/-- A learning configuration, field by field (R234). -/
def parseLearn (b : List Byte) : LearnCfg :=
  { k := u8At b 0, kind := u8At b 1, master := u8At b 2, exp := s8At b 3, lead := u16At b 4, restore := bitAt (u8At b 6) 0,
    origin := s64At b 8, cycle := u32At b 16, low := s32At b 20, high := s32At b 24, gainM := s32At b 28, gainE := s8At b 32,
    monitor := u8At b 33, growth := u16At b 34, q0 := s16At b 36, q1 := s16At b 38, q2 := s16At b 40, q3 := s16At b 42 }

/-- A configuration is accepted (R235). -/
def learnCfgOk (c : LearnCfg) : Bool :=
  decide (8 ≤ c.k ∧ c.k ≤ 12) && decide (c.kind ≤ 2) && (c.kind != 2 || decide (c.master ≤ 15)) && decide (c.lead ≤ c.n / 2) &&
  decide (c.n ≤ c.cycle) && decide (c.low ≠ 0 ∧ c.high ≠ 0) && (decide (0 < c.low) == decide (0 < c.high)) &&
  decide (c.low.natAbs ≤ c.high.natAbs) && decide (c.high.natAbs * c.n ≤ 8 * 256 * c.cycle) && decide (1 ≤ c.monitor) &&
  decide (4096 ≤ c.growth ∧ c.growth ≤ 16384) &&
  decide (c.q0.natAbs + 2 * (c.q1.natAbs + c.q2.natAbs + c.q3.natAbs) ≤ 32768)

/-- LEARN_CONFIGURE changes N or e_T (R242). -/
def learnResamples (r : List Byte) (s : Rc8) : Bool :=
  let c := parseLearn (r.drop 4)
  let l := (learnOf (u16At r 0) s).cfg
  c.k != l.k || c.exp != l.exp

/-- A command that waits for its effective round will move a table of an axis, or take a snapshot of it. -/
def PendOp.movesTable (a : Nat) (s : Rc8) (x : PendOp) : Bool :=
  match x.op with
  | .command 0x0602 r => u16At r 0 == a && learnResamples r s
  | .command 0x0606 r => (maskAxes r 0).contains a
  | .command 0x0607 r => (maskAxes r 0).contains a
  | _ => false

/-- Something of an axis waits: a resample, restore or snapshot (R242). -/
def learnPending (a : Nat) (s : Rc8) : Bool :=
  (learnOf a s).move.isSome || (learnOf a s).snapFor.isSome || s.pair.pend.any (PendOp.movesTable a s)

/-- A learning command is refused with BUSY (R242). -/
def learnBusy (axes : List Nat) (s : Rc8) : Bool := changeArmed s || axes.any fun a => learnPending a s

/-- The response of 8 bytes with the effective round (R242). -/
def roundResponse (w : Nat) : List Byte := le 4 (lo32 w) ++ zeros 4

/-- A learning command that acts on both modules at its effective round (R240, R242). -/
def learnAt (e : Exec) (s : Rc8) : Rc8 :=
  let w := effectiveRound s
  endExec e.id .done (roundResponse w) (pairTell none (.command e.code e.req) w [] false s)

/-! ### LEARN_CONFIGURE (R235, R237) -/

/-- The configuration stored in MRAM. -/
def storeLearnCfg (a : Nat) (c : LearnCfg) (s : Rc8) : Rc8 := { s with nv := { s.nv with learnCfg := assocPut s.nv.learnCfg a c } }

/-- A configuration in force that changes neither N nor e_T (R235); an axis without a master is OFF (R231). -/
def effLearnConfigure (r : List Byte) (s : Rc8) : Rc8 :=
  let a := u16At r 0
  let c := parseLearn (r.drop 4)
  let s1 := domainOn 4 (modLearn a (fun l => { l with cfg := c }) (storeLearnCfg a c s))
  if c.kind = 0 then learnGoto a .off 1 s1 else s1

/-- A resample armed: the new table stands in DRAM and waits for its move (R237). -/
def armResample (why : Nat) (exec : Option Nat) (a : Nat) (c : LearnCfg) (s : Rc8) : Rc8 :=
  let l := learnOf a s
  putLearn a { l with move := some { why := why, round := s.rnd.round, cfg := c, exec := exec,
                                     table := resample l.table l.cfg.n c.n l.cfg.exp c.exp } } s

/-- A command that moves tables or takes snapshots: it completes with PENDING and is armed on both modules at ENGINE_START of
its effective round (R240, R242). -/
def learnLater (e : Exec) (s : Rc8) : Rc8 := pairTell (some e.id) (.command e.code e.req) (effectiveRound s) [] true (pendNow e s)

/-- LEARN_CONFIGURE's own row (R235, R237, R242). -/
def learnConfigure (e : Exec) (s : Rc8) : Rc8 :=
  if learnBusy [u16At e.req 0] s then endWith e.id .busy s
  else if learnResamples e.req s then learnLater e (domainOn 4 s)
  else learnAt e s

/-- LEARN_CONFIGURE at its effective round: a resample is armed, or the configuration comes into force (R235, R237). -/
def dueLearnConfigure (exec : Option Nat) (r : List Byte) (s : Rc8) : Rc8 :=
  if learnResamples r s then armResample 1 exec (u16At r 0) (parseLearn (r.drop 4)) (domainOn 4 s) else effLearnConfigure r s

/-! ### LEARN_CONTROL, LEARN_TABLE_WRITE, LEARN_CLEAR -/

/-- A control becomes due at ENGINE_START, after those before it (R231). -/
def effLearnControl (r : List Byte) (s : Rc8) : Rc8 :=
  (maskAxes r 0).foldl (fun s a => modLearn a (fun l => { l with control := l.control ++ [u8At r 32] }) s) s

/-- The repetitive tables are held: with PD4 off they are not (01 R38). -/
def tablesHeld (s : Rc8) : Bool := s.pwr.domains.getLsbD 4

/-- Entries of a table that are written anew are uncorrectable no more (12 R397). -/
def tableFresh (a : Nat) (entry : Nat → Bool) (s : Rc8) : Rc8 :=
  { s with itg := { s.itg with poisoned := s.itg.poisoned.filter fun y => !(y.1 == 9 && y.2.1 == a && entry (y.2.2 % 0x4000 / 4)) } }

/-- Entries written into a table (R242); with PD4 off there is none to write (01 R38). -/
def effTableWrite (r : List Byte) (s : Rc8) : Rc8 :=
  if tablesHeld s then
    tableFresh (u16At r 0) (fun i => decide (u16At r 2 ≤ i ∧ i < u16At r 2 + u16At r 4)) (modLearn (u16At r 0) (fun l =>
      l.replaced l.cfg ((List.range (u16At r 4)).foldl (fun t i => tablePut t l.cfg.n (u16At r 2 + i) (s32At r (8 + 4 * i))) (fullTable l.table l.cfg.n))) s)
  else s

/-- Tables cleared. -/
def effLearnClear (r : List Byte) (s : Rc8) : Rc8 :=
  (maskAxes r 0).foldl (fun s a => tableFresh a (fun _ => true) (modLearn a (fun l => l.replaced l.cfg []) s)) s

/-- A learning command on a mask of axes. -/
def learnMask (e : Exec) (s : Rc8) : Rc8 := if learnBusy (maskAxes e.req 0) s then endWith e.id .busy s else learnAt e s

/-- LEARN_TABLE_WRITE's own row. -/
def learnTableWrite (e : Exec) (s : Rc8) : Rc8 := if learnBusy [u16At e.req 0] s then endWith e.id .busy s else learnAt e s

/-! ### Snapshots and restore (R238, R239) -/

/-- The two slots of an axis. -/
def slotsOf (a : Nat) (s : Rc8) : Vector (Option SnapSlot) 2 := ((s.nv.snaps.find? fun x => x.1 == a).map (·.2)).getD (Vector.replicate 2 none)

/-- The check value of a slot: CRC-32C over the 64-byte header, its check field zero, and the entries (R238). -/
def SnapSlot.checkOf (a : Nat) (x : SnapSlot) : Nat :=
  crc32c (le 2 a ++ le 1 x.k ++ leS 1 x.exp ++ le 4 x.generation ++ le 8 x.round ++ le 8 (secOf x.time) ++ le 4 (nsOf x.time) ++ le 1 x.kind ++
    le 1 x.master ++ zeros 2 ++ le 4 x.cycle ++ zeros 20 ++ zeros 4 ++ le 4 0x53504E31 ++ x.entries.flatMap (leS 4))

/-- A slot is written and verified, and its check value is correct (R238, R239). -/
def SnapSlot.good (a : Nat) (x : SnapSlot) : Bool := x.written && x.check == x.checkOf a

/-- The valid slot with the higher generation, among those that meet a condition. -/
def newestSlot (ok : SnapSlot → Bool) (v : Vector (Option SnapSlot) 2) : Option (Fin 2 × SnapSlot) :=
  match v[0].filter ok, v[1].filter ok with
  | some x, some y => if y.generation ≤ x.generation then some (0, x) else some (1, y)
  | some x, none => some (0, x)
  | none, some y => some (1, y)
  | none, none => none

/-- The snapshot a restore takes (R239). -/
def restoreSlot (a : Nat) (s : Rc8) : Option SnapSlot := (newestSlot (SnapSlot.good a) (slotsOf a s)).map (·.2)

/-- RESTORE_FAILED (R239, R243). -/
def restoreFailed (a : Nat) (s : Rc8) : Rc8 :=
  let any := (vlist (slotsOf a s)).any fun x => (x.map (·.written)).getD false
  raise { src := 57, reason := 0x03, sev := .warning, p0 := a, p1 := if any then 2 else 1, p2 := 0 } s

/-- A restore armed for an axis: resampled or rescaled where needed (R239). -/
def armRestore (why : Nat) (exec : Option Nat) (a : Nat) (x : SnapSlot) (s : Rc8) : Rc8 :=
  let c := (learnOf a s).cfg
  let t := if x.k = c.k ∧ x.exp = c.exp then x.entries else resample x.entries (2 ^ x.k) c.n x.exp c.exp
  modLearn a (fun l => { l with move := some { why := why, round := s.rnd.round, cfg := c, exec := exec, table := t } }) s

/-- LEARN_RESTORE's own row (R239, R242). -/
def learnRestore (e : Exec) (s : Rc8) : Rc8 :=
  let axes := maskAxes e.req 0
  if learnBusy axes s then endWith e.id .busy s
  else
    match axes.find? fun a => (restoreSlot a s).isNone with
    | some a => endWith e.id .integrityFail (restoreFailed a (pendNow e s))
    | none => learnLater e s

/-- LEARN_RESTORE at its effective round: every named table is armed (R239); with no valid snapshot left for one, no axis is
restored and the command ends with INTEGRITY_FAIL (R242). -/
def dueLearnRestore (exec : Option Nat) (r : List Byte) (s : Rc8) : Rc8 :=
  let axes := maskAxes r 0
  match axes.find? fun a => (restoreSlot a s).isNone with
  | some a =>
    let s1 := restoreFailed a s
    (exec.map fun id => endWith id .integrityFail s1).getD s1
  | none =>
    axes.foldl (fun s a => match restoreSlot a s with
      | some x => armRestore 2 exec a x s
      | none => s) s

/-- LEARN_SNAPSHOT's own row (R238). -/
def learnSnapshot (e : Exec) (s : Rc8) : Rc8 :=
  let axes := maskAxes e.req 0
  if learnBusy axes s then endWith e.id .busy s
  else
    let sent := s.pair.partner.present && s.pair.plk.up
    let s1 := learnLater e s
    if sent then modPair (fun q => { q with snapWait := q.snapWait ++ [(plkNextSeq 0x20 s, e.id)] }) s1 else s1

/-- LEARN_SNAPSHOT at its effective round: every named axis waits for its boundary, on both modules (R238, R240). -/
def dueLearnSnapshot (why : SnapFor) (r : List Byte) (s : Rc8) : Rc8 :=
  (maskAxes r 0).foldl (fun s a => modLearn a (fun l => { l with snapFor := some why }) s) s

/-- The boundary in the gap that runs; outside every gap, where no schedule gives one, the next boundary. -/
def gapRound (s : Rc8) : Nat := s.eng.gap.getD (s.rnd.round + 1)

/-- A snapshot written into the slot that does not hold the newest valid one, under the boundary at which the table was captured
(R238). -/
def takeSnapshot (a : Nat) (s : Rc8) : Rc8 :=
  let l := learnOf a s
  let v := slotsOf a s
  let best := newestSlot (SnapSlot.good a) v
  let w := gapRound s
  let i : Fin 2 := match best with
    | some (0, _) => 1
    | some _ => 0
    | none => 0
  let gen := match best with
    | some (_, x) => (x.generation + 1) % 2 ^ 32
    | none => 1
  let x : SnapSlot := { k := l.cfg.k, exp := l.cfg.exp, generation := gen, round := w, time := w * s.rnd.period * fracPerNs, kind := l.cfg.kind,
                        master := l.cfg.master, cycle := l.cfg.cycle, check := 0, written := true, entries := fullTable l.table l.cfg.n }
  let slot := { x with check := x.checkOf a }
  raise { src := 57, reason := 0x01, sev := .info, p0 := a, p1 := lo32 w, p2 := i.val }
    (putLearn a { l with snapFor := none, lastSnap := w } { s with nv := { s.nv with snaps := assocPut s.nv.snaps a (v.set i (some slot)) } })

/-- A LEARN_CONFIGURE or LEARN_RESTORE whose tables have all moved ends with DONE (R242). -/
def moveFinish (exec : Option Nat) (s : Rc8) : Rc8 :=
  match exec with
  | none => s
  | some id => if s.learn.any fun x => (x.2.move.bind (·.exec)) == some id then s else endWith id .done s

/-- A LEARN_SNAPSHOT whose axes are all done on this module: the command ends with DONE once the partner's are too, and a partner
reports to its holder (R240, R242). -/
def snapFinish (why : SnapFor) (s : Rc8) : Rc8 :=
  if s.learn.any fun x => x.2.snapFor == some why then s
  else match why with
    | .own id => if s.pair.snapWait.any (fun x => x.2 == id) || s.pair.pend.any (fun x => x.exec == some id) then s else endWith id .done s
    | .partner seq => plkSend 0x21 0 (.confirm seq true) s

/-- No axis waits for a snapshot of one command any more. -/
def snapDrop (why : SnapFor) (s : Rc8) : Rc8 :=
  { s with learn := s.learn.map fun x => if x.2.snapFor = some why then (x.1, { x.2 with snapFor := none }) else x }

/-- A snapshot's read-back fails on this module: earlier snapshots are kept, and the command ends with INTEGRITY_FAIL, a
partner's failure through its report (R242). The slot that was written holds what it held before (DESIGN CHOICE, log 104). -/
def snapFails (why : SnapFor) (s : Rc8) : Rc8 :=
  match why with
  | .own id => endWith id .integrityFail (modPair (fun q => { q with snapWait := q.snapWait.filter fun x => x.2 != id }) (snapDrop why s))
  | .partner seq => plkSend 0x21 0 (.confirm seq false) (snapDrop why s)

/-- The partner's report of a LEARN_SNAPSHOT (R242). -/
def snapReported (seq : Nat) (ok : Bool) (s : Rc8) : Rc8 :=
  match s.pair.snapWait.find? fun x => x.1 == seq with
  | none => s
  | some x =>
    let s1 := modPair (fun q => { q with snapWait := q.snapWait.filter fun y => y.1 != seq }) s
    if ok then snapFinish (.own x.2) s1
    else snapFails (.own x.2) (modPair (fun q => { q with pend := q.pend.filter fun y => y.exec != some x.2 }) s1)

/-- The partner is no longer reached: what waits for its slots waits for this module's alone (R569). -/
def snapAlone (s : Rc8) : Rc8 :=
  s.pair.snapWait.foldl (fun s x => snapFinish (.own x.2) s) (modPair (fun q => { q with snapWait := [] }) s)

/-- The table of an axis is replaced by its move (R237, R241); the waymark's stays armed until the change ends, and the old table is
kept until then; after a failed conversion it moves back (09 R290); an axis without a master is OFF (R231), and with PD4 off no
table is held (01 R38). -/
def applyMove (a : Nat) (mv : TableMove) (s0 : Rc8) : Rc8 :=
  let s := tableFresh a (fun _ => true) s0
  let l := learnOf a s
  if mv.why = 5 then putLearn a { l with table := if tablesHeld s then mv.table else [], move := none, skip := false } s else
  let new := l.replaced mv.cfg (if tablesHeld s then mv.table else [])
  let s1 := putLearn a { new with oldTable := if mv.why = 3 then some l.table else none, move := if mv.why = 3 then some mv else none } s
  let s3 := if mv.why = 1 then storeLearnCfg a mv.cfg s1 else s1
  let s2 := if mv.cfg.kind = 0 then learnGoto a .off 1 s3 else s3
  if mv.why = 1 ∨ mv.why = 3 then
    raise { src := 57, reason := 0x04, sev := .notice, p0 := a, p1 := l.cfg.n + 65536 * mv.cfg.n,
            p2 := s32Param l.cfg.exp % 256 + 256 * (s32Param mv.cfg.exp % 256) } s2
  else
    raise { src := 57, reason := 0x02, sev := .notice, p0 := a, p1 := if mv.why = 4 then 1 else 2,
            p2 := ((restoreSlot a s).map (·.generation)).getD 0 } s2

/-- An axis at the restore at start: its table moves at once, or it starts at zero with RESTORE_FAILED (R239). -/
def restoreAxis (a : Nat) (s : Rc8) : Rc8 :=
  match restoreSlot a s with
  | none => restoreFailed a s
  | some x =>
    let s1 := armRestore 4 none a x s
    match (learnOf a s1).move with
    | some mv => applyMove a mv s1
    | none => s1

/-- The restore at start, once, for every axis with flag bit 0 (R239); with PD4 off no tables are held (01 R38). -/
def restoreTables (s : Rc8) : Rc8 :=
  if s.tablesRestored || !tablesHeld s then s
  else (s.nv.learnCfg.filter fun x => x.2.restore).foldl (fun s x => restoreAxis x.1 s) { s with tablesRestored := true }

/-- Bytes that may be moved in one gap with a plan's COMMIT and ENGINE_START (R237). -/
def moveBudget (period commit engineStart : Nat) : Nat := 64 * 4 * (period - commit + engineStart - 1000) / 5

/-- A table of so many points may move now: after COMMIT and before the next ENGINE_START, within what the gap still holds (R237);
with no schedule in force neither milestone exists and a move may take place at any time. -/
def moveWindow (points : Nat) (s : Rc8) : Bool :=
  match anySched s with
  | none => true
  | some c => s.eng.gap.isSome && decide (s.eng.moved + 4 * points ≤ moveBudget s.rnd.period c.commit c.engineStart)

/-- Bytes of a table counted in the gap. -/
def moved (points : Nat) (s : Rc8) : Rc8 := modEng (fun e => { e with moved := e.moved + 4 * points }) s

/-- TABLE_MOVE of one axis (R237, R238): a waymark's table moves in the gap of its candidate (09 R288); `stored` is whether a
snapshot's read-back matches. -/
def tableMove (a : Nat) (stored : Bool) (s : Rc8) : Rc8 :=
  let l := learnOf a s
  match l.move, l.snapFor with
  | some mv, _ =>
    if moveWindow mv.cfg.n s = false ∨ (mv.why = 3 ∧ (s.chg.candidate ≠ some (gapRound s) ∨ l.oldTable.isSome)) ∨ (mv.why = 5 ∧ gapRound s ≤ mv.round) then s
    else moveFinish mv.exec (moved mv.cfg.n (applyMove a mv s))
  | none, some why =>
    if moveWindow l.cfg.n s = false then s
    else if stored then snapFinish why (moved l.cfg.n (takeSnapshot a s))
    else snapFails why s
  | none, none => s

/-! ### Reads (R242) -/

/-- Range of first axis and count. -/
def checkAxisCount (top : Nat) (e : Exec) (_ : Rc8) : Option Status :=
  let n := u16At e.req 2
  if n < 1 ∨ top < n ∨ 256 < u16At e.req 0 + n then some .badField else none

/-- One 32-byte learning status record (R242). -/
def learnRecord (a : Nat) (s : Rc8) : List Byte :=
  let l := learnOf a s
  let v := slotsOf a s
  let valid := fun (x : Option SnapSlot) => (x.map (SnapSlot.good a)).getD false
  let last := if l.lastSnap = 0 then ((restoreSlot a s).map (·.round)).getD 0 else l.lastSnap
  le 1 l.st.code ++ le 1 l.pauses ++ le 2 l.growth ++ le 4 l.cycles ++ le 4 (min 0xFFFFFFFF (sqrtRound l.ms.1)) ++
  le 4 (min 0xFFFFFFFF (sqrtRound l.ms.2)) ++ le 4 l.lastUpdates ++ le 4 l.saturated ++ le 4 (lo32 last) ++ le 2 l.cfg.n ++
  le 1 (flagBit (valid v[0]) 0 + flagBit (valid v[1]) 1) ++ zeros 1

/-- LEARN_STATUS (R242). -/
def learnStatusResponse (e : Exec) (s : Rc8) : List Byte := (List.range (u16At e.req 2)).flatMap fun i => learnRecord (u16At e.req 0 + i) s

/-- Axis, first point and count of a table access (R242). -/
def checkTable (e : Exec) (s : Rc8) : Option Status :=
  let a := u16At e.req 0
  let n := u16At e.req 4
  if 255 < a ∨ n < 1 ∨ 1000 < n ∨ (learnOf a s).cfg.n < u16At e.req 2 + n then some .badField else none

/-- LEARN_TABLE_READ (R242). -/
def tableReadResponse (e : Exec) (s : Rc8) : List Byte :=
  let l := learnOf (u16At e.req 0) s
  le 2 l.cfg.n ++ leS 1 l.cfg.exp ++ zeros 5 ++ (List.range (u16At e.req 4)).flatMap fun i => leS 4 (tableAt l.table l.cfg.n (u16At e.req 2 + i))

/-- A standby refuses, as does PLAYBACK or LEARN for an axis without a master (R231, R242). -/
def checkLearnControlState (e : Exec) (s : Rc8) : Option Status :=
  if isStandby s ∨ (u8At e.req 32 ≠ 0 ∧ (maskAxes e.req 0).any (fun a => (learnOf a s).cfg.kind == 0) = true) then some .wrongState else none

/-- LEARN_STATUS (R242). -/
def specLearnStatus : CmdSpec :=
  { cls := .observe, urgent := true, len := lenIs 4, fields := checkAxisCount 126, resp := fun r => if 1 ≤ u16At r 2 ∧ u16At r 2 ≤ 126 then 32 * u16At r 2 else 0 }
/-- LEARN_CONFIGURE (R242). -/
def specLearnConfigure : CmdSpec :=
  { cls := .engineer, len := lenIs 68, resp := fun _ => 8, state := refuseStandby,
    fields := fun e _ => if 255 < u16At e.req 0 ∨ learnCfgOk (parseLearn (e.req.drop 4)) = false then some .badField else none }
/-- LEARN_CONTROL (R242). -/
def specLearnControl : CmdSpec :=
  { cls := .operate, urgent := true, len := lenIs 36, resp := fun _ => 8, state := checkLearnControlState,
    fields := fun e _ => if maskAxes e.req 0 = [] ∨ 2 < u8At e.req 32 then some .badField else none }
/-- LEARN_TABLE_READ (R242). -/
def specLearnTableRead : CmdSpec :=
  { cls := .observe, len := lenIs 8, fields := checkTable, resp := fun r => if 1 ≤ u16At r 4 ∧ u16At r 4 ≤ 1000 then 8 + 4 * u16At r 4 else 0 }
/-- LEARN_TABLE_WRITE (R242). -/
def specLearnTableWrite : CmdSpec :=
  { cls := .engineer, len := fun r => impliedLen 6 1 1000 (u16At r 4) 8 4 r, resp := fun r => impliedResp 1 1000 (u16At r 4) 8,
    fields := checkTable, state := refuseStandby }
/-- LEARN_SNAPSHOT (R242). -/
def specLearnSnapshot : CmdSpec := { cls := .operate, len := lenIs 32, fields := checkAxisMask, state := refuseStandby }
/-- LEARN_RESTORE (R242). -/
def specLearnRestore : CmdSpec := { cls := .engineer, len := lenIs 32, fields := checkAxisMask, state := refuseStandby }
/-- LEARN_CLEAR (R242). -/
def specLearnClear : CmdSpec := { cls := .engineer, len := lenIs 32, resp := fun _ => 8, fields := checkAxisMask, state := refuseStandby }

/-! ### Meanings -/

/-- LEARN_STATUS (R242). -/
def execLearnStatus (p : Fin 4) (m : Fin 8) (s : State) : Answer := act (answer 0x0601 p m learnStatusResponse) s

/-- LEARN_CONFIGURE (R235, R242). -/
def execLearnConfigure (p : Fin 4) (m : Fin 8) (s : State) : Answer := act (runCmd 0x0602 p m learnConfigure) s

/-- LEARN_CONTROL (R231, R242). -/
def execLearnControl (p : Fin 4) (m : Fin 8) (s : State) : Answer := act (runCmd 0x0603 p m learnMask) s

/-- LEARN_TABLE_READ (R242). -/
def execLearnTableRead (p : Fin 4) (m : Fin 8) (s : State) : Answer := act (answer 0x0604 p m tableReadResponse) s

/-- LEARN_TABLE_WRITE (R242). -/
def execLearnTableWrite (p : Fin 4) (m : Fin 8) (s : State) : Answer := act (runCmd 0x0605 p m learnTableWrite) s

/-- LEARN_SNAPSHOT (R238, R242). -/
def execLearnSnapshot (p : Fin 4) (m : Fin 8) (s : State) : Answer := act (runCmd 0x0606 p m learnSnapshot) s

/-- LEARN_RESTORE (R239, R242). -/
def execLearnRestore (p : Fin 4) (m : Fin 8) (s : State) : Answer := act (runCmd 0x0607 p m learnRestore) s

/-- LEARN_CLEAR (R242). -/
def execLearnClear (p : Fin 4) (m : Fin 8) (s : State) : Answer := act (runCmd 0x0608 p m learnMask) s

/-- TABLE_MOVE of an axis (R237, R238). -/
def execTableMove (a : Fin 256) (stored : Bool) (s : State) : Answer := act (tableMove a.val stored) s

end Sys2Proof.Machine
end

