-- ==== Sys2Proof/Machine/Rounds.lean ====
section
/-! DEFINITION. The round and milestone commands (03 R112 to R118). -/

namespace Sys2Proof.Machine

open Sys2Proof

/-! ### Milestone entries (03 R113) -/

/-- The bytes of an entry. -/
def Milestone.bytes (e : Milestone) : List Byte :=
  le 1 e.kind ++ le 1 e.source ++ le 2 e.param ++ le 4 e.off ++ le 2 e.div ++ le 2 e.phase ++ le 2 (b2n e.enabled) ++ zeros 2

/-- A host-written entry at an offset of a request; its source field is ignored. -/
def hostEntryAt (b : List Byte) (o : Nat) : Milestone :=
  { kind := u8At b o, source := 2, param := u16At b (o + 2), off := u32At b (o + 4), div := u16At b (o + 8), phase := u16At b (o + 10), enabled := bitAt (u8At b (o + 12)) 0 }

/-- The entries of a MILESTONE_WRITE request (R115). -/
def hostEntries (r : List Byte) : List Milestone := (List.range (u16At r 0)).map fun i => hostEntryAt r (8 + 16 * i)

/-- The parameter of a host-sourced kind lies in its range (*Table: Milestone kinds*). -/
def hostParamOk (e : Milestone) : Bool :=
  if e.kind = 9 ∨ e.kind = 10 then decide (e.param ≤ 3)
  else if e.kind = 11 then decide (e.param / 256 ≤ 1 ∧ e.param % 256 < 16)
  else false

/-- Reserved bits of a request's entry are zero. -/
def entryReservedOk (b : List Byte) (o : Nat) : Bool := decide (u16At b (o + 12) < 2) && allZero b (o + 14) 2

/-- Two entries are equal in kind, parameter, offset, divider and phase. -/
def sameEntry (a b : Milestone) : Bool := a.kind == b.kind && a.param == b.param && a.off == b.off && a.div == b.div && a.phase == b.phase

/-- No two entries of a list are equal. -/
def entriesDistinct : List Milestone → Bool
  | [] => true
  | e :: l => l.all (fun x => !sameEntry e x) && entriesDistinct l

/-- MILESTONE_WRITE, step 5 (*Table: MILESTONE_WRITE outcomes*). -/
def checkMilestones (e : Exec) (s : Rc8) : Option Status :=
  let l := hostEntries e.req
  let p := planOf s (vmap (·.inForce) s.sch) l
  firstFail [(!(l.all fun x => hostParamOk x && entryOk s.rnd.period x), .badField),
    (!((List.range (u16At e.req 0)).all fun i => entryReservedOk e.req (8 + 16 * i)), .badField),
    (!entriesDistinct l, .badField),
    (decide (64 < scheduleEntryCount p + p.entries.length), .noSpace),
    ((planCheck p).isSome, .badField)]

/-- A CAN port is enabled (14 R467). -/
def canEnabled (p : Nat) (s : Rc8) : Bool := bitAt (vget s.nv.canCfg p { flags := 0, timing := [], ref := 0, repeats := 1 }).flags 0

/-- A plant Ethernet port is enabled (13 R444). -/
def ethEnabled (p : Nat) (s : Rc8) : Bool := (vget s.nv.ethCfg p { speed := 0, enabled := false, ip := 0, weights := [] }).enabled

/-- The port an entry names is configured. -/
def portConfigured (s : Rc8) (e : Milestone) : Bool :=
  if e.kind = 10 then canEnabled e.param s else if e.kind = 11 then ethEnabled (e.param / 256) s else true

/-- MILESTONE_WRITE, step 6. -/
def checkMilestonesState (e : Exec) (s : Rc8) : Option Status :=
  if isStandby s ∨ u16At e.req 2 ≠ s.rnd.generation ∨ (hostEntries e.req).all (portConfigured s) = false then some .wrongState else none

/-- An operation of a command code waits for its round. -/
def opWaits (code : Nat) (s : Rc8) : Bool :=
  s.pair.pend.any fun x => match x.op with
    | .command c _ => c == code
    | _ => false

/-- A new set of host-sourced entries is stored (R115). -/
def storeMilestones (r : List Byte) (s : Rc8) : Rc8 := { s with nv := { s.nv with hostMilestones := hostEntries r } }

/-- A new set of host-sourced entries comes into force (R115). -/
def effMilestoneWrite (r : List Byte) (s : Rc8) : Rc8 :=
  let s1 := tableChanged { s with rnd := { s.rnd with host := hostEntries r } }
  raise { src := 91, reason := 0x01, sev := .notice, p0 := s1.rnd.generation, p1 := lo32 s1.rnd.round, p2 := (milestoneTable s1).length } s1

/-- MILESTONE_WRITE's own row (R115): the set is stored on both modules, and then waits for its round. -/
def milestoneWrite (stored : Bool) (e : Exec) (s : Rc8) : Rc8 :=
  if otherWaiting s 0x0A41 e.id ∨ opWaits 0x0A41 s ∨ loadRuns 0 s ∨ loadRuns 1 s ∨ changeArmed s then endWith e.id .busy s
  else if !stored then endWith e.id .integrityFail s
  else
    let w := roundAfter 1000000 s
    pairStore e.id (.command e.code e.req) w (le 8 w ++ le 2 ((s.rnd.generation + 1) % 65536) ++ zeros 6) false (effMilestoneWrite e.req)
      (if s.pair.partner.present then s else storeMilestones e.req s)

/-- ROUND_SET_PERIOD's effect on a module (R116). -/
def effSetPeriod (r : List Byte) (s : Rc8) : Rc8 := { s with nv := { s.nv with storedPeriod := u32At r 0 } }

/-- ROUND_SET_PERIOD on the module that took the command, with ROUND_PERIOD_STORED (R116, R118). -/
def ownSetPeriod (port : Nat) (r : List Byte) (s : Rc8) : Rc8 :=
  raise { src := 91, reason := 0x03, sev := .notice, p0 := u32At r 0, p1 := port, p2 := 0 } (effSetPeriod r s)

/-- The periods there are (R92). -/
def periods : List Nat := [62500, 125000, 250000, 500000, 1000000]

/-- MILESTONE_READ (R114). -/
def milestoneReadResponse (_ : Exec) (s : Rc8) : List Byte :=
  let t := milestoneTable s
  le 4 s.rnd.period ++ le 2 t.length ++ le 2 (schedId 0 s) ++ le 2 (schedId 1 s) ++ le 2 s.rnd.generation ++ zeros 4 ++
  padTo 1024 (t.flatMap Milestone.bytes)

/-- ROUND_STATUS (R117). -/
def roundStatusResponse (_ : Exec) (s : Rc8) : List Byte :=
  le 8 s.rnd.round ++ le 4 s.rnd.period ++ le 4 s.nv.storedPeriod ++ le 2 s.rnd.generation ++ le 2 (milestoneTable s).length ++
  le 4 s.rnd.slips ++ le 4 s.rnd.late[0] ++ le 4 s.rnd.late[1] ++ le 4 s.rnd.renumberings ++ zeros 4 ++ le 8 s.rnd.lastRenumbered ++
  le 8 s.rnd.lastSlip ++ zeros 8

/-- MILESTONE_READ (R112). -/
def specMilestoneRead : CmdSpec := { cls := .observe, len := lenIs 0, resp := fun _ => 1040 }
/-- MILESTONE_WRITE (R112). -/
def specMilestoneWrite : CmdSpec :=
  { cls := .engineer, len := fun r => impliedLen 2 0 52 (u16At r 0) 8 16 r, resp := fun r => impliedResp 0 52 (u16At r 0) 16,
    fields := fun e s => if 52 < u16At e.req 0 then some .badField else checkMilestones e s, state := checkMilestonesState }
/-- ROUND_SET_PERIOD (R112). -/
def specRoundSetPeriod : CmdSpec :=
  { cls := .engineer, len := lenIs 4, fields := fun e _ => if periods.contains (u32At e.req 0) then none else some .badField, state := refuseStandby }
/-- ROUND_STATUS (R112). -/
def specRoundStatus : CmdSpec := { cls := .observe, urgent := true, len := lenIs 0, resp := fun _ => 64 }

/-! ### Meanings -/

/-- MILESTONE_READ (R114). -/
def execMilestoneRead (p : Fin 4) (m : Fin 8) (s : State) : Answer := act (answer 0x0A40 p m milestoneReadResponse) s

/-- MILESTONE_WRITE (R115); `stored` is whether this module's read-back matches. -/
def execMilestoneWrite (p : Fin 4) (m : Fin 8) (stored : Bool) (s : State) : Answer := act (runCmd 0x0A41 p m (milestoneWrite stored)) s

/-- ROUND_SET_PERIOD's own row: both modules store the period at the same round boundary, which is the first at least 1 ms ahead,
as for MILESTONE_WRITE (R112, R116; DEDUCED, log 106). -/
def roundSetPeriod (stored : Bool) (e : Exec) (s : Rc8) : Rc8 :=
  if stored then pairStore e.id (.command e.code e.req) (roundAfter 1000000 s) [] true (ownSetPeriod e.port.val e.req) s
  else endWith e.id .integrityFail s

/-- ROUND_SET_PERIOD (R116); `stored` is whether this module's read-back matches. -/
def execRoundSetPeriod (p : Fin 4) (m : Fin 8) (stored : Bool) (s : State) : Answer := act (runCmd 0x0A42 p m (roundSetPeriod stored)) s

/-- ROUND_STATUS (R117). -/
def execRoundStatus (p : Fin 4) (m : Fin 8) (s : State) : Answer := act (answer 0x0A43 p m roundStatusResponse) s

end Sys2Proof.Machine
end

