-- ==== Sys2Proof/Machine/Digest.lean ====
section
/-! DEFINITION. Digest chains and digest records (10 R323, R324). -/

namespace Sys2Proof.Machine

open Sys2Proof

/-- One bit of the CRC-64 of ECMA-182. -/
def crc64Bit (c : Nat) : Nat := if 2 ^ 63 ≤ c then (2 * c % 2 ^ 64) ^^^ 0x42F0E1EBA9EA3693 else 2 * c

/-- One byte, most significant bit first. -/
def crc64Byte (c : Nat) (b : Byte) : Nat := (List.range 8).foldl (fun c _ => crc64Bit c) (c ^^^ (b.toNat * 2 ^ 56))

/-- CRC-64 with initial value 0, without reflection or final XOR (R323). -/
def crc64 (l : List Byte) : Nat := l.foldl crc64Byte 0

/-- A chain takes a step: the new value is the CRC over the previous value and the content; the record joins the
last sixteen and is sent over the pair link (R323, R324). -/
def chainStep (k : Fin 9) (seq : Nat) (content : List Byte) (s : Rc8) : Rc8 :=
  let v := crc64 (le 8 s.pair.chains[k] ++ content)
  let d : DigestRec := { chain := v, seq := lo32 seq, kind := k.val, own := isStandby s && s.pair.ownRound }
  plkSend 0x02 0 (.digest [d])
    (modPair (fun q => { q with chains := q.chains.set k v, history := vmod q.history k fun l => (d :: l).take 16 }) s)

/-- Every table entry the computation of the round has updated, as point and value (R323). -/
def tableUpdates (s : Rc8) : List Byte := s.learn.flatMap fun x => x.2.touched.flatMap fun y => le 4 y.1 ++ leS 4 y.2

/-- The engine's step of a round (R323): round number, command records, status words, stage state blocks, and the
table entries the computation updated. -/
def engineDigest (s : Rc8) : Rc8 :=
  let conf := configuredAxes s
  chainStep 0 s.rnd.round
    (le 4 (lo32 s.rnd.round) ++ s.eng.records.flatMap (fun x => x.2.bytes) ++
     conf.flatMap (fun a => slice (statusOf a s) 0 4) ++ conf.flatMap (fun a => Config.stageStateBytes a (axisOf a s)) ++ tableUpdates s) s

end Sys2Proof.Machine
end

