-- ==== Sys2Proof/Machine/Rules.lean ====
section
/-! DEFINITION. Rule epochs: the regions that the rule sources give each master, their commit, and what waits for the
completion of an epoch (02 R52, R66; 12 R399 to R401, R407 to R409). -/

namespace Sys2Proof.Machine

open Sys2Proof

/-- The integrity state changed. -/
def modItg (f : Integrity → Integrity) (s : Rc8) : Rc8 := { s with itg := f s.itg }

/-- The SVP runs (12 R385, R405). -/
def svpRuns (s : Rc8) : Bool := s.itg.pairs[2].st != .halted

/-- An enabled region of 2^code bytes. -/
def region (base code perms : Nat) : Region := { base := base, sizeCode := code, enabled := true, perms := perms }

/-- Base of BAR2 of host port n in DRAM (01 R27). -/
def bar2Base (n : Nat) : Nat := 0x7C000000 + n * 0x1000000

/-- Base of the mailboxes of host port n in the SVP's SRAM (01 R27). -/
def mailboxBase (n : Nat) : Nat := 0xA0000000 + n * 0x8000

/-- Own mailboxes, the directory page and the granted BAR2 slots of a host port, at L2 (02 R52). -/
def hostRules (n : Nat) (grants : BitVec 5) : List Region :=
  region (mailboxBase n) 15 0x0C0 :: region (bar2Base n) 12 0x040 ::
    ((List.range 5).filter fun k => grants.getLsbD k).map fun k => region (bar2Base n + 0x40000 * (k + 1)) 18 0x040

/-- Image id of the active image, 0 where there is none. -/
def activeId (s : Rc8) : Nat := (s.nv.active.map (·.id)).getD 0

/-- The debug session that the newest rules are for: the one that opens, else the open one (R401, R409). -/
def comingSession (s : Rc8) : Option DebugSess :=
  match s.itg.sessWaits.getLast? with
  | some w => w.sess
  | none => s.itg.sess

/-- DRAM and the SVP's SRAM in a session with a core scope, nothing while the port is locked. -/
def debugRules (s : Rc8) : List Region :=
  if ((comingSession s).map fun x => x.scope % 4 != 0).getD false then [region 0 31 0x003, region 0xA0000000 20 0x003] else []

/-- The regions of a master (*Table: Rule sources*). Where an area lies in DRAM at an address that no rule gives, Config
gives its regions (log 86). -/
def rulesOf (m : Nat) (s : Rc8) : List Region :=
  let dram := Config.dramRules m (activeId s)
  match m with
  | 0 | 1 => region 0 31 0x007 :: region 0x80000000 27 0x007 :: region 0x98090000 12 0x018 :: dram
  | 2 | 3 => region 0 31 0x007 :: region 0x80000000 27 0x007 :: dram
  | 4 => [region 0x80000000 27 0x0DB, region 0x90000000 22 0x0DB, region 0x90400000 19 0x0DB, region 0x98000000 18 0x0DB,
          region 0x98040000 18 0x0DB, region 0x98080000 16 0x0DB, region 0x98090000 12 0x049, region 0xA0000000 20 0x0DB,
          region 0xC0000000 24 0x0DB] ++ dram
  | 5 => region 0x90000000 22 0x018 :: region 0x90400000 19 0x018 ::
          ((List.range 4).map fun n => region (bar2Base n + 0x40000) 18 0x018) ++ dram
  | 6 => region 0x98000000 18 0x018 :: dram
  | 7 => region 0x98040000 18 0x018 :: dram
  | 10 => hostRules 0 (s.nv.rights[0]).grants
  | 11 => hostRules 1 (s.nv.rights[1]).grants
  | 12 => hostRules 2 (s.nv.rights[2]).grants
  | 13 => hostRules 3 (s.nv.rights[3]).grants
  | 14 => region 0x98000000 18 0x018 :: region 0x98040000 18 0x018 :: region 0x98080000 16 0x018 :: dram
  | 15 => debugRules s
  | _ => dram

/-- The regions of all masters, 16 descriptors each (R400, R401). -/
def rulesFor (s : Rc8) : Vector (List Region) 16 := vgen 16 fun m => (rulesOf m s).take 16

/-- The shadow set comes into force as a new rule epoch (R407). -/
def commitRules (s : Rc8) : Rc8 :=
  modItg (fun x =>
    let e := (x.epoch + 1) % 2 ^ 32
    { x with regions := rulesFor s, epoch := e, commits := inc32 x.commits, waiting := x.waiting ++ [(e, s.clk.refosc, false)] }) s

/-- A rule epoch is complete: its commit waits no longer (R408). -/
def ruleDone (epoch : Nat) (s : Rc8) : Bool := !(s.itg.waiting.any fun x => x.1 == epoch)

/-- A command's end waits for the rule epoch in force (R409). -/
def awaitRules (id : Nat) (s : Rc8) : Rc8 := modExec id (fun e => { e with rules := some s.itg.epoch }) s

/-- What a command's end waits for has come. -/
def Exec.rulesMet (e : Exec) (s : Rc8) : Bool :=
  match e.rules with
  | none => true
  | some n => ruleDone n s

/-- The code in use changed: new regions, and the first release under it waits for their epoch (R401, R409). -/
def codeRules (s : Rc8) : Rc8 :=
  let s1 := commitRules s
  modItg (fun x => { x with codeEpoch := some x.epoch }) s1

/-- The rules of the code in use are not yet complete. -/
def codeWaits (s : Rc8) : Bool :=
  match s.itg.codeEpoch with
  | none => false
  | some n => !ruleDone n s

end Sys2Proof.Machine
end

