-- ==== Sys2Proof/Machine/LockOps.lean ====
section
/-! DEFINITION. Suspending lockstep and ending a debug session (12 R388, R389). -/

namespace Sys2Proof.Machine

open Sys2Proof

/-- One lockstep pair changed. -/
def modLs (k : Fin 3) (f : LsPair → LsPair) (s : Rc8) : Rc8 := modItg (fun x => { x with pairs := vmod x.pairs k f }) s

/-- Why lockstep is suspended: 1 debug port, 2 breakpoint, 3 step (R421). -/
def suspend (k : Fin 3) (cause : Nat) (s : Rc8) : Rc8 :=
  let mark := fun (x : LsPair) => if cause = 1 then { x with byPort := true, endedAt := none } else { x with byTask := true, endedAt := none }
  match (s.itg.pairs[k]).st with
  | .lockstep =>
    raise { src := 125, reason := 0x01, sev := .warning, p0 := k.val, p1 := cause, p2 := lo32 s.rnd.round }
      (modItg (fun x => { x with suspensions := inc32 x.suspensions })
        (modLs k (fun x => { (mark x) with st := .suspended, since := s.rnd.round }) s))
  | .suspended => modLs k mark s
  | .split => s
  | .halted => s

/-- A suspension ends once no cause remains: the restore point is waited for (R388, R390). -/
def endSuspension (k : Fin 3) (s : Rc8) : Rc8 :=
  let x := s.itg.pairs[k]
  if x.st = .suspended ∧ x.byPort = false ∧ x.byTask = false ∧ x.endedAt.isNone ∧ x.stuck = false then
    modLs k (fun x => { x with endedAt := some s.clk.refosc }) s
  else s

/-- The module leaves LAYBY: every breakpoint is removed, and suspensions by breakpoints and steps end (R266,
R389). -/
def endTaskDebug (s : Rc8) : Rc8 :=
  let s1 := modItg (fun x => { x with breaks := Vector.replicate 4 [], pairs := vmap (fun y => { y with byTask := false }) x.pairs }) s
  endSuspension 1 (endSuspension 0 s1)

/-- The pairs a session's scope covers are AP0 and AP1 (R415). -/
def scopeCovers (scope : Nat) (k : Fin 3) : Bool := decide (k.val < 2) && bitAt scope k.val

/-- A debug session ends (R388): breakpoints are removed, cores halted by the debugger resume, and suspensions
through the debug port end. DEBUG_LOCKED names the cause: 1 command, 2 expiry, 3 key. -/
def endDebug (cause by_ : Nat) (s : Rc8) : Rc8 :=
  match s.itg.sess with
  | none => s
  | some _ =>
    let s1 := modItg (fun x => { x with sess := none, breaks := Vector.replicate 4 [], portHalts := 0, portBreaks := Vector.replicate 4 [],
                                        frozen := x.frozen &&& ~~~(1#16 <<< 15),
                                        pairs := vmap (fun y => { y with byPort := false }) x.pairs }) s
    let s2 := { s1 with run := { s1.run with tasks := vmap (fun t => if t.st = .breakpoint then { t with st := .running } else t) s1.run.tasks } }
    raise { src := 124, reason := 0x02, sev := .notice, p0 := cause, p1 := by_, p2 := 0 } (endSuspension 1 (endSuspension 0 s2))

/-- A session that opens or ends waits for the rules that go with it (R401, R409). -/
def waitSession (new : Option DebugSess) (arg by_ : Nat) (exec : Option Nat) (s : Rc8) : Rc8 :=
  let w : SessWait := { epoch := (s.itg.epoch + 1) % 2 ^ 32, sess := new, arg := arg, by_ := by_, exec := exec }
  commitRules (modItg (fun x => { x with sessWaits := x.sessWaits ++ [w] }) s)

/-- The session is to end (R388): once the rules without it are complete. -/
def closeSession (cause by_ : Nat) (exec : Option Nat) (s : Rc8) : Rc8 :=
  if (comingSession s).isNone then s else waitSession none cause by_ exec s

end Sys2Proof.Machine
end

