-- ==== Sys2Proof/Machine/Blocks.lean ====
section
/-! DEFINITION. Objects loaded in blocks: the request layout and block rules of PROGRAM_LOAD, which
CHANGE_LOAD, SAFETY_LOAD and, in its lengths, SCHED_LOAD follow (05 R179; 08 R274; 09 R300; 11 R376). -/

namespace Sys2Proof.Machine

open Sys2Proof

/-- The load is finishing: its last block's command has not been delivered. -/
def BlockLoad.runs (l : Option BlockLoad) (s : Rc8) : Bool :=
  match l.bind (·.finishing) with
  | some id => s.execs.any fun e => e.id == id && match e.phase with
      | .ended _ _ => false
      | _ => true
  | none => false

/-- Bytes received before a block: none for a block at offset 0. -/
def blockBefore (l : Option BlockLoad) (r : List Byte) : List Byte :=
  if u32At r 8 = 0 then [] else ((l.filter fun x => x.finishing.isNone).map (·.data)).getD []

/-- A block starts where the previous one ended (R274). -/
def blockContiguous (l : Option BlockLoad) (r : List Byte) : Bool :=
  u32At r 8 == 0 || (match l with
    | some x => x.finishing.isNone && x.data.length == u32At r 8
    | none => false)

/-- Step 5 of a block: reserved bits, the total length, the block length, and its place (R274). -/
def checkBlock (low top : Nat) (l : Option BlockLoad) (r : List Byte) : Option Status :=
  firstFail [(decide (1 < u8At r 0 ∨ u32At r 4 < low ∨ top < u32At r 4 ∨ u32At r 12 < 1 ∨ 4016 < u32At r 12), .badField),
    (!blockContiguous l r, .badField), (decide (u32At r 4 < u32At r 8 + u32At r 12), .badField)]

/-- The request is as long as its block length implies (02 R58). -/
def blockLen (r : List Byte) : Bool := impliedLen 16 1 4016 (u32At r 12) 16 1 r

/-- The response a block asks for (02 R58). -/
def blockResp (r : List Byte) : Nat := impliedResp 1 4016 (u32At r 12) 8

/-- The block is marked the last. -/
def blockLast (r : List Byte) : Bool := bitAt (u8At r 0) 0

/-- The load after a block. -/
def blockTake (l : Option BlockLoad) (e : Exec) : BlockLoad :=
  { total := u32At e.req 4, data := blockBefore l e.req ++ e.req.drop 16, finishing := if blockLast e.req then some e.id else none }

/-- The response to a block that is not the last: the bytes received so far (R274). -/
def blockResponse (l : BlockLoad) : List Byte := le 4 l.data.length ++ zeros 4

end Sys2Proof.Machine
end

