-- ==== Sys2Proof/Machine/Convert.lean ====
section
/-! DEFINITION. Carry-over of program data by instance identity, and the conversion of values from type to type (09 R279,
R282, R290 to R294). -/

namespace Sys2Proof.Machine

open Sys2Proof

/-- The bytes of a section: 0 code, 1 data initial values, 2 retained initial values, 3 mapping table, 4
motion-class stop image, 5 station-class stop image, 6 station configuration (08 R244). -/
def Image.sect (x : Image) (i : Nat) : List Byte :=
  let e := x.sections.getD i (0, 0)
  (x.bytes.drop e.1).take e.2

/-! ### Stored numbers -/

/-- Bytes a value of a type takes; a string is its characters, filled up with zeros (PRESUMED, log 126). -/
def ValKind.size : ValKind → Nat
  | .int _ n => n
  | .bits n => n
  | .real => 4
  | .lreal => 8
  | .time n => n
  | .str wide n => if wide then 2 * n else n
  | .enum _ n _ => n
  | .ref n => n
  | .other _ n => n

/-- The unsigned integer of some bytes, least significant first. -/
def leNat : List Byte → Nat
  | [] => 0
  | b :: l => b.toNat + 256 * leNat l

/-- The integer a stored value stands for: a bit string as an unsigned one, a time in ns as a signed one (R292). -/
def ValKind.intOf (k : ValKind) (b : List Byte) : Int :=
  match k with
  | .int true n => toSigned (8 * n) (leNat b)
  | .time n => toSigned (8 * n) (leNat b)
  | _ => leNat b

/-- An integer kept where it is representable, otherwise the nearer limit, and whether it was not (R292). -/
def saturated (signed : Bool) (bytes : Nat) (x : Int) : List Byte × Bool :=
  let lo : Int := if signed then -(2 ^ (8 * bytes - 1)) else 0
  let hi : Int := if signed then 2 ^ (8 * bytes - 1) - 1 else 2 ^ (8 * bytes) - 1
  (leS bytes (clampInt lo hi x), decide (x < lo ∨ hi < x))

/-! ### REAL and LREAL, as IEC 60559 stores them (R292) -/

/-- Fraction bits. -/
def fracBits (long : Bool) : Nat := if long then 52 else 23

/-- Exponent bits. -/
def expBits (long : Bool) : Nat := if long then 11 else 8

/-- The smallest exponent of a normal number. -/
def minExp (long : Bool) : Int := 2 - 2 ^ (expBits long - 1)

/-- A power of 2. -/
def pow2 (k : Int) : Rat := if 0 ≤ k then ((2 ^ k.toNat : Int) : Rat) else mkRat 1 (2 ^ (-k).toNat)

/-- What a stored floating-point number is: no number, an infinity, or a sign and a magnitude. -/
inductive FloatVal where
  | nan
  | inf (neg : Bool)
  | fin (neg : Bool) (q : Rat)
deriving DecidableEq, Repr

/-- A stored floating-point number. -/
def readFloat (long : Bool) (b : List Byte) : FloatVal :=
  let x := leNat b
  let m := x % 2 ^ fracBits long
  let e := x / 2 ^ fracBits long % 2 ^ expBits long
  let neg := bitAt x (fracBits long + expBits long)
  if e = 2 ^ expBits long - 1 then (if m = 0 then .inf neg else .nan)
  else if e = 0 then .fin neg ((m : Rat) * pow2 (minExp long - fracBits long))
  else .fin neg (((2 ^ fracBits long + m : Nat) : Rat) * pow2 (e - 1 + minExp long - fracBits long))

/-- A rational that is not negative rounded to nearest, ties to even. -/
def roundEven (q : Rat) : Nat :=
  let n := q.num.toNat / q.den
  let r := q.num.toNat % q.den
  if q.den < 2 * r ∨ (2 * r = q.den ∧ n % 2 = 1) then n + 1 else n

/-- A magnitude rounded to nearest, ties to even; beyond the range the largest finite number, and whether it was (R292). -/
def writeFloat (long neg : Bool) (q : Rat) : List Byte × Bool :=
  let k0 : Int := Nat.log2 q.num.toNat - Nat.log2 q.den
  let k := max (if q < pow2 k0 then k0 - 1 else k0) (minExp long)
  let bits := if q = 0 then 0 else (k - minExp long).toNat * 2 ^ fracBits long + roundEven (q * pow2 (fracBits long - k))
  let top := (2 ^ expBits long - 1) * 2 ^ fracBits long
  (le (if long then 8 else 4) (min bits (top - 1) + (if neg then 2 ^ (fracBits long + expBits long) else 0)), decide (top ≤ bits))

/-- An integer as a floating-point number (R292). -/
def intToFloat (long : Bool) (x : Int) : List Byte := (writeFloat long (decide (x < 0)) (x.natAbs : Rat)).1

/-- A floating-point number as an integer: rounded to nearest, halves away from zero, then saturated; NaN gives 0 (R292). -/
def floatToInt (long signed : Bool) (bytes : Nat) (b : List Byte) : List Byte × Bool :=
  match readFloat long b with
  | .nan => (zeros bytes, true)
  | .inf neg => saturated signed bytes (if neg then -(2 ^ 64) else 2 ^ 64)
  | .fin neg q => let m := roundDivAway q.num q.den; saturated signed bytes (if neg then -m else m)

/-- A floating-point number of the other width (R292). An infinity of LREAL lies beyond the range of REAL, and REAL's stays one; of a
NaN no rule states the bits. -/
def floatToFloat (long : Bool) (b : List Byte) : List Byte × Bool :=
  match readFloat (!long) b with
  | .nan => (padTo (if long then 8 else 4) (Config.nanAs long b), false)
  | .inf neg =>
    let top := (2 ^ expBits long - 1) * 2 ^ fracBits long
    (le (if long then 8 else 4) ((if long then top else top - 1) + (if neg then 2 ^ (fracBits long + expBits long) else 0)), !long)
  | .fin neg q => writeFloat long neg q

/-! ### *Table: Conversion rules* (R292) -/

/-- The table lists a rule from one elementary type to another. -/
def convertible (a b : ValKind) : Bool :=
  a == b || match a, b with
  | .int .., .int .. => true
  | .int .., .bits .. => true
  | .int .., .real => true
  | .int .., .lreal => true
  | .bits .., .bits .. => true
  | .bits .., .int .. => true
  | .bits .., .real => true
  | .bits .., .lreal => true
  | .real, .int .. => true
  | .lreal, .int .. => true
  | .real, .lreal => true
  | .lreal, .real => true
  | .time .., .time .. => true
  | .str w _, .str v _ => w == v
  | .enum n .., .enum m .. => n == m
  | .ref .., .ref .. => true
  | _, _ => false

/-- A value converted: its bytes, none where the initial value is taken, and whether it counts as clipped. -/
structure Converted where
  value : Option (List Byte)
  clipped : Bool

/-- Bytes and whether they were clipped, as a conversion. -/
def Converted.put (x : List Byte × Bool) : Converted := { value := some x.1, clipped := x.2 }

/-- One value converted (*Table: Conversion rules*); `ref` is the new data offset of what lay at an old one. -/
def convertValue (ref : Nat → Option Nat) (a b : ValKind) (v : List Byte) : Converted :=
  match a, b with
  | .ref _, .ref n =>
    (match Config.refTarget v with
     | none => .put (padTo n (Config.refValue none), false)
     | some o => .put (padTo n (Config.refValue (ref o)), (ref o).isNone))
  | .enum n x l, .enum m y k =>
    if n == m && l == k && x == y then .put (v, false)
    else
      (match (l.find? fun e => e.2 == leNat v).bind fun e => k.find? fun f => f.1 == e.1 with
       | some f => .put (le y f.2, false)
       | none => { value := none, clipped := true })
  | .real, .real => .put (v, false)
  | .lreal, .lreal => .put (v, false)
  | .real, .lreal => .put (floatToFloat true v)
  | .lreal, .real => .put (floatToFloat false v)
  | .real, .int s n => .put (floatToInt false s n v)
  | .lreal, .int s n => .put (floatToInt true s n v)
  | .bits _, .bits n => .put (padTo n v, decide (2 ^ (8 * n) ≤ leNat v))
  | _, .int s n => .put (saturated s n (a.intOf v))
  | _, .bits n => .put (saturated false n (a.intOf v))
  | _, .time n => .put (saturated true n (a.intOf v))
  | _, .real => .put (intToFloat false (a.intOf v), false)
  | _, .lreal => .put (intToFloat true (a.intOf v), false)
  | _, _ => .put (padTo b.size v, !allZero v b.size (v.length - b.size))

/-! ### Instances (R291) -/

/-- The value an image's mapping table lists under the same path and the same types around it, where the table of R292 converts
it; members and elements stand in their paths, so a changed aggregate is carried over member by member (R291). -/
def counterpart (l : List Place) (x : Place) (fromOld : Bool) : Option Place :=
  l.find? fun y => y.path == x.path && y.types == x.types && (if fromOld then convertible y.kind x.kind else convertible x.kind y.kind)

/-- The value stays where it is, with its type (R282). -/
def stays (old : List Place) (x : Place) : Bool :=
  ((counterpart old x true).map fun y => y.off == x.off && y.kind == x.kind && y.retained == x.retained).getD false

/-- Two values share a byte of data memory. -/
def Place.overlaps (x y : Place) : Bool :=
  !x.retained && !y.retained && decide (x.off < y.off + y.kind.size ∧ y.off < x.off + x.kind.size)

/-- A new value without counterpart that overlaps memory still in use by the old program (R282). -/
def onLive (old : List Place) (x : Place) : Bool := old.any x.overlaps

/-- The places an image lists. -/
def Image.places (x : Image) : List Place := (Config.places x).getD []

/-- The converted bytes of a change: data that move, change type, or are new on memory in use (R282). -/
def conversionBytes (old new : Image) : Nat :=
  ((new.places.filter fun x => !x.retained && !stays old.places x &&
    ((counterpart old.places x true).isSome || onLive old.places x)).map fun x => x.kind.size).sum

/-- Tasks recorded as accessing an instance that is added, removed, moved or retyped, as a mask (R279). -/
def changedTasks (old new : Image) : Nat :=
  let added := new.places.filter fun x => !stays old.places x
  let removed := old.places.filter fun x => (counterpart new.places x false).isNone
  (added ++ removed).foldl (fun m x => m ||| x.tasks) 0 % 256

/-- The number of an instance in the new image, none where it is removed or changes its type (R291, R293). -/
def carriedInstance (old new : Image) (i : Nat) : Option Nat :=
  ((old.places.filter fun x => x.inst == i).findSome? fun x => counterpart new.places x false).map (·.inst)

/-- Instances of the new image without counterpart (R291, R294). -/
def newInstances (old new : Image) : List Nat :=
  ((new.places.map (·.inst)).dedup).filter fun i => (new.places.filter fun x => x.inst == i).all fun x => (counterpart old.places x true).isNone

/-! ### A conversion (R289 to R292) -/

/-- What conversion reads: data memory, retained memory, and the data offset of a word that is uncorrectable. -/
structure Source where
  data : Mem
  retained : Mem
  bad : Option Nat

/-- The bytes of a value. -/
def Source.read (s : Source) (x : Place) : List Byte := memReadN (if x.retained then s.retained else s.data) x.off x.kind.size

/-- A value lies on the uncorrectable word. -/
def Source.badAt (s : Source) (x : Place) : Bool := !x.retained && (s.bad.map fun o => decide (x.off ≤ o ∧ o < x.off + x.kind.size)).getD false

/-- The new data offset of what lay at an old one (R292). -/
def retarget (old new : List Place) (o : Nat) : Option Nat :=
  ((old.find? fun y => !y.retained && y.off == o).bind fun y => counterpart new y false).map (·.off)

/-- The initial value the new image gives (R291). -/
def initialValue (new : Image) (x : Place) : List Byte := slice (new.sect (if x.retained then 2 else 1)) x.off x.kind.size

/-- The value of a place of the new image: converted from its counterpart, else its initial value; one whose source word is
uncorrectable takes its initial value and counts as clipped (R290, R291). -/
def newValue (old new : Image) (s : Source) (x : Place) : List Byte × Bool :=
  match counterpart old.places x true with
  | none => (initialValue new x, false)
  | some y =>
    if s.badAt y then (initialValue new x, true)
    else
      let c := convertValue (retarget old.places new.places) y.kind x.kind (s.read y)
      (c.value.getD (initialValue new x), c.clipped)

/-- Phase 1: every value of data memory that the change writes at the waymark, by its offset, as the scratch area takes it (R289). A
reference is written wherever it stays. -/
def phaseOne (old new : Image) (s : Source) : List (Nat × List Byte) :=
  (new.places.filter fun x => !x.retained && (!stays old.places x || (match x.kind with | .ref _ => true | _ => false)) &&
    ((counterpart old.places x true).isSome || onLive old.places x)).map fun x => (x.off, (newValue old new s x).1)

/-- New values that overlap no live memory, initialised during preparation (R282). -/
def preparedData (old new : Image) : List (Nat × List Byte) :=
  (new.places.filter fun x => !x.retained && (counterpart old.places x true).isNone && !onLive old.places x).map fun x => (x.off, initialValue new x)

/-- Values written into a memory. -/
def writeAll (m : Mem) (l : List (Nat × List Byte)) : Mem := l.foldl (fun m x => memWriteN m x.1 x.2) m

/-- The retained data of the new layout: its initial values, with every value carried over (R283, R291). -/
def convertedRetained (old new : Image) (s : Source) : Mem :=
  writeAll (memWriteN [] 0 (new.sect 2)) ((new.places.filter fun x => x.retained && (counterpart old.places x true).isSome).map fun x =>
    (x.off, (newValue old new s x).1))

/-- Instances carried over. -/
def carriedCount (old new : Image) : Nat :=
  ((new.places.filter fun x => (counterpart old.places x true).isSome).map (·.inst)).dedup.length

/-- Values clipped (R292). -/
def clippedCount (old new : Image) (s : Source) : Nat := new.places.countP fun x => (newValue old new s x).2

end Sys2Proof.Machine
end

