-- ==== Sys2Proof/Machine/Hash.lean ====
section
/-! DEFINITION. SHA-256, HMAC-SHA-256 and PBKDF2-HMAC-SHA-256, which digests of stored images and the safety
password are made with (08 R244, 11 R368, 18 R536), as FIPS 180-4, RFC 2104 and RFC 8018 define them. -/

namespace Sys2Proof.Machine

open Sys2Proof

/-- The round constants. -/
def shaK : List U32 :=
  [0x428A2F98, 0x71374491, 0xB5C0FBCF, 0xE9B5DBA5, 0x3956C25B, 0x59F111F1, 0x923F82A4, 0xAB1C5ED5] ++
  [0xD807AA98, 0x12835B01, 0x243185BE, 0x550C7DC3, 0x72BE5D74, 0x80DEB1FE, 0x9BDC06A7, 0xC19BF174] ++
  [0xE49B69C1, 0xEFBE4786, 0x0FC19DC6, 0x240CA1CC, 0x2DE92C6F, 0x4A7484AA, 0x5CB0A9DC, 0x76F988DA] ++
  [0x983E5152, 0xA831C66D, 0xB00327C8, 0xBF597FC7, 0xC6E00BF3, 0xD5A79147, 0x06CA6351, 0x14292967] ++
  [0x27B70A85, 0x2E1B2138, 0x4D2C6DFC, 0x53380D13, 0x650A7354, 0x766A0ABB, 0x81C2C92E, 0x92722C85] ++
  [0xA2BFE8A1, 0xA81A664B, 0xC24B8B70, 0xC76C51A3, 0xD192E819, 0xD6990624, 0xF40E3585, 0x106AA070] ++
  [0x19A4C116, 0x1E376C08, 0x2748774C, 0x34B0BCB5, 0x391C0CB3, 0x4ED8AA4A, 0x5B9CCA4F, 0x682E6FF3] ++
  [0x748F82EE, 0x78A5636F, 0x84C87814, 0x8CC70208, 0x90BEFFFA, 0xA4506CEB, 0xBEF9A3F7, 0xC67178F2]

/-- The initial hash value. -/
def shaInit : List U32 := [0x6A09E667, 0xBB67AE85, 0x3C6EF372, 0xA54FF53A, 0x510E527F, 0x9B05688C, 0x1F83D9AB, 0x5BE0CD19]

/-- A word of a message block, big-endian. -/
def shaWord (b : List Byte) (i : Nat) : U32 := BitVec.ofNat 32 (((b.drop (4 * i)).take 4).foldl (fun n x => 256 * n + x.toNat) 0)

/-- The padded message: a one bit, zeros, and the length in bits as eight bytes. -/
def shaPad (m : List Byte) : List Byte := m ++ [0x80] ++ zeros ((119 - m.length % 64) % 64) ++ be 8 (8 * m.length)

/-- The next word of the message schedule from the sixteen before it, newest first. -/
def shaNext (w : List U32) : U32 :=
  let a := w.getD 14 0
  let b := w.getD 1 0
  (b.rotateRight 17 ^^^ b.rotateRight 19 ^^^ (b >>> 10)) + w.getD 6 0 + (a.rotateRight 7 ^^^ a.rotateRight 18 ^^^ (a >>> 3)) + w.getD 15 0

/-- The message schedule grown by n words, newest first. -/
def shaGrow : Nat → List U32 → List U32
  | 0, w => w
  | n + 1, w => shaGrow n (shaNext w :: w)

/-- One round on the eight working variables. -/
def shaRound (v : List U32) (kw : U32) : List U32 :=
  match v with
  | [a, b, c, d, e, f, g, h] =>
    let t1 := h + (e.rotateRight 6 ^^^ e.rotateRight 11 ^^^ e.rotateRight 25) + ((e &&& f) ^^^ (~~~e &&& g)) + kw
    let t2 := (a.rotateRight 2 ^^^ a.rotateRight 13 ^^^ a.rotateRight 22) + ((a &&& b) ^^^ (a &&& c) ^^^ (b &&& c))
    [t1 + t2, a, b, c, d + t1, e, f, g]
  | _ => v

/-- One block of 64 bytes. -/
def shaBlock (h : List U32) (b : List Byte) : List U32 :=
  let w := (shaGrow 48 ((List.range 16).map (shaWord b)).reverse).reverse
  let v := (w.zip shaK).foldl (fun v x => shaRound v (x.1 + x.2)) h
  (h.zip v).map fun x => x.1 + x.2

/-- The padded message block by block; fuel is the number of blocks. -/
def shaBlocks : Nat → List Byte → List U32 → List U32
  | 0, _, h => h
  | n + 1, m, h => shaBlocks n (m.drop 64) (shaBlock h (m.take 64))

/-- SHA-256 of a byte sequence, 32 bytes. -/
def sha256 (m : List Byte) : List Byte :=
  let p := shaPad m
  (shaBlocks (p.length / 64) p shaInit).flatMap fun w => be 4 w.toNat

/-- HMAC-SHA-256. -/
def hmac256 (key m : List Byte) : List Byte :=
  let k := padTo 64 (if 64 < key.length then sha256 key else key)
  sha256 (k.map (fun x => x ^^^ 0x5C) ++ sha256 (k.map (fun x => x ^^^ 0x36) ++ m))

/-- The iterations of PBKDF2, each on the value before it, folded with exclusive or. -/
def pbkdf2Loop (key : List Byte) : Nat → List Byte → List Byte → List Byte
  | 0, _, acc => acc
  | n + 1, u, acc =>
    let v := hmac256 key u
    pbkdf2Loop key n v ((acc.zip v).map fun x => x.1 ^^^ x.2)

/-- PBKDF2-HMAC-SHA-256 of one block, 32 bytes. -/
def pbkdf2 (password salt : List Byte) (iterations : Nat) : List Byte :=
  let u := hmac256 password (salt ++ be 4 1)
  pbkdf2Loop password (iterations - 1) u u

end Sys2Proof.Machine
end

