-- ==== Sys2Proof/Machine/Session.lean ====
section
/-! DEFINITION. Safety sessions of the host ports (02 R64, R66; 11 R368, R369). -/

namespace Sys2Proof.Machine

open Sys2Proof

/-- The safety functions' state changed. -/
def modSaf (f : Safety → Safety) (s : Rc8) : Rc8 := { s with saf := f s.saf }

/-- A safety session is open on a port (R369). -/
def sessionOpen (p : Fin 4) (s : Rc8) : Bool := s.saf.sess[p].isSome

/-- The session of a port was opened while no password is set, and nothing but SAFETY_PASSWORD, SAFETY_LOGOUT
and OBSERVE commands is accepted on the port (R368). -/
def firstSession (p : Fin 4) (s : Rc8) : Bool :=
  match s.saf.sess[p] with
  | none => false
  | some x => x.first

/-- A port's session ends, with SAFETY_SESSION_ENDED (R369, R383): 1 logout, 2 idle, 3 key, 4 password change,
5 port reset, 6 class change. -/
def endSession (p : Fin 4) (cause : Nat) (s : Rc8) : Rc8 :=
  if sessionOpen p s then
    raise { src := 72, reason := 0x06, sev := .notice, p0 := p.val, p1 := cause, p2 := 0 }
      (modSaf (fun x => { x with sess := x.sess.set p none }) s)
  else s

/-- Every session ends. -/
def endSessions (cause : Nat) (s : Rc8) : Rc8 :=
  endSession 3 cause (endSession 2 cause (endSession 1 cause (endSession 0 cause s)))

/-- Every session but one port's ends (R369). -/
def endOtherSessions (p : Fin 4) (cause : Nat) (s : Rc8) : Rc8 :=
  ([0, 1, 2, 3] : List (Fin 4)).foldl (fun s q => if q = p then s else endSession q cause s) s

/-- A command that needs the session counts for its idle time (R369). -/
def touchSession (p : Fin 4) (s : Rc8) : Rc8 :=
  modSaf (fun x => { x with sess := x.sess.set p (x.sess[p].map fun y => { y with last := s.clk.refosc }) }) s

/-- The idle time of a session, 900 s (R369). -/
def sessionIdle : Nat := 900000000000

/-- SAFETY_SESSION_IDLE: the 900 s of a port's session end without a command that needs it. -/
def safetySessionIdle (p : Fin 4) (s : Rc8) : Rc8 :=
  match s.saf.sess[p] with
  | none => s
  | some x => endSession p 2 (atRefosc (x.last + sessionIdle) s)

/-- SAFETY_SESSION_IDLE (R369). -/
def execSafetySessionIdle (p : Fin 4) (s : State) : Answer := act (safetySessionIdle p) s

end Sys2Proof.Machine
end

