-- ==== Sys2Proof/Machine/SafeSet.lean ====
section
/-! DEFINITION. The safety parameter set: its layout, its checks and what it says of an axis, a group and an
output (11 R366, R367). -/

namespace Sys2Proof.Machine

open Sys2Proof

/-- A safety axis record (*Table: Safety axis record*). -/
structure SafeAxis where
  functions : Nat
  group : Nat
  w : Nat
  dir : Nat
  sls : Nat
  detSls : Nat
  pMin : Int
  pMax : Int
  detMin : Int
  detMax : Int
  tSdi : Nat
  tSs : Nat
deriving DecidableEq, Repr

/-- The axis record of an axis in a set (R366). -/
def safeAxis (b : List Byte) (a : Nat) : SafeAxis :=
  let r := slice b (64 + 32 * a) 32
  { functions := u8At r 0, group := u8At r 1, w := u8At r 2, dir := u8At r 3, sls := u32At r 4, detSls := u32At r 8, pMin := s32At r 12,
    pMax := s32At r 16, detMin := s32At r 20, detMax := s32At r 24, tSdi := u16At r 28, tSs := u16At r 30 }

/-- An axis is monitored (R366: functions other than 0). -/
def SafeAxis.monitored (x : SafeAxis) : Bool := x.functions % 8 != 0

/-- Stop kind of a group: 1 STO, 2 SS1. -/
def groupKind (b : List Byte) (g : Nat) : Nat := u8At b (8256 + 8 * g)
/-- SS1 time of a group, ms. -/
def groupTime (b : List Byte) (g : Nat) : Nat := u32At b (8260 + 8 * g)
/-- Group mask of a safety output. -/
def outGroups (b : List Byte) (j : Nat) : Nat := u16At b (8384 + 16 * j)
/-- Mode byte of a safety output. -/
def outMode (b : List Byte) (j : Nat) : Nat := u8At b (8386 + 16 * j)
/-- Pulse width of an output, µs. -/
def outWidth (b : List Byte) (j : Nat) : Nat := u16At b (8388 + 16 * j)
/-- Test interval of an output, s. -/
def outInterval (b : List Byte) (j : Nat) : Nat := u16At b (8390 + 16 * j)
/-- Version of a set. -/
def setVersion (b : List Byte) : Nat := u16At b 6
/-- CRC of a set. -/
def setCrc (b : List Byte) : Nat := u32At b 12
/-- Single-channel use (R360). -/
def setSingle (b : List Byte) : Bool := bitAt (u8At b 16) 0
/-- Cross-check limit, rounds. -/
def crossLimit (b : List Byte) : Nat := u8At b 17
/-- Container loss limit, rounds. -/
def lossLimit (b : List Byte) : Nat := u8At b 18
/-- Detour time, s. -/
def detourTime (b : List Byte) : Nat := u32At b 20
/-- Detour transition time, ms. -/
def transitionTime (b : List Byte) : Nat := u16At b 24

/-- An axis record lies within its ranges, whether its axis is monitored or not (R366, R376; log 26). -/
def safeAxisOk (x : SafeAxis) : Bool :=
  decide (x.group ≤ 15 ∧ 1 ≤ x.w ∧ x.w ≤ 64 ∧ x.detSls ≤ x.sls ∧ x.pMin < x.pMax ∧ x.pMin ≤ x.detMin ∧ x.detMax ≤ x.pMax ∧ x.detMin < x.detMax) &&
  (if bitAt x.functions 2 then x.dir == 1 || x.dir == 2 else x.dir == 0)

/-- A group record within its ranges, whether an axis names the group or not (R366, R376). -/
def safeGroupOk (b : List Byte) (g : Nat) : Bool :=
  (groupKind b g == 1 && groupTime b g == 0) || (groupKind b g == 2 && decide (groupTime b g ≤ 10000))

/-- An output record within its ranges, whether the output is configured or not (R366, R376). -/
def safeOutOk (b : List Byte) (j : Nat) : Bool :=
  decide (100 ≤ outWidth b j ∧ outWidth b j ≤ 500 ∧ 1 ≤ outInterval b j ∧ outInterval b j ≤ 3600)

/-- Every field of a set lies within its table; reserved bits are ignored (R366, R376; 00 R11). -/
def setFieldsOk (b : List Byte) : Bool :=
  u32At b 0 == 0x31534653 && u16At b 4 == 1 && decide (1 ≤ setVersion b) && u32At b 8 == 8512 &&
  decide (1 ≤ crossLimit b ∧ crossLimit b ≤ 8 ∧ 3 ≤ lossLimit b ∧ lossLimit b ≤ 16 ∧ 1 ≤ detourTime b ∧ detourTime b ≤ 28800 ∧ transitionTime b ≤ 2000) &&
  ((List.range 256).all fun a => safeAxisOk (safeAxis b a)) &&
  (List.range 16).all (safeGroupOk b) &&
  (List.range 8).all (safeOutOk b)

/-- The set's CRC is correct (R366). -/
def setCrcOk (b : List Byte) : Bool := b.length == 8512 && crcWithout b 12 == setCrc b

/-- The active set, where it is valid: it is used only if its CRC is correct (R367). -/
def activeSet (s : Rc8) : Option (List Byte) := s.nv.safeActive.filter setCrcOk

/-- A set is written as copies A and B, so both are good again: the active set has copies 0 and 1, the pending set 2 and 3 (R367). -/
def copiesWritten (a b : Fin 4) (s : Rc8) : Rc8 := { s with nv := { s.nv with safeBad := (s.nv.safeBad.set a false).set b false } }

/-- A copy of a set is found bad: the other is used, and with both bad the set cannot be used (R367; 12 R397). -/
def copyBad (k : Fin 4) (s : Rc8) : Rc8 :=
  let b := s.nv.safeBad.set k true
  { s with nv := { s.nv with safeBad := b,
                             safeActive := if b[0] && b[1] then none else s.nv.safeActive,
                             safePending := if b[2] && b[3] then none else s.nv.safePending } }

/-- The axes that the schedules in force map, with their networks (R367). -/
def mappedNet (a : Nat) (s : Rc8) : Option (Fin 2) :=
  bothNets.find? fun n => ((s.sch[n]).inForce.map fun c => c.axes.any fun x => x.axis == a).getD false

/-- Axes of a set that have a function, in order. -/
def monitoredAxes (b : List Byte) : List Nat := (List.range 256).filter fun a => (safeAxis b a).monitored

/-- Monitored axes of a group. -/
def groupAxes (b : List Byte) (g : Nat) : List Nat := (monitoredAxes b).filter fun a => (safeAxis b a).group == g

/-- AP0 is split at boot and the active set does not allow single-channel use (R360). -/
def splitRefused (s : Rc8) : Bool :=
  s.itg.pairs[0].st == .split && !((activeSet s).map setSingle).getD false

end Sys2Proof.Machine
end

