-- ==== Sys2Proof/Machine/Program.lean ====
section
/-! DEFINITION. The program image and its checks, retained data, the start of the runtime, and the commands
that load and activate an image (08 R244 to R246, R252, R253, R264, R274, R275). -/

namespace Sys2Proof.Machine

open Sys2Proof

/-! ### The image (08 R244, R245) -/

/-- A task entry at an offset of an image. -/
def parseTask (b : List Byte) (o : Nat) : TaskEntry :=
  { core := u8At b o, images := u8At b (o + 1) % 8, period := u16At b (o + 2), phase := u16At b (o + 4), offset := u32At b (o + 8), entry := u32At b (o + 12) }

/-- An image field by field. -/
def parseImage (b : List Byte) : Image :=
  { level := u16At b 6, id := u64At b 8, codeSize := u32At b 16, dataSize := u32At b 20, retainedSize := u32At b 24, dirtyLimit := u32At b 28,
    taskCount := u8At b 32, overrunLimit := u8At b 33, overrunReaction := u8At b 34, authority := u8At b 35, autostart := bitAt (u8At b 36) 0,
    check := u32At b 44, tasks := (List.range 8).map fun t => parseTask b (80 + 16 * t),
    sections := (List.range 8).map fun i => (u32At b (208 + 8 * i), u32At b (212 + 8 * i)), bytes := b }

/-- Task t's entry. -/
def Image.task (x : Image) (t : Nat) : TaskEntry :=
  x.tasks.getD t { core := 0, images := 0, period := 0, phase := 0, offset := 0, entry := 0 }

/-- A task entry within its ranges; one of period 0 leaves its task unconfigured (R245). -/
def taskOk (x : Image) (t : Nat) : Bool :=
  let e := x.task t
  e.period == 0 || (decide (e.core ≤ 3 ∧ e.phase < e.period ∧ e.offset % 10 = 0 ∧ e.entry < x.codeSize) && (t != 0 || (e.period == 1 && e.core == 0)))

/-- A part of the installed firmware provides an interface at a level (18 R534). -/
def providesLevel (part iface level : Nat) (s : Rc8) : Bool :=
  let f := vget s.nv.parts (part - 1) { inForce := 0, slots := Vector.replicate 2 (FwPart.reset part) }
  (f.slots[f.inForce]).provides.any fun x => x.1 == iface && decide (x.2.1 ≤ level ∧ level ≤ x.2.2)

/-- A section lies behind the header of so many bytes and within the length; one of length 0 is absent (R244; 09 R278). -/
def sectionOk (header length : Nat) (e : Nat × Nat) : Bool := e.2 == 0 || decide (header ≤ e.1 ∧ e.1 + e.2 ≤ length)

/-- Every header field lies within its range, and the level is one the installed runtime provides (R244). -/
def imageFieldsOk (b : List Byte) (s : Rc8) : Bool :=
  let x := parseImage b
  u32At b 0 == 0x31475250 && u16At b 4 == 1 && providesLevel 5 6 x.level s &&
  decide (x.codeSize ≤ 67108864 ∧ x.dataSize ≤ 268435456 ∧ x.retainedSize ≤ 8388608 ∧ x.retainedSize % 64 = 0 ∧ x.dirtyLimit ≤ 524288 ∧
    1 ≤ x.taskCount ∧ x.taskCount ≤ 8 ∧ 1 ≤ x.overrunLimit ∧ x.overrunLimit ≤ 16 ∧ x.overrunReaction ≤ 1 ∧ x.authority ≤ 2 ∧
    u32At b 40 = b.length ∧ b.length ≤ 536870912) &&
  (x.task 0).period != 0 && ((List.range 8).all (taskOk x)) && (x.sections.take 7).all (sectionOk 512 b.length)

/-- The check value and the digest are correct (R244). -/
def imageIntact (b : List Byte) : Bool := crcWithout b 44 == u32At b 44 && sha256 (b.drop 512) == slice b 48 32

/-- The milestones an image's tasks give (03 R97). -/
def imageEntries (x : Image) : List Milestone :=
  (List.range 8).filterMap fun t =>
    let e := x.task t
    if e.period = 0 then none
    else some { kind := 8, source := 1, param := t, off := e.offset, div := e.period, phase := e.phase, enabled := true }

/-- Every core a task entry names is present under the split setting, and its domain is on (R246). -/
def coresPresent (x : Image) (s : Rc8) : Bool :=
  (List.range 8).all fun t =>
    let e := x.task t
    e.period == 0 ||
      ((e.core != 1 || s.itg.pairs[0].st == .split) && (e.core != 3 || s.itg.pairs[1].st == .split) &&
       (decide (e.core < 2) || s.pwr.domains.getLsbD 3))

/-! ### Retained data (08 R252, R253) -/

/-- CRC-32C of a record's header and granules (R252; the layout is the model's, log 51). -/
def recCrc (r : JournalRec) : Nat :=
  crc32c (le 1 r.task ++ le 8 r.seq ++ le 4 r.granules.length ++ r.granules.flatMap (fun g => le 4 g.1 ++ zeros 4 ++ padTo 64 g.2) ++
    (match r.switch with
     | some x => le 8 x.1 ++ le 1 x.2.val
     | none => []))

/-- The record of a cycle's retained changes, before its commit word is written. -/
def newRec (t : Fin 8) (seq : Nat) (g : List (Nat × List Byte)) : JournalRec :=
  let r : JournalRec := { task := t.val, seq := seq, granules := g, crc := 0, committed := false, switch := none }
  { r with crc := recCrc r }

/-- A committed switch record, which names an image and its retained area (09 R283). -/
def switchRec (image : Nat) (area : Fin 2) : JournalRec :=
  let r : JournalRec := { task := 0, seq := 0, granules := [], crc := 0, committed := true, switch := some (image, area) }
  { r with crc := recCrc r }

/-- A record with a valid commit word and CRC (R253). -/
def JournalRec.valid (r : JournalRec) : Bool := r.committed && r.crc == recCrc r

/-- A journal record's granules in a retained area. -/
def applyGranules (m : Mem) (r : JournalRec) : Mem := r.granules.foldl (fun m g => memWriteN m g.1 (padTo 64 g.2)) m

/-- The retained area in use. -/
def retainArea (s : Rc8) : Mem := s.nv.retain[s.nv.retainUse]

/-- The retained state that is committed: the area in use with the records not yet applied (R253). -/
def committedArea (s : Rc8) : Mem := (s.nv.journal.filter JournalRec.valid).foldl applyGranules (retainArea s)

/-- The area and the image that the last committed switch record names are those of a start (09 R283). -/
def takeSwitch (s : Rc8) : Rc8 :=
  match ((s.nv.journal.filter JournalRec.valid).filterMap (·.switch)).getLast? with
  | none => s
  | some x =>
    let s1 := { s with nv := { s.nv with retainUse := x.2 } }
    if (s.nv.active.map (·.id)) != some x.1 && (s.nv.loaded.map (·.id)) == some x.1 then
      { s1 with nv := { s1.nv with active := s.nv.loaded, loaded := s.nv.active, package := none } }
    else s1

/-- The replay of R253: committed records are applied in cycle-sequence order as the journal holds them, the
others are discarded, and the DRAM copy is loaded from the retained area. -/
def replayJournal (s0 : Rc8) : Rc8 :=
  let s := takeSwitch s0
  let area := committedArea s
  { s with nv := { s.nv with retain := s.nv.retain.set s.nv.retainUse area, journal := [] },
           run := { s.run with retained := area, commits := [] } }

/-- RETAIN_REPLAYED with the counts (R253, R277). -/
def retainReplayed (s : Rc8) : Rc8 :=
  raise { src := 18, reason := 0x04, sev := .notice, p0 := s.nv.journal.countP (fun r => r.valid && r.switch.isNone), p1 := s.nv.journal.countP (fun r => !r.valid), p2 := 0 }
    (replayJournal s)

/-! ### Stop images and the start of the runtime (08 R263, R265) -/

/-- The runtime changed. -/
def modRun (f : Runtime → Runtime) (s : Rc8) : Rc8 := { s with run := f s.run }

/-- One task changed. -/
def modTask (t : Fin 8) (f : Task → Task) (s : Rc8) : Rc8 := modRun (fun r => { r with tasks := vmod r.tasks t f }) s

/-- The motion-class output image is published: a new generation (R107, R249; 02 R51); the sets before it are kept with theirs (10
R320). -/
def publishMotion (img : List Byte) (s : Rc8) : Rc8 :=
  bar2Publish 2 s.rnd.round s.clk.ptu img
    (modRun (fun r => { r with motionOut := img, motionPrev := r.motionOut, setPast := ((r.setGen, r.motionOut) :: r.setPast).take 8,
                               motionAt := some s.clk.refosc, setGen := (r.setGen + 1) % 2 ^ 64 }) s)

/-- A task's station-class outputs are published (R249). -/
def publishStation (t : Fin 8) (img : List Byte) (s : Rc8) : Rc8 :=
  bar2Publish 4 s.rnd.round s.clk.ptu img (modTask t (fun x => { x with stationOut := img }) s)

/-- The stop images are published once (R263). -/
def publishStops (s : Rc8) : Rc8 :=
  match s.nv.active with
  | none => publishMotion [] s
  | some x =>
    let img := x.sect 5
    bar2Publish 4 s.rnd.round s.clk.ptu img
      (publishMotion (x.sect 4) (modRun (fun r => { r with tasks := vmap (fun t => { t with stationOut := img }) r.tasks }) s))

/-- The running code area holds the active image's code (09 R281). -/
def loadCode (s : Rc8) : Rc8 := modRun (fun r => { r with code := r.code.set r.codeUse ((s.nv.active.map fun x => x.sect 0).getD []) }) s

/-- The second code area holds new code, or is released (09 R281, R284). -/
def secondCode (b : List Byte) (s : Rc8) : Rc8 := modRun (fun r => { r with code := r.code.set (otherBank r.codeUse) b }) s

/-- The program data's initial values (R244). -/
def initialData (x : Option Image) : Mem := memWriteN [] 0 ((x.map fun x => x.sect 1).getD [])

/-- The tasks of the active image, with every counter at 0 (R245, R276). -/
def tasksOf (x : Option Image) : Vector Task 8 :=
  vgen 8 fun t =>
    match x with
    | none => Task.reset
    | some x => if (x.task t).period = 0 then Task.reset else { Task.reset with cfg := some (x.task t), st := .waiting }

/-- The runtime starts with the active image: the journal is replayed, the monotonic time begins at 0, the tasks are set
up, every instance of the program is initialised, the stop images are published, as the mode is STOP, and the rules of
the code come into force (R253, R255, R263; 12 R401). -/
def startRuntime (s : Rc8) : Rc8 :=
  let s1 := retainReplayed s
  codeRules (publishStops (loadCode
    (modRun (fun r => { r with started := true, mono := 0, tasks := tasksOf s1.nv.active, retainBad := false, timers := [], edges := [],
                               fresh := [], data := initialData s1.nv.active, channel := [], heldReleases := [] }) s1)))

/-- Why RUN is refused: the cause, and the failing plan condition where the cause is 2 (R264, R277; 11 R360,
R367). -/
def runRefusal (s : Rc8) : Option (Nat × Nat) :=
  match s.nv.active with
  | none => some (1, 0)
  | some x =>
    if (activeSet s).isNone then some (1, 0)
    else if splitRefused s then some (Config.splitRunCause, 0)
    else if s.itg.test then some (Config.testRunCause, 0)
    else match planCheck (planNow s) <|> (if s.run.planBad then planCheck (storedPlan s) else none) with
      | some f => some (2, f.1)
      | none => if s.run.retainBad then some (3, 0) else if coresPresent x s then none else some (4, 0)

/-- RUN_REFUSED (R277). -/
def runRefused (c : Nat × Nat) (s : Rc8) : Rc8 :=
  raise { src := 16, reason := 0x04, sev := .error, p0 := c.1, p1 := c.2, p2 := 0 } s

/-! ### PROGRAM_LOAD (08 R274) -/

/-- PROGRAM_LOAD, step 5. -/
def checkProgramLoad (e : Exec) (s : Rc8) : Option Status := checkBlock 512 536870912 s.run.load e.req

/-- What a loaded image does to a module: it takes the loaded slot; an empty one stands for the block at offset 0, which
discards the loaded image (R271, R274). -/
def effProgramLoad (image : List Byte) (s : Rc8) : Rc8 :=
  { s with nv := { s.nv with loaded := if image = [] then none else some (parseImage image) } }

/-- The partner does the same, where it can be reached; nothing waits for its answer. -/
def tellPartner (op : PairOp) (s : Rc8) : Rc8 := if s.pair.partner.present then plkSend 0x20 0 (.apply op 0) s else s

/-- PROGRAM_LOADED after the copy to the partner. -/
def ownProgramLoad (port : Nat) (image : List Byte) (s : Rc8) : Rc8 :=
  let x := parseImage image
  raise { src := 18, reason := 0x01, sev := .notice, p0 := lo32 x.id, p1 := x.id / 2 ^ 32, p2 := port } (effProgramLoad image s)

/-- The last block: the checks of R244 to R246 and the copy to the partner. -/
def finishProgram (e : Exec) (image : List Byte) (stored : Bool) (s : Rc8) : Rc8 :=
  let s1 := pendNow e s
  if !imageIntact image then endWith e.id .integrityFail s1
  else if !imageFieldsOk image s then endWith e.id .badField s1
  else if !stored then endWith e.id .integrityFail s1
  else pairStore e.id (.command 0x0103 image) 0 [] false (ownProgramLoad e.port.val image) s1

/-- A change package that is kept is discarded (09 R284). -/
def dropPackage (s : Rc8) : Rc8 :=
  if s.chg.st = .loaded then { s with chg := { s.chg with st := .idle }, nv := { s.nv with package := none } } else s

/-- A load that opens, or an abort, discards the package on both modules (09 R284, R295). -/
def discardPackage (s : Rc8) : Rc8 := if s.chg.st = .loaded then dropPackage (tellPartner (.command 0x0201 []) s) else s

/-- PROGRAM_LOAD's own row. -/
def programLoad (stored : Bool) (e : Exec) (s : Rc8) : Rc8 :=
  if s.chg.load.isSome ∨ changeArmed s ∨ s.run.activating.isSome ∨ BlockLoad.runs s.run.load s then endWith e.id .busy s
  else
    let l := blockTake s.run.load e
    let s1 := modRun (fun r => { r with load := some l })
      (if u32At e.req 8 = 0 then discardPackage (effProgramLoad [] (tellPartner (.command 0x0103 []) s)) else s)
    if blockLast e.req then finishProgram e l.data stored s1 else endExec e.id .done (blockResponse l) s1

/-! ### PROGRAM_ACTIVATE (08 R275) -/

/-- PROGRAM_ACTIVATE, step 5. -/
def checkActivate (e : Exec) (s : Rc8) : Option Status :=
  firstFail [(decide (u8At e.req 0 < 1 ∨ 2 < u8At e.req 0), .badField),
    (((s.nv.loaded.map fun x => x.check != u32At e.req 4).getD false), .badField)]

/-- PROGRAM_ACTIVATE, step 6. -/
def checkActivateState (_ : Exec) (s : Rc8) : Option Status :=
  if s.run.mode ≠ .stop ∨ isStandby s ∨ s.nv.loaded.isNone then some .wrongState else none

/-- Retained data of a start kind: initial values for COLD, carried over by instance identity for WARM; none
where a mapping table cannot be read (R275). The count is of retained instances carried. -/
def activateRetained (kind : Nat) (new : Image) (s : Rc8) : Option (Mem × Nat) :=
  let initial := memWriteN [] 0 (new.sect 2)
  if kind = 2 then some (initial, 0)
  else match s.nv.active with
    | none => some (initial, 0)
    | some old =>
      if (Config.places old).isNone || (Config.places new).isNone then none
      else some (convertedRetained old new { data := s.run.data, retained := committedArea s, bad := none },
        ((new.places.filter fun x => x.retained && (counterpart old.places x true).isSome).map (·.inst)).dedup.length)

/-- A command waits for the rules in force, where one is given (12 R409). -/
def awaitOpt (id : Option Nat) (s : Rc8) : Rc8 :=
  match id with
  | none => s
  | some i => awaitRules i s

/-- An image with a task on AP1 switches its domain on (01 R39). -/
def imageDomains (x : Image) (s : Rc8) : Rc8 :=
  if (List.range 8).any (fun t => (x.task t).period != 0 && decide (2 ≤ (x.task t).core)) then domainOn 3 s else s

/-- The loaded image becomes active, its retained data take the other area, the runtime starts, and the command waits for
the rules of the new code (R275; 12 R409). -/
def effActivate (kind : Nat) (s : Rc8) : Rc8 :=
  match s.nv.loaded with
  | none => s
  | some x =>
    let b := otherBank s.nv.retainUse
    let data := ((activateRetained kind x s).map (·.1)).getD []
    let s1 := { s with nv := { s.nv with active := some x, loaded := s.nv.active, retain := s.nv.retain.set b data, retainUse := b, journal := [] } }
    awaitOpt s.run.activating (tableChanged (startRuntime (modRun (fun r => { r with activating := none }) (imageDomains x s1))))

/-- PROGRAM_ACTIVATED after both modules have the image. -/
def ownActivate (kind : Nat) (s : Rc8) : Rc8 :=
  match s.nv.loaded with
  | none => s
  | some x =>
    raise { src := 18, reason := 0x02, sev := .notice, p0 := lo32 x.id, p1 := kind, p2 := ((activateRetained kind x s).map (·.2)).getD 0 } (effActivate kind s)

/-- The plan with an image's task releases fails the round-plan check. -/
def imagePlanFails (x : Image) (s : Rc8) : Bool :=
  (planCheck { planNow s with entries := imageEntries x ++ s.rnd.host }).isSome

/-- PROGRAM_ACTIVATE's own row. -/
def programActivate (stored : Bool) (e : Exec) (s : Rc8) : Rc8 :=
  if s.chg.load.isSome ∨ s.chg.st ≠ .idle then endWith e.id .busy s
  else match s.nv.loaded with
    | none => endWith e.id .wrongState s
    | some x =>
      let s1 := pendNow e s
      let kind := u8At e.req 0
      if imagePlanFails x s then endWith e.id .badField (runPlanCheck s1).1
      else if coresPresent x (imageDomains x s) = false then endWith e.id .badField (runRefused (4, 0) s1)
      else if (activateRetained kind x s).isNone ∨ !stored then endWith e.id .integrityFail s1
      else pairStore e.id (.command e.code e.req) 0 [] false (ownActivate kind) (modRun (fun r => { r with activating := some e.id }) s1)

/-- PROGRAM_LOAD (R271). -/
def specProgramLoad : CmdSpec := { cls := .engineer, len := blockLen, resp := blockResp, fields := checkProgramLoad, state := refuseStandby }
/-- PROGRAM_ACTIVATE (R271). -/
def specProgramActivate : CmdSpec := { cls := .engineer, len := lenIs 8, fields := checkActivate, state := checkActivateState }

/-- PROGRAM_LOAD (R274); `stored` is whether this module's flash read-back matches. -/
def execProgramLoad (p : Fin 4) (m : Fin 8) (stored : Bool) (s : State) : Answer := act (runCmd 0x0103 p m (programLoad stored)) s

/-- PROGRAM_ACTIVATE (R275); `stored` is whether MRAM verification succeeds. -/
def execProgramActivate (p : Fin 4) (m : Fin 8) (stored : Bool) (s : State) : Answer := act (runCmd 0x0104 p m (programActivate stored)) s

end Sys2Proof.Machine
end

