-- ==== Sys2Proof/Machine/Mode.lean ====
section
/-! DEFINITION. Operating modes: requests, the change at a boundary, and the commands (08 R261 to R269, R272,
R273). -/

namespace Sys2Proof.Machine

open Sys2Proof

/-- The mode a code names. -/
def Mode.ofCode : Nat → Mode
  | 0 => .stop | 1 => .run | _ => .layby

/-- Target and round of a mode change that waits. -/
def PendOp.modeTarget (x : PendOp) : Option Mode :=
  match x.op with
  | .mode t _ => some (Mode.ofCode t)
  | _ => none

/-- The mode that the changes already under way lead to (DEDUCED, log 29: events are judged against it). -/
def targetMode (s : Rc8) : Mode := (s.pair.pend.filterMap PendOp.modeTarget).getLast?.getD s.run.mode

/-- A mode change is fixed for the first boundary at least 250 µs after its cause, on both modules (R264,
R267). -/
def requestMode (target : Mode) (cause : Nat) (exec : Option Nat) (s : Rc8) : Rc8 :=
  pairTell exec (.mode target.code cause) (roundAfter 250000 s) [] true s

/-- STOP by an event of this module (R264): in STOP the cause is recorded; a standby's mode is the holder's
(R267). -/
def faultStop (cause : Nat) (s : Rc8) : Rc8 :=
  if isStandby s then s
  else if targetMode s = .stop then modRun (fun r => { r with lastCause := cause }) s
  else requestMode .stop cause none s

/-- A program fault (R264). -/
def programFault (s : Rc8) : Rc8 := faultStop 4 s

/-- A turn of the key on the holder or a module alone (*Table: Mode state machine*). -/
def keyMode (k : Key) (s : Rc8) : Rc8 :=
  if isStandby s then s
  else match k, targetMode s with
    | .stop, .run => requestMode .stop 1 none s
    | .stop, .layby => requestMode .stop 1 none s
    | .run, .stop => requestMode .run 1 none s
    | .run, .layby => requestMode .run 1 none s
    | _, _ => s

/-! ### The change (08 R261, R263, R264, R266) -/

/-- TASK_HALTED (R277). -/
def taskHalted (t : Fin 8) (why : Nat) (s : Rc8) : Rc8 :=
  raise { src := 17, reason := 0x03, sev := .info, p0 := t.val, p1 := why, p2 := lo32 s.rnd.round } s

/-- The eight tasks. -/
def allTasks : List (Fin 8) := [0, 1, 2, 3, 4, 5, 6, 7]

/-- The commit belongs to a cycle that has not ended: it waits for the commit before it (R252). -/
def ofEnding (tasks : Vector Task 8) (r : JournalRec) : Bool :=
  let t := vget tasks r.task Task.reset
  t.ending && t.seq == r.seq

/-- A task whose ending cycle is aborted: the last cycle is the one before it, whose commit it waited for (R276). -/
def endAborted (commits : List JournalRec) (t : Nat) (x : Task) : Task :=
  if x.ending then { x with lastCommit := ((commits.find? fun r => r.task == t && r.seq != x.seq).map fun r => 64 * r.granules.length).getD 0 } else x

/-- Every running cycle is aborted with its retained changes, and debug control ends (R261). -/
def abortCycles (s0 : Rc8) : Rc8 :=
  let s := modRun (fun r => { r with tasks := vgen 8 fun t => endAborted r.commits t (vget r.tasks t Task.reset) }) s0
  modRun (fun r => { r with
    commits := r.commits.filter fun x => !ofEnding r.tasks x
    heldReleases := []
    tasks := vmap (fun t => if t.st = .unused then t else { t with st := .waiting, overran := false, debug := false, wanted := 0, ending := false, parked := none, held := [] }) r.tasks }) s

/-- Tasks leave debug control: a halted one waits for its release, and a cycle that runs under debug control, or stands at
a breakpoint, runs on to its end, where it commits and does not publish (R266). -/
def freeTasks (s : Rc8) : Rc8 :=
  modRun (fun r => { r with tasks := vmap (fun t =>
    match t.st with
    | .halted => { t with st := .waiting, debug := false, wanted := 0 }
    | .breakpoint => { t with st := .running, wanted := 0 }
    | _ => { t with wanted := 0 }) r.tasks }) s

/-- MODE_CHANGED, with the new mode, cause and round in force (R273, R277). -/
def modeChanged (new : Mode) (cause round : Nat) (s : Rc8) : Rc8 :=
  raise { src := 16, reason := 0x01, sev := .notice, p0 := s.run.mode.code, p1 := new.code, p2 := cause }
    (modRun (fun r => { r with mode := new, lastCause := cause, modeRound := round }) s)

/-- Entering STOP (R261, R263). -/
def enterStop (cause round : Nat) (s : Rc8) : Rc8 :=
  modeChanged .stop cause round (publishStops (abortCycles (endTaskDebug s)))

/-- After a pair fault, before the next RUN: the code is loaded from the active image, retained data from MRAM, and every other data of
the program takes its initial value, as a WARM start of the same image has it (12 R398). -/
def reloadProgram (s : Rc8) : Rc8 :=
  if s.itg.reload then
    let s1 := replayJournal s
    modItg (fun x => { x with reload := false, poisoned := x.poisoned.filter fun y => decide (8 < y.1) }) (loadCode
      (modRun (fun r => { r with data := initialData s1.nv.active, timers := [], edges := [], fresh := [], channel := [],
                                 tasks := vmap (fun t => { t with results := [], st := if t.st = .unused then .unused else .waiting, ending := false }) r.tasks }) s1))
  else s

/-- The DRAM copy is loaded with the retained data that are committed (R253, R261). -/
def loadRetained (s : Rc8) : Rc8 := modRun (fun r => { r with retained := committedArea s }) s

/-- Entering RUN (R264): retained data are reloaded on the way from STOP. -/
def enterRun (cause round : Nat) (s : Rc8) : Rc8 :=
  modeChanged .run cause round (if s.run.mode = .stop then loadRetained (reloadProgram s) else freeTasks (endTaskDebug s))

/-- Every configured task stands still. -/
def allHalted (s : Rc8) : Bool := (vlist s.run.tasks).all fun t => t.st != .running

/-- A SET_MODE LAYBY ends once no task runs (R272). -/
def finishLayby (s : Rc8) : Rc8 :=
  if s.run.laybyExec.isSome ∧ s.run.mode = .layby ∧ allHalted s = true then
    endOpt s.run.laybyExec .done (modRun (fun r => { r with laybyExec := none }) s)
  else s

/-- Entering LAYBY (R264, R266): tasks between cycles halt at once, running ones at the end of their cycle. -/
def enterLayby (cause round : Nat) (exec : Option Nat) (s : Rc8) : Rc8 :=
  let s1 := modeChanged .layby cause round (modRun (fun r => { r with laybyExec := exec }) s)
  finishLayby (allTasks.foldl (fun s t =>
    if (s.run.tasks[t]).st = .waiting then taskHalted t 1 (modTask t (fun x => { x with st := .halted }) s) else s) s1)

/-- A mode change takes effect at its boundary (R264, R272): RUN may be refused, and then the command ends with
TOO_LATE. -/
def applyMode (target : Mode) (cause round : Nat) (exec : Option Nat) (s : Rc8) : Rc8 :=
  if target = s.run.mode then endOpt exec .done s
  else match target with
    | .stop => endOpt exec .done (endOpt s.run.laybyExec .done (modRun (fun r => { r with laybyExec := none }) (enterStop cause round s)))
    | .layby => if s.run.mode = .run then enterLayby cause round exec s else endOpt exec .wrongState s
    | .run =>
      match (if s.run.mode = .stop then runRefusal s else none) with
      | some c => endOpt exec .tooLate (runRefused c s)
      | none => endOpt exec .done (endOpt s.run.laybyExec .done (modRun (fun r => { r with laybyExec := none }) (enterRun cause round s)))

/-- The mode changes that are due by a round, in their order. -/
def applyModes (round : Nat) (s : Rc8) : Rc8 :=
  let due := s.pair.pend.filter fun x => x.modeTarget.isSome && decide (x.round ≤ round)
  let s1 := modPair (fun q => { q with pend := q.pend.filter fun x => !(x.modeTarget.isSome && decide (x.round ≤ round)) }) s
  due.foldl (fun s x =>
    match x.op with
    | .mode t c => applyMode (Mode.ofCode t) c x.round x.exec s
    | _ => s) s1

/-- MODE_CHANGE_EFFECT: the clock stands at the boundary of the first mode change that waits, which takes effect
there. -/
def modeChangeEffect (s : Rc8) : Rc8 :=
  match s.pair.pend.find? fun x => x.modeTarget.isSome with
  | none => s
  | some x => applyModes x.round (atPtu (x.round * s.rnd.period * fracPerNs) s)

/-! ### Commands (08 R272, R273) -/

/-- SET_MODE, step 5. -/
def checkSetMode (e : Exec) (_ : Rc8) : Option Status := if 2 < u8At e.req 0 then some .badField else none

/-- SET_MODE, step 6: the standby first, then the key, then LAYBY asked for in STOP. -/
def checkSetModeState (e : Exec) (s : Rc8) : Option Status :=
  firstFail [(isStandby s, .wrongState), (s.run.key != .remote, .wrongKeyPosition), (u8At e.req 0 == 2 && targetMode s == .stop, .wrongState)]

/-- SET_MODE's own row: a mode in force already is DONE at once. -/
def setMode (e : Exec) (s : Rc8) : Rc8 :=
  let t := Mode.ofCode (u8At e.req 0)
  if t = targetMode s then (if t = s.run.mode then endWith e.id .done s else requestMode t 2 (some e.id) (waitExec e.id s))
  else requestMode t 2 (some e.id) (waitExec e.id s)

/-- GET_MODE (R273). -/
def getModeResponse (_ : Exec) (s : Rc8) : List Byte :=
  let suspended := fun (k : Fin 3) => (s.itg.pairs[k]).st == .suspended
  let img := fun (x : Option Image) => (x.map (·.id)).getD 0
  le 1 s.run.mode.code ++ le 1 s.run.key.code ++ le 1 (if s.pair.partner.present then s.pair.partner.key else 0xFF) ++ le 1 s.run.lastCause ++
  le 1 (flagBit (suspended 0) 0 + flagBit (suspended 1) 1) ++
  le 1 (if s.nv.active.isNone then 0 else if s.nv.loaded.isNone then 1 else 2) ++ zeros 2 ++ le 8 (img s.nv.active) ++ le 8 (img s.nv.loaded) ++
  le 8 s.run.modeRound

/-- One 32-byte task entry; the core is the byte of the image's entry, whether or not it configures the task (R276). -/
def taskStatusEntry (core : Nat) (t : Task) : List Byte :=
  let st := match t.st with
    | .unused => 0 | .waiting => 1 | .running => 2 | .halted => 3 | .breakpoint => 4
  le 1 st ++ le 1 core ++ le 1 t.consec ++ zeros 1 ++ le 4 t.cycles ++ le 4 t.overruns ++ le 4 t.lastExec ++
  le 4 t.longExec ++ le 4 t.lastCommit ++ le 8 t.lastRound

/-- TASK_STATUS (R276). -/
def taskStatusResponse (_ : Exec) (s : Rc8) : List Byte :=
  le 8 s.rnd.round ++ zeros 8 ++ ((List.range 8).zip (vlist s.run.tasks)).flatMap fun x => taskStatusEntry ((s.nv.active.map fun i => (i.task x.1).core).getD 0) x.2

/-- SET_MODE (R271). -/
def specSetMode : CmdSpec := { cls := .operate, urgent := true, len := lenIs 4, fields := checkSetMode, state := checkSetModeState }
/-- GET_MODE (R271). -/
def specGetMode : CmdSpec := { cls := .observe, urgent := true, len := lenIs 0, resp := fun _ => 32 }
/-- TASK_STATUS (R271). -/
def specTaskStatus : CmdSpec := { cls := .observe, len := lenIs 0, resp := fun _ => 272 }

/-! ### Key mismatch (08 R269) -/

/-- KEY_MISMATCH: the keys have differed for 5 s on a holder with its partner present. -/
def keyMismatch (s : Rc8) : Rc8 :=
  match s.run.keysDiffer with
  | none => s
  | some t =>
    if holdsToken s ∧ s.run.keyWarned = false then
      raise { src := 16, reason := 0x03, sev := .warning, p0 := s.run.key.code, p1 := s.pair.partner.key, p2 := 0 }
        (modRun (fun r => { r with keyWarned := true }) (atRefosc (t + 5000000000) s))
    else s

/-- The two keys are compared anew (R269): each further change while they differ warns again. -/
def compareKeys (s : Rc8) : Rc8 :=
  let now := (s.run.key.code, s.pair.partner.key)
  let t := modRun (fun r => { r with keysSeen := now }) s
  if s.pair.partner.present ∧ s.run.key.code ≠ s.pair.partner.key then
    match s.run.keysDiffer with
    | none => modRun (fun r => { r with keysDiffer := some s.clk.refosc, keyWarned := false }) t
    | some _ =>
      if s.run.keyWarned ∧ holdsToken s = true ∧ s.run.keysSeen ≠ now then
        raise { src := 16, reason := 0x03, sev := .warning, p0 := s.run.key.code, p1 := s.pair.partner.key, p2 := 0 } t
      else t
  else modRun (fun r => { r with keysDiffer := none, keyWarned := false }) t

/-! ### Meanings -/

/-- SET_MODE (R272). -/
def execSetMode (p : Fin 4) (m : Fin 8) (s : State) : Answer := act (runCmd 0x0101 p m setMode) s

/-- GET_MODE (R273). -/
def execGetMode (p : Fin 4) (m : Fin 8) (s : State) : Answer := act (answer 0x0102 p m getModeResponse) s

/-- TASK_STATUS (R276). -/
def execTaskStatus (p : Fin 4) (m : Fin 8) (s : State) : Answer := act (answer 0x0105 p m taskStatusResponse) s

/-- MODE_CHANGE_EFFECT (R264). -/
def execModeChangeEffect (s : State) : Answer := act modeChangeEffect s

/-- KEY_MISMATCH (R269). -/
def execKeyMismatch (s : State) : Answer := act keyMismatch s

end Sys2Proof.Machine
end

