-- ==== Sys2Proof/Machine/Net.lean ====
section
/-! DEFINITION. Budan networks: ports, reflection, guardian, hold sequences, the network state machine and
the network commands (04). -/

namespace Sys2Proof.Machine

open Sys2Proof

/-! ### State machine (04 R140 to R144) -/

/-- Network state codes (04 R146). -/
def NetState.code : NetState → Nat
  | .notConfigured => 0 | .bypassed => 1 | .listen => 2 | .syncing => 3 | .joined => 4 | .master => 5

/-- Events of the network state machine in row order (04 R140, R152). -/
inductive NetEv where
  | linksReady | fullRound | silence | converged | leaseGained | leaseLost | lost | release
deriving DecidableEq, Repr

/-- Row number of an event. -/
def NetEv.code : NetEv → Nat
  | .linksReady => 1 | .fullRound => 2 | .silence => 3 | .converged => 4 | .leaseGained => 5
  | .leaseLost => 6 | .lost => 7 | .release => 8

/-- The network has an MGMT_OPEN milestone in this state (03 R574). -/
def NetState.managed (x : NetState) : Bool := x != .notConfigured && x != .bypassed

/-- A network enters a state; a change raises NET_STATE_CHANGED (R140). Its MGMT_OPEN milestone comes or goes with BYPASSED (03
R114, R574), and in MASTER the down conditions are counted anew. -/
def netGoto (n : Fin 2) (dest : NetState) (ev : NetEv) (s : Rc8) : Rc8 :=
  let old := (s.net[n]).state
  if old = dest then s
  else
    let s1 := modNet n (fun k => { k with state := dest, down := if dest = .master then Vector.replicate 3 0 else k.down,
                                          downEpisode := dest != .master && k.downEpisode }) s
    raise { src := 33 + 8 * n.val, reason := 0x01, sev := .notice, p0 := old.code, p1 := dest.code, p2 := ev.code }
      (if old.managed = dest.managed then s1 else tableChanged s1)

/-- The network starts listening: the listen timer runs anew (R140). -/
def startListen (n : Fin 2) (s : Rc8) : Rc8 :=
  modNet n (fun k => { k with listenFrom := some s.clk.refosc, heard := false, conv := 0, lossRounds := 0 }) s

/-- Another configured network is live (R142). -/
def otherLive (n : Fin 2) (s : Rc8) : Bool :=
  (nets s).any fun k => k != n && ((s.net[k]).state == .syncing || (s.net[k]).state == .joined || (s.net[k]).state == .master)

/-- One event at a network (*Table: Network state machine*). Silence, convergence and loss are judged by
their rows before this acts; what silence leads to is `silenceMet`. -/
def netEvent (n : Fin 2) (ev : NetEv) (s : Rc8) : Rc8 :=
  let st := (s.net[n]).state
  match ev, st with
  | .linksReady, .bypassed => startListen n (netGoto n .listen ev s)
  | .fullRound, .listen => netGoto n .syncing ev (modNet n (fun k => { k with conv := 0, lossRounds := 0, listenFrom := none }) s)
  | .fullRound, .syncing => modNet n (fun k => { k with lossRounds := 0 }) s
  | .fullRound, .joined => modNet n (fun k => { k with lossRounds := 0 }) s
  | .fullRound, .master => modNet n (fun k => { k with lossRounds := 0 }) s
  | .silence, .listen => modNet n (fun k => { k with metSilence := true }) s
  | .converged, .syncing =>
    if leaseValid s then netGoto n .master ev (modNet n (fun k => { k with launchFrom := s.rnd.round + 1 }) s)
    else netGoto n .joined ev s
  | .leaseGained, .joined => netGoto n .master ev (modNet n (fun k => { k with launchFrom := s.rnd.round + 1 }) s)
  | .leaseLost, .master => netGoto n .joined ev (modNet n (fun k => { k with lossRounds := 0 }) s)
  | .lost, .syncing => startListen n (netGoto n .listen ev s)
  | .lost, .joined => startListen n (netGoto n .listen ev s)
  | .release, .listen => netGoto n .bypassed ev s
  | .release, .syncing => netGoto n .bypassed ev s
  | .release, .joined => netGoto n .bypassed ev s
  | _, _ => s

/-- The lease is gained or lost on every configured network (R140). -/
def netLease (gained : Bool) (s : Rc8) : Rc8 :=
  bothNets.foldl (fun s n => netEvent n (if gained then .leaseGained else .leaseLost) s)
    { s with net := vmap (fun k => { k with guard := { k.guard with lease := gained } }) s.net }

/-! ### Ports, reflection and line mode (04 R121, R126) -/

/-- The other port of the same channel. -/
def otherPort (port : Fin 4) : Fin 4 :=
  match port with
  | 0 => 1 | 1 => 0 | 2 => 3 | 3 => 2

/-- The channel of a port. -/
def chanOf (port : Fin 4) : Fin 2 := if port.val < 2 then 0 else 1

/-- One port of a network changed. -/
def modNetPort (n : Fin 2) (port : Fin 4) (f : NetPort → NetPort) (s : Rc8) : Rc8 :=
  modNet n (fun k => { k with ports := vmod k.ports port f }) s

/-- A channel is configured (04 R149). -/
def chanUsed (k : Net) (c : Fin 2) : Bool := bitAt k.media.chans c.val

/-- Ports of a channel that the topology uses (R140, R149). -/
def usedPorts (k : Net) (c : Fin 2) : List (Fin 4) :=
  let pair : List (Fin 4) := if c = 0 then [0, 1] else [2, 3]
  match k.media.topo with
  | .line => pair.filter fun p => if p.val % 2 = 0 then k.media.arm1 else k.media.arm2
  | _ => pair

/-- Every port a channel uses has its link up. -/
def chanUp (k : Net) (c : Fin 2) : Bool := chanUsed k c && (usedPorts k c).all fun p => (k.ports[p]).link

/-- LINKS_READY: on at least one configured channel every port the topology uses is up (R140). -/
def linksReady (k : Net) : Bool := chanUp k 0 || chanUp k 1

/-- Mask of the ports with link. -/
def linkMask (k : Net) : Nat :=
  flagBit (k.ports[0]).link 0 + flagBit (k.ports[1]).link 1 + flagBit (k.ports[2]).link 2 + flagBit (k.ports[3]).link 3

/-- A channel enters or leaves running as a line; a change raises LINE_MODE (R126). On a network whose topology is a line the mask
stays 0: LINE_MODE is there for a ring that has become one (R146; DESIGN CHOICE, log 108). -/
def setLineMode (n : Fin 2) (c : Fin 2) (on : Bool) (port : Nat) (s : Rc8) : Rc8 :=
  let was := bitAt (s.net[n]).lineMode c.val
  if was = on ∨ (s.net[n]).media.topo ≠ .ring then s
  else raise { src := 32 + 8 * n.val, reason := 0x03, sev := .warning, p0 := c.val, p1 := b2n on, p2 := port }
    (modNet n (fun k => { k with lineMode := if on then k.lineMode + 2 ^ c.val else k.lineMode - 2 ^ c.val }) s)

/-- A node of this topology passes frames on from port to port: in a star every frame ends at the module (R124, R129). -/
def passesOn (k : Net) : Bool := k.media.topo != .star

/-- A port turns back what reaches it from now on (R126). -/
def NetPort.reflect (x : NetPort) (on : Bool) : NetPort := { x with reflecting := on, reflectEnds := false, reflected := x.reflected || on }

/-- The module's own link on a side, as the ports that have it up show it: with none it leaves the ring map, with its neighbour's
report of it; with one whose delay is measured its L is that (R575; DESIGN CHOICE, log 13: a link that one channel still carries
stays in the map). -/
def ownSide (n : Fin 2) (side : Nat) (s : Rc8) : Rc8 :=
  modNet n (fun k =>
    let up := (vlist k.ports).zip (List.range 4) |>.filter fun x => x.2 % 2 == side && x.1.link
    match k.ringMap.find? fun x => x.node == selfNode s && x.side == side with
    | none => k
    | some x =>
      match (up.filterMap (·.1.delay)).max? with
      | some d => { k with ringMap := k.ringMap.map fun y => if y == x then { y with delay := d } else y }
      | none => { k with ringMap := k.ringMap.filter fun y => y != x && !(y.node == x.nbr && y.nbr == x.node) }) s

/-- PORT_LINK_UP (R126, R140, R152): the other port's reflection ends at the next boundary, or, where the other port has no link,
this one reflects. The link's delay is measured anew, and where no other channel has measured it its place in the ring map is open
until then (R136, R575). -/
def portUp (n : Fin 2) (port : Fin 4) (s : Rc8) : Rc8 :=
  let o := otherPort port
  let other := ((s.net[n]).ports[o]).link
  let alone := passesOn s.net[n] && !other
  let s0 := modNetPort n port (fun x => { x.reflect alone with link := true, ups := inc16 x.ups, delay := none, exchanges := 0 }) s
  let s1 := ownSide n (port.val % 2) (modNetPort n o (fun x => { x with reflectEnds := x.reflecting }) s0)
  let s2 := raise { src := 32 + 8 * n.val, reason := 0x01, sev := .notice, p0 := port.val, p1 := 0, p2 := ((s1.net[n]).ports[port]).ups } s1
  let s3 := if alone then setLineMode n (chanOf port) true port.val s2 else s2
  if linksReady s3.net[n] then netEvent n .linksReady s3 else s3

/-- PORT_LINK_DOWN (R126, R152): frames that reach the other port are turned back onto it, and the link leaves the ring map where no
channel carries it any more (R575). -/
def portDown (n : Fin 2) (port : Fin 4) (s : Rc8) : Rc8 :=
  let o := otherPort port
  let other := ((s.net[n]).ports[o]).link
  let s1 := modNetPort n o (fun x => x.reflect (passesOn s.net[n] && other))
    (modNetPort n port (fun x => { x with link := false, reflecting := false, reflectEnds := false }) s)
  let s2 := raise { src := 32 + 8 * n.val, reason := 0x02, sev := .warning, p0 := port.val, p1 := (s.net[n]).state.code, p2 := ((s.net[n]).ports[port]).ups }
    (ownSide n (port.val % 2) s1)
  setLineMode n (chanOf port) true (if other then o.val else 0xFF) s2

/-- Reflections end at a round boundary where the missing link has come up; each port that has reflected in the round counts
it (R126, R147). -/
def reflectBoundary (n : Fin 2) (s : Rc8) : Rc8 :=
  let ended := (s.net[n]).ports
  let s1 := modNet n (fun k => { k with ports := vmap (fun x =>
      let on := x.reflecting && !x.reflectEnds
      { x with reflecting := on, reflectEnds := false, reflected := on, reflections := if x.reflected then inc32 x.reflections else x.reflections }) k.ports }) s
  let s2 := if (ended[0]).reflectEnds || (ended[1]).reflectEnds then setLineMode n 0 false 0xFF s1 else s1
  if (ended[2]).reflectEnds || (ended[3]).reflectEnds then setLineMode n 1 false 0xFF s2 else s2

/-! ### Holds (04 R137, R138) -/

/-- A channel's hold switched; BYPASS_CHANGED is raised where the set changes (R152). Cause 1 attach, 2
release, 3 failure. In TEST no hold is set again (12 R391). -/
def setHold (n : Fin 2) (c : Fin 2) (on : Bool) (cause by_ : Nat) (s : Rc8) : Rc8 :=
  let was := bitAt (s.net[n]).holds c.val
  if was = on || (on && s.itg.test) then s
  else
    let mask := if on then (s.net[n]).holds + 2 ^ c.val else (s.net[n]).holds - 2 ^ c.val
    raise { src := 32 + 8 * n.val, reason := 0x05, sev := .notice, p0 := mask, p1 := cause, p2 := by_ }
      (modNet n (fun k => { k with holds := mask, aFull := if c = 0 then false else k.aFull }) s)

/-- The ports of a channel that are up, in the port mask (R121, R152). -/
def chanPortsUp (k : Net) (c : Fin 2) : Nat := let m := linkMask k; if c = 0 then m % 4 else m - m % 4

/-- Channels with a port that has its link up, mask (R152). -/
def chanLinks (k : Net) : Nat := flagBit (chanPortsUp k 0 != 0) 0 + flagBit (chanPortsUp k 1 != 0) 1

/-- BYPASS_LINK_FAIL: the channel's hold is released (R138). -/
def holdFail (n : Fin 2) (c : Fin 2) (by_ : Nat) (s : Rc8) : Rc8 :=
  setHold n c false 3 by_
    (raise { src := 32 + 8 * n.val, reason := 0x04, sev := .error, p0 := c.val, p1 := chanPortsUp s.net[n] c, p2 := 0 } s)

/-- The hold sequence's next wait. -/
def setSeq (n : Fin 2) (q : Option HoldSeq) (s : Rc8) : Rc8 := modNet n (fun k => { k with seq := q }) s

/-- The attach sequence starts: channel A's hold, or B's alone (R138). Links that are up already, as in a star, make LINKS_READY
(R140; DESIGN CHOICE, log 13). -/
def startAttach (n : Fin 2) (exec : Option Nat) (by_ : Nat) (s : Rc8) : Rc8 :=
  let k := s.net[n]
  let q : HoldSeq := { step := .waitA, start := s.clk.refosc, since := s.clk.refosc, exec := exec, by_ := by_ }
  let s1 := if chanUsed k 0 then setSeq n (some q) (setHold n 0 true 1 by_ s)
    else setSeq n (some { q with step := .waitB }) (setHold n 1 true 1 by_ s)
  if linksReady k then netEvent n .linksReady s1 else s1

/-- A named network is attached: it has left BYPASSED, or its sequence has ended with no hold (R151). -/
def attachSettled (k : Net) : Bool := k.state != .bypassed || (k.seq.isNone && k.holds == 0)

/-- Every command of a code that waits ends with DONE once all the networks it named hold a condition. -/
def finishNets (code : Nat) (settled : Net → Bool) (s : Rc8) : Rc8 :=
  let l := s.execs.filter fun e => e.code == code && e.phase == .waiting &&
    (bothNets.filter fun n => bitAt (u8At e.req 0) n.val).all fun n => settled s.net[n]
  l.foldl (fun s e => endWith e.id .done s) s

/-- NET_ATTACH ends once every network it named is settled (R151). -/
def finishAttach (s : Rc8) : Rc8 := finishNets 0x0406 attachSettled s

/-- NET_RELEASE ends once the last hold named is released (R150). -/
def finishRelease (s : Rc8) : Rc8 := finishNets 0x0405 (fun k => k.holds == 0 && k.seq.isNone) s

/-- BYPASS_HOLD_TIMER: a wait of the hold sequence ends, with success where its condition holds, else at its
limit (R138). -/
def holdTimer (n : Fin 2) (s : Rc8) : Rc8 :=
  match (s.net[n]).seq with
  | none => s
  | some q =>
    let k := s.net[n]
    match q.step with
    | .waitA =>
      let ok := chanUp k 0 && k.aFull
      let s1 := if ok then s else holdFail n 0 q.by_ (atRefosc (q.since + 5000000000) s)
      finishAttach (if chanUsed k 1 then setSeq n (some { q with step := .waitStartB, since := s1.clk.refosc }) s1 else setSeq n none s1)
    | .waitStartB =>
      let s1 := setHold n 1 true 1 q.by_ (atRefosc (q.start + 5000000000) s)
      setSeq n (some { q with step := .waitB, since := s1.clk.refosc }) s1
    | .waitB =>
      let s1 := if chanUp k 1 then s else holdFail n 1 q.by_ (atRefosc (q.since + 5000000000) s)
      finishAttach (setSeq n none s1)
    | .waitRelease =>
      finishRelease (setSeq n none (setHold n 1 false 2 q.by_ (atRefosc (q.since + 5000000000) s)))

/-- The release sequence on one network: A first and B 5 s later where both are active, else the active one
at once; the immediate form releases both (R138, R150). -/
def startRelease (n : Fin 2) (atOnce : Bool) (exec : Option Nat) (by_ : Nat) (s : Rc8) : Rc8 :=
  let s0 := netEvent n .release s
  if atOnce ∨ (s.net[n]).holds ≠ 3 then
    setSeq n none (setHold n 1 false 2 by_ (setHold n 0 false 2 by_ s0))
  else
    setSeq n (some { step := .waitRelease, start := s.clk.refosc, since := s.clk.refosc, exec := exec, by_ := by_ })
      (setHold n 0 false 2 by_ s0)

/-! ### Silence (04 R123, R140, R142) -/

/-- A network takes its stored media at a cold start of the pair: one left without a channel is no longer configured, and one that
has become configured begins in BYPASSED with its attach sequence (R123, R140, R149). No row of the state machine leads into these
two states here: NET_STATE_CHANGED names event 3, the silence that has made the cold start (R152; DESIGN CHOICE, log 109). -/
def takeMedia (s : Rc8) (n : Fin 2) : Rc8 :=
  let m := s.nv.media[n]
  let was := (s.net[n]).state
  let s1 := modNet n (fun k => { k with media := m }) s
  if m.chans = 0 then
    setSeq n none (setHold n 1 false 2 0xFF (setHold n 0 false 2 0xFF (netGoto n .notConfigured .silence s1)))
  else if was = .notConfigured then startAttach n none 0xFF (netGoto n .bypassed .silence s1)
  else s1

/-- The stored schedule of a network that has none in force (R93). -/
def takeStoredSched (s : Rc8) (n : Fin 2) : Rc8 :=
  if (s.sch[n]).inForce.isNone ∧ configured n s = true ∧ s.nv.schedActive[n] ≠ 0 then putSchedule n s.nv.schedActive[n] s else s

/-- The round period comes into force: where it is another, the round numbers and the milestone table follow it (03 R91, R93,
R114). -/
def takePeriod (period : Nat) (s : Rc8) : Rc8 :=
  if period = s.rnd.period then s
  else tableChanged { s with rnd := { s.rnd with period := period, round := roundOf period s.clk.ptu, fired := [] } }

/-- Stored round period, media and schedules taken into force at a cold start of the pair (03 R93, 04
R123). -/
def takeStoredConfig (s : Rc8) : Rc8 :=
  bothNets.foldl takeStoredSched (bothNets.foldl takeMedia (takePeriod s.nv.storedPeriod s))

/-- The plan that a cold start puts in force is checked, with the break margins (03 R105; R128). -/
def checkColdPlan (s : Rc8) : Rc8 :=
  let r := runPlanCheck s
  match r.2 with
  | none => { r.1 with run := { r.1.run with planBad := false } }
  | some f => if r.1.run.planBad then r.1 else configRefused f { r.1 with run := { r.1.run with planBad := true } }

/-- A silent network with a valid lease launches: cold start of the pair, or restart of the network
(R142). -/
def coldStart (n : Fin 2) (s : Rc8) : Rc8 :=
  let restart := otherLive n s
  let s1 := if restart then s else takeStoredConfig s
  if !configured n s1 then checkColdPlan s1
  else
    let first := s1.rnd.round + 1
    let s2 := raise { src := 33 + 8 * n.val, reason := 0x02, sev := .notice, p0 := lo32 first, p1 := s1.rnd.period, p2 := if restart then 2 else 1 }
      (modNet n (fun k => { k with launchFrom := first, listenFrom := none }) s1)
    let s3 := netGoto n .master .silence s2
    if restart then s3 else checkColdPlan s3

/-- Silence is met in LISTEN: with a valid lease the network is launched, else the listen timer starts again (R140). -/
def silenceMet (n : Fin 2) (s : Rc8) : Rc8 :=
  let s1 := netEvent n .silence s
  if leaseValid s1 then coldStart n s1 else startListen n s1

/-! ### Network commands (04 R145 to R151) -/

/-- Join state of a module as its network state shows it (R148). -/
def moduleJoin (x : NetState) : Nat :=
  match x with
  | .joined => 3 | .master => 3 | .syncing => 2 | _ => 1

/-- Joined nodes, a present partner and the module itself included; a network that is not configured has none (R146; DESIGN CHOICE,
log 13). -/
def joinedNodes (n : Fin 2) (s : Rc8) : Nat :=
  if configured n s then (s.net[n]).nodes.countP (fun x => x.join == 3 && decide (x.idx < 62)) + b2n s.pair.partner.present + 1 else 0

/-- One 32-byte block of NET_STATUS (R146). -/
def netStatusBlock (n : Fin 2) (s : Rc8) : List Byte :=
  let k := s.net[n]
  let partnerM : Int := match k.margins with
    | some (p, _, _) => if s.pair.partner.present then p else 0x7FFFFFFF
    | none => 0x7FFFFFFF
  let worstM : Int := match k.margins with
    | some (_, w, _) => w
    | none => 0x7FFFFFFF
  le 1 k.state.code ++ le 1 k.media.topo.code ++ le 1 (linkMask k) ++ le 1 k.holds ++ le 1 k.lineMode ++
  le 1 (joinedNodes n s) ++ le 2 (schedId n s) ++
  leS 4 (if k.state = .master then 0 else k.timeErr) ++ leS 4 partnerM ++ leS 4 worstM ++
  le 4 k.guard.cuts ++ le 4 k.guard.faults ++ zeros 4

/-- One 32-byte port block (R147). -/
def portBlock (x : NetPort) : List Byte :=
  le 1 (b2n x.link) ++ zeros 1 ++ le 2 x.ups ++ le 4 (x.delay.getD 0) ++ le 4 x.frames ++ le 4 x.fcs ++ le 4 x.foreign ++
  le 4 x.blocks ++ le 4 x.cuts ++ le 4 x.reflections

/-- The network a one-byte request field names; the checks have bounded it. -/
def netAt (e : Exec) (i : Nat) : Fin 2 := if u8At e.req i = 0 then 0 else 1

/-- Kind of a node in NET_NODE_LIST: 0 module, 1 drive, 2 station (R148). -/
def nodeKind (n : Fin 2) (i : Nat) (s : Rc8) : Nat :=
  if 62 ≤ i then 0
  else if ((s.sch[n]).inForce.map fun c => c.windows.any fun w => w.node == i && w.station).getD false then 2 else 1

/-- The node indices that NET_NODE_LIST counts and lists beside the modules: those of the schedule in force, and any that has
replied (R148). -/
def listedNodes (n : Fin 2) (s : Rc8) : List Nat :=
  let sched := ((s.sch[n]).inForce.map Schedule.nodeList).getD []
  (List.range 62).filter fun i => sched.contains i || (s.net[n]).nodes.any fun x => x.idx == i

/-- One 16-byte node entry (R148). A node of the schedule that has never replied reads as absent. The partner's entry shows the join
state and time error it has replied last, else joined with no time error, and the address its frames have shown (DESIGN CHOICE, log 13).
The s32 time error is cut to its lower 16 bits (DESIGN CHOICE, log 110: R148 says neither that it saturates nor that it wraps). -/
def nodeEntry (n : Fin 2) (s : Rc8) (i : Nat) : List Byte :=
  if i = selfNode s then
    le 1 i ++ le 1 (moduleJoin (s.net[n]).state) ++ le 1 0 ++ le 1 0 ++ le 2 560 ++ leS 2 (s.net[n]).timeErr ++ be 6 (s.net[n]).mac ++ zeros 2
  else if i = partnerNode s then
    let x := (s.net[n]).nodes.find? fun x => x.idx == i
    (if s.pair.partner.present then
      le 1 i ++ le 1 ((x.map (·.join)).getD 3) ++ zeros 2 ++ le 2 560 ++ leS 2 ((x.map (·.timeErr)).getD 0) ++ be 6 (s.net[n]).partnerMac ++ zeros 2
     else zeros 16)
  else match (s.net[n]).nodes.find? fun x => x.idx == i with
    | none => if (listedNodes n s).contains i then le 1 i ++ zeros 2 ++ le 1 (nodeKind n i s) ++ zeros 12 else zeros 16
    | some x => le 1 i ++ le 1 x.join ++ le 1 x.chans ++ le 1 (nodeKind n i s) ++ le 2 x.latency ++ leS 2 x.timeErr ++ be 6 x.mac ++ zeros 2

/-- NET_NODE_LIST (R148). -/
def nodeListResponse (e : Exec) (s : Rc8) : List Byte :=
  let n := netAt e 0
  le 2 ((listedNodes n s).length + 1 + b2n s.pair.partner.present) ++ zeros 14 ++ (List.range 64).flatMap (nodeEntry n s)

/-- A network field above 1, or a network that is not configured. -/
def checkNetField (e : Exec) (_ : Rc8) : Option Status := if 1 < u8At e.req 0 then some .badField else none
/-- The network named is not configured. -/
def checkNetState (e : Exec) (s : Rc8) : Option Status := if configured (netAt e 0) s then none else some .wrongState

/-- NET_SET_MEDIA request, field by field (R149). -/
def mediaOf (r : List Byte) : Media :=
  let f := u8At r 3
  { topo := Topo.ofCode (u8At r 1), chans := u8At r 2 % 4, enforce := bitAt f 0, arm1 := bitAt f 1, arm2 := bitAt f 2, etherType := u16At r 4 }

/-- NET_SET_MEDIA, step 5 (R149). -/
def checkSetMedia (e : Exec) (_ : Rc8) : Option Status :=
  let t := u8At e.req 1
  let f := u8At e.req 3
  let arms := bitAt f 1 || bitAt f 2
  firstFail [(decide (1 < u8At e.req 0 ∨ 2 < t ∨ u16At e.req 4 < 0x0600 ∨ 8 ≤ f ∨ 4 ≤ u8At e.req 2), .badField),
    (!allZero e.req 6 2, .badField), (t == 2 && !arms, .badField), (t != 2 && arms, .badField)]

/-- What NET_SET_MEDIA does on a module: the setting is stored (R149), and the domain of a network it configures is on (01
R38, R39). -/
def effSetMedia (r : List Byte) (s : Rc8) : Rc8 :=
  let s := if (mediaOf r).chans = 0 then s else domainOn (if u8At r 0 = 0 then 7 else 8) s
  { s with nv := { s.nv with media := vput s.nv.media (u8At r 0) fun _ => mediaOf r } }

/-- A network mask at +0: not 0, and no reserved bit set. -/
def checkNetMask (e : Exec) (_ : Rc8) : Option Status :=
  let f := u8At e.req 1
  if u8At e.req 0 = 0 ∨ 3 < u8At e.req 0 ∨ 1 < f ∨ allZero e.req 2 2 = false then some .badField else none

/-- The networks a mask at +0 names. -/
def maskNets (e : Exec) : List (Fin 2) := bothNets.filter fun n => bitAt (u8At e.req 0) n.val

/-- NET_RELEASE, step 6 (R150). -/
def checkRelease (e : Exec) (s : Rc8) : Option Status :=
  if holdsToken s ∨ (maskNets e).any (fun n => !configured n s || (s.net[n]).state == .bypassed) = true then some .wrongState else none

/-- NET_ATTACH, step 6 (R151). -/
def checkAttach (e : Exec) (s : Rc8) : Option Status :=
  if (maskNets e).any (fun n => (s.net[n]).state != .bypassed) then some .wrongState else none

/-- NET_ATTACH, step 5 (R151). -/
def checkAttachFields (e : Exec) (_ : Rc8) : Option Status :=
  if u8At e.req 0 = 0 ∨ 3 < u8At e.req 0 ∨ allZero e.req 1 3 = false then some .badField else none

/-- NET_STATUS (R145). -/
def specNetStatus : CmdSpec := { cls := .observe, urgent := true, len := lenIs 0, resp := fun _ => 64 }
/-- NET_PORT_COUNTERS (R145). -/
def specNetPortCounters : CmdSpec := { cls := .observe, len := lenIs 4, resp := fun _ => 128, fields := checkNetField, state := checkNetState }
/-- NET_NODE_LIST (R145). -/
def specNetNodeList : CmdSpec := { cls := .observe, len := lenIs 4, resp := fun _ => 1040, fields := checkNetField, state := checkNetState }
/-- NET_SET_MEDIA (R145). -/
def specNetSetMedia : CmdSpec := { cls := .engineer, len := lenIs 8, fields := checkSetMedia, state := refuseStandby }
/-- NET_RELEASE (R145). -/
def specNetRelease : CmdSpec := { cls := .engineer, len := lenIs 4, fields := checkNetMask, state := checkRelease }
/-- NET_ATTACH (R145). -/
def specNetAttach : CmdSpec := { cls := .engineer, len := lenIs 4, fields := checkAttachFields, state := checkAttach }

/-! ### Meanings -/

/-- LISTEN_SILENCE (R140): the 2 ms listen time has passed; it counts as silence where no Budan frame has
broken it. -/
def execListenSilence (n : Fin 2) (s : State) : Answer :=
  act (fun s =>
    match (s.net[n]).listenFrom with
    | none => s
    | some t =>
      if (s.net[n]).state ≠ .listen then s
      else
        let s1 := atRefosc (t + 2000000) s
        if (s.net[n]).heard then startListen n s1 else silenceMet n s1) s

/-- TIME_CONVERGED (R141): the time error has stayed below 20 ns for 16 consecutive rounds. -/
def execTimeConverged (n : Fin 2) (s : State) : Answer :=
  act (fun s => if 16 ≤ (s.net[n]).conv then netEvent n .converged s else s) s

/-- NETWORK_LOST (R140): no full valid round for 8 consecutive rounds. -/
def execNetworkLost (n : Fin 2) (s : State) : Answer :=
  act (fun s =>
    let k := s.net[n]
    if 8 ≤ k.lossRounds ∧ (k.state = .joined ∨ k.state = .syncing) then
      let s1 := if k.state = .joined then
          raise { src := 33 + 8 * n.val, reason := 0x04, sev := .error, p0 := k.lossRounds, p1 := chanLinks k, p2 := 0 } s else s
      netEvent n .lost s1
    else s) s

/-- BYPASS_HOLD_TIMER (R138). -/
def execBypassHoldTimer (n : Fin 2) (s : State) : Answer := act (holdTimer n) s

/-- The module's own link enters the ring map, as its exchange with the neighbour showed it (R575). -/
def ownLink (n : Fin 2) (port : Fin 4) (ns nbr : Nat) (s : Rc8) : Rc8 :=
  let side := port.val % 2
  modNet n (fun k => { k with ringMap := k.ringMap.filter (fun x => !(x.node == selfNode s && x.side == side)) ++
    [{ node := selfNode s, side := side, nbr := nbr, delay := ns }] }) s

/-- Window codes of GUARDIAN_CUT (R152). -/
def cutWindowCode : CutWindow → Nat
  | .gather => 1 | .command => 2 | .management => 3

/-- GUARDIAN_CUT (R132). -/
def execGuardianCut (n : Fin 2) (port : Fin 4) (window : CutWindow) (s : State) : Answer :=
  act (fun s =>
    raiseLimited (some 2) { src := 33 + 8 * n.val, reason := 0x06, sev := .error, p0 := port.val, p1 := cutWindowCode window, p2 := 0 }
      (modNet n (fun k => { k with guard := { k.guard with cuts := inc32 k.guard.cuts } })
        (modNetPort n port (fun x => { x with cuts := inc32 x.cuts }) s))) s

/-- GUARDIAN_RESYNC_FAULT (R134): every window of the module is closed from now on. -/
def execGuardianResyncFault (n : Fin 2) (deviation : Option Int) (s : State) : Answer :=
  act (fun s =>
    let faults := inc32 (s.net[n]).guard.faults
    raise { src := 33 + 8 * n.val, reason := 0x07, sev := .error, p0 := (deviation.map s32Param).getD 0x7FFFFFFF, p1 := faults, p2 := 0 }
      (modNet n (fun k => { k with guard := { k.guard with closed := true, good := 0, faults := faults } }) s)) s

/-- NET_STATUS (R146). -/
def execNetStatus (p : Fin 4) (m : Fin 8) (s : State) : Answer :=
  act (answer 0x0401 p m fun _ s => netStatusBlock 0 s ++ netStatusBlock 1 s) s

/-- NET_PORT_COUNTERS (R147). -/
def execNetPortCounters (p : Fin 4) (m : Fin 8) (s : State) : Answer :=
  act (answer 0x0402 p m fun e s => (vlist (s.net[netAt e 0]).ports).flatMap portBlock) s

/-- NET_NODE_LIST (R148). -/
def execNetNodeList (p : Fin 4) (m : Fin 8) (s : State) : Answer := act (answer 0x0403 p m nodeListResponse) s

/-- NET_SET_MEDIA (R149); `stored` is whether this module's read-back matches. -/
def execNetSetMedia (p : Fin 4) (m : Fin 8) (stored : Bool) (s : State) : Answer :=
  act (runCmd 0x0404 p m fun e s =>
    if stored then pairStore e.id (.command e.code e.req) 0 [] false (effSetMedia e.req) s
    else endWith e.id .integrityFail s) s

/-- NET_RELEASE (R150). -/
def execNetRelease (p : Fin 4) (m : Fin 8) (s : State) : Answer :=
  act (runCmd 0x0405 p m fun e s =>
    let atOnce := bitAt (u8At e.req 1) 0
    finishRelease ((maskNets e).foldl (fun s n => startRelease n atOnce (some e.id) p.val s)
      (if atOnce then waitExec e.id s else pendNow e s))) s

/-- NET_ATTACH (R151). -/
def execNetAttach (p : Fin 4) (m : Fin 8) (s : State) : Answer :=
  act (runCmd 0x0406 p m fun e s =>
    finishAttach ((maskNets e).foldl (fun s n => startAttach n (some e.id) p.val s) (pendNow e s))) s

end Sys2Proof.Machine
end

