-- ==== Sys2Proof/Machine/Frames.lean ====
section
/-! DEFINITION. Budan frames: launches, receive windows, first-valid selection, channel counters, full
valid rounds, window states and node replies (05 R155 to R174; 04 R124, R131, R135, R143, R144). -/

namespace Sys2Proof.Machine

open Sys2Proof

/-! ### Putting frames together (05 R153, R155, R158) -/

/-- The data of a command frame: the windows due in the round at their places, zeros elsewhere (R158). -/
def commandData (c : Schedule) (tx : List (List Byte)) (round idx : Nat) : List Byte :=
  (c.windows.zip tx).foldl
    (fun d x => if x.1.down && x.1.frame == idx && x.1.due round then overwrite d x.1.off (padTo x.1.len x.2) else d)
    (zeros (c.frameLen true idx))

/-- The group address of a network's frames: 03-42-44-4E-00-0n (R153). -/
def budanDest (n : Fin 2) : Nat := 0x0342444E0000 + n.val

/-- The header flags of a copy (R153). -/
def frameFlags (renumbered switching : Bool) (port : Fin 4) (idx : Nat) : Nat :=
  flagBit renumbered 0 + flagBit switching 1 + flagBit (port.val % 2 == 1) 2 + 256 * idx

/-- The 16 rounds before a fixed switch round (R153, R175). -/
def switchPending (k : Sched) (round : Nat) : Bool :=
  match k.pending with
  | some w => (match w.round with
    | some r => decide (round < r ∧ r ≤ round + 16)
    | none => false)
  | none => false

/-- Ports a launch uses (04 R124, 05 R158): ring and line both used ports of each configured channel, star
P1, or P2 where P1 has no link. -/
def launchPorts (k : Net) : List (Fin 4) :=
  (([0, 1] : List (Fin 2)).filter (chanUsed k)).flatMap fun c =>
    let ps := usedPorts k c
    if k.media.topo = .star then
      (match ps.find? fun p => (k.ports[p]).link with
       | some p => [p]
       | none => [])
    else ps.filter fun p => (k.ports[p]).link

/-- The network launches: MASTER, and the first launch's boundary has come (04 R140). -/
def launching (n : Fin 2) (s : Rc8) : Bool :=
  (s.net[n]).state == .master && decide ((s.net[n]).launchFrom ≤ s.rnd.round)

/-- The guardian opens a launch window: the lease is seen and no resync fault stands (04 R131, R134). -/
def guardOpen (k : Net) : Bool := k.guard.lease && !k.guard.closed

/-- The round is the first after a renumbering step: its frames carry the flag (03 R95; R153). -/
def renumberedRound (s : Rc8) : Bool := s.rnd.renumbered == some s.rnd.round

/-- Frames of one kind launched on a list of ports; with the window closed the guardian blocks each and
counts it (04 R131, R132). -/
def launch (n : Fin 2) (open_ : Bool) (ports : List (Fin 4)) (kind : Nat) (frames : List (Nat × List Byte)) (s : Rc8) : Rc8 :=
  if open_ then
    let sw := switchPending s.sch[n] s.rnd.round
    let renum := renumberedRound s
    { s with out := s.out ++ ports.flatMap fun p => frames.map fun f =>
        Out.budan n p (budanDest n) (s.net[n]).mac (s.net[n]).media.etherType kind s.rnd.round (schedId n s) (frameFlags renum sw p f.1) f.2 }
  else ports.foldl (fun s p => modNetPort n p (fun x => { x with blocks := satAdd 0xFFFFFFFF x.blocks frames.length }) s) s

/-- GATHER_LAUNCH (05 R157, R159): receive windows open; in a ring or line the holder launches the empty
gather frames. -/
def gatherLaunch (n : Fin 2) (s : Rc8) : Rc8 :=
  match (s.sch[n]).inForce with
  | none => s
  | some c =>
    let k := s.net[n]
    let s1 := modSch n (fun x => { x with gatherOpen := true, rxFrozen := false, sel := c.windows.map fun _ => none,
                                          openLinks := x.openLinks.set 0 (linkMask k) }) s
    if launching n s && k.media.topo != .star then
      launch n (guardOpen k) (launchPorts k) 2 ((c.frames false).map fun i => (i, zeros (c.frameLen false i))) s1
    else s1

/-- COMMAND_LAUNCH (05 R158): the command frames go from the transmit bank frozen at COMMIT. -/
def commandLaunch (n : Fin 2) (s : Rc8) : Rc8 :=
  match (s.sch[n]).inForce with
  | none => s
  | some c =>
    let k := s.net[n]
    let s1 := modSch n (fun x => { x with commandOpen := true, openLinks := x.openLinks.set 1 (linkMask k) }) s
    if launching n s then
      launch n (guardOpen k) (launchPorts k) 1 ((c.frames true).map fun i => (i, commandData c (s.sch[n]).txFrozen s.rnd.round i)) s1
    else s1

/-! ### Counters of a channel (05 R165) -/

/-- One channel's counters changed. -/
def modChan (n : Fin 2) (c : Fin 2) (f : ChanCount → ChanCount) (s : Rc8) : Rc8 :=
  modSch n (fun k => { k with count := vmod k.count c f }) s

/-- Star nodes that send a SLOT frame in a round: one with an upstream window due (R159). -/
def Schedule.slotsDue (c : Schedule) (round : Nat) : List Nat :=
  (c.frames false).filter fun i => c.windows.any fun w => !w.down && w.frame == i && w.due round

/-- Copies of a kind that are scheduled to reach the module, as frame index and port, on ports that had
link when the window opened (R165). In a star a module hears SLOT frames alone where it holds, and the holder's MGMT frame on P1 where
it does not (R166, R168; DEDUCED, log 14). -/
def expected (n : Fin 2) (kind : Nat) (s : Rc8) : List (Nat × Fin 4) :=
  let k := s.net[n]
  let mask := vget (s.sch[n]).openLinks (if kind = 2 ∨ kind = 3 then 0 else if kind = 1 then 1 else 2) 0
  let ports := ((([0, 1] : List (Fin 2)).filter (chanUsed k)).flatMap (usedPorts k)).filter fun p => bitAt mask p.val
  match (s.sch[n]).inForce with
  | none => if kind = 4 then ports.map fun p => (0, p) else []
  | some c =>
    if k.media.topo = .star then
      (if kind = 3 then (c.slotsDue s.rnd.round).flatMap fun i => (ports.filter fun p => (p.val % 2 == 1) == c.nodePort2 i).map fun p => (i, p)
       else if kind = 4 ∧ isStandby s = true then (ports.filter fun p => p.val % 2 == 0).map fun p => (0, p)
       else [])
    else if kind = 4 then ports.map fun p => (0, p)
    else if kind = 1 then (c.frames true).flatMap fun i => ports.map fun p => (i, p)
    else (c.frames false).flatMap fun i => ports.map fun p => (i, p)

/-- Scheduled copies that had not arrived when their window closed are counted missing (R165). -/
def countMissing (n : Fin 2) (kind round : Nat) (s : Rc8) : Rc8 :=
  let got := (s.sch[n]).arrived.filter fun a => a.kind == kind && a.round == round
  let miss := (expected n kind s).filter fun x => !(got.any fun a => a.idx == x.1 && a.port == x.2)
  ([0, 1] : List (Fin 2)).foldl (fun s c =>
    modChan n c (fun k => { k with missing := satAdd 0xFFFFFFFF k.missing (miss.countP fun x => chanOf x.2 == c) }) s) s

/-- The channels of a round that is over are judged silent or not (R165). -/
def countSilent (n : Fin 2) (round : Nat) (s : Rc8) : Rc8 :=
  ([0, 1] : List (Fin 2)).foldl (fun s c =>
    if chanUsed s.net[n] c then
      modChan n c (fun k =>
        if (s.sch[n]).arrived.any fun a => a.round == round && chanOf a.port == c then { k with run := 0, calm := min 8 (k.calm + 1) }
        else { k with silent := inc32 k.silent, run := k.run + 1, calm := 0 }) s
    else s) s

/-! ### Full valid rounds (04 R144) -/

/-- The frames one receiver needs for a full valid round, as kind and index. -/
def neededFrames (n : Fin 2) (round : Nat) (s : Rc8) : List (Nat × Nat) :=
  match (s.sch[n]).inForce with
  | none => [(4, 0)]
  | some c =>
    if (s.net[n]).media.topo = .star then
      (4, 0) :: ((s.net[n]).nodes.filter fun x => x.join == 3 && (c.slotsDue round).contains x.idx).map fun x => (3, x.idx)
    else (4, 0) :: ((c.frames false).map fun i => (2, i)) ++ (c.frames true).map fun i => (1, i)

/-- A channel has delivered a full valid round; frames the module launched itself are not needed. -/
def fullOn (n : Fin 2) (c : Fin 2) (round : Nat) (s : Rc8) : Bool :=
  let got := (s.sch[n]).arrived.filter fun a => a.round == round && chanOf a.port == c
  let ownLaunch := launching n s
  got != [] && (neededFrames n round s).all fun x =>
    (ownLaunch && x.1 != 3) || got.any fun a => a.kind == x.1 && a.idx == x.2

/-- The network gives the module its time: N0, or N1 where N0 is not configured; while N0 has not synchronised yet, N1 does (04
R135; DESIGN CHOICE, log 13). -/
def givesTime (n : Fin 2) (s : Rc8) : Bool :=
  n == 0 || !((s.net[0]).state == .syncing || (s.net[0]).state == .joined || (s.net[0]).state == .master)

/-- The PTU is set from the round number of a network that the module has just joined, and the path delay of the copy (04 R135); the
milestones that lie behind have fired. -/
def takeRound (round off : Nat) (s : Rc8) : Rc8 :=
  let s1 := { s with clk := { s.clk with ptu := (round * s.rnd.period + off) * fracPerNs, residual := 0 }, rnd := { s.rnd with round := round } }
  { s1 with rnd := { s1.rnd with fired := (milestoneTable s1).filter fun e => e.fires round && decide (e.off ≤ off) } }

/-- A module that joins takes the holder's round period and stores it (03 R93; 04 R140). -/
def joinPeriod (period : Nat) (s : Rc8) : Rc8 :=
  if period = 0 then s else { takePeriod period s with nv := { s.nv with storedPeriod := period } }

/-- The offset in the round at which a frame of a kind is launched. -/
def launchOffset (n : Fin 2) (kind : Nat) (s : Rc8) : Nat :=
  match (s.sch[n]).inForce with
  | none => s.rnd.period - 4000
  | some c => if kind = 1 then c.commandLaunch else if kind = 4 then s.rnd.period - 4000 else c.gatherLaunch

/-- What a joining module takes from the holder with its first full valid round: the period, and from the network that gives it the
time also plant time and the round, whose management window is then open for it (04 R135, R140). -/
def joinRound (n : Fin 2) (f : BudanCopy) (s : Rc8) : Rc8 :=
  let s1 := joinPeriod f.period s
  let s2 := if givesTime n s then takeRound f.round (launchOffset n f.kind s1 + f.delay) s1 else s1
  if f.kind = 4 then modSch n (fun k => { k with mgmtOpen := some f.round, mgmtLast := some (f.round, f.schedId) }) s2 else s2

/-- After a valid copy: where it completes a full valid round, the network's event happens, once per round
(04 R140, R144). -/
def judgeFull (n : Fin 2) (f : BudanCopy) (s : Rc8) : Rc8 :=
  let round := f.round
  let a := fullOn n 0 round s
  let s1 := if a then modNet n (fun k => { k with aFull := true }) s else s
  if (a || fullOn n 1 round s) && (s.sch[n]).fullSeen != some round then
    let s2 := modSch n (fun k => { k with fullSeen := some round }) s1
    netEvent n .fullRound (if (s.net[n]).state = .listen then joinRound n f s2 else s2)
  else s1

/-! ### First-valid selection (05 R160 to R164) -/

/-- Frame index in the header flags. -/
def copyIdx (f : BudanCopy) : Nat := f.flags / 256 % 64

/-- A window is present in a copy: the valid bit of a drive's first axis record, or of the station word
(R161, R162). -/
def windowPresent (w : Window) (content : List Byte) : Bool :=
  if w.station then bitAt (u16At content 0) 15 else bitAt (u16At content 12) 15

/-- The node has reported that it has joined (04 R144). -/
def nodeJoined (k : Net) (i : Nat) : Bool := k.nodes.any fun x => x.idx == i && x.join == 3

/-- One copy offered to one window: selected, compared, or passed over. Answers the new choice and the port of the copy that
differs from it. A copy of the same tick as the one selected goes before it where its port is lower, and it is the other that is
compared (R164). -/
def offerWindow (port : Fin 4) (w : Window) (f : BudanCopy) (joined : Bool) (old : Option Chosen) : Option Chosen × Option (Fin 4) :=
  if w.down || w.frame != copyIdx f || !w.due f.round || !joined || decide (f.data.length < w.off + w.len) then (old, none)
  else
    let content := slice f.data w.off w.len
    let c := chanOf port
    if windowPresent w content then
      match old with
      | none => (some { content := content, chans := 2 ^ c.val, port := port, tick := f.tick }, none)
      | some x =>
        let y := { x with chans := if bitAt x.chans c.val then x.chans else x.chans + 2 ^ c.val }
        let before := decide (x.tick = f.tick ∧ port < x.port)
        (some (if before then { y with content := content, port := port } else y),
         if x.content = content then none else some (if before then x.port else port))
    else (old, none)

/-- The windows of a copy, in schedule order, with what each becomes. -/
def offerAll (n : Fin 2) (port : Fin 4) (f : BudanCopy) (s : Rc8) : List (Option Chosen × Option (Fin 4)) :=
  match (s.sch[n]).inForce with
  | none => []
  | some k => (k.windows.zip (s.sch[n]).sel).map fun x => offerWindow port x.1 f (nodeJoined s.net[n] x.1.node) x.2

/-- The index of the first entry that holds. -/
def firstIndex {α : Type} (f : α → Bool) (l : List α) : Nat := l.findIdx f

/-- A valid gather or SLOT copy: its windows are selected or compared (R164). On a frozen receive bank
nothing changes (01 R32), nor while the network's DMA stands stopped (12 R403). A copy that mismatches has been counted as valid before:
R165 counts a copy once, under the first definition it meets, by which no copy would ever mismatch (DEDUCED, log 14). -/
def selectCopy (n : Fin 2) (port : Fin 4) (f : BudanCopy) (s : Rc8) : Rc8 :=
  if dmaStopped (6 + n.val) s || (s.sch[n]).rxFrozen then s else
  let r := offerAll n port f s
  (r.filterMap (·.2)).dedup.foldl (fun s q =>
    let c := chanOf q
    raiseLimited (some 2) { src := 34 + 8 * n.val, reason := 0x03, sev := .warning, p0 := c.val, p1 := firstIndex (fun x => x.2 == some q) r, p2 := 0 }
      (modChan n c (fun k => { k with mismatching := inc32 k.mismatching }) s))
    (modSch n (fun k => { k with sel := r.map (·.1) }) s)

/-! ### Node replies and reports (05 R167, R173, R174) -/

/-- A node's entry changed, made where there is none. -/
def modNode (n : Fin 2) (i : Nat) (f : Node → Node) (s : Rc8) : Rc8 :=
  modNet n (fun k =>
    if k.nodes.any fun x => x.idx == i then { k with nodes := k.nodes.map fun x => if x.idx == i then f x else x }
    else { k with nodes := k.nodes ++ [f { idx := i, join := 0, chans := 0, latency := 0, timeErr := 0, mac := 0, stopped := false, silenced := false, missed := 0, held := 0, replied := none }] }) s

/-- A node reports missed commands (R174). -/
def commandsMissed (n : Fin 2) (i : Nat) (s : Rc8) : Rc8 :=
  raiseLimited (some 1) { src := 36 + 8 * n.val, reason := 0x03, sev := .warning, p0 := i, p1 := 0, p2 := lo32 s.rnd.round }
    (modNode n i (fun x => { x with missed := inc32 x.missed }) s)

/-- A node reports that it has applied its safe values (R173). -/
def safeValues (n : Fin 2) (i : Nat) (s : Rc8) : Rc8 :=
  raise { src := 36 + 8 * n.val, reason := 0x04, sev := .error, p0 := i, p1 := lo32 s.rnd.round, p2 := 0 } s

/-- A node stands silenced: by a SILENCE command that no RESUME has ended, or as its last reply says (R169, R185). -/
def nodeSilenced (n : Fin 2) (s : Rc8) (i : Nat) : Bool := (s.sch[n]).quiet.contains i || (s.net[n]).nodes.any fun x => x.idx == i && x.silenced

/-- Windows of nodes that a RESUME frees from SILENCE are treated as returning: one whose content is still in use is RETURNING, and a
lost one returns by its own steps (R169, R171; DEDUCED, log 14). -/
def resumeWindows (n : Fin 2) (target : Nat) (s : Rc8) : Rc8 :=
  match (s.sch[n]).inForce with
  | none => s
  | some c =>
    let freed := fun i => (target == 0xFF || target == i) && nodeSilenced n s i
    modSch n (fun k => { k with wins := (c.windows.zip k.wins).map fun x =>
      if x.1.down = false ∧ freed x.1.node = true ∧ (x.2.st = .valid ∨ x.2.st = .stale) then { x.2 with st := .returning, lostFor := 0 } else x.2 }) s

/-- The first frame of a stop command: SILENCE silences its target, every node where it names none, and RESUME ends that (R169). -/
def stopActs (n : Fin 2) (cmd target : Nat) (s : Rc8) : Rc8 :=
  let hit := if target = 0xFF then List.range 62 else [target]
  if cmd = 2 then modSch n (fun k => { k with quiet := k.quiet.filter (fun i => !hit.contains i) ++ hit }) s
  else if cmd = 3 then
    modNet n (fun k => { k with nodes := k.nodes.map fun x => if hit.contains x.idx then { x with silenced := false } else x })
      (modSch n (fun k => { k with quiet := k.quiet.filter fun i => !hit.contains i }) (resumeWindows n target s))
  else s

/-- The windows of a node show whether its last report named missed commands (R174, R185). -/
def flagMissed (n : Fin 2) (i : Nat) (on : Bool) (s : Rc8) : Rc8 :=
  match (s.sch[n]).inForce with
  | none => s
  | some c => modSch n (fun k => { k with wins := (c.windows.zip k.wins).map fun x => if x.1.node = i ∧ x.1.down = false then { x.2 with missedFlag := on } else x.2 }) s

/-- A reply answers the request of the round before: its target and its sequence (R167). -/
def answers (k : Sched) (d : List Byte) : Bool := k.answered.target == u8At d 0 && k.answered.seq == u16At d 2

/-- What a node reply of a round tells, once however many copies bring it (R167, R174): join state, time error, held schedule,
status bits and its answer. NODE_JOINED carries the configured channels (04 R152: DESIGN CHOICE, log 13; no rule says which the
mask names). -/
def nodeReply (n : Fin 2) (round : Nat) (d : List Byte) (s : Rc8) : Rc8 :=
  let i := u8At d 0
  let join := u8At d 1
  let status := u16At d 10
  let was := ((s.net[n]).nodes.find? fun x => x.idx == i)
  let body := slice d 12 52
  if was.bind (·.replied) = some round then s else
  let s1 := modNode n i (fun x => { x with join := join, timeErr := s32At d 4, held := u16At d 8, stopped := bitAt status 2, silenced := bitAt status 3, replied := some round,
                                           mac := (Config.replyIdentity i body).1, latency := (Config.replyIdentity i body).2 }) s
  let s2 := if join = 3 ∧ (was.map (·.join)) ≠ some 3 then
      raise { src := 33 + 8 * n.val, reason := 0x03, sev := .info, p0 := i, p1 := (s.net[n]).media.chans, p2 := s32Param (s32At d 4) } s1 else s1
  let s3 := flagMissed n i (bitAt status 0) (if bitAt status 0 then commandsMissed n i s2 else s2)
  let s4 := if bitAt status 1 then safeValues n i s3 else s3
  if (s.sch[n]).answered.code = 4 ∧ answers s.sch[n] d = true then
    modNet n (fun k => { k with ringMap := k.ringMap.filter (fun x => x.node != i) ++ Config.statusNeighbours i body }) s4
  else s4

/-! ### A copy arrives (05 R163) -/

/-- The kinds a network carries: GATHER in a ring or line, SLOT in a star; MGMT alone while no schedule is in force (R163; 03
R574). -/
def kindHere (n : Fin 2) (kind : Nat) (s : Rc8) : Bool :=
  let star := (s.net[n]).media.topo == .star
  if (s.sch[n]).inForce.isNone then kind == 4 else kind == 1 || kind == 4 || (kind == 2 && !star) || (kind == 3 && star)

/-- Check 2: version, kind, network and channel match the port and the schedule (R163). -/
def checkShape (n : Fin 2) (port : Fin 4) (f : BudanCopy) (s : Rc8) : Bool :=
  f.version == 1 && kindHere n f.kind s && f.net == n.val && f.chan == (chanOf port).val

/-- Check 3: the round, with the renumbering exception; a listening module has no round of its own yet
(R163; DEDUCED, log 14). -/
def checkRound (n : Fin 2) (f : BudanCopy) (s : Rc8) : Bool :=
  (s.net[n]).state == .listen || bitAt f.flags 0 ||
  (if f.kind = 4 then (s.sch[n]).mgmtLast.map (·.1) == some f.round else f.round == s.rnd.round)

/-- Check 4: the schedule id of the copy's round; a MGMT copy is judged by that of the MGMT_OPEN it followed (R163, R176). -/
def checkId (n : Fin 2) (f : BudanCopy) (s : Rc8) : Bool :=
  if f.kind = 4 ∧ (s.net[n]).state ≠ .listen then (s.sch[n]).mgmtLast.map (·.2) == some f.schedId else f.schedId == schedId n s

/-- Check 5: the receive window of the kind is open (R163). -/
def checkWindow (n : Fin 2) (f : BudanCopy) (s : Rc8) : Bool :=
  (s.net[n]).state == .listen ||
  (match f.kind with
   | 1 => (s.sch[n]).commandOpen
   | 4 => (s.sch[n]).mgmtOpen.isSome
   | _ => (s.sch[n]).gatherOpen && !(s.sch[n]).rxFrozen)

/-- Bytes of a schedule image that one SCHEDULE_OFFER to a module carries behind id and part number (R166; DESIGN CHOICE, log 15). -/
def offerSize : Nat := 38

/-- Length of a schedule image as its header gives it (R154). -/
def imageLength (b : List Byte) : Nat := 64 + 16 * u16At b 6 + 4 * u16At b 12

/-- A part of a schedule that the holder offers to this module in its MGMT frame joins those before it (04 R141): a part out of its
turn is passed over, and part 0 begins anew. Answers the parts so far. -/
def fetchPart (old : Option (Nat × List Byte)) (d : List Byte) : Option (Nat × List Byte) :=
  let id := u16At d 0
  let part := u32At d 2
  let body := slice d 6 offerSize
  if part = 0 then some (id, body)
  else match old with
    | some (i, b) => if i = id ∧ b.length = offerSize * part then some (i, b ++ body) else old
    | none => none

/-- A schedule that the other module has sent is stored, where its id is not stored yet (R175; 04 R141). A deletion of its id that is
still owed to the partner is owed no more. -/
def takeSchedule (n : Fin 2) (image : List Byte) (s : Rc8) : Rc8 :=
  let c := parseSchedule image
  if schedCrcOk image && (storedSched n c.id s).isNone && decide ((s.nv.schedules[n]).length < 4) then
    loadMaps { s with nv := { s.nv with schedules := s.nv.schedules.set n ((s.nv.schedules[n]) ++ [c]) }
                      sch := vmod s.sch n fun k => { k with toDelete := k.toDelete.filter fun x => x.1 != c.id } }
  else s

/-- The parts of a schedule that a MGMT frame offers to this module's own index; with the last one it is stored (04 R141; R576). -/
def fetchOffer (n : Fin 2) (f : BudanCopy) (s : Rc8) : Rc8 :=
  if f.kind = 4 ∧ copyIdx f = 0 ∧ u8At f.data 48 = selfNode s ∧ u8At f.data 49 = 3 then
    let got := fetchPart (s.sch[n]).fetch (slice f.data 52 44)
    match got with
    | some (_, b) =>
      if 64 ≤ b.length ∧ imageLength b ≤ b.length then takeSchedule n (b.take (imageLength b)) (modSch n (fun k => { k with fetch := none }) s)
      else modSch n (fun k => { k with fetch := got }) s
    | none => s
  else s

/-- A listening module takes the schedule the frames name, where it holds it; one it does not hold it asks the holder for over the
pair link, and without one it takes it from the management window (04 R141). -/
def adoptSchedule (n : Fin 2) (f : BudanCopy) (s : Rc8) : Rc8 :=
  if (s.net[n]).state = .listen ∧ schedId n s ≠ f.schedId ∧ f.schedId ≠ 0 then
    (if (storedSched n f.schedId s).isSome then putSchedule n f.schedId s
     else if s.pair.plk.up then plkSend 0x30 0 (.copy [.wantSchedule n f.schedId]) s
     else fetchOffer n f s)
  else s

/-- A valid copy of a channel that was silent (R187). -/
def channelRestored (n : Fin 2) (c : Fin 2) (s : Rc8) : Rc8 :=
  let k := (s.sch[n]).count[c]
  if k.episode then
    raise { src := 34 + 8 * n.val, reason := 0x02, sev := .notice, p0 := c.val, p1 := k.run, p2 := 0 }
      (modChan n c (fun k => { k with episode := false, run := 0 }) s)
  else s

/-- The time error a command copy gives, of the round's copy with the fewest hops: the module's network time is corrected by at
most 20 ns per round (04 R135), on N0, or N1 where N0 is not configured. -/
def takeTimeError (n : Fin 2) (hops : Nat) (err : Int) (s : Rc8) : Rc8 :=
  let st := (s.net[n]).state
  let before := match (s.net[n]).errFrom with
    | some (r, h, c) => if r = s.rnd.round then (if hops < h then some c else none) else some (s.net[n]).conv
    | none => some (s.net[n]).conv
  match before with
  | none => s
  | some was =>
  if st = .syncing ∨ st = .joined then
    let s1 := modNet n (fun k => { k with timeErr := err, conv := if err.natAbs < 20 then was + 1 else 0, errFrom := some (s.rnd.round, hops, was) }) s
    if n = 0 ∨ configured 0 s = false then
      { s1 with clk := { s1.clk with residual := -(clampInt (-20) 20 err) * 65536 } }
    else s1
  else s

/-- A ring that is whole or broken, as the module's own gather copies show: a copy that comes back on the
port that launched it has been reflected (04 R126). -/
def ringShape (n : Fin 2) (port : Fin 4) (f : BudanCopy) (s : Rc8) : Rc8 :=
  if launching n s && f.kind == 2 && f.src == (s.net[n]).mac then
    setLineMode n (chanOf port) ((port.val % 2 == 1) == bitAt f.flags 2) 0xFF s
  else s

/-- Drive reports in the first selected copy of a round: missed commands and safe values (R160, R173,
R174). -/
def driveReports (n : Fin 2) (before : List (Option Chosen)) (s : Rc8) : Rc8 :=
  match (s.sch[n]).inForce with
  | none => s
  | some c =>
    (c.windows.zip (before.zip (s.sch[n]).sel)).foldl (fun s x =>
      match x.2.1, x.2.2 with
      | none, some ch =>
        if x.1.station then s
        else
          let st := u16At ch.content 12
          let s1 := if bitAt st 3 then commandsMissed n x.1.node s else s
          if bitAt st 4 then safeValues n x.1.node s1 else s1
      | _, _ => s) s

/-- The switch that the holder's MGMT frame announces is pending here too, where the schedule is held (R175, step 6). -/
def noteSwitch (n : Fin 2) (f : BudanCopy) (s : Rc8) : Rc8 :=
  let id := u16At f.data 40
  if id = 0 ∨ (storedSched n id s).isNone = true ∨ (s.sch[n]).pending.isSome = true ∨ schedId n s = id ∨ fullRound (u32At f.data 44) s ≤ s.rnd.round then s
  else modSch n (fun k => { k with pending := some { id := id, round := some (fullRound (u32At f.data 44) s), asked := 0, since := s.clk.refosc, exec := none } }) s

/-- A stop command in another holder's MGMT frame: this module follows what it does to the nodes (R169). -/
def noteStop (n : Fin 2) (f : BudanCopy) (s : Rc8) : Rc8 :=
  let seq := u16At f.data 34
  if u8At f.data 32 = 0 ∨ seq = (s.sch[n]).stopSeq then s
  else stopActs n (u8At f.data 32) (u8At f.data 33) (modSch n (fun k => { k with stopSeq := seq }) s)

/-- Another holder's MGMT frame, once a round: its request, which the node replies of the next round answer (R167), its stop command
and the switch it announces (R169, R175), and a schedule it offers to this module (04 R141). -/
def noteRequest (n : Fin 2) (f : BudanCopy) (s : Rc8) : Rc8 :=
  if (s.sch[n]).arrived.any fun a => a.kind == 4 && a.idx == 0 && a.round == f.round then s
  else
    fetchOffer n f (noteSwitch n f (noteStop n f
      (modSch n (fun k => { k with answered := k.request, request := { target := u8At f.data 48, code := u8At f.data 49, seq := u16At f.data 50, data := slice f.data 52 44 } }) s)))

/-- An index that a node reply may bear: a drive's or station's, or the partner's (R167, R576). -/
def replyIndex (i : Nat) (s : Rc8) : Bool := decide (i < 62) || i == partnerNode s

/-- A second frame of the partner on a channel in a star: its node reply, which follows its lease answer in the window (R168). -/
def secondFrame (n : Fin 2) (port : Fin 4) (f : BudanCopy) (s : Rc8) : Bool :=
  (s.sch[n]).arrived.any fun a => a.kind == 4 && a.idx == copyIdx f && a.round == f.round && chanOf a.port == chanOf port

/-- What a valid MGMT copy tells of the network's nodes (R166 to R168): in a ring or line the reply in the frame, in a star the reply
frame of a node. -/
def replyCopy (n : Fin 2) (port : Fin 4) (f : BudanCopy) (own : Bool) (s : Rc8) : Rc8 :=
  let star := (s.net[n]).media.topo == .star
  let s1 := if !own && copyIdx f == 0 then noteRequest n f s else s
  if !star && replyIndex (u8At f.data 144) s && u8At f.data 145 != 0 then nodeReply n f.round (slice f.data 144 64) s1
  else if star && !own && f.data.length == 64 && (decide (copyIdx f < 62) || (copyIdx f == partnerNode s && secondFrame n port f s)) then
    nodeReply n f.round (slice f.data 0 64) s1
  else s1

/-- A copy with the renumbering flag: the standby goes on counting from its round. A MGMT copy that comes after the boundary carries the
round before (R163). -/
def takeNumber (f : BudanCopy) (n : Fin 2) (s : Rc8) : Rc8 :=
  if bitAt f.flags 0 && isStandby s then
    let behind := if f.kind = 4 then s.rnd.round - ((s.sch[n]).mgmtLast.map (·.1)).getD s.rnd.round else 0
    { s with rnd := { s.rnd with round := f.round + behind, renumbered := some f.round } }
  else s

/-- The source address of the partner's frames: those of the other module's launches, and its star replies (04 R148). -/
def notePartner (n : Fin 2) (f : BudanCopy) (s : Rc8) : Rc8 :=
  if f.kind = 1 ∨ f.kind = 2 ∨ (f.kind = 4 ∧ (copyIdx f = 0 ∨ copyIdx f = partnerNode s)) then modNet n (fun k => { k with partnerMac := f.src }) s else s

/-- The part of a valid copy that every state shares: counters, arrival, selection, time (R163 to R165). -/
def acceptCopy (n : Fin 2) (port : Fin 4) (f : BudanCopy) (s : Rc8) : Rc8 :=
  let c := chanOf port
  let own := f.src == (s.net[n]).mac
  let s0 := if own then s else notePartner n f (if f.kind = 1 then takeTimeError n f.hops f.timeErr s else s)
  let s4 := if f.kind = 4 then replyCopy n port f own s0 else s0
  let s1 := modSch n (fun k => { k with arrived := k.arrived ++ [{ port := port, kind := f.kind, idx := copyIdx f, own := own, round := f.round }] })
    (modChan n c (fun k => { k with valid := inc32 k.valid }) (channelRestored n c s4))
  let s2 := takeNumber f n s1
  let s3 := if f.kind = 2 ∨ f.kind = 3 then driveReports n (s2.sch[n]).sel (selectCopy n port f s2) else s2
  judgeFull n f (ringShape n port f s3)

/-- A frame of another sender goes on: out of the channel's other port, or back where the port reflects; a link-local one is never
forwarded (04 R124 to R126). A port whose link has come up while the other one reflects forwards from the next round boundary on. The
guardian does not gate it. What the module inserts stands beside it. -/
def repeatCopy (n : Fin 2) (port : Fin 4) (f : BudanCopy) (s : Rc8) : Rc8 :=
  let k := s.net[n]
  let o := otherPort port
  if !passesOn k || f.src == k.mac || (f.kind == 4 && bitAt f.flags 3) then s
  else if (k.ports[port]).reflecting then { s with out := s.out ++ [.repeated n port f] }
  else if (k.ports[o]).link && !(k.ports[o]).reflectEnds then { s with out := s.out ++ [.repeated n o f] }
  else s

/-- A kind that breaks silence (04 R140). -/
def budanKind (f : BudanCopy) : Bool := decide (1 ≤ f.kind ∧ f.kind ≤ 4)

/-- A frame copy ends at a port: foreign, corrupt, late or valid (04 R120, 05 R163, R165). -/
def copyReceived (n : Fin 2) (port : Fin 4) (f : BudanCopy) (s : Rc8) : Rc8 :=
  let c := chanOf port
  if !configured n s || !((s.net[n]).ports[port]).link then s
  else if f.tagged || f.etherType != (s.net[n]).media.etherType then
    raiseLimited (some 1) { src := 32 + 8 * n.val, reason := 0x06, sev := .warning, p0 := port.val, p1 := 0, p2 := f.etherType }
      (modNetPort n port (fun x => { x with foreign := inc32 x.foreign }) s)
  else if !f.fcsOk then
    modChan n c (fun k => { k with corrupt := inc32 k.corrupt }) (modNetPort n port (fun x => { x with fcs := inc32 x.fcs }) (repeatCopy n port f s))
  else
    let s1 := modNetPort n port (fun x => { x with frames := inc32 x.frames }) (repeatCopy n port f s)
    if f.kind = 4 ∧ bitAt f.flags 3 = true then s1
    else
      let s2 := adoptSchedule n f (modNet n (fun k => { k with heard := k.heard || budanKind f }) s1)
      let s3 := if (s.net[n]).state = .master ∧ (f.kind = 1 ∨ f.kind = 2) ∧ f.src ≠ (s.net[n]).mac then
          raiseLimited none { src := 33 + 8 * n.val, reason := 0x08, sev := .critical, p0 := port.val, p1 := lo32 f.src, p2 := f.src / 2 ^ 32 } s2 else s2
      if !(checkShape n port f s3 && checkRound n f s3 && checkId n f s3) then
        modChan n c (fun k => { k with corrupt := inc32 k.corrupt }) s3
      else if !checkWindow n f s3 then
        raiseLimited (some 2) { src := 34 + 8 * n.val, reason := 0x04, sev := .warning, p0 := c.val, p1 := f.kind + 256 * copyIdx f, p2 := 0 }
          (modChan n c (fun k => { k with late := inc32 k.late }) s3)
      else acceptCopy n port f s3

/-! ### Window states at GATHER_DONE (05 R171) -/

/-- The age limit of an upstream window, in rounds (R171). -/
def ageLimit (c : Schedule) (w : Window) : Nat := if w.station then c.stationLost * w.period else c.motionLost

/-- One window of a round: its new state, and whether it was lost or restored in this step (*Table: Window
state machine*). -/
def windowStep (c : Schedule) (w : Window) (round : Nat) (sel : Option Chosen) (x : WinState) : WinState × Bool × Bool :=
  if w.down then (x, false, false)
  else
    let age := inc16 x.age
    let a := { x with age := age, lostFor := if x.st = .lost ∨ x.st = .returning then x.lostFor + 1 else x.lostFor }
    if !w.due round then (a, false, false)
    else
      match sel with
      | some ch =>
        let seen := { a with chans := ch.chans, missedFlag := if w.station then a.missedFlag else bitAt (u16At ch.content 12) 3 }
        let used := { seen with st := .valid, content := ch.content, age := 0 }
        (match x.st with
         | .valid => (used, false, false)
         | .stale => (used, false, false)
         | .lost => ({ seen with st := .returning }, false, false)
         | .returning => (used, false, true)
         | .new => ({ seen with st := .newReturning }, false, false)
         | .newReturning => (used, false, false))
      | none =>
        (match x.st with
         | .valid => ({ a with st := .stale }, false, false)
         | .stale => if ageLimit c w ≤ age then ({ a with st := .lost, lostFor := 0 }, true, false) else (a, false, false)
         | .lost => (a, false, false)
         | .returning => ({ a with st := .lost }, false, false)
         | .new => (a, false, false)
         | .newReturning => ({ a with st := .new }, false, false))

/-- Every window's step, with its index and node. -/
def windowSteps (n : Fin 2) (round : Nat) (s : Rc8) : List (Nat × Nat × WinState × Bool × Bool) :=
  match (s.sch[n]).inForce with
  | none => []
  | some c =>
    let l := c.windows.zip ((s.sch[n]).wins.zip (s.sch[n]).sel)
    (l.zip (List.range l.length)).map fun x => (x.2, x.1.1.node, windowStep c x.1.1 round x.1.2.2 x.1.2.1)

/-- The windows advance, with NODE_DATA_LOST and NODE_DATA_RESTORED where they happen (R171, R187). -/
def advanceWindows (n : Fin 2) (round : Nat) (s : Rc8) : Rc8 :=
  let r := windowSteps n round s
  let silenced := nodeSilenced n s
  let s1 := modSch n (fun k => { k with wins := r.map fun x => { x.2.2.1 with silenced := silenced x.2.1 } }) s
  r.foldl (fun s x =>
    if x.2.2.2.1 then
      raise { src := 36 + 8 * n.val, reason := 0x01, sev := .error, p0 := x.2.1, p1 := x.1, p2 := if silenced x.2.1 then 2 else 1 } s
    else if x.2.2.2.2 then
      raise { src := 36 + 8 * n.val, reason := 0x02, sev := .notice, p0 := x.2.1, p1 := x.1, p2 := x.2.2.1.lostFor } s
    else s) s1

/-- Node channel masks as of the last round (04 R148). -/
def nodeChannels (n : Fin 2) (s : Rc8) : Rc8 :=
  match (s.sch[n]).inForce with
  | none => s
  | some c =>
    modNet n (fun k => { k with nodes := k.nodes.map fun x =>
      { x with chans := (((c.windows.zip (s.sch[n]).sel).find? fun y => y.1.node == x.idx && !y.1.down).bind (·.2)).elim 0 (·.chans) } }) s

/-- CHANNEL_SILENT (05 R187): 8 consecutive silent rounds. -/
def execChannelSilent (n : Fin 2) (ch : Fin 2) (s : State) : Answer :=
  act (fun s =>
    let k := (s.sch[n]).count[ch]
    if 8 ≤ k.run ∧ k.episode = false then
      raise { src := 34 + 8 * n.val, reason := 0x01, sev := .error, p0 := ch.val, p1 := lo32 s.rnd.round, p2 := k.silent }
        (modChan n ch (fun k => { k with episode := true }) s)
    else s) s

/-- GATHER_LAUNCH (05 R157, R159). -/
def execGatherLaunch (n : Fin 2) (s : State) : Answer := act (atMilestone 7 n.val (gatherLaunch n)) s

/-- COMMAND_LAUNCH (05 R158). -/
def execCommandLaunch (n : Fin 2) (s : State) : Answer := act (atMilestone 6 n.val (commandLaunch n)) s

end Sys2Proof.Machine
end

