-- ==== Sys2Proof/Machine/SchedCmd.lean ====
section
/-! DEFINITION. Schedule loading, switching and deletion, stop commands, and the schedule commands (05
R169, R175 to R187). -/

namespace Sys2Proof.Machine

open Sys2Proof

/-- The network a request field names. -/
def netNum (e : Exec) : Nat := u8At e.req 0

/-- The load that is open for further blocks. -/
def openLoad (n : Fin 2) (s : Rc8) : Option SchedLoad :=
  (s.sch[n]).load.filter fun l => l.finishing.isNone

/-- SCHED_LOAD, step 5 (R181). -/
def checkSchedLoad (e : Exec) (s : Rc8) : Option Status :=
  let r := e.req
  let id := u16At r 2
  let total := u32At r 4
  let off := u32At r 8
  let len := u32At r 12
  let last := bitAt (u8At r 1) 0
  let contiguous : Bool := if off = 0 then true else
    match openLoad (netAt e 0) s with
    | some l => l.data.length == off && l.id == id && l.total == total
    | none => false
  firstFail [(decide (1 < netNum e ∨ 1 < u8At r 1 ∨ total < 80 ∨ 17472 < total ∨ len < 1 ∨ 4016 < len ∨ id = 0), .badField),
    (!contiguous, .badField), (decide (total < off + len), .badField), (last && off + len != total, .badField),
    (!last && off + len == total, .badField)]

/-- SCHED_LOAD, step 6 (R181). -/
def checkSchedLoadState (e : Exec) (s : Rc8) : Option Status :=
  if isStandby s ∨ configured (netAt e 0) s = false then some .wrongState else none

/-- A switch is in progress on either network. -/
def switchRuns (s : Rc8) : Bool := (s.sch[0]).pending.isSome || (s.sch[1]).pending.isSome

/-- SCHED_LOAD, conditions judged at every block at execution (R181). -/
def schedLoadBlocked (e : Exec) (s : Rc8) : Option Status :=
  let n := netAt e 0
  let stored := s.nv.schedules[n]
  firstFail [(stored.any (fun c => c.id == u16At e.req 2) || decide (4 ≤ stored.length), .noSpace),
    (loadRuns n s || switchRuns s, .busy),
    (u32At e.req 8 != 0 && (match openLoad n s with | some l => l.port != e.port | none => false), .busy)]

/-- The first of conditions 1 to 11 that a stored schedule fails before a switch, against the schedule of the other network (R156). -/
def switchCondition (n : Fin 2) (c : Schedule) (other : Option Schedule) (s : Rc8) : Option Nat :=
  if !schedCrcOk c.image || !schedCond1 c.image (s.net[n]).media s.rnd.period c.image.length c.id n.val then some 1 else schedConditions c other

/-- The first condition a schedule fails, as SCHEDULE_REFUSED numbers it: the conditions of R156, then 100
plus the round-plan condition. -/
def schedRefusal (n : Fin 2) (c : Schedule) (other : Option Schedule) (s : Rc8) : Option Nat :=
  match schedConditions c other with
  | some k => some k
  | none =>
    (planCheck (planOf s (if n = 0 then #v[some c, other] else #v[other, some c]) s.rnd.host)).map fun f => 100 + f.1

/-- The other network's schedule in force. -/
def otherSched (n : Fin 2) (s : Rc8) : Option Schedule := if n = 0 then (s.sch[1]).inForce else (s.sch[0]).inForce

/-- SCHEDULE_REFUSED (R156, R187). -/
def scheduleRefused (n : Fin 2) (id cond port : Nat) (s : Rc8) : Rc8 :=
  raise { src := 35 + 8 * n.val, reason := 0x02, sev := .error, p0 := id, p1 := cond, p2 := port } s

/-- What a stored schedule does to a module: its image joins the stored ones (R181). A deletion of its id that is still owed to the
partner is owed no more. -/
def effSchedStore (n : Nat) (image : List Byte) (s : Rc8) : Rc8 :=
  let c := parseSchedule image
  loadMaps { s with nv := { s.nv with schedules := vput s.nv.schedules n fun l => l ++ [c] }
                    sch := vput s.sch n fun k => { k with toDelete := k.toDelete.filter fun x => x.1 != c.id } }

/-- SCHEDULE_LOADED after the storage (R181, R187). -/
def effSchedLoad (n : Fin 2) (port : Nat) (image : List Byte) (s : Rc8) : Rc8 :=
  let c := parseSchedule image
  raise { src := 35 + 8 * n.val, reason := 0x01, sev := .notice, p0 := c.id, p1 := c.capacity, p2 := port } (effSchedStore n.val image s)

/-- The last block: the checks of R156 and the storage on both modules (R181). -/
def finishLoad (e : Exec) (n : Fin 2) (image : List Byte) (stored : Bool) (s : Rc8) : Rc8 :=
  let c := parseSchedule image
  let s0 := pendNow e s
  if !schedCrcOk image then endWith e.id .integrityFail s0
  else if !schedCond1 image (s.net[n]).media s.rnd.period (u32At e.req 4) (u16At e.req 2) n.val then
    endWith e.id .badField (scheduleRefused n (u16At e.req 2) 1 e.port.val s0)
  else match schedRefusal n c (otherSched n s) s with
    | some k => endWith e.id .badField (scheduleRefused n c.id k e.port.val (runPlanCheck s0).1)
    | none =>
      let s1 := (runPlanCheck s0).1
      if stored then
        pairStore e.id (.command 0x0411 (le 1 n.val ++ le 1 e.port.val ++ image)) 0 [] false (effSchedLoad n e.port.val image) s1
      else endWith e.id .integrityFail s1

/-- SCHED_LOAD's own row (R181). -/
def schedLoad (stored : Bool) (e : Exec) (s : Rc8) : Rc8 :=
  let n := netAt e 0
  match schedLoadBlocked e s with
  | some st => endWith e.id st s
  | none =>
    let off := u32At e.req 8
    let before := if off = 0 then [] else ((openLoad n s).map (·.data)).getD []
    let data := before ++ e.req.drop 16
    let last := bitAt (u8At e.req 1) 0
    let s1 := modSch n (fun k => { k with load := some { port := e.port, id := u16At e.req 2, total := u32At e.req 4, data := data,
                                                         finishing := if last then some e.id else none } }) s
    if last then finishLoad e n data stored s1
    else endExec e.id .done (le 4 data.length ++ zeros 4) s1

/-! ### Switching (R175, R182) -/

/-- Nodes that have joined and not yet reported the pending id; the partner has its copy over the pair link (R175). -/
def unconfirmed (n : Fin 2) (s : Rc8) : Nat :=
  match (s.sch[n]).pending with
  | none => 0
  | some w => (s.net[n]).nodes.countP fun x => x.join == 3 && x.held != w.id && decide (x.idx < 62)

/-- A switch ends unsuccessfully: the schedules in force stay (R182, R187). -/
def failSwitch (st : Status) (cause : Nat) (s : Rc8) : Rc8 :=
  bothNets.foldl (fun s n =>
    match (s.sch[n]).pending with
    | none => s
    | some w =>
      endOpt w.exec st (raise { src := 35 + 8 * n.val, reason := 0x04, sev := .error, p0 := w.id, p1 := unconfirmed n s, p2 := cause }
        (modSch n (fun k => { k with pending := none, work := k.work.filter fun x => x.code != 3 }) s))) s

/-- Once every joined node has confirmed, the switch round is fixed at least 16 rounds ahead, and the
partner is told; a requested round that lies nearer ends the switch (R175, R182). While a time step is pending (13
R429), or a change is armed, whose own waymark fixes the round (09 R298), no switch round is fixed here. -/
def tryFixSwitch (s : Rc8) : Rc8 :=
  let named := bothNets.filter fun n => (s.sch[n]).pending.isSome && ((s.sch[n]).pending.bind (·.round)).isNone
  if named = [] ∨ named.any (fun n => unconfirmed n s != 0) = true ∨ s.tim.st = .stepPending ∨ changeArmed s = true then s
  else
    let asked := ((named.head?.bind fun n => (s.sch[n]).pending).map (·.asked)).getD 0
    let earliest := s.rnd.round + 16
    if asked ≠ 0 ∧ asked < earliest then failSwitch .tooLate 1 s
    else
      let r := if asked = 0 then earliest else asked
      let s1 := named.foldl (fun s n => modSch n (fun k => { k with pending := k.pending.map fun w => { w with round := some r } }) s) s
      let ids := bothNets.map fun n => ((s.sch[n]).pending.map (·.id)).getD 0
      if s.pair.partner.present ∧ isStandby s = false then
        plkSend 0x20 0 (.apply (.command 0x0412 (le 2 (ids.getD 0 0) ++ le 2 (ids.getD 1 0))) r) s1
      else s1

/-- The parts of a node's configuration in a schedule: its window entries, hold windows among them, and its safe-value selection,
so many bytes a part behind a part number (R166; DESIGN CHOICE, log 15). -/
def nodeParts (size : Nat) (c : Schedule) (i : Nat) : List (List Byte) :=
  let mine := ((c.windows.zip (List.range c.windows.length)).filter fun x => x.1.node == i).flatMap (fun x => slice c.image (64 + 16 * x.2) 16) ++
    [Config.safeSelection c.net i]
  (List.range (ceilDiv mine.length size)).map fun k => le 4 k ++ (mine.drop (size * k)).take size

/-- The offer of a schedule to one node: the id and the node's parts, in the 44 bytes of a request (R166, R175). -/
def offerTo (c : Schedule) (i : Nat) : List MgmtWork :=
  (nodeParts 38 c i).map fun d => { target := i, code := 3, data := le 2 c.id ++ d }

/-! ### Path delays (04 R135, R136) -/

/-- Forwarding latency a node declares, 640 ns while it has declared none; a module's is 560 ns (04 R125). -/
def nodeLatency (n : Fin 2) (i : Nat) (s : Rc8) : Nat :=
  if 62 ≤ i then 560 else
  match (s.net[n]).nodes.find? fun x => x.idx == i with
  | some x => if x.latency = 0 then 640 else x.latency
  | none => 640

/-- Delay of a copy launched on a side of the module to a node: the links up to it and the latencies of the nodes before it, as the
ring map gives them; 0 for a node that no copy of that side is known to reach. -/
def sidePath (n : Fin 2) (links : Links) (side i : Nat) (s : Rc8) : Nat :=
  let l := armNodes links side
  match l.find? fun x => x.1 == i with
  | none => 0
  | some x => (l.takeWhile fun y => y.1 != i).foldl (fun d y => d + y.2 + nodeLatency n y.1 s) x.2

/-- Path delays of a node (04 R135, R136): of the copies launched on P1 and on P2. In a star both pass the module's
link, the coupler and the node's branch; in a line one of the two reaches the node. -/
def pathDelays (n : Fin 2) (i : Nat) (s : Rc8) : Nat × Nat :=
  let k := s.net[n]
  let links := linksOf n s
  if k.media.topo = .star then
    let branch := branchDelay links 0 i
    (sideDelay links.side1 0 + 1000 + branch, sideDelay links.side2 0 + 1000 + branch)
  else
    (sidePath n links 0 i s, sidePath n links 1 i s)

/-- PATH_DELAY work for a node (R166, R167). -/
def pathWork (n : Fin 2) (i : Nat) (s : Rc8) : MgmtWork :=
  let d := pathDelays n i s
  { target := i, code := 2, data := leS 4 d.1 ++ leS 4 d.2 }

/-- New link delays: the path delays of every node that is joining or has joined, a present partner among them, are computed anew, and
take the place of those not yet sent (04 R136; R576). -/
def renewPaths (n : Fin 2) (s : Rc8) : Rc8 :=
  if holdsToken s then
    let partner := if s.pair.partner.present then [partnerNode s] else []
    let l := (((s.net[n]).nodes.filter fun x => x.join != 0 && decide (x.idx < 62)).map (·.idx) ++ partner).map fun i => pathWork n i s
    modSch n (fun k => { k with work := k.work.filter (fun w => w.code != 2) ++ l }) s
  else s

/-! ### Offers and the switch (R175, R182) -/

/-- SCHEDULE_OFFER work for every joined node (R175). -/
def offerWork (n : Fin 2) (c : Schedule) (s : Rc8) : List MgmtWork :=
  ((s.net[n]).nodes.filter fun x => x.join == 3 && decide (x.idx < 62)).flatMap fun x => offerTo c x.idx

/-- The offer of a whole schedule to a module, which takes it from the management window (04 R141; R576). -/
def moduleOffer (c : Schedule) (i : Nat) : List MgmtWork :=
  (List.range (ceilDiv c.image.length offerSize)).map fun k =>
    { target := i, code := 3, data := le 2 c.id ++ le 4 k ++ slice c.image (offerSize * k) offerSize }

/-- The id SCHED_SWITCH names for a network. -/
def switchId (e : Exec) (n : Fin 2) : Nat := u16At e.req (2 + 2 * n.val)

/-- SCHED_SWITCH, step 5 (R182). -/
def checkSchedSwitch (e : Exec) (s : Rc8) : Option Status :=
  firstFail [(decide (u8At e.req 0 = 0 ∨ 3 < u8At e.req 0 ∨ u8At e.req 1 ≠ 0) || !allZero e.req 6 2, .badField),
    ((maskNets e).any (fun n => (storedSched n (switchId e n) s).isNone), .badField)]

/-- SCHED_SWITCH, step 6 (R182). -/
def checkSchedSwitchState (e : Exec) (s : Rc8) : Option Status :=
  if isStandby s ∨ switchRuns s ∨ (maskNets e).any (fun n => schedId n s == switchId e n) = true then some .wrongState else none

/-- The schedule a network would have after the switch. -/
def afterSwitch (e : Exec) (n : Fin 2) (s : Rc8) : Option Schedule :=
  if (maskNets e).contains n then storedSched n (switchId e n) s else (s.sch[n]).inForce

/-- A schedule goes to a present partner, which stores it where it does not hold it (R175). -/
def copySchedule (n : Fin 2) (c : Schedule) (s : Rc8) : Rc8 :=
  if s.pair.partner.present then plkSend 0x30 0 (.copy [.schedule n c.image]) s else s

/-- SCHED_SWITCH's own row (R175, R182). -/
def schedSwitch (e : Exec) (s : Rc8) : Rc8 :=
  if changeArmed s then endWith e.id .busy s
  else
    let bad := (maskNets e).findSome? fun n =>
      (storedSched n (switchId e n) s).bind fun c =>
        let other := afterSwitch e (if n = 0 then 1 else 0) s
        (switchCondition n c other s <|> schedRefusal n c other s).map fun k => (n, c.id, k)
    let s0 := (runPlanCheck (pendNow e s)).1
    match bad with
    | some (n, id, k) =>
      endWith e.id .badField
        (raise { src := 35 + 8 * n.val, reason := 0x04, sev := .error, p0 := id, p1 := 0, p2 := 3 } (scheduleRefused n id k e.port.val s0))
    | none =>
      tryFixSwitch ((maskNets e).foldl (fun s n =>
        match storedSched n (switchId e n) s with
        | none => s
        | some c => copySchedule n c <| modSch n (fun k => { k with
            pending := some { id := c.id, round := none, asked := u64At e.req 8, since := s.clk.refosc, exec := some e.id },
            work := k.work ++ offerWork n c s }) s) s0)

/-- At the boundary that opens the switch round the new schedule comes into force (R175, R176). -/
def switchBoundary (n : Fin 2) (s : Rc8) : Rc8 :=
  match (s.sch[n]).pending with
  | none => s
  | some w =>
    if w.round = some s.rnd.round then
      let old := schedId n s
      endOpt w.exec .done
        (updateMargins n
          (raise { src := 35 + 8 * n.val, reason := 0x03, sev := .notice, p0 := old, p1 := w.id, p2 := lo32 s.rnd.round }
            (putSchedule n w.id (modSch n (fun k => { k with pending := none }) s))))
    else s

/-! ### Deletion (R183, 10 R569) -/

/-- A stored schedule removed from a module. -/
def effSchedDelete (n id : Nat) (s : Rc8) : Rc8 :=
  { s with nv := { s.nv with schedules := vput s.nv.schedules n fun l => l.filter fun c => c.id != id }
           sch := vput s.sch n fun k => { k with kept := k.kept.filter fun x => x != id } }

/-- A standby whose deletion has failed still stores the schedule, and is not eligible for it (10 R569). -/
def keptSchedule (n id : Nat) (s : Rc8) : Rc8 :=
  { s with sch := vput s.sch n fun k => { k with kept := if k.kept.contains id then k.kept else id :: k.kept } }

/-- SCHED_DELETE, step 5 (R183). -/
def checkSchedDelete (e : Exec) (s : Rc8) : Option Status :=
  if 1 < netNum e ∨ (storedSched (netAt e 0) (u16At e.req 2) s).isNone = true then some .badField else none

/-- SCHED_DELETE, step 6 (R183). -/
def checkSchedDeleteState (e : Exec) (s : Rc8) : Option Status :=
  let n := netAt e 0
  let id := u16At e.req 2
  if isStandby s ∨ schedId n s = id ∨ ((s.sch[n]).pending.map (·.id)) = some id then some .wrongState else none

/-- SCHED_DELETE's own row: removed here, and the partner is told, now or when the link returns, and again while it has not
confirmed (R183, 10 R569). -/
def schedDelete (e : Exec) (s : Rc8) : Rc8 :=
  let n := netAt e 0
  let id := u16At e.req 2
  let s1 := raise { src := 35 + 8 * n.val, reason := 0x05, sev := .notice, p0 := id, p1 := e.port.val, p2 := 0 } (effSchedDelete n.val id s)
  let s2 := modSch n (fun k => { k with toDelete := k.toDelete ++ [(id, if s.pair.plk.up then some (plkNextSeq 0x20 s) else none)] })
    (plkSend 0x20 0 (.apply (.command 0x0413 e.req) 0) s1)
  endExec e.id .done [] s2

/-! ### Status commands (R180, R184, R185) -/

/-- SCHED_STATUS (R180). -/
def schedStatusResponse (e : Exec) (s : Rc8) : List Byte :=
  let n := netAt e 0
  let k := s.sch[n]
  let c := k.inForce
  let num := fun (p : WinSt → Bool) => k.wins.countP fun w => p w.st
  let ups := fun (p : WinSt → Bool) => num p
  le 2 (schedId n s) ++ le 2 ((k.pending.map (·.id)).getD 0) ++ zeros 4 ++ le 8 ((k.pending.bind (·.round)).getD 0) ++
  (List.range 4).flatMap (fun i => le 2 (((s.nv.schedules[n])[i]?.map (·.id)).getD 0)) ++
  le 4 ((c.map (·.capacity)).getD 0) ++ le 4 (capacityLimit s.rnd.period) ++ le 2 ((c.map (·.windows.length)).getD 0) ++
  le 2 ((c.map (·.axes.length)).getD 0) ++ le 2 ((c.map (·.nodeList.length)).getD 0) ++ le 2 (unconfirmed n s) ++
  le 2 (ups (· == .stale)) ++ le 2 (ups fun x => x == .lost || x == .returning) ++ le 2 (ups fun x => x == .new || x == .newReturning) ++
  le 2 k.stops.length ++ zeros 16

/-- One 32-byte block of channel counters (R184). -/
def chanBlock (k : ChanCount) : List Byte :=
  le 4 k.corrupt ++ le 4 k.late ++ le 4 k.valid ++ le 4 k.mismatching ++ le 4 k.missing ++ le 4 k.silent ++ zeros 8

/-- Window state codes (R185). -/
def WinSt.code : WinSt → Nat
  | .valid => 0 | .stale => 1 | .lost => 2 | .returning => 3 | .new => 4 | .newReturning => 5

/-- One 8-byte window entry (R185). -/
def winEntry (i : Nat) (w : Window) (x : WinState) : List Byte :=
  le 2 i ++ le 1 w.node ++ le 1 (if w.down then 0 else x.st.code) ++ le 2 (if w.down then 0 else x.age) ++ le 1 x.chans ++
  le 1 (flagBit x.missedFlag 0 + flagBit x.silenced 1)

/-- SCHED_WINDOW_STATUS (R185). -/
def windowStatusResponse (e : Exec) (s : Rc8) : List Byte :=
  let n := netAt e 0
  let ws := (((s.sch[n]).inForce.map (·.windows)).getD []).zip (s.sch[n]).wins
  let first := u16At e.req 2
  let l := ((ws.zip (List.range ws.length)).drop first).take 256
  padTo 2056 (le 2 l.length ++ le 2 ws.length ++ zeros 4 ++ l.flatMap fun x => winEntry x.2 x.1.1 x.1.2)

/-- Windows in force. -/
def windowCount (n : Fin 2) (s : Rc8) : Nat := (((s.sch[n]).inForce.map (·.windows.length))).getD 0

/-- SCHED_WINDOW_STATUS, step 5 (R185). -/
def checkWindowStatus (e : Exec) (s : Rc8) : Option Status :=
  if 1 < netNum e ∨ windowCount (netAt e 0) s ≤ u16At e.req 2 then some .badField else none

/-! ### Stop commands (R169, R186) -/

/-- NODE_STOP, step 5 (R186). -/
def checkNodeStop (e : Exec) (s : Rc8) : Option Status :=
  let t := u8At e.req 2
  firstFail [(decide (u8At e.req 0 = 0 ∨ 3 < u8At e.req 0 ∨ u8At e.req 1 < 1 ∨ 3 < u8At e.req 1), .badField),
    (t != 0xFF && (maskNets e).any (fun n => !(((s.sch[n]).inForce.map (·.nodeList)).getD []).contains t), .badField)]

/-- NODE_STOP, step 6 (R186). -/
def checkNodeStopState (e : Exec) (s : Rc8) : Option Status :=
  if isStandby s ∨ (maskNets e).any (fun n => (s.net[n]).state != .master) = true then some .wrongState else none

/-- A stop command queued on one network, with the next stop sequence (R169). -/
def queueStop (cmd target : Nat) (k : Sched) : Sched :=
  let q := (k.stopSeq + 1) % 65536
  { k with stopSeq := q, stops := k.stops ++ [{ cmd := cmd, target := target, seq := q, sent := 0 }] }

/-- NODE_STOP's own row (R186). -/
def nodeStop (e : Exec) (s : Rc8) : Rc8 :=
  let ns := maskNets e
  if ns.any fun n => decide (16 ≤ (s.sch[n]).stops.length) then endWith e.id .busy s
  else
    let s1 := ns.foldl (fun s n => modSch n (queueStop (u8At e.req 1) (u8At e.req 2)) s) s
    let seq := fun (n : Fin 2) => if ns.contains n then (s1.sch[n]).stopSeq else 0
    endExec e.id .done (le 2 (seq 0) ++ le 2 (seq 1) ++ zeros 4) s1

/-- SCHED_STATUS (R179). -/
def specSchedStatus : CmdSpec := { cls := .observe, urgent := true, len := lenIs 4, resp := fun _ => 64, fields := checkNetField, state := checkNetState }
/-- SCHED_LOAD (R179): the request length is 16 plus the block length, formed only from one in range. -/
def specSchedLoad : CmdSpec :=
  { cls := .engineer, len := blockLen, resp := blockResp, fields := checkSchedLoad, state := checkSchedLoadState }
/-- SCHED_SWITCH (R179). -/
def specSchedSwitch : CmdSpec := { cls := .engineer, len := lenIs 16, resp := fun _ => 8, fields := checkSchedSwitch, state := checkSchedSwitchState }
/-- SCHED_DELETE (R179). -/
def specSchedDelete : CmdSpec := { cls := .engineer, len := lenIs 4, fields := checkSchedDelete, state := checkSchedDeleteState }
/-- SCHED_CHANNEL_COUNTERS (R179). -/
def specSchedChannelCounters : CmdSpec := { cls := .observe, len := lenIs 4, resp := fun _ => 64, fields := checkNetField, state := checkNetState }
/-- SCHED_WINDOW_STATUS (R179). -/
def specSchedWindowStatus : CmdSpec := { cls := .observe, len := lenIs 4, resp := fun _ => 2056, fields := checkWindowStatus, state := checkNetState }
/-- NODE_STOP (R179). -/
def specNodeStop : CmdSpec := { cls := .operate, urgent := true, len := lenIs 4, resp := fun _ => 8, fields := checkNodeStop, state := checkNodeStopState }

/-! ### Meanings -/

/-- SCHED_STATUS (R180). -/
def execSchedStatus (p : Fin 4) (m : Fin 8) (s : State) : Answer := act (answer 0x0410 p m schedStatusResponse) s

/-- SCHED_LOAD (R181); `stored` is whether the read-back of this module matches. -/
def execSchedLoad (p : Fin 4) (m : Fin 8) (stored : Bool) (s : State) : Answer := act (runCmd 0x0411 p m (schedLoad stored)) s

/-- SCHED_SWITCH (R182). -/
def execSchedSwitch (p : Fin 4) (m : Fin 8) (s : State) : Answer := act (runCmd 0x0412 p m schedSwitch) s

/-- SCHEDULE_SWITCH_TIMEOUT (R182): 10 s without every confirmation. -/
def execScheduleSwitchTimeout (s : State) : Answer :=
  act (fun s =>
    match bothNets.findSome? fun n => (s.sch[n]).pending.filter fun w => w.round.isNone with
    | none => s
    | some w => failSwitch .tooLate 2 (atRefosc (w.since + 10000000000) s)) s

/-- SCHED_DELETE (R183). -/
def execSchedDelete (p : Fin 4) (m : Fin 8) (s : State) : Answer := act (runCmd 0x0413 p m schedDelete) s

/-- SCHED_CHANNEL_COUNTERS (R184). -/
def execSchedChannelCounters (p : Fin 4) (m : Fin 8) (s : State) : Answer :=
  act (answer 0x0414 p m fun e s => (vlist (s.sch[netAt e 0]).count).flatMap chanBlock) s

/-- SCHED_WINDOW_STATUS (R185). -/
def execSchedWindowStatus (p : Fin 4) (m : Fin 8) (s : State) : Answer := act (answer 0x0415 p m windowStatusResponse) s

/-- NODE_STOP (R186). -/
def execNodeStop (p : Fin 4) (m : Fin 8) (s : State) : Answer := act (runCmd 0x0416 p m nodeStop) s

end Sys2Proof.Machine
end

