-- ==== Sys2Proof/Machine/Images.lean ====
section
/-! DEFINITION. The process images the module writes and the station outputs it takes (03 R108; 05 R162; 08 R249,
R250). -/

namespace Sys2Proof.Machine

open Sys2Proof

/-- The image header: round, plant time of its start, flags (R250). -/
def imageHeader (flags : Nat) (s : Rc8) : List Byte :=
  let t := roundStart s
  le 8 s.rnd.round ++ le 8 (secOf t) ++ le 4 (nsOf t) ++ le 4 flags ++ zeros 40

/-- Feedback state codes (R250). -/
def FbSt.code : FbSt → Nat
  | .valid => 0 | .stale => 1 | .lost => 2

/-- The window part of an axis input entry: record, window state, feedback state, age (R250). An axis that no schedule maps has
no window: its record and age are 0, its window state reads NEW, as which R198 treats it (DESIGN CHOICE, log 18), and its feedback
state is that of 06 R198 and R199. -/
def axisEntry (a : Nat) (s : Rc8) : List Byte :=
  match axisPlace a s with
  | none => zeros 16 ++ le 1 WinSt.new.code ++ le 1 (feedbackOf a s).1.st.code ++ zeros 2
  | some p =>
    let w := winState p.net p.up s
    let isNew := w.st == .new || w.st == .newReturning
    (if isNew then zeros 16 else padTo 16 (axisRecord p s)) ++ le 1 w.st.code ++ le 1 (feedbackOf a s).1.st.code ++ le 2 w.age

/-- The status word and p_used the CEN gives for an axis (06 R213, R214). -/
def axisUsed (a : Nat) (s : Rc8) : List Byte :=
  let r := statusOf a s
  slice r 0 4 ++ slice r 8 8

/-- Flag bit 0 of the motion-class input image: shadow. -/
def shadowFlag (s : Rc8) : Nat := b2n (isStandby s)

/-- The 12 bytes of status word and p_used of an axis in an image. -/
def usedIn (img : List Byte) (a : Nat) : List Byte := padTo 12 (slice img (64 + 32 * a + 20) 12)

/-- The 20 bytes of its window part in an image. -/
def windowIn (img : List Byte) (a : Nat) : List Byte := padTo 20 (slice img (64 + 32 * a) 20)

/-- The field-front area of the image: on a standby that has the holder's readings, those (10 R320; 15 R484). -/
def programArea (s : Rc8) : List Byte :=
  if isStandby s && !s.pair.ownRound && s.ffe.holder != [] then s.ffe.holder.take 256 else s.ffe.area

/-- Generation of an input image: its round, and in it the publication at GATHER_DONE before the one at COMMIT, as header and flags
tell them (10 R309, R320: the spec names generations of these images and does not number them; DESIGN CHOICE, log 118). -/
def imageGen (img : List Byte) : Nat := 2 * u64At img 0 + (if bitAt (u32At img 20) 1 then 0 else 1)

/-- Images before the newest: one that another publication of its generation replaces is not kept (10 R320). -/
def pushPast (old new : List Byte) (l : List (List Byte)) : List (List Byte) := if imageGen old = imageGen new then l else (old :: l).take 4

/-- The motion-class input image is published. -/
def publishMotionIn (img : List Byte) (s : Rc8) : Rc8 := modRun (fun r => { r with motionIn := img, motionInPast := pushPast r.motionIn img r.motionInPast }) s

/-- The station-class input image is published. -/
def publishStationIn (img : List Byte) (s : Rc8) : Rc8 :=
  modRun (fun r => { r with stationIn := img, stationInPast := pushPast r.stationIn img r.stationInPast }) s

/-- The image of a generation, where it is the newest or kept (10 R320). -/
def pastImage (gen : Nat) (newest : List Byte) (past : List (List Byte)) : Option (List Byte) := (newest :: past).find? fun x => imageGen x == gen

/-- The motion-class input image at GATHER_DONE: status word and p_used are still those of the previous round
(R250, flag bit 1). -/
def motionGather (s : Rc8) : Rc8 :=
  let old := s.run.motionIn
  publishMotionIn (imageHeader (shadowFlag s + 2) s ++ (List.range 256).flatMap (fun a => axisEntry a s ++ usedIn old a) ++ padTo 256 (programArea s)) s

/-- The motion-class input image at COMMIT: status word and p_used of this round beside the windows as GATHER_DONE published
them (R250). -/
def motionCommit (s : Rc8) : Rc8 :=
  let old := s.run.motionIn
  publishMotionIn (imageHeader (shadowFlag s) s ++ (List.range 256).flatMap (fun a => windowIn old a ++ axisUsed a s) ++ padTo 256 (programArea s)) s

/-- The field-front inputs of a SAMPLE where no schedule gives a GATHER_DONE (03 R574). -/
def motionSample (s : Rc8) : Rc8 := if (anySched s).isSome then s else motionCommit (motionGather s)

/-- The station configuration of the active image (R244). -/
def stationConfig (s : Rc8) : List Byte := (s.nv.active.map fun x => x.sect 6).getD []

/-- One upstream station window's region: state, age, data (R250, R251). -/
def stationIn (n : Fin 2) (i : Nat) (img : List Byte) (s : Rc8) : List Byte :=
  let w := winState n i s
  let o := (Config.stationRegion (stationConfig s) n.val i).1
  overwrite (padTo (max img.length (o + 4 + w.content.length)) img) o (le 1 w.st.code ++ zeros 1 ++ le 2 w.age ++ w.content.drop 2)

/-- Upstream station windows of a network. -/
def stationWindows (n : Fin 2) (down : Bool) (s : Rc8) : List (Nat × Window) :=
  match (s.sch[n]).inForce with
  | none => []
  | some c => ((List.range c.windows.length).zip c.windows).filter fun x => x.2.station && x.2.down == down

/-- Station data arrived in the round on a network (03 R108). -/
def stationArrived (n : Fin 2) (s : Rc8) : Bool :=
  (stationWindows n false s).any fun x => (((s.sch[n]).sel[x.1]?).join).isSome

/-- The station-class input image published at GATHER_DONE of networks on one of which station data arrived: complete, with the
newest data and the status of every station of both networks (03 R108, R250). -/
def stationGather (l : List (Fin 2)) (s : Rc8) : Rc8 :=
  if l.any fun n => stationArrived n s then
    let img := bothNets.foldl (fun img n => (stationWindows n false s).foldl (fun img x => stationIn n x.1 img s) img) s.run.stationIn
    publishStationIn ((imageHeader (shadowFlag s) s ++ img.drop 64).take 65536) s
  else s

/-- A downstream station window as COMMIT takes it: with the next sequence and its owner's data where it is due,
else not valid (R162; 03 R108). -/
def stationOut (n : Fin 2) (i : Nat) (w : Window) (s : Rc8) : Rc8 :=
  if w.period != 0 && s.rnd.round % w.period == w.phase then
    let x := winState n i s
    let q := (x.seq + 1) % 32768
    let g := Config.stationRegion (stationConfig s) n.val i
    let data := slice (vget s.run.tasks g.2 Task.reset).stationOut g.1 (w.len - 2)
    modSch n (fun k => { k with wins := lmod k.wins i fun y => { y with seq := q }, tx := lmod k.tx i fun _ => padTo w.len (le 2 (32768 + q) ++ data) }) s
  else modSch n (fun k => { k with tx := lmod k.tx i fun _ => zeros w.len }) s

/-- Every downstream station window taken at COMMIT. -/
def stationCommit (s : Rc8) : Rc8 :=
  bothNets.foldl (fun s n => (stationWindows n true s).foldl (fun s x => stationOut n x.1 x.2 s) s) s

end Sys2Proof.Machine
end

