-- ==== Sys2Proof/Machine/Port.lean ====
section
/-! DEFINITION. Host ports: BAR0 registers, mailbox protocol, event rings, MSI-X, link and resets
(02 R43 to R75, R87 to R89; 19 R560). -/

namespace Sys2Proof.Machine

open Sys2Proof

/-! ### The PCI Express function (02 R42) -/

/-- What a host port's configuration space presents (*Table: Host port link options*). No command of the block reads it: it is
constant, and the bus alone carries configuration accesses and power states (log 96). -/
structure PcieFunction where
  vendor : Nat
  device : Nat
  classCode : Nat
  /-- BAR number, size in bytes, address width, prefetchable -/
  bars : List (Nat × Nat × Nat × Bool)
  maxPayload : Nat
  maxRead : Nat
  vectors : Nat
  advancedErrors : Bool
  /-- Device power states supported: D0 and D3hot -/
  powerStates : List Nat
deriving DecidableEq, Repr

/-- The function of every host port (R42). -/
def pcieFunction : PcieFunction :=
  { vendor := 0x1EB9, device := 0x0C80, classCode := 0x118000, bars := [(0, 0x10000, 32, false), (2, 0x1000000, 64, true)],
    maxPayload := 256, maxRead := 512, vectors := 4, advancedErrors := true, powerStates := [0, 3] }

/-! ### Mailbox header (02 R53) -/

/-- The sequence in the mailbox header. -/
def Mailbox.headerSeq (b : Mailbox) : Nat := u32At (memReadN b.mem 20 4) 0

/-- The no_irq flag in the mailbox header. -/
def Mailbox.noIrq (b : Mailbox) : Bool := (memRead b.mem 2).getLsbD 0

/-- Host bytes stored from an offset; a byte that is not enabled and the state byte are passed over. -/
def storeHost (mem : Mem) (off : Nat) : List (Option Byte) → Mem
  | [] => mem
  | x :: xs =>
    storeHost (match x with
      | none => mem
      | some b => if off = 18 then mem else memWrite mem off b) (off + 1) xs

/-- The byte a write carries into an offset of the mailbox, where it carries one. -/
def carried (off : Nat) (data : List (Option Byte)) (at_ : Nat) : Option Byte :=
  if off ≤ at_ then (data[at_ - off]?).join else none

/-- A host write to one mailbox, by the mailbox's state (02 R54, R55). -/
def mailboxHostWrite (p : Fin 4) (m : Fin 8) (off : Nat) (data : List (Option Byte)) (s : Rc8) : Rc8 :=
  match (s.hp[p]).mbx[m].state with
  | .free => modMbx p m (fun b => { b with mem := storeHost b.mem off data }) s
  | .done =>
    if carried off data 18 = some 0 then modMbx p m (fun b => { b with state := .free }) s
    else mailboxError p (m.castLE (by decide)) 3 s
  | .posted | .busy => mailboxError p (m.castLE (by decide)) 3 s

/-- A write to the mailbox range of BAR0: accepted where it lies within one mailbox (02 R44). -/
def mailboxRangeWrite (p : Fin 4) (off : Nat) (data : List (Option Byte)) (s : Rc8) : Rc8 :=
  let i := (off - 0x1000) / 0x1000
  let o := (off - 0x1000) % 0x1000
  if h : 0x1000 ≤ off ∧ i < 8 ∧ o + data.length ≤ 0x1000 then mailboxHostWrite p ⟨i, h.2.1⟩ o data s else s

/-- What acts on a port whose link is up (02 R43). -/
def whileLinked (p : Fin 4) (f : Rc8 → Rc8) (s : Rc8) : Rc8 := if (s.hp[p]).link then f s else s

/-- The port answers and takes accesses only while its link is up (02 R43); a frozen port discards every request (12
R403). -/
def whileUp (p : Fin 4) (f : Rc8 → Rc8) (s : Rc8) : Rc8 := if (s.hp[p]).link && !portFrozen p s then f s else s

/-- A doorbell write (02 R54): a repeated sequence is judged first, then a mismatch against the header. -/
def doorbell (p : Fin 4) (val : U32) (s : Rc8) : Rc8 :=
  let m : Fin 8 := ⟨(val.toNat % 8), Nat.mod_lt _ (by decide)⟩
  let b := (s.hp[p]).mbx[m]
  if b.state = .free then
    if b.lastSeq = some b.headerSeq then mailboxError p (m.castLE (by decide)) 2 s
    else if b.headerSeq % 2 ^ 24 = val.toNat / 256 then
      { modMbx p m (fun b => { b with state := .posted, lastSeq := some b.headerSeq, order := s.arrivals }) s with
        arrivals := s.arrivals + 1 }
    else mailboxDone p m b.noIrq (mailboxReply p m .badField [] s)
  else mailboxError p (m.castLE (by decide)) 1 s

/-! ### Event ring registers (02 R67, R71, R72) -/

/-- A write to EVQ_CTRL (R67). An enable clears the pending-loss count with the sequence it restarts
(DEDUCED, log 10). -/
def evqControl (val : U32) (q : Evq) : Evq :=
  if val.getLsbD 0 then
    if q.enable then q
    else if q.size < 6 ∨ 16 < q.size ∨ q.base = 0 ∨ q.headAddr = 0 then { q with configError := true }
    else { q with enable := true, head := 0, tail := 0, phase := true, seq := 0, lossCount := 0, uninterrupted := 0 }
  else { q with enable := false }

/-- A tail value lies in the range from tail to head, counted forward modulo the size (R71). -/
def Evq.tailValid (q : Evq) (t : Nat) : Bool :=
  decide (t < q.entries) &&
  decide ((t + q.entries - q.tail % q.entries) % q.entries ≤ (q.head + q.entries - q.tail % q.entries) % q.entries)

/-- EVENTS_LOST of a port (02 R72, R88). -/
def eventsLost (p : Fin 4) (q : Evq) : Ev :=
  { src := 120 + p.val, reason := 0x01, sev := .warning, p0 := q.lossCount, p1 := q.lossFirst, p2 := q.lossLast }

/-- A write to EVQ_TAIL: accepted in range, and EVENTS_LOST goes first into the space it frees (R71,
R72). -/
def evqTailWrite (p : Fin 4) (val : U32) (s : Rc8) : Rc8 :=
  let q := (s.hp[p]).evq
  let t := val.toNat % 65536
  if q.tailValid t then
    let s1 := modPort p (fun h => { h with evq := { h.evq with tail := t } }) s
    let q1 := (s1.hp[p]).evq
    if q1.enable && decide (0 < q1.lossCount) && !q1.full then
      raiseOwn p (eventsLost p q1) (modPort p (fun h => { h with evq := { h.evq with lossCount := 0 } }) s1)
    else s1
  else modPort p (fun h => { h with evq := { h.evq with tailError := true } }) s

/-- Reads of EVQ_LOST: the count, cleared in the same access (02 R17). -/
def evqLostRead (p : Fin 4) (s : Rc8) : Rc8 :=
  let q := (s.hp[p]).evq
  { modPort p (fun h => { h with evq := { h.evq with lost := 0 } }) s with out := s.out ++ [.readData p (le 4 q.lost)] }

/-- Reads of MBX_ERROR_COUNT: the count, cleared in the same access (02 R17). -/
def errorCountRead (p : Fin 4) (s : Rc8) : Rc8 :=
  let n := (s.hp[p]).mbxErrorCount
  { modPort p (fun h => { h with mbxErrorCount := 0 }) s with out := s.out ++ [.readData p (le 4 n)] }

/-- A write to EVQ_STATUS clears the error bits it names (02 R16). -/
def evqStatusWrite (val : U32) (q : Evq) : Evq :=
  { q with configError := q.configError && !val.getLsbD 2, tailError := q.tailError && !val.getLsbD 3,
           dmaError := q.dmaError && !val.getLsbD 4 }

/-! ### MSI-X (02 R47) -/

/-- A vector is unmasked: a message pending for it is sent (R47). -/
def unmaskVector (p v : Fin 4) (s : Rc8) : Rc8 :=
  let e := (s.hp[p]).msix[v]
  let s1 := modPort p (fun h => { h with msix := vmod h.msix v fun x => { x with masked := false, pend := false } }) s
  if e.pend then { s1 with out := s1.out ++ [.msix p v e.addr e.data] } else s1

/-- One 32-bit word of the MSI-X table written (PRESUMED: the entry layout of PCI Express, log 4). -/
def msixTableWrite (p : Fin 4) (o : Nat) (val : U32) (s : Rc8) : Rc8 :=
  let v : Fin 4 := ⟨o / 16 % 4, Nat.mod_lt _ (by decide)⟩
  let upd := fun f => modPort p (fun h => { h with msix := vmod h.msix v f }) s
  match o % 16 / 4 with
  | 0 => upd fun x => { x with addr := x.addr / 2 ^ 32 * 2 ^ 32 + val.toNat / 4 * 4 }
  | 1 => upd fun x => { x with addr := val.toNat * 2 ^ 32 + x.addr % 2 ^ 32 }
  | 2 => upd fun x => { x with data := val }
  | _ => if val.getLsbD 0 then upd fun x => { x with masked := true } else unmaskVector p v s

/-- One 32-bit word of the MSI-X table read. -/
def msixTableRead (h : HostPort) (o : Nat) : Nat :=
  let x := vget h.msix (o / 16) MsixVec.reset
  match o % 16 / 4 with
  | 0 => x.addr % 2 ^ 32
  | 1 => x.addr / 2 ^ 32
  | 2 => x.data.toNat
  | _ => b2n x.masked

/-! ### Port registers (02 R45, R46) -/

/-- A 32-bit aligned write to the register range. Registers of a ring that is enabled, reserved offsets
and read-only registers discard it (R44 to R46). DESIGN CHOICE: a write to EVQ_COAL stores its values and sends nothing; the
conditions of R73 are judged again at the next entry or at the timeout, of which R73 says nothing (log 10). -/
def portRegWrite (p : Fin 4) (off : Nat) (val : U32) (s : Rc8) : Rc8 :=
  let h := s.hp[p]
  let evq := fun f => modPort p (fun h => { h with evq := f h.evq }) s
  let locked := fun f => if h.evq.enable then s else evq f
  let v := val.toNat
  match off with
  | 0x10 => doorbell p val s
  | 0x18 => modPort p (fun h => { h with mbxDone := h.mbxDone &&& ~~~(val.setWidth 8) }) s
  | 0x1C => modPort p (fun h => { h with mbxError := h.mbxError &&& ~~~(val.setWidth 9) }) s
  | 0x40 => locked fun q => { q with base := q.base / 2 ^ 32 * 2 ^ 32 + v / 4096 * 4096 }
  | 0x44 => locked fun q => { q with base := v * 2 ^ 32 + q.base % 2 ^ 32 }
  | 0x48 => locked fun q => { q with size := v % 32 }
  | 0x4C => evq (evqControl val)
  | 0x50 => locked fun q => { q with headAddr := q.headAddr / 2 ^ 32 * 2 ^ 32 + v / 8 * 8 }
  | 0x54 => locked fun q => { q with headAddr := v * 2 ^ 32 + q.headAddr % 2 ^ 32 }
  | 0x58 => evqTailWrite p val s
  | 0x60 => evq fun q => { q with mask := q.mask.set 0 val }
  | 0x64 => evq fun q => { q with mask := q.mask.set 1 val }
  | 0x68 => evq fun q => { q with mask := q.mask.set 2 val }
  | 0x6C => evq fun q => { q with mask := q.mask.set 3 val }
  | 0x70 => evq fun q => { q with coalTime := v % 65536, coalCount := v / 65536 }
  | 0x78 => evq (evqStatusWrite val)
  | 0x90 => modPort p (fun h => { h with scratch := val }) s
  | _ => s

/-- MBX_STATE: two bits per mailbox (02 R45). -/
def mbxStateWord (h : HostPort) : Nat :=
  (vlist h.mbx).foldr (fun b acc => b.state.code + 4 * acc) 0

/-- HP_STATUS (02 R45). -/
def hpStatus (p : Fin 4) (s : Rc8) : Nat :=
  flagBit s.svpReady 0 + flagBit (holdsToken s) 1 + 4 * (rightsInForce p s).cls.code +
  flagBit (sessionOpen p s) 4 + 32 * s.run.key.code + 256 * s.run.mode.code

/-- The value a read of a register returns, without the effects of reading it (02 R45). -/
def portRegValue (p : Fin 4) (off : Nat) (s : Rc8) : Nat :=
  let h := s.hp[p]
  let q := h.evq
  match off with
  | 0x00 => 1 + 256 * p.val + 65536 * s.ident.slot
  | 0x04 => hpStatus p s
  | 0x14 => mbxStateWord h
  | 0x18 => h.mbxDone.toNat
  | 0x1C => h.mbxError.toNat
  | 0x20 => h.mbxErrorCount
  | 0x40 => q.base % 2 ^ 32
  | 0x44 => (h.latchBase.getD (q.base / 2 ^ 32))
  | 0x48 => q.size
  | 0x4C => b2n q.enable
  | 0x50 => q.headAddr % 2 ^ 32
  | 0x54 => (h.latchHead.getD (q.headAddr / 2 ^ 32))
  | 0x58 => q.tail
  | 0x5C => q.head + flagBit q.phase 16
  | 0x60 => (q.mask[0]).toNat
  | 0x64 => (q.mask[1]).toNat
  | 0x68 => (q.mask[2]).toNat
  | 0x6C => (q.mask[3]).toNat
  | 0x70 => q.coalTime + 65536 * q.coalCount
  | 0x74 => q.lost
  | 0x78 => flagBit q.enable 0 + flagBit q.full 1 + flagBit q.configError 2 +
            flagBit q.tailError 3 + flagBit q.dmaError 4
  | 0x80 => h.tickRound % 2 ^ 32
  | 0x84 => (h.latchTick.getD (h.tickRound / 2 ^ 32))
  | 0x90 => h.scratch.toNat
  | _ => 0

/-- What a read of a register does: _LO latches _HI for the next read of _HI, and the counts clear (02
R17, R45). DESIGN CHOICE: a read of _HI that no read of _LO has preceded since the last one returns the upper half as it stands,
which R45 leaves open (log 10). -/
def portRegReadEffect (off : Nat) (h : HostPort) : HostPort :=
  match off with
  | 0x40 => { h with latchBase := some (h.evq.base / 2 ^ 32) }
  | 0x44 => { h with latchBase := none }
  | 0x50 => { h with latchHead := some (h.evq.headAddr / 2 ^ 32) }
  | 0x54 => { h with latchHead := none }
  | 0x80 => { h with latchTick := some (h.tickRound / 2 ^ 32) }
  | 0x84 => { h with latchTick := none }
  | 0x20 => { h with mbxErrorCount := 0 }
  | 0x74 => { h with evq := { h.evq with lost := 0 } }
  | _ => h

/-- The state byte reads the mailbox's state, every other byte what is stored (02 R55). -/
def mailboxByte (b : Mailbox) (o : Nat) : Byte := if o = 18 then BitVec.ofNat 8 b.state.code else memRead b.mem o

/-- A read of the mailbox range: zero where it crosses two mailboxes (02 R44). -/
def mailboxRangeRead (p : Fin 4) (off width : Nat) (s : Rc8) : List Byte :=
  let b := vget (s.hp[p]).mbx ((off - 0x1000) / 0x1000) Mailbox.reset
  let o := (off - 0x1000) % 0x1000
  if o + width ≤ 0x1000 then (List.range width).map fun i => mailboxByte b (o + i) else zeros width

/-- A read of BAR0: the answer, and its effect. -/
def bar0Read (p : Fin 4) (off width : Nat) (s : Rc8) : Rc8 :=
  let reply := fun d t => { t with out := t.out ++ [Out.readData p d] }
  if 0x1000 ≤ off ∧ off < 0x9000 then reply (mailboxRangeRead p off width s) s
  else if width ≠ 4 ∨ off % 4 ≠ 0 then reply (zeros width) s
  else if off < 0x100 then reply (le 4 (portRegValue p off s)) (modPort p (portRegReadEffect off) s)
  else if 0x9000 ≤ off ∧ off < 0x9040 then reply (le 4 (msixTableRead (s.hp[p]) (off - 0x9000))) s
  else if off = 0x9800 then
    reply (le 4 ((vlist (s.hp[p]).msix).foldr (fun x acc => b2n x.pend + 2 * acc) 0)) s
  else reply (zeros 4) s

/-- A write to BAR0 outside the doorbell and mailbox rows. -/
def bar0Write (p : Fin 4) (off width : Nat) (val : U32) (s : Rc8) : Rc8 :=
  if 0x1000 ≤ off ∧ off < 0x9000 then
    mailboxRangeWrite p off ((le width val.toNat).map some) s
  else if width ≠ 4 ∨ off % 4 ≠ 0 then s
  else if off < 0x100 then portRegWrite p off val s
  else if 0x9000 ≤ off ∧ off < 0x9040 then msixTableWrite p (off - 0x9000) val s
  else s

/-! ### Link and resets (02 R43, 19 R560) -/

/-- Mailboxes of a port in one state. -/
def countMbx (h : HostPort) (st : MbxState) : Nat := (vlist h.mbx).countP fun b => b.state == st

/-- The port's BAR0 registers at their reset values, its mailboxes FREE; the last accepted sequences,
the completion log and the severity interval stay (02 R54, R87, R573). -/
def HostPort.afterReset (h : HostPort) (link : Bool) : HostPort :=
  { HostPort.reset with
    link := link, speed := if link then h.speed else 0, width := if link then h.width else 0,
    mbx := vmap (fun b => { b with state := .free }) h.mbx, highest := h.highest, log := h.log,
    logTotal := h.logTotal }

/-- Reset of one port (02 R43): POSTED mailboxes are discarded, the responses of BUSY ones will be,
ring and session end, registers return to reset, and LINK_DOWN is raised. -/
def portReset (p : Fin 4) (link : Bool) (s : Rc8) : Rc8 :=
  let h := s.hp[p]
  let posted := countMbx h .posted
  let busy := countMbx h .busy
  let s1 := { s with execs := s.execs.map fun e => if e.port == p && e.task.isNone then { e with portReset := true } else e }
  let s2 := modPort p (fun h => h.afterReset link) s1
  raise { src := 120 + p.val, reason := 0x04, sev := .warning, p0 := posted, p1 := busy, p2 := 0 }
    (endSession p 5 s2)

/-! ### Meanings -/

/-- MAILBOX_WRITE (02 R44, R54, R55). -/
def execMailboxWrite (p : Fin 4) (off : Nat) (data : List (Option Byte)) (s : State) : Answer :=
  actIf (decide (1 ≤ data.length ∧ data.length ≤ 256)) "MAILBOX_WRITE"
    (whileUp p (mailboxRangeWrite p off data)) s

/-- MAILBOX_FREE (02 R55): a write of 0 into the state byte. -/
def execMailboxFree (p : Fin 4) (m : Fin 8) (s : State) : Answer :=
  act (whileUp p (mailboxHostWrite p m 18 [some 0])) s

/-- MBX_DOORBELL (02 R54). -/
def execMbxDoorbell (p : Fin 4) (val : U32) (s : State) : Answer := act (whileUp p (doorbell p val)) s

/-- MBX_DONE (02 R16). -/
def execMbxDone (p : Fin 4) (val : U32) (s : State) : Answer :=
  act (whileUp p (portRegWrite p 0x18 val)) s

/-- MBX_ERROR (02 R16). -/
def execMbxError (p : Fin 4) (val : U32) (s : State) : Answer :=
  act (whileUp p (portRegWrite p 0x1C val)) s

/-- MBX_ERROR_COUNT read (02 R17). -/
def execMbxErrorCount (p : Fin 4) (s : State) : Answer := act (whileUp p (errorCountRead p)) s

/-- EVQ_CTRL (02 R67). -/
def execEvqCtrl (p : Fin 4) (val : U32) (s : State) : Answer :=
  act (whileUp p (portRegWrite p 0x4C val)) s

/-- EVQ_TAIL (02 R71, R72). -/
def execEvqTail (p : Fin 4) (val : U32) (s : State) : Answer := act (whileUp p (evqTailWrite p val)) s

/-- EVQ_LOST read (02 R17). -/
def execEvqLost (p : Fin 4) (s : State) : Answer := act (whileUp p (evqLostRead p)) s

/-- EVQ_STATUS (02 R16). -/
def execEvqStatus (p : Fin 4) (val : U32) (s : State) : Answer :=
  act (whileUp p (portRegWrite p 0x78 val)) s

/-- REGISTER_WRITE (02 R44 to R46): a write wider than 32 bits outside the mailbox range is discarded whatever it carries;
one into a mailbox is MAILBOX_WRITE's. -/
def execRegisterWrite (p : Fin 4) (off width : Nat) (val : U32) (s : State) : Answer :=
  actIf (decide (1 ≤ width ∧ width ≤ 256 ∧ (width ≤ 4 ∨ off < 0x1000 ∨ 0x9000 ≤ off))) "REGISTER_WRITE" (whileUp p (bar0Write p off width val)) s

/-- REGISTER_LO_READ (02 R45): a host read of BAR0; a _LO register latches its _HI. -/
def execRegisterLoRead (p : Fin 4) (off width : Nat) (s : State) : Answer :=
  actIf (decide (1 ≤ width ∧ width ≤ 512)) "REGISTER_LO_READ" (whileUp p (bar0Read p off width)) s

/-- BAR2_WRITE (02 R52): discarded, with MBX_ERROR.bar2_write set. -/
def execBar2Write (p : Fin 4) (s : State) : Answer := act (whileUp p (mailboxError p 8 4)) s

/-- MSIX_UNMASK (02 R47). -/
def execMsixUnmask (p v : Fin 4) (s : State) : Answer := act (whileUp p (unmaskVector p v)) s

/-- Speed codes of a link (02 R86). -/
def speedCode : LinkSpeed → Nat
  | .gt2_5 => 1 | .gt5 => 2 | .gt8 => 3

/-- Width codes of a link (02 R86). -/
def widthCode : LinkWidth → Nat
  | .x1 => 1 | .x2 => 2

/-- LINK_UP (02 R88). -/
def execLinkUp (p : Fin 4) (speed : LinkSpeed) (width : LinkWidth) (s : State) : Answer :=
  act (fun s => if (s.hp[p]).link || !s.pwr.powered then s else
    raise { src := 120 + p.val, reason := 0x03, sev := .notice, p0 := speedCode speed, p1 := widthCode width, p2 := 0 }
      (modPort p (fun h => { h with link := true, speed := speedCode speed, width := widthCode width }) s)) s

/-- LINK_DOWN (02 R43). -/
def execLinkDown (p : Fin 4) (s : State) : Answer := act (whileLinked p (portReset p false)) s

/-- FUNCTION_LEVEL_RESET (02 R43): as a link-down, with the link kept. -/
def execFunctionLevelReset (p : Fin 4) (s : State) : Answer := act (whileUp p (portReset p true)) s

/-- CONVENTIONAL_RESET (19 R560): PERSTn_N resets host port n alone; the link trains again after it. -/
def execConventionalReset (p : Fin 4) (s : State) : Answer := act (whileLinked p (portReset p false)) s

/-- EVQ_COALESCE_TIMEOUT (02 R73): the oldest uninterrupted entry has waited EVQ_COAL.time_us. -/
def execEvqCoalesceTimeout (p : Fin 4) (s : State) : Answer :=
  act (fun s =>
    let q := (s.hp[p]).evq
    if q.uninterrupted = 0 then s
    else sendVec p 0 (modPort p (fun h => { h with evq := { h.evq with uninterrupted := 0 } })
           (atRefosc (q.oldest + q.coalTime * 1000) s))) s

/-- EVQ_WRITE_FAILED (02 R74): head does not pass the event whose write failed. -/
def execEvqWriteFailed (p : Fin 4) (s : State) : Answer :=
  act (fun s =>
    let q := (s.hp[p]).evq
    if q.enable then
      modPort p (fun h => { h with evq :=
        { h.evq with enable := false, dmaError := true, lost := inc32 q.lost,
                     head := (q.head + q.entries - 1) % q.entries,
                     phase := if q.head = 0 then !q.phase else q.phase } }) s
    else s) s

/-! ### The end of a command (02 R54, R59, R87) -/

/-- COMMAND_COMPLETE of a command that had returned PENDING (02 R59, R88). -/
def commandComplete (e : Exec) (st : Status) : Ev :=
  { src := 120 + e.port.val, reason := 0x02, sev := .info, p0 := e.tag, p1 := e.code + 65536 * st.code, p2 := e.mbx.val }

/-- The entry of the completion log, newest first, 32 kept (R87). -/
def logCompletion (e : Exec) (st : Status) (s : Rc8) : Rc8 :=
  modPort e.port (fun h =>
    { h with log := ({ tag := e.tag, code := e.code, status := st, round := lo32 s.rnd.round, mbx := e.mbx.val : ComplEntry } :: h.log).take 32,
             logTotal := inc32 h.logTotal }) s

/-- Bytes of a service's result: its status and its response (08 R270). -/
def serviceBytes (st : Status) (resp : List Byte) : List Byte := le 2 st.code ++ resp

/-- A service's result waits for the next snapshot of its task; the holder forwards it (08 R270; 10 R309, R321). -/
def serviceResult (t : Fin 8) (result : List Byte) (s : Rc8) : Rc8 :=
  let s1 := { s with run := { s.run with tasks := vmod s.run.tasks t fun y => { y with results := y.results ++ [result] } } }
  if holdsToken s ∧ s.pair.partner.present = true then plkSend 0x14 0 (.service t.val result) s1 else s1

/-- A finished command is delivered: a service's to its task, else into its mailbox, or as COMMAND_COMPLETE and a log entry where the
mailbox was completed with PENDING; a port reset since discards the mailbox half (R43, R59). -/
def deliver (e : Exec) (st : Status) (resp : List Byte) (s : Rc8) : Rc8 :=
  match e.task with
  | some t => serviceResult t (serviceBytes st resp) s
  | none =>
  if e.pendingSent then
    let s1 := logCompletion e st s
    if e.portReset then s1 else raiseOwn e.port (commandComplete e st) s1
  else if e.portReset then s
  else mailboxDone e.port e.mbx e.noIrq (mailboxReply e.port e.mbx st resp s)

/-- Class and grants of an entry as RIGHTS_CHANGED carries them (R88). -/
def Rights.word (x : Rights) : Nat := x.cls.code + 256 * x.grants.toNat

/-- A SET_HOST_RIGHTS completes, and its entry is in force: RIGHTS_CHANGED under the issuing port, and a change of class ends the
target's session (R64, R66, R85). -/
def rightsComplete (e : Exec) (s : Rc8) : Rc8 :=
  match e.rights with
  | none => s
  | some (target, old) =>
    let new := s.nv.rights[target]
    let s1 := raise { src := 120 + e.port.val, reason := 0x05, sev := .notice, p0 := target.val, p1 := old.word, p2 := new.word } s
    if old.cls = new.cls then s1 else endSession target 6 s1

/-- COMMAND_EXECUTION_END (02 R54): a command whose execution has ended is delivered, once the rule epoch it waits for is
complete (12 R409); an entry of the host rights table takes effect with it (R66). -/
def execCommandExecutionEnd (id : Nat) (s : State) : Answer :=
  act (fun s =>
    match s.execs.find? fun e => e.id == id with
    | none => s
    | some e =>
      match e.phase with
      | .ended st resp => if e.rulesMet s then deliver e st resp (rightsComplete e { s with execs := s.execs.filter fun x => x.id != id }) else s
      | _ => s) s

/-- Commands whose chapter says that they never return PENDING, though they wait for a partner or a boundary: MILESTONE_WRITE
and ROUND_SET_PERIOD (03 R112), NET_SET_MEDIA (04 R145), SET_HOME (10 R338), and those of 12 R410. -/
def neverPends (code : Nat) : Bool := code == 0x0A41 || code == 0x0404 || code == 0x0703 || code == 0x0A42 || code / 256 == 0x09 || code / 256 == 0x0E || code / 256 == 0x00

/-- PENDING_COMPLETION (02 R59): 100 ms after the start of its execution a command that has not ended
completes its mailbox with PENDING. -/
def execPendingCompletion (id : Nat) (s : State) : Answer :=
  act (fun s =>
    match s.execs.find? fun e => e.id == id with
    | none => s
    | some e =>
      if e.phase = .waiting ∧ e.pendingSent = false ∧ e.task = none ∧ neverPends e.code = false then
        pendNow e (atRefosc (e.start + 100000000) s)
      else s) s

end Sys2Proof.Machine
end

