-- ==== Sys2Proof/Machine/Tasks.lean ====
section
/-! DEFINITION. Task releases, cycle ends, retained commits, program faults, and the runtime's own services (08
R247 to R260, R264, R270; 10 R321; 16 R511). -/

namespace Sys2Proof.Machine

open Sys2Proof

/-! ### Releases (08 R248, R255, R258, R259) -/

/-- Overrun limit and reaction of the active image. -/
def overrunRule (s : Rc8) : Nat × Nat := (s.nv.active.map fun x => (x.overrunLimit, x.overrunReaction)).getD (16, 1)

/-- The images a task uses, as bits (R245). -/
def taskImages (t : Fin 8) (s : Rc8) : Nat := ((s.run.tasks[t]).cfg.map (·.images)).getD 0

/-- A release decision goes to the partner, with the generations of the input images (10 R319, R320). -/
def tellRelease (t : Fin 8) (released : Bool) (time mono : Nat) (s : Rc8) : Rc8 :=
  if holdsToken s ∧ s.pair.partner.present = true then
    plkSend 0x12 0 (.release { task := t.val, released := released, time := time, mono := mono, gens := [imageGen s.run.motionIn, imageGen s.run.stationIn] }) s
  else s

/-- The release is skipped and counted as an overrun, with the reaction at the limit (R258, R259). -/
def skipRelease (t : Fin 8) (s : Rc8) : Rc8 :=
  let n := satAdd 255 (s.run.tasks[t]).consec 1
  let s1 := raiseLimited none { src := 17, reason := 0x01, sev := .warning, p0 := t.val, p1 := n, p2 := lo32 s.rnd.round }
    (modTask t (fun x => { x with overran := true, consec := n, overruns := inc32 x.overruns }) s)
  let rule := overrunRule s
  if rule.1 ≤ n ∧ (s.run.tasks[t]).limitRaised = false then
    let s2 := raise { src := 17, reason := 0x02, sev := .error, p0 := t.val, p1 := rule.2, p2 := lo32 s.rnd.round }
      (modTask t (fun x => { x with limitRaised := true }) s1)
    if rule.2 = 0 then faultStop 3 s2 else s2
  else s1

/-- The standby decides for itself: the pair link is down, or the round is computed on its own inputs (10 R319). -/
def ownDecides (s : Rc8) : Bool := !s.pair.plk.up || (s.pair.sourceKnown && s.pair.ownRound)

/-- Results the holder has forwarded for a task, oldest first. -/
def forwardedResults (t : Fin 8) (s : Rc8) : List (List Byte) := (s.pair.services.filter fun x => x.1 == t.val).map (·.2)

/-- Service results that a task's next snapshot delivers (R270): on the holder those that have come, and first what the holder before it
had forwarded; on the standby what the holder has forwarded, and in a round on its own inputs its own too (10 R319). -/
def dueResults (t : Fin 8) (s : Rc8) : List (List Byte) :=
  if isStandby s && !ownDecides s then forwardedResults t s
  else forwardedResults t s ++ ((s.run.tasks[t]).results.drop (if isStandby s then (forwardedResults t s).length else 0)).filter fun r => r != []

/-- Results left for a later snapshot: on the standby the places of those the holder has still to forward. -/
def laterResults (t : Fin 8) (s : Rc8) : List (List Byte) :=
  if isStandby s then
    let rest := (s.run.tasks[t]).results.drop (forwardedResults t s).length
    if ownDecides s then rest.filter fun r => r == [] else rest
  else []

/-- A cycle begins with its snapshot (R248, R255): the input images given and the results stand still for the cycle, and the
input snapshots are published to BAR2 (02 R49). -/
def beginWith (t : Fin 8) (debug : Bool) (time mono : Nat) (motion station : List Byte) (s : Rc8) : Rc8 :=
  let im := taskImages t s
  let s1 := if bitAt im 0 then bar2Publish 1 s.rnd.round s.clk.ptu motion s else s
  let s2 := if bitAt im 1 then bar2Publish 3 s.rnd.round s.clk.ptu station s1 else s1
  let s3 := modPair (fun q => { q with services := q.services.filter fun x => x.1 != t.val }) s2
  modTask t (fun x =>
    { x with st := .running, overran := false, debug := debug, newCode := false, seq := (x.seq + 1) % 2 ^ 64, lastRound := s.rnd.round, since := s.clk.refosc,
             snap := { motion := if bitAt im 0 then motion else [], station := if bitAt im 1 then station else [],
                       results := dueResults t s, time := time, mono := mono }, results := laterResults t s, wanted := 0 }) s3

/-- A cycle begins on the newest input images. -/
def beginCycle (t : Fin 8) (debug : Bool) (time mono : Nat) (s : Rc8) : Rc8 := beginWith t debug time mono s.run.motionIn s.run.stationIn s

/-- A release waits for the rules of new code. -/
def holdRelease (t : Fin 8) (time mono : Nat) (s : Rc8) : Rc8 :=
  modRun (fun r => { r with heldReleases := r.heldReleases ++ [(t, time, mono)] }) s

/-- A release as this module decides it: while the rules of new code are not complete, a cycle is held until they are (12
R409). -/
def ownRelease (t : Fin 8) (time mono : Nat) (s : Rc8) : Rc8 :=
  let x := s.run.tasks[t]
  match s.run.mode with
  | .stop => s
  | .run =>
    if x.st = .running then tellRelease t false time mono (skipRelease t s)
    else if x.st = .unused then s
    else if codeWaits s then holdRelease t time mono s
    else tellRelease t true time mono (beginCycle t false time mono s)
  | .layby =>
    if x.st = .halted ∧ x.wanted ≠ 0 then
      (if codeWaits s then holdRelease t time mono s else tellRelease t true time mono (beginCycle t true time mono s))
    else s

/-- The holder's decision for a task, oldest first, taken from those received. -/
def takeRelease (t : Fin 8) (s : Rc8) : Option RelMsg × Rc8 :=
  let l := s.pair.releases
  let i := l.findIdx fun r => r.task == t.val
  (l[i]?, modPair (fun q => { q with releases := l.eraseIdx i }) s)

/-- The images of a shadow snapshot: of the generations the holder names, where the task uses them; none while one of them is not
published here yet, as its own engine results of the round are not (10 R320, R321). -/
def shadowImages (t : Fin 8) (m : RelMsg) (s : Rc8) : Option (List Byte × List Byte) :=
  let im := taskImages t s
  match (if bitAt im 0 then pastImage (m.gens.getD 0 0) s.run.motionIn s.run.motionInPast else some []),
        (if bitAt im 1 then pastImage (m.gens.getD 1 0) s.run.stationIn s.run.stationInPast else some []) with
  | some a, some b => some (a, b)
  | _, _ => none

/-- The forwarded content of the round has come, where a schedule in force gives the round one (10 R321). -/
def contentCame (s : Rc8) : Bool := s.pair.fwdDone || (anySched s).isNone

/-- The oldest release of a task that waits on the standby, once what it needs is there: the holder's decision is followed, on its
images and with its times; on its own inputs the standby decides itself, and the holder's decision is dropped; a module that is no
standby any more decides itself too (10 R319, R321, R330). -/
def shadowOne (t : Fin 8) (s : Rc8) : Rc8 :=
  match (s.run.tasks[t]).held with
  | [] => s
  | (time, mono, _) :: rest =>
    let r := takeRelease t s
    let next := modTask t (fun x => { x with held := rest })
    if ownDecides s || !isStandby s then ownRelease t time mono (next r.2)
    else match r.1 with
    | none => s
    | some m =>
      if m.released = false then skipRelease t (next r.2)
      else if codeWaits s || !contentCame s then s
      else match shadowImages t m s with
      | none => s
      | some x => if (s.run.tasks[t]).st = .running then s else beginWith t false m.time m.mono x.1 x.2 (next r.2)

/-- Every release that waits on the standby. -/
def shadowAll (s : Rc8) : Rc8 := allTasks.foldl (fun s t => shadowOne t s) s

/-- A release on the standby waits for the holder's decision (10 R321); before its resync is complete it executes nothing in shadow
(10 R327), and where the mode releases no task there is nothing to follow. -/
def shadowRelease (t : Fin 8) (time mono : Nat) (s : Rc8) : Rc8 :=
  if !s.pair.synced || s.run.mode != .run || (s.run.tasks[t]).st == .unused then s
  else shadowOne t (modTask t (fun x => { x with held := x.held ++ [(time, mono, s.rnd.round)] }) s)

/-- A release as the module's role has it. -/
def decideRelease (t : Fin 8) (time mono : Nat) (s : Rc8) : Rc8 :=
  if isStandby s then shadowRelease t time mono s else ownRelease t time mono s

/-- The lockstep pair of a task's core: 0 AP0, 1 AP1 (R245). -/
def taskPair (t : Fin 8) (s : Rc8) : Fin 3 := if ((s.run.tasks[t]).cfg.map (·.core)).getD 0 < 2 then 0 else 1

/-- The task's cores run: a pair that a mismatch has halted runs nothing (12 R385). -/
def coreRuns (t : Fin 8) (s : Rc8) : Bool := (s.itg.pairs[taskPair t s]).st != .halted

/-- The core of a task (R245). -/
def taskCore (t : Fin 8) (s : Rc8) : Nat := ((s.run.tasks[t]).cfg.map (·.core)).getD 0

/-- The task's code is due: its cycle runs and its code has not ended. -/
def codeDue (t : Fin 8) (s : Rc8) : Bool := (s.run.tasks[t]).st == .running && !(s.run.tasks[t]).ending

/-- The task's code executes: its core runs, and no debugger halts it (12 R388, R389), and no task of higher priority on that core has
code due (R247). -/
def executes (t : Fin 8) (s : Rc8) : Bool :=
  codeDue t s && coreRuns t s && !s.itg.portHalts.getLsbD (taskCore t s) && allTasks.all fun u => decide (t ≤ u) || taskCore u s != taskCore t s || !codeDue u s

/-- TASK_RELEASE (R248): the clock stands at the milestone. -/
def taskRelease (t : Fin 8) (s : Rc8) : Rc8 :=
  match dueEntry 8 t.val s with
  | none => s
  | some e =>
    if !coreRuns t s then fireEntry e s else
    let s1 := fireEntry e s
    let time := roundStart s + e.off * fracPerNs
    let mono := s.run.mono + e.off
    decideRelease t time mono s1

/-! ### Cycle ends and retained commits (08 R248, R252, R254) -/

/-- RETAIN_COMMIT_FAILED, and the program fault (R254, R277). -/
def commitFailed (t cause bytes : Nat) (s : Rc8) : Rc8 :=
  programFault (raise { src := 18, reason := 0x03, sev := .error, p0 := t, p1 := cause, p2 := bytes } s)

/-- A cycle's retained changes join the commits; the head of the commits has its record in the journal (R252). A cycle that
exceeds the dirty limit commits nothing (R254). -/
def queueCommit (t : Fin 8) (g : List (Nat × List Byte)) (s : Rc8) : Rc8 :=
  if g = [] then modTask t (fun x => { x with lastCommit := 0 }) s
  else
    let limit := (s.nv.active.map (·.dirtyLimit)).getD 0
    if limit < 64 * g.length then commitFailed t.val 1 (64 * g.length) (modTask t (fun x => { x with lastCommit := 0 }) s)
    else
      let r := newRec t (s.run.tasks[t]).seq g
      let s1 := if s.run.commits = [] then { s with nv := { s.nv with journal := s.nv.journal ++ [r] } } else s
      modTask t (fun x => { x with lastCommit := 64 * g.length }) (modRun (fun u => { u with commits := u.commits ++ [r] }) s1)

/-- A cycle-end decision goes to the partner (10 R319). -/
def tellCycle (t : Fin 8) (published : Bool) (s : Rc8) : Rc8 :=
  if holdsToken s ∧ s.pair.partner.present = true then
    plkSend 0x13 0 (.cycleEnd { task := t.val, seq := (s.run.tasks[t]).seq, published := published }) s
  else s

/-- The holder's publication decision for the running cycle, where it has come (10 R321). -/
def holderPublished (t : Fin 8) (s : Rc8) : Option Bool :=
  if isStandby s then (s.pair.cycles.find? fun c => c.task == t.val && c.seq == (s.run.tasks[t]).seq).map (·.published) else none

/-- A shadow cycle's end waits for the holder's decision (10 R321). -/
def endWaits (t : Fin 8) (s : Rc8) : Bool := isStandby s && !ownDecides s && (holderPublished t s).isNone

/-- The outputs of a cycle are published (R248, R249). -/
def publishCycle (t : Fin 8) (o : CycleOut) (s : Rc8) : Rc8 :=
  let s1 := if t = 0 then publishMotion (o.motion.take 65536) s else s
  if bitAt (taskImages t s) 2 then publishStation t (o.station.take 65536) s1 else s1

/-- What the task's digest takes of a cycle: of the outputs, the bytes that the task publishes (10 R323). -/
def cycleDigest (t : Fin 8) (o : CycleOut) (published : Bool) (s : Rc8) : Rc8 :=
  let seq := (s.run.tasks[t]).seq
  chainStep (t.succ.castLE (by decide)) seq
    (le 8 seq ++ le 1 (b2n published) ++
     (if published then (if t = 0 then o.motion.take 65536 else []) ++ (if bitAt (taskImages t s) 2 then o.station.take 65536 else []) else []) ++
     o.granules.flatMap (fun g => le 4 g.1 ++ padTo 64 g.2) ++ o.requests) s

/-! ### Timers and edges (08 R256, R257; 09 R293, R294) -/

/-- An evaluation of a timer at a monotonic time, by the rules of IEC 61131-3 for its kind: its elapsed time counts from its
start to its preset (R256). -/
def Timer.evaluate (now : Nat) (x : Timer) (e : TimerEval) : Timer :=
  let since := fun (start : Option Nat) => min (now - start.getD now) e.preset
  let y := { x with input := e.input, preset := e.preset }
  match x.kind with
  | .ton =>
    let start := if e.input then some (x.start.getD now) else none
    { y with start := start, elapsed := since start, out := e.input && decide (e.preset ≤ since start) }
  | .tof =>
    let start := if e.input then none else if x.input then some now else x.start
    { y with start := start, elapsed := since start, out := e.input || (start.isSome && decide (since start < e.preset)) }
  | .tp =>
    let begun := if x.start.isNone ∧ e.input = true ∧ x.input = false then some now else x.start
    let done := begun.isSome && decide (e.preset ≤ since begun)
    let start := if done && !e.input then none else begun
    { y with start := start, elapsed := since start, out := begun.isSome && !done }

/-- A timer that has not been evaluated yet: idle, with its input state false (09 R293). -/
def Timer.new (t : Fin 8) (e : TimerEval) : Timer :=
  { inst := e.inst, task := t.val, kind := e.kind, input := false, start := none, elapsed := 0, preset := e.preset, out := false }

/-- The timers after a task's evaluation of one; a type change makes it new (09 R293). -/
def evalTimer (t : Fin 8) (now : Nat) (l : List Timer) (e : TimerEval) : List Timer :=
  let x := ((l.find? fun y => y.inst == e.inst && y.kind == e.kind).getD (Timer.new t e))
  l.filter (fun y => y.inst != e.inst) ++ [{ (x.evaluate now e) with task := t.val }]

/-- A detector at its first evaluation in a cycle; one that an online change brought takes its input as its previous state and
reports no edge (R257; 09 R294). -/
def firstEdge (t : Fin 8) (seq : Nat) (isNew : Bool) (old : Option Edge) (e : EdgeEval) : Edge :=
  let prev := match old with
    | some x => x.prev
    | none => isNew && e.input
  { inst := e.inst, task := t.val, prev := e.input, cycle := seq, rose := e.input && !prev, fell := !e.input && prev }

/-- The detectors after an evaluation of one: later ones of a cycle change nothing (R257). -/
def evalEdge (t : Fin 8) (seq : Nat) (isNew : Nat → Bool) (l : List Edge) (e : EdgeEval) : List Edge :=
  let old := l.find? fun y => y.inst == e.inst
  if (old.map fun y => y.cycle == seq && y.task == t.val).getD false then l
  else l.filter (fun y => y.inst != e.inst) ++ [firstEdge t seq (isNew e.inst) old e]

/-- The instance is new in the program that an online change brought (09 R294). -/
def newByChange (s : Rc8) (inst : Nat) : Bool := s.run.fresh.contains inst

/-- A cycle's evaluations of its timers and edge detectors, at its monotonic time. -/
def evalInstances (t : Fin 8) (o : CycleOut) (s : Rc8) : Rc8 :=
  let x := s.run.tasks[t]
  modRun (fun r => { r with timers := o.timers.foldl (evalTimer t x.snap.mono) r.timers, edges := o.edges.foldl (evalEdge t x.seq (newByChange s)) r.edges }) s

/-! ### The end of a cycle and of a commit -/

/-- The commit of an earlier cycle of the task is not complete (R252). -/
def commitBefore (t : Fin 8) (s : Rc8) : Bool := s.run.commits.any fun r => r.task == t.val && r.seq != (s.run.tasks[t]).seq

/-- The cycle is over (R248, R258, R266): its time is counted, and the task waits or halts. -/
def closeCycle (t : Fin 8) (us : Nat) (s : Rc8) : Rc8 :=
  let s1 := modTask t (fun y => { y with cycles := inc32 y.cycles, lastExec := us, longExec := max y.longExec us,
                                         consec := if y.overran then y.consec else 0, limitRaised := y.limitRaised && y.overran,
                                         debug := false, ending := false, parked := none, st := if s.run.mode = .layby then .halted else .waiting }) s
  if s.run.mode = .layby then finishLayby (taskHalted t 1 s1) else s1

/-- What a cycle leaves at its end: program data as it left them, outputs published unless it overran or ran under debug control, on
the standby if the holder published them (10 R321), retained changes committed. The cycle is over unless the commit of the cycle before
is not complete: then it waits for that (R252). -/
def handOver (t : Fin 8) (o : CycleOut) (s : Rc8) : Rc8 :=
  let x := s.run.tasks[t]
  let published := (holderPublished t s).getD (!x.overran && !x.debug)
  let s1 := if published then publishCycle t o s else s
  let s3 := queueCommit t o.granules (modRun (fun r => { r with retained := o.granules.foldl (fun m g => memWriteN m g.1 (padTo 64 g.2)) r.retained,
                                                                data := writeAll r.data o.data }) s1)
  let s4 := cycleDigest t o published (tellCycle t published (modPair (fun q => { q with cycles := q.cycles.filter fun c => !(c.task == t.val && decide (c.seq ≤ x.seq)) }) s3))
  if commitBefore t s then modTask t (fun y => { y with ending := true, parked := none }) s4 else closeCycle t (o.ns / 1000) s4

/-- The end of a task's code (R248); a shadow cycle waits at it for the holder's CYCLE_END (10 R321). -/
def cycleEnd (t : Fin 8) (o : CycleOut) (s : Rc8) : Rc8 :=
  if executes t s = false then s
  else
    let s0 := evalInstances t o (atRefosc ((s.run.tasks[t]).since + o.ns) s)
    if endWaits t s then modTask t (fun y => { y with ending := true, parked := some o }) s0 else handOver t o s0

/-- A shadow cycle that waits at its end goes on once the holder's decision has come, or the standby decides itself (10 R319, R321). -/
def endParked (t : Fin 8) (s : Rc8) : Rc8 :=
  match (s.run.tasks[t]).parked with
  | none => s
  | some o => if endWaits t s then s else handOver t o s

/-- Everything of the shadow execution that waits and can go on: cycle ends, then releases. -/
def shadowOn (s : Rc8) : Rc8 := shadowAll (allTasks.foldl (fun s t => endParked t s) s)

/-- The head of the commits is complete: the next one's record is written, and a cycle that waited for it is over (R252). -/
def nextCommit (s : Rc8) : Rc8 :=
  let rest := s.run.commits.drop 1
  let s1 := modRun (fun r => { r with commits := rest }) { s with nv := { s.nv with journal := s.nv.journal.dropLast ++ rest.take 1 } }
  allTasks.foldl (fun s t =>
    let x := s.run.tasks[t]
    if x.ending = true ∧ x.parked = none ∧ commitBefore t s = false then closeCycle t ((s.clk.refosc - x.since) / 1000) s else s) s1

/-- The commit word of the head's record is written. -/
def headCommitted (s : Rc8) : Bool := (s.nv.journal.getLast?.map (·.committed)).getD false

/-- What a conversion reads now: program data, and the retained area in use (09 R283, R289). -/
def convertSource (bad : Option Nat) (s : Rc8) : Source := { data := s.run.data, retained := retainArea s, bad := bad }

/-- The retained area in use, converted for a new image (09 R283, R291). -/
def convertedArea (old new : Image) (s : Rc8) : Mem := convertedRetained old new (convertSource none s)

/-- The second retained area, filled at preparation and kept abreast of every record applied until the waymark (09 R283). -/
def fillOther (s : Rc8) : Rc8 :=
  match s.nv.package, s.nv.active with
  | some k, some old => { s with nv := { s.nv with retain := s.nv.retain.set (otherBank s.nv.retainUse) (convertedArea old k.image s) } }
  | _, _ => s

/-- A record is applied to the area in use, and while a change is armed to the other (R252; 09 R283). -/
def applyRecord (r : JournalRec) (s : Rc8) : Rc8 :=
  let s1 := { s with nv := { s.nv with retain := vmod s.nv.retain s.nv.retainUse fun m => applyGranules m r } }
  if changeArmed s then fillOther s1 else s1

/-- RETAIN_COMMIT_DONE (R252, R254): the commit word, then the granules; a record that is committed fails no more. -/
def commitDone (step : CommitStep) (s : Rc8) : Rc8 :=
  match s.run.commits with
  | [] => s
  | r :: rest =>
    match step with
    | .word => { s with nv := { s.nv with journal := lmod s.nv.journal (s.nv.journal.length - 1) fun x => { x with committed := true } } }
    | .applied =>
      if headCommitted s then nextCommit (applyRecord r s) else s
    | .failed =>
      if headCommitted s then s
      else nextCommit (commitFailed r.task 2 (64 * r.granules.length) (modRun (fun x => { x with tasks := vput x.tasks r.task fun y =>
        if (rest.any fun q => q.task == r.task) then y else { y with lastCommit := 0 } }) s))

/-- An uncorrectable error in the retained area during a commit (12 R397): the commit cannot be verified, and a record that is
committed stays in the journal for the next start. -/
def commitLost (s : Rc8) : Rc8 :=
  match s.run.commits with
  | [] => s
  | r :: rest =>
    if headCommitted s then
      commitFailed r.task 2 (64 * r.granules.length) (modRun (fun x => { x with commits := rest }) { s with nv := { s.nv with journal := s.nv.journal ++ rest.take 1 } })
    else commitDone .failed s

/-! ### Services of the runtime (08 R270; 16 R511) -/

/-- A task whose code executes may call a service. -/
def whileRunning (t : Fin 8) (f : Rc8 → Rc8) (s : Rc8) : Rc8 := if executes t s then f s else s

/-- Requests of a task whose results no snapshot has delivered (R270). -/
def outstanding (t : Fin 8) (s : Rc8) : Nat :=
  (s.run.tasks[t]).results.length + s.run.channel.countP (fun r => r.task == t) + s.execs.countP fun e => e.task == some t

/-- Requests with effects outside the module, which the holder alone executes (R270; 16 R511). -/
def SvcCall.outside : SvcCall → Bool
  | .event .. => true
  | .record .. => true
  | .command code _ _ => code == 0x0302

/-- An urgent mailbox is posted (01 R31). -/
def urgentPosted (s : Rc8) : Bool := (vlist s.hp).any fun h => h.mbx[0].state == .posted

/-- The SVP serves and nothing stands before a request that comes now (01 R31). -/
def channelFree (s : Rc8) : Bool := s.svpReady && svpRuns s && !urgentPosted s && s.run.channel == []

/-- A request that a task places in its service channel (R270): BUSY while 16 are outstanding. The SVP serves it in the order of
01 R31, at once where nothing stands before it. On the standby it is not executed: its place is kept for the result that the
holder forwards, with `own`, the module's own result of a status read, for a round on its own inputs; one with effects outside the
module is counted (10 R319, R321). -/
def serviceRequest (t : Fin 8) (c : SvcCall) (own : List Byte) (serve : Rc8 → Rc8) (s : Rc8) : Rc8 :=
  if 16 ≤ outstanding t s then { s with out := s.out ++ [.serviceStatus t .busy []] }
  else if isStandby s then
    modRun (fun r => { r with notExecuted := if c.outside then inc32 r.notExecuted else r.notExecuted })
      (modTask t (fun y => { y with results := y.results ++ [own] }) s)
  else if channelFree s then serve s
  else modRun (fun r => { r with channel := r.channel ++ [{ task := t, call := c }] }) s

/-- Severity of a code (02 R68). -/
def Sev.ofCode : Nat → Sev
  | 0 => .info | 1 => .notice | 2 => .warning | 3 => .error | _ => .critical

/-- RAISE_EVENT as the SVP serves it (R270): a reason or severity out of range is refused, as a command's field is. -/
def serveEvent (t : Fin 8) (reason sev p0 p1 p2 : Nat) (s : Rc8) : Rc8 :=
  if reason = 0 ∨ 255 < reason ∨ 4 < sev then serviceResult t (serviceBytes .badField []) s
  else serviceResult t (serviceBytes .done []) (raise { src := 19, reason := reason, sev := Sev.ofCode sev, p0 := lo32 p0, p1 := lo32 p1, p2 := lo32 p2 } s)

/-- RECORD as the SVP serves it (16 R511): a record with a source-19 code, and no event. -/
def serveRecord (t : Fin 8) (code p0 p1 : Nat) (s : Rc8) : Rc8 :=
  if code / 256 ≠ 19 then serviceResult t (serviceBytes .badField []) s
  else serviceResult t (serviceBytes .done []) (recordEvent { src := 19, reason := code % 256, sev := .info, p0 := lo32 p0, p1 := lo32 p1, p2 := 0 } s)

/-- RAISE_EVENT as a task calls it. -/
def raiseEvent (t : Fin 8) (reason sev p0 p1 p2 : Nat) (s : Rc8) : Rc8 :=
  serviceRequest t (.event reason sev p0 p1 p2) [] (serveEvent t reason sev p0 p1 p2) s

/-- RECORD as a task calls it. -/
def recordRequest (t : Fin 8) (code p0 p1 : Nat) (s : Rc8) : Rc8 := serviceRequest t (.record code p0 p1) [] (serveRecord t code p0 p1) s

/-! ### Meanings -/

/-- TASK_RELEASE (R248). -/
def execTaskRelease (t : Fin 8) (s : State) : Answer := act (taskRelease t) s

/-- RETAIN_COMMIT_DONE (R252). -/
def execRetainCommitDone (step : CommitStep) (s : State) : Answer := act (commitDone step) s

/-- TASK_EXCEPTION (R264): a program fault of a task that runs. -/
def execTaskException (t : Fin 8) (s : State) : Answer := act (whileRunning t programFault) s

/-- TIME (R270): plant time and monotonic time of the release. -/
def execTimeService (t : Fin 8) (s : State) : Answer :=
  act (whileRunning t fun s => { s with out := s.out ++ [.timeReply t (s.run.tasks[t]).snap.time (s.run.tasks[t]).snap.mono] }) s

/-- TASK_INFO (R270): number, cycle sequence, overruns, mode. -/
def execTaskInfo (t : Fin 8) (s : State) : Answer :=
  act (whileRunning t fun s =>
    { s with out := s.out ++ [.taskInfo t (s.run.tasks[t]).seq (s.run.tasks[t]).overruns (s.run.tasks[t]).consec s.run.mode] }) s

/-- RAISE_EVENT (R270). -/
def execRaiseEvent (t : Fin 8) (reason sev p0 p1 p2 : Nat) (s : State) : Answer := act (whileRunning t (raiseEvent t reason sev p0 p1 p2)) s

/-- RECORD (16 R511). -/
def execRecordService (t : Fin 8) (code p0 p1 : Nat) (s : State) : Answer := act (whileRunning t (recordRequest t code p0 p1)) s

end Sys2Proof.Machine
end

