-- ==== Sys2Proof/Machine/Change.lean ====
section
/-! DEFINITION. Online change: the package, its load, arm, waymark, abort and status (09). -/

namespace Sys2Proof.Machine

open Sys2Proof

/-- The change's state changed. -/
def modChg (f : Change → Change) (s : Rc8) : Rc8 := { s with chg := f s.chg }

/-! ### The package (09 R278 to R282) -/

/-- Offset and length of a package section: 0 image, 1 engine blocks, 2 learning configurations, 3 and 4
schedules. -/
def packSection (b : List Byte) (i : Nat) : List Byte := (b.drop (u32At b (80 + 8 * i))).take (u32At b (84 + 8 * i))

/-- Records of a size in a section. -/
def packRecords (size : Nat) (b : List Byte) : List (List Byte) := (List.range (b.length / size)).map fun i => slice b (size * i) size

/-- A package field by field. -/
def parsePackage (b : List Byte) : Package :=
  { id := u64At b 8, base := u64At b 16, newId := u64At b 24, timeout := u32At b 72, marked := u8At b 76, strict := bitAt (u8At b 77) 0,
    image := parseImage (packSection b 0), engine := (packRecords 772 (packSection b 1)).map fun r => (u16At r 0, r.drop 4),
    learn := (packRecords 68 (packSection b 2)).map fun r => (u16At r 0, r.drop 4),
    scheds := vgen 2 fun n => if packSection b (3 + n) = [] then none else some (packSection b (3 + n)), check := u32At b 36 }

/-- The package carries a schedule. -/
def Package.hasSched (k : Package) : Bool := (k.scheds[0]).isSome || (k.scheds[1]).isSome

/-- The affected tasks, as a mask (R279). -/
def affectedMask (k : Package) (old : Image) : Nat :=
  let entries := ((List.range 8).filter fun t => k.image.task t != old.task t).foldl (fun m t => m ||| 2 ^ t) 0
  let t0 := if k.engine != [] || k.learn != [] || k.hasSched then 1 else 0
  k.marked ||| entries ||| changedTasks old k.image ||| t0

/-- Affected tasks configured in the active image. -/
def affectedTasks (k : Package) (s : Rc8) : List (Fin 8) :=
  match s.nv.active with
  | none => []
  | some old => allTasks.filter fun t => bitAt (affectedMask k old) t.val && (old.task t.val).period != 0

/-- Converted bytes of a package (R282). -/
def convertedBytes (k : Package) (s : Rc8) : Nat := (s.nv.active.map fun old => conversionBytes old k.image).getD 0

/-- No two records of a section name one axis, and none names an axis beyond 255. -/
def axesOnce (l : List Nat) : Bool := l.all (fun a => decide (a ≤ 255) && l.count a == 1)

/-- A package's schedule for a network, else the one in force. -/
def packSched (k : Package) (n : Fin 2) (s : Rc8) : Option Schedule :=
  match k.scheds[n] with
  | some img => some (parseSchedule img)
  | none => (s.sch[n]).inForce

/-- A schedule section is a schedule image for its network, with the topology and period in force (R278, R280; 05 R156). -/
def packSchedOk (k : Package) (n : Fin 2) (s : Rc8) : Bool :=
  match k.scheds[n] with
  | none => true
  | some img =>
    configured n s && schedCond1 img (s.net[n]).media s.rnd.period img.length (u16At img 2) n.val &&
    (schedConditions (parseSchedule img) (packSched k (if n = 0 then 1 else 0) s)).isNone

/-- Every header field and section record lies within its range (R278). -/
def packFieldsOk (b : List Byte) (s : Rc8) : Bool :=
  let k := parsePackage b
  u32At b 0 == 0x31474843 && u16At b 4 == 1 && u32At b 32 == b.length && decide (b.length ≤ 537121152) &&
  decide (100 ≤ k.timeout ∧ k.timeout ≤ 600000) && k.newId == k.image.id &&
  ((List.range 5).all fun i => sectionOk 256 b.length (u32At b (80 + 8 * i), u32At b (84 + 8 * i))) &&
  (packSection b 1).length % 772 == 0 && (packSection b 2).length % 68 == 0 && axesOnce (k.engine.map (·.1)) && axesOnce (k.learn.map (·.1)) &&
  k.engine.all (fun x => paramBlockOk x.2) && k.learn.all (fun x => learnCfgOk (parseLearn x.2)) &&
  decide ((packSection b 3).length ≤ 17472 ∧ (packSection b 4).length ≤ 17472) && packSchedOk k 0 s && packSchedOk k 1 s && imageFieldsOk k.image.bytes s && coresPresent k.image s

/-- The check values and digests of the package, its image and its schedules are correct (R278). -/
def packIntact (b : List Byte) : Bool :=
  crcWithout b 36 == u32At b 36 && sha256 (b.drop 256) == slice b 40 32 && imageIntact (packSection b 0) &&
  ([3, 4].all fun i => packSection b i == [] || schedCrcOk (packSection b i))

/-- A station configuration changes only together with a schedule for every network it touches (R280). -/
def stationsOk (k : Package) (old : Image) : Bool :=
  let nets := Config.stationChange (old.sect 6) (k.image.sect 6) % 4
  k.image.sect 6 == old.sect 6 || (k.hasSched && (!bitAt nets 0 || k.scheds[0].isSome) && (!bitAt nets 1 || k.scheds[1].isSome))

/-- No item of *Table: Items a package cannot change* changes (R280), and both mapping tables can be compared (R300). -/
def packItemsOk (k : Package) (old : Image) : Bool :=
  let new := k.image
  (Config.places old).isSome && (Config.places new).isSome && new.level == old.level && decide (new.authority ≤ old.authority) && stationsOk k old &&
  (List.range 8).all fun t => (new.task t).period == 0 || (old.task t).period == 0 || (new.task t).core == (old.task t).core

/-! ### CHANGE_LOAD (09 R300) -/

/-- CHANGE_LOAD, step 5: the conditions of 08 R274, up to the longest package of R278 (DESIGN CHOICE, log 16). -/
def checkChangeLoad (e : Exec) (s : Rc8) : Option Status := checkBlock 512 537121152 s.chg.load e.req

/-- A stored package on a module: kept, with its image in the loaded slot (R281, R284). An empty one stands for the load that
opens, which discards the package kept. -/
def effChangeLoad (b : List Byte) (s : Rc8) : Rc8 :=
  let k := parsePackage b
  if b = [] then dropPackage s else
  modChg (fun c => { c with st := .loaded }) { s with nv := { s.nv with package := some k, loaded := some k.image } }

/-- CHANGE_LOADED (R304). -/
def ownChangeLoad (port : Nat) (b : List Byte) (s : Rc8) : Rc8 :=
  let k := parsePackage b
  raise { src := 24, reason := 0x01, sev := .notice, p0 := lo32 k.id, p1 := lo32 k.newId, p2 := port } (modChg (fun c => { c with load := c.load.filter fun l => l.finishing.isNone }) (effChangeLoad b s))

/-- The last block (R300). -/
def finishChange (e : Exec) (b : List Byte) (stored : Bool) (s : Rc8) : Rc8 :=
  let s1 := pendNow e s
  let fail := fun st => endWith e.id st (modChg (fun c => { c with load := none }) s1)
  let k := parsePackage b
  match s.nv.active with
  | none => fail .wrongState
  | some old =>
    if !packIntact b then fail .integrityFail
    else if !packFieldsOk b s then fail .badField
    else if k.base ≠ old.id then fail .wrongState
    else if !packItemsOk k old ∨ 4194304 < convertedBytes k s then fail .badField
    else if !stored then fail .integrityFail
    else pairStore e.id (.command 0x0201 b) 0 [] false (ownChangeLoad e.port.val b) s1

/-- CHANGE_LOAD's own row. -/
def changeLoad (stored : Bool) (e : Exec) (s : Rc8) : Rc8 :=
  if changeArmed s ∨ BlockLoad.runs s.run.load s ∨ s.run.activating.isSome then endWith e.id .busy s
  else
    let l := blockTake s.chg.load e
    let s1 := modChg (fun c => { c with load := some l }) (if u32At e.req 8 = 0 then discardPackage s else s)
    if blockLast e.req then finishChange e l.data stored s1 else endExec e.id .done (blockResponse l) s1

/-! ### Undoing and abandoning (09 R284, R290, R304) -/

/-- The table of an axis before the waymark's move takes its place again. Where the conversion has failed at the boundary, the
axis keeps its old configuration, and its old table moves back after COMMIT of the waymark round; until then it forms r = 0 and does
not learn (R290). A candidate that is missed lies in the gap itself, and its table moves back in it (DEDUCED, log 62). -/
def restoreTable (skip : Bool) (x : Nat × Learn) (s : Rc8) : Nat × Learn :=
  match x.2.oldTable with
  | none => x
  | some t =>
    let cfg := ((s.nv.learnCfg.find? fun y => y.1 == x.1).map (·.2)).getD LearnCfg.reset
    if skip then
      (x.1, { x.2 with cfg := cfg, oldTable := none, skip := true, move := some { why := 5, round := s.rnd.round, cfg := cfg, table := t, exec := none } })
    else (x.1, { x.2 with table := t, cfg := cfg, oldTable := none })

/-- The change is undone: the second code area is released and the second retained area abandoned, pending resamples are discarded,
tables restored, and a switch that is not fixed withdrawn (R284). -/
def undoChange (skip : Bool) (s : Rc8) : Rc8 :=
  let s1 := { s with learn := s.learn.map fun x =>
    let y := restoreTable skip x s
    (y.1, { y.2 with move := y.2.move.filter fun m => m.why != 3 }) }
  let s2 := bothNets.foldl (fun s n =>
    match (s.sch[n]).pending with
    | some w => if w.exec.isNone ∧ w.round.isNone then modSch n (fun k => { k with pending := none, work := k.work.filter fun x => x.code != 3 }) s else s
    | none => s) s1
  modChg (fun c => { c with st := .loaded, candidate := none, confirmed := [], fixed := false, deadline := none, exec := none, aborts := [], failed := none,
                            undone := s.rnd.round }) (secondCode [] s2)

/-- The status with which CHANGE_ARM ends for an abandon cause (R301). -/
def abandonStatus (cause : Nat) : Status :=
  if cause = 2 then .tooLate else if cause = 3 ∨ cause = 4 then .badField else if cause = 5 ∨ cause = 7 then .integrityFail else .wrongState

/-- The aborts that wait for the candidate end (R297). -/
def endAborts (st : Status) (s : Rc8) : Rc8 := s.chg.aborts.foldl (fun s id => endWith id st s) s

/-- CHANGE_ABANDONED with a cause (R284, R304); the partner undoes its part. -/
def abandon (cause cond : Nat) (s : Rc8) : Rc8 :=
  let s0 := if holdsToken s then tellPartner (.command 0x0203 (le 1 cause)) s else s
  let s1 := endOpt s.chg.exec (abandonStatus cause) (endAborts .done s0)
  raise { src := 24, reason := 0x05, sev := .error, p0 := cause, p1 := lo32 s.rnd.round, p2 := cond }
    (modChg (fun c => { c with result := 2, cause := cause }) (undoChange (cause == 5) s1))

/-- A crossover or a reset of the holder meets the change (R296): a change not fixed by a schedule is
abandoned. -/
def changeInterrupted (s : Rc8) : Rc8 :=
  if changeArmed s ∧ s.chg.fixed = false then abandon 6 0 s else modChg (fun c => { c with load := none }) s

/-! ### CHANGE_ARM (09 R285 to R287, R301) -/

/-- CHANGE_ARM, step 5. -/
def checkChangeArm (e : Exec) (s : Rc8) : Option Status :=
  let t := u32At e.req 8
  firstFail [(decide (t ≠ 0 ∧ (t < 100 ∨ 600000 < t)), .badField), (((s.nv.package.map fun k => k.id != u64At e.req 0).getD false), .badField)]

/-- CHANGE_ARM, step 6. -/
def checkChangeArmState (_ : Exec) (s : Rc8) : Option Status :=
  firstFail [(isStandby s || s.chg.st != .loaded, .wrongState),
    (((s.nv.package.map (·.base)) != s.nv.active.map (·.id)), .wrongState),
    ((vlist s.run.tasks).any (fun t => t.st == .breakpoint), .wrongState),
    (s.pair.partner.present && s.pair.partner.role != 3, .wrongState), (s.run.key == .run, .wrongKeyPosition)]

/-- Something else is about to move what the waymark moves (R301). -/
def changeBlocked (s : Rc8) : Bool :=
  s.eng.swapAt.isSome || switchRuns s || opWaits 0x0A41 s || s.execs.any (fun x => x.code == 0x0A41 && x.phase == .waiting) ||
  (List.range 256).any fun a => learnPending a s

/-- A network whose store of schedules has no room for the package's (05 R181). -/
def storeFull (k : Package) (s : Rc8) : Bool :=
  bothNets.any fun n =>
    match k.scheds[n] with
    | none => false
    | some img => (storedSched n (parseSchedule img).id s).isNone && decide (4 ≤ s.nv.schedules[n].length)

/-- The program's part of preparation (R285, step 3): the new code in the second code area, the new instances that overlap no live
memory, and the second retained area. -/
def prepareProgram (k : Package) (s : Rc8) : Rc8 :=
  match s.nv.active with
  | none => s
  | some old => fillOther (modRun (fun r => { r with data := writeAll r.data (preparedData old k.image) }) (secondCode (k.image.sect 0) s))

/-- What preparation does on a module (R285, steps 3 to 6): the program's part, the shadow bank, whose generation counts each block
written over the copy (06 R210), the resamples, the schedules. Engine blocks switch the engine's domain on (01 R39). -/
def effPrepare (s : Rc8) : Rc8 :=
  match s.nv.package with
  | none => s
  | some k =>
    let s0 := prepareProgram k (if k.engine = [] then s else domainOn 4 s)
    let s1 := modBank (shadowBank s) (fun b => { b with blocks := k.engine.foldl (fun l x => assocPut l x.1 x.2) b.blocks, generation := (b.generation + k.engine.length) % 2 ^ 32 }) (effBankCopy s0)
    let s2 := k.learn.foldl (fun s x =>
      let c := parseLearn x.2
      let l := (learnOf x.1 s).cfg
      if c.k != l.k || c.exp != l.exp then armResample 3 none x.1 c s else s) s1
    if storeFull k s then s2 else
    bothNets.foldl (fun s n =>
      match k.scheds[n] with
      | none => s
      | some img =>
        let c := parseSchedule img
        let s3 := if (storedSched n c.id s).isSome then s else effSchedStore n.val img s
        modSch n (fun q => { q with pending := some { id := c.id, round := none, asked := 0, since := s.clk.refosc, exec := none }, work := q.work ++ offerWork n c s3 }) s3) s2

/-- CHANGE_ARM on a standby: it prepares with the holder, and is ARMED with the first candidate it hears of (R284, R285, R295). -/
def effArm (s : Rc8) : Rc8 := effPrepare (modChg (fun c => { c with st := .preparing, candidate := none, fixed := false, missed := 0, cut := 0 }) s)

/-- The candidate period P: the least common multiple of the affected tasks' periods in the active image
(R286). -/
def candidatePeriod (s : Rc8) : Nat :=
  match s.nv.package, s.nv.active with
  | some k, some old => ((affectedTasks k s).map fun t => (old.task t.val).period).foldl Nat.lcm 1
  | _, _ => 1

/-- The plan after the change (R285, step 1). -/
def changePlan (k : Package) (s : Rc8) : PlanIn :=
  let bank : Bank := { blocks := k.engine.foldl (fun l x => assocPut l x.1 x.2) s.nv.banks[s.nv.bankActive].blocks, generation := 0 }
  { planNow s with scheds := #v[packSched k 0 s, packSched k 1 s], axes := bank.configured, entries := imageEntries k.image ++ s.rnd.host }

/-- First releases of affected tasks under the new table that can fall in a waymark round, a multiple of P (R289). -/
def waymarkReleases (k : Package) (s : Rc8) : List Nat :=
  match s.nv.active with
  | none => []
  | some old => (List.range 8).filterMap fun t =>
      let e := k.image.task t
      if bitAt (affectedMask k old) t && e.period != 0 && e.phase % Nat.gcd (candidatePeriod s) e.period == 0 then some e.offset else none

/-- Bytes that conversion and table moves may take at the waymark (R289; 07 R237). -/
def budgetsOk (k : Package) (s : Rc8) : Bool :=
  let sched := packSched k 0 s <|> packSched k 1 s
  let es := (sched.map (·.engineStart)).getD s.rnd.period
  let cm := ((anySched s).map (·.commit)).getD 0
  let first := (waymarkReleases k s).foldl min es
  let units := 2 + b2n (s.itg.pairs[0].st == .split) + b2n (s.itg.pairs[1].st == .split)
  let moving := k.learn.filter fun x => let c := parseLearn x.2; let l := (learnOf x.1 s).cfg; c.k != l.k || c.exp != l.exp
  let bytes := (moving.map fun x => 4 * (parseLearn x.2).n).sum
  decide (convertedBytes k s ≤ units * (first - 2000)) && decide (bytes ≤ moveBudget s.rnd.period cm es)

/-- The first of conditions 1 to 11 that a schedule of the package fails before its switch, with network and id (05 R156). -/
def packRefused (k : Package) (s : Rc8) : Option (Fin 2 × Nat × Nat) :=
  bothNets.findSome? fun n =>
    (k.scheds[n]).bind fun img =>
      let c := parseSchedule img
      (switchCondition n c (packSched k (if n = 0 then 1 else 0) s) s).map fun i => (n, c.id, i)

/-- The step of preparation that fails, as abandon cause and condition: the schedules' conditions and the plan, then the budgets (R285,
steps 1 and 2; 05 R156), then a store without room (step 6). A condition of a schedule is named by its number there (DESIGN CHOICE, log 16). -/
def prepareFails (k : Package) (s : Rc8) : Option (Nat × Nat) :=
  match packRefused k s with
  | some f => some (3, f.2.2)
  | none =>
    match planCheck (changePlan k s) with
    | some f => some (3, f.1)
    | none => if !budgetsOk k s then some (4, 0) else if storeFull k s then some (7, 0) else none

/-- CHANGE_ARM's own row: the timeout starts and preparation begins; it stops at the first step that fails (R284, R285,
R287). -/
def changeArm (e : Exec) (s : Rc8) : Rc8 :=
  match s.nv.package with
  | none => endWith e.id .wrongState s
  | some k =>
    if s.chg.st ≠ .loaded then endWith e.id .wrongState s
    else if changeBlocked s then endWith e.id .busy s
    else
      let ms := if u32At e.req 8 = 0 then k.timeout else u32At e.req 8
      let fails := prepareFails k s
      let s0 := match packRefused k s with
        | some f => scheduleRefused f.1 f.2.1 f.2.2 e.port.val s
        | none => s
      let s1 := modChg (fun c => { c with st := .preparing, exec := some e.id, deadline := some (e.start + ms * 1000000), notBefore := u64At e.req 16,
                                          candidate := none, confirmed := [], fixed := false, missed := 0, cut := 0, failed := fails }) (pendNow e s0)
      if fails.any fun f => f.1 != 7 then s1
      else effPrepare (if s.pair.partner.present then plkSend 0x20 0 (.apply (.command e.code e.req) 0) s1 else s1)

/-- The first multiple of P at or after a round. -/
def nextMultiple (p r : Nat) : Nat := ceilDiv r p * p

/-- How many candidates are offered at once: those within 1 ms of the next, so that each can be confirmed 500 µs before it
(R286). -/
def offersAhead (s : Rc8) : Nat := 1 + 1000000 / (candidatePeriod s * s.rnd.period)

/-- A candidate, with those that follow it closely, is offered to the partner; one fixed by a schedule has none after it (R286,
R298). -/
def offerCandidate (w : Nat) (s : Rc8) : Rc8 :=
  let all := (List.range (if s.chg.fixed then 1 else offersAhead s)).map fun i => w + i * candidatePeriod s
  modChg (fun c => { c with candidate := some w, confirmed := c.confirmed.filter fun x => decide (w ≤ x) })
    (if s.pair.partner.present then (all.filter fun x => !s.chg.confirmed.contains x).foldl (fun s x => plkSend 0x20 0 (.apply .waymark x) s) s else s)

/-- The partner, if present, has confirmed a candidate in time (R286). -/
def candidateConfirmed (w : Nat) (s : Rc8) : Bool := !s.pair.partner.present || s.chg.confirmed.contains w

/-- Package schedules whose nodes have not all confirmed. -/
def changeUnconfirmed (s : Rc8) : Bool := bothNets.any fun n => (s.sch[n]).pending.isSome && unconfirmed n s != 0

/-- Flags of CHANGE_STATUS (R303). -/
def changeFlags (s : Rc8) : Nat :=
  match s.nv.package with
  | none => 0
  | some k => flagBit (k.engine != []) 0 + flagBit (k.learn != []) 1 + flagBit k.hasSched 2 + flagBit s.chg.fixed 3

/-- The affected mask of the package kept. -/
def affectedNow (s : Rc8) : Nat :=
  match s.nv.package, s.nv.active with
  | some k, some old => affectedMask k old
  | _, _ => 0

/-- CHANGE_PREPARATION_END (R284, R285), on the holder, which prepares the change on both modules: `verified` is whether every
read-back matched. While a node has still to confirm a schedule, preparation has not ended. -/
def preparationEnd (verified : Bool) (s : Rc8) : Rc8 :=
  match s.nv.package with
  | none => s
  | some k =>
    if isStandby s = true ∨ s.chg.st ≠ .preparing ∨ changeUnconfirmed s = true then s
    else match s.chg.failed with
      | some f => abandon f.1 f.2 s
      | none =>
        if !verified then abandon 7 0 s
        else
          let at_ := max (roundAfter 1000000 s) (max s.chg.notBefore (if k.hasSched then s.rnd.round + 16 else 0))
          let w := nextMultiple (candidatePeriod s) at_
          let s1 := modChg (fun c => { c with st := .armed, fixed := k.hasSched, waymark := if k.hasSched then w else c.waymark }) s
          let s2 := bothNets.foldl (fun s n => modSch n (fun q => { q with pending := q.pending.map fun x => { x with round := some w } }) s) s1
          raise { src := 24, reason := 0x02, sev := .notice, p0 := affectedNow s, p1 := lo32 w, p2 := changeFlags s2 } (offerCandidate w s2)

/-! ### The waymark (09 R286, R288 to R290, R295, R298) -/

/-- Affected tasks that are within a cycle: running, or at a breakpoint (R286). -/
def runningAffected (s : Rc8) : List (Fin 8) :=
  match s.nv.package with
  | none => []
  | some k => (affectedTasks k s).filter fun t => (s.run.tasks[t]).st == .running || (s.run.tasks[t]).st == .breakpoint

/-- Running affected cycles are cut at the waymark's round: they publish nothing and commit nothing (R295, R298). -/
def cutCycles (w : Nat) (s : Rc8) : Rc8 :=
  (runningAffected s).foldl (fun s t =>
    let rest := s.run.commits.filter fun r => !(r.task == t.val && ofEnding s.run.tasks r)
    raise { src := 24, reason := 0x06, sev := .warning, p0 := t.val, p1 := lo32 w, p2 := if isStandby s then 2 else 1 }
      (modChg (fun c => { c with cut := satAdd 0xFFFF c.cut 1 })
        (modTask t (fun x => { x with st := if s.run.mode = .layby then .halted else .waiting, overran := false, debug := false, ending := false })
          (modRun (fun r => { r with commits := rest }) s)))) s

/-- A task's entry and code become those of the new image. -/
def newTask (x : Image) (t : Nat) (k : Task) : Task :=
  if (x.task t).period = 0 then { k with cfg := none, st := .unused }
  else { k with cfg := some (x.task t), st := if k.st = .unused then .waiting else k.st, newCode := true }

/-- Learning configurations and tables of the package take force (R288). -/
def changeLearn (k : Package) (s : Rc8) : Rc8 :=
  k.learn.foldl (fun s x =>
    let c := parseLearn x.2
    let s1 := match (learnOf x.1 s).move with
      | some m => if m.why = 3 ∧ (learnOf x.1 s).oldTable.isNone then applyMove x.1 m s else s
      | none => s
    let s2 := modLearn x.1 (fun l => { l with cfg := c, oldTable := none, move := l.move.filter fun m => m.why != 3 }) (storeLearnCfg x.1 c s1)
    if c.kind = 0 then learnGoto x.1 .off 1 s2 else s2) s

/-- Every commit that waits is complete, as the switch record comes after all earlier records; cycles that waited for one are over
(R283). -/
def finishCommits (s : Rc8) : Rc8 :=
  let area := s.run.commits.foldl applyGranules (committedArea s)
  let s1 := modRun (fun r => { r with commits := [] }) { s with nv := { s.nv with retain := s.nv.retain.set s.nv.retainUse area, journal := [] } }
  allTasks.foldl (fun s t => if (s.run.tasks[t]).ending then closeCycle t ((s.clk.refosc - (s.run.tasks[t]).since) / 1000) s else s) s1

/-- Timer and edge detector instances are carried over with their stored state; a removed one is discarded (R293, R294). -/
def carryInstances (old new : Image) (s : Rc8) : Rc8 :=
  modRun (fun r => { r with
    timers := r.timers.filterMap fun x => (carriedInstance old new x.inst).map fun i => { x with inst := i }
    edges := r.edges.filterMap fun x => (carriedInstance old new x.inst).map fun i => { x with inst := i }
    fresh := newInstances old new }) s

/-- Conversion of the program data: phase 1 fills the scratch area, phase 2 copies it into place (R288, step 4; R289). -/
def convertData (old new : Image) (bad : Option Nat) (s : Rc8) : Rc8 :=
  let scratch := phaseOne old new (convertSource bad s)
  modRun (fun r => { r with scratch := scratch, data := writeAll r.data scratch }) s

/-- The switch record is committed behind every earlier one (R288, step 5): the new image is the active one, the old one the loaded one,
the running code is that of the second code area, and the converted retained data take the other area (R281, R283). -/
def switchImages (k : Package) (old : Image) (bad : Option Nat) (s : Rc8) : Rc8 :=
  let b := otherBank s.nv.retainUse
  let area := convertedRetained old k.image (convertSource bad s)
  { s with nv := { s.nv with active := some k.image, loaded := some old, package := none, retain := s.nv.retain.set b area, retainUse := b,
                             journal := [switchRec k.image.id b] },
           run := { s.run with retained := area, commits := [], codeUse := otherBank s.run.codeUse,
                               code := (s.run.code.set (otherBank s.run.codeUse) (k.image.sect 0)).set s.run.codeUse [],
                               tasks := vgen 8 fun t => newTask k.image t (vget s.run.tasks t Task.reset) } }

/-- The change is applied on a module at its waymark (R281, R283, R288, R293, R294), and the commands that wait for it end (R297, R301):
the rules of the new code come into force, and its first releases wait for them (12 R401, R409). `bad` is a data offset whose word is
uncorrectable: what lies on it takes its initial value and counts as clipped, where a schedule has fixed the waymark (R290). -/
def effWaymark (w : Nat) (bad : Option Nat) (s : Rc8) : Rc8 :=
  match s.nv.package, s.nv.active with
  | some k, some old =>
    let s1 := finishCommits (cutCycles w s)
    let clipped := clippedCount old k.image (convertSource bad s1)
    let s2 := codeRules (tableChanged (imageDomains k.image (carryInstances old k.image (switchImages k old bad (convertData old k.image bad s1)))))
    let s3 := changeLearn k (swapBanks 2 s2)
    let s4 := endOpt s.chg.exec .done (endAborts .tooLate s3)
    raise { src := 24, reason := 0x04, sev := .notice, p0 := lo32 w, p1 := carriedCount old k.image, p2 := clipped }
      (modChg (fun c => { c with st := .idle, result := 1, waymark := w, carried := carriedCount old k.image, clipped := clipped, candidate := none,
                                 confirmed := [], fixed := false, deadline := none, exec := none, aborts := [] }) s4)
  | _, _ => s

/-- Phase 1 of the conversion fails (R290). -/
def conversionFails (bad : Option Nat) (s : Rc8) : Bool :=
  match s.nv.package, s.nv.active with
  | some k, some old => bad.isSome || (k.strict && clippedCount old k.image (convertSource none s) != 0)
  | _, _ => false

/-- The change is applied by the holder, and the partner is told (R295). -/
def applyWaymark (w : Nat) (bad : Option Nat) (s : Rc8) : Rc8 :=
  effWaymark w bad (if s.pair.partner.present then plkSend 0x20 0 (.apply .waymark w) s else s)

/-- A missed candidate on a module: it is counted, and the tables that have moved for it move back (R286). -/
def effMissed (s : Rc8) : Rc8 :=
  modChg (fun c => { c with missed := inc32 c.missed }) { s with learn := s.learn.map fun x => restoreTable false x s }

/-- The candidate is missed (R286, R297): the partner is told, an abort that waited takes effect, else the next candidate is tried. -/
def missWaymark (w : Nat) (s : Rc8) : Rc8 :=
  let mask := (runningAffected s).foldl (fun m t => m + 2 ^ t.val) 0 + (if candidateConfirmed w s then 0 else 256)
  let n := inc32 s.chg.missed
  let s1 := raiseLimited none { src := 24, reason := 0x03, sev := .warning, p0 := mask, p1 := lo32 w, p2 := n }
    (effMissed (if s.pair.partner.present then plkSend 0x20 0 (.apply .missed w) s else s))
  if s.chg.aborts ≠ [] then abandon 1 0 s1 else offerCandidate (w + candidatePeriod s) s1

/-- WAYMARK_CANDIDATE (R286, R288, R298): the clock stands at the candidate boundary; on a standby the holder's decision does what
this does on the holder (R295). -/
def waymarkCandidate (bad : Option Nat) (s : Rc8) : Rc8 :=
  match s.chg.candidate with
  | none => s
  | some w =>
    if isStandby s then s else
    let s1 := atPtu (w * s.rnd.period * fracPerNs) s
    if s.chg.fixed then applyWaymark w bad s1
    else if runningAffected s1 != [] || !candidateConfirmed w s then missWaymark w s1
    else if conversionFails bad s1 then abandon 5 0 s1
    else applyWaymark w none s1

/-- CHANGE_TIMEOUT (R287, R298). -/
def changeTimeout (s : Rc8) : Rc8 :=
  match s.chg.deadline with
  | none => s
  | some t => if s.chg.fixed then s else abandon 2 0 (atRefosc t s)

/-! ### CHANGE_ABORT and CHANGE_STATUS (09 R297, R302, R303) -/

/-- CHANGE_ABORT, step 5. -/
def checkAbort (e : Exec) (s : Rc8) : Option Status :=
  if ((s.nv.package.map fun k => k.id != u64At e.req 0).getD false) = true then some .badField else none

/-- CHANGE_ABORT, step 6. -/
def checkAbortState (_ : Exec) (s : Rc8) : Option Status := if isStandby s ∨ s.chg.st = .idle then some .wrongState else none

/-- CHANGE_ABORT's own row: the 250 µs count from the start of its execution (R297). -/
def changeAbort (e : Exec) (s : Rc8) : Rc8 :=
  match s.chg.st with
  | .idle => endWith e.id .wrongState s
  | .loaded => endWith e.id .done (discardPackage s)
  | .preparing => endWith e.id .done (abandon 1 0 s)
  | .armed =>
    if s.chg.fixed then endWith e.id .tooLate s
    else if s.clk.ptu + 250000 * fracPerNs ≤ (s.chg.candidate.getD 0) * s.rnd.period * fracPerNs + (s.clk.refosc - e.start) * fracPerNs then
      endWith e.id .done (abandon 1 0 s)
    else waitExec e.id (modChg (fun c => { c with aborts := c.aborts ++ [e.id] }) s)

/-- State codes (R303). -/
def ChgSt.code : ChgSt → Nat
  | .idle => 0 | .loaded => 1 | .preparing => 2 | .armed => 3

/-- CHANGE_STATUS (R303). -/
def changeStatusResponse (_ : Exec) (s : Rc8) : List Byte :=
  let k := s.nv.package
  le 1 s.chg.st.code ++ le 1 s.chg.result ++ le 1 s.chg.cause ++ le 1 (affectedNow s) ++ le 1 (changeFlags s) ++ zeros 3 ++
  le 8 ((k.map (·.id)).getD 0) ++ le 8 ((k.map (·.base)).getD 0) ++ le 8 s.chg.waymark ++ le 8 (s.chg.candidate.getD 0) ++ le 4 s.chg.missed ++
  le 4 ((s.chg.deadline.map fun t => (t - s.clk.refosc) / 1000000).getD 0) ++ le 4 ((k.map fun k => convertedBytes k s).getD 0) ++
  le 4 s.chg.clipped ++ le 4 s.chg.carried ++ le 2 s.chg.cut ++ zeros 2

/-- CHANGE_LOAD (R299). -/
def specChangeLoad : CmdSpec := { cls := .engineer, len := blockLen, resp := blockResp, fields := checkChangeLoad, state := refuseStandby }
/-- CHANGE_ARM (R299). -/
def specChangeArm : CmdSpec := { cls := .engineer, len := lenIs 24, fields := checkChangeArm, state := checkChangeArmState }
/-- CHANGE_ABORT (R299). -/
def specChangeAbort : CmdSpec := { cls := .operate, urgent := true, len := lenIs 8, fields := checkAbort, state := checkAbortState }
/-- CHANGE_STATUS (R299). -/
def specChangeStatus : CmdSpec := { cls := .observe, urgent := true, len := lenIs 0, resp := fun _ => 64 }

/-! ### Meanings -/

/-- CHANGE_LOAD (R300); `stored` is whether this module's read-back matches. -/
def execChangeLoad (p : Fin 4) (m : Fin 8) (stored : Bool) (s : State) : Answer := act (runCmd 0x0201 p m (changeLoad stored)) s

/-- CHANGE_ARM (R301). -/
def execChangeArm (p : Fin 4) (m : Fin 8) (s : State) : Answer := act (runCmd 0x0202 p m changeArm) s

/-- CHANGE_ABORT (R302). -/
def execChangeAbort (p : Fin 4) (m : Fin 8) (s : State) : Answer := act (runCmd 0x0203 p m changeAbort) s

/-- CHANGE_STATUS (R303). -/
def execChangeStatus (p : Fin 4) (m : Fin 8) (s : State) : Answer := act (answer 0x0204 p m changeStatusResponse) s

/-- CHANGE_PREPARATION_END (R285). -/
def execChangePreparationEnd (verified : Bool) (s : State) : Answer := act (preparationEnd verified) s

/-- WAYMARK_CANDIDATE (R286); `bad` is the data offset of a word at which conversion met an uncorrectable memory error. -/
def execWaymarkCandidate (bad : Option Nat) (s : State) : Answer := act (waymarkCandidate bad) s

/-- CHANGE_TIMEOUT (R287). -/
def execChangeTimeout (s : State) : Answer := act changeTimeout s

end Sys2Proof.Machine
end

