-- ==== Sys2Proof/Machine/SafeCheck.lean ====
section
/-! DEFINITION. The two safety channels at the check point: containers, the tests per axis, cross-check, safe
stop, unavailability, detour, and the permits (11 R347 to R360). -/

namespace Sys2Proof.Machine

open Sys2Proof

/-! ### The set a channel works with, and whether it works (11 R346, R357, R367) -/

/-- The set of a channel: the processor uses the active set, the SML the set it holds, where its own CRC of it
equals the CRC in the header (R346, R367); while an activation runs, it holds the pending set beside it. -/
def channelSet (c : Fin 2) (s : Rc8) : Option (List Byte) :=
  if splitRefused s then none
  else if c = 0 then activeSet s
  else (activeSet s).filter fun b => s.saf.sml.crc == setCrc b || s.saf.activating.isSome

/-- What keeps the processor channel from working, as a cause of *Table: Unavailability causes*, 0 for nothing: AP0 halted by its own
mismatch, or with the SVP, suspended, or split where single-channel use is allowed; where it is not, no cause begins a detour (R360). -/
def processorHalt (s : Rc8) : Nat :=
  match s.itg.pairs[0].st with
  | .lockstep => 0
  | .suspended => 2
  | .split => if splitRefused s then 0 else 3
  | .halted => if s.itg.pairs[2].st = .halted then 6 else 1

/-- The channel computes its records: AP0 runs it unless it is halted or split (R357, R360). -/
def channelRuns (c : Fin 2) (s : Rc8) : Bool := c == 1 || s.itg.pairs[0].st == .lockstep || s.itg.pairs[0].st == .suspended

/-- The round number a channel works with: the PTU's, and the SML's own count (R344, R570). -/
def channelRound (c : Fin 2) (s : Rc8) : Nat := if c = 0 then s.rnd.round else s.saf.sml.round.getD (Config.smlRoundless s.rnd.round)

/-- Why the processor channel is unavailable now: besides what keeps it from working, the SML finds the CRCs of its records wrong where
they are for another round than the SML's own (R357 cause 6). -/
def processorCause (s : Rc8) : Nat :=
  if processorHalt s ≠ 0 then processorHalt s
  else if channelRuns 0 s && channelRound 1 s != s.rnd.round then 6
  else 0

/-- One channel changed. -/
def modChannel (c : Fin 2) (f : Channel → Channel) (s : Rc8) : Rc8 := modSaf (fun x => { x with ch := vmod x.ch c f }) s

/-- What a channel keeps of an axis. -/
def chAxis (c : Fin 2) (a : Nat) (s : Rc8) : ChAxis := ((s.saf.ch[c].axes.find? fun x => x.1 == a).map (·.2)).getD ChAxis.reset

/-- What a channel keeps of an axis replaced. -/
def putChAxis (c : Fin 2) (a : Nat) (x : ChAxis) (s : Rc8) : Rc8 := modChannel c (fun k => { k with axes := assocPut k.axes a x }) s

/-- Cause that makes a channel unavailable for the axes of a network, 0 where it is available (R357). -/
def unavailable (c : Fin 2) (n : Fin 2) (s : Rc8) : Nat :=
  match s.saf.ch[c].lost with
  | some x => x.1
  | none => if c = 1 ∧ (s.saf.lostB[n]).isSome = true then 5 else 0

/-! ### Containers (11 R348, R349, R570) -/

/-- The container of an axis in a window's content (R348). -/
def containerIn (p : AxisPlace) (content : List Byte) : List Byte := slice content (28 * p.map.pos + 16) 12

/-- The container each channel takes for an axis in the round: the processor's from the first-valid windows, or
from the forwarded set on a standby that has it; the SML's from its own copies (R344, R570; 10 R319). -/
def channelContainer (c : Fin 2) (p : AxisPlace) (s : Rc8) : Option (List Byte) :=
  (if c = 1 then (s.saf.sml.sel[p.net].find? fun x => x.window == p.up).map (·.content)
   else if isStandby s && s.pair.fwdDone then (s.pair.fwdWindows.find? fun x => x.1 == p.net.val && x.2.1 == p.up).map (·.2.2)
   else (((s.sch[p.net]).sel[p.up]?).join).map (·.content)).map (containerIn p)

/-- Why a channel does not accept a container: 1 CRC, 2 sequence, 3 missing or not valid; 0 accepted (R349). -/
def containerFault (axis round : Nat) (cont : Option (List Byte)) (x : ChAxis) : Nat :=
  match cont with
  | none => 3
  | some c =>
    if crc32c (le 2 axis ++ le 8 round ++ slice c 0 8) ≠ u32At c 8 then 1
    else if bitAt (u16At c 6) 0 = false then 3
    else match x.last with
      | none => 0
      | some q => if (((q.1 : Int) + round - q.2).emod 65536).toNat = u16At c 4 then 0 else 2

/-! ### The tests of an axis (11 R350) -/

/-- What a channel judges an axis by. -/
structure SafeIn where
  chan : Nat
  axis : Nat
  /-- The channel's round -/
  round : Nat
  lim : SafeAxis
  /-- Container loss limit -/
  loss : Nat
  /-- The detour limits are in force -/
  detour : Bool
  /-- Bits 5 to 7 of the result byte -/
  high : Nat

/-- The difference of two positions, modulo 2^32 as s32 (R350). -/
def wrapDiff (x y : Int) : Int := toSigned 32 ((x - y).emod 4294967296).toNat

/-- The windowed difference and its distance: the reference lies W rounds back, and at most the container loss limit further (R350). -/
def windowed (i : SafeIn) (x : Int) (hist : List (Nat × Int)) : Int × Nat :=
  match hist.find? fun h => i.lim.w + h.1 ≤ i.round && i.round ≤ h.1 + i.lim.w + i.loss with
  | some h => (wrapDiff x h.2, i.round - h.1)
  | none => Config.noReference i.chan i.axis i.round x

/-- A channel's record of an axis in a round: the container's fault, and the axis after it (R347, R350). -/
def channelAxis (i : SafeIn) (cont : Option (List Byte)) (x : ChAxis) : Nat × ChAxis :=
  let f := containerFault i.axis i.round cont x
  if f ≠ 0 then (f, { x with miss := x.miss + 1, fail := 0, result := x.result / 2 % 16 * 2 + i.high })
  else
    let c := cont.getD []
    let p := s32At c 0
    let w := windowed i p x.hist
    let d := w.1.natAbs
    let l := i.lim
    let sls := !bitAt l.functions 0 || decide (d * 256 ≤ (if i.detour then l.detSls else l.sls) * w.2)
    let slp := !bitAt l.functions 1 || decide ((if i.detour then l.detMin else l.pMin) ≤ p ∧ p ≤ (if i.detour then l.detMax else l.pMax))
    let sdi := !bitAt l.functions 2 || decide (-(l.tSdi : Int) ≤ w.1 * (if l.dir = 1 then 1 else -1))
    (0, { x with
      hist := (i.round, p) :: x.hist.filter fun h => decide (i.round ≤ h.1 + l.w + i.loss), last := some (u16At c 4, i.round), miss := 0,
      result := 1 + flagBit sls 1 + flagBit slp 2 + flagBit sdi 3 + flagBit (decide (d ≤ l.tSs)) 4 + i.high,
      delta := w.1, dist := w.2,
      fail := if !sls then 1 else if !slp then 2 else if !sdi then 3 else if bitAt (u16At c 6) 1 then 4 else 0 })

/-- The detour limits of an axis are in force: it is in detour and the transition time has passed (R358). -/
def detourLimits (a : Nat) (set : List Byte) (s : Rc8) : Bool :=
  s.saf.det.axes.any (fun x => x.1 == a) && s.saf.det.entry.isSome &&
  decide (s.saf.det.endAt + transitionTime set * 1000000 ≤ s.clk.refosc + detourTime set * 1000000000)

/-- Bits 5 to 7 of a channel's result byte for an axis (*Table: Result byte*). -/
def resultHigh (c : Fin 2) (latched : Bool) (n : Fin 2) (s : Rc8) : Nat :=
  flagBit latched 5 + flagBit (unavailable c n s == 0) 6 + flagBit (channelRound c s % 2 == 1) 7

/-- A monitored axis at one channel in the round, with CONTAINER_FAULT where its container fails (R349, R383). -/
def channelStep (set : List Byte) (p : AxisPlace) (c : Fin 2) (s : Rc8) : Rc8 :=
  if channelRuns c s then
    let a := p.map.axis
    let l := safeAxis set a
    let i : SafeIn := { chan := c.val, axis := a, round := channelRound c s, lim := l, loss := lossLimit set, detour := detourLimits a set s,
                        high := resultHigh c (s.saf.ch[c].latched.getLsbD l.group) p.net s }
    let r := channelAxis i (channelContainer c p s) (chAxis c a s)
    let s1 := putChAxis c a r.2 s
    if r.1 = 0 then modChannel c (fun k => { k with seen := k.seen.set p.net true }) s1
    else raiseLimited none { src := 68, reason := 0x04, sev := .warning, p0 := a, p1 := c.val + 1, p2 := r.1 } s1
  else s

/-! ### Unavailability (11 R357) -/

/-- CHANNEL_UNAVAILABLE and CHANNEL_AVAILABLE (R383). -/
def channelEvent (c : Fin 2) (back : Bool) (p1 p2 : Nat) (s : Rc8) : Rc8 :=
  raise { src := 68, reason := if back then 0x02 else 0x01, sev := if back then .notice else .error, p0 := c.val + 1, p1 := p1, p2 := p2 } s

/-- A channel's cause for every axis appears, changes or goes (R357). -/
def channelLoss (c : Fin 2) (cause : Nat) (s : Rc8) : Rc8 :=
  match s.saf.ch[c].lost with
  | none => if cause = 0 then s else channelEvent c false cause (lo32 s.rnd.round) (modChannel c (fun k => { k with lost := some (cause, s.rnd.round) }) s)
  | some x =>
    if cause = 0 then channelEvent c true (s.rnd.round - x.2) 0 (modChannel c (fun k => { k with lost := none }) s)
    else modChannel c (fun k => { k with lost := some (cause, x.2) }) s

/-- The SML's records carry the parity of the round (R357 cause 7). -/
def smlFresh (s : Rc8) : Bool := channelRound 1 s % 2 == s.rnd.round % 2

/-- The SML's cause for every axis: its failed self-test lasts until module reset; a wrong parity makes its
records not fresh (causes 4 and 7). -/
def smlCause (s : Rc8) : Nat := if s.saf.sml.failed then 4 else if smlFresh s then 0 else 7

/-- Cause 5 on one network: the SML has no container of it while the processor accepts some, for the loss limit
(R357). -/
def smlSilence (set : List Byte) (n : Fin 2) (s : Rc8) : Rc8 :=
  if s.saf.ch[1].seen[n] then
    let s1 := modSaf (fun x => { x with silentB := x.silentB.set n 0 }) s
    match s.saf.lostB[n] with
    | none => s1
    | some r => channelEvent 1 true (s.rnd.round - r) 0 (modSaf (fun x => { x with lostB := x.lostB.set n none }) s1)
  else if s.saf.ch[0].seen[n] then
    let k := s.saf.silentB[n] + 1
    let s1 := modSaf (fun x => { x with silentB := x.silentB.set n k }) s
    if lossLimit set ≤ k ∧ s.saf.lostB[n] = none then
      channelEvent 1 false 5 (lo32 s.rnd.round) (modSaf (fun x => { x with lostB := x.lostB.set n (some s.rnd.round) }) s1)
    else s1
  else s

/-! ### Cross-check and latches (11 R352, R353) -/

/-- Δ_W as a record holds it (R347). -/
def recordDelta (c : Fin 2) (a : Nat) (s : Rc8) : Int := clampInt (-32767) 32767 (chAxis c a s).delta

/-- Both records of a monitored axis are compared: both are of this round, and both carry container_valid (R352). A record that its
channel has not written in the round is no record of the round (R357; DEDUCED, log 120). -/
def compared (a : Nat) (s : Rc8) : Bool :=
  channelRuns 0 s && smlFresh s && bitAt (chAxis 0 a s).result 0 && bitAt (chAxis 1 a s).result 0

/-- The two records agree (R352). -/
def recordsAgree (a : Nat) (s : Rc8) : Bool :=
  (chAxis 0 a s).result % 32 == (chAxis 1 a s).result % 32 && recordDelta 0 a s == recordDelta 1 a s

/-- The cross-check of one axis: the count of consecutive disagreeing rounds (R352). -/
def crossCheck (a : Nat) (s : Rc8) : Rc8 :=
  if !compared a s then s
  else if recordsAgree a s then putChAxis 1 a { chAxis 1 a s with disagree := 0 } (putChAxis 0 a { chAxis 0 a s with disagree := 0 } s)
  else
    let k := (chAxis 0 a s).disagree + 1
    raiseLimited none { src := 68, reason := 0x03, sev := .warning, p0 := a, p1 := (chAxis 0 a s).result + 256 * (chAxis 1 a s).result, p2 := k }
      (modSaf (fun x => { x with disagreements := inc32 x.disagreements, lastDisagree := some s.rnd.round })
        (putChAxis 1 a { chAxis 1 a s with disagree := k } (putChAxis 0 a { chAxis 0 a s with disagree := k } s)))

/-- The groups latched by either channel (R352). -/
def latchedGroups (s : Rc8) : BitVec 16 := s.saf.ch[0].latched ||| s.saf.ch[1].latched

/-- The CEN's state and fault cause of an axis as the channels hold them since the last COMMIT (R353; 06 R208). -/
def handedOf (a : Nat) (s : Rc8) : AxisMode × Nat := ((s.eng.handed.find? fun x => x.1 == a).map (·.2)).getD (.idle, 0)

/-- A channel latches a group; SAFE_STOP where the group was latched by neither (R352, R353, R383). Parameter 2
names the CEN's axis state and fault cause as handed over. -/
def latchGroup (c : Fin 2) (g axis cause : Nat) (s : Rc8) : Rc8 :=
  let s1 := modChannel c (fun k => { k with latched := k.latched ||| (1#16 <<< g) }) s
  if (latchedGroups s).getLsbD g then s1
  else
    let x := handedOf axis s
    raise { src := 70, reason := 0x01, sev := .error, p0 := g, p1 := axis + 65536 * cause, p2 := x.1.code + 256 * x.2 }
      (modSaf (fun y => { y with since := vput y.since g fun _ => s.rnd.round }) s1)

/-- Why a channel latches an axis's group in this round, 0 where it does not (R352). -/
def latchCause (set : List Byte) (x : ChAxis) : Nat :=
  if x.fail ≠ 0 then x.fail
  else if lossLimit set ≤ x.miss then 6
  else if crossLimit set ≤ x.disagree then 5
  else 0

/-- Both channels' latches of an axis at the check point. -/
def axisLatches (set : List Byte) (n : Fin 2) (a : Nat) (s : Rc8) : Rc8 :=
  ([0, 1] : List (Fin 2)).foldl (fun s c =>
    let k := latchCause set (chAxis c a s)
    if k ≠ 0 ∧ unavailable c n s = 0 then latchGroup c (safeAxis set a).group a k s else s) s

/-- A latch of one channel is mirrored by the other, and a standby adds the mask its holder sent (R353). The
event of a partner's latch names no axis: its field holds 0xFFFF (log 32). -/
def mirrorLatches (s : Rc8) : Rc8 :=
  let u := latchedGroups s
  let s1 := modChannel 1 (fun k => { k with latched := u }) (modChannel 0 (fun k => { k with latched := u }) s)
  if isStandby s then
    (List.range 16).foldl (fun s g =>
      if s.saf.partnerMask.getLsbD g then latchGroup 1 g 0xFFFF 8 (latchGroup 0 g 0xFFFF 8 s) else s) s1
  else s1

/-! ### Detour (11 R357 to R359) -/

/-- The detour changed. -/
def modDet (f : Detour → Detour) (s : Rc8) : Rc8 := modSaf (fun x => { x with det := f x.det }) s

/-- The first axis enters detour: the timer starts (R358). -/
def detourEntry (set : List Byte) (c : Fin 2) (cause : Nat) (s : Rc8) : Rc8 :=
  if s.saf.det.entry.isSome then s
  else modDet (fun d => { d with entry := some s.rnd.round, entryAt := s.clk.refosc, endAt := s.clk.refosc + detourTime set * 1000000000,
                                 cause := cause, chan := c.val + 1, expired := false, count := (d.count + 1) % 4294967296 }) s

/-- An axis's place in detour after its round (R357 to R359): one channel unavailable puts it there; once both are back, and the one
that returns has passed its self-test, it leaves after 16 consecutive agreeing rounds; both unavailable takes every valid permit,
and latches its group as soon as one is back. An axis without a function has no record to compare, and agrees (log 33). -/
def detourAxis (set : List Byte) (n : Fin 2) (a : Nat) (s : Rc8) : Rc8 :=
  let u0 := unavailable 0 n s
  let u1 := unavailable 1 n s
  let mon := (safeAxis set a).monitored
  if u0 ≠ 0 ∧ u1 ≠ 0 then modDet (fun d => { d with both := if d.both.contains a then d.both else d.both ++ [a] }) s
  else
    let s1 := if s.saf.det.both.contains a then
        let s0 := modDet (fun d => { d with both := d.both.filter (· != a) }) s
        if mon then (([0, 1] : List (Fin 2)).filter fun c => unavailable c n s == 0).foldl (fun s c => latchGroup c (safeAxis set a).group a 7 s) s0 else s0
      else s
    let old := s.saf.det.axes.find? fun x => x.1 == a
    if u0 ≠ 0 ∨ u1 ≠ 0 then
      let c : Fin 2 := if u0 ≠ 0 then 0 else 1
      modDet (fun d => { d with axes := d.axes.filter (fun x => x.1 != a) ++ [(a, c, 0)] }) (detourEntry set c (if u0 ≠ 0 then u0 else u1) s1)
    else match old with
      | none => s1
      | some (_, c, k) =>
        let k1 := if s.saf.ch[c].tested && (!mon || (compared a s && recordsAgree a s)) then k + 1 else 0
        modDet (fun d => { d with axes := d.axes.filter (fun x => x.1 != a) ++ (if 16 ≤ k1 then [] else [(a, c, k1)]) }) s1

/-- Networks whose axes are in detour, as a mask (R379). -/
def detourNets (s : Rc8) : Nat :=
  (bothNets.filter fun n => s.saf.det.axes.any fun x => mappedNet x.1 s == some n).foldl (fun m n => m + 2 ^ n.val) 0

/-- DETOUR_ENTERED, and the end of a detour with DETOUR_ENDED (R358, R359, R383). -/
def detourEdges (set : List Byte) (before : Bool) (s : Rc8) : Rc8 :=
  let d := s.saf.det
  if d.entry.isSome && !before then raise { src := 69, reason := 0x01, sev := .error, p0 := d.cause, p1 := detourNets s, p2 := detourTime set } s
  else if d.entry.isSome && d.axes.isEmpty && d.both.isEmpty then
    raise { src := 69, reason := 0x02, sev := .notice, p0 := d.cause, p1 := (s.clk.refosc - d.entryAt) / 1000000, p2 := 0 }
      (modDet (fun d => { d with entry := none, cause := 0, chan := 0, expired := false }) s)
  else s

/-- The unavailable channel and its cause that DETOUR_STATUS shows: those of an axis in detour; where both channels are unavailable
and no detour ran, the processor's (R379; of both at once the table names one, DESIGN CHOICE, log 122). -/
def detourCause (s : Rc8) : Nat × Nat :=
  let d := s.saf.det
  let why := fun (c : Fin 2) (a : Nat) => unavailable c ((mappedNet a s).getD 0) s
  match d.axes.find? fun x => why x.2.1 x.1 != 0 with
  | some x => (x.2.1.val + 1, why x.2.1 x.1)
  | none => match d.both with
    | a :: _ => (1, why 0 a)
    | [] => if d.axes.isEmpty then (0, 0) else (d.chan, d.cause)

/-- Channel and cause as they stand at this check point (R379). -/
def detourShown (s : Rc8) : Rc8 := modDet (fun d => { d with chan := (detourCause s).1, cause := (detourCause s).2 }) s

/-! ### Permits (11 R353, R355, R357) -/

/-- Rounds of a time in ms. -/
def roundsOfMs (ms : Nat) (s : Rc8) : Nat := ceilDiv (ms * 1000000) s.rnd.period

/-- The permit byte of a channel for an axis (*Table: Permit codes*). An axis without a function is permitted by
every available channel that holds a valid set (log 33). -/
def permitByte (c : Fin 2) (a : Nat) (s : Rc8) : Nat :=
  let n := mappedNet a s
  if c = 1 ∧ s.saf.sml.strobe = true then 0x00
  else if unavailable c (n.getD 0) s ≠ 0 then 0xFF
  else match channelSet c s with
    | none => 0x00
    | some set =>
      let x := safeAxis set a
      if x.monitored && n.isNone then 0x00
      else if x.monitored && s.saf.ch[c].latched.getLsbD x.group then
        if groupKind set x.group = 2 ∧ s.rnd.round < vget s.saf.since x.group 0 + roundsOfMs (groupTime set x.group) s then 0x3C else 0x00
      else if s.saf.det.axes.any fun y => y.1 == a && y.2.1 != c then 0x5A
      else 0xA5

/-- The CRC of a permit (R355): none is valid where the channel is unavailable. -/
def permitCrc (c : Fin 2) (a epoch round byte : Nat) : Nat :=
  if byte = 0xFF then 0 else crc32c (le 2 a ++ le 2 epoch ++ le 8 round ++ le 1 byte ++ le 1 (if c = 0 then 0x50 else 0x53) ++ zeros 2)

/-- The permits of a channel for this round, over all 256 axes (R351). -/
def channelPermits (c : Fin 2) (s : Rc8) : Rc8 :=
  modChannel c (fun k => { k with permits := (List.range 256).map fun a => permitByte c a s, permitFor := (s.pair.epoch, channelRound c s) }) s

/-- The SML's permit byte and CRC of an axis, straight into the transmit bank (R347, R355). -/
def smlPermit (s : Rc8) (a : Nat) : Rc8 :=
  match axisPlace a s with
  | none => s
  | some p =>
    let b := s.saf.ch[1].permits.getD a 0
    let f := s.saf.ch[1].permitFor
    txWrite p.net 0xFF p.down (28 * p.map.pos + 24) (le 4 (permitCrc 1 a f.1 f.2 b)) (txWrite p.net 0xFF p.down (28 * p.map.pos + 19) (le 1 b) s)

/-- The processor's permit byte and CRC, and the lease epoch, copied from the exchange buffer at COMMIT (R355). -/
def processorPermit (s : Rc8) (a : Nat) : Rc8 :=
  match axisPlace a s with
  | none => s
  | some p =>
    let b := s.saf.ch[0].permits.getD a 0
    let f := s.saf.ch[0].permitFor
    txWrite p.net (6 + p.net.val) p.down (28 * p.map.pos + 20) (le 4 (permitCrc 0 a f.1 f.2 b))
      (txWrite p.net (6 + p.net.val) p.down (28 * p.map.pos + 16) (le 2 s.pair.epoch ++ le 1 b) s)

/-- COMMIT's part of the permit containers. -/
def commitPermits (s : Rc8) : Rc8 := (mappedAxes s).foldl processorPermit s

/-- A bank that becomes writable: every permit container in it is zero (R355). -/
def zeroPermits (s : Rc8) : Rc8 :=
  (mappedAxes s).foldl (fun s a => match axisPlace a s with
    | none => s
    | some p => modSch p.net (fun k => { k with tx := lmod k.tx p.down fun w => overwrite w (28 * p.map.pos + 16) (zeros 12) }) s) s

/-! ### The halt of a latched group (11 R353, 06 R221) -/

/-- ENGINE_AXIS_HALT due at the next ENGINE_START for every axis of a latched group. -/
def haltLatched (set : List Byte) (s : Rc8) : Rc8 :=
  (monitoredAxes set).foldl (fun s a =>
    if (latchedGroups s).getLsbD (safeAxis set a).group then putAxis a { axisOf a s with haltDue := true } s else s) s

/-! ### The check point (11 R351) -/

/-- Axes the schedules in force map, each once. -/
def safetyAxes (s : Rc8) : List Nat := (mappedAxes s).dedup

/-- A channel's record of an axis: an axis without a function has no container evaluated and its tests hold; a monitored axis that no
schedule maps has no container, keeps its results and clears container_valid (R347, R350). -/
def recordOf (set : List Byte) (s : Rc8) (c : Fin 2) (a : Nat) : Nat × Int :=
  let l := safeAxis set a
  let n := mappedNet a s
  if !l.monitored then (14 + resultHigh c false (n.getD 0) s, 0)
  else if n.isSome then ((chAxis c a s).result, recordDelta c a s)
  else ((chAxis c a s).result / 2 % 16 * 2 + resultHigh c (s.saf.ch[c].latched.getLsbD l.group) 0 s, recordDelta c a s)

/-- Each channel that works writes all 256 records (R347). -/
def writeSafe (set : List Byte) (s : Rc8) : Rc8 :=
  (([0, 1] : List (Fin 2)).filter fun c => channelRuns c s).foldl
    (fun s c => modChannel c (fun k => { k with records := (List.range 256).map (recordOf set s c) }) s) s

/-- The round's records: every monitored and mapped axis is computed, then all are written. -/
def safetyRecords (set : List Byte) (s : Rc8) : Rc8 :=
  let s0 := modChannel 1 (fun k => { k with seen := Vector.replicate 2 false }) (modChannel 0 (fun k => { k with seen := Vector.replicate 2 false }) s)
  writeSafe set <| (safetyAxes s).foldl (fun s a =>
    if (safeAxis set a).monitored then
      match axisPlace a s with
      | none => s
      | some p => channelStep set p 1 (channelStep set p 0 s)
    else s) s0

/-- Cross-check, latches and detour of every mapped axis. -/
def safetyJudge (set : List Byte) (s : Rc8) : Rc8 :=
  (safetyAxes s).foldl (fun s a =>
    match mappedNet a s with
    | none => s
    | some n =>
      let s1 := if (safeAxis set a).monitored then axisLatches set n a (crossCheck a s) else s
      detourAxis set n a s1) s

/-- The channels' availability in the round. -/
def safetyLosses (set : List Byte) (s : Rc8) : Rc8 :=
  smlSilence set 1 (smlSilence set 0 (channelLoss 1 (smlCause s) (channelLoss 0 (processorCause s) s)))

/-! ### The test before an activation (11 R370 step 3) -/

/-- An axis differs between two sets: its own record, its group's, or that of an output that names the group. -/
def axisAffected (old new : List Byte) (a : Nat) : Bool :=
  let g := (safeAxis new a).group
  slice old (64 + 32 * a) 32 != slice new (64 + 32 * a) 32 || slice old (8256 + 8 * g) 8 != slice new (8256 + 8 * g) 8 ||
  (List.range 8).any fun j => (bitAt (outGroups old j) g || bitAt (outGroups new j) g) && slice old (8384 + 16 * j) 16 != slice new (8384 + 16 * j) 16

/-- What of the new limits an axis breaks at a channel: 0 nothing, 1 speed, 2 position (R370). The new limits
bind where the new set configures the function (DEDUCED, log 34). -/
def activationFails (new : List Byte) (c : Fin 2) (a : Nat) (s : Rc8) : Nat :=
  let x := safeAxis new a
  let k := chAxis c a s
  match k.hist.head? with
  | none => Config.activationUnseen c.val a s.rnd.round % 3
  | some h =>
    if k.delta.natAbs ≤ x.tSs then 0
    else if bitAt x.functions 0 && decide (x.sls * k.dist < k.delta.natAbs * 256) then 1
    else if bitAt x.functions 1 && !decide (x.pMin ≤ h.2 ∧ h.2 ≤ x.pMax) then 2
    else 0

/-- The first affected axis that fails on a channel that is available: axis, channel, what it breaks. -/
def activationTest (old new : List Byte) (s : Rc8) : Option (Nat × Nat × Nat) :=
  ((monitoredAxes new).filter (axisAffected old new)).findSome? fun a =>
    ([0, 1] : List (Fin 2)).findSome? fun c =>
      if unavailable c ((mappedNet a s).getD 0) s ≠ 0 then none
      else if activationFails new c a s ≠ 0 then some (a, c.val + 1, activationFails new c a s) else none

/-- The activation is refused: the active set is loaded into the SML again and the command ends (R370, R377). -/
def activationRefused (id : Nat) (f : Nat × Nat × Nat) (s : Rc8) : Rc8 :=
  let told := match (s.pair.pend.find? fun x => x.exec == some id).bind (·.seq) with
    | some q => plkSend 0x21 0 (.confirm q false)
    | none => fun s => s
  told <| raise { src := 72, reason := 0x03, sev := .warning, p0 := f.1, p1 := f.2.1, p2 := f.2.2 }
    (endWith id .wrongState (modPair (fun q => { q with pend := q.pend.filter fun x => x.exec != some id })
      (modSaf (fun x => { x with activating := none, sml := { x.sml with crc := ((s.nv.safeActive).map setCrc).getD 0 } }) s)))

/-- The test at the check point of the round before the activation round. -/
def activationCheck (s : Rc8) : Rc8 :=
  match s.saf.activating, s.nv.safePending with
  | some (id, r), some new =>
    if s.rnd.round + 1 = r ∧ holdsToken s = true then
      (match activationTest (s.nv.safeActive.getD (zeros 8512)) new s with
       | some f => activationRefused id f s
       | none => s)
    else s
  | _, _ => s

/-- Everything up to the permits that rests on a valid set. -/
def safetyRound (set : List Byte) (s : Rc8) : Rc8 :=
  let before := s.saf.det.entry.isSome
  haltLatched set (detourShown (detourEdges set before (safetyJudge set (safetyLosses set (safetyRecords set (mirrorLatches s))))))

/-- SAFETY_CHECK_POINT, at COMMIT − 1 µs (R351): records are compared, groups latched, detour kept, permits
written. -/
def safetyCheckPoint (s : Rc8) : Rc8 :=
  match dueEntry 5 0 s with
  | none => s
  | some e =>
    let s0 := atOffset (e.off - 1000) s
    let s1 := match activeSet s0 with
      | none => safetyRecords [] s0
      | some set => if splitRefused s0 then safetyRecords [] s0 else safetyRound set s0
    let s2 := channelPermits 1 (channelPermits 0 (activationCheck s1))
    (mappedAxes s2).foldl smlPermit s2

/-- SAFETY_CHECK_POINT (R351). -/
def execSafetyCheckPoint (s : State) : Answer := act safetyCheckPoint s

/-- DETOUR_EXPIRED (R358): the available channel latches every group that has an axis in detour. -/
def detourExpired (s : Rc8) : Rc8 :=
  match activeSet s with
  | none => s
  | some set =>
    if s.saf.det.entry.isSome && !s.saf.det.expired && !s.saf.det.axes.isEmpty then
      let s0 := atRefosc s.saf.det.endAt s
      let hit := s.saf.det.axes.filter fun x => (safeAxis set x.1).monitored
      let s1 := hit.foldl (fun s x => latchGroup (if x.2.1 = 0 then 1 else 0) (safeAxis set x.1).group x.1 7 s) s0
      let mask := hit.foldl (fun m x => m ||| 2 ^ (safeAxis set x.1).group) 0
      raise { src := 69, reason := 0x03, sev := .critical, p0 := s.saf.det.cause, p1 := mask, p2 := lo32 s.rnd.round }
        (modDet (fun d => { d with expired := true }) s1)
    else s

/-- DETOUR_EXPIRED (R358). -/
def execDetourExpired (s : State) : Answer := act detourExpired s

end Sys2Proof.Machine
end

