-- ==== Sys2Proof/Machine/SafetyCmd.lean ====
section
/-! DEFINITION. The safety commands: sessions, sets, activation, password, log, status, reset (11 R368 to R382). -/

namespace Sys2Proof.Machine

open Sys2Proof

/-! ### Change log (11 R371) -/

/-- A change log entry's 64 bytes (*Table: Change log entry*). -/
def SafeLogEntry.bytes (x : SafeLogEntry) : List Byte :=
  let b := le 4 x.seq ++ le 1 x.kind ++ le 1 x.port ++ zeros 2 ++ le 8 (secOf x.time) ++ le 4 (nsOf x.time) ++ le 4 x.crcBefore ++ le 4 x.crcAfter ++
    le 2 x.verBefore ++ le 2 x.verAfter ++ padTo 16 x.operator ++ zeros 12
  b ++ le 4 (crc32c b)

/-- An entry joins the change log, which keeps the last 256 (R371). -/
def safetyLog (kind port : Nat) (old new : Option (List Byte)) (operator : List Byte) (s : Rc8) : Rc8 :=
  let q := (s.nv.safeTotal + 1) % 4294967296
  let x : SafeLogEntry :=
    { seq := q, kind := kind, port := port, time := s.clk.ptu, crcBefore := (old.map setCrc).getD 0, crcAfter := (new.map setCrc).getD 0,
      verBefore := (old.map setVersion).getD 0, verAfter := (new.map setVersion).getD 0, operator := operator }
  { s with nv := { s.nv with safeTotal := q, safeLog := (if 256 ≤ s.nv.safeLog.length then s.nv.safeLog.drop 1 else s.nv.safeLog) ++ [x] } }

/-- The operator of a port's session. -/
def operatorOf (p : Fin 4) (s : Rc8) : List Byte := (s.saf.sess[p].map (·.operator)).getD []

/-- The module runs an update on trial (18 R546). -/
def inTrial (s : Rc8) : Bool := s.nv.upd.st == .trial

/-! ### SAFETY_LOGIN, SAFETY_LOGOUT (11 R368, R369, R375, R381) -/

/-- Characters of a password (R368). -/
def passwordChars (b : List Byte) : Bool := b.all fun x => decide (0x20 ≤ x.toNat ∧ x.toNat ≤ 0x7E)

/-- SAFETY_LOGIN_FAILED and its status (R375, R383). -/
def loginFailed (e : Exec) (st : Status) (fails lock : Nat) (s : Rc8) : Rc8 :=
  endWith e.id st (raise { src := 72, reason := 0x05, sev := .warning, p0 := e.port.val, p1 := fails, p2 := lock } s)

/-- The password is right: the value of R368, or the empty one while none is set. -/
def passwordRight (r : List Byte) (s : Rc8) : Bool :=
  match s.nv.password with
  | none => u8At r 0 == 0
  | some x => pbkdf2 (slice r 4 (u8At r 0)) x.1 10000 == x.2

/-- SAFETY_LOGIN's own row. The fifth failure in a row starts the lock, and the count starts anew. -/
def safetyLogin (e : Exec) (s : Rc8) : Rc8 :=
  let n := u8At e.req 0
  if decide (1 ≤ n ∧ n < 8 ∨ 32 < n) || (n == 0 && s.nv.password.isSome) || !passwordChars (slice e.req 4 n) then loginFailed e .badField s.saf.fails 0 s
  else if (s.saf.lockUntil.map fun t => decide (s.clk.refosc < t)).getD false then loginFailed e .busy s.saf.fails 0 s
  else if passwordRight e.req s then
    let op := slice e.req 36 16
    endWith e.id .done (raise { src := 72, reason := 0x04, sev := .notice, p0 := e.port.val, p1 := u32At op 0, p2 := 0 }
      (modSaf (fun x => { x with fails := 0, lockUntil := none,
                                 sess := x.sess.set e.port (some { operator := op, last := s.clk.refosc, first := s.nv.password.isNone }) }) s))
  else
    let k := s.saf.fails + 1
    if 5 ≤ k then loginFailed e .integrityFail k 1 (modSaf (fun x => { x with fails := 0, lockUntil := some (s.clk.refosc + 60000000000) }) s)
    else loginFailed e .integrityFail k 0 (modSaf (fun x => { x with fails := k }) s)

/-- SAFETY_LOGOUT's own row. -/
def safetyLogout (e : Exec) (s : Rc8) : Rc8 := endWith e.id .done (endSession e.port 1 s)

/-! ### SAFETY_LOAD (11 R376) -/

/-- SAFETY_LOAD, step 5. -/
def checkSafetyLoad (e : Exec) (s : Rc8) : Option Status := checkBlock 8512 8512 s.saf.load e.req

/-- A standby, and a module on trial, refuse the command (R372; 18 R546). -/
def refuseTrial (_ : Exec) (s : Rc8) : Option Status := if isStandby s || inTrial s then some .wrongState else none

/-- The set becomes the pending set, in both copies (R367). -/
def effSafetyLoad (b : List Byte) (s : Rc8) : Rc8 := copiesWritten 2 3 { s with nv := { s.nv with safePending := some b } }

/-- SAFETY_SET_LOADED once both modules have stored it. -/
def ownSafetyLoad (port : Nat) (b : List Byte) (s : Rc8) : Rc8 :=
  raise { src := 72, reason := 0x01, sev := .notice, p0 := setVersion b, p1 := setCrc b, p2 := port } (effSafetyLoad b s)

/-- SAFETY_LOAD's own row (R376). -/
def safetyLoad (stored : Bool) (e : Exec) (s : Rc8) : Rc8 :=
  if BlockLoad.runs s.saf.load s then endWith e.id .busy s
  else
    let l := blockTake s.saf.load e
    let s1 := modSaf (fun x => { x with load := some l }) s
    if blockLast e.req then
      let s2 := pendNow e s1
      if !setCrcOk l.data then endWith e.id .integrityFail s2
      else if !setFieldsOk l.data then endWith e.id .badField s2
      else if !stored then endWith e.id .integrityFail s2
      else pairStore e.id (.command 0x0802 l.data) 0 [] false (ownSafetyLoad e.port.val l.data) s2
    else endExec e.id .done (blockResponse l) s1

/-! ### SAFETY_ACTIVATE (11 R370, R377) -/

/-- SAFETY_ACTIVATE, step 5. -/
def checkSafetyActivate (e : Exec) (s : Rc8) : Option Status :=
  match s.nv.safePending with
  | none => none
  | some b => if u16At e.req 0 ≠ setVersion b ∨ u32At e.req 4 ≠ setCrc b then some .badField else none

/-- SAFETY_ACTIVATE, step 6. -/
def checkSafetyActivateState (e : Exec) (s : Rc8) : Option Status :=
  let asked := u64At e.req 8
  if isStandby s || inTrial s || s.nv.safePending.isNone || (s.nv.safeActive.map setVersion) == some (u16At e.req 0) || s.saf.det.entry.isSome ||
     !s.saf.det.both.isEmpty || s.saf.activating.isSome || (asked != 0 && decide (asked < roundAfter 2000000 s)) then some .wrongState else none

/-- The command's operation as the pair carries it: the request, the issuing port and its operator. -/
def activateOp (e : Exec) (s : Rc8) : PairOp := .command 0x0803 (padTo 16 e.req ++ le 1 e.port.val ++ padTo 16 (operatorOf e.port s))

/-- SAFETY_ACTIVATE's own row, steps 1 and 2; `smlOk` is whether this module's SML reports the set's CRC. A partner that cannot be
reached cannot confirm (R377). -/
def safetyActivate (smlOk : Bool) (e : Exec) (s : Rc8) : Rc8 :=
  if s.pair.hand.isSome || s.pair.resync.running then endWith e.id .busy s
  else if s.pair.partner.present && !s.pair.plk.up then endWith e.id .wrongState s
  else if !smlOk then endWith e.id .integrityFail (pendNow e s)
  else
    let asked := u64At e.req 8
    let w := if asked = 0 then roundAfter 2000000 s else asked
    let s1 := modSaf (fun x => { x with activating := some (e.id, w), sml := { x.sml with crc := u32At e.req 4 } }) (loadMaps s)
    pairAt e.id (activateOp e s) w (if s.pair.partner.present then waitExec e.id s1 else pendNow e s1)

/-- Outputs whose records differ between two sets. -/
def outputsChanged (old new : List Byte) : BitVec 8 :=
  (List.range 8).foldl (fun m j => if slice old (8384 + 16 * j) 16 = slice new (8384 + 16 * j) 16 then m else m ||| (1#8 <<< j)) 0

/-- The pending set becomes active at the boundary, with a log entry; outputs whose records changed open for the
round (R370), and the field front is on where an output is configured (01 R39). What the write of the active set's copies reads back is
taken to be right: no rule says what a boundary does where it is not (R367; DESIGN CHOICE, log 121). -/
def effSafetyActivate (port : Nat) (operator : List Byte) (s : Rc8) : Rc8 :=
  match s.nv.safePending with
  | none => s
  | some new =>
    let m := outputsChanged (s.nv.safeActive.getD (zeros 8512)) new
    let s0 := if (List.range 8).any fun j => bitAt (outMode new j) 0 then domainOn 11 s else s
    let s1 := modSaf (fun x => { x with activating := none, forced := m, sml := { x.sml with crc := setCrc new },
                                        ch := vmap (fun c => { c with closed := c.closed &&& ~~~m }) x.ch }) s0
    safetyLog 1 port s.nv.safeActive (some new) operator (copiesWritten 0 1 { s1 with nv := { s1.nv with safeActive := some new, safePending := none } })

/-- SAFETY_SET_ACTIVATED on the holder. -/
def ownSafetyActivate (port : Nat) (operator : List Byte) (s : Rc8) : Rc8 :=
  let s1 := effSafetyActivate port operator s
  raise { src := 72, reason := 0x02, sev := .warning, p0 := (s1.nv.safeActive.map setVersion).getD 0, p1 := (s1.nv.safeActive.map setCrc).getD 0, p2 := s1.nv.safeTotal } s1

/-- The activation ends without effect: the active set is loaded into the SML again. -/
def safetyActivateEnds (s : Rc8) : Rc8 :=
  modSaf (fun x => { x with activating := none, sml := { x.sml with crc := ((s.nv.safeActive).map setCrc).getD 0 } }) s

/-! ### SAFETY_PASSWORD (11 R381) -/

/-- SAFETY_PASSWORD, step 5. -/
def checkPassword (e : Exec) (_ : Rc8) : Option Status :=
  let n := u8At e.req 0
  if n < 8 ∨ 32 < n ∨ passwordChars (slice e.req 4 n) = false then some .badField else none

/-- The password value with its salt is stored, logged, and every session of the module but one ends; that one goes
on as a full session (R368, R369, R381). The operation holds salt, value, operator and port. -/
def effPassword (keep : Option (Fin 4)) (op : List Byte) (s : Rc8) : Rc8 :=
  let s1 := safetyLog 3 (u8At op 64) s.nv.safeActive s.nv.safeActive (slice op 48 16) { s with nv := { s.nv with password := some (slice op 0 16, slice op 16 32) } }
  match keep with
  | none => endSessions 4 s1
  | some p => modSaf (fun x => { x with sess := x.sess.set p (x.sess[p].map fun y => { y with first := false }) }) (endOtherSessions p 4 s1)

/-- SAFETY_PASSWORD_SET on the module that took the command. -/
def ownPassword (p : Fin 4) (op : List Byte) (s : Rc8) : Rc8 :=
  let s1 := effPassword (some p) op s
  raise { src := 72, reason := 0x07, sev := .warning, p0 := p.val, p1 := s1.nv.safeTotal, p2 := 0 } s1

/-- SAFETY_PASSWORD's own row; the salt is random. -/
def safetyPassword (stored : Bool) (salt : List Byte) (e : Exec) (s : Rc8) : Rc8 :=
  if !stored then endWith e.id .integrityFail s
  else
    let op := padTo 16 salt ++ padTo 32 (pbkdf2 (slice e.req 4 (u8At e.req 0)) (padTo 16 salt) 10000) ++ padTo 16 (operatorOf e.port s) ++ le 1 e.port.val
    pairStore e.id (.command 0x0808 op) 0 [] false (ownPassword e.port op) s

/-! ### SAFE_STOP_RESET (11 R354, R382) -/

/-- SAFE_STOP_RESET, step 5. -/
def checkStopReset (e : Exec) (_ : Rc8) : Option Status := if u16At e.req 0 = 0 ∧ u8At e.req 2 = 0 then some .badField else none

/-- Every axis of a group shows what R354 asks for on both channels: container_valid, the three tests and standstill in its record. -/
def groupResettable (set : List Byte) (g : Nat) (s : Rc8) : Bool :=
  (groupAxes set g).all fun a => match mappedNet a s with
    | none => false
    | some n => ([0, 1] : List (Fin 2)).all fun c => unavailable c n s == 0 && (chAxis c a s).result % 32 == 31

/-- The groups named can be reset (R354). -/
def resetAllowed (mask : Nat) (s : Rc8) : Bool :=
  match s.nv.safeActive with
  | none => true
  | some set => (List.range 16).all fun g => !bitAt mask g || groupResettable set g s

/-- The reset takes effect: latches and output faults named are cleared, and the next container of each axis is
accepted on its CRC and flags alone (R349, R354). -/
def effStopReset (mask outs : Nat) (s : Rc8) : Rc8 :=
  let set := s.nv.safeActive.getD []
  modSaf (fun x => { x with
    faults := x.faults &&& ~~~(BitVec.ofNat 8 outs),
    ch := vmap (fun c => { c with
      latched := c.latched &&& ~~~(BitVec.ofNat 16 mask),
      axes := c.axes.map fun y => (y.1, if bitAt mask (safeAxis set y.1).group then { y.2 with last := none, miss := 0, disagree := 0 } else y.2) }) x.ch }) s

/-- SAFE_STOP_CLEARED on the module that took the command. -/
def ownStopReset (port mask outs : Nat) (s : Rc8) : Rc8 :=
  raise { src := 70, reason := 0x02, sev := .notice, p0 := mask, p1 := outs, p2 := port } (effStopReset mask outs s)

/-- The reset is fixed for the first boundary at least 250 µs after execution started (R382, R569). -/
def fixStopReset (e : Exec) (s : Rc8) : Rc8 :=
  if !resetAllowed (u16At e.req 0) s then endWith e.id .wrongState s
  else
    let w := roundAfter (250000 - (s.clk.refosc - e.start)) s
    waitExec e.id (pairTell (some e.id) (.command 0x0809 (padTo 4 e.req ++ le 1 e.port.val)) w (le 4 (lo32 w) ++ zeros 4) true s)

/-- The light tests of the outputs named that are open: low side, then high side of each (R363, R382). -/
def resetTestsOf (mask : Nat) (s : Rc8) : List (Fin 8 × Fin 2) :=
  (([0, 1, 2, 3, 4, 5, 6, 7] : List (Fin 8)).filter fun j =>
    bitAt mask j.val && !s.saf.ch[0].closed.getLsbD j.val && !s.saf.ch[1].closed.getLsbD j.val).flatMap fun j => [(j, 0), (j, 1)]

/-- SAFE_STOP_RESET's own row: with outputs to test, their light tests run first. -/
def safeStopReset (e : Exec) (s : Rc8) : Rc8 :=
  let l := resetTestsOf (u8At e.req 2) s
  if l.isEmpty then fixStopReset e s
  else if !resetAllowed (u16At e.req 0) s then endWith e.id .wrongState s
  else waitExec e.id (modSaf (fun x => { x with resetTests := l }) s)

/-! ### Status (11 R378 to R380) -/

/-- SAFETY_LOG_READ, step 5. -/
def checkLogRead (e : Exec) (s : Rc8) : Option Status :=
  let first := u32At e.req 0
  if u16At e.req 4 < 1 ∨ 62 < u16At e.req 4 ∨ (first ≠ 0 ∧ (s.nv.safeLog.any fun x => x.seq == first) = false) then some .badField else none

/-- SAFETY_LOG_READ's response. -/
def logReadResponse (e : Exec) (s : Rc8) : List Byte :=
  let first := u32At e.req 0
  let l := ((if first = 0 then s.nv.safeLog else s.nv.safeLog.dropWhile fun x => x.seq != first)).take (u16At e.req 4)
  le 4 s.nv.safeTotal ++ le 4 ((s.nv.safeLog.head?.map (·.seq)).getD 0) ++ le 2 l.length ++ zeros 6 ++ l.flatMap (·.bytes)

/-- Detour state code (R379). -/
def detourState (s : Rc8) : Nat :=
  let d := s.saf.det
  let set := (activeSet s).getD []
  if !d.both.isEmpty then 4
  else if d.expired then 3
  else if d.axes.isEmpty then 0
  else if d.endAt + transitionTime set * 1000000 ≤ s.clk.refosc + detourTime set * 1000000000 then 2 else 1

/-- Time left of the detour timer, ms: the full detour time outside detour (R359, R379). -/
def detourLeft (s : Rc8) : Nat :=
  if s.saf.det.entry.isSome then (s.saf.det.endAt - s.clk.refosc) / 1000000 else ((activeSet s).map detourTime).getD 0 * 1000

/-- DETOUR_STATUS's response. -/
def detourStatusResponse (_ : Exec) (s : Rc8) : List Byte :=
  let d := s.saf.det
  le 1 (detourState s) ++ le 1 d.chan ++ le 1 d.cause ++ le 1 (detourNets s) ++ le 4 (detourLeft s) ++ le 4 (((activeSet s).map detourTime).getD 0) ++
  le 4 d.count ++ le 8 (d.entry.getD 0) ++ zeros 8

/-- The result byte of a channel's record of an axis, as the exchange buffer holds it (R347). -/
def resultByte (c : Fin 2) (a : Nat) (s : Rc8) : Nat := (s.saf.ch[c].records.getD a (0, 0)).1

/-- Monitored axes that no schedule in force maps, as 32 bytes (R380). -/
def unmappedMask (s : Rc8) : List Byte :=
  let l := match activeSet s with
    | none => []
    | some b => (monitoredAxes b).filter fun a => (mappedNet a s).isNone
  (List.range 32).flatMap fun k => le 1 ((List.range 8).foldl (fun m i => m + flagBit (l.contains (8 * k + i)) i) 0)

/-- SAFETY_STATUS's response. -/
def safetyStatusResponse (e : Exec) (s : Rc8) : List Byte :=
  let v := fun (x : Option (List Byte)) => (x.map setVersion).getD 0
  let c := fun (x : Option (List Byte)) => (x.map setCrc).getD 0
  le 8 s.rnd.round ++ le 2 (v s.nv.safeActive) ++ le 2 (v s.nv.safePending) ++ le 4 (c s.nv.safeActive) ++ le 4 (c s.nv.safePending) ++ le 4 s.saf.sml.crc ++
  le 2 (latchedGroups s).toNat ++ le 1 (s.saf.ch[0].closed &&& s.saf.ch[1].closed).toNat ++ le 1 s.saf.faults.toNat ++
  le 1 (flagBit ((activeSet s).map setSingle == some true) 0 + flagBit s.nv.password.isSome 1 + flagBit (sessionOpen e.port s) 2) ++ le 1 (detourState s) ++ zeros 2 ++
  le 4 s.nv.safeTotal ++ le 4 s.saf.disagreements ++ unmappedMask s ++
  (List.range 256).flatMap fun a => le 1 (resultByte 0 a s) ++ le 1 (resultByte 1 a s) ++ le 1 (s.saf.ch[0].permits.getD a 0) ++ le 1 (s.saf.ch[1].permits.getD a 0)

/-! ### What the checks of R58 need (11 R374) -/

/-- SAFETY_LOGIN. -/
def specSafetyLogin : CmdSpec := { cls := .safety, len := lenIs 52 }
/-- SAFETY_LOAD. -/
def specSafetyLoad : CmdSpec := { cls := .safety, session := true, len := blockLen, resp := blockResp, fields := checkSafetyLoad, state := refuseTrial }
/-- SAFETY_ACTIVATE. -/
def specSafetyActivate : CmdSpec := { cls := .safety, session := true, len := lenIs 16, fields := checkSafetyActivate, state := checkSafetyActivateState }
/-- SAFETY_LOG_READ. -/
def specSafetyLogRead : CmdSpec :=
  { cls := .observe, len := lenIs 8, resp := fun r => if 1 ≤ u16At r 4 ∧ u16At r 4 ≤ 62 then 16 + 64 * u16At r 4 else 0, fields := checkLogRead }
/-- DETOUR_STATUS. -/
def specDetourStatus : CmdSpec := { cls := .observe, urgent := true, len := lenIs 0, resp := fun _ => 32 }
/-- SAFETY_STATUS. -/
def specSafetyStatus : CmdSpec := { cls := .observe, len := lenIs 0, resp := fun _ => 1096 }
/-- SAFETY_LOGOUT. -/
def specSafetyLogout : CmdSpec := { cls := .safety, len := lenIs 0 }
/-- SAFETY_PASSWORD. -/
def specSafetyPassword : CmdSpec := { cls := .safety, session := true, len := lenIs 36, fields := checkPassword, state := refuseTrial }
/-- SAFE_STOP_RESET. -/
def specSafeStopReset : CmdSpec := { cls := .operate, len := lenIs 4, resp := fun _ => 8, fields := checkStopReset }

/-! ### Meanings -/

/-- SAFETY_LOGIN (R375). -/
def execSafetyLogin (p : Fin 4) (m : Fin 8) (s : State) : Answer := act (runCmd 0x0801 p m safetyLogin) s

/-- SAFETY_LOAD (R376); `stored` is whether this module's read-back matches. -/
def execSafetyLoad (p : Fin 4) (m : Fin 8) (stored : Bool) (s : State) : Answer := act (runCmd 0x0802 p m (safetyLoad stored)) s

/-- SAFETY_ACTIVATE (R377); `smlOk` is whether this module's SML reports the set's CRC. -/
def execSafetyActivate (p : Fin 4) (m : Fin 8) (smlOk : Bool) (s : State) : Answer := act (runCmd 0x0803 p m (safetyActivate smlOk)) s

/-- SAFETY_LOG_READ (R378). -/
def execSafetyLogRead (p : Fin 4) (m : Fin 8) (s : State) : Answer := act (answer 0x0804 p m logReadResponse) s

/-- DETOUR_STATUS (R379). -/
def execDetourStatus (p : Fin 4) (m : Fin 8) (s : State) : Answer := act (answer 0x0805 p m detourStatusResponse) s

/-- SAFETY_STATUS (R380). -/
def execSafetyStatus (p : Fin 4) (m : Fin 8) (s : State) : Answer := act (answer 0x0806 p m safetyStatusResponse) s

/-- SAFETY_LOGOUT (R381). -/
def execSafetyLogout (p : Fin 4) (m : Fin 8) (s : State) : Answer := act (runCmd 0x0807 p m safetyLogout) s

/-- SAFETY_PASSWORD (R381); `stored` is whether this module's read-back matches, the salt is 16 random bytes. -/
def execSafetyPassword (p : Fin 4) (m : Fin 8) (stored : Bool) (salt : List Byte) (s : State) : Answer :=
  actIf (salt.length == 16) "SAFETY_PASSWORD" (runCmd 0x0808 p m (safetyPassword stored salt)) s

/-- SAFE_STOP_RESET (R382). -/
def execSafeStopReset (p : Fin 4) (m : Fin 8) (s : State) : Answer := act (runCmd 0x0809 p m safeStopReset) s

end Sys2Proof.Machine
end

