-- ==== Sys2Proof/Machine/SafeOut.lean ====
section
/-! DEFINITION. The safety outputs and their tests, and the SML's own receive and load side (11 R345, R346, R361 to
R364, R570). -/

namespace Sys2Proof.Machine

open Sys2Proof

/-! ### Switches (11 R361, R364) -/

/-- The module may hold safety switches closed: it holds the token, or is the old holder of a planned crossover
until its opening; after a crossover not before the round R364 gives. -/
def mayClose (s : Rc8) : Bool := (holdsToken s || s.saf.offAt.isSome) && decide (s.saf.outputsFrom ≤ s.rnd.round)

/-- The channel's own switches can be driven: it is available, and for the SML no strobe fault and no fault of the
SVP stands (R345, R357; 12 R385, R391). -/
def channelDrives (c : Fin 2) (s : Rc8) : Bool :=
  (s.saf.ch[c].lost).isNone && !s.itg.test && (if c = 0 then processorHalt s == 0 else !s.saf.sml.strobe && !s.saf.sml.svpFault)

/-- Every condition of R361 holds for an output at a channel, and the domain of the switches is on: while PD11 is off all
switches are open (01 R38). -/
def outputAllowed (c : Fin 2) (j : Fin 8) (s : Rc8) : Bool :=
  match channelSet c s with
  | none => false
  | some set =>
    s.pwr.domains.getLsbD 11 && mayClose s && channelDrives c s && bitAt (outMode set j.val) 0 && bitAt (u8At s.ffe.next 4) j.val &&
    (s.saf.ch[c].latched &&& BitVec.ofNat 16 (outGroups set j.val)) == 0 && s.saf.det.axes.isEmpty && s.saf.det.both.isEmpty &&
    !s.saf.faults.getLsbD j.val && !s.saf.forced.getLsbD j.val

/-- Outputs allowed at a channel, as a mask. -/
def allowedMask (c : Fin 2) (s : Rc8) : BitVec 8 :=
  ([0, 1, 2, 3, 4, 5, 6, 7] : List (Fin 8)).foldl (fun m j => if outputAllowed c j s then m ||| (1#8 <<< j.val) else m) 0

/-- LATCH: each channel closes its switches where it may, and keeps those it holds (R361). -/
def latchSafety (s : Rc8) : Rc8 :=
  let a := allowedMask 0 s
  let b := allowedMask 1 s
  modChannel 1 (fun c => { c with closed := c.closed ||| b }) (modChannel 0 (fun c => { c with closed := c.closed ||| a }) s)

/-- COMMIT: each channel opens its switches where a condition is false (R361). -/
def commitSafety (s : Rc8) : Rc8 :=
  let a := allowedMask 0 s
  let b := allowedMask 1 s
  modChannel 1 (fun c => { c with closed := c.closed &&& b }) (modChannel 0 (fun c => { c with closed := c.closed &&& a }) s)

/-- Every switch of the module opens. -/
def openSafety (s : Rc8) : Rc8 := modSaf (fun x => { x with ch := vmap (fun c => { c with closed := 0 }) x.ch }) s

/-! ### Readback and test pulses (11 R363, R364) -/

/-- An output fault is latched: the output opens, and OUTPUT_FAULT is raised where it was not latched before (R363,
R383). -/
def outputFault (j : Fin 8) (cause other : Nat) (s : Rc8) : Rc8 :=
  let m := ~~~(1#8 <<< j.val)
  let s1 := modSaf (fun x => { x with faults := x.faults ||| (1#8 <<< j.val), ch := vmap (fun c => { c with closed := c.closed &&& m }) x.ch }) s
  if s.saf.faults.getLsbD j.val then s1
  else raise { src := 71, reason := 0x01, sev := .error, p0 := j.val, p1 := cause, p2 := other } s1

/-- Outputs configured in the set. -/
def outputsConfigured (s : Rc8) : List (Fin 8) :=
  match activeSet s with
  | none => []
  | some set => ([0, 1, 2, 3, 4, 5, 6, 7] : List (Fin 8)).filter fun j => bitAt (outMode set j.val) 0

/-- Commanded state of the low and high switches: the module's own, or on the standby what the holder sent with its
readings (R364). -/
def commandedLow (s : Rc8) : BitVec 8 := if isStandby s then BitVec.ofNat 8 (u8At s.ffe.holder 260) else s.saf.ch[0].closed
/-- As above, for the high side. -/
def commandedHigh (s : Rc8) : BitVec 8 := if isStandby s then BitVec.ofNat 8 (u8At s.ffe.holder 261) else s.saf.ch[1].closed

/-- The commanded state of the outputs is known: on a standby, from a holder that is there to tell it (R364). -/
def commandKnown (s : Rc8) : Bool := !isStandby s || (s.ffe.holder != [] && s.pair.plk.up && !s.pair.ownRound)

/-- Every safety output. -/
def allOutputs : List (Fin 8) := [0, 1, 2, 3, 4, 5, 6, 7]

/-- The outputs whose light tests the holder names to the standby for a round: those it holds open, with light tests enabled, while no
pulse of its own runs (R364; of which rounds it names the rule says nothing: DESIGN CHOICE, log 70). -/
def namedTests (s : Rc8) : BitVec 8 :=
  match activeSet s with
  | none => 0
  | some set =>
    if s.saf.pulse.isSome then 0
    else allOutputs.foldl (fun m j =>
      if bitAt (outMode set j.val) 2 && !s.saf.ch[0].closed.getLsbD j.val && !s.saf.ch[1].closed.getLsbD j.val then m ||| (1#8 <<< j.val) else m) 0

/-- SAMPLE: the terminals of every output are read and compared with the commanded state; an output under test is passed over
(R363). -/
def sampleSafety (pClosed mClosed : BitVec 8) (s : Rc8) : Rc8 :=
  let low := commandedLow s
  let high := commandedHigh s
  let busy := s.saf.pulse.map (·.out)
  let s0 := modSaf (fun x => { x with readP := pClosed, readM := mClosed }) s
  if commandKnown s then
    allOutputs.foldl (fun s j =>
      if busy == some j then s
      else if pClosed.getLsbD j.val != high.getLsbD j.val then outputFault j 1 0xFF s
      else if mClosed.getLsbD j.val != low.getLsbD j.val then outputFault j 2 0xFF s
      else s) s0
  else s0

/-- The command whose light tests run. -/
def resetExec (s : Rc8) : Option Exec := s.execs.find? fun e => e.code == 0x0809 && e.phase == .waiting

/-- A pulse starts. -/
def startPulse (j : Fin 8) (dark : Bool) (side : Fin 2) (exec : Option Nat) (s : Rc8) : Rc8 :=
  modSaf (fun x => { x with pulse := some { out := j, dark := dark, side := side, start := s.clk.refosc, exec := exec }, lastPulse := some s.clk.refosc,
                            testFrom := if exec.isSome then x.testFrom else x.testFrom.set j s.clk.refosc,
                            nextSide := if exec.isSome then x.nextSide else x.nextSide.set j (if side = 0 then 1 else 0) }) s

/-- REFOSC time before which no pulse may start: 1 ms after the last one (R363). -/
def pulseFree (s : Rc8) : Nat := (s.saf.lastPulse.map (· + 1000000)).getD 0

/-- TEST_PULSE of an output: the light tests a reset waits for come first; else its interval has ended, and a
closed output has a dark test, an open one a light test, where the set enables it. A standby tests only in rounds
its holder names, while the holder's output is open (R363, R364). -/
def testPulse (j : Fin 8) (named : Bool) (s : Rc8) : Rc8 :=
  if s.saf.pulse.isSome then s
  else match s.saf.resetTests with
  | (k, side) :: _ => if k = j then startPulse j false side ((resetExec s).map (·.id)) (atRefosc (pulseFree s) s) else s
  | [] =>
    match activeSet s with
    | none => s
    | some set =>
      let s1 := atRefosc (max (pulseFree s) (s.saf.testFrom[j] + outInterval set j.val * 1000000000)) s
      let low := (commandedLow s).getLsbD j.val
      let high := (commandedHigh s).getLsbD j.val
      let side := s.saf.nextSide[j]
      if !bitAt (outMode set j.val) 0 then s
      else if isStandby s then (if named && commandKnown s && bitAt (u8At s.ffe.holder 262) j.val && !low && !high && bitAt (outMode set j.val) 2 then startPulse j false side none s1 else s)
      else if low && high && bitAt (outMode set j.val) 1 then startPulse j true side none s1
      else if !low && !high && bitAt (outMode set j.val) 2 then startPulse j false side none s1
      else s

/-- An output other than the tested one whose terminal left its commanded state in the pulse's direction (R363). -/
def followsPulse (q : Pulse) (low high pClosed mClosed : BitVec 8) (k : Fin 8) : Bool :=
  let moved := fun (cmd got : Bool) => if q.dark then cmd && !got else !cmd && got
  k != q.out && (moved (high.getLsbD k.val) (pClosed.getLsbD k.val) || moved (low.getLsbD k.val) (mClosed.getLsbD k.val))

/-- The tested output's terminals during the pulse are as its switches make them (R363). -/
def pulseFollows (q : Pulse) (pClosed mClosed : BitVec 8) : Bool :=
  let high := if q.side = 1 then !q.dark else q.dark
  let low := if q.side = 0 then !q.dark else q.dark
  pClosed.getLsbD q.out.val == high && mClosed.getLsbD q.out.val == low

/-- TEST_PULSE_END: the pulse has reached its width and its readback is judged (R363, R382). -/
def testPulseEnd (pClosed mClosed : BitVec 8) (s : Rc8) : Rc8 :=
  match s.saf.pulse with
  | none => s
  | some q =>
    let width := ((activeSet s).map fun set => outWidth set q.out.val).getD 100
    let s0 := modSaf (fun x => { x with pulse := none, readP := pClosed, readM := mClosed }) (atRefosc (q.start + width * 1000) s)
    let cross := allOutputs.filter (followsPulse q (commandedLow s) (commandedHigh s) pClosed mClosed)
    let ok := pulseFollows q pClosed mClosed
    let s1 := if ok then s0 else outputFault q.out (if q.dark then 5 else 4) 0xFF s0
    let s2 := cross.foldl (fun s k => outputFault k 3 q.out.val (outputFault q.out 3 k.val s)) s1
    match q.exec with
    | none => s2
    | some id =>
      if ok && cross.isEmpty then
        let s3 := modSaf (fun x => { x with resetTests := x.resetTests.drop 1 }) s2
        match s3.saf.resetTests, s3.execs.find? (fun e => e.id == id) with
        | [], some e => fixStopReset e s3
        | _, _ => s3
      else endWith id .wrongState (modSaf (fun x => { x with resetTests := [] }) s2)

/-! ### The SML (11 R345, R346, R570) -/

/-- The SML changed. -/
def modSml (f : Sml → Sml) (s : Rc8) : Rc8 := modSaf (fun x => { x with sml := f x.sml }) s

/-- A copy passes the SML's checks (R570); its round is its own count, or any where it has none or the copy carries
the renumbered flag. -/
def smlAccepts (n : Fin 2) (f : BudanCopy) (s : Rc8) : Bool :=
  f.fcsOk && !f.tagged && f.etherType == (s.net[n]).media.etherType && f.version == 1 && (f.kind == 2 || f.kind == 3) && f.net == n.val && f.chan == 1 &&
  f.schedId == s.saf.sml.maps[n] && f.schedId != 0 && !(s.sch[n]).rxFrozen &&
  (match s.saf.sml.round with
   | none => true
   | some r => f.round == r || bitAt f.flags 0)

/-- A copy on a port comes before one already selected: it ended on the same cycle, and its port ranks first (R570). -/
def smlOutranks (port : Fin 2) (f : BudanCopy) (x : SmlSel) : Bool := x.tick == f.tick && decide (port.val < x.port.val)

/-- The windows of a copy that the SML takes from it: upstream motion windows of its frame that are present and not selected
before (R161, R570). -/
def smlWindows (n port : Fin 2) (f : BudanCopy) (s : Rc8) : List SmlSel :=
  match (s.sch[n]).inForce with
  | none => []
  | some c =>
    (((List.range c.windows.length).zip c.windows).filter fun x =>
      !x.2.down && !x.2.station && x.2.frame == copyIdx f && x.2.due f.round && decide (x.2.off + x.2.len ≤ f.data.length) &&
      windowPresent x.2 (slice f.data x.2.off x.2.len) && !(s.saf.sml.sel[n].any fun y => y.window == x.1 && !smlOutranks port f y)).map
      fun x => { window := x.1, tick := f.tick, port := port, content := slice f.data x.2.off x.2.len }

/-- SML_COPY_RECEIVED: a channel B copy at a tap (R570). -/
def smlCopy (n port : Fin 2) (f : BudanCopy) (s : Rc8) : Rc8 :=
  if smlAccepts n f s then
    let l := smlWindows n port f s
    modSml (fun x => { x with round := some f.round, sel := x.sel.set n (x.sel[n].filter (fun y => !(l.any fun z => z.window == y.window)) ++ l) }) s
  else s

/-- A whole object in the load window, after its last page: of a safety set the SML computes the CRC, and of a schedule's axis map,
which it then holds in place of an earlier one of the same schedule (R346). -/
def smlObject (o : List Byte) (x : Sml) : Sml :=
  if u32At o 0 = 0x31534653 then (if 8512 ≤ o.length then { x with crc := crcWithout (o.take 8512) 12 } else x)
  else if 64 ≤ o.length ∧ imageLength o ≤ o.length then
    let m := (u8At o 4, u16At o 2)
    { x with held := x.held.filter (fun y => (y.1, y.2.1) != m) ++ [(m.1, m.2, crcWithout (o.take (imageLength o)) 36)] }
  else x

/-- A page of the load window: the SML copies it and acknowledges its number (R346). Page 1 begins an object
(DEDUCED, log 35). -/
def smlPage (page : Nat) (data : List Byte) (s : Rc8) : Rc8 :=
  modSml (fun x =>
    let o := if page = 1 then data else x.object ++ data
    smlObject o { x with page := page, data := data, ack := page, object := o }) s

/-- A strobe came so many SML_OSC cycles of 50 ns from where the SML expects it: more than 1 % of the round period, and it is a fault
(R345; 01 R36). A missing strobe is noticed once the SML has waited so long. -/
def strobeOff (deviation : Int) (s : Rc8) : Bool := decide (s.rnd.period < deviation.natAbs * 50 * 100)

/-- A strobe's deviation is judged (R345): strobe 1 round start, 2 GATHER_DONE, 3 COMMIT. -/
def smlStrobe (strobe : Fin 3) (deviation : Int) (s : Rc8) : Rc8 :=
  if strobeOff deviation s then
    raise { src := 68, reason := 0x05, sev := .critical, p0 := strobe.val + 1, p1 := s32Param deviation, p2 := lo32 s.rnd.round }
      (modChannel 1 (fun c => { c with closed := 0 }) (modSml (fun x => { x with strobe := true, round := none }) s))
  else s

/-- The id of the schedule in force, where the SML holds its axis map with the schedule's check value; 0 where it does not (R346). -/
def smlMap (n : Fin 2) (s : Rc8) : Nat :=
  match (s.sch[n]).inForce with
  | none => 0
  | some c => if s.saf.sml.held.contains (n.val, c.id, u32At c.image 36) then c.id else 0

/-- The SML at a round boundary: its count advances, its selection is empty, and it takes the axis maps of the
schedules in force (R346, R570). -/
def smlBoundary (s : Rc8) : Rc8 :=
  modSml (fun x => { x with round := x.round.map (fun r => (r + 1) % 2 ^ 64), strobe := false, sel := Vector.replicate 2 [],
                            maps := #v[smlMap 0 s, smlMap 1 s] }) s

/-! ### Meanings -/

/-- TEST_PULSE (R363); `named` is whether the holder has named this round to a standby. -/
def execTestPulse (j : Fin 8) (named : Bool) (s : State) : Answer := act (testPulse j named) s

/-- TEST_PULSE_END (R363); bit j: terminal P or M of output j shows its switch closed during the pulse. -/
def execTestPulseEnd (pClosed mClosed : BitVec 8) (s : State) : Answer := act (testPulseEnd pClosed mClosed) s

/-- The port a tap listens at (04 R122). -/
def tapPort (port : Fin 2) : Fin 4 := if port = 0 then 2 else 3

/-- SML_COPY_RECEIVED (R570), on port 2 or 3 of a network: the tap hears what the port's PHY receives, while its domain is on (04
R122). -/
def execSmlCopyReceived (n : Fin 2) (port : Fin 2) (f : BudanCopy) (s : State) : Answer :=
  act (fun s => if ((s.net[n]).ports[tapPort port]).link && s.pwr.domains.getLsbD (7 + n.val) then smlCopy n port f s else s) s

/-- SML_LOAD_PAGE (R346): pages hold up to 1,008 bytes. -/
def execSmlLoadPage (page : Nat) (data : List Byte) (s : State) : Answer :=
  actIf (decide (data.length ≤ 1008 ∧ page < 4294967296)) "SML_LOAD_PAGE" (smlPage page data) s

/-- SML_STROBE_FAULT (R345). -/
def execSmlStrobeFault (strobe : Fin 3) (deviation : Int) (s : State) : Answer := act (smlStrobe strobe deviation) s

end Sys2Proof.Machine
end

