-- ==== Sys2Proof/Machine/PlantTime.lean ====
section
/-! DEFINITION. Plant time: the PTP servo, the time state machine, steps and their renumbering, and the plant time
commands (03 R94, R95; 13 R422 to R432, R440 to R443). -/

namespace Sys2Proof.Machine

open Sys2Proof

/-- Plant time changed. -/
def modTim (f : PlantTime → PlantTime) (s : Rc8) : Rc8 := { s with tim := f s.tim }

/-- Time state codes (02 R84). -/
def TimeSt.code : TimeSt → Nat
  | .freeRunning => 0 | .locked => 1 | .holdover => 2 | .stepPending => 3

/-- The state a code names. -/
def TimeSt.ofCode : Nat → TimeSt
  | 0 => .freeRunning | 1 => .locked | 2 => .holdover | _ => .stepPending

/-! ### Ports and sources (13 R423, R430, R431) -/

/-- A port can run PTP: it is enabled for it, its link is up and faster than 10 Mbit/s, and PD9 is on. -/
def ptpRuns (e : Fin 2) (s : Rc8) : Bool :=
  bitAt s.nv.ptp.mask e.val && (s.eth[e]).link && (s.eth[e]).speed != 3 && s.pwr.domains.getLsbD 9

/-- Source of plant time, as TIME_STATUS codes it (R423, R443). -/
def timeSource (s : Rc8) : Nat :=
  if isStandby s then 3
  else if (s.tim.ports[0]).st = 9 then 1
  else if (s.tim.ports[1]).st = 9 then 2
  else if (s.tim.ports[0]).st = 6 ∨ (s.tim.ports[1]).st = 6 then 4
  else 0

/-- A port takes an IEEE 1588 portState; a change raises PTP_PORT_STATE (R447). -/
def setPtpPort (e : Fin 2) (st : Nat) (s : Rc8) : Rc8 :=
  let old := (s.tim.ports[e]).st
  if old = st then s
  else raise { src := 89, reason := 0x01, sev := .notice, p0 := e.val, p1 := old + 256 * st, p2 := 0 }
    (modTim (fun t => { t with ports := vmod t.ports e fun x => { x with st := st } }) s)

/-- The grandmaster selected; a change raises GRANDMASTER_CHANGED (R447). -/
def setGrandmaster (e : Fin 2) (gm : Nat) (s : Rc8) : Rc8 :=
  if s.tim.gm = gm then s
  else raise { src := 89, reason := 0x02, sev := .warning, p0 := lo32 gm, p1 := gm / 2 ^ 32 % 2 ^ 32, p2 := e.val }
    (modTim (fun t => { t with gm := gm }) s)

/-- The module may be grandmaster: it holds the token, and its flag says so (R431, R442). -/
def mayMaster (s : Rc8) : Bool := holdsToken s && bitAt s.nv.ptp.flags 0

/-- The best master clock algorithm runs on the holder or a module alone (R430, R431): a module that may not be grandmaster takes
LISTENING (4) for MASTER (6) where no port is SLAVE (DEDUCED, log 98). -/
def ptpDecide (e : Fin 2) (kind : Nat) (content : List Byte) (s : Rc8) : Rc8 :=
  let d := Config.ptpDecision s.nv.ptp ((s.tim.ports[0]).st, (s.tim.ports[1]).st) s.tim.gm e.val kind content
  let slave := d.1 % 10 == 9 || d.2.1 % 10 == 9
  let st := fun (x : Nat) => if x = 6 ∧ slave = false ∧ mayMaster s = false then 4 else x
  let s1 := if bitAt s.nv.ptp.mask 0 then setPtpPort 0 (st (d.1 % 10)) s else s
  let s2 := if bitAt s.nv.ptp.mask 1 then setPtpPort 1 (st (d.2.1 % 10)) s1 else s1
  setGrandmaster e (d.2.2 % 2 ^ 64) s2

/-- PTP starts anew on the enabled ports: PASSIVE on the standby, else as the best master clock algorithm decides;
a port not enabled reports 0 (R431, R442, R443). -/
def ptpRestart (s : Rc8) : Rc8 :=
  let off := ([0, 1] : List (Fin 2)).foldl (fun s e => if bitAt s.nv.ptp.mask e.val then s else setPtpPort e 0 s) s
  if isStandby s then ([0, 1] : List (Fin 2)).foldl (fun s e => if bitAt s.nv.ptp.mask e.val then setPtpPort e 7 s else s) off
  else if s.nv.ptp.mask % 4 = 0 then off
  else ptpDecide (if bitAt s.nv.ptp.mask 0 then 0 else 1) 257 [] off

/-! ### The time state machine (13 R424 to R427) -/

/-- The partner is told the time state (R426). -/
def tellTime (op : PairOp) (round : Nat) (s : Rc8) : Rc8 :=
  if s.pair.partner.present && !isStandby s then plkSend 0x20 0 (.apply op round) s else s

/-- A change of the time state: TIME_STATE_CHANGED, and the partner is told. Entering HOLDOVER starts its hour
(R426, R427). -/
def timeGoto (st : TimeSt) (s : Rc8) : Rc8 :=
  let old := s.tim.st
  if old = st then s
  else
    let s1 := modTim (fun t => { t with st := st, holdFrom := if st = .holdover then secOf s.clk.ptu else 0,
                                        holdAt := if st = .holdover then some s.clk.refosc else none }) s
    tellTime (.timeState st.code) 0
      (raise { src := 88, reason := 0x01, sev := .notice, p0 := old.code, p1 := st.code, p2 := timeSource s } s1)

/-- The last three measurements show a jump: each beyond the threshold, of one sign, within one threshold of each
other (R424). -/
def beyond (threshold : Nat) (l : List Int) : Bool :=
  match l with
  | [a, b, c] =>
    let th : Int := (threshold * fracPerNs : Nat)
    let near := fun (x y : Int) => decide ((x - y).natAbs ≤ th.natAbs)
    ((decide (th < a) && decide (th < b) && decide (th < c)) || (decide (a < -th) && decide (b < -th) && decide (c < -th))) &&
    near a b && near b c && near a c
  | _ => false

/-- The increment changes as the servo has it, by at most 50 µs per second at a measurement (R425), and stays within the
REFOSC tolerance and the slew limit around 4 ns (01 R35). -/
def discipline (offset : Int) (s : Rc8) : Rc8 :=
  let d := clampInt (-13) 13 (Config.servoChange s.clk.inc offset)
  { s with clk := { s.clk with inc := min incMost (max incLeast ((s.clk.inc : Int) + d).toNat) } }

/-- A new refusal (R426). -/
def refuseJump (offset : Int) (s : Rc8) : Rc8 :=
  let q := (s.tim.refSeq + 1) % 2 ^ 32
  raise { src := 88, reason := 0x02, sev := .error, p0 := q, p1 := s32Param offset, p2 := s32Param (offset / 2 ^ 32) }
    (modTim (fun t => { t with refSeq := q, refusal := q, offset := offset, refusals := inc32 t.refusals }) s)

/-- The newest offset of a step that waits is recorded, and the partner is told the step again (R426, R428). -/
def recordOffset (offset : Int) (s : Rc8) : Rc8 :=
  let s1 := modTim (fun t => { t with offset := offset }) s
  match s.tim.stepAt with
  | none => s1
  | some b => tellTime (.timeStep (offset * 65536)) b s1

/-- A step boundary is fixed (R426, R441). -/
def fixStep (b : Nat) (exec : Option Nat) (s : Rc8) : Rc8 :=
  tellTime (.timeStep (s.tim.offset * 65536)) b
    (timeGoto .stepPending (modTim (fun t => { t with stepAt := some b, exec := exec, refusal := 0 }) s))

/-- Within and Beyond (*Table: Time state machine*). -/
def timeOffset (jump : Bool) (offset : Int) (s : Rc8) : Rc8 :=
  match s.tim.st, jump with
  | .freeRunning, false => timeGoto .locked (discipline offset s)
  | .freeRunning, true =>
    if bitAt s.nv.ptp.flags 2 ∧ s.run.mode = .stop then fixStep (roundAfter 1000000 s) none (modTim (fun t => { t with offset := offset }) s)
    else timeGoto .holdover (refuseJump offset s)
  | .locked, false => discipline offset s
  | .locked, true => timeGoto .holdover (refuseJump offset s)
  | .holdover, false => timeGoto .locked (discipline offset (modTim (fun t => { t with refusal := 0 }) s))
  | .holdover, true => if s.tim.refusal = 0 then refuseJump offset s else recordOffset offset s
  | .stepPending, _ => recordOffset offset s

/-- A measurement at a Sync on the port that disciplines the PTU (R424). -/
def offsetMeasured (e : Fin 2) (offset : Int) (delay : Nat) (s : Rc8) : Rc8 :=
  if isStandby s ∨ (s.tim.ports[e]).st ≠ 9 ∨ ptpRuns e s = false then s
  else
    let l := ((offset * 65536 - s.clk.residual) :: s.tim.recent).take 3
    timeOffset (beyond s.nv.ptp.threshold l) offset (modTim (fun t => { t with last := offset, delay := delay, recent := l }) s)

/-- The step that waits is cancelled and its command ends with TOO_LATE (R426). -/
def cancelStep (s : Rc8) : Rc8 :=
  endOpt s.tim.exec .tooLate (modTim (fun t => { t with stepAt := none, exec := none }) s)

/-- Lost (*Table: Time state machine*). -/
def timeLost (s : Rc8) : Rc8 :=
  if isStandby s then s
  else match s.tim.st with
    | .locked => timeGoto .holdover s
    | .stepPending => timeGoto .holdover (cancelStep s)
    | .freeRunning => s
    | .holdover => s

/-- HOLDOVER_LONG: the hour has passed (R427). -/
def holdoverLong (s : Rc8) : Rc8 :=
  match s.tim.holdAt with
  | none => s
  | some t =>
    if s.tim.st = .holdover then
      raise { src := 88, reason := 0x04, sev := .warning, p0 := lo32 s.tim.holdFrom, p1 := 0, p2 := 0 }
        (modTim (fun x => { x with holdAt := none }) (atRefosc (t + 3600000000000) s))
    else s

/-- A new holder starts in the state last received; LOCKED and STEP_PENDING become HOLDOVER, and a step that waits
is cancelled (R426). -/
def timeTakeOver (s : Rc8) : Rc8 :=
  let s1 := modPair (fun q => { q with pend := q.pend.filter fun x => match x.op with
    | .timeStep _ => false
    | _ => true }) (cancelStep s)
  if s.tim.st = .locked ∨ s.tim.st = .stepPending then timeGoto .holdover s1 else s1

/-- A module that becomes standby: its step is cancelled (R426), and its ports are PASSIVE (R431). -/
def timeBecomeStandby (s : Rc8) : Rc8 := ptpRestart (cancelStep s)

/-! ### LATE frames of plant Ethernet (13 R433, R436) -/

/-- One plant Ethernet port changed. -/
def modEth (e : Fin 2) (f : EthPort → EthPort) (s : Rc8) : Rc8 := { s with eth := vmod s.eth e f }

/-- A counter of ETH_STATUS counts (R445): 0 sent, 1 received, 2 receive drops, 3 discarded, 4 pause, 5 FCS, 6 LATE, 7
timestamps dropped, 8 NO_SPACE, 9 sent from queue 7, 10 link-downs. -/
def ethCount (e : Fin 2) (i : Fin 11) (s : Rc8) : Rc8 := modEth e (fun x => { x with count := vmod x.count i inc32 }) s

/-- Frame identifier (R433). -/
def frameId (chan seq : Nat) : Nat := chan * 4096 + seq % 4096

/-- Channel and identifier of a peer frame. -/
def EthFrame.peerOf (f : EthFrame) : Option (Nat × Nat) :=
  match f.payload with
  | .peer c q _ _ _ => some (c, frameId c q)
  | _ => none

/-- A LATE frame is dropped and counted (R436). -/
def dropLate (e : Fin 2) (f : EthFrame) (s : Rc8) : Rc8 :=
  let s1 := match f.peerOf with
    | some (c, _) => { s with peers := vput s.peers c fun x => { x with late := inc32 x.late } }
    | none => s
  raiseLimited (some 1) { src := 92, reason := 0x03, sev := .warning, p0 := e.val, p1 := 0, p2 := ((f.peerOf).map (·.2)).getD 0 } (ethCount e 6 s1)

/-- Frames whose launch time a forward step has skipped are LATE at its boundary (R436). -/
def dropSkipped (e : Fin 2) (s : Rc8) : Rc8 :=
  let late := fun (f : EthFrame) => (f.launch.map fun l => decide (l < s.clk.ptu)).getD false
  ((s.eth[e]).queue.filter late).foldl (fun s f => dropLate e f s) (modEth e (fun x => { x with queue := x.queue.filter fun f => !late f }) s)

/-! ### Steps (03 R94, R95; 13 R428, R429) -/

/-- A round fixed for later moves with the step (R429). -/
def moveRound (b : Nat) (k : Int) (r : Nat) : Nat := if b ≤ r then ((r : Int) + k).toNat else r

/-- A round that something is counted from moves with the step. -/
def shiftRound (k : Int) (r : Nat) : Nat := ((r : Int) + k).toNat

/-- One safety channel's reckoning of rounds. -/
def shiftChannel (k : Int) (c : Channel) : Channel :=
  { c with lost := c.lost.map (fun x => (x.1, shiftRound k x.2)), axes := c.axes.map fun x =>
      (x.1, { x.2 with hist := x.2.hist.map fun h => (shiftRound k h.1, h.2), last := x.2.last.map fun l => (l.1, shiftRound k l.2) }) }

/-- Every round fixed before the step, and every round something is counted from, moves by k (R429). -/
def moveRounds (b : Nat) (k : Int) (s : Rc8) : Rc8 :=
  let mv := moveRound b k
  let sh := shiftRound k
  { s with
    rnd := { s.rnd with round := sh s.rnd.round },
    eng := { s.eng with swapAt := s.eng.swapAt.map mv, recovered := s.eng.recovered.map sh, gap := s.eng.gap.map mv },
    learn := s.learn.map fun x => (x.1, { x.2 with move := x.2.move.map fun m => { m with round := sh m.round } }),
    net := vmap (fun x => { x with launchFrom := mv x.launchFrom, errFrom := x.errFrom.map fun y => (sh y.1, y.2), nodes := x.nodes.map fun y => { y with replied := y.replied.map sh } }) s.net,
    sch := vmap (fun x => { x with pending := x.pending.map (fun w => { w with round := w.round.map mv }), fullSeen := x.fullSeen.map sh }) s.sch,
    itg := { s.itg with pairs := vmap (fun x => { x with since := sh x.since }) s.itg.pairs },
    peers := vmap (fun x => { x with rxRound := sh x.rxRound, lostAt := sh x.lostAt }) s.peers,
    ffe := { s.ffe with from_ := mv s.ffe.from_, past := s.ffe.past.map fun x => (sh x.1, x.2) },
    saf := { s.saf with outputsFrom := mv s.saf.outputsFrom, activating := s.saf.activating.map (fun x => (x.1, mv x.2)), ch := vmap (shiftChannel k) s.saf.ch,
                        since := vmap sh s.saf.since, lastDisagree := s.saf.lastDisagree.map sh, lostB := vmap (fun x => x.map sh) s.saf.lostB },
    pair := { s.pair with
      pend := s.pair.pend.map fun x => { x with round := mv x.round },
      hand := s.pair.hand.map fun h => { h with round := h.round.map mv },
      offered := s.pair.offered.map mv,
      committed := s.pair.committed.map mv,
      takeAt := s.pair.takeAt.map fun x => (x.1, mv x.2),
      lastRenewal := sh s.pair.lastRenewal,
      lastCommand := sh s.pair.lastCommand,
      releasing := s.pair.releasing.map sh,
      renewed := s.pair.renewed.map sh,
      partner := { s.pair.partner with heard := s.pair.partner.heard.map sh } } }

/-- The waymark candidate is computed anew on the new numbers (R429; 09 R286). -/
def renumberCandidate (b : Nat) (k : Int) (s : Rc8) : Rc8 :=
  match s.chg.candidate with
  | none => s
  | some w =>
    if s.chg.fixed then modChg (fun c => { c with candidate := some (moveRound b k w), waymark := moveRound b k c.waymark }) s
    else if isStandby s then modChg (fun c => { c with candidate := none, confirmed := [] }) s
    else offerCandidate (nextMultiple (candidatePeriod s) (max (roundAfter 1000000 s) s.chg.notBefore)) (modChg (fun c => { c with confirmed := [] }) s)

/-- A step of Δ applied at the boundary of round b: k periods at once, the rest by slewing (R94), and the new
numbers (R95, R429); launch times that it skips are LATE (R436). -/
def applyStep (b : Nat) (delta : Int) (s : Rc8) : Rc8 :=
  let unit := s.rnd.period * fracPerNs
  let k := roundDivAway delta unit
  let r := delta - k * unit
  let s1 := dropSkipped 1 (dropSkipped 0 { s with clk := { s.clk with ptu := ((s.clk.ptu : Int) + k * unit).toNat, residual := r } })
  if k = 0 then s1
  else
    let first := ((b : Int) + k).toNat
    let s2 := moveRounds b k s1
    let s3 := { s2 with rnd := { s2.rnd with renumberings := inc32 s2.rnd.renumberings, lastRenumbered := first, renumbered := some first } }
    renumberCandidate b k
      (raise { src := 91, reason := 0x02, sev := .warning, p0 := s32Param k, p1 := lo32 first, p2 := s32Param (roundDivAway r fracPerNs) } s3)

/-- TIME_STEPPED (R447). -/
def timeStepped (period : Nat) (delta : Int) (s : Rc8) : Rc8 :=
  let ns := roundDivAway delta fracPerNs
  raise { src := 88, reason := 0x03, sev := .warning, p0 := s32Param (roundDivAway delta (period * fracPerNs)), p1 := s32Param ns, p2 := s32Param (ns / 2 ^ 32) } s

/-- The step the holder has told the standby. -/
def stepFromPartner (s : Rc8) : Option (Nat × Int) :=
  (s.pair.pend.filterMap fun x => match x.op with
    | .timeStep d => some (x.round, d)
    | _ => none).getLast?

/-- TIME_STEP_BOUNDARY (R426, R428): the step fixed for a boundary takes effect on the holder, a module alone, or a
standby that was told of it. -/
def stepBoundary (s : Rc8) : Rc8 :=
  if isStandby s then
    match stepFromPartner s with
    | none => s
    | some (b, d) =>
      let s1 := modPair (fun q => { q with pend := q.pend.filter fun x => match x.op with
        | .timeStep _ => false
        | _ => true }) (atPtu (b * s.rnd.period * fracPerNs) s)
      timeStepped s.rnd.period d (modTim (fun t => { t with steps := inc32 t.steps }) (applyStep b d s1))
  else match s.tim.st, s.tim.stepAt with
    | .stepPending, some b =>
      let d := s.tim.offset * 65536
      let s1 := applyStep b d (modTim (fun t => { t with stepAt := none, exec := none, steps := inc32 t.steps }) (atPtu (b * s.rnd.period * fracPerNs) s))
      endOpt s.tim.exec .done (timeGoto .locked (timeStepped s.rnd.period d s1))
    | _, _ => s

/-! ### Commands (13 R440 to R443) -/

/-- TIME_ACCEPT_STEP, step 5 (R441). -/
def checkAcceptStep (e : Exec) (s : Rc8) : Option Status :=
  if s.rnd.round + 3600000000000 / s.rnd.period < u64At e.req 8 then some .badField else none

/-- TIME_ACCEPT_STEP, step 6 (R441). -/
def checkAcceptStepState (e : Exec) (s : Rc8) : Option Status :=
  if isStandby s ∨ s.tim.st ≠ .holdover ∨ s.tim.refusal = 0 ∨ u32At e.req 0 ≠ s.tim.refusal then some .wrongState else none

/-- TIME_ACCEPT_STEP's own row (R441). -/
def acceptStep (e : Exec) (s : Rc8) : Rc8 :=
  if (s.sch[0]).pending.isSome ∨ (s.sch[1]).pending.isSome ∨ s.chg.fixed = true then endWith e.id .busy s
  else fixStep (max (roundAfter 1000000 s) (u64At e.req 8)) (some e.id) (pendNow e s)

/-- A TIME_CONFIGURE request field by field (R442). -/
def ptpOf (r : List Byte) : PtpCfg :=
  { mask := u8At r 0, kind := u8At r 1, profile := u8At r 2, transport := u8At r 3, flags := u8At r 4 % 8, domain := u8At r 5, prio1 := u8At r 6,
    prio2 := u8At r 7, logSync := s8At r 8, logAnnounce := s8At r 9, logDelay := s8At r 10, threshold := u32At r 12 }

/-- TIME_CONFIGURE, step 5 (R442). A mask of 0 disables PTP with either clock kind (DEDUCED, log 39). -/
def checkTimeConfigure (e : Exec) (_ : Rc8) : Option Status :=
  let c := ptpOf e.req
  let n := b2n (bitAt c.mask 0) + b2n (bitAt c.mask 1)
  if 3 < c.mask ∨ c.kind < 1 ∨ 2 < c.kind ∨ c.profile < 1 ∨ 2 < c.profile ∨ c.transport < 1 ∨ 2 < c.transport ∨ 127 < c.domain ∨
     c.logSync < -7 ∨ 1 < c.logSync ∨ c.logAnnounce < 0 ∨ 4 < c.logAnnounce ∨ c.logDelay < -7 ∨ 5 < c.logDelay ∨ c.threshold < 100 ∨
     1000000000 < c.threshold ∨ (c.mask ≠ 0 ∧ c.kind = 1 ∧ n ≠ 1) ∨ (c.mask ≠ 0 ∧ c.kind = 2 ∧ n < 2) then some .badField else none

/-- A PTP configuration in force on a module (R442): a new mask, clock kind, profile, transport or domain restarts
PTP. -/
def effTimeConfigure (r : List Byte) (s : Rc8) : Rc8 :=
  let new := ptpOf r
  let old := s.nv.ptp
  let s1 := { s with nv := { s.nv with ptp := new } }
  let s2 := if new.mask = 0 then s1 else { s1 with pwr := { s1.pwr with domains := s1.pwr.domains ||| (1#12 <<< 9) } }
  if new.mask = old.mask ∧ new.kind = old.kind ∧ new.profile = old.profile ∧ new.transport = old.transport ∧ new.domain = old.domain then s2 else ptpRestart s2

/-- TIME_STATUS (R443). -/
def timeStatusResponse (_ : Exec) (s : Rc8) : List Byte :=
  let t := s.tim
  let freq := roundDivAway (((s.clk.inc : Int) - 262144) * 1000000000) 262144
  le 1 t.st.code ++ le 1 (timeSource s) ++ le 1 (t.ports[0]).st ++ le 1 (t.ports[1]).st ++ leS 4 (clampInt (-2147483648) 2147483647 t.last) ++ leS 4 freq ++
  le 4 t.delay ++ le 8 t.gm ++ le 8 (if t.st = .holdover then t.holdFrom else 0) ++ le 4 t.refusal ++ zeros 4 ++ leS 8 t.offset ++ le 8 (t.stepAt.getD 0) ++
  le 4 t.steps ++ le 4 t.refusals

/-- A configuration command of chapters 13 to 15: refused where the read-back fails, else in force on both modules
from the first boundary at least 1 ms after execution starts (R440). -/
def configureBoth (stored : Bool) (e : Exec) (s : Rc8) : Rc8 :=
  if stored then pairStore e.id (.command e.code e.req) (roundAfter 1000000 s) [] false (fun s => s) s
  else endWith e.id .integrityFail s

/-- TIME_ACCEPT_STEP (R440). -/
def specTimeAcceptStep : CmdSpec := { cls := .engineer, len := lenIs 16, fields := checkAcceptStep, state := checkAcceptStepState }
/-- TIME_STATUS (R440). -/
def specTimeStatus : CmdSpec := { cls := .observe, urgent := true, len := lenIs 0, resp := fun _ => 64 }
/-- TIME_CONFIGURE (R440). -/
def specTimeConfigure : CmdSpec := { cls := .engineer, len := lenIs 32, fields := checkTimeConfigure, state := refuseStandby }

/-! ### Meanings -/

/-- PTP_OFFSET_MEASUREMENT (R424, R426): offset and mean path delay in ns, measured at a Sync. -/
def execPtpOffsetMeasurement (e : Fin 2) (offset : Int) (delay : Nat) (s : State) : Answer :=
  actIf (decide (offset.natAbs < 2 ^ 63 ∧ delay < 2 ^ 32)) "PTP_OFFSET_MEASUREMENT" (offsetMeasured e offset delay) s

/-- PTP_LOST (R426). -/
def execPtpLost (s : State) : Answer := act timeLost s

/-- HOLDOVER_LONG (R427). -/
def execHoldoverLong (s : State) : Answer := act holdoverLong s

/-- TIME_STEP_BOUNDARY (03 R94). -/
def execTimeStepBoundary (s : State) : Answer := act stepBoundary s

/-- TIME_ACCEPT_STEP (R441). -/
def execTimeAcceptStep (p : Fin 4) (m : Fin 8) (s : State) : Answer := act (runCmd 0x0A01 p m acceptStep) s

/-- TIME_STATUS (R443). -/
def execTimeStatus (p : Fin 4) (m : Fin 8) (s : State) : Answer := act (answer 0x0A02 p m timeStatusResponse) s

/-- TIME_CONFIGURE (R442); `stored` is whether this module's read-back matches. -/
def execTimeConfigure (p : Fin 4) (m : Fin 8) (stored : Bool) (s : State) : Answer := act (runCmd 0x0A03 p m (configureBoth stored)) s

end Sys2Proof.Machine
end

