-- ==== Sys2Proof/Machine/Ether.lean ====
section
/-! DEFINITION. Plant Ethernet: transmit queues, launch times, received frames, peer channels, PTP messages, and the
commands (13 R430 to R439, R444 to R447). -/

namespace Sys2Proof.Machine

open Sys2Proof

/-! ### Ports, counters and frames on the wire (13 R432 to R436) -/

/-- One peer channel changed. -/
def modPeer (ch : Fin 16) (f : Peer → Peer) (s : Rc8) : Rc8 := { s with peers := vmod s.peers ch f }

/-- Speed codes (R444). -/
def ethSpeedCode : EthSpeed → Nat
  | .mbit1000 => 1 | .mbit100 => 2 | .mbit10 => 3

/-- Transmit correction in ns (*Table: PHY corrections*). -/
def txCorrection (speed : Nat) : Nat := if speed = 1 then 184 else if speed = 2 then 384 else 0

/-- Receive correction in ns (*Table: PHY corrections*). -/
def rxCorrection (speed : Nat) : Nat := if speed = 1 then 312 else if speed = 2 then 512 else 0

/-- Bytes of a frame from its destination address to its FCS, without a tag. -/
def EthPayload.size : EthPayload → Nat
  | .peer _ _ _ _ d => 14 + 20 + 8 + 16 + d.length + 4
  | .arpReply _ _ => 64
  | .arpGratuitous _ => 64
  | .echoReply _ d => 14 + 20 + 8 + d.length + 4
  | .ptp t _ => if t = 11 then 14 + 64 + 4 else if t = 2 ∨ t = 3 ∨ t = 10 then 14 + 54 + 4 else 14 + 44 + 4

/-- Time of a frame on the wire in ns, its preamble and its tag included. -/
def wireNs (speed : Nat) (f : EthFrame) : Nat :=
  (8 + max 64 (f.payload.size + if f.vlan = 0 then 0 else 4)) * (if speed = 1 then 8 else if speed = 2 then 80 else 800)

/-- Transmit buffers in use (R434, R435). -/
def txUsed (x : EthPort) : Nat := x.queue.length + (if x.sending.isSome then 1 else 0)

/-- A frame for a queue finds no buffer: one is always kept for queue 7 (R435). -/
def txFull (x : EthPort) (queue : Nat) : Bool := if queue = 7 then decide (64 ≤ txUsed x) else decide (63 ≤ txUsed x)

/-- The earliest launch time that waits. -/
def nextLaunch (x : EthPort) : Option Nat :=
  x.queue.foldl (fun m f => match m, f.launch with
    | none, l => l
    | some a, some b => some (min a b)
    | some a, none => some a) none

/-- A frame without a launch time may start now: its wire time ends before the next launch time (R436). -/
def fitsNow (x : EthPort) (now : Nat) (f : EthFrame) : Bool :=
  f.launch.isNone &&
  (match nextLaunch x with
   | none => true
   | some l => decide (now + wireNs x.speed f * fracPerNs ≤ l))

/-- The queue served next: 7 first, then round robin by the credit left; with no credit left the weights are taken
anew (R435). -/
def serveQueue (x : EthPort) (weights : List Nat) (ready : List Nat) : Option (Nat × List Nat) :=
  if ready.contains 7 then some (7, x.credit)
  else
    let pick := fun (credit : List Nat) => ([6, 5, 4, 3, 2, 1, 0] : List Nat).find? fun q => ready.contains q && decide (0 < credit.getD q 0)
    match pick x.credit with
    | some q => some (q, lmod x.credit q fun n => n - 1)
    | none => (pick weights).map fun q => (q, lmod weights q fun n => n - 1)

/-- The first place in the queue of a frame that is ready in a queue number. -/
def readyAt (x : EthPort) (now q : Nat) : Nat := x.queue.findIdx fun f => f.queue == q && fitsNow x now f

/-- A frame starts on a free port. -/
def startFrame (e : Fin 2) (s : Rc8) : Rc8 :=
  let x := s.eth[e]
  if x.sending.isSome || !x.link then s
  else
    let ready := (x.queue.filter (fitsNow x s.clk.ptu)).map (·.queue)
    match serveQueue x (s.nv.ethCfg[e]).weights ready with
    | none => s
    | some (q, credit) =>
      let i := readyAt x s.clk.ptu q
      match x.queue[i]? with
      | none => s
      | some f => modEth e (fun x => { x with sending := some f, queue := x.queue.eraseIdx i, credit := credit }) { s with out := s.out ++ [.eth e f] }

/-- A frame is LATE when it is queued (R436). -/
def lateAtOnce (x : EthPort) (now : Nat) (f : EthFrame) : Bool :=
  match f.launch with
  | none => false
  | some l => decide (l < now + 2000 * fracPerNs) || x.speed == 3

/-- A frame is queued: refused where no buffer is left, dropped where it is LATE (R435, R436). -/
def queueFrame (e : Fin 2) (f : EthFrame) (s : Rc8) : Rc8 :=
  let x := s.eth[e]
  if txFull x f.queue then ethCount e 8 s
  else if lateAtOnce x s.clk.ptu f then dropLate e f s
  else startFrame e (modEth e (fun x => { x with queue := x.queue ++ [f] }) s)

/-- ETH_FRAME_LAUNCH: the earliest launch time has come (R436). A frame whose way is not free, or whose port has no
link, is dropped as LATE. -/
def frameLaunch (e : Fin 2) (s : Rc8) : Rc8 :=
  let x := s.eth[e]
  if dmaStopped 8 s then s
  else match nextLaunch x with
  | none => s
  | some l =>
    let i := x.queue.findIdx fun f => f.launch == some l
    match x.queue[i]? with
    | none => s
    | some f =>
      let s1 := modEth e (fun x => { x with queue := x.queue.eraseIdx i }) (atPtu l s)
      if x.sending.isSome || !x.link || x.speed == 3 then startFrame e (dropLate e f s1)
      else modEth e (fun x => { x with sending := some f }) { s1 with out := s1.out ++ [.eth e f] }

/-- The transmit timestamp of a peer frame joins the queue, or is dropped where it is full (R433). -/
def stampFrame (e : Fin 2) (f : EthFrame) (s : Rc8) : Rc8 :=
  match f.peerOf with
  | none => s
  | some (_, id) =>
    if 16 ≤ (s.eth[e]).ts.length then ethCount e 7 (modEth e (fun x => { x with tsOver := true, tsDropped := inc32 x.tsDropped }) s)
    else modEth e (fun x => { x with ts := x.ts ++ [{ id := id, correction := txCorrection x.speed, time := f.launch.getD s.clk.ptu }] }) s

/-- ETH_FRAME_SENT (R435): the buffer is free, the timestamp returns, and the next frame starts. -/
def frameSent (e : Fin 2) (s : Rc8) : Rc8 :=
  match (s.eth[e]).sending with
  | none => s
  | some f =>
    let s1 := ethCount e 0 (modEth e (fun x => { x with sending := none }) s)
    let s2 := if f.queue = 7 then ethCount e 9 s1 else s1
    startFrame e (stampFrame e f s2)

/-! ### Peer channels (13 R437 to R439) -/

/-- An enabled channel with a direction flag: 1 transmit, 2 receive. -/
def peerUses (c : PeerCfg) (bit : Nat) : Bool := bitAt c.flags 0 && bitAt c.flags bit

/-- ETH_LAUNCH (R439): the holder queues the data published last; the standby is told the sequence (10 R319). -/
def ethLaunch (e : Fin 2) (ch : Fin 16) (off : Nat) (s : Rc8) : Rc8 :=
  let c := s.nv.peerCfg[ch]
  let p := s.peers[ch]
  if !holdsToken s || !peerUses c 1 || c.port != e.val then s
  else if txFull s.eth[e] c.pcp then ethCount e 8 s
  else
    let seq := (p.sent + 1) % 2 ^ 32
    let s1 := modPeer ch (fun x => { x with sent := seq, fresh := false }) s
    let s2 := if s.pair.partner.present then plkSend 0x14 0 (.service (16 + ch.val) (le 4 seq)) s1 else s1
    queueFrame e { queue := c.pcp, vlan := c.vlan, launch := some (roundStart s + (off + c.delay) * fracPerNs),
                   payload := .peer ch.val seq (1 + 2 * b2n (!p.fresh)) s.rnd.round (padTo c.len p.tx) } s2

/-- a is newer than b modulo 2^32 (R439, 10 R311). -/
def newer32 (a b : Nat) : Bool := let d := (a + 2 ^ 32 - b % 2 ^ 32) % 2 ^ 32; decide (1 ≤ d ∧ d < 2 ^ 31)

/-- A datagram is accepted by a channel (R439). -/
def peerAccepts (e : Fin 2) (sender port : Nat) (payload : List Byte) (s : Rc8) (ch : Fin 16) : Bool :=
  let c := s.nv.peerCfg[ch]
  peerUses c 2 && c.port == e.val && c.udp == port && (c.filter == 0 || c.filter == sender) && decide (16 ≤ payload.length) &&
  u8At payload 0 == 1 && u8At payload 1 == ch.val &&
  (match (s.peers[ch]).rxSeq with
   | none => true
   | some q => newer32 (u32At payload 4) q)

/-- An accepted frame replaces the receive buffer; a LOST channel is VALID again (R439). -/
def peerTake (e : Fin 2) (ch : Fin 16) (payload : List Byte) (s : Rc8) : Rc8 :=
  let p := s.peers[ch]
  let seq := u32At payload 4
  let s1 := modPeer ch (fun x => { x with st := 1, rx := payload.drop 16, rxSeq := some seq, rxRound := s.rnd.round,
                                          rxTime := s.clk.ptu - rxCorrection (s.eth[e]).speed * fracPerNs }) s
  if p.st = 2 then raise { src := 93, reason := 0x02, sev := .notice, p0 := ch.val, p1 := lo32 (s.rnd.round - p.lostAt), p2 := seq } s1 else s1

/-- PEER_LOST (R439): no frame accepted for the loss limit. -/
def peerLost (ch : Fin 16) (s : Rc8) : Rc8 :=
  let c := s.nv.peerCfg[ch]
  let p := s.peers[ch]
  if peerUses c 2 ∧ p.st = 1 ∧ p.rxRound + c.loss ≤ s.rnd.round then
    raise { src := 93, reason := 0x01, sev := .error, p0 := ch.val, p1 := p.rxSeq.getD 0, p2 := lo32 s.rnd.round }
      (modPeer ch (fun x => { x with st := 2, lostAt := s.rnd.round }) s)
  else s

/-- The sixteen channels. -/
def allPeers : List (Fin 16) := [0, 1, 2, 3, 4, 5, 6, 7, 8, 9, 10, 11, 12, 13, 14, 15]

/-! ### Received frames (13 R432, R434, R435, R437) -/

/-- A frame with a right FCS that has a buffer (R434). -/
def ethDeliver (e : Fin 2) (f : EthRx) (s : Rc8) : Rc8 :=
  let discard := ethCount e 3 s
  let ours := fun (a : Nat) => holdsToken s && (s.nv.ethCfg[e]).ip == a
  if f.size < 64 ∨ 1522 < f.size then discard
  else match f.content with
    | .pause => ethCount e 4 s
    | .arp t ip mac => if ours t then queueFrame e { queue := 0, launch := none, payload := .arpReply ip mac } s else discard
    | .echo t from_ d => if ours t then queueFrame e { queue := 0, launch := none, payload := .echoReply from_ d } s else discard
    | .udp from_ port pay =>
      (match allPeers.find? (peerAccepts e from_ port pay s) with
       | some ch => peerTake e ch pay s
       | none => discard)
    | .other => discard

/-- ETH_FRAME_RECEIVED (R434, R435): one receive buffer is kept for PCP 7. -/
def ethReceived (e : Fin 2) (f : EthRx) (s : Rc8) : Rc8 :=
  if !(s.eth[e]).link || !(s.nv.ethCfg[e]).enabled || dmaStopped 8 s then s
  else if !f.fcsOk then ethCount e 5 s
  else if (if f.pcp = 7 then decide (32 ≤ f.buffers) else decide (31 ≤ f.buffers)) then
    raiseLimited (some 1) { src := 92, reason := 0x04, sev := .warning, p0 := e.val, p1 := 0, p2 := 0 } (ethCount e 2 (ethCount e 1 s))
  else ethDeliver e f (ethCount e 1 s)

/-- ETH_LINK_UP (R447): an enabled port, at its fixed speed where it has one (R434). -/
def ethUp (e : Fin 2) (speed : EthSpeed) (s : Rc8) : Rc8 :=
  let fixed := (s.nv.ethCfg[e]).speed
  if (s.eth[e]).link || !(s.nv.ethCfg[e]).enabled || (fixed != 0 && fixed != ethSpeedCode speed) then s
  else startFrame e (raise { src := 92, reason := 0x01, sev := .notice, p0 := e.val, p1 := ethSpeedCode speed, p2 := 0 }
    (modEth e (fun x => { x with link := true, speed := ethSpeedCode speed }) s))

/-- ETH_LINK_DOWN (R447): a frame on the wire is gone. -/
def ethDown (e : Fin 2) (s : Rc8) : Rc8 :=
  if (s.eth[e]).link then
    let s1 := ethCount e 10 (modEth e (fun x => { x with link := false, speed := 0, sending := none }) s)
    raise { src := 92, reason := 0x02, sev := .warning, p0 := e.val, p1 := (s1.eth[e]).count[10], p2 := 0 } s1
  else s

/-! ### PTP messages (13 R430, R431) -/

/-- The number of the next message of a kind: 0 Announce, 1 Sync, 2 Delay_Req, 3 Pdelay_Req. -/
def ptpNext (e : Fin 2) (kind : Fin 4) (s : Rc8) : Nat × Rc8 :=
  let n := (s.tim.ports[e]).seq[kind]
  (n, modTim (fun t => { t with ports := vmod t.ports e fun x => { x with seq := x.seq.set kind ((n + 1) % 65536) } }) s)

/-- A PTP message is sent: event messages through queue 6, the others untagged through queue 0 (R435). -/
def ptpSend (e : Fin 2) (messageType seq : Nat) (s : Rc8) : Rc8 :=
  queueFrame e { queue := if messageType < 8 then 6 else 0, launch := none, payload := .ptp messageType seq } s

/-- A message followed by another in two-step mode. -/
def ptpSendTwo (e : Fin 2) (first second seq : Nat) (s : Rc8) : Rc8 :=
  let s1 := ptpSend e first seq s
  if bitAt s.nv.ptp.flags 1 then s1 else ptpSend e second seq s1

/-- PTP_MESSAGE_RECEIVED (R430, R431): a peer delay request is answered in the peer-to-peer profile, a delay request
by a master; the standby's ports do nothing else, and management messages get no response. -/
def ptpMessage (e : Fin 2) (f : PtpMsg) (s : Rc8) : Rc8 :=
  if !ptpRuns e s || dmaStopped 8 s || f.domain != s.nv.ptp.domain then s
  else if f.messageType = 2 then (if s.nv.ptp.profile = 2 then ptpSendTwo e 3 10 f.seq s else s)
  else if isStandby s ∨ f.messageType = 13 then s
  else
    let s1 := if f.messageType = 1 ∧ s.nv.ptp.profile = 1 ∧ (s.tim.ports[e]).st = 6 then ptpSend e 9 f.seq s else s
    ptpDecide e f.messageType f.body s1

/-- PTP_MESSAGE_INTERVAL (R431): what the port's state sends; only the holder sends Announce, Sync, Follow_Up and
Delay_Req. -/
def ptpInterval (e : Fin 2) (k : PtpTimer) (s : Rc8) : Rc8 :=
  if !ptpRuns e s then s
  else
    let st := (s.tim.ports[e]).st
    let s1 := if isStandby s then s else ptpDecide e 256 [] s
    match k with
    | .announce => if st = 6 ∧ holdsToken s = true then let r := ptpNext e 0 s1; ptpSend e 11 r.1 r.2 else s1
    | .sync => if st = 6 ∧ holdsToken s = true then let r := ptpNext e 1 s1; ptpSendTwo e 0 8 r.1 r.2 else s1
    | .delay =>
      if s.nv.ptp.profile = 2 then let r := ptpNext e 3 s1; ptpSend e 2 r.1 r.2
      else if (st = 8 ∨ st = 9) ∧ holdsToken s = true then let r := ptpNext e 2 s1; ptpSend e 1 r.1 r.2
      else s1

/-- Gratuitous ARP of a new holder on each enabled port (R437). -/
def gratuitousArp (s : Rc8) : Rc8 :=
  ([0, 1] : List (Fin 2)).foldl (fun s e =>
    if (s.nv.ethCfg[e]).enabled then queueFrame e { queue := 0, launch := none, payload := .arpGratuitous (s.nv.ethCfg[e]).ip } s else s) s

/-! ### Runtime services (13 R433, R439; 08 R270) -/

/-- A service answered in the call; on the standby the holder's logged result is taken where it has come, and the
holder forwards its own (08 R270; 10 R320). -/
def serviceInCall (t : Fin 8) (effect : Rc8 → Rc8) (st : Status) (data : List Byte) (s : Rc8) : Rc8 :=
  if isStandby s then
    match s.pair.reads.find? fun x => x.1 == t.val with
    | some x =>
      let s1 := modPair (fun q => { q with reads := q.reads.eraseIdx (q.reads.findIdx fun z => z.1 == t.val) }) (effect s)
      { s1 with out := s1.out ++ [.serviceStatus t (Status.ofCode (u16At x.2 0)) (x.2.drop 2)] }
    | none => let s1 := effect s; { s1 with out := s1.out ++ [.serviceStatus t st data] }
  else
    let s1 := effect s
    let s2 := { s1 with out := s1.out ++ [.serviceStatus t st data] }
    if holdsToken s ∧ s.pair.partner.present = true then plkSend 0x14 0 (.service (32 + t.val) (le 2 st.code ++ data)) s2 else s2

/-- A transmit timestamp entry (R433). -/
def TsEntry.bytes (x : TsEntry) : List Byte := le 2 x.id ++ le 2 x.correction ++ le 8 (secOf x.time) ++ le 4 (nsOf x.time)

/-- TS_READ (R433): overflow flag and dropped count, then the oldest entry, which is removed. -/
def tsRead (t : Fin 8) (e : Fin 2) (s : Rc8) : Rc8 :=
  let x := s.eth[e]
  serviceInCall t
    (fun s =>
      let s1 := modEth e (fun x => { x with ts := x.ts.drop 1, tsOver := false, tsDropped := 0 }) s
      if x.tsOver then raise { src := 89, reason := 0x03, sev := .warning, p0 := e.val, p1 := x.tsDropped, p2 := 0 } s1 else s1)
    .done (le 4 (b2n x.tsOver) ++ le 4 x.tsDropped ++ (x.ts.take 1).flatMap TsEntry.bytes) s

/-- PEER_WRITE (R439): the data are published; without a transmit buffer the call returns NO_SPACE (R435). -/
def peerWrite (t : Fin 8) (ch : Fin 16) (data : List Byte) (s : Rc8) : Rc8 :=
  let c := s.nv.peerCfg[ch]
  let e : Fin 2 := if c.port = 0 then 0 else 1
  if txFull s.eth[e] c.pcp then serviceInCall t (ethCount e 8) .noSpace [] s
  else serviceInCall t (modPeer ch fun x => { x with tx := data, fresh := true }) .done [] s

/-- PEER_READ (R439): data, sequence, corrected receive time and age in rounds. -/
def peerRead (t : Fin 8) (ch : Fin 16) (s : Rc8) : Rc8 :=
  let p := s.peers[ch]
  serviceInCall t (fun s => s) .done
    (le 4 (p.rxSeq.getD 0) ++ le 8 (secOf p.rxTime) ++ le 4 (nsOf p.rxTime) ++ le 4 (lo32 (s.rnd.round - p.rxRound)) ++ p.rx) s

/-! ### Commands (13 R444 to R446) -/

/-- ETH_CONFIGURE, step 5 (R444). -/
def checkEthConfigure (e : Exec) (_ : Rc8) : Option Status :=
  if 1 < u8At e.req 0 ∨ 3 < u8At e.req 1 ∨ ((List.range 7).any fun q => u8At e.req (8 + q) == 0) = true then some .badField else none

/-- A plant Ethernet configuration in force on a module (R444). The IPv4 address at +4 carries no mark 'network byte order': it is read
little-endian, as 00 R8 reads every structure without the mark; the link of a port that is no longer enabled goes down (DEDUCED, log 98). -/
def effEthConfigure (r : List Byte) (s : Rc8) : Rc8 :=
  let on := bitAt (u8At r 2) 0
  let s0 := if on then s else ethDown (if u8At r 0 = 0 then 0 else 1) s
  { s0 with
    nv := { s0.nv with ethCfg := vput s0.nv.ethCfg (u8At r 0) fun _ =>
      { speed := u8At r 1, enabled := on, ip := u32At r 4, weights := (List.range 7).map fun q => u8At r (8 + q) } },
    pwr := { s0.pwr with domains := if on then s0.pwr.domains ||| (1#12 <<< 9) else s0.pwr.domains } }

/-- ETH_STATUS, step 5 (R445). -/
def checkEthStatus (e : Exec) (_ : Rc8) : Option Status := if 1 < u8At e.req 0 then some .badField else none

/-- ETH_STATUS (R445). -/
def ethStatusResponse (e : Exec) (s : Rc8) : List Byte :=
  let x := s.eth[(if u8At e.req 0 = 0 then 0 else 1 : Fin 2)]
  le 1 (b2n x.link) ++ le 1 x.speed ++ zeros 6 ++ (vlist x.count).flatMap (le 4) ++ zeros 12

/-- A peer channel record (*Table: Peer channel record*). The source filter at +20 carries no mark 'network byte order' and is read
little-endian (DEDUCED, log 98). -/
def peerOf (r : List Byte) : PeerCfg :=
  { port := u8At r 1, flags := u8At r 2 % 8, pcp := u8At r 3, vlan := u16At r 4, udp := u16At r 6,
    mac := ((slice r 8 6).foldl (fun a b => 256 * a + b.toNat) 0), len := u16At r 14, ip := ((slice r 16 4).foldl (fun a b => 256 * a + b.toNat) 0),
    filter := u32At r 20, delay := u32At r 24, loss := u16At r 28 }

/-- PEER_CONFIGURE, step 5 (R446). -/
def checkPeerConfigure (e : Exec) (s : Rc8) : Option Status :=
  let c := peerOf e.req
  let ch := u8At e.req 0
  let clash := allPeers.any fun k => k.val != ch && peerUses s.nv.peerCfg[k] 2 && (s.nv.peerCfg[k]).port == c.port && (s.nv.peerCfg[k]).udp == c.udp
  if 15 < ch ∨ 1 < c.port ∨ 7 < c.pcp ∨ 4094 < c.vlan ∨ c.len < 1 ∨ 1456 < c.len ∨ c.delay % 10 ≠ 0 ∨ c.delay < 5000 ∨ 1000000 < c.delay ∨ c.loss < 1 ∨
     ethEnabled c.port s = false ∨ (bitAt c.flags 0 = true ∧ bitAt c.flags 1 = false ∧ bitAt c.flags 2 = false) ∨ (peerUses c 2 = true ∧ clash = true)
  then some .badField else none

/-- A peer channel record in force on a module (R438, R446): an enabled channel counts its loss limit from now. -/
def effPeerConfigure (r : List Byte) (s : Rc8) : Rc8 :=
  let c := peerOf r
  { s with nv := { s.nv with peerCfg := vput s.nv.peerCfg (u8At r 0) fun _ => c },
           peers := vput s.peers (u8At r 0) fun x =>
             { x with st := if bitAt c.flags 0 then 1 else 0, rxSeq := none, rxRound := s.rnd.round } }

/-- PEER_STATUS (R446). -/
def peerStatusResponse (_ : Exec) (s : Rc8) : List Byte :=
  allPeers.flatMap fun ch =>
    let p := s.peers[ch]
    le 1 p.st ++ zeros 1 ++ le 2 (min 0xFFFF (s.rnd.round - p.rxRound)) ++ le 4 p.sent ++ le 4 (p.rxSeq.getD 0) ++ le 4 p.late

/-- ETH_CONFIGURE (R440). -/
def specEthConfigure : CmdSpec := { cls := .engineer, len := lenIs 24, fields := checkEthConfigure, state := refuseStandby }
/-- ETH_STATUS (R440). -/
def specEthStatus : CmdSpec := { cls := .observe, len := lenIs 4, resp := fun _ => 64, fields := checkEthStatus }
/-- PEER_CONFIGURE (R440). -/
def specPeerConfigure : CmdSpec := { cls := .engineer, len := lenIs 32, fields := checkPeerConfigure, state := refuseStandby }
/-- PEER_STATUS (R440). -/
def specPeerStatus : CmdSpec := { cls := .observe, len := lenIs 0, resp := fun _ => 256 }

/-! ### Meanings -/

/-- PTP_MESSAGE_RECEIVED (R430). -/
def execPtpMessageReceived (e : Fin 2) (f : PtpMsg) (s : State) : Answer :=
  actIf (decide (f.messageType < 16 ∧ f.domain < 256 ∧ f.seq < 65536)) "PTP_MESSAGE_RECEIVED" (ptpMessage e f) s

/-- PTP_MESSAGE_INTERVAL (R431). -/
def execPtpMessageInterval (e : Fin 2) (k : PtpTimer) (s : State) : Answer := act (ptpInterval e k) s

/-- ETH_FRAME_RECEIVED (R434). -/
def execEthFrameReceived (e : Fin 2) (f : EthRx) (s : State) : Answer := act (ethReceived e f) s

/-- ETH_FRAME_LAUNCH (R436). -/
def execEthFrameLaunch (e : Fin 2) (s : State) : Answer := act (frameLaunch e) s

/-- ETH_FRAME_SENT (R435). -/
def execEthFrameSent (e : Fin 2) (s : State) : Answer := act (frameSent e) s

/-- ETH_LINK_UP (R447). -/
def execEthLinkUp (e : Fin 2) (speed : EthSpeed) (s : State) : Answer := act (ethUp e speed) s

/-- ETH_LINK_DOWN (R447). -/
def execEthLinkDown (e : Fin 2) (s : State) : Answer := act (ethDown e) s

/-- ETH_LAUNCH (R439), at its milestone. -/
def execEthLaunch (e : Fin 2) (ch : Fin 16) (s : State) : Answer := act (atNext 11 (256 * e.val + ch.val) (ethLaunch e ch)) s

/-- PEER_LOST (R439). -/
def execPeerLost (ch : Fin 16) (s : State) : Answer := act (peerLost ch) s

/-- TS_READ (R433). -/
def execTsRead (t : Fin 8) (e : Fin 2) (s : State) : Answer := act (whileRunning t (tsRead t e)) s

/-- PEER_WRITE (R439). -/
def execPeerWrite (t : Fin 8) (ch : Fin 16) (data : List Byte) (s : State) : Answer := act (whileRunning t (peerWrite t ch data)) s

/-- PEER_READ (R439). -/
def execPeerRead (t : Fin 8) (ch : Fin 16) (s : State) : Answer := act (whileRunning t (peerRead t ch)) s

/-- ETH_CONFIGURE (R444); `stored` is whether this module's read-back matches. -/
def execEthConfigure (p : Fin 4) (m : Fin 8) (stored : Bool) (s : State) : Answer := act (runCmd 0x0A10 p m (configureBoth stored)) s

/-- ETH_STATUS (R445). -/
def execEthStatus (p : Fin 4) (m : Fin 8) (s : State) : Answer := act (answer 0x0A11 p m ethStatusResponse) s

/-- PEER_CONFIGURE (R446); `stored` is whether this module's read-back matches. -/
def execPeerConfigure (p : Fin 4) (m : Fin 8) (stored : Bool) (s : State) : Answer := act (runCmd 0x0A20 p m (configureBoth stored)) s

/-- PEER_STATUS (R446). -/
def execPeerStatus (p : Fin 4) (m : Fin 8) (s : State) : Answer := act (answer 0x0A21 p m peerStatusResponse) s

end Sys2Proof.Machine
end

