-- ==== Sys2Proof/Machine/Can.lean ====
section
/-! DEFINITION. The CAN FD ports: receive and transmit objects, selection, errors and bus-off, the time reference,
stop frames, and the commands (14). -/

namespace Sys2Proof.Machine

open Sys2Proof

/-! ### Ports and objects (14 R450 to R457) -/

/-- One CAN port changed. -/
def modCan (c : Fin 4) (f : CanPort → CanPort) (s : Rc8) : Rc8 := { s with can := vmod s.can c f }

/-- Codes of *Table: Transmit status*. -/
def TxSt.code : TxSt → Nat
  | .empty => 0 | .pending => 1 | .selected => 2 | .sent => 3 | .failed => 4 | .cancelled => 5 | .held => 6

/-- The status a code names. -/
def TxSt.ofCode : Nat → TxSt
  | 0 => .empty | 1 => .pending | 2 => .selected | 3 => .sent | 4 => .failed | 5 => .cancelled | _ => .held

/-- The objects of a port with their numbers: −2 the stop object, −1 the reference object (R455, R457). -/
def canObjects (x : CanPort) : List (Int × TxObj) :=
  (-2, x.stop) :: (-1, x.ref) :: ((List.range 64).zip (vlist x.tx)).map fun y => ((y.1 : Int), y.2)

/-- One object changed by its number. -/
def CanPort.modObj (x : CanPort) (i : Int) (f : TxObj → TxObj) : CanPort :=
  if i = -2 then { x with stop := f x.stop } else if i = -1 then { x with ref := f x.ref } else { x with tx := vput x.tx i.toNat f }

/-- Every object changed. -/
def CanPort.mapObj (x : CanPort) (f : TxObj → TxObj) : CanPort := { x with stop := f x.stop, ref := f x.ref, tx := vmap f x.tx }

/-- Place of an identifier in arbitration: the lower wins; a base identifier before an extended one of the same base
part (R457). -/
def arbitration (o : TxObj) : Nat :=
  if o.ext then (o.id / 2 ^ 18) * 2 ^ 20 + 2 ^ 19 + o.id % 2 ^ 18 else o.id * 2 ^ 20

/-- The PENDING object that is selected, lowest number first among equals (R457). -/
def canWinner (x : CanPort) : Option (Int × TxObj) :=
  ((canObjects x).filter fun y => y.2.st == .pending).foldl
    (fun (best : Option (Int × TxObj)) y =>
      match best with
      | none => some y
      | some b => if arbitration y.2 < arbitration b.2 then some y else some b) none

/-- The object of the current attempt. -/
def canSelected (x : CanPort) : Option (Int × TxObj) := (canObjects x).find? fun y => y.2.st == .selected

/-- The port sends: it is enabled, in PD9 that is on, the module holds the token, and it is not in bus-off (R460,
R463). -/
def canSends (c : Fin 4) (s : Rc8) : Bool :=
  bitAt (s.nv.canCfg[c]).flags 0 && s.pwr.domains.getLsbD 9 && holdsToken s && (s.can[c]).err != .busOff && (s.can[c]).err != .recovering

/-- An object's status goes to the standby, with the reference object's its sequence (10 R319). -/
def tellCan (c : Fin 4) (i : Int) (s : Rc8) : Rc8 :=
  if holdsToken s ∧ s.pair.partner.present = true then
    match (canObjects s.can[c]).find? fun y => y.1 == i with
    | some y => plkSend 0x14 0 (.service (8 + c.val) (leS 2 i ++ le 1 y.2.st.code ++ if i = -1 then le 4 (s.can[c]).refNow else [])) s
    | none => s
  else s

/-- CAN_SELECTION (R457). -/
def canSelection (c : Fin 4) (s : Rc8) : Rc8 :=
  if !canSends c s || (canSelected s.can[c]).isSome || dmaStopped 9 s then s
  else match canWinner s.can[c] with
    | none => s
    | some y => tellCan c y.1 (modCan c (fun x => x.modObj y.1 fun o => { o with st := .selected }) s)

/-! ### The internal objects (14 R461, R464, R465) -/

/-- The reference message that waits takes the reference object (R461). -/
def loadReference (seq : Nat) (cfg : CanCfg) (x : CanPort) : CanPort :=
  let ext := bitAt cfg.ref 31
  let fd := bitAt cfg.flags 5
  { x with ref := { st := .pending, ext := ext, fd := fd, brs := fd && bitAt cfg.flags 2, oneShot := false, dlc := if fd then 10 else 8,
                    id := cfg.ref % 2 ^ 29, data := zeros 64 },
           refNow := seq, refNext := none }

/-- A stop frame loaded into the stop object (R464, R465): the first of its repeats is PENDING. -/
def loadStop (data : List Byte) (repeats : Nat) (x : CanPort) : CanPort :=
  { x with stop := { st := .pending, ext := false, fd := false, brs := false, oneShot := false, dlc := 8, id := 0, data := padTo 64 data },
           stopLeft := repeats - 1, stopNext := none }

/-- After a stop frame is sent: the next repeat, or a command that came meanwhile, becomes PENDING (R465). -/
def nextStop (x : CanPort) : CanPort :=
  match x.stopNext with
  | some (d, n) => loadStop d n x
  | none => if x.stopLeft = 0 then x else { x with stop := { x.stop with st := .pending }, stopLeft := x.stopLeft - 1 }

/-- What waits for the end of an internal object's attempt takes the object (R461, R465): after a stop frame was sent the
next repeat, else a newer command; the waiting reference message. -/
def afterAttempt (i : Int) (cfg : CanCfg) (x : CanPort) : CanPort :=
  if i = -2 then
    if x.stop.st = .sent then nextStop x
    else match x.stopNext with
      | some (d, n) => loadStop d n x
      | none => x
  else if i = -1 then
    match x.refNext with
    | some q => loadReference q cfg x
    | none => x
  else x

/-- An attempt that ended with the object in a status other than SENT: what waits takes the object in that status. -/
def attemptLeft (i : Int) (st : TxSt) (cfg : CanCfg) (x : CanPort) : CanPort :=
  (afterAttempt i cfg (x.modObj i fun o => { o with st := st })).modObj i fun o => { o with st := st }

/-! ### Errors (14 R460) -/

/-- Error passive or active by the counters; entering error passive raises CAN_ERROR_PASSIVE (R460, R476). -/
def canErrState (c : Fin 4) (s : Rc8) : Rc8 :=
  let x := s.can[c]
  if x.err = .busOff ∨ x.err = .recovering then s
  else if 127 < x.tec ∨ 127 < x.rec_ then
    (if x.err = .active then
      raise { src := 96 + c.val, reason := 0x01, sev := .warning, p0 := c.val, p1 := x.tec, p2 := x.rec_ } (modCan c (fun y => { y with err := .passive }) s)
    else s)
  else modCan c (fun y => { y with err := .active }) s

/-- CAN_RECEIVE_ERROR (R460): by 8 where ISO 11898-1 has it so, else by 1; in restricted operation nothing counts
(R463). -/
def canReceiveError (c : Fin 4) (eight : Bool) (s : Rc8) : Rc8 :=
  if canSends c s then canErrState c (modCan c (fun x => { x with rec_ := min 255 (x.rec_ + if eight then 8 else 1) }) s) else s

/-- A one-shot object fails (R458, R460): cause 1 arbitration lost, 2 error frame, 3 bus-off. -/
def txFailed (c : Fin 4) (i : Int) (cause : Nat) (s : Rc8) : Rc8 :=
  raiseLimited none { src := 96 + c.val, reason := 0x05, sev := .warning, p0 := c.val, p1 := s32Param i, p2 := cause }
    (tellCan c i (modCan c (fun x => { (x.modObj i fun o => { o with st := .failed }) with failures := inc32 x.failures }) s))

/-- CAN_BUS_OFF (R460): one-shot objects in PENDING or SELECTED fail, the others are held. -/
def canBusOff (c : Fin 4) (s : Rc8) : Rc8 :=
  let x := s.can[c]
  if x.tec < 256 ∨ x.err = .busOff ∨ x.err = .recovering then s
  else
    let live := (canObjects x).filter fun y => y.2.st == .pending || y.2.st == .selected
    let failed := live.filter fun y => y.2.oneShot
    let held := live.filter fun y => !y.2.oneShot
    let auto := bitAt (s.nv.canCfg[c]).flags 4
    let s1 := failed.foldl (fun s y => txFailed c y.1 3 s) s
    let s2 := held.foldl (fun s y => tellCan c y.1 (modCan c (attemptLeft y.1 .held s.nv.canCfg[c]) s)) s1
    raise { src := 96 + c.val, reason := 0x02, sev := .error, p0 := c.val, p1 := held.length, p2 := failed.length }
      (modCan c (fun x => { x with err := if auto then .recovering else .busOff, offAt := s.clk.refosc, byCommand := false, busOffs := inc32 x.busOffs }) s2)

/-- CAN_RECOVERED (R460): every held object returns to PENDING in one step. -/
def canRecovered (c : Fin 4) (s : Rc8) : Rc8 :=
  let x := s.can[c]
  if x.err = .recovering then
    let held := (canObjects x).filter fun y => y.2.st == .held
    raise { src := 96 + c.val, reason := 0x03, sev := .notice, p0 := c.val, p1 := if x.byCommand then 2 else 1, p2 := (s.clk.refosc - x.offAt) / 1000000 }
      (held.foldl (fun s y => tellCan c y.1 (modCan c (fun x => x.modObj y.1 fun o => { o with st := .pending }) s))
        (modCan c (fun x => { x with err := .active, tec := 0, rec_ := 0 }) s))
  else s

/-! ### The end of an attempt (14 R458, R461, R465) -/

/-- The data of a reference message for an attempt that started at a plant time (*Table: Reference message*). -/
def referenceData (fd : Bool) (time seq : Nat) : List Byte :=
  if fd then le 8 (secOf time) ++ le 4 (nsOf time) ++ le 4 seq else le 4 (lo32 (secOf time)) ++ le 4 (nsOf time % 2 ^ 30 + (seq % 4) * 2 ^ 30)

/-- Data bytes of a DLC (ISO 11898-1). -/
def dlcBytes (fd : Bool) (dlc : Nat) : Nat :=
  if dlc ≤ 8 then dlc else if fd then ([12, 16, 20, 24, 32, 48, 64] : List Nat).getD (dlc - 9) 64 else 8

/-- The internal objects after one of their frames is sent: CAN_STOP_SENT for every stop frame (DEDUCED, log 76). -/
def sentInternal (c : Fin 4) (i : Int) (o : TxObj) (s : Rc8) : Rc8 :=
  let next := modCan c (afterAttempt i s.nv.canCfg[c])
  if i = -2 then
    raise { src := 100, reason := 0x02, sev := .notice, p0 := c.val, p1 := u8At o.data 0 + 256 * u8At o.data 1, p2 := u16At o.data 2 } (next s)
  else if i = -1 then tellCan c i (modCan c (fun x => { x with refSent := inc32 x.refSent }) (next s))
  else s

/-- An attempt that was not sent (R458, R461): FAILED in one-shot mode, else PENDING again. -/
def notSent (c : Fin 4) (i : Int) (o : TxObj) (cause : Nat) (s : Rc8) : Rc8 :=
  if o.oneShot then txFailed c i cause s else tellCan c i (modCan c (attemptLeft i .pending s.nv.canCfg[c]) s)

/-- CAN_ATTEMPT_END (R458): the frame that was sent carries the plant time of its start where it is a reference
message (R462). -/
def attemptEnd (c : Fin 4) (how : CanEnd) (sinceStart : Nat) (s : Rc8) : Rc8 :=
  match canSelected s.can[c] with
  | none => s
  | some (i, o) =>
    if !canSends c s then s
    else match how with
    | .sent =>
      let data := if i = -1 then referenceData o.fd (s.clk.ptu - sinceStart * fracPerNs) (s.can[c]).refNow else o.data.take (dlcBytes o.fd o.dlc)
      let s1 := modCan c (fun x => { (x.modObj i fun o => { o with st := .sent }) with sentCount := inc32 x.sentCount, tec := x.tec - 1 }) s
      let s2 := { s1 with out := s1.out ++ [.can c i (o.id + if o.ext then 2 ^ 31 else 0) o.dlc data] }
      canErrState c (sentInternal c i o (tellCan c i s2))
    | .lost => notSent c i o 1 s
    | .error counted =>
      let s1 := if counted then canErrState c (modCan c (fun x => { x with tec := x.tec + 8 }) s) else s
      if 256 ≤ (s1.can[c]).tec then s1 else notSent c i o 2 s1

/-! ### Received frames (14 R450 to R454, R464) -/

/-- The enabled receive object of an identifier (R450): object 0 takes the stop identifier. -/
def rxObjectOf (l : List RxCfg) (ext : Bool) (id : Nat) : Option Nat :=
  if !ext && id == 0 then some 0
  else if ext then (l.find? fun x => x.enabled && x.ext == some id).map (·.obj)
  else (l.find? fun x => x.enabled && x.obj == id && x.ext.isNone).map (·.obj)

/-- The contents of a receive object; one that has received nothing is empty. -/
def rxObj (x : CanPort) (n : Nat) : RxObj := ((x.rx.find? fun y => y.1 == n).map (·.2)).getD RxObj.reset

/-- CAN_FRAME_RECEIVED (R452, R454, R464). -/
def canReceived (c : Fin 4) (f : CanRx) (s : Rc8) : Rc8 :=
  if !bitAt (s.nv.canCfg[c]).flags 0 || !s.pwr.domains.getLsbD 9 || (s.can[c]).err == .busOff || (s.can[c]).err == .recovering || dmaStopped 9 s then s
  else
    let s0 := if canSends c s then canErrState c (modCan c (fun x => { x with rec_ := if 127 < x.rec_ then 119 + Config.recAfter x.rec_ % 9 else x.rec_ - 1 }) s) else s
    let s1 := modCan c (fun x => { x with received := inc32 x.received }) s0
    match rxObjectOf s.nv.canRx[c] f.ext f.id with
    | none => modCan c (fun x => { x with discarded := inc32 x.discarded }) s1
    | some n =>
      let old := rxObj s.can[c] n
      let new : RxObj := { ext := f.ext, id := f.id, dlc := f.dlc.val, flags := flagBit f.fd 0 + flagBit f.brs 1 + flagBit f.esi 2 + flagBit f.rtr 3, isNew := true,
                           lost := old.lost || old.isNew, generation := (old.generation + 2) % 65536, time := s.clk.ptu - f.sinceStart * fracPerNs,
                           overwrites := if old.isNew then satAdd 0xFFFF old.overwrites 1 else old.overwrites,
                           data := if f.rtr then zeros 64 else padTo 64 (f.data.take (dlcBytes f.fd f.dlc.val)) }
      let s2 := modCan c (fun x => { x with rx := assocPut x.rx n new, overwrites := if old.isNew then inc32 x.overwrites else x.overwrites }) s1
      let s3 := if old.isNew then raiseLimited (some 2) { src := 96 + c.val, reason := 0x04, sev := .warning, p0 := c.val, p1 := n, p2 := 0 } s2 else s2
      if n = 0 then raise { src := 96 + c.val, reason := 0x06, sev := .critical, p0 := c.val, p1 := u8At new.data 0, p2 := u16At new.data 2 } s3 else s3

/-! ### Time reference (14 R461) -/

/-- CAN_REFERENCE: the holder loads the next reference message; one still in progress is replaced once its attempt
ends (R461). -/
def canReference (c : Fin 4) (s : Rc8) : Rc8 :=
  let cfg := s.nv.canCfg[c]
  let x := s.can[c]
  if !holdsToken s || !bitAt cfg.flags 0 || cfg.ref == 0 then s
  else
    let q := (x.refSeq + 1) % 2 ^ 32
    let s1 := modCan c (fun x => { x with refSeq := q }) s
    if x.ref.st = .pending ∨ x.ref.st = .selected ∨ x.ref.st = .held then
      raiseLimited none { src := 100, reason := 0x01, sev := .warning, p0 := c.val, p1 := x.refNext.getD x.refNow, p2 := lo32 s.rnd.round }
        (modCan c (fun x => { x with refNext := some q, refSkipped := inc32 x.refSkipped }) s1)
    else tellCan c (-1) (modCan c (loadReference q cfg) s1)

/-! ### The pair (14 R463) -/

/-- A new holder leaves restricted operation: what had been selected or held on the old holder is PENDING (R463). -/
def canTakeOver (s : Rc8) : Rc8 :=
  { s with can := vmap (fun x =>
    if x.err = .busOff ∨ x.err = .recovering then x
    else
      let y := x.mapObj fun o => if o.st = .selected ∨ o.st = .held then { o with st := .pending } else o
      match x.stopNext with
      | some (d, n) => loadStop d n y
      | none => y) s.can }

/-- A module that becomes standby goes to restricted operation: no attempt of its own runs (R463). -/
def canBecomeStandby (s : Rc8) : Rc8 :=
  { s with can := vmap (fun x => x.mapObj fun o => if o.st = .selected then { o with st := .pending } else o) s.can }

/-- A transmit status that the holder forwarded (R463; 10 R319): the standby's stop and reference objects follow the
holder's, so that a new holder goes on with them. -/
def takeCanStatus (c : Fin 4) (d : List Byte) (s : Rc8) : Rc8 :=
  let i := s16At d 0
  let st := TxSt.ofCode (u8At d 2)
  let cfg := s.nv.canCfg[c]
  modCan c (fun x =>
    if i = -1 then { (loadReference (u32At d 3) cfg x).modObj i (fun o => { o with st := st }) with refSeq := u32At d 3 }
    else if st = .selected ∨ st = .sent then
      let y := x.modObj i fun o => { o with st := st }
      if st = .sent then afterAttempt i cfg y else y
    else attemptLeft i st cfg x) s

/-- An operation that the holder applies to both modules at once, whatever the partner answers. -/
def applyBoth (e : Exec) (eff : Rc8 → Rc8) (s : Rc8) : Rc8 :=
  let s1 := eff s
  if s.pair.partner.present then plkSend 0x20 0 (.apply (.command e.code e.req) 0) s1 else s1

/-! ### Configuration commands (14 R467, R468) -/

/-- The port a request names at +0; the checks have bounded it. -/
def canAt (e : Exec) : Fin 4 := ⟨u8At e.req 0 % 4, Nat.mod_lt _ (by decide)⟩

/-- A port beyond 3. -/
def checkCanPort (e : Exec) (_ : Rc8) : Option Status := if 3 < u8At e.req 0 then some .badField else none

/-- The port named is not enabled (R466). -/
def canOff (e : Exec) (s : Rc8) : Option Status := if bitAt (s.nv.canCfg[canAt e]).flags 0 then none else some .wrongState

/-- The port named is not enabled, or the module is the standby. -/
def canOffOrStandby (e : Exec) (s : Rc8) : Option Status := if isStandby s then some .wrongState else canOff e s

/-- An identifier field: extended by bit 31, reserved bits zero, in range. -/
def identOk (x : Nat) : Bool := if bitAt x 31 then decide (x % 2 ^ 31 < 2 ^ 29) else decide (x < 2048)

/-- CAN_CONFIGURE, step 5 (R449, R467). -/
def checkCanConfigure (e : Exec) (_ : Rc8) : Option Status :=
  let r := e.req
  let arb := u8At r 2 * (1 + u16At r 4 + u8At r 6)
  let dat := u8At r 7 * (1 + u8At r 8 + u8At r 9)
  if 3 < u8At r 0 ∨ 64 ≤ u8At r 1 ∨ u8At r 2 < 1 ∨ 32 < u8At r 2 ∨ u8At r 3 < 1 ∨ 128 < u8At r 3 ∨ u16At r 4 < 2 ∨ 256 < u16At r 4 ∨ u8At r 6 < 1 ∨ 128 < u8At r 6 ∨
     u8At r 7 < 1 ∨ 32 < u8At r 7 ∨ u8At r 8 < 1 ∨ 32 < u8At r 8 ∨ u8At r 9 < 1 ∨ 16 < u8At r 9 ∨ u8At r 10 < 1 ∨ 16 < u8At r 10 ∨ 127 < u8At r 11 ∨
     arb < 80 ∨ dat < 16 ∨ arb < dat ∨ identOk (u32At r 12) = false ∨ u8At r 16 < 1 ∨ 8 < u8At r 16 ∨ allZero r 17 15 = false
  then some .badField else none

/-- A CAN configuration in force on a module (R467): a changed bit timing resets the error counters. -/
def effCanConfigure (r : List Byte) (s : Rc8) : Rc8 :=
  let cfg : CanCfg := { flags := u8At r 1, timing := slice r 2 10, ref := u32At r 12, repeats := u8At r 16 }
  let changed := (vget s.nv.canCfg (u8At r 0) cfg).timing != cfg.timing
  let s1 := { s with nv := { s.nv with canCfg := vput s.nv.canCfg (u8At r 0) fun _ => cfg },
                     can := vput s.can (u8At r 0) fun x =>
                       if changed then { x with tec := 0, rec_ := 0, err := if x.err = .passive then .active else x.err } else x }
  if bitAt cfg.flags 0 then { s1 with pwr := { s1.pwr with domains := s1.pwr.domains ||| (1#12 <<< 9) } } else s1

/-- An entry of CAN_RX_CONFIGURE (R468). -/
def rxCfgAt (r : List Byte) (i : Nat) : RxCfg :=
  let o := 8 + 8 * i
  let f := u8At r (o + 2)
  { obj := u16At r o, enabled := bitAt f 0, ext := if bitAt f 1 then some (u32At r (o + 4)) else none }

/-- Entries of a CAN_RX_CONFIGURE request. -/
def rxCfgs (r : List Byte) : List RxCfg := (List.range (u16At r 2)).map (rxCfgAt r)

/-- The table after entries are taken. -/
def putRxCfgs (l new : List RxCfg) : List RxCfg :=
  new.foldl (fun l x => l.filter (fun y => y.obj != x.obj) ++ [x]) l

/-- Extended identifiers of a table. -/
def extIds (l : List RxCfg) : List Nat := l.filterMap (·.ext)

/-- CAN_RX_CONFIGURE, step 5 (R468). -/
def checkRxConfigure (e : Exec) (s : Rc8) : Option Status :=
  if 3 < u8At e.req 0 ∨ u16At e.req 2 < 1 ∨ 64 < u16At e.req 2 then some .badField
  else
    let new := rxCfgs e.req
    let l := putRxCfgs s.nv.canRx[canAt e] new
    let ids := extIds l
    let named := new.map fun x => (x.ext, x.ext.elim x.obj fun _ => 0)
    firstFail [(!(new.all fun x => decide (1 ≤ x.obj ∧ x.obj ≤ 2047) && ((x.ext.map fun i => decide (i ≤ 0x1FFFFFFF)).getD true)), .badField),
      (!((List.range (u16At e.req 2)).all fun i => bitAt (u8At e.req (8 + 8 * i + 2)) 1 || u32At e.req (8 + 8 * i + 4) == 0), .badField),
      (!(ids.all fun i => ids.count i == 1), .badField), (!(named.all fun i => named.count i == 1), .badField), (decide (512 < ids.length), .noSpace)]

/-- A receive object configuration on a module (R468). -/
def effRxConfigure (r : List Byte) (s : Rc8) : Rc8 :=
  { s with nv := { s.nv with canRx := vput s.nv.canRx (u8At r 0) fun l => putRxCfgs l (rxCfgs r) } }

/-- CAN_RX_CONFIGURE's own row. -/
def rxConfigure (stored : Bool) (e : Exec) (s : Rc8) : Rc8 :=
  if stored then pairStore e.id (.command e.code e.req) 0 [] false (effRxConfigure e.req) s else endWith e.id .integrityFail s

/-! ### Object and status commands (14 R469 to R475) -/

/-- A receive object's 96 bytes (R451). -/
def RxObj.bytes (x : RxObj) : List Byte :=
  le 4 (x.id + if x.ext then 2 ^ 31 else 0) ++ le 1 x.dlc ++ le 1 (x.flags + flagBit x.isNew 4 + flagBit x.lost 5) ++ le 2 x.generation ++ le 8 (secOf x.time) ++
  le 4 (nsOf x.time) ++ le 2 x.overwrites ++ zeros 10 ++ padTo 64 x.data

/-- CAN_RX_READ, step 5 (R469). -/
def checkRxRead (e : Exec) (_ : Rc8) : Option Status :=
  if 3 < u8At e.req 0 ∨ u16At e.req 4 < 1 ∨ 42 < u16At e.req 4 ∨ 2048 < u16At e.req 2 + u16At e.req 4 then some .badField else none

/-- CAN_RX_READ (R452, R469): the objects are returned, then cleared. -/
def rxRead (e : Exec) (s : Rc8) : Rc8 :=
  let c := canAt e
  let first := u16At e.req 2
  let n := u16At e.req 4
  endExec e.id .done ((List.range n).flatMap fun i => (rxObj s.can[c] (first + i)).bytes)
    (modCan c (fun x => { x with rx := x.rx.map fun y =>
      if first ≤ y.1 ∧ y.1 < first + n then (y.1, { y.2 with isNew := false, lost := false, overwrites := 0 }) else y }) s)

/-- A transmit object of a CAN_TX_WRITE request (R470). -/
def txObjOf (r : List Byte) : TxObj :=
  let f := u8At r 2
  { st := .pending, ext := bitAt f 0, fd := bitAt f 1, brs := bitAt f 2, oneShot := bitAt f 3, dlc := u8At r 3, id := u32At r 4, data := slice r 16 64 }

/-- CAN_TX_WRITE, step 5 (R470). -/
def checkTxWrite (e : Exec) (s : Rc8) : Option Status :=
  let o := txObjOf e.req
  let cfg := s.nv.canCfg[canAt e]
  if 3 < u8At e.req 0 ∨ 63 < u8At e.req 1 ∨ 16 ≤ u8At e.req 2 ∨ allZero e.req 8 8 = false ∨ (o.ext = true ∧ 2 ^ 29 ≤ o.id) ∨ (o.ext = false ∧ (o.id = 0 ∨ 2048 ≤ o.id)) ∨
     (o.fd = true ∧ bitAt cfg.flags 1 = false) ∨ (o.brs = true ∧ bitAt cfg.flags 2 = false) ∨ 15 < o.dlc ∨ (o.fd = false ∧ 8 < o.dlc)
  then some .badField else none

/-- The status of a transmit object. -/
def txStatus (c : Fin 4) (i : Nat) (s : Rc8) : TxSt := (vget (s.can[c]).tx i TxObj.reset).st

/-- A write on a module (R456). -/
def effTxWrite (r : List Byte) (s : Rc8) : Rc8 :=
  { s with can := vput s.can (u8At r 0) fun x => { x with tx := vput x.tx (u8At r 1) fun _ => txObjOf r } }

/-- CAN_TX_WRITE's own row (R456, R463). -/
def canWrite (e : Exec) (s : Rc8) : Rc8 :=
  let st := txStatus (canAt e) (u8At e.req 1) s
  if st = .pending ∨ st = .selected ∨ st = .held then endWith e.id .busy s
  else endWith e.id .done (applyBoth e (effTxWrite e.req) s)

/-- CAN_TX_CANCEL, step 5. -/
def checkTxCancel (e : Exec) (_ : Rc8) : Option Status := if 3 < u8At e.req 0 ∨ 63 < u8At e.req 1 then some .badField else none

/-- A cancel on a module (R459). -/
def effTxCancel (r : List Byte) (s : Rc8) : Rc8 :=
  { s with can := vput s.can (u8At r 0) fun x => { x with tx := vput x.tx (u8At r 1) fun o => if o.st = .pending ∨ o.st = .held then { o with st := .cancelled } else o } }

/-- CAN_TX_CANCEL's own row (R459, R471). -/
def txCancel (e : Exec) (s : Rc8) : Rc8 :=
  match txStatus (canAt e) (u8At e.req 1) s with
  | .pending => endExec e.id .done (le 1 TxSt.cancelled.code ++ zeros 3) (applyBoth e (effTxCancel e.req) s)
  | .held => endExec e.id .done (le 1 TxSt.cancelled.code ++ zeros 3) (applyBoth e (effTxCancel e.req) s)
  | .selected => endWith e.id .tooLate s
  | .empty => endWith e.id .wrongState s
  | .sent => endWith e.id .wrongState s
  | .failed => endWith e.id .wrongState s
  | .cancelled => endWith e.id .wrongState s

/-- CAN_TX_STATUS (R472). -/
def txStatusResponse (e : Exec) (s : Rc8) : List Byte := (vlist (s.can[canAt e]).tx).flatMap fun o => le 1 o.st.code

/-- State of a port as CAN_STATUS codes it (R473). -/
def canStateCode (c : Fin 4) (s : Rc8) : Nat :=
  if !bitAt (s.nv.canCfg[c]).flags 0 then 0
  else if !holdsToken s then 5
  else match (s.can[c]).err with
    | .active => 1 | .passive => 2 | .busOff => 3 | .recovering => 4

/-- CAN_STATUS (R473). -/
def canStatusResponse (e : Exec) (s : Rc8) : List Byte :=
  let x := s.can[canAt e]
  le 1 (canStateCode (canAt e) s) ++ le 1 x.rec_ ++ le 2 x.tec ++ le 4 x.busOffs ++ le 4 x.received ++ le 4 x.discarded ++ le 4 x.overwrites ++ le 4 x.sentCount ++
  le 4 x.failures ++ le 4 x.refSent ++ le 4 x.refSkipped ++ le 4 x.refSeq ++ le 2 x.stopSeq ++ zeros 6

/-- CAN_RECOVER, step 6 (R474). -/
def checkRecover (e : Exec) (s : Rc8) : Option Status :=
  firstFail [(isStandby s || !bitAt (s.nv.canCfg[canAt e]).flags 0, .wrongState),
    ((s.can[canAt e]).err != .busOff || bitAt (s.nv.canCfg[canAt e]).flags 4, .wrongState)]

/-- CAN_RECOVER's own row (R474). -/
def canRecover (e : Exec) (s : Rc8) : Rc8 := endWith e.id .done (modCan (canAt e) (fun x => { x with err := .recovering, byCommand := true }) s)

/-- Ports a CAN_STOP names (R475). -/
def stopPorts (r : List Byte) : List (Fin 4) := ([0, 1, 2, 3] : List (Fin 4)).filter fun c => bitAt (u8At r 0) c.val

/-- CAN_STOP, step 5 (R475). -/
def checkCanStop (e : Exec) (_ : Rc8) : Option Status :=
  if u8At e.req 0 = 0 ∨ 15 < u8At e.req 0 ∨ u8At e.req 1 < 1 ∨ 3 < u8At e.req 1 then some .badField else none

/-- CAN_STOP, step 6. -/
def checkCanStopState (e : Exec) (s : Rc8) : Option Status :=
  if isStandby s ∨ ((stopPorts e.req).any fun c => !bitAt (s.nv.canCfg[c]).flags 0) = true then some .wrongState else none

/-- A stop command on a module (R464, R465): while its frame is on the bus, the new one waits for the attempt's end. -/
def effCanStop (r : List Byte) (s : Rc8) : Rc8 :=
  (stopPorts r).foldl (fun s c =>
    modCan c (fun x =>
      let q := (x.stopSeq + 1) % 65536
      let d := le 1 (u8At r 1) ++ le 1 (u8At r 2) ++ le 2 q ++ le 4 (lo32 s.rnd.round)
      let n := (s.nv.canCfg[c]).repeats
      let y := { x with stopSeq := q }
      if x.stop.st = .selected then { y with stopNext := some (d, n), stopLeft := 0 } else loadStop d n y) s) s

/-- CAN_STOP's own row (R475). -/
def canStop (e : Exec) (s : Rc8) : Rc8 :=
  let s1 := applyBoth e (effCanStop e.req) s
  let q := ((stopPorts e.req).head?.map fun c => (s1.can[c]).stopSeq).getD 0
  endExec e.id .done (le 2 q ++ zeros 2) s1

/-- CAN_CONFIGURE (R466). -/
def specCanConfigure : CmdSpec := { cls := .engineer, len := lenIs 32, fields := checkCanConfigure, state := refuseStandby }
/-- CAN_STATUS (R466). -/
def specCanStatus : CmdSpec := { cls := .observe, urgent := true, len := lenIs 4, resp := fun _ => 48, fields := checkCanPort, state := canOff }
/-- CAN_RX_CONFIGURE (R466). -/
def specCanRxConfigure : CmdSpec :=
  { cls := .engineer, len := fun r => impliedLen 4 1 64 (u16At r 2) 8 8 r,
    fields := checkRxConfigure, state := canOffOrStandby }
/-- CAN_RX_READ (R466). -/
def specCanRxRead : CmdSpec :=
  { cls := .observe, len := lenIs 8, resp := fun r => if 1 ≤ u16At r 4 ∧ u16At r 4 ≤ 42 then 96 * u16At r 4 else 0, fields := checkRxRead, state := canOff }
/-- CAN_TX_WRITE (R466). -/
def specCanTxWrite : CmdSpec := { cls := .operate, len := lenIs 80, fields := checkTxWrite, state := canOffOrStandby }
/-- CAN_TX_CANCEL (R466). -/
def specCanTxCancel : CmdSpec := { cls := .operate, urgent := true, len := lenIs 4, resp := fun _ => 4, fields := checkTxCancel, state := canOffOrStandby }
/-- CAN_TX_STATUS (R466). -/
def specCanTxStatus : CmdSpec := { cls := .observe, len := lenIs 4, resp := fun _ => 64, fields := checkCanPort, state := canOff }
/-- CAN_RECOVER (R466). -/
def specCanRecover : CmdSpec := { cls := .operate, urgent := true, len := lenIs 4, fields := checkCanPort, state := checkRecover }
/-- CAN_STOP (R466). -/
def specCanStop : CmdSpec := { cls := .operate, urgent := true, len := lenIs 4, resp := fun _ => 4, fields := checkCanStop, state := checkCanStopState }

/-! ### Meanings -/

/-- CAN_REFERENCE (R461), at its milestone. -/
def execCanReference (c : Fin 4) (s : State) : Answer := act (atNext 10 c.val (fun _ => canReference c)) s

/-- CAN_FRAME_RECEIVED (R452). -/
def execCanFrameReceived (c : Fin 4) (f : CanRx) (s : State) : Answer :=
  actIf (decide (f.id < if f.ext then 2 ^ 29 else 2048)) "CAN_FRAME_RECEIVED" (canReceived c f) s

/-- CAN_SELECTION (R457). -/
def execCanSelection (c : Fin 4) (s : State) : Answer := act (canSelection c) s

/-- CAN_ATTEMPT_END (R458); `sinceStart` is the time since the attempt's start of frame in ns. -/
def execCanAttemptEnd (c : Fin 4) (how : CanEnd) (sinceStart : Nat) (s : State) : Answer := act (attemptEnd c how sinceStart) s

/-- CAN_BUS_OFF (R460). -/
def execCanBusOff (c : Fin 4) (s : State) : Answer := act (canBusOff c) s

/-- CAN_RECOVERED (R460). -/
def execCanRecovered (c : Fin 4) (s : State) : Answer := act (canRecovered c) s

/-- CAN_RECEIVE_ERROR (R460). -/
def execCanReceiveError (c : Fin 4) (eight : Bool) (s : State) : Answer := act (canReceiveError c eight) s

/-- CAN_CONFIGURE (R467); `stored` is whether this module's read-back matches. -/
def execCanConfigure (p : Fin 4) (m : Fin 8) (stored : Bool) (s : State) : Answer := act (runCmd 0x0B01 p m (configureBoth stored)) s

/-- CAN_STATUS (R473). -/
def execCanStatus (p : Fin 4) (m : Fin 8) (s : State) : Answer := act (answer 0x0B02 p m canStatusResponse) s

/-- CAN_RX_CONFIGURE (R468); `stored` is whether this module's read-back matches. -/
def execCanRxConfigure (p : Fin 4) (m : Fin 8) (stored : Bool) (s : State) : Answer := act (runCmd 0x0B03 p m (rxConfigure stored)) s

/-- CAN_RX_READ (R469). -/
def execCanRxRead (p : Fin 4) (m : Fin 8) (s : State) : Answer := act (runCmd 0x0B04 p m rxRead) s

/-- CAN_TX_WRITE (R470). -/
def execCanTxWrite (p : Fin 4) (m : Fin 8) (s : State) : Answer := act (runCmd 0x0B05 p m canWrite) s

/-- CAN_TX_CANCEL (R471). -/
def execCanTxCancel (p : Fin 4) (m : Fin 8) (s : State) : Answer := act (runCmd 0x0B06 p m txCancel) s

/-- CAN_TX_STATUS (R472). -/
def execCanTxStatus (p : Fin 4) (m : Fin 8) (s : State) : Answer := act (answer 0x0B07 p m txStatusResponse) s

/-- CAN_RECOVER (R474). -/
def execCanRecover (p : Fin 4) (m : Fin 8) (s : State) : Answer := act (runCmd 0x0B08 p m canRecover) s

/-- CAN_STOP (R475). -/
def execCanStop (p : Fin 4) (m : Fin 8) (s : State) : Answer := act (runCmd 0x0B09 p m canStop) s

end Sys2Proof.Machine
end

