-- ==== Sys2Proof/Machine/Field.lean ====
section
/-! DEFINITION. The field front: DIO pins, field supplies, and what LATCH and SAMPLE do there (15 R477 to R484, R496,
R497, R499, R501). -/

namespace Sys2Proof.Machine

open Sys2Proof

/-- The field front changed. -/
def modFfe (f : FieldFront → FieldFront) (s : Rc8) : Rc8 := { s with ffe := f s.ffe }

/-- One pin changed. -/
def modPin (i : Fin 32) (f : Pin → Pin) (s : Rc8) : Rc8 := modFfe (fun x => { x with pins := vmod x.pins i f }) s

/-- The 32 pins. -/
def allPins : List (Fin 32) :=
  [0, 1, 2, 3, 4, 5, 6, 7, 8, 9, 10, 11, 12, 13, 14, 15, 16, 17, 18, 19, 20, 21, 22, 23, 24, 25, 26, 27, 28, 29, 30, 31]

/-- A mask of pins. -/
def pinMask (f : Fin 32 → Bool) : BitVec 32 := allPins.foldl (fun m i => if f i then m ||| (1#32 <<< i.val) else m) 0

/-- The pin is configured as an output. -/
def isOutput (i : Fin 32) (s : Rc8) : Bool := (s.nv.pinCfg[i]).mode == 3

/-- The pin's field supply is MISSING: its output diagnostics are suppressed (R480, R481). -/
def supplyMissing (i : Fin 32) (s : Rc8) : Bool := (s.ffe.supply[(if i.val < 16 then 0 else 1 : Fin 2)]).1 == .missing

/-- Supply state codes (R477). -/
def SupplySt.code : SupplySt → Nat
  | .ok => 0 | .low => 1 | .missing => 2

/-! ### Switching (15 R477, R482, R484) -/

/-- A pin is switched; the time of a change is kept (R483). -/
def switchPin (i : Fin 32) (on : Bool) (s : Rc8) : Rc8 :=
  modPin i (fun p => if p.on = on then p else { p with on := on, switched := s.clk.refosc }) s

/-- Every output pin is switched off, until the next LATCH that drives (R482). -/
def pinsOff (s : Rc8) : Rc8 := modFfe (fun x => { x with dark := true }) (allPins.foldl (fun s i => switchPin i false s) s)

/-- The module may drive its pins: it holds the token with its lease valid, or is the old holder of a planned
crossover (R482, R484). -/
def drivesPins (s : Rc8) : Bool := ((holdsToken s && leaseValid s) || s.ffe.offAt.isSome) && s.pwr.domains.getLsbD 11

/-- The output pins take a set of commands; a pin in thermal shutdown stays off (R477, R483). -/
def drivePins (cmd : BitVec 32) (s : Rc8) : Rc8 :=
  allPins.foldl (fun s i =>
    if isOutput i s then switchPin i (drivesPins s && cmd.getLsbD i.val && !(s.ffe.pins[i]).fault.getLsbD 1) s else s) s

/-- Latched faults of a pin are cleared (R483, R501): a pin that has cooled can restart. -/
def clearPin (p : Pin) : Pin :=
  { p with fault := if p.cooled then p.fault &&& 0x05 else p.fault &&& 0x07, cleared := p.fault.getLsbD 1 && !p.cooled, cooled := false }

/-- Latched faults of the pins of a mask are cleared. -/
def clearPins (mask : BitVec 32) (s : Rc8) : Rc8 := allPins.foldl (fun s i => if mask.getLsbD i.val then modPin i clearPin s else s) s

/-- The set that LATCH applies: the one read at ENGINE_START of the round before; with no schedule in force there is no
ENGINE_START and the set published last is taken, in LAYBY the one applied last (R477; 03 R574; DEDUCED, log 41). -/
def latchSet (s : Rc8) : Option (List Byte) :=
  if (anySched s).isNone then some (if s.run.mode = .layby then s.ffe.applied else slice s.run.motionOut 8448 256) else if s.ffe.fresh then some s.ffe.next else none

/-- Bits of a restart or output word of a set. -/
def wordOf (b : List Byte) (o : Nat) : BitVec 32 := BitVec.ofNat 32 (u32At b o)

/-- ENGINE_START: of the output set that the CEN reads, the field-front area; in LAYBY the area applied last is held (R477; 08
R263). -/
def readOutputs (set : List Byte) (s : Rc8) : Rc8 :=
  if s.eng.st = .run then
    modFfe (fun x => { x with next := if s.run.mode = .layby then x.applied else slice set 8448 256, fresh := true }) s
  else s

/-- LATCH at the pins (R477, R482, R484; 10 R330): a set is applied; after an unplanned take-over the first LATCH drives
the values read back at the round of the last renewal. -/
def latchField (s : Rc8) : Rc8 :=
  match latchSet s with
  | none => s
  | some set =>
    let rising := wordOf set 8 &&& ~~~(wordOf s.ffe.applied 8)
    let s1 := modFfe (fun x => { x with applied := set, next := set, fresh := false, missed := 0, dark := x.dark && !drivesPins s,
                                        offAt := x.offAt.map fun _ => s.clk.refosc + 100000 }) s
    let s2 := if rising = 0 then s1 else
      raise { src := 104, reason := 0x05, sev := .notice, p0 := rising.toNat, p1 := 2, p2 := 0xFF } (clearPins rising s1)
    let held := ((s.ffe.past.find? fun x => x.1 == s.pair.lastRenewal).map (·.2)).getD s.ffe.readback
    let s3 := drivePins (if s.rnd.round < s.ffe.from_ then held else wordOf set 0) s2
    modSaf (fun x => { x with offAt := x.offAt.map fun _ => s.clk.refosc + 100000 }) s3

/-- DIO_OUTPUT_TIMEOUT: no output set has been applied for 2 rounds (R482). -/
def outputTimeout (s : Rc8) : Rc8 := if 2 ≤ s.ffe.missed then pinsOff s else s

/-- HANDOVER_OUTPUTS_OFF: 100 µs after LATCH of the handover round (R482; 11 R364). -/
def outputsOff (s : Rc8) : Rc8 :=
  match s.ffe.offAt with
  | none => s
  | some t =>
    modSaf (fun x => { x with offAt := none }) (modFfe (fun x => { x with offAt := none }) (openSafety (pinsOff (atRefosc t s))))

/-! ### Inputs and diagnostics (15 R479, R481, R483, R484) -/

/-- DIO_FILTERED_CHANGE: the change time is that of the raw transition, to 1 µs (R479). -/
def filteredChange (i : Fin 32) (s : Rc8) : Rc8 :=
  let c := s.nv.pinCfg[i]
  if c.mode = 0 then s
  else
    let t := s.clk.ptu - c.filter * 100000 * fracPerNs
    modPin i (fun p => { p with filtered := !p.filtered, changed := t - t % (1000 * fracPerNs), changes := p.changes + 1 }) s

/-- A fault bit of a pin set. -/
def setFault (i : Fin 32) (bit : Nat) (s : Rc8) : Rc8 := modPin i (fun p => { p with fault := p.fault ||| (1#5 <<< bit) }) s

/-- DIO_SHORT (R483). -/
def dioShort (i : Fin 32) (s : Rc8) : Rc8 :=
  if isOutput i s && (s.ffe.pins[i]).on && !supplyMissing i s then
    raiseLimited none { src := 104, reason := 0x01, sev := .warning, p0 := i.val, p1 := lo32 s.rnd.round, p2 := 0 } (setFault i 0 s)
  else s

/-- DIO_THERMAL (R483). -/
def dioThermal (i : Fin 32) (s : Rc8) : Rc8 :=
  if isOutput i s && (s.ffe.pins[i]).on && !supplyMissing i s then
    let latched := bitAt (s.nv.pinCfg[i]).flags 0
    let s1 := modPin i (fun p => { p with cleared := false, cooled := false }) (setFault i 1 (switchPin i false s))
    raise { src := 104, reason := 0x02, sev := .error, p0 := i.val, p1 := if latched then 2 else 1, p2 := 0 } (if latched then setFault i 4 s1 else s1)
  else s

/-- DIO_THERMAL_RESTART: the pin has cooled by 15 K (R483, R501). -/
def thermalRestart (i : Fin 32) (s : Rc8) : Rc8 :=
  let p := s.ffe.pins[i]
  if !p.fault.getLsbD 1 then s
  else if p.fault.getLsbD 4 then modPin i (fun p => { p with cooled := true }) s
  else
    let s1 := modPin i (fun p => { p with fault := p.fault &&& 0x1D, cleared := false, cooled := false }) s
    if isOutput i s1 && !s1.ffe.dark then switchPin i (drivesPins s1 && (wordOf s1.ffe.applied 0).getLsbD i.val) s1 else s1

/-- DIO_OPEN_LOAD (R483). -/
def dioOpenLoad (i : Fin 32) (s : Rc8) : Rc8 :=
  let p := s.ffe.pins[i]
  if isOutput i s && !p.on && bitAt (s.nv.pinCfg[i]).flags 1 && decide (p.switched + 1000000 ≤ s.clk.refosc) && holdsToken s && !supplyMissing i s then
    raiseLimited none { src := 104, reason := 0x03, sev := .warning, p0 := i.val, p1 := lo32 s.rnd.round, p2 := 0 } (setFault i 2 s)
  else s

/-- DIO_FAULT_CONDITION_ENDS: a short or an open load clears by itself (R483). -/
def faultEnds (i : Fin 32) (dioOpenLoad : Bool) (s : Rc8) : Rc8 :=
  modPin i (fun p => { p with fault := p.fault &&& (if dioOpenLoad then 0x1B else 0x1E) }) s

/-- The state a voltage gives a field supply, in units of 10 mV; rising, each threshold must be passed by 0.5 V (R481). -/
def supplyState (old : SupplySt) (v : Nat) : SupplySt :=
  if v < 1000 then .missing
  else match old with
    | .ok => if v < 1800 then .low else .ok
    | .low => if v < 1850 then .low else .ok
    | .missing => if v < 1050 then .missing else if v < 1850 then .low else .ok

/-- FIELD_SUPPLY_CHANGED (R481). -/
def supplyChanged (f : Fin 2) (v : Nat) (s : Rc8) : Rc8 :=
  let old := (s.ffe.supply[f]).1
  let new := supplyState old v
  let s1 := modFfe (fun x => { x with supply := x.supply.set f (new, v) }) s
  if new = old then s1
  else raise { src := 105, reason := 0x01, sev := .warning, p0 := f.val + 1, p1 := old.code + 256 * new.code, p2 := v } s1

/-! ### SAMPLE (15 R477, R483, R484, R490) -/

/-- A channel is questionable (R492). -/
def loopTrimming (c : Nat) (s : Rc8) : Bool := (s.ffe.trim.map fun t => t.chan == c).getD false

/-- One 8-byte loop entry (*Table: Loop entry*). -/
def loopEntry (c : Nat) (s : Rc8) : List Byte :=
  let x := vget s.ffe.loops c Loop.reset
  let settling := x.settleEnd.isSome
  let trimming := loopTrimming c s
  let age := (s.clk.ptu - x.convAt) / (1000 * fracPerNs)
  le 2 x.current ++ le 1 x.status ++
  le 1 (flagBit x.compliance 0 + flagBit (x.compliance || settling || trimming) 1 + flagBit settling 2 + flagBit trimming 3 + flagBit x.srcLimit 4 + flagBit x.over_ 5) ++
  leS 2 (clampInt (-32768) 32767 (roundDivAway x.headroom 10)) ++ le 2 (min 65535 age)

/-- The supplies byte (R477). -/
def suppliesByte (s : Rc8) : Nat := (s.ffe.supply[0]).1.code + 4 * (s.ffe.supply[1]).1.code

/-- Inputs as the program sees them: 0 for an output. -/
def inputWord (s : Rc8) : BitVec 32 := pinMask fun i => (s.ffe.pins[i]).filtered && !isOutput i s

/-- Pins with a diagnostic set. -/
def faultWord (s : Rc8) : BitVec 32 := pinMask fun i => (s.ffe.pins[i]).fault != 0

/-- Outputs whose readback shows both terminals closed (R477). -/
def closedByte (s : Rc8) : Nat := (s.saf.readP &&& s.saf.readM).toNat

/-- The field-front input area (*Table: Field-front input area*). -/
def inputArea (on : BitVec 32) (s : Rc8) : List Byte :=
  le 4 (inputWord s).toNat ++ le 4 on.toNat ++ le 4 (pinMask fun i => (s.ffe.pins[i]).changes != 0).toNat ++
  le 4 (pinMask fun i => decide (1 < (s.ffe.pins[i]).changes)).toNat ++ le 4 (faultWord s).toNat ++ le 1 (suppliesByte s) ++ le 1 (closedByte s) ++
  le 1 s.saf.faults.toNat ++ zeros 1 ++
  allPins.flatMap (fun i => le 4 (lo32 ((s.ffe.pins[i]).changed / (1000 * fracPerNs)))) ++ (List.range 8).flatMap (fun c => loopEntry c s) ++ zeros 40

/-- DIO_READBACK (R483, R484, R502). -/
def readbackFault (i : Fin 32) (kind who : Nat) (s : Rc8) : Rc8 :=
  if (s.ffe.pins[i]).fault.getLsbD 3 then s
  else raise { src := 104, reason := 0x04, sev := .error, p0 := i.val, p1 := kind, p2 := who } (setFault i 3 s)

/-- Readback of one output pin on the holder, which alone drives it (R483, R484). -/
def readbackOwn (x : FieldSample) (s : Rc8) (i : Fin 32) : Rc8 :=
  let p := s.ffe.pins[i]
  if !isOutput i s || !holdsToken s || supplyMissing i s || decide (s.clk.refosc < p.switched + 1000000) then s
  else if p.on && !x.on.getLsbD i.val && !x.limiting.getLsbD i.val then readbackFault i 1 1 s
  else if !p.on && x.high.getLsbD i.val then readbackFault i 2 1 s
  else s

/-- Readback of one output pin on the standby, against the holder's commands (R484). -/
def readbackStandby (x : FieldSample) (s : Rc8) (i : Fin 32) : Rc8 :=
  if !isOutput i s || supplyMissing i s || s.ffe.holder == [] then s
  else
    let cmd := (wordOf s.ffe.holder 256).getLsbD i.val
    let off := cmd && !x.on.getLsbD i.val
    let on := !cmd && x.high.getLsbD i.val
    if off || on then
      let n := (s.ffe.pins[i]).bad + 1
      let s1 := modPin i (fun p => { p with bad := n }) s
      if n = 2 then readbackFault i (if off then 1 else 2) 2 s1 else s1
    else modPin i (fun p => { p with bad := 0 }) s

/-- SAMPLE at the field front (R477): readbacks are judged, and the input area is latched. -/
def sampleField (x : FieldSample) (s : Rc8) : Rc8 :=
  let s1 := allPins.foldl (if isStandby s then readbackStandby x else readbackOwn x) (sampleSafety x.pClosed x.mClosed s)
  let area := inputArea x.on s1
  modFfe (fun f => { f with area := area, readback := x.on, past := ((s.rnd.round, x.on) :: f.past).take 8, inputs := inputWord s1,
                            codes := allPins.flatMap (fun i => le 1 (s1.ffe.pins[i]).fault.toNat), volts := le 2 (f.supply[0]).2 ++ le 2 (f.supply[1]).2, sampled := s.rnd.round,
                            pins := vmap (fun p => { p with changes := 0 }) f.pins }) s1

/-- What the holder sends of its field front with ROUND_INPUTS: the input area, the output commands in force, and the
commanded safety switches with the outputs whose light tests it names for the round; and the CRCs of its active set, its own and the
SML's (10 R319; 11 R364, R372; 15 R484). -/
def fieldForward (s : Rc8) : List Byte :=
  padTo 256 s.ffe.area ++ le 4 (wordOf s.ffe.applied 0).toNat ++ le 1 s.saf.ch[0].closed.toNat ++ le 1 s.saf.ch[1].closed.toNat ++
  le 1 (namedTests s).toNat ++ le 4 ((s.nv.safeActive.map setCrc).getD 0) ++ le 4 s.saf.sml.crc

/-! ### Commands (15 R496, R497, R499, R501) -/

/-- PD11 comes on where a pin or channel is configured (R496). -/
def fieldPower (s : Rc8) : Rc8 := { s with pwr := { s.pwr with domains := s.pwr.domains ||| (1#12 <<< 11) } }

/-- Entry of FFE_DIO_CONFIGURE: pin and configuration. -/
def pinCfgAt (r : List Byte) (k : Nat) : Nat × PinCfg :=
  let o := 8 + 8 * k
  (u8At r o, { mode := u8At r (o + 1), flags := u8At r (o + 2), filter := u16At r (o + 4) })

/-- Entries of a FFE_DIO_CONFIGURE request. -/
def pinCfgs (r : List Byte) : List (Nat × PinCfg) := (List.range (u8At r 0)).map (pinCfgAt r)

/-- FFE_DIO_CONFIGURE, step 5 (R497). -/
def checkDioConfigure (e : Exec) (_ : Rc8) : Option Status :=
  let l := pinCfgs e.req
  let ok := l.all fun x => decide (x.1 ≤ 31 ∧ x.2.mode ≤ 3 ∧ x.2.flags < 4 ∧ 1 ≤ x.2.filter ∧ x.2.filter ≤ 200) && (l.map (·.1)).count x.1 == 1
  let rsv := allZero e.req 1 7 && (List.range (u8At e.req 0)).all fun k => allZero e.req (8 + 8 * k + 3) 1 && allZero e.req (8 + 8 * k + 6) 2
  if u8At e.req 0 < 1 ∨ 32 < u8At e.req 0 ∨ ok = false ∨ rsv = false then some .badField else none

/-- A pin configuration in force on a module (R496): a pin that was an output is switched off first. -/
def effDioConfigure (r : List Byte) (s : Rc8) : Rc8 :=
  let s1 := (pinCfgs r).foldl (fun s x =>
    let s2 := allPins.foldl (fun s i => if i.val = x.1 ∧ x.2.mode ≠ 3 then switchPin i false s else s) s
    { s2 with nv := { s2.nv with pinCfg := vput s2.nv.pinCfg x.1 fun _ => x.2 } }) s
  if (pinCfgs r).any fun x => x.2.mode != 0 then fieldPower s1 else s1

/-- FFE_DIO_RESET, step 5 (R501). -/
def checkDioReset (e : Exec) (_ : Rc8) : Option Status := if u32At e.req 0 = 0 then some .badField else none

/-- FFE_DIO_RESET on a module (R501). -/
def effDioReset (r : List Byte) (s : Rc8) : Rc8 := clearPins (wordOf r 0) s

/-- FFE_DIO_RESET on the module that took the command. -/
def ownDioReset (port : Nat) (r : List Byte) (s : Rc8) : Rc8 :=
  raise { src := 104, reason := 0x05, sev := .notice, p0 := u32At r 0, p1 := 1, p2 := port } (effDioReset r s)

/-- FFE_DIO_RESET's own row: at the next boundary on both modules. -/
def dioReset (e : Exec) (s : Rc8) : Rc8 := waitExec e.id (pairTell (some e.id) (.command e.code e.req) (s.rnd.round + 1) [] true s)

/-- FFE_STATUS (R499): the readings at the last SAMPLE, with the trim mode and the commands in force. -/
def ffeStatusResponse (_ : Exec) (s : Rc8) : List Byte :=
  let x := s.ffe
  let trim := match x.trim with
    | none => 0
    | some t => if t.span then 9 + t.chan else 1 + t.chan
  le 4 x.inputs.toNat ++ le 4 x.readback.toNat ++ le 4 (wordOf x.applied 0 &&& pinMask fun i => isOutput i s).toNat ++ slice x.area 16 4 ++
  padTo 4 x.volts ++ slice x.area 20 1 ++ le 1 trim ++ slice x.area 21 1 ++ zeros 1 ++ padTo 32 x.codes ++ slice x.area 152 64 ++ le 4 (lo32 x.sampled) ++ zeros 4

/-- FFE_DIO_CONFIGURE (R496). -/
def specFfeDioConfigure : CmdSpec :=
  { cls := .engineer, len := fun r => impliedLen 1 1 32 (u8At r 0) 8 8 r,
    fields := checkDioConfigure, state := refuseStandby }
/-- FFE_STATUS (R496). -/
def specFfeStatus : CmdSpec := { cls := .observe, urgent := true, len := lenIs 0, resp := fun _ => 128 }
/-- FFE_DIO_RESET (R496). -/
def specFfeDioReset : CmdSpec := { cls := .operate, len := lenIs 4, fields := checkDioReset, state := refuseStandby }

/-! ### Meanings -/

/-- DIO_FILTERED_CHANGE (R479). -/
def execDioFilteredChange (i : Fin 32) (s : State) : Answer := act (filteredChange i) s

/-- DIO_SHORT (R483). -/
def execDioShort (i : Fin 32) (s : State) : Answer := act (dioShort i) s

/-- DIO_THERMAL (R483). -/
def execDioThermal (i : Fin 32) (s : State) : Answer := act (dioThermal i) s

/-- DIO_THERMAL_RESTART (R483). -/
def execDioThermalRestart (i : Fin 32) (s : State) : Answer := act (thermalRestart i) s

/-- DIO_OPEN_LOAD (R483). -/
def execDioOpenLoad (i : Fin 32) (s : State) : Answer := act (dioOpenLoad i) s

/-- DIO_FAULT_CONDITION_ENDS (R483): of an open load, or of a short. -/
def execDioFaultConditionEnds (i : Fin 32) (dioOpenLoad : Bool) (s : State) : Answer := act (faultEnds i dioOpenLoad) s

/-- DIO_OUTPUT_TIMEOUT (R482). -/
def execDioOutputTimeout (s : State) : Answer := act outputTimeout s

/-- HANDOVER_OUTPUTS_OFF (R482). -/
def execHandoverOutputsOff (s : State) : Answer := act outputsOff s

/-- FIELD_SUPPLY_CHANGED (R481): the supply's voltage in units of 10 mV. -/
def execFieldSupplyChanged (f : Fin 2) (volt : Nat) (s : State) : Answer := actIf (decide (volt < 65536)) "FIELD_SUPPLY_CHANGED" (supplyChanged f volt) s

/-- LEASE_PULSE_LOSS (04 R133): the guardian takes the lease as invalid, and so does the field front (R482). -/
def execLeasePulseLoss (n : Fin 2) (s : State) : Answer :=
  act (fun s => (if s.ffe.offAt.isSome then id else pinsOff) (modNet n (fun k => { k with guard := { k.guard with lease := false } }) s)) s

/-- FFE_DIO_CONFIGURE (R497); `stored` is whether this module's read-back matches. -/
def execFfeDioConfigure (p : Fin 4) (m : Fin 8) (stored : Bool) (s : State) : Answer := act (runCmd 0x0C01 p m (configureBoth stored)) s

/-- FFE_STATUS (R499). -/
def execFfeStatus (p : Fin 4) (m : Fin 8) (s : State) : Answer := act (answer 0x0C03 p m ffeStatusResponse) s

/-- FFE_DIO_RESET (R501). -/
def execFfeDioReset (p : Fin 4) (m : Fin 8) (s : State) : Answer := act (runCmd 0x0C05 p m dioReset) s

end Sys2Proof.Machine
end

