-- ==== Sys2Proof/Machine/Loops.lean ====
section
/-! DEFINITION. The current loops and their trims (15 R488 to R495, R498, R500). -/

namespace Sys2Proof.Machine

open Sys2Proof

/-- One loop channel changed. -/
def modLoop (c : Fin 8) (f : Loop → Loop) (s : Rc8) : Rc8 := modFfe (fun x => { x with loops := vmod x.loops c f }) s

/-- The eight channels. -/
def allLoops : List (Fin 8) := [0, 1, 2, 3, 4, 5, 6, 7]

/-- The channel is configured. -/
def loopUsed (c : Fin 8) (s : Rc8) : Bool := (s.nv.loopCfg[c]).mode != 0

/-! ### Holds and limits (15 R488, R489) -/

/-- A hold output is switched; a change starts the settling time (R488). In TEST none is set (12 R391). -/
def setLoopHold (c : Fin 8) (on : Bool) (s : Rc8) : Rc8 :=
  modLoop c (fun x => if x.hold = on || (on && s.itg.test) then x else { x with hold := on, settleEnd := some (s.clk.refosc + 10000000) }) s

/-- The partner's hold outputs change: every configured channel settles (R488). -/
def loopsSettle (s : Rc8) : Rc8 :=
  allLoops.foldl (fun s c => if loopUsed c s then modLoop c (fun x => { x with settleEnd := some (s.clk.refosc + 10000000) }) s else s) s

/-- Holds as the configuration and PD11 have them; one that an overcurrent has released stays released (R488). -/
def loopsHold (s : Rc8) : Rc8 :=
  allLoops.foldl (fun s c => setLoopHold c (loopUsed c s && s.pwr.domains.getLsbD 11 && (s.ffe.loops[c]).retryAt.isNone) s) s

/-- LOOP_OVERCURRENT_RELEASE: a passive limiter has acted for 50 ms (R489). -/
def overcurrentRelease (c : Fin 8) (s : Rc8) : Rc8 :=
  match (s.ffe.loops[c]).limitFrom with
  | none => s
  | some t =>
    if (s.nv.loopCfg[c]).mode = 1 ∧ (s.ffe.loops[c]).hold = true then
      let s1 := setLoopHold c false (atRefosc (t + 50000000) s)
      modLoop c (fun x => { x with limitFrom := none, over_ := true, retryAt := some (s1.clk.refosc + 10000000000) }) s1
    else s

/-- LOOP_HOLD_RETRY: 10 s after the release (R489). -/
def holdRetry (c : Fin 8) (s : Rc8) : Rc8 :=
  match (s.ffe.loops[c]).retryAt with
  | none => s
  | some t => setLoopHold c (loopUsed c s && s.pwr.domains.getLsbD 11) (modLoop c (fun x => { x with retryAt := none }) (atRefosc t s))

/-- LOOP_SETTLING_END (R488). -/
def settlingEnd (c : Fin 8) (s : Rc8) : Rc8 :=
  match (s.ffe.loops[c]).settleEnd with
  | none => s
  | some t => modLoop c (fun x => { x with settleEnd := none }) (atRefosc t s)

/-! ### Conversions (15 R490 to R493) -/

/-- The reported current: trimmed, rounded to 0.5 µA and clipped (R493). -/
def trimmed (t : Trim) (i : Int) : Nat := (clampInt 0 65535 (8000 + roundDivAway ((i - 8000 - t.z) * (65536 + t.s)) 65536)).toNat

/-- Status of a current (*Table: Loop status*). -/
def loopStatus (beyond : Bool) (i : Nat) : Nat :=
  if beyond ∨ 42000 < i then 4 else if i < 7200 then 3 else if i < 7600 then 1 else if i ≤ 41000 then 0 else 2

/-- 2,000 times the headroom in mV (R492). -/
def headroom2000 (c : LoopCfg) (x : LoopSample) (i : Nat) : Int :=
  2000 * ((if c.mode = 2 then x.source else 10 * c.vsrc) - x.entry - 10 * c.vtmin) - i * c.rw

/-- COMPLIANCE: set below 1.00 V, cleared at 1.20 V or more (R492). -/
def complianceOf (old : Bool) (h : Int) : Bool := if h < 2000000 then true else if 2400000 ≤ h then false else old

/-- The limit's flags and the time since which it has acted (R489). -/
def limitFlags (mode : Nat) (limit : Bool) (now : Nat) (x : Loop) : Loop :=
  { x with srcLimit := limit && mode == 2, over_ := (limit && mode == 1) || x.retryAt.isSome,
           limitFrom := if limit && mode == 1 && x.hold then (x.limitFrom <|> some now) else none }

/-- A capture takes the channel's factory-calibrated current (R494). -/
def captureTake (c : Fin 8) (i : Int) (s : Rc8) : Rc8 :=
  modFfe (fun f => { f with trim := f.trim.map fun t => if t.chan = c.val then { t with capture := t.capture.map fun l => (l ++ [i]).take 64 } else t }) s

/-- LOOP_CONVERSION (R489 to R493). -/
def loopConversion (c : Fin 8) (x : LoopSample) (s : Rc8) : Rc8 :=
  let cfg := s.nv.loopCfg[c]
  if cfg.mode = 0 ∨ s.pwr.domains.getLsbD 11 = false then s
  else
    let old := s.ffe.loops[c]
    let lim := limitFlags cfg.mode x.limit s.clk.refosc old
    let i := trimmed s.nv.trims[c] x.current
    let st := loopStatus lim.over_ i
    let h := headroom2000 cfg x i
    let comp := complianceOf old.compliance h
    let mv := roundDivAway h 2000
    let s1 := modLoop c (fun _ => { lim with current := i, status := st, headroom := mv, compliance := comp, convAt := s.clk.ptu }) (captureTake c x.current s)
    let s2 := if lim.srcLimit then raiseLimited none { src := 106, reason := 0x03, sev := .warning, p0 := c.val, p1 := i, p2 := 0 } s1 else s1
    let s3 := if st = old.status then s2 else
      raise { src := 106, reason := 0x01, sev := .warning, p0 := c.val, p1 := old.status + 256 * st, p2 := i } s2
    if comp = old.compliance then s3
    else raise { src := 106, reason := 0x02, sev := .warning, p0 := c.val, p1 := b2n comp, p2 := s32Param mv } s3

/-! ### Trim mode (15 R494, R495) -/

/-- Trim mode ends (R495): cause 1 button, 2 timeout, 3 key. -/
def leaveTrim (cause : Nat) (s : Rc8) : Rc8 :=
  match s.ffe.trim with
  | none => s
  | some _ => raise { src := 107, reason := 0x01, sev := .notice, p0 := 2, p1 := cause, p2 := 0 } (modFfe (fun x => { x with trim := none }) s)

/-- Configured channels, lowest first. -/
def usedLoops (s : Rc8) : List Nat := (allLoops.filter fun c => loopUsed c s).map (·.val)

/-- The trim mode of a channel's zero step. -/
def zeroStep (chan now : Nat) : TrimMode := { chan := chan, span := false, z := 0, capture := none, press := now }

/-- Three flashes of the trim procedure start: of FAULT, or of N0A to N1B together (R494). -/
def flashes (fault : Bool) (s : Rc8) : Rc8 := modFfe (fun x => { x with flashes := some (fault, s.clk.refosc) }) s

/-- Trim mode is entered on the lowest configured channel with the key at STOP (R494). -/
def enterTrim (s : Rc8) : Rc8 :=
  match usedLoops s with
  | [] => if s.run.key = .stop then flashes true s else s
  | c :: _ =>
    if s.run.key = .stop then
      raise { src := 107, reason := 0x01, sev := .notice, p0 := 1, p1 := 0, p2 := 0 } (modFfe (fun x => { x with trim := some (zeroStep c s.clk.refosc) }) s)
    else s

/-- The next configured channel, wrapping to the lowest. -/
def nextLoop (c : Nat) (l : List Nat) : Nat := ((l.find? fun x => decide (c < x)) <|> l.head?).getD c

/-- A press of SEL in ms (R494, R495). -/
def selPress (ms : Nat) (s : Rc8) : Rc8 :=
  match s.ffe.trim with
  | none =>
    if 3000 ≤ ms ∧ (s.execs.any fun e => e.code == 0x0C04) = false then enterTrim s else s
  | some t =>
    if 3000 ≤ ms then (if s.execs.any fun e => e.code == 0x0C04 then s else leaveTrim 1 s)
    else if ms < 1000 then
      modFfe (fun x => { x with trim := some (if t.span then zeroStep t.chan s.clk.refosc else zeroStep (nextLoop t.chan (usedLoops s)) s.clk.refosc) }) s
    else modFfe (fun x => { x with trim := some { t with press := s.clk.refosc } }) s

/-- A press of SET in ms: a long one starts a capture (R494). -/
def setPress (ms : Nat) (s : Rc8) : Rc8 :=
  modFfe (fun x => { x with trim := x.trim.map fun t =>
    { t with press := s.clk.refosc, capture := if 2000 ≤ ms ∧ t.capture.isNone then some [] else t.capture } }) s

/-- New trims of a channel, with LOOP_TRIM_SET: 1 command, 2 buttons, 3 reset (R493, R502). -/
def storeTrim (c : Nat) (z k : Int) (source why : Nat) (s : Rc8) : Rc8 :=
  raise { src := 107, reason := 0x02, sev := .notice, p0 := c, p1 := (z.emod 65536).toNat + 65536 * (k.emod 65536).toNat, p2 := why }
    { s with nv := { s.nv with trims := vput s.nv.trims c fun _ => { z := z, s := k, source := source } } }

/-- LOOP_TRIM_REFUSED (R494). -/
def trimRefused (c step mean : Nat) (s : Rc8) : Rc8 := raise { src := 107, reason := 0x03, sev := .warning, p0 := c, p1 := step, p2 := mean } (flashes true s)

/-- TRIM_CAPTURE_DONE: the mean of 64 conversions gives Z, or S (R494). -/
def captureDone (s : Rc8) : Rc8 :=
  match s.ffe.trim with
  | none => s
  | some t =>
    match t.capture with
    | none => s
    | some l =>
      if l.length < 64 then s
      else
        let sum := l.foldl (· + ·) 0
        let mean := (clampInt 0 65535 (roundDivAway sum 64)).toNat
        let idle := modFfe (fun x => { x with trim := some { t with capture := none } }) s
        if !t.span then
          if 64 * 7000 ≤ sum ∧ sum ≤ 64 * 9000 then
            modFfe (fun x => { x with trim := some { t with capture := none, span := true, z := roundDivAway (sum - 64 * 8000) 64 } }) s
          else trimRefused t.chan 1 mean idle
        else
          let d := sum - 64 * (8000 + t.z)
          let k := if 0 < d then roundDivAway ((64 * 32000 - d) * 65536) d.toNat else 65536
          if 64 * 38000 ≤ sum ∧ sum ≤ 64 * 42000 ∧ -3277 ≤ k ∧ k ≤ 3277 then
            flashes false (storeTrim t.chan t.z k 2 2 (modFfe (fun x => { x with trim := some (zeroStep t.chan t.press) }) s))
          else trimRefused t.chan 2 mean idle

/-- TRIM_MODE_TIMEOUT: 120 s without a press (R495). -/
def trimTimeout (s : Rc8) : Rc8 :=
  match s.ffe.trim with
  | none => s
  | some t => leaveTrim 2 (atRefosc (t.press + 120000000000) s)

/-! ### Commands (15 R498, R500) -/

/-- FFE_LOOP_CONFIGURE, step 5 (R498). -/
def checkLoopConfigure (e : Exec) (_ : Rc8) : Option Status :=
  let r := e.req
  if 7 < u8At r 0 ∨ 2 < u8At r 1 ∨ 3000 < u16At r 4 ∨ 2000 < u16At r 6 ∨ (u8At r 1 ≠ 2 ∧ (u16At r 8 < 1000 ∨ 3000 < u16At r 8)) then some .badField else none

/-- A loop configuration in force on a module (R488, R498); a channel no longer configured changes its status (R491). -/
def effLoopConfigure (r : List Byte) (s : Rc8) : Rc8 :=
  let cfg : LoopCfg := { mode := u8At r 1, vtmin := u16At r 4, rw := u16At r 6, vsrc := u16At r 8 }
  let s1 := { s with nv := { s.nv with loopCfg := vput s.nv.loopCfg (u8At r 0) fun _ => cfg },
                     ffe := { s.ffe with loops := vput s.ffe.loops (u8At r 0) fun x =>
                       if cfg.mode = 0 then { Loop.reset with hold := x.hold, settleEnd := x.settleEnd } else x } }
  let old := vget s.ffe.loops (u8At r 0) Loop.reset
  if cfg.mode = 0 then
    loopsHold (if old.status = 5 then s1 else
      raise { src := 106, reason := 0x01, sev := .warning, p0 := u8At r 0, p1 := old.status + 256 * 5, p2 := old.current } s1)
  else loopsHold (fieldPower s1)

/-- The channel a request names at +0; the checks have bounded it. -/
def loopAt (e : Exec) : Fin 8 := ⟨u8At e.req 0 % 8, Nat.mod_lt _ (by decide)⟩

/-- FFE_LOOP_TRIM, step 5 (R500). -/
def checkLoopTrim (e : Exec) (_ : Rc8) : Option Status :=
  let a := u8At e.req 1
  if 7 < u8At e.req 0 ∨ a < 1 ∨ 3 < a ∨ (a = 1 ∧ (s16At e.req 2 < -1000 ∨ 1000 < s16At e.req 2 ∨ s16At e.req 4 < -3277 ∨ 3277 < s16At e.req 4)) then some .badField else none

/-- FFE_LOOP_TRIM, step 6. -/
def checkLoopTrimState (e : Exec) (s : Rc8) : Option Status := if loopUsed (loopAt e) s then none else some .wrongState

/-- Trims as FFE_LOOP_TRIM returns them. -/
def trimBytes (t : Trim) : List Byte := leS 2 t.z ++ leS 2 t.s ++ le 1 t.source ++ zeros 3

/-- FFE_LOOP_TRIM's own row (R495, R500). -/
def loopTrim (stored : Bool) (e : Exec) (s : Rc8) : Rc8 :=
  let c := loopAt e
  let a := u8At e.req 1
  if a = 3 then endExec e.id .done (trimBytes s.nv.trims[c]) s
  else if s.ffe.trim.isSome then endWith e.id .busy s
  else if !stored then endWith e.id .integrityFail s
  else
    let s1 := if a = 1 then storeTrim c.val (s16At e.req 2) (s16At e.req 4) 1 1 s else storeTrim c.val 0 0 1 3 s
    endExec e.id .done (trimBytes s1.nv.trims[c]) s1

/-- FFE_LOOP_CONFIGURE (R496). -/
def specFfeLoopConfigure : CmdSpec := { cls := .engineer, len := lenIs 16, fields := checkLoopConfigure, state := refuseStandby }
/-- FFE_LOOP_TRIM (R496). -/
def specFfeLoopTrim : CmdSpec := { cls := .engineer, len := lenIs 8, resp := fun _ => 8, fields := checkLoopTrim, state := checkLoopTrimState }

/-! ### Meanings -/

/-- LOOP_CONVERSION (R490). -/
def execLoopConversion (c : Fin 8) (x : LoopSample) (s : State) : Answer := act (loopConversion c x) s

/-- LOOP_OVERCURRENT_RELEASE (R489). -/
def execLoopOvercurrentRelease (c : Fin 8) (s : State) : Answer := act (overcurrentRelease c) s

/-- LOOP_HOLD_RETRY (R489). -/
def execLoopHoldRetry (c : Fin 8) (s : State) : Answer := act (holdRetry c) s

/-- LOOP_SETTLING_END (R488). -/
def execLoopSettlingEnd (c : Fin 8) (s : State) : Answer := act (settlingEnd c) s

/-- SEL (R494): a press of a length in ms. -/
def execSelButton (ms : Nat) (s : State) : Answer := act (selPress ms) s

/-- SET (R494): a press of a length in ms. -/
def execSetButton (ms : Nat) (s : State) : Answer := act (setPress ms) s

/-- TRIM_CAPTURE_DONE (R494). -/
def execTrimCaptureDone (s : State) : Answer := act captureDone s

/-- TRIM_MODE_TIMEOUT (R495). -/
def execTrimModeTimeout (s : State) : Answer := act trimTimeout s

/-- FFE_LOOP_CONFIGURE (R498); `stored` is whether this module's read-back matches. -/
def execFfeLoopConfigure (p : Fin 4) (m : Fin 8) (stored : Bool) (s : State) : Answer := act (runCmd 0x0C02 p m (configureBoth stored)) s

/-- FFE_LOOP_TRIM (R500); `stored` is whether the MRAM read-back matches. -/
def execFfeLoopTrim (p : Fin 4) (m : Fin 8) (stored : Bool) (s : State) : Answer := act (runCmd 0x0C04 p m (loopTrim stored)) s

end Sys2Proof.Machine
end

