-- ==== Sys2Proof/Machine/Token.lean ====
section
/-! DEFINITION. The token of the pair: epochs, the lease timer, eligibility, taking and giving up the token, resync
starts, and the planned crossover (10 R305, R306, R311 to R318, R326 to R333). -/

namespace Sys2Proof.Machine

open Sys2Proof

/-! ### Epochs, priorities and the lease timer (10 R311, R313, R314, R316) -/

/-- Epoch a is newer than epoch b (R311). -/
def newerEpoch (a b : Nat) : Bool := let d := (a + 65536 - b) % 65536; decide (1 ≤ d ∧ d ≤ 32767)

/-- The highest epoch seen is kept in MRAM (R311). -/
def seeEpoch (e : Nat) (s : Rc8) : Rc8 := if newerEpoch e s.nv.highestEpoch then { s with nv := { s.nv with highestEpoch := e } } else s

/-- The claim priority of this module (R312). -/
def claimPriority (s : Rc8) : Nat :=
  if s.nv.home ≠ 0 ∧ s.nv.home = s.pair.position then 2 else if s.nv.home = 0 ∧ s.pair.position = 1 then 1 else 0

/-- H, in REFOSC cycles (*Table: Lease timer reloads*). -/
def holderCycles (period : Nat) : Nat :=
  if period = 62500 then 2734 else if period = 125000 then 5468 else if period = 250000 then 10937 else if period = 500000 then 21875 else 43750

/-- S, in REFOSC cycles (*Table: Lease timer reloads*). -/
def standbyCycles (period : Nat) : Nat :=
  if period = 62500 then 4063 else if period = 125000 then 8750 else if period = 250000 then 18125 else if period = 500000 then 36875 else 74375

/-- The timer is loaded with H (R313). -/
def loadHolder (s : Rc8) : Rc8 := modPair (fun q => { q with leaseEnd := s.clk.refosc + 40 * holderCycles s.rnd.period }) s

/-- The timer is loaded with S (R314). -/
def loadStandby (s : Rc8) : Rc8 := modPair (fun q => { q with leaseEnd := s.clk.refosc + 40 * standbyCycles s.rnd.period }) s

/-! ### Lease records and answers (10 R312) -/

/-- A lease record of this module. -/
def leaseRecord (kind : LeaseKind) (mark : Nat) (s : Rc8) : LeaseRec :=
  { epoch := s.pair.epoch, kind := kind, position := s.pair.position, round := lo32 s.rnd.round, mark := lo32 mark, key := s.run.key.code,
    mode := s.run.mode.code, prio := claimPriority s }

/-- The record the holder renews with: HANDOVER and HANDOVER_COMMITTED while a handover round is fixed (R331). -/
def renewal (s : Rc8) : LeaseRec :=
  match s.pair.hand with
  | some h => (match h.round with
    | some r => leaseRecord (if h.committed then .committed else .handover) r s
    | none => leaseRecord .renew 0 s)
  | none => leaseRecord .renew 0 s

/-! ### Presence of the partner (10 R306) -/

/-- The partner becomes present: `path` 1 pair link, 2 management window. -/
def partnerPresent (path : Nat) (s : Rc8) : Rc8 :=
  if s.pair.partner.present then s
  else compareKeys (loopsSettle
    (raise { src := 63, reason := 0x01, sev := .notice, p0 := s.pair.partner.position, p1 := path, p2 := 0 }
      (modPair (fun q => { q with partner := { q.partner with present := true } }) s)))

/-- The partner becomes absent. -/
def partnerAbsent (s : Rc8) : Rc8 :=
  if s.pair.partner.present then
    compareKeys (loopsSettle
      (raise { src := 63, reason := 0x02, sev := .warning, p0 := s.pair.partner.position, p1 := lo32 s.rnd.round, p2 := 0 }
        (modPair (fun q => { q with partner := { q.partner with present := false, role := 0, inelig := 0xFFFF } }) s)))
  else s

/-- The partner is present and STANDBY_READY, as its last lease answer said. -/
def partnerReady (s : Rc8) : Bool := s.pair.partner.present && s.pair.partner.role == 3

/-! ### Eligibility (10 R328; 11 R372) -/

/-- This module's pair compatibility level: the level of interface PAIR of its service firmware (18 R534). -/
def pairLevel (s : Rc8) : Nat :=
  let f := s.nv.parts[1]
  (((f.slots[f.inForce]).provides.find? fun x => x.1 == 8).map fun x => x.2.1).getD 0

/-- CRC of the holder's active set and that its SML reports, as its field data tell them (11 R372); none where they have not come. -/
def holderSet (s : Rc8) : Option (Nat × Nat) :=
  if s.ffe.holder.length < 271 then none else some (u32At s.ffe.holder 263, u32At s.ffe.holder 267)

/-- Both SMLs report the CRC of the holder's active set (11 R372): of a holder from which nothing has come, this module's own set stands
for it (DEDUCED, log 123). -/
def smlsAgree (s : Rc8) : Bool :=
  let own := (s.nv.safeActive.map setCrc).getD 0
  match holderSet s with
  | some (set, sml) => own == set && s.saf.sml.crc == set && sml == set
  | none => s.saf.sml.crc == own

/-- The further conditions of bit 11 (11 R372). -/
def safetyEligible (s : Rc8) : Bool :=
  processorHalt s == 0 && !splitRefused s && s.saf.det.axes.isEmpty && s.saf.det.both.isEmpty &&
  (nets s).all (fun n => unavailable 0 n s == 0 && unavailable 1 n s == 0) &&
  (match s.saf.lastDisagree with
   | none => true
   | some r => decide (r + 1000 < s.rnd.round)) &&
  smlsAgree s && s.saf.faults == 0 && latchedGroups s == s.saf.partnerMask

/-- The mask of failing conditions (*Table: Eligibility conditions*): in TEST, which releases every hold, no network is joined (12 R391;
DEDUCED, log 124); with the bits of insertion steps that exceeded
their maximum (R335). -/
def eligMask (s : Rc8) : Nat :=
  let q := s.pair
  let held := fun (k : Fin 3) => (s.itg.pairs[k]).st == .halted || (k != 2 && (s.itg.pairs[k]).st == .suspended)
  (flagBit (!q.synced || q.resync.running || q.resync.requested) 0 + flagBit q.mismatch 1 + flagBit (s.run.key == .stop) 2 +
   flagBit (q.partner.level != pairLevel s) 3 + flagBit (!q.partner.equalItems || bothNets.any (fun n => (s.sch[n]).kept != [])) 4 + flagBit (s.eng.st != .run || s.eng.barred) 5 +
   flagBit (held 0 || held 1 || held 2) 6 + flagBit (s.itg.test || (nets s).any fun n => (s.net[n]).state != .joined) 7 + flagBit (!q.selfTest) 8 +
   flagBit q.lag 9 + flagBit (!(q.plk.up || q.windowMatch)) 10 + flagBit (!safetyEligible s) 11) ||| q.stepFailed

/-! ### Insertion steps (10 R335) -/

/-- The maximum of a step, ns (*Table: Insertion sequence*). -/
def stepMaximum (k : Nat) : Nat :=
  match k with
  | 1 => 500000000
  | 2 => 3000000000
  | 3 => 5000000000
  | 4 => 15000000000
  | 5 => 100000000
  | 6 => 60000000000
  | _ => 1000000000

/-- The eligibility bit of a step whose maximum has passed: joining 7, link training 10, transfer 4, resync 0; of the steps up to the
self-test, its bit 8 (DEDUCED, log 116). -/
def stepBit (k : Nat) : Nat :=
  match k with
  | 4 => 2 ^ 7
  | 5 => 2 ^ 10
  | 6 => 2 ^ 4
  | 7 => 2 ^ 0
  | _ => 2 ^ 8

/-- The bit of a step is taken back as the step ends. -/
def stepClears (k failed : Nat) : Nat := failed &&& (0xFFF ^^^ stepBit k)

/-- INSERTION_STEP: a step ends, with its duration, and the next begins. -/
def stepEnds (k : Nat) (s : Rc8) : Rc8 :=
  if s.pair.step = k then
    raise { src := 63, reason := 0x04, sev := .info, p0 := k, p1 := (s.clk.refosc - s.pair.stepFrom) / 1000000, p2 := 0 }
      (modPair (fun q => { q with step := if k = 4 then 6 else if k = 8 then 0 else k + 1, stepFrom := s.clk.refosc, stepFailed := stepClears k q.stepFailed }) s)
  else s

/-- The steps whose condition holds end (*Table: Insertion sequence*): joining, then compatibility and transfer. -/
def stepsAdvance (s : Rc8) : Rc8 :=
  let s1 := if s.pair.step = 4 ∧ (nets s).all (fun n => (s.net[n]).state == .joined) = true then stepEnds 4 s else s
  let s2 := if s1.pair.step = 6 ∧ s1.pair.plk.up = true ∧ s1.pair.partner.level = pairLevel s1 ∧ s1.pair.partner.equalItems = true then stepEnds 6 s1 else s1
  if s2.pair.step = 7 ∧ s2.pair.synced = true then stepEnds 7 s2 else s2

/-! ### Readiness (10 R318, R328, R333) -/

/-- The module is the home module of the pair. -/
def isHome (s : Rc8) : Bool := s.nv.home != 0 && s.nv.home == s.pair.position

/-- The settle time starts anew (R333). -/
def settle (s : Rc8) : Rc8 :=
  modPair (fun q => { q with reclaim := false, settleFrom := if isHome s && q.token == .standbyReady then some s.clk.refosc else none }) s

/-- STANDBY_READY is gained. -/
def gainReady (s : Rc8) : Rc8 :=
  let s1 := modPair (fun q => { q with token := .standbyReady }) s
  settle (stepEnds 8 (raise { src := 61, reason := 0x05, sev := .notice, p0 := s.pair.position, p1 := lo32 s.rnd.round, p2 := 0 } s1))

/-- READY_CHANGED: STANDBY_READY is lost. -/
def loseReady (s : Rc8) : Rc8 :=
  settle (raise { src := 61, reason := 0x06, sev := .warning, p0 := eligMask s, p1 := lo32 s.rnd.round, p2 := 0 }
    (modPair (fun q => { q with token := .standby }) s))

/-- Readiness judged anew: with a committed handover its loss is ignored until the handover round (R318). -/
def updateReady (s0 : Rc8) : Rc8 :=
  let s := if isStandby s0 then stepsAdvance s0 else s0
  match s.pair.token with
  | .standby => if eligMask s = 0 then gainReady s else s
  | .standbyReady => if eligMask s ≠ 0 ∧ s.pair.committed.isNone then loseReady s else s
  | _ => s

/-! ### The copy (10 R326, R327, R336) -/

/-- Requests of tasks that execute now, as requests (08 R270). -/
def executingRequests (s : Rc8) : List SvcReq := s.execs.filterMap fun e => e.task.map fun t => { task := t, call := .command e.code e.req true }

/-- Service requests in flight: those that execute, and those that wait (R326). -/
def inFlight (s : Rc8) : List SvcReq := executingRequests s ++ s.run.channel

/-- A task as it is copied: with a place for the result of each of its requests in flight. -/
def taskInFlight (t : Fin 8) (s : Rc8) : Task :=
  let x := s.run.tasks[t]
  { x with results := x.results ++ List.replicate ((inFlight s).countP fun r => r.task == t) [] }

/-- The items of *Table: Resync content*. -/
def resyncItems (s : Rc8) : List CopyItem :=
  let nv := s.nv
  let r := s.run
  [.images nv.active nv.loaded nv.package, .publish r.motionIn r.motionOut r.stationIn r.setGen r.motionInPast r.stationInPast r.setPast,
   .retained nv.retainUse (retainArea s) r.retained nv.journal r.commits, .bank 0 nv.banks[0], .bank 1 nv.banks[1], .bankActive nv.bankActive,
   .axes s.eng.axes, .learning s.learn] ++
  bothNets.flatMap (fun n => [.windows n (s.sch[n]).wins, .schedules n nv.schedules[n] (schedId n s) (s.sch[n]).pending]) ++
  allTasks.map (fun t => .task t (taskInFlight t s)) ++
  [.instances r.timers r.edges r.fresh, .program r.data, .services (inFlight s), .change s.chg, .pend s.pair.pend, .chains (vlist s.pair.chains)]

/-- The items of eligibility bit 4 but the split setting, and what goes with them to a module inserted (R336; 11 R372). -/
def transferItems (s : Rc8) : List CopyItem :=
  let nv := s.nv
  [.config s.rnd.period nv.storedPeriod nv.media nv.hostMilestones nv.home nv.settle, .images nv.active nv.loaded nv.package, .bank 0 nv.banks[0], .bank 1 nv.banks[1],
   .bankActive nv.bankActive, .learnStored nv.learnCfg nv.snaps] ++
  bothNets.map (fun n => .schedules n nv.schedules[n] (schedId n s) (s.sch[n]).pending) ++
  (nv.safeActive.map fun b => .safety b ((nv.safeLog.getLast?.map (·.operator)).getD [])).toList ++ [.password nv.password, .equal s.pair.partner.split]

/-- Items go to the partner, each in a message of its own (DESIGN CHOICE, log 99). -/
def sendItems (l : List CopyItem) (s : Rc8) : Rc8 := l.foldl (fun s i => plkSend 0x30 0 (.copy [i]) s) s

/-- The holder's transfer to a module whose items of eligibility bit 4 differ; where the compatibility levels differ, nothing is
transferred (R336). -/
def sendTransfer (s : Rc8) : Rc8 :=
  if holdsToken s && s.pair.partner.present && s.pair.plk.up && s.pair.partner.level == pairLevel s && !s.pair.partner.equalItems then
    modPair (fun q => { q with partner := { q.partner with equalItems := q.partner.split } }) (sendItems (transferItems s) s)
  else s

/-- A pass of the copy: what has not been copied as it now stands; in the first pass, everything (R327). The items stand for the
pages that the DRAM controller records (DESIGN CHOICE, log 99). -/
def copyPass (s : Rc8) : Rc8 :=
  let l := resyncItems s
  sendItems (l.filter fun i => !s.pair.resync.sent.contains i) (modPair (fun q => { q with resync := { q.resync with sent := l } }) s)

/-- The holder's first pass: what is to be transferred, then the whole content (R327). -/
def firstPass (s : Rc8) : Rc8 := if isStandby s then s else copyPass (sendTransfer s)

/-! ### Resync starts (10 R326, R342) -/

/-- A copy may run: the pair link is up, and the compatibility levels are equal (R326, R336). -/
def copyAllowed (s : Rc8) : Bool := s.pair.plk.up && s.pair.partner.level == pairLevel s

/-- A resync starts, or waits while the pair link is down or the levels differ, when nothing may be transferred (R336); a standby's
stays requested until its first page comes. Cause 1 new standby, 2 mismatch, 3 shadow lag, 4 command. -/
def startResync (cause : Nat) (s : Rc8) : Rc8 :=
  let s0 := if isStandby s then modPair (fun q => { q with synced := false }) s else s
  if copyAllowed s then
    firstPass (raise { src := 61, reason := 0x02, sev := .notice, p0 := cause, p1 := Config.resyncSize s.rnd.round, p2 := 0 }
      (modPair (fun q => { q with resyncs := inc32 q.resyncs,
                                  resync := { q.resync with requested := isStandby s, running := true, cause := cause, start := s.clk.refosc, passes := 0, pages := 0, finalDue := false, sent := [] } }) s0))
  else modPair (fun q => { q with resync := { q.resync with requested := true, running := false, cause := cause } }) s0

/-- A resync that waited starts (R326). -/
def resumeResync (s : Rc8) : Rc8 := if s.pair.resync.requested ∧ s.pair.resync.running = false then startResync s.pair.resync.cause s else s

/-- The pair link has gone: a running resync waits for it (R326). -/
def suspendResync (s : Rc8) : Rc8 :=
  if s.pair.resync.running then modPair (fun q => { q with resync := { q.resync with running := false, requested := true, finalDue := false } }) s else s

/-! ### Planned crossover requests (10 R331 to R333) -/

/-- Who asked, as CROSSOVER_ABANDONED names it. -/
def HandBy.code : HandBy → Nat
  | .command _ => 1 | .homeReclaim => 2 | .expiry => 1

/-- What waited for a crossover ends: a command, or the reaction to the end of a confirm window, which resets the module
once the token has passed and else leaves the revert to the next start (18 R544). -/
def endHand (h : Handover) (st : Status) (s : Rc8) : Rc8 :=
  match h.by_ with
  | .command id => endWith id st s
  | .homeReclaim => s
  | .expiry =>
    if st = .tooLate then { s with expiryHandover := false, nv := { s.nv with upd := { s.nv.upd with result := 4 } } }
    else { s with expiryHandover := false, restartAt := some s.clk.refosc }

/-- CROSSOVER_ABANDONED: cause 1 wait limit, 2 no confirmation, 3 unplanned crossover. -/
def abandonHand (cause : Nat) (st : Status) (s : Rc8) : Rc8 :=
  match s.pair.hand with
  | none => s
  | some h =>
    raise { src := 60, reason := 0x05, sev := .warning, p0 := cause, p1 := lo32 (h.round.getD 0), p2 := h.by_.code }
      (modPair (fun q => { q with hand := none,
                                  reclaimAfter := if h.by_ == .homeReclaim then s.clk.refosc + s.nv.settle * 1000000000 else q.reclaimAfter }) (endHand h st s))

/-- Something is pending that a planned crossover waits for (R332). -/
def crossBlocked (s : Rc8) : Bool := changeArmed s || changeBlocked s || s.pair.resync.running || s.pair.resync.requested

/-- A waiting request fixes its handover round once nothing blocks it (R331, step 1). -/
def fixHandover (s : Rc8) : Rc8 :=
  match s.pair.hand with
  | none => s
  | some h =>
    if h.round.isSome || crossBlocked s then s
    else modPair (fun q => { q with hand := some { h with round := some (max h.notBefore (max (s.rnd.round + 16) (roundAfter 2000000 s))) } }) s

/-- A planned crossover is asked for, with a wait limit in ms. -/
def requestHandover (by_ : HandBy) (notBefore ms : Nat) (s : Rc8) : Rc8 :=
  let h : Handover := { by_ := by_, notBefore := notBefore, waitEnd := s.clk.refosc + ms * 1000000, round := none, confirmed := false, committed := false }
  fixHandover (modPair (fun q => { q with hand := some h }) s)

/-- The handover is committed (R331, step 4). -/
def commitHandover (s : Rc8) : Rc8 :=
  match s.pair.hand with
  | none => s
  | some h =>
    if h.round.isSome ∧ h.committed = false ∧ s.pair.token = .holder then
      modPair (fun q => { q with token := .handover, hand := some { h with confirmed := true, committed := true } }) s
    else s

/-! ### Giving up the token (10 R313, R316, R318, R331) -/

/-- What every module that becomes standby does: its networks lose the lease, its planned step ends, its CAN and PTP
ports stand down, and a resync is due (R318, R326). -/
def becomeStandby (s : Rc8) : Rc8 :=
  startResync 1 (canBecomeStandby (timeBecomeStandby (netLease false
    (modPair (fun q => { q with token := .standby, pulse := false, synced := false, mismatch := false, lag := false, mismatchRun := 0, offered := none,
                                committed := none, takeAt := none, settleFrom := none, reclaim := false, fwdWindows := [], fwdDone := false,
                                releases := [], cycles := [], services := [], reads := [] }) s))))

/-- The holder gives up the token: TOKEN_RELEASED, cause 1 timer out, 2 fault, 3 newer epoch, 4 planned. Its outputs
open at once, except at a planned crossover, where they follow the new holder's first LATCH by 100 µs (15 R482; 11
R364). -/
def releaseToken (cause : Nat) (s : Rc8) : Rc8 :=
  let s1 := if cause = 4 then
      modSaf (fun x => { x with offAt := some (s.clk.refosc + 104000) }) (modFfe (fun x => { x with offAt := some (s.clk.refosc + 104000) }) (changeInterrupted s))
    else openSafety (pinsOff (changeInterrupted s))
  let s2 := if cause = 4 ∨ (cause ≠ 3 ∧ s.pair.token = .handover) then s1 else abandonHand 3 .wrongState s1
  becomeStandby (raise { src := 60, reason := 0x02, sev := .warning, p0 := s.pair.epoch, p1 := cause, p2 := lo32 s.rnd.round } s2)

/-- A Fault of R318 at this module. -/
def tokenFault (s : Rc8) : Rc8 :=
  match s.pair.token with
  | .unclaimed => modPair (fun q => { q with claimInhibit := true }) s
  | .holder =>
    if partnerReady s then
      releaseToken 2 (plkSend 0x01 0 (.lease (.record (leaseRecord .release s.rnd.round s)))
        (modPair (fun q => { q with releasing := some s.rnd.round }) s))
    else s
  | .handover => releaseToken 2 s
  | .standby => modPair (fun q => { q with faultSeen := true }) s
  | .standbyReady => loseReady (modPair (fun q => { q with faultSeen := true, committed := none }) s)

/-- The module enters UNCLAIMED and treats its partner as absent (R317, R318). -/
def enterUnclaimed (s : Rc8) : Rc8 :=
  partnerAbsent (modPair (fun q => { q with token := .unclaimed, claimRef := s.clk.refosc, recordSeen := false, partnerClaim := none,
                                            claimSent := false, takeAt := none, committed := none, offered := none, settleFrom := none, reclaim := false })
    { s with net := vmap (fun k => { k with metSilence := false }) s.net })

/-- TAKEOVER_REFUSED: 1 lease expiry, 2 release. -/
def takeoverRefused (why : Nat) (s : Rc8) : Rc8 :=
  raise { src := 60, reason := 0x03, sev := .critical, p0 := eligMask s, p1 := lo32 s.rnd.round, p2 := why } s

/-! ### Taking the token (10 R311, R317, R318, R330, R331) -/

/-- A new epoch, stored before it is acted on (R311). -/
def newEpoch (s : Rc8) : Rc8 :=
  let e := (s.nv.highestEpoch + 1) % 65536
  modPair (fun q => { q with epoch := e }) { s with nv := { s.nv with highestEpoch := e } }

/-- The pulse starts under a new epoch. -/
def startLease (s : Rc8) : Rc8 := loadHolder (modPair (fun q => { q with token := .holder, pulse := true }) (newEpoch s))

/-- Networks that have just entered MASTER launch from this round on (04 R140). -/
def launchNow (s : Rc8) : Rc8 := { s with net := vmap (fun k => { k with launchFrom := min k.launchFrom s.rnd.round }) s.net }

/-- Rounds without command frames before a take-over in this round. -/
def gapRounds (s : Rc8) : Nat := s.rnd.round - 1 - max s.pair.lastRenewal s.pair.lastCommand

/-- The holder's duties begin with its first round: TOKEN_TAKEN with cause 1 claim, 2 lease expiry, 3 release, 4
planned, and the gap; networks, time, Ethernet, CAN and outputs are taken up (R318, R330). -/
def beginHolding (cause gap : Nat) (s : Rc8) : Rc8 :=
  let s1 := raise { src := 60, reason := 0x01, sev := .warning, p0 := s.pair.epoch, p1 := cause, p2 := gap }
    (modPair (fun q => { q with hand := none, offered := none, committed := none, takeAt := none, settleFrom := none, reclaim := false, faultSeen := false,
                                releasing := none, step := 0, training := none, stepFailed := 0, resync := Resync.reset,
                                lastCrossRound := s.rnd.round, lastCrossKind := cause, lastGap := gap,
                                crossovers := if cause = 1 then q.crossovers else inc32 q.crossovers }) s)
  let s2 := launchNow (netLease true s1)
  let unplanned := cause = 2 ∨ cause = 3
  let s3 := modSaf (fun x => { x with outputsFrom := if unplanned then s.rnd.round + 1 else s.rnd.round })
    (modFfe (fun x => { x with from_ := if unplanned then s.rnd.round + 1 else s.rnd.round }) s2)
  let s4 := canTakeOver (gratuitousArp (ptpRestart (timeTakeOver s3)))
  if unplanned then changeInterrupted s4 else s4

/-- An unplanned take-over at a boundary. -/
def takeToken (cause : Nat) (s : Rc8) : Rc8 := beginHolding cause (gapRounds s) (startLease s)

/-- A take-over due at the boundary that has opened this round (R314, R318). -/
def takeAtBoundary (s : Rc8) : Rc8 :=
  match s.pair.takeAt with
  | none => s
  | some (cause, r) =>
    if s.rnd.round < r then s
    else
      let s1 := modPair (fun q => { q with takeAt := none }) s
      match s.pair.token with
      | .standbyReady => takeToken cause s1
      | .standby => if cause = 2 then enterUnclaimed (takeoverRefused 1 s1) else takeoverRefused 2 s1
      | _ => s1

/-- The boundary of a handover round: the new holder's duties begin, and the old holder's request is DONE (R331). -/
def handoverBoundary (s : Rc8) : Rc8 :=
  let s1 := match s.pair.hand with
    | some h => if h.committed ∧ h.round.any (fun r => decide (r ≤ s.rnd.round)) = true then endHand h .done (modPair (fun q => { q with hand := none }) s) else s
    | none => s
  match s1.pair.committed with
  | none => s1
  | some h =>
    if h ≤ s1.rnd.round then
      (if s1.pair.token = .holder then beginHolding 4 0 s1 else updateReady (modPair (fun q => { q with committed := none }) s1))
    else s1

/-- The handover point on the standby: the pulse starts 1 µs after MGMT_OPEN of the round before the handover round
(R318, R331). -/
def handoverPoint (s : Rc8) : Rc8 :=
  match s.pair.token, s.pair.committed with
  | .standbyReady, some h => if s.rnd.round + 1 = h then startLease (atRefosc (s.clk.refosc + 1000) s) else s
  | _, _ => s

/-! ### Timer out, claim and presence (10 R306, R313, R317, R318) -/

/-- LEASE_TIMER_OUT (R313, R314, R318). -/
def leaseTimerOut (s0 : Rc8) : Rc8 :=
  let s := atRefosc s0.pair.leaseEnd s0
  if !svpRuns s0 then s0
  else match s.pair.token with
  | .unclaimed => s0
  | .holder => if s.pair.pulse then releaseToken 1 s else s0
  | .handover => if s.pair.pulse then releaseToken 1 s else s0
  | .standby => enterUnclaimed (takeoverRefused 1 s)
  | .standbyReady => modPair (fun q => { q with takeAt := some (2, s.rnd.round + 1) }) s

/-- The claim wait, ns (R317). -/
def claimWait (s : Rc8) : Nat := if claimPriority s = 0 then 4000000000 else 2000000000

/-- Every condition of R317 but the wait holds. -/
def mayClaim (s : Rc8) : Bool :=
  s.pair.token == .unclaimed && svpRuns s && s.svpReady && s.pair.selfTest && !s.pair.claimInhibit && !s.itg.test && !s.pair.recordSeen &&
  (nets s).all (fun n => (s.net[n]).state == .listen && (s.net[n]).metSilence) &&
  (!s.pair.plk.up || (s.pair.claimSent && (match s.pair.partnerClaim with
    | none => true
    | some p => decide (p ≤ claimPriority s))))

/-- CLAIM (R317): the wait has passed and every condition is met. -/
def claim (s0 : Rc8) : Rc8 :=
  let s := atRefosc (s0.pair.claimRef + claimWait s0) s0
  if mayClaim s then startAtClaim (beginHolding 1 0 (startLease s)) else s0
where
  /-- The tables are restored, where the start has not done it, and the runtime starts with the claim (07 R239; 08 R265). -/
  startAtClaim (s : Rc8) : Rc8 :=
    let s0 := restoreTables s
    let s1 := if s0.run.started then s0 else startRuntime s0
    let target : Mode := if s1.run.key = .run ∨ (s1.run.key = .remote ∧ (s1.nv.active.map (·.autostart)).getD false = true) then .run else .stop
    if s1.run.mode = target then s1 else requestMode target 5 none s1

/-- PARTNER_ABSENT (R306): the pair link is down and no lease traffic has come for 8 rounds. -/
def partnerSilent (s : Rc8) : Rc8 :=
  let quiet := match s.pair.partner.heard with
    | none => true
    | some r => decide (r + 8 < s.rnd.round)
  if s.pair.plk.up = false ∧ quiet = true then updateReady (partnerAbsent s) else s

/-- HOME_RECLAIM (R333): the settle time has passed on the home module, which asks for the token in its lease
answers. -/
def homeReclaim (s : Rc8) : Rc8 :=
  match s.pair.settleFrom with
  | none => s
  | some t => if s.pair.token = .standbyReady then modPair (fun q => { q with reclaim := true, settleFrom := none }) (atRefosc (t + s.nv.settle * 1000000000) s) else s

/-- CROSSOVER_WAIT_LIMIT (R332): a request that still waits ends TOO_LATE. -/
def crossoverWaitLimit (s : Rc8) : Rc8 :=
  match s.pair.hand with
  | none => s
  | some h => if h.round.isSome then s else abandonHand 1 .tooLate (atRefosc h.waitEnd s)

/-- When each running step whose bit does not stand yet reaches its maximum: the step in order, and step 5 beside it (R335). -/
def stepsDue (s : Rc8) : List (Nat × Nat) :=
  let k := s.pair.step
  ((if k = 4 ∨ k = 6 ∨ k = 7 then [(s.pair.stepFrom + stepMaximum k, k)] else []) ++
   (s.pair.training.map fun t => (t + stepMaximum 5, 5)).toList).filter fun x => s.pair.stepFailed &&& stepBit x.2 == 0

/-- The earlier of the steps that reach their maximum. -/
def firstStep (l : List (Nat × Nat)) : Option (Nat × Nat) :=
  l.foldl (fun m x => match m with
    | none => some x
    | some y => if x.1 < y.1 then some x else some y) none

/-- INSERTION_STEP_TIMEOUT (R335): a step's maximum has passed, and the failing condition's bit is set. -/
def insertionTimeout (s : Rc8) : Rc8 :=
  match firstStep (stepsDue s) with
  | none => s
  | some x =>
    if isStandby s then updateReady (modPair (fun q => { q with stepFailed := q.stepFailed ||| stepBit x.2 }) (atRefosc x.1 s)) else s

/-- RESYNC_SLOW: the holder's resync has not completed after 1 s (R327). -/
def resyncSlow (s : Rc8) : Rc8 :=
  if s.pair.resync.running ∧ holdsToken s = true then
    raise { src := 61, reason := 0x04, sev := .warning, p0 := s.pair.resync.passes, p1 := s.pair.resync.pages, p2 := 0 }
      (atRefosc (s.pair.resync.start + 1000000000) s)
  else s

/-! ### Commands (10 R338 to R342) -/

/-- CROSSOVER_REQUEST, step 5 (R339). -/
def checkCrossover (e : Exec) (_ : Rc8) : Option Status :=
  let ms := u32At e.req 8
  if ms ≠ 0 ∧ (ms < 1000 ∨ 600000 < ms) ∨ allZero e.req 12 4 = false then some .badField else none

/-- CROSSOVER_REQUEST, step 6. -/
def checkCrossoverState (_ : Exec) (s : Rc8) : Option Status := if !holdsToken s ∨ !partnerReady s ∨ s.pair.hand.isSome then some .wrongState else none

/-- CROSSOVER_REQUEST's own row (R339). -/
def crossoverRequest (e : Exec) (s : Rc8) : Rc8 :=
  if s.pair.hand.isSome then endWith e.id .wrongState s
  else requestHandover (.command e.id) (u64At e.req 0) (if u32At e.req 8 = 0 then 30000 else u32At e.req 8) (pendNow e s)

/-- Token state codes (R340). -/
def Token.code : Token → Nat
  | .unclaimed => 0 | .holder => 1 | .handover => 2 | .standby => 3 | .standbyReady => 4

/-- The pair role as GET_STATUS codes it (02 R83). -/
def pairRole (s : Rc8) : Nat :=
  match s.pair.token with
  | .unclaimed => 4
  | .standby => 2
  | .standbyReady => 3
  | _ => if s.pair.partner.present then 1 else 0

/-- PAIR_STATUS (R340). -/
def pairStatusResponse (_ : Exec) (s : Rc8) : List Byte :=
  let q := s.pair
  le 1 (pairRole s) ++ le 1 q.token.code ++ le 1 q.position ++ le 1 s.nv.home ++ le 2 q.epoch ++ le 2 (if isStandby s then eligMask s else 0) ++
  le 2 (if q.partner.present then q.partner.inelig else 0xFFFF) ++ le 1 (b2n q.ownRound) ++ le 1 (if q.plk.up then q.plk.lanes else 0) ++ le 2 s.nv.settle ++
  le 2 ((q.settleFrom.map fun t => (s.clk.refosc - t) / 1000000000).getD (if q.reclaim then s.nv.settle else 0)) ++ le 8 ((q.hand.bind (·.round) <|> q.committed).getD 0) ++ le 8 q.lastCrossRound ++
  le 1 q.lastCrossKind ++ le 1 (min 255 q.lastGap) ++ le 2 q.partner.level ++ le 4 q.resyncs ++ le 4 q.mismatches ++ le 4 q.ownRounds ++ le 4 q.lastResyncMs ++
  le 4 q.crossovers ++ le 4 q.uncompared ++ zeros 4

/-- SET_HOME, step 5 (R341). -/
def checkSetHome (e : Exec) (_ : Rc8) : Option Status :=
  let t := u16At e.req 2
  if 2 < u8At e.req 0 ∨ (t ≠ 0 ∧ (t < 10 ∨ 3600 < t)) then some .badField else none

/-- The home setting stored on a module; a change restarts the settle time (R333, R341). -/
def effSetHome (r : List Byte) (s : Rc8) : Rc8 :=
  let t := if u16At r 2 = 0 then s.nv.settle else u16At r 2
  if u8At r 0 = s.nv.home ∧ t = s.nv.settle then s else settle { s with nv := { s.nv with home := u8At r 0, settle := t } }

/-- HOME_CHANGED on the module that took the command. -/
def ownSetHome (port : Nat) (r : List Byte) (s : Rc8) : Rc8 :=
  let s1 := effSetHome r s
  raise { src := 60, reason := 0x06, sev := .notice, p0 := s1.nv.home, p1 := s1.nv.settle, p2 := port } s1

/-- SET_HOME's own row. -/
def setHome (stored : Bool) (e : Exec) (s : Rc8) : Rc8 :=
  if stored then pairStore e.id (.command e.code e.req) 0 [] false (ownSetHome e.port.val e.req) s else endWith e.id .integrityFail s

/-- PAIR_RESYNC, step 6 (R342). -/
def checkPairResync (_ : Exec) (s : Rc8) : Option Status :=
  firstFail [(isStandby s || !s.pair.partner.present || !s.pair.plk.up, .wrongState)]

/-- PAIR_RESYNC's own row. -/
def pairResync (e : Exec) (s : Rc8) : Rc8 :=
  if s.pair.resync.running then endWith e.id .busy s
  else
    let s1 := startResync 4 (pendNow e s)
    modPair (fun q => { q with resync := { q.resync with exec := some e.id } }) s1

/-- CROSSOVER_REQUEST (R338). -/
def specCrossoverRequest : CmdSpec := { cls := .engineer, len := lenIs 16, fields := checkCrossover, state := checkCrossoverState }
/-- PAIR_STATUS (R338). -/
def specPairStatus : CmdSpec := { cls := .observe, urgent := true, len := lenIs 0, resp := fun _ => 64 }
/-- SET_HOME (R338). -/
def specSetHome : CmdSpec := { cls := .engineer, len := lenIs 8, fields := checkSetHome, state := refuseStandby }
/-- PAIR_RESYNC (R338). -/
def specPairResync : CmdSpec := { cls := .engineer, len := lenIs 4, state := checkPairResync }

/-! ### Meanings -/

/-- LEASE_TIMER_OUT (R313). -/
def execLeaseTimerOut (s : State) : Answer := act leaseTimerOut s

/-- CLAIM (R317). -/
def execClaimToken (s : State) : Answer := act claim s

/-- PARTNER_ABSENT (R306). -/
def execPartnerAbsent (s : State) : Answer := act partnerSilent s

/-- RESYNC_SLOW (R327). -/
def execResyncSlow (s : State) : Answer := act resyncSlow s

/-- HOME_RECLAIM (R333). -/
def execHomeReclaim (s : State) : Answer := act homeReclaim s

/-- CROSSOVER_WAIT_LIMIT (R332). -/
def execCrossoverWaitLimit (s : State) : Answer := act crossoverWaitLimit s

/-- INSERTION_STEP_TIMEOUT (R335). -/
def execInsertionStepTimeout (s : State) : Answer := act insertionTimeout s

/-- CROSSOVER_REQUEST (R339). -/
def execCrossoverRequest (p : Fin 4) (m : Fin 8) (s : State) : Answer := act (runCmd 0x0701 p m crossoverRequest) s

/-- PAIR_STATUS (R340). -/
def execPairStatus (p : Fin 4) (m : Fin 8) (s : State) : Answer := act (answer 0x0702 p m pairStatusResponse) s

/-- SET_HOME (R341). -/
def execSetHome (p : Fin 4) (m : Fin 8) (stored : Bool) (s : State) : Answer := act (runCmd 0x0703 p m (setHome stored)) s

/-- PAIR_RESYNC (R342). -/
def execPairResync (p : Fin 4) (m : Fin 8) (s : State) : Answer := act (runCmd 0x0704 p m pairResync) s

end Sys2Proof.Machine
end

