-- ==== Sys2Proof/Machine/Access.lean ====
section
/-! DEFINITION. Access control: the check of a transaction, what a refusal does, rule epochs, and the ACU's commands (01
R22 to R28; 12 R398 to R413). -/

namespace Sys2Proof.Machine

open Sys2Proof

/-! ### The address map and the hardware's paths (01 R23 to R28) -/

/-- Targets of the system address map. -/
inductive Target where
  | dram | mram | cenTables | cenParams | ttn0 | ttn1 | plkBuffers | smlExchange | svpSram | unitRegs
deriving DecidableEq, Repr

/-- *Table: System address map*: base, size and target. -/
def addressMap : List (Nat × Nat × Target) :=
  [(0x00000000, 0x80000000, .dram), (0x80000000, 0x08000000, .mram), (0x90000000, 0x00400000, .cenTables),
   (0x90400000, 0x00080000, .cenParams), (0x98000000, 0x00040000, .ttn0), (0x98040000, 0x00040000, .ttn1),
   (0x98080000, 0x00010000, .plkBuffers), (0x98090000, 0x00001000, .smlExchange), (0xA0000000, 0x00100000, .svpSram),
   (0xC0000000, 0x01000000, .unitRegs)]

/-- The window an address lies in. -/
def windowOf (a : Nat) : Option Target := (addressMap.find? fun w => decide (w.1 ≤ a ∧ a < w.1 + w.2.1)).map (·.2.2)

/-- The domain of an address in a target; the SML has a supply of its own, and unit registers lie in the domain of their
block. -/
def Target.domain (a : Nat) : Target → Option Nat
  | .dram => some 5 | .mram => some 6 | .cenTables => some 4 | .cenParams => some 4 | .ttn0 => some 7 | .ttn1 => some 8
  | .plkBuffers => some 10 | .smlExchange => none | .svpSram => some 1 | .unitRegs => (Config.unitDomain a).map (· % 12)

/-- The domain of an address in a target is on (R26, R399). -/
def targetOn (t : Target) (a : Nat) (s : Rc8) : Bool := ((t.domain a).map fun d => s.pwr.domains.getLsbD d).getD true

/-- BAR2 of host port n in DRAM (R27). -/
def inBar2 (n a : Nat) : Bool := decide (bar2Base n ≤ a ∧ a < bar2Base (n + 1))

/-- Mailboxes of host port n in the SVP's SRAM (R27). -/
def inMailboxes (n a : Nat) : Bool := decide (mailboxBase n ≤ a ∧ a < mailboxBase (n + 1))

/-- *Table: Hardware reachability*: a master's path to an address of a target, at a level, for a write or for a read or a
fetch. -/
def hardwarePath (m level : Nat) (wr : Bool) (t : Target) (a : Nat) : Bool :=
  if m < 4 then
    (match t with
     | .dram => true
     | .mram => true
     | .smlExchange => decide (m < 2) && level == 1
     | .svpSram => Config.serviceChannel (m / 2) a
     | _ => false)
  else if m = 4 then !(wr && t == .smlExchange)
  else if m = 5 then t == .dram || t == .cenTables || t == .cenParams || t == .ttn0 || t == .ttn1
  else if m = 6 then t == .dram || t == .ttn0
  else if m = 7 then t == .dram || t == .ttn1
  else if m = 8 ∨ m = 9 then t == .dram
  else if m < 14 then (t == .dram && !wr && inBar2 (m - 10) a) || (t == .svpSram && inMailboxes (m - 10) a)
  else if m = 14 then t == .dram || t == .ttn0 || t == .ttn1 || t == .plkBuffers
  else t == .dram || t == .svpSram

/-- The fixed level of a master that is no core (R23). -/
def fixedLevel (m : Nat) : Option Nat :=
  if m < 5 then none else if m = 15 then some 0 else if 10 ≤ m ∧ m ≤ 13 then some 2 else some 1

/-! ### The check (12 R399, R400, R402) -/

/-- A region covers an address and has the bit of a kind, 1 read, 2 write, 3 execute, at a level (R400). -/
def Region.permits (r : Region) (level kind a : Nat) : Bool :=
  r.enabled && decide (r.base ≤ a ∧ a < r.base + 2 ^ r.sizeCode) && bitAt r.perms (3 * level + (kind - 1))

/-- Why one byte may not be accessed, 0 where it may: 1 no window, 2 domain off, 3 no hardware path, else the region's
cause. -/
def byteCause (m level kind a regionCause : Nat) (regions : List Region) (s : Rc8) : Nat :=
  match windowOf a with
  | none => 1
  | some t =>
    if !targetOn t a s then 2
    else if !hardwarePath m level (kind == 2) t a then 3
    else if regions.any fun r => r.permits level kind a then 0 else regionCause

/-- The level a transaction is checked at (R23). -/
def checkedLevel (x : Transaction) : Nat := (fixedLevel x.master.val).getD x.level.val

/-- The ACU's check: the first byte, then the last (R402). -/
def accessCause (x : Transaction) (s : Rc8) : Nat :=
  let r := s.itg.regions[x.master]
  let c := byteCause x.master.val (checkedLevel x) x.kind.val x.addr 4 r s
  if c ≠ 0 then c else byteCause x.master.val (checkedLevel x) x.kind.val (x.addr + x.len - 1) 5 r s

/-! ### Pair fault (12 R398) -/

/-- A pair fault: the holder of a ready partner releases the token, another module stops and reloads its data before the
next RUN, and a standby asks for a resync. -/
def pairFault (s : Rc8) : Rc8 :=
  if isStandby s then updateReady (startResync (Config.resyncFaultCause s.rnd.round) s)
  else if holdsToken s ∧ partnerReady s = true then tokenFault s
  else programFault (modItg (fun x => { x with reload := true }) s)

/-! ### A refused transaction (12 R403 to R405) -/

/-- State of a new log entry (R412). -/
def asvState (m : Nat) : Nat := if m < 4 then 1 else if m = 4 then 3 else 0

/-- The ASV's log entry of a refusal. -/
def asvEntry (x : Transaction) (cause : Nat) (s : Rc8) : AsvEntry :=
  { seq := inc32 s.itg.violations, master := x.master, level := (checkedLevel x), kind := x.kind.val, cause := cause, addr := x.addr, len := x.len,
    st := asvState x.master.val, epoch := s.itg.epoch, time := s.clk.ptu }

/-- ACCESS_VIOLATION of an entry (R421). -/
def violationEvent (x : AsvEntry) : Ev :=
  { src := 80, reason := 0x01, sev := .error, p0 := x.master.val, p1 := x.addr, p2 := x.cause + 256 * x.kind + 65536 * x.level }

/-- The refusal is logged, the oldest entry of 16 going. -/
def logViolation (x : AsvEntry) (s : Rc8) : Rc8 :=
  modItg (fun i => { i with violations := x.seq, asv := (if 16 ≤ i.asv.length then i.asv.drop 1 else i.asv) ++ [x] }) s

/-- ACCESS_VIOLATION to every ring but that of an offending host port (R403). -/
def raiseViolation (x : AsvEntry) (s : Rc8) : Rc8 :=
  let r := raise (violationEvent x) s
  if 10 ≤ x.master.val ∧ x.master.val ≤ 13 then
    let p : Fin 4 := ⟨(x.master.val - 10) % 4, Nat.mod_lt _ (by decide)⟩
    { r with hp := r.hp.set p s.hp[p] }
  else r

/-- The SVP's fault in hardware: the pulse stops, and the SML opens every high-side switch (R385, R405). -/
def svpStops (s : Rc8) : Rc8 :=
  modChannel 1 (fun c => { c with closed := 0 })
    (modSaf (fun x => { x with sml := { x.sml with svpFault := true } })
      (modPair (fun q => { q with pulse := false, faultSeen := true, committed := none, takeAt := none,
                                  token := if q.token = .standbyReady then .standby else q.token })
        (modLs 2 (fun x => { x with st := .halted })
          { s with svpReady := false, net := vmap (fun k => { k with guard := { k.guard with lease := false } }) s.net })))

/-- A master stands frozen (R403). -/
def freeze (m : Nat) (s : Rc8) : Rc8 := modItg (fun x => { x with frozen := x.frozen ||| (1#16 <<< m) }) s

/-- MASTER_RELEASED: 1 by firmware, 2 by a command (R421). -/
def masterReleased (m how port : Nat) (s : Rc8) : Rc8 :=
  raise { src := 80, reason := 0x02, sev := .notice, p0 := m, p1 := how, p2 := port } s

/-- What a refusal does to its master (*Table: Freezing of an offender*; R404, R405): a core is released into its access
exception, a program fault at L2 and a pair fault at L1 and L0. -/
def offender (x : AsvEntry) (s : Rc8) : Rc8 :=
  let m := x.master.val
  if m < 4 then
    let s1 := masterReleased m 1 0xFF (raiseViolation x s)
    if x.level = 2 then programFault s1 else pairFault s1
  else if m = 4 then svpStops { freeze 4 s with nv := { s.nv with pd0Violation := some x } }
  else
    let s1 := raiseViolation x (freeze m s)
    if (5 ≤ m ∧ m ≤ 7) ∨ m = 14 then pairFault s1 else s1

/-- The domain of a master that can be off (*Table: Blocks of the module*): AP1, the CEN, the TTNs, PTE and CAN. -/
def masterDomain (m : Nat) : Option Nat :=
  match m with
  | 2 | 3 => some 3
  | 5 => some 4
  | 6 => some 7
  | 7 => some 8
  | 8 | 9 => some 9
  | _ => none

/-- The port of a host port's master identity (01 R21). -/
def hostOf (m : Fin 16) : Option (Fin 4) :=
  if 10 ≤ m.val ∧ m.val ≤ 13 then some ⟨(m.val - 10) % 4, Nat.mod_lt _ (by decide)⟩ else none

/-- A host reaches the interconnect through its port alone, and a port without power or without link discards every access (02 R43). -/
def portServes (m : Fin 16) (s : Rc8) : Bool :=
  match hostOf m with
  | none => true
  | some p => s.pwr.powered && (s.hp[p]).link

/-- The master issues accesses: its domain is on, it is not frozen, its pair is not halted, identities 1 and 3 belong to
a split pair (R22, R38, R403), and a host's port has power and link (02 R43). -/
def issues (i : Fin 16) (s : Rc8) : Bool :=
  let m := i.val
  !dmaStopped m s && portServes i s && ((masterDomain m).map fun d => s.pwr.domains.getLsbD d).getD true &&
  (if m < 2 then s.itg.pairs[0].st != .halted && (m == 0 || s.itg.pairs[0].st == .split)
   else if m < 4 then s.itg.pairs[1].st != .halted && (m == 2 || s.itg.pairs[1].st == .split)
   else if m = 4 then svpRuns s else true)

/-! ### BAR2 as a host reads it (02 R49, R50) -/

/-- The directory page: layout version 1, the port's grant mask, and the shadow flag (R50). -/
def directoryPage (p : Fin 4) (s : Rc8) : List Byte :=
  padTo 4096 (le 4 1 ++ le 4 (rightsInForce p s).grants.toNat ++ le 4 (b2n (isStandby s)))

/-- A buffer header's 64 bytes (R50). -/
def Bar2Buf.header (b : Bar2Buf) : List Byte :=
  padTo 64 (le 8 b.generation ++ le 8 b.round ++ le 8 (secOf b.time) ++ le 4 (nsOf b.time) ++ le 4 b.data.length)

/-- A section's header page: the newest buffer, and the three buffer headers from +64 (R50). -/
def Bar2Sec.page (x : Bar2Sec) : List Byte := padTo 4096 (padTo 64 (le 4 x.newest) ++ (vlist x.bufs).flatMap Bar2Buf.header)

/-- The byte at an offset of a section's slot: the header page, buffers 0 to 2 from 0x10000, and reserved bytes (R49). -/
def Bar2Sec.byte (x : Bar2Sec) (o : Nat) : Byte :=
  if o < 0x1000 then x.page.getD o 0
  else if o < 0x10000 then 0
  else (((vlist x.bufs).map (·.data)).getD (o / 0x10000 - 1) []).getD (o % 0x10000) 0

/-- The byte at an offset of a port's BAR2 (*Table: BAR2 slots*). -/
def bar2Byte (p : Fin 4) (off : Nat) (s : Rc8) : Byte :=
  let k := off / 0x40000
  let o := off % 0x40000
  if k = 0 then (if o < 0x1000 then (directoryPage p s).getD o 0 else 0)
  else if h : k - 1 < 5 then (s.bar2[k - 1]).byte o else 0

/-- A word that is read is marked uncorrectable (12 R397). -/
def poisoned (a n : Nat) (s : Rc8) : Bool := ((vlist s.bar2).flatMap fun x => (vlist x.bufs).flatMap (·.poison)).any fun w => decide (w / 8 * 8 < a + n ∧ a < w / 8 * 8 + 8)

/-- What an allowed transaction asks of the module: a host's read of BAR2 is answered, an uncorrectable word with a poisoned
completion; no other reading changes anything or is seen outside (02 R49; 12 R397). -/
def allowed (x : Transaction) (s : Rc8) : Rc8 :=
  match hostOf x.master with
  | none => s
  | some p =>
    if x.kind.val == 1 && inBar2 p.val x.addr then
      { s with out := s.out ++ [if poisoned x.addr x.len s then .readPoisoned p
                                else .readData p ((List.range x.len).map fun i => bar2Byte p (x.addr - bar2Base p.val + i) s)] }
    else s

/-- A transaction at the ACU. -/
def accessCheck (x : Transaction) (s : Rc8) : Rc8 :=
  if issues x.master s then
    match accessCause x s with
    | 0 => allowed x s
    | c => let e := asvEntry x c s
           offender e (logViolation e s)
  else s

/-! ### Rule epochs (12 R407, R408) -/

/-- RULE_EPOCH_LATE: the oldest epoch not yet complete nor reported has taken longer than 2 µs. -/
def ruleLate (ns : Nat) (s : Rc8) : Rc8 :=
  match s.itg.waiting.find? fun x => !x.2.2 with
  | none => s
  | some x =>
    let s1 := atRefosc (x.2.1 + ns) s
    raise { src := 81, reason := 0x01, sev := .error, p0 := x.1, p1 := ns, p2 := 0 }
      (modItg (fun i => { i with lateEpochs := inc32 i.lateEpochs,
                                 waiting := i.waiting.map fun y => if y.1 == x.1 then (y.1, y.2.1, true) else y }) s1)

/-! ### Commands (12 R410 to R413) -/

/-- ACU_RELEASE, step 5. -/
def checkRelease16 (e : Exec) (_ : Rc8) : Option Status := if 15 < u8At e.req 0 then some .badField else none

/-- ACU_RELEASE, step 6. -/
def checkFrozen (e : Exec) (s : Rc8) : Option Status :=
  if u8At e.req 0 < 5 ∨ dmaStopped (u8At e.req 0) s = false then some .wrongState else none

/-- A frozen master is released and its held access discarded (R406). -/
def acuRelease (e : Exec) (s : Rc8) : Rc8 :=
  let m := u8At e.req 0
  endWith e.id .done (masterReleased m 2 e.port.val
    (modItg (fun x => { x with frozen := x.frozen &&& ~~~(1#16 <<< m),
                               asv := x.asv.map fun y => if y.master.val = m ∧ y.st = 0 then { y with st := 2 } else y }) s))

/-- A log entry's 32 bytes (R412). -/
def AsvEntry.bytes (x : AsvEntry) : List Byte :=
  le 4 x.seq ++ le 1 x.master.val ++ le 1 x.level ++ le 1 x.kind ++ le 1 x.cause ++ le 4 x.addr ++ le 2 x.len ++ le 1 x.st ++ zeros 1 ++
  le 4 x.epoch ++ le 4 (nsOf x.time) ++ le 8 (secOf x.time)

/-- ACU_LOG_READ (R412). -/
def acuLogResponse (_ : Exec) (s : Rc8) : List Byte :=
  le 4 s.itg.violations ++ le 1 s.itg.asv.length ++ zeros 1 ++ le 2 s.itg.frozen.toNat ++ zeros 8 ++
  padTo 512 (s.itg.asv.flatMap AsvEntry.bytes)

/-- ACU_STATUS (R413). -/
def acuStatusResponse (_ : Exec) (s : Rc8) : List Byte :=
  le 4 s.itg.epoch ++ le 4 s.itg.complete ++ le 2 s.itg.frozen.toNat ++ zeros 2 ++ le 4 s.itg.violations ++ le 4 s.itg.commits ++
  le 4 s.itg.lateEpochs ++ zeros 8

/-- A descriptor's 8 bytes (R400). -/
def Region.bytes (r : Region) : List Byte := le 4 r.base ++ le 1 r.sizeCode ++ le 1 (b2n r.enabled) ++ le 2 r.perms

/-- ACU_RULES_READ (R413). -/
def acuRulesResponse (e : Exec) (s : Rc8) : List Byte :=
  let m := u8At e.req 0
  le 4 s.itg.epoch ++ le 1 m ++ le 1 ((fixedLevel m).getD 0xFF) ++ zeros 2 ++ padTo 128 ((vget s.itg.regions m []).flatMap Region.bytes)

/-- ACU_RELEASE (R410). -/
def specAcuRelease : CmdSpec := { cls := .engineer, urgent := true, len := lenIs 4, fields := checkRelease16, state := checkFrozen }
/-- ACU_LOG_READ (R410). -/
def specAcuLogRead : CmdSpec := { cls := .observe, len := lenIs 0, resp := fun _ => 528 }
/-- ACU_STATUS (R410). -/
def specAcuStatus : CmdSpec := { cls := .observe, urgent := true, len := lenIs 0, resp := fun _ => 32 }
/-- ACU_RULES_READ (R410). -/
def specAcuRulesRead : CmdSpec := { cls := .observe, len := lenIs 4, resp := fun _ => 136, fields := checkRelease16 }

/-! ### Meanings -/

/-- ACCESS_VIOLATION (R403): a transaction that its master issues, of 1 to 256 bytes, checked and refused. -/
def execAccessViolation (x : Transaction) (s : State) : Answer :=
  actIf (decide (1 ≤ x.kind.val ∧ 1 ≤ x.len ∧ x.len ≤ 256 ∧ x.addr < 2 ^ 32)) "ACCESS_VIOLATION" (accessCheck x) s

/-- RULE_EPOCH_COMMIT (R401, R407): the SVP commits the regions that the rule sources give. They are the state's, the same
at every occasion. -/
def execRuleEpochCommit (_ : RuleSource) (s : State) : Answer := act commitRules s

/-- RULE_EPOCH_LATE (R408). -/
def execRuleEpochLate (ns : Nat) (s : State) : Answer := actIf (decide (2000 < ns)) "RULE_EPOCH_LATE" (ruleLate ns) s

/-- ACU_RELEASE (R411). -/
def execAcuRelease (p : Fin 4) (m : Fin 8) (s : State) : Answer := act (runCmd 0x0901 p m acuRelease) s

/-- ACU_LOG_READ (R412). -/
def execAcuLogRead (p : Fin 4) (m : Fin 8) (s : State) : Answer := act (answer 0x0902 p m acuLogResponse) s

/-- ACU_STATUS (R413). -/
def execAcuStatus (p : Fin 4) (m : Fin 8) (s : State) : Answer := act (answer 0x0903 p m acuStatusResponse) s

/-- ACU_RULES_READ (R413). -/
def execAcuRulesRead (p : Fin 4) (m : Fin 8) (s : State) : Answer := act (answer 0x0904 p m acuRulesResponse) s

end Sys2Proof.Machine
end

