-- ==== Sys2Proof/Machine/Apply.lean ====
section
/-! DEFINITION. Operations applied to both modules of the pair: what each does on the module that took the command and
on its partner, their confirmation, and their boundary (03 R112; 10 R309, R334, R569). -/

namespace Sys2Proof.Machine

open Sys2Proof

/-- The network a byte names. -/
def netByte (r : List Byte) (o : Nat) : Fin 2 := if u8At r o = 0 then 0 else 1

/-- SCHED_SWITCH's round on the partner: the switches are pending for it (05 R175). -/
def effSwitchRound (r : List Byte) (round : Nat) (s : Rc8) : Rc8 :=
  bothNets.foldl (fun s n =>
    let id := u16At r (2 * n.val)
    if id = 0 then s
    else modSch n (fun k => { k with pending := some { id := id, round := some round, asked := 0, since := s.clk.refosc, exec := none } }) s) s

/-- Effects that are the same on both modules. -/
def commandBoth (code : Nat) (r : List Byte) (s : Rc8) : Rc8 :=
  match code with
  | 0x0404 => effSetMedia r s
  | 0x0505 => effBankSwap true s
  | 0x0506 => effAxisRequest false r s
  | 0x0507 => effAxisRequest true r s
  | 0x0602 => effLearnConfigure r s
  | 0x0603 => effLearnControl r s
  | 0x0605 => effTableWrite r s
  | 0x0608 => effLearnClear r s
  | 0x0A03 => effTimeConfigure r s
  | 0x0A10 => effEthConfigure r s
  | 0x0A20 => effPeerConfigure r s
  | 0x0A41 => effMilestoneWrite r s
  | 0x0B01 => effCanConfigure r s
  | 0x0B03 => effRxConfigure r s
  | 0x0C01 => effDioConfigure r s
  | 0x0C02 => effLoopConfigure r s
  | _ => s

/-- What an operation does on the module that took the command on a port. -/
def commandOwn (code : Nat) (r : List Byte) (p : Fin 4) (s : Rc8) : Rc8 :=
  match code with
  | 0x0103 => ownProgramLoad p.val r s
  | 0x0104 => ownActivate (u8At r 0) s
  | 0x0201 => ownChangeLoad p.val r s
  | 0x0411 => effSchedLoad (netByte r 0) (u8At r 1) (r.drop 2) s
  | 0x0502 => ownParamWrite p.val r s
  | 0x0504 => ownBankCopy p.val s
  | 0x0703 => ownSetHome p.val r s
  | 0x0802 => ownSafetyLoad p.val r s
  | 0x0803 => ownSafetyActivate (u8At r 16) (slice r 17 16) s
  | 0x0808 => ownPassword p r s
  | 0x0809 => ownStopReset (u8At r 4) (u16At r 0) (u8At r 2) s
  | 0x0A42 => ownSetPeriod p.val r s
  | 0x0C05 => ownDioReset p.val r s
  | _ => commandBoth code r s

/-- What an operation does on the partner, at its round. -/
def commandPartner (code : Nat) (r : List Byte) (round : Nat) (s : Rc8) : Rc8 :=
  match code with
  | 0x0103 => effProgramLoad r s
  | 0x0104 => effActivate (u8At r 0) s
  | 0x0201 => effChangeLoad r s
  | 0x0202 => effArm s
  | 0x0203 => if changeArmed s then undoChange (u8At r 0 == 5) s else s
  | 0x0411 => effSchedStore (netByte r 0).val (r.drop 2) s
  | 0x0412 => effSwitchRound r round s
  | 0x0413 => effSchedDelete (u8At r 0) (u16At r 2) s
  | 0x0502 => effParamWrite r s
  | 0x0504 => effBankCopy s
  | 0x0602 => dueLearnConfigure none r s
  | 0x0607 => dueLearnRestore none r s
  | 0x0703 => effSetHome r s
  | 0x0802 => effSafetyLoad r s
  | 0x0803 => effSafetyActivate (u8At r 16) (slice r 17 16) s
  | 0x0808 => effPassword none r s
  | 0x0809 => effStopReset (u16At r 0) (u8At r 2) s
  | 0x0A42 => effSetPeriod r s
  | 0x0B05 => effTxWrite r s
  | 0x0B06 => effTxCancel r s
  | 0x0B09 => effCanStop r s
  | 0x0C05 => effDioReset r s
  | _ => commandBoth code r s

/-- An operation's own effect; a mode, a step and a waymark have theirs elsewhere. -/
def opOwn (op : PairOp) (p : Fin 4) (s : Rc8) : Rc8 :=
  match op with
  | .command code r => commandOwn code r p s
  | _ => s

/-- An operation's effect on the partner. -/
def opPartner (op : PairOp) (round : Nat) (s : Rc8) : Rc8 :=
  match op with
  | .command code r => commandPartner code r round s
  | _ => s

/-- Code of an operation, 0 where it is no command. -/
def PairOp.code : PairOp → Nat
  | .command c _ => c
  | _ => 0

/-- Operations whose round both modules confirm to each other: a bank swap and a safety activation (06 R220; 11
R370). -/
def PairOp.twoWay (op : PairOp) : Bool := op.code == 0x0505 || op.code == 0x0803

/-- The port of the command that caused an operation. -/
def PendOp.port (x : PendOp) (s : Rc8) : Fin 4 := ((x.exec.bind fun i => s.execs.find? fun e => e.id == i).map (·.port)).getD 0

/-- What a refused or unconfirmed operation leaves: the load or activation that waited for it ends. -/
def opFails (op : PairOp) (s : Rc8) : Rc8 :=
  match op with
  | .command 0x0103 _ => modRun (fun r => { r with load := none }) s
  | .command 0x0104 _ => modRun (fun r => { r with activating := none }) s
  | .command 0x0201 _ => modChg (fun c => { c with load := none }) s
  | .command 0x0411 r => modSch (netByte r 0) (fun k => { k with load := none }) s
  | .command 0x0505 _ => effBankSwap false s
  | .command 0x0802 _ => modSaf (fun x => { x with load := none }) s
  | .command 0x0803 _ => safetyActivateEnds s
  | _ => s

/-- An operation that a partner drops: a bank swap that waited is no longer pending (06 R216, R220). -/
def opDropped (op : PairOp) (s : Rc8) : Rc8 := if op.code = 0x0505 then effBankSwap false s else s

/-- Clean-up after an operation that has acted. -/
def opDone (op : PairOp) (s : Rc8) : Rc8 := if op.code = 0x0104 then modRun (fun r => { r with activating := none }) s else s

/-- An entry leaves the operations that wait. -/
def dropOp (x : PendOp) (s : Rc8) : Rc8 := modPair (fun q => { q with pend := q.pend.filter fun y => !(y == x) }) s

/-! ### At the boundary (03 R112; 06 R220; 11 R370, R382) -/

/-- An operation whose round has come, on the module that took the command. -/
def dueOwn (x : PendOp) (s : Rc8) : Rc8 :=
  let p := x.port s
  match x.op with
  | .command 0x0505 _ => if x.confirmed then endOpt x.exec .done (effBankSwap true s) else endOpt x.exec .tooLate (effBankSwap false s)
  | .command 0x0602 r => dueLearnConfigure x.exec r s
  | .command 0x0606 r => (match x.exec with
    | some id => dueLearnSnapshot (.own id) r s
    | none => s)
  | .command 0x0607 r => dueLearnRestore x.exec r s
  | .command 0x0803 r =>
    if x.confirmed then endOpt x.exec .done (commandOwn 0x0803 r p s) else endOpt x.exec .wrongState (safetyActivateEnds s)
  | .command 0x0809 r =>
    (match x.exec with
     | none => s
     | some id => if resetAllowed (u16At r 0) s then endExec id .done x.resp (commandOwn 0x0809 r p s) else endWith id .wrongState s)
  | op =>
    if x.confirmed then
      (match x.exec, x.late with
       | some id, true => endExec id .done x.resp (opDone op (opOwn op p s))
       | _, _ => opDone op (opOwn op p s))
    else endOpt x.exec .integrityFail (opFails op s)

/-- An operation whose round has come, on the partner: one that both confirm acts only once the holder has (06 R220). -/
def duePartner (x : PendOp) (s : Rc8) : Rc8 :=
  match x.op with
  | .command 0x0606 r => dueLearnSnapshot (.partner (x.seq.getD 0)) r s
  | op => if x.confirmed then opPartner op x.round s else opDropped op s

/-- Operations that act at ENGINE_START of their effective round: axis resets and halts, and the learning commands (06 R212;
07 R231, R240). -/
def PairOp.atEngine (op : PairOp) : Bool :=
  ([0x0506, 0x0507, 0x0602, 0x0603, 0x0605, 0x0606, 0x0607, 0x0608] : List Nat).contains op.code

/-- An operation that waits and whose round has come, modes and time steps apart: of those that act at ENGINE_START, or of the
others. -/
def PendOp.due (engine : Bool) (round : Nat) (x : PendOp) : Bool :=
  x.round != 0 && decide (x.round ≤ round) && x.op.atEngine == engine && (match x.op with | .command _ _ => true | _ => false)

/-- The operations whose round has come take effect, in their order. -/
def takeDue (engine : Bool) (round : Nat) (s : Rc8) : Rc8 :=
  let due := s.pair.pend.filter (PendOp.due engine round)
  due.foldl (fun s x => if x.fromPartner then duePartner x s else dueOwn x s)
    (modPair (fun q => { q with pend := q.pend.filter fun x => !PendOp.due engine round x }) s)

/-- The operations of a boundary; where no schedule in force gives an ENGINE_START, those of the engine act there too (DESIGN CHOICE,
log 18). -/
def applyDue (round : Nat) (s : Rc8) : Rc8 :=
  let s1 := takeDue false round s
  if (anySched s1).isNone then learnControls (takeDue true round s1) else s1

/-- The operations of this ENGINE_START (06 R212; 07 R231). -/
def applyEngine (s : Rc8) : Rc8 := learnControls (takeDue true s.rnd.round s)

/-! ### Confirmation (10 R309) -/

/-- The plant time 500 µs before a round begins (06 R220; 09 R286; 11 R370). -/
def confirmBy (round : Nat) (s : Rc8) : Nat := round * s.rnd.period * fracPerNs - 500000 * fracPerNs

/-- An operation is refused, or cannot be confirmed any more. Of a safety activation, the refusal in time tells an SML that reports
another CRC; with the link gone or the time past, the partner's confirmation is missing (11 R377). -/
def opRefused (x : PendOp) (s : Rc8) : Rc8 :=
  match x.op with
  | .command 0x0505 _ => s
  | .command 0x0803 _ =>
    (match x.exec.bind fun i => s.execs.find? fun e => e.id == i with
     | some e =>
       if !s.pair.plk.up || decide (confirmBy x.round s < s.clk.ptu) then endWith e.id .wrongState (opFails x.op (dropOp x s))
       else endWith e.id .integrityFail (opFails x.op (dropOp x (if e.pendingSent then s else pendNow e s)))
     | none => opFails x.op (dropOp x s))
  | op => endOpt x.exec .integrityFail (opFails op (dropOp x s))

/-- What an operation that waits for its round stores at once (03 R115). -/
def opStored (op : PairOp) (s : Rc8) : Rc8 :=
  match op with
  | .command 0x0A41 r => storeMilestones r s
  | _ => s

/-- An operation is confirmed by the partner. -/
def opConfirmed (x : PendOp) (s : Rc8) : Rc8 :=
  if x.op.twoWay then
    if s.clk.ptu ≤ confirmBy x.round s then
      let s1 := plkSend 0x21 0 (.confirm (x.seq.getD 0) true)
        (modPair (fun q => { q with pend := q.pend.map fun y => if y == x then { y with confirmed := true } else y }) s)
      match x.op.code, x.exec.bind fun i => s.execs.find? fun e => e.id == i with
      | 0x0803, some e => if e.pendingSent then s1 else pendNow e s1
      | _, _ => s1
    else s
  else if x.round = 0 then
    let s1 := opDone x.op (opOwn x.op (x.port s) (dropOp x s))
    match x.exec with
    | some id => endExec id .done x.resp s1
    | none => s1
  else
    let s1 := opStored x.op (modPair (fun q => { q with pend := q.pend.map fun y => if y == x then { y with confirmed := true } else y }) s)
    match x.exec, x.late with
    | some id, false => endExec id .done x.resp s1
    | _, _ => s1

/-- The partner has confirmed a deletion, or has not: an unconfirmed one goes again when the link returns (05 R183; R569). -/
def deleteConfirmed (seq : Nat) (ok : Bool) (s : Rc8) : Rc8 :=
  { s with sch := vmap (fun k => { k with toDelete := if ok then k.toDelete.filter fun x => x.2 != some seq
                                                     else k.toDelete.map fun x => if x.2 = some seq then (x.1, none) else x }) s.sch }

/-- A confirmation or refusal of an APPLY arrives (R309): on the module that sent it, and, for an operation both
confirm, on its partner. -/
def applyConfirmed (seq : Nat) (ok : Bool) (s : Rc8) : Rc8 :=
  match s.pair.pend.find? fun x => x.seq == some seq && !x.confirmed with
  | none =>
    deleteConfirmed seq ok (snapReported seq ok
      (if ok then s else modPair (fun q => { q with pend := q.pend.filter fun x => !(x.fromPartner && x.seq == some seq) }) s))
  | some x =>
    if x.fromPartner then
      if ok then modPair (fun q => { q with pend := q.pend.map fun y => if y == x then { y with confirmed := true } else y }) s else opDropped x.op (dropOp x s)
    else if ok then opConfirmed x s else opRefused x s

/-- The pair link has gone: every operation that waits for a confirmation ends as unconfirmed (R334). -/
def opsUnconfirmed (s : Rc8) : Rc8 :=
  snapAlone ((s.pair.pend.filter fun x => !x.confirmed && !x.fromPartner).foldl (fun s x => opRefused x s) s)

/-! ### On the partner (10 R309, R569) -/

/-- A mode change, a time step or a command joins the operations that wait; a bank swap is pending from now on (06 R216). -/
def joinOp (seq : Nat) (op : PairOp) (round : Nat) (s : Rc8) : Rc8 :=
  let s1 := opStored op (if op.code = 0x0505 then modEng (fun g => { g with swapAt := some round }) s else s)
  modPair (fun q => { q with pend := q.pend ++
    [{ seq := some seq, round := round, op := op, exec := none, confirmed := !op.twoWay, resp := [], late := false, fromPartner := true }] }) s1

/-- A time step replaces an earlier one (13 R426). -/
def dropSteps (s : Rc8) : Rc8 :=
  modPair (fun q => { q with pend := q.pend.filter fun x => match x.op with
    | .timeStep _ => false
    | _ => true }) s

/-- A waymark reaches the standby: a candidate that lies ahead makes the change ARMED and is confirmed, and with a schedule in the
package it fixes the switch; a decision applies the change at once (09 R284, R286, R295, R298). -/
def waymarkOp (round : Nat) (s : Rc8) : Rc8 :=
  if round ≤ s.rnd.round then effWaymark round none s
  else
    let fixed := (s.nv.package.map Package.hasSched).getD false
    let next := match s.chg.candidate with
      | some w => if s.rnd.round < w ∧ w ≤ round then w else round
      | none => round
    let s1 := modChg (fun c => { c with st := if c.st = .preparing then .armed else c.st, candidate := some next, fixed := fixed,
                                        waymark := if fixed then round else c.waymark }) s
    let s2 := if fixed then bothNets.foldl (fun s n => modSch n (fun q => { q with pending := q.pending.map fun x => { x with round := some round } }) s) s1 else s1
    plkSend 0x21 0 (.waymark round true) s2

/-- An APPLY whose round is still ahead, or at whose round's ENGINE_START it can still act (06 R212). -/
def inTime (op : PairOp) (round : Nat) (s : Rc8) : Bool :=
  round == 0 || decide (s.rnd.round < round) || (op.atEngine && decide (s.rnd.round = round) && !s.eng.started)

/-- An APPLY reaches the standby (R309, R569), a safe stop reset the other module, whichever took it (11 R372, R382): one that comes
too late is refused. The report of a LEARN_SNAPSHOT's slots takes the
place of its confirmation (07 R242). -/
def applyOp (seq : Nat) (op : PairOp) (round : Nat) (stored : Bool) (s : Rc8) : Rc8 :=
  if isStandby s || op.code == 0x0809 then
    match op with
    | .mode _ _ => if s.rnd.round < round then joinOp seq op round s else s
    | .timeStep _ => joinOp seq op round (dropSteps s)
    | .timeState c => timeGoto (TimeSt.ofCode c) (if c = TimeSt.holdover.code then dropSteps s else s)
    | .waymark => waymarkOp round s
    | .missed => if changeArmed s then effMissed s else s
    | .command code r =>
      let ok := stored && inTime op round s
      let s1 := if ok && code == 0x0606 then s else plkSend 0x21 0 (.confirm seq ok) s
      if !ok then (if code = 0x0413 then keptSchedule (u8At r 0) (u16At r 2) s1 else s1) else if round = 0 ∨ code = 0x0412 then commandPartner code r round s1 else joinOp seq op round s1
  else s

end Sys2Proof.Machine
end

