-- ==== Sys2Proof/Machine/PairLink.lean ====
section
/-! DEFINITION. The pair link and what arrives over it: acknowledgements, leases, digests, the forwarded set, resync
pages, and the link's own state (10 R306 to R343, R569; 08 R268; 11 R353, R372; 15 R484). -/

namespace Sys2Proof.Machine

open Sys2Proof

/-! ### Receiving (10 R308) -/

/-- A message with a wrong CRC is discarded and counted (R308, R343). -/
def plkCrcError (type : Nat) (s : Rc8) : Rc8 :=
  raiseLimited (some 1) { src := 62, reason := 0x04, sev := .warning, p0 := 0, p1 := 0, p2 := type }
    (modPair (fun q => { q with plk := { q.plk with crcErrors := inc32 q.plk.crcErrors } }) s)

/-- The acknowledgement of a reliable message: the same type and sequence, with flag bit 0. -/
def plkAck (type : Nat) (h : PlkHdr) (s : Rc8) : Rc8 :=
  { modPair (fun q => { q with plk := { q.plk with lastTx := s.clk.refosc } }) s with out := s.out ++ [.plk type 1 h.seq h.round .none (plkWire type 1 h.seq h.round .none)] }

/-- A message arrives (R308): with its CRC right it counts for the link's silence; an acknowledgement ends the wait
for it; a reliable message is acknowledged and acts once; any other acts. -/
def plkReceive (type : Nat) (h : PlkHdr) (f : Rc8 → Rc8) (s : Rc8) : Rc8 :=
  if !s.pair.plk.up then s
  else if !h.crcOk then plkCrcError type s
  else
    let s1 := modPair (fun q => { q with plk := { q.plk with lastRx := s.clk.refosc } }) s
    if h.ack then modPair (fun q => { q with plk := { q.plk with awaiting := q.plk.awaiting.filter fun x => !(x.type == type && x.seq == h.seq) } }) s1
    else if plkReliable type then
      let s2 := plkAck type h s1
      if s.pair.plk.rx.contains (type, h.seq) then s2
      else f (modPair (fun q => { q with plk := { q.plk with rx := ((type, h.seq) :: q.plk.rx).take 256 } }) s2)
    else f s1

/-! ### Leases (10 R312, R314, R316, R318, R331, R333) -/

/-- Lease traffic in the management window makes the partner present (R306). -/
def windowPresence (path : PairPath) (s : Rc8) : Rc8 :=
  match path with
  | .pairLink => s
  | .window => partnerPresent 2 (modPair (fun q => { q with partner := { q.partner with heard := some s.rnd.round } }) s)

/-- A CLAIM record (R317). -/
def claimRecord (r : LeaseRec) (s : Rc8) : Rc8 :=
  if s.pair.token = .unclaimed then modPair (fun q => { q with partnerClaim := some (max (q.partnerClaim.getD 0) r.prio) }) s else s

/-- Event Release (R318): a record of the current epoch, in UNCLAIMED the highest seen before it came (DEDUCED, log 117). -/
def releaseRecord (seen : Nat) (r : LeaseRec) (s : Rc8) : Rc8 :=
  match s.pair.token with
  | .unclaimed =>
    let s1 := modPair (fun q => { q with recordSeen := true }) s
    if r.epoch = seen then becomeStandby (modPair (fun q => { q with epoch := r.epoch }) s1) else s1
  | .standby => if r.epoch = s.pair.epoch then takeoverRefused 2 s else s
  | .standbyReady =>
    if r.epoch = s.pair.epoch then modPair (fun q => { q with takeAt := some (3, max (fullRound r.mark s + 2) (s.rnd.round + 1)) }) s else s
  | _ => s

/-- The record of the same epoch comes from a holder that outranks this one (R316). -/
def outranked (r : LeaseRec) (s : Rc8) : Bool :=
  decide (claimPriority s < r.prio) || (claimPriority s == r.prio && s.pair.position != 1)

/-- DUAL_HOLDER: 1 stepped down, 2 kept. -/
def dualHolder (r : LeaseRec) (what : Nat) (s : Rc8) : Rc8 :=
  raise { src := 60, reason := 0x04, sev := .critical, p0 := s.pair.epoch, p1 := r.epoch, p2 := what } s

/-- The holder stops for another (R316). -/
def stepDown (r : LeaseRec) (s : Rc8) : Rc8 :=
  loadStandby (modPair (fun q => { q with epoch := r.epoch }) (releaseToken 3 (dualHolder r 1 s)))

/-- A holder hears another holder's renewal: one of a newer epoch, or of its own from a holder that outranks it, stops it (R316); any
other is counted and ignored (R318). -/
def rivalRecord (r : LeaseRec) (s : Rc8) : Rc8 :=
  if newerEpoch r.epoch s.pair.epoch ∨ (r.epoch = s.pair.epoch ∧ outranked r s = true) then stepDown r s
  else
    let s1 := modPair (fun q => { q with ignored := inc32 q.ignored }) s
    if r.epoch = s.pair.epoch then dualHolder r 2 s1 else s1

/-- A renewal of the next epoch before the handover round says that the partner has taken the token unplanned (R339). -/
def unplannedTaken (r : LeaseRec) (s : Rc8) : Rc8 :=
  match s.pair.hand with
  | some h => if isStandby s = true ∧ newerEpoch r.epoch s.pair.epoch = true ∧ h.round.any (fun x => decide (s.rnd.round < x)) = true then abandonHand 3 .wrongState s else s
  | none => s

/-- What a standby keeps of a renewal: the epoch, the timer, the offered or committed handover round; a withdrawn
offer restarts the settle time (R314, R318, R331, R333). -/
def standbyRenewal (r : LeaseRec) (s : Rc8) : Rc8 :=
  let mark := fullRound r.mark s
  let s1 := loadStandby (modPair (fun q => { q with epoch := r.epoch, lastRenewal := fullRound r.round s,
                                                    takeAt := q.takeAt.filter fun x => x.1 != 2 }) s)
  match r.kind with
  | .handover => modPair (fun q => { q with offered := some mark }) s1
  | .committed => modPair (fun q => { q with offered := some mark, committed := if q.token == .standbyReady then some mark else q.committed }) s1
  | _ => if s.pair.offered.isSome then settle (modPair (fun q => { q with offered := none }) s1) else s1

/-- Event Renewal (R318): in UNCLAIMED a record of an epoch not older than the highest seen before it came (DEDUCED, log 117). -/
def renewalRecord (seen : Nat) (r : LeaseRec) (s : Rc8) : Rc8 :=
  match s.pair.token with
  | .unclaimed =>
    let s1 := modPair (fun q => { q with recordSeen := true }) s
    if r.epoch = seen ∨ newerEpoch r.epoch seen = true then
      becomeStandby (loadStandby (modPair (fun q => { q with epoch := r.epoch, lastRenewal := fullRound r.round s }) s1))
    else s1
  | .holder => rivalRecord r s
  | .handover => rivalRecord r s
  | _ => if r.epoch = s.pair.epoch ∨ newerEpoch r.epoch s.pair.epoch = true then standbyRenewal r (unplannedTaken r s) else s

/-- The standby's answer to a record (R312, R331, R333). -/
def leaseAnswer (r : LeaseRec) (s : Rc8) : LeaseAns :=
  { epoch := r.epoch, role := if s.pair.token = .standbyReady then 3 else 2, position := s.pair.position, round := r.round, inelig := eligMask s,
    confirmed := s.pair.token == .standbyReady && (r.kind == .handover || r.kind == .committed), homeReclaim := s.pair.reclaim,
    resync := s.pair.resync.requested, key := s.run.key.code, mismatches := s.pair.mismatchRun }

/-- The partner's key stands elsewhere than it last said: a turn of either key ends every safety session (11 R369). -/
def partnerKey (k : Nat) (s : Rc8) : Rc8 := if s.pair.partner.present && s.pair.partner.key != k then endSessions 3 s else s

/-- A lease record arrives (R312, R318): of whatever kind, one of a newer epoch stops a holder (R316). -/
def recordReceived (path : PairPath) (r : LeaseRec) (s0 : Rc8) : Rc8 :=
  let s := partnerKey r.key s0
  let s1 := seeEpoch r.epoch (windowPresence path
    (modPair (fun q => { q with partner := { q.partner with position := r.position, key := r.key, mode := r.mode } }) s))
  let seen := s0.nv.highestEpoch
  let s2 := match r.kind with
    | .claim => if holdsToken s1 ∧ newerEpoch r.epoch s1.pair.epoch = true then stepDown r s1 else claimRecord r s1
    | .release => if holdsToken s1 ∧ newerEpoch r.epoch s1.pair.epoch = true then stepDown r s1 else releaseRecord seen r s1
    | _ => renewalRecord seen r s1
  let s3 := compareKeys s2
  if isStandby s3 && r.kind != .claim && r.kind != .release && path == .pairLink then plkSend 0x01 0 (.lease (.answer (leaseAnswer r s3))) s3 else s3

/-- A lease answer arrives at the holder (R312, R326, R331, R333). -/
def answerReceived (path : PairPath) (a : LeaseAns) (s0 : Rc8) : Rc8 :=
  let s := partnerKey a.key s0
  let was := s.pair.partner.role
  let s1 := compareKeys (windowPresence path
    (modPair (fun q => { q with partner := { q.partner with position := a.position, key := a.key, role := a.role, inelig := a.inelig } }) s))
  if holdsToken s1 then
    let s2 := if a.confirmed then commitHandover s1 else s1
    let s3 := if a.homeReclaim ∧ a.role = 3 ∧ s2.pair.hand.isNone = true ∧ s2.pair.reclaimAfter ≤ s2.clk.refosc then requestHandover .homeReclaim 0 30000 s2 else s2
    if a.resync ∧ s3.pair.resync.running = false ∧ s3.pair.resync.requested = false then startResync (if was = 3 then 3 else 1) s3 else s3
  else s1

/-- LEASE (R312): over the pair link or in the management window. -/
def leaseReceived (path : PairPath) (h : PlkHdr) (m : LeaseMsg) (s : Rc8) : Rc8 :=
  let act := match m with
    | .record r => recordReceived path r
    | .answer a => answerReceived path a
  if !svpRuns s then s
  else match path with
  | .pairLink => plkReceive 0x01 h act s
  | .window => act s

/-! ### Digests (10 R324, R325) -/

/-- This module compares records: the standby while it is synchronised, the holder while its partner is. -/
def compares (s : Rc8) : Bool :=
  if isStandby s then s.pair.synced
  else !bitAt s.pair.partner.inelig 0 && !s.pair.resync.running && !s.pair.resync.requested

/-- A digest mismatch (R325): counted, raised, the standby not eligible, and a resync starts. -/
def digestMismatch (d : DigestRec) (path : Nat) (s : Rc8) : Rc8 :=
  let s1 := raise { src := 61, reason := 0x01, sev := .error, p0 := d.kind, p1 := d.seq, p2 := path }
    (modPair (fun q => { q with mismatches := inc32 q.mismatches, mismatchRun := min 0xFFFF (q.mismatchRun + 1) }) s)
  if isStandby s then
    updateReady (startResync 2 (settle (modPair (fun q => { q with mismatch := true, windowMatch := q.plk.up && q.windowMatch }) s1)))
  else startResync 2 s1

/-- One record of the partner is compared (R324). -/
def compareDigest (path : Nat) (s : Rc8) (d : DigestRec) : Rc8 :=
  if !compares s || d.own || decide (8 < d.kind) then s
  else
    match (vget s.pair.history d.kind []).find? fun x => x.seq == d.seq with
    | none => modPair (fun q => { q with uncompared := inc32 q.uncompared }) s
    | some x => if x.own || x.chain == d.chain then s else digestMismatch d path s

/-! ### The forwarded set (10 R319, R321, R322) -/

/-- A message of the forwarded set acts on the standby, for the round it belongs to. -/
def forwarded (h : PlkHdr) (f : Rc8 → Rc8) (s : Rc8) : Rc8 := if isStandby s && h.round == s.rnd.round && !dmaStopped 14 s then f s else s

/-- ROUND_INPUTS comes in time: by the module's own GATHER_DONE + 4 µs (R319). -/
def inputsInTime (s : Rc8) : Bool :=
  match (bothNets.filterMap fun n => ((s.sch[n]).inForce).map (·.gatherDone)).max? with
  | none => true
  | some o => decide (s.clk.ptu ≤ roundStart s + (o + 4000) * fracPerNs)

/-- ROUND_INPUTS (R319; 11 R353, R364; 15 R484). -/
def roundInputs (last : Bool) (setpoint : Nat) (states : List (Nat × Nat × Nat × Nat)) (field : List Byte) (groups : BitVec 16) (s : Rc8) : Rc8 :=
  modSaf (fun x => { x with partnerMask := groups }) (modFfe (fun x => { x with holder := field })
    (modPair (fun q => { q with fwdSetpoint := setpoint, fwdStates := q.fwdStates ++ states, fwdDone := q.fwdDone || (last && inputsInTime s) }) s))

/-- The task's shadow cycle of an earlier release than that of a round still runs, or still waits to begin (R322). -/
def stillRuns (t round : Nat) (s : Rc8) : Bool :=
  let x := vget s.run.tasks t Task.reset
  decide (t < 8) && ((x.st == .running && decide (x.lastRound < round)) || x.held.any fun y => decide (y.2.2 < round))

/-- In LAYBY the holder releases the cycles that its debug commands ask for: they run here too, under debug control (08 R266; R321). -/
def debugRelease (m : RelMsg) (s : Rc8) : Rc8 :=
  if h : m.task < 8 then
    let t : Fin 8 := ⟨m.task, h⟩
    if m.released && (s.run.tasks[t]).st == .halted && !codeWaits s then
      (match shadowImages t m s with
       | some x => beginWith t true m.time m.mono x.1 x.2 s
       | none => s)
    else s
  else s

/-- RELEASE (R321, R322): one that the standby has decided itself is dropped, any other is kept for the release that waits; one that
finds the shadow cycle of the release before it running is a shadow lag. -/
def releaseReceived (round : Nat) (m : RelMsg) (s : Rc8) : Rc8 :=
  if isStandby s && s.pair.synced && !ownDecides s then
    let s1 := if s.run.mode = .layby then debugRelease m s else shadowOn (modPair (fun q => { q with releases := q.releases ++ [m] }) s)
    if m.released && stillRuns m.task round s then
      updateReady (startResync 3 (raise { src := 61, reason := 0x08, sev := .error, p0 := m.task, p1 := lo32 round, p2 := 0 }
        (modPair (fun q => { q with lag := true }) s1)))
    else s1
  else s

/-- SERVICE (R319) by its first field: results of a task's services, each of which ends the oldest request in flight of the task, CAN
transmit statuses, peer sequences, and, from 32, what a task read in a call. -/
def serviceReceived (task : Nat) (data : List Byte) (s : Rc8) : Rc8 :=
  if !isStandby s then s
  else if task < 8 then
    modRun (fun r => { r with channel := r.channel.eraseIdx (r.channel.findIdx fun x => x.task.val == task) })
      (modPair (fun q => { q with services := q.services ++ [(task, data)] }) s)
  else if task < 12 then takeCanStatus ⟨task % 4, Nat.mod_lt _ (by decide)⟩ data s
  else if 32 ≤ task then modPair (fun q => { q with reads := q.reads ++ [(task - 32, data)] }) s
  else if 16 ≤ task then { s with peers := vput s.peers (task - 16) fun x => { x with sent := u32At data 0 } }
  else s

/-! ### Resync (10 R326, R327, R336; 08 R268; 11 R372) -/

/-- Links of the ring map go to the partner, none of them too: the whole map of the holder, the module's own links of any other (04
R575). -/
def sendMap (n : Fin 2) (s : Rc8) : Rc8 :=
  let l := if holdsToken s then (s.net[n]).ringMap else (s.net[n]).ringMap.filter fun x => x.node == selfNode s
  if s.pair.partner.present then plkSend 0x30 0 (.copy [.ringMap n (holdsToken s) l]) s else s

/-- Both networks' links go to the partner. -/
def sendMaps (s : Rc8) : Rc8 := bothNets.foldl (fun s n => sendMap n s) s

/-- Links of a ring map arrive: the holder's whole map stands for all but the module's own links; another module's links stand for
those it had, and the holder computes the path delays anew and sends the map on (04 R136, R575). -/
def mergeMap (n : Fin 2) (whole : Bool) (l : List Neighbour) (s : Rc8) : Rc8 :=
  let own := if whole then selfNode s else partnerNode s
  let old := (s.net[n]).ringMap
  let map := if whole then old.filter (fun x => x.node == own) ++ l.filter fun x => x.node != own
    else old.filter (fun x => x.node != own && !(x.nbr == own && !(l.any fun y => y.nbr == x.node))) ++ l
  let s1 := renewPaths n (updateMargins n (modNet n (fun k => { k with ringMap := map }) s))
  if holdsToken s && !whole then sendMap n s1 else s1

/-- The holder's change takes the place of the module's own; what waited here for it goes on waiting, or ends with it where it has
ended there (09 R296, R301). -/
def takeChange (c : Change) (s : Rc8) : Rc8 :=
  let old := s.chg
  let ended := c.st != .preparing && c.st != .armed
  let s1 := if ended then endOpt old.exec (if c.result = 1 then .done else .wrongState) (endAborts (if c.result = 1 then .tooLate else .done) s) else s
  modChg (fun _ => { c with exec := if ended then none else old.exec, aborts := if ended then [] else old.aborts, load := none }) s1

/-- A task of the holder: its results that have come are as forwarded, and each keeps its place (08 R270). -/
def takeTask (t : Fin 8) (x : Task) (s : Rc8) : Rc8 :=
  modPair (fun q => { q with services := q.services.filter (fun y => y.1 != t.val) ++ (x.results.filter fun r => r != []).map fun r => (t.val, r) })
    (modTask t (fun _ => { x with results := x.results.map fun _ => [] }) s)

/-- One item of the holder's state is taken. -/
def takeItem (s : Rc8) (i : CopyItem) : Rc8 :=
  match i with
  | .images a l p => loadCode { s with nv := { s.nv with active := a, loaded := l, package := p } }
  | .publish mi mo si g p q x =>
    modRun (fun r => { r with motionIn := mi, motionOut := mo, stationIn := si, setGen := g, motionInPast := p, stationInPast := q, setPast := x }) s
  | .retained u area data j c =>
    modRun (fun r => { r with retained := data, commits := c })
      { s with nv := { s.nv with retain := s.nv.retain.set u area, retainUse := u, journal := j } }
  | .bank b x => modBank b (fun _ => x) s
  | .bankActive b => { s with nv := { s.nv with bankActive := b } }
  | .axes l => modEng (fun e => { e with axes := l }) s
  | .learning l =>
    { s with learn := l.map fun x => (x.1, { x.2 with snapFor := none, move := x.2.move.map fun m => { m with exec := none } }),
             nv := { s.nv with learnCfg := l.map fun x => (x.1, x.2.cfg) } }
  | .learnStored c x => { s with nv := { s.nv with learnCfg := c, snaps := x } }
  | .windows n l => modSch n (fun k => { k with wins := l }) s
  | .schedules n l id p =>
    let s1 := loadMaps (modSch n (fun k => { k with pending := p.map (fun w => { w with exec := none }), kept := [] }) { s with nv := { s.nv with schedules := s.nv.schedules.set n l } })
    if schedId n s = id then s1 else putSchedule n id s1
  | .task t x => takeTask t x s
  | .instances t e f => modRun (fun r => { r with timers := t, edges := e, fresh := f }) s
  | .program d => modRun (fun r => { r with data := d }) s
  | .change c => takeChange c s
  | .services l => modRun (fun r => { r with channel := l }) s
  | .pend l =>
    modEng (fun g => { g with swapAt := (l.find? fun x => x.op.code == 0x0505).map (·.round) })
      (modPair (fun q => { q with pend := l.map fun x => { x with exec := none, fromPartner := true } }) s)
  | .chains l => modPair (fun q => { q with chains := Vector.ofFn fun k : Fin 9 => l.getD k.val 0, history := Vector.replicate 9 [] }) s
  | .config p t m h home st =>
    let s1 := takePeriod p { s with nv := { s.nv with storedPeriod := t, media := m, hostMilestones := h, home := home, settle := st } }
    { s1 with rnd := { s1.rnd with host := h } }
  | .safety b op =>
    if setCrcOk b then
      safetyLog 2 0xFF s.nv.safeActive (some b) op (copiesWritten 0 1 (modSaf (fun x => { x with sml := { x.sml with crc := setCrc b } })
        { s with nv := { s.nv with safeActive := some b } }))
    else s
  | .password x => { s with nv := { s.nv with password := x } }
  | .ringMap n whole l => mergeMap n whole l s
  | .wantSchedule n id => (match storedSched n id s with
    | some c => plkSend 0x30 0 (.copy [.schedule n c.image]) s
    | none => s)
  | .schedule n image => takeSchedule n image s
  | .equal b => modPair (fun q => { q with partner := { q.partner with equalItems := b, failed := q.partner.failed && !b } }) s

/-- Items are taken in their order; where they change the milestone table, its generation counts the change (03 R114). -/
def takeItems (items : List CopyItem) (s : Rc8) : Rc8 :=
  let t := items.foldl takeItem s
  if (milestoneTable t != milestoneTable s || t.rnd.period != s.rnd.period) && t.rnd.generation == s.rnd.generation then tableChanged t else t

/-- An item that either module may send. -/
def CopyItem.fromAny : CopyItem → Bool
  | .ringMap _ _ _ => true
  | .wantSchedule _ _ => true
  | .schedule _ _ => true
  | _ => false

/-- A page that fails its verification: the copy ends (R342), and during insertion the transfer has failed (R336,
R343). -/
def copyFailed (s : Rc8) : Rc8 :=
  let s1 := plkSend 0x21 0 (.copied false) (modPair (fun q => { q with resync := { q.resync with running := false, requested := true } }) s)
  if s.pair.step = 6 then
    raise { src := 63, reason := 0x03, sev := .error, p0 := 2, p1 := pairLevel s, p2 := s.pair.partner.level }
      (modPair (fun q => { q with partner := { q.partner with failed := true } }) s1)
  else s1

/-- STATE_COPY (R327, R336): on the standby the pages are taken; ring links and schedules are taken from either module, outside a
resync (04 R141, R575; 05 R175). -/
def stateCopy (items : List CopyItem) (verified : Bool) (s : Rc8) : Rc8 :=
  if dmaStopped 14 s then s
  else if items.all CopyItem.fromAny then (if verified then takeItems items s else s)
  else if isStandby s then
    if !verified then updateReady (copyFailed s)
    else updateReady (takeItems items (modPair (fun q => { q with resync := { q.resync with requested := false, running := true } }) s))
  else if verified then takeItems (items.filter CopyItem.fromAny) s
  else s

/-- The standby takes the holder's mode at the end of its resync (08 R268). -/
def takeMode (s : Rc8) : Rc8 :=
  let m := Mode.ofCode s.pair.partner.mode
  if m = s.run.mode then s else modeChanged m 6 s.rnd.round s

/-- The final pass has ended at a sync boundary: shadow execution starts (R327). -/
def resyncDone (round : Nat) (s : Rc8) : Rc8 :=
  let ms := (s.clk.refosc - s.pair.resync.start) / 1000000
  let s1 := raise { src := 61, reason := 0x03, sev := .notice, p0 := ms, p1 := s.pair.resync.passes + 1, p2 := lo32 round }
    (modPair (fun q => { q with synced := true, mismatch := false, lag := false, mismatchRun := 0, windowMatch := true, lastResyncMs := ms,
                                releases := [], cycles := [], reads := [],
                                resync := { q.resync with requested := false, running := false, passes := q.resync.passes + 1, finalDue := false } }) s)
  updateReady (plkSend 0x21 0 (.copied true) (takeMode (modRun (fun r => { r with started := true, mono := if r.started then r.mono else 0 })
    { modItg (fun x => { x with poisoned := x.poisoned.filter fun y => decide (8 < y.1) }) (modEng (fun e => { e with barred := false }) s1) with
        tablesRestored := true })))

/-- COPY_DONE (R327): a pass has ended. On the holder, one whose recorded pages total 16 MiB or less is followed by the
final pass at a sync boundary, any other by a further pass; the standby is told. -/
def copyDone (round : Nat) (final : Bool) (pages : Nat) (s : Rc8) : Rc8 :=
  if isStandby s then
    if final then resyncDone round s
    else modPair (fun q => { q with resync := { q.resync with passes := q.resync.passes + 1, pages := pages } }) s
  else if s.pair.resync.running ∧ holdsToken s = true then
    plkSend 0x31 0 (.copyDone false)
      ((if pages ≤ 4096 then id else copyPass)
        (modPair (fun q => { q with resync := { q.resync with passes := q.resync.passes + 1, pages := pages, finalDue := decide (pages ≤ 4096) } }) s))
  else s

/-- COPY_DONE arrives over the link at the standby, or a pass ends on the holder. -/
def copyDoneEvent (h : PlkHdr) (final : Bool) (pages : Nat) (s : Rc8) : Rc8 :=
  if holdsToken s then copyDone h.round final pages s else plkReceive 0x31 h (copyDone h.round final pages) s

/-! ### CONFIRM (10 R309; 09 R286; 10 R342) -/

/-- The standby has verified the copied pages, or has not: the resync ends on the holder, which keeps its duration (R340, R342). -/
def copiedConfirm (ok : Bool) (s : Rc8) : Rc8 :=
  if holdsToken s then
    modPair (fun q => { q with resync := { q.resync with running := false, requested := false, finalDue := false, exec := none, sent := [] },
                                lastResyncMs := if ok then (s.clk.refosc - s.pair.resync.start) / 1000000 else q.lastResyncMs })
      (endOpt s.pair.resync.exec (if ok then .done else .integrityFail) s)
  else s

/-- A waymark round confirmed in time (09 R286). -/
def waymarkConfirm (round : Nat) (ok : Bool) (s : Rc8) : Rc8 :=
  if ok ∧ s.clk.ptu ≤ confirmBy round s then modChg (fun c => { c with confirmed := c.confirmed ++ [round] }) s else s

/-- CONFIRM (R309). -/
def confirmReceived (c : ConfirmMsg) (s : Rc8) : Rc8 :=
  match c with
  | .apply seq ok => applyConfirmed seq ok s
  | .waymark round ok => waymarkConfirm round ok s
  | .copied ok => copiedConfirm ok s

/-! ### The link itself (10 R307, R308, R310, R334, R336, R569) -/

/-- PLK_DOWN: cause 1 lock lost, 2 silence, 3 retransmission failed. What waits for a confirmation ends as
unconfirmed, and a shadow task that waited for the holder goes on by this module's own decisions (R310, R319, R334). -/
def plkDown (cause : Nat) (s : Rc8) : Rc8 :=
  if s.pair.plk.up then
    let s1 := modPair (fun q => { q with windowMatch := true, plk := { q.plk with up := false, lanes := 0, awaiting := [] } }) s
    updateReady (suspendResync (opsUnconfirmed (shadowOn
      (raise { src := 62, reason := 0x02, sev := .error, p0 := cause, p1 := lo32 s.rnd.round, p2 := 0 } s1))))
  else s

/-- PLK_DOWN's own row: both lanes have lost lock, or no valid message has arrived for 50 µs (R310). -/
def plkLost (lockLost : Bool) (s : Rc8) : Rc8 := if lockLost then plkDown 1 s else plkDown 2 (atRefosc (s.pair.plk.lastRx + 50000) s)

/-- KEEPALIVE_SEND: 10 µs without a message (R308). -/
def keepaliveSend (s : Rc8) : Rc8 := if s.pair.plk.up then plkSend 0x3F 0 .none (atRefosc (s.pair.plk.lastTx + 10000) s) else s

/-- PLK_RETRANSMIT_TIMEOUT: the oldest message waiting for its acknowledgement is sent again, at most three times
(R308). -/
def retransmit (s : Rc8) : Rc8 :=
  match s.pair.plk.awaiting with
  | [] => s
  | x :: rest =>
    let s1 := atRefosc (x.since + 20000) s
    if x.tries < 3 then
      { modPair (fun q => { q with plk := { q.plk with awaiting := rest ++ [{ x with tries := x.tries + 1, since := s1.clk.refosc }], lastTx := s1.clk.refosc } }) s1 with
        out := s.out ++ [.plk x.type x.flags x.seq x.round x.body (plkWire x.type x.flags x.seq x.round x.body)] }
    else plkDown 3 s1

/-- One deletion is sent again, with the sequence its confirmation will name. -/
def resendDelete (n : Fin 2) (s : Rc8) (id : Nat) : Rc8 :=
  modSch n (fun k => { k with toDelete := k.toDelete.map fun x => if x.1 = id then (id, some (plkNextSeq 0x20 s)) else x })
    (plkSend 0x20 0 (.apply (.command 0x0413 (le 1 n.val ++ zeros 1 ++ le 2 id)) 0) s)

/-- The deletions a partner has not confirmed are sent again (R569). -/
def resendDeletes (s : Rc8) : Rc8 :=
  bothNets.foldl (fun s n => ((s.sch[n]).toDelete.map (·.1)).foldl (resendDelete n) s) s

/-- PARTNER_INCOMPATIBLE where the levels or split settings differ (R336). -/
def compatibility (level : Nat) (splitEqual : Bool) (s : Rc8) : Rc8 :=
  let ev := fun c => ({ src := 63, reason := 0x03, sev := .error, p0 := c, p1 := pairLevel s, p2 := level } : Ev)
  if level ≠ pairLevel s then raise (ev 1) s else if !splitEqual then raise (ev 3) s else s

/-- PLK_UP (R307, R310): training has ended; the modules exchange what step 6 compares. -/
def plkUp (lanes ms level : Nat) (splitEqual equal : Bool) (s : Rc8) : Rc8 :=
  if s.pair.plk.up ∨ lanes = 0 then s
  else
    let now := s.clk.refosc
    let s1 := raise { src := 62, reason := 0x01, sev := .notice, p0 := lanes, p1 := ms, p2 := 0 }
      (modPair (fun q => { q with plk := { q.plk with up := true, lanes := lanes, rx := [], awaiting := [], lastTx := now, lastRx := now },
                                  partner := { q.partner with level := level, split := splitEqual, equalItems := equal && splitEqual } }) s)
    let s2 := partnerPresent 1 s1
    let s3 := if s.pair.training.isSome then
        raise { src := 63, reason := 0x04, sev := .info, p0 := 5, p1 := ms, p2 := 0 }
          (modPair (fun q => { q with training := none, stepFailed := stepClears 5 q.stepFailed }) s2)
      else s2
    let s4 := resumeResync (sendTransfer (sendMaps (resendDeletes (compatibility level splitEqual s3))))
    updateReady s4

/-- PLK_LANE_DEGRADED (R307): the link continues on one lane. -/
def laneDegraded (lane : Fin 2) (s : Rc8) : Rc8 :=
  if s.pair.plk.up then
    raise { src := 62, reason := 0x03, sev := .warning, p0 := lane.val, p1 := lo32 s.rnd.round, p2 := 0 }
      (modPair (fun q => { q with plk := { q.plk with lanes := 1 } }) s)
  else s

/-! ### Meanings -/

/-- LEASE (R312). -/
def execLeaseMessage (path : PairPath) (h : PlkHdr) (m : LeaseMsg) (s : State) : Answer := act (leaseReceived path h m) s

/-- DIGEST (R309, R324): up to 64 records. -/
def execDigestMessage (h : PlkHdr) (l : List DigestRec) (s : State) : Answer := actIf (decide (l.length ≤ 64)) "DIGEST" (plkReceive 0x02 h fun s => l.foldl (compareDigest 1) s) s

/-- WINDOWS (R319). -/
def execWindowsMessage (h : PlkHdr) (n : Fin 2) (l : List (Nat × List Byte)) (s : State) : Answer :=
  act (plkReceive 0x10 h (forwarded h (modPair fun q => { q with fwdWindows := (l.map fun x => (n.val, x.1, x.2)) ++ q.fwdWindows }))) s

/-- ROUND_INPUTS (R319). The feedback states follow from the window states and contents. -/
def execRoundInputsMessage (h : PlkHdr) (setpoint : Nat) (states : List (Nat × Nat × Nat × Nat)) (_feedback : List Nat) (field : List Byte) (groups : BitVec 16) (s : State) : Answer :=
  act (plkReceive 0x11 h (forwarded h (roundInputs h.last setpoint states field groups))) s

/-- RELEASE (R321). -/
def execReleaseMessage (h : PlkHdr) (m : RelMsg) (s : State) : Answer := act (plkReceive 0x12 h (releaseReceived h.round m)) s

/-- CYCLE_END (R321). -/
def execCycleEndMessage (h : PlkHdr) (m : CycMsg) (s : State) : Answer :=
  act (plkReceive 0x13 h fun s => if isStandby s then shadowOn (modPair (fun q => { q with cycles := q.cycles ++ [m] }) s) else s) s

/-- SERVICE (R319). -/
def execServiceMessage (h : PlkHdr) (task : Nat) (data : List Byte) (s : State) : Answer := act (plkReceive 0x14 h (serviceReceived task data)) s

/-- APPLY (R309, R569); `stored` is whether this module's read-back matches. -/
def execApplyMessage (h : PlkHdr) (op : PairOp) (round : Nat) (stored : Bool) (s : State) : Answer := act (plkReceive 0x20 h (applyOp h.seq op round stored)) s

/-- CONFIRM (R309). -/
def execConfirmMessage (h : PlkHdr) (c : ConfirmMsg) (s : State) : Answer := act (plkReceive 0x21 h (confirmReceived c)) s

/-- The byte stores an item carries are in canonical form, as every store of a module is. -/
def copyItemOk (x : CopyItem) : Bool :=
  match x with
  | .retained _ area data _ _ => Mem.wf area && Mem.wf data
  | .program data => Mem.wf data
  | _ => true

/-- STATE_COPY (R327); `verified` is whether the standby's check of the pages passes. -/
def execStateCopyMessage (h : PlkHdr) (items : List CopyItem) (verified : Bool) (s : State) : Answer :=
  actIf (items.all copyItemOk) "STATE_COPY" (plkReceive 0x30 h (stateCopy items verified)) s

/-- COPY_DONE (R327); `pages` is how many pages the pass has recorded. -/
def execCopyDoneMessage (h : PlkHdr) (final : Bool) (pages : Nat) (s : State) : Answer := act (copyDoneEvent h final pages) s

/-- KEEPALIVE (R308). -/
def execKeepaliveMessage (h : PlkHdr) (s : State) : Answer := act (plkReceive 0x3F h id) s

/-- KEEPALIVE_SEND (R308). -/
def execKeepaliveSend (s : State) : Answer := act keepaliveSend s

/-- PLK_RETRANSMIT_TIMEOUT (R308). -/
def execPlkRetransmitTimeout (s : State) : Answer := act retransmit s

/-- PLK_UP (R307, R310): lanes in use, training time, and the partner's level, split setting and items of eligibility
bit 4 against this module's. -/
def execPlkUp (lanes : Fin 3) (ms level : Nat) (splitEqual equal : Bool) (s : State) : Answer := act (plkUp lanes.val ms level splitEqual equal) s

/-- PLK_DOWN (R310). -/
def execPlkDown (lockLost : Bool) (s : State) : Answer := act (plkLost lockLost) s

/-- PLK_LANE_DEGRADED (R307). -/
def execPlkLaneDegraded (lane : Fin 2) (s : State) : Answer := act (laneDegraded lane) s

end Sys2Proof.Machine
end

