-- ==== Sys2Proof/Machine/Mgmt.lean ====
section
/-! DEFINITION. The management window: the MGMT frame, stop commands, management requests, the lease on the
management path, and frame copies as they arrive (04 R136; 05 R163 to R170, R175; 10 R311 to R318, R324, R331). -/

namespace Sys2Proof.Machine

open Sys2Proof

/-! ### Work for nodes and couplers (05 R166, R167; 04 R136) -/

/-- The configuration of a node that joins: its parts, then its path delays, and while a switch is pending the offer of the new
schedule; a module has path delays alone (R144, R167, R175, R576). -/
def joinWork (n : Fin 2) (i : Nat) (s : Rc8) : List MgmtWork :=
  if 62 ≤ i then [pathWork n i s] else
  let parts := match (s.sch[n]).inForce with
    | none => []
    | some c => (nodeParts 40 c i).map fun d => ({ target := i, code := 1, data := d } : MgmtWork)
  let offer := match (s.sch[n]).pending.bind fun w => storedSched n w.id s with
    | none => []
    | some c => offerTo c i
  parts ++ [pathWork n i s] ++ offer

/-- Slot entries of up to four nodes: index, module port, wire bytes and slot start (DESIGN CHOICE, log 15). -/
def slotEntries (c : Schedule) (l : List Nat) : List Byte :=
  l.flatMap fun i =>
    let w := c.windows.find? fun w => w.node == i && !w.down
    le 1 i ++ le 1 (b2n (c.nodePort2 i)) ++ le 2 (c.frameLen false i + 54) ++ le 4 ((w.map (·.slot)).getD 0)

/-- The slot table of a star schedule for the couplers (R166). -/
def slotWork (c : Schedule) : List MgmtWork :=
  if c.topo ≠ 1 then []
  else
    let l := c.nodeList
    (List.range (ceilDiv l.length 4)).map fun k => { target := 0xFE, code := 5, data := slotEntries c ((l.drop (4 * k)).take 4) }

/-- Work joins the outstanding work of a network. -/
def addWork (n : Fin 2) (l : List MgmtWork) (s : Rc8) : Rc8 := modSch n (fun k => { k with work := k.work ++ l }) s

/-- The ring map or a link's delay has changed: new break margins, new path delays, and the partner learns it (04 R128, R136,
R575). -/
def mapChanged (n : Fin 2) (s : Rc8) : Rc8 := sendMap n (renewPaths n (updateMargins n s))

/-- The outstanding work of the lowest target, oldest first. -/
def nextWork (k : Sched) : Option MgmtWork :=
  k.work.foldl (fun (m : Option MgmtWork) w => match m with
    | none => some w
    | some x => if w.target < x.target then some w else m) none

/-- STATUS to the next node of the cycle, or no request where no node is scheduled (R167). -/
def cycleRequest (n : Fin 2) (k : Sched) (s : Rc8) : Sched :=
  let l := ((s.sch[n]).inForce.map Schedule.nodeList).getD []
  let seq := (k.request.seq + 1) % 65536
  match l[k.cycle % max 1 l.length]? with
  | none => { k with request := { target := 0xFF, code := 0, seq := seq, data := [] } }
  | some i => { k with request := { target := i, code := 4, seq := seq, data := [] }, cycle := (k.cycle + 1) % max 1 l.length }

/-- The partner may lack the schedule in force and has no pair link to fetch it by: it is present, stands in the ring map or, in a
star, sits in the same base, and it has not joined (04 R141; DESIGN CHOICE, log 15). -/
def partnerWants (n : Fin 2) (s : Rc8) : Bool :=
  let i := partnerNode s
  holdsToken s && !s.pair.plk.up &&
  (s.pair.partner.present || (s.net[n]).ringMap.any (fun x => x.nbr == i) || ((s.net[n]).media.topo == .star && s.pair.position != 0)) &&
  !((s.net[n]).nodes.any fun x => x.idx == i && decide (2 ≤ x.join)) && !((s.sch[n]).work.any fun w => w.target == i && w.code == 3)

/-- The schedule in force is offered to a partner that cannot fetch it by the pair link (04 R141; R576). -/
def offerPartner (n : Fin 2) (s : Rc8) : Rc8 :=
  match (s.sch[n]).inForce with
  | some c => if partnerWants n s then addWork n (moduleOffer c (partnerNode s)) s else s
  | none => s

/-- The request of a round's MGMT frame (R167): work in even rounds, the cycle in odd ones. -/
def takeRequest (n : Fin 2) (s0 : Rc8) : Rc8 :=
  let s := offerPartner n s0
  modSch n (fun k =>
    let k := { k with answered := k.request }
    if s.rnd.round % 2 = 1 then cycleRequest n k s
    else match nextWork k with
      | none => cycleRequest n k s
      | some w => { k with request := { target := w.target, code := w.code, seq := (k.request.seq + 1) % 65536, data := w.data }, work := k.work.erase w }) s

/-! ### The MGMT frame (05 R166, R169) -/

/-- The digest record of this round: the newest of the chain whose turn it is (10 R324). -/
def windowDigest (s : Rc8) : Option DigestRec :=
  let chains := 0 :: ((List.range 8).filter fun t => ((vget s.run.tasks t Task.reset).cfg).isSome).map (· + 1)
  (vget s.pair.history (chains.getD (s.rnd.round % chains.length) 0) []).head?

/-- The old holder of a committed handover, whose records go on until the handover point (10 R318). -/
def committedRecord (s : Rc8) : Option LeaseRec :=
  match s.pair.hand with
  | some h => if h.committed ∧ isStandby s = true then h.round.map fun r => leaseRecord .committed r s else none
  | none => none

/-- The lease record a module writes into its MGMT frame, where it writes one (10 R312, R318); a halted SVP writes none (12 R385). -/
def windowRecord (s : Rc8) : Option LeaseRec :=
  if !svpRuns s then none
  else if holdsToken s then some (renewal s)
  else match s.pair.releasing with
    | some m => some (leaseRecord .release m s)
    | none => committedRecord s

/-- The data of the MGMT frame. -/
def mgmtData (n : Fin 2) (r : LeaseRec) (s : Rc8) : List Byte :=
  let k := s.sch[n]
  let stop := k.stops.head?
  let sw := k.pending.bind fun w => w.round.map fun x => (w.id, x)
  let base := r.bytes ++ ((windowDigest s).map DigestRec.bytes).getD (zeros 16) ++
    le 1 ((stop.map (·.cmd)).getD 0) ++ le 1 ((stop.map (·.target)).getD 0) ++ le 2 ((stop.map (·.seq)).getD 0) ++ zeros 4 ++
    le 2 ((sw.map (·.1)).getD 0) ++ zeros 2 ++ le 4 (lo32 ((sw.map (·.2)).getD 0)) ++
    le 1 k.request.target ++ le 1 k.request.code ++ le 2 k.request.seq ++ padTo 44 k.request.data
  if (s.net[n]).media.topo = .star then base else base ++ zeros 112

/-- The stop command at the head of the queue is in one more frame; NODE_STOP_SENT at its first, and it leaves the
queue after its eighth (R169, R187). -/
def advanceStops (n : Fin 2) (s : Rc8) : Rc8 :=
  match (s.sch[n]).stops with
  | [] => s
  | x :: rest =>
    let s1 := modSch n (fun k => { k with stops := if 7 ≤ x.sent then rest else { x with sent := x.sent + 1 } :: rest }) s
    if x.sent = 0 then
      raise { src := 36 + 8 * n.val, reason := 0x05, sev := .notice, p0 := x.target, p1 := x.cmd, p2 := x.seq }
        (stopActs n x.cmd x.target s1)
    else s1

/-- A channel's frame does not fit its window and waits for the next one (03 R110; 05 R187). -/
def mgmtDeferred (n : Fin 2) (deferred : BitVec 2) (s : Rc8) : Rc8 :=
  ([0, 1] : List (Fin 2)).foldl (fun s c =>
    if deferred.getLsbD c.val && chanUsed s.net[n] c then
      raiseLimited (some 2) { src := 35 + 8 * n.val, reason := 0x06, sev := .warning, p0 := c.val, p1 := lo32 s.rnd.round, p2 := 0 } s
    else s) s

/-- The network lets this module launch its MGMT frame: in MASTER as the holder, or after the lease while a last record
is still owed (04 R131; 10 R318). -/
def mgmtLaunches (n : Fin 2) (s : Rc8) : Bool :=
  launching n s || (!holdsToken s && ((s.net[n]).state == .joined || (s.net[n]).state == .syncing))

/-- Ports a MGMT frame is launched on. -/
def mgmtPorts (n : Fin 2) (deferred : BitVec 2) (s : Rc8) : List (Fin 4) :=
  if mgmtLaunches n s then (launchPorts s.net[n]).filter fun p => !deferred.getLsbD (chanOf p).val else []

/-- The MGMT frame of the round is launched. Where the guardian blocks it, no request and no stop command has gone out (R167, R169). -/
def mgmtLaunch (n : Fin 2) (deferred : BitVec 2) (s : Rc8) : Rc8 :=
  match windowRecord s with
  | none => s
  | some r =>
    let s0 := if mgmtLaunches n s then mgmtDeferred n deferred s else s
    let ports := mgmtPorts n deferred s
    if ports = [] then s0
    else
      let opens := !(s.net[n]).guard.closed
      let s1 := if !opens then s0
        else if holdsToken s then takeRequest n s0
        else modSch n (fun k => { k with request := { k.request with target := 0xFF, code := 0, data := [] } }) s0
      let s2 := launch n opens ports 4 [(0, mgmtData n r s1)] s1
      if holdsToken s && opens then advanceStops n s2 else s2

/-! ### The lease at MGMT_OPEN (10 R312, R313, R317, R318, R331) -/

/-- A planned crossover without confirmation by MGMT_OPEN of round h − 4 is withdrawn (R331). -/
def withdrawHandover (s : Rc8) : Rc8 :=
  match s.pair.hand with
  | none => s
  | some h => if h.committed = false ∧ h.round.any (fun r => decide (r ≤ s.rnd.round + 4)) = true then abandonHand 2 .tooLate s else s

/-- The lease work of a round that is done once, at its first MGMT_OPEN: the record over the pair link, and the CLAIM
records of a module in UNCLAIMED. -/
def leaseOnce (s : Rc8) : Rc8 :=
  if s.pair.renewed = some s.rnd.round || !svpRuns s then s
  else
    let s1 := withdrawHandover (modPair (fun q => { q with renewed := some s.rnd.round }) s)
    if s1.pair.token = .unclaimed then
      (if s1.pair.plk.up then modPair (fun q => { q with claimSent := true }) (plkSend 0x01 0 (.lease (.record (leaseRecord .claim 0 s1))) s1) else s1)
    else match windowRecord s1 with
      | none => s1
      | some r => if r.kind = .release then s1 else plkSend 0x01 0 (.lease (.record r)) s1

/-- The holder reloads its timer where a renewal path is usable (R313). -/
def reloadLease (n : Fin 2) (deferred : BitVec 2) (s : Rc8) : Rc8 :=
  if holdsToken s && s.pair.pulse && (s.pair.plk.up || (launching n s && !(s.net[n]).guard.closed && mgmtPorts n deferred s != [])) then loadHolder s else s

/-- The handover point: at MGMT_OPEN of round h − 1 the holder has sent its last record and stops; the new holder starts
(R318, R331). -/
def handoverNow (s : Rc8) : Rc8 :=
  match s.pair.token, s.pair.hand with
  | .handover, some h => if h.round = some (s.rnd.round + 1) then releaseToken 4 s else s
  | _, _ => handoverPoint s

/-- Ports whose link is being measured: up, and with exchanges left (04 R136). -/
def measuredPorts (k : Net) : List (Fin 4) :=
  ((([0, 1] : List (Fin 2)).filter (chanUsed k)).flatMap (usedPorts k)).filter fun p => (k.ports[p]).link && decide ((k.ports[p]).exchanges < 1024)

/-- One exchange of the link delay measurement goes out on each link of a channel that is being measured, in the module's management
slot: at MGMT_OPEN on the module that launches the frame, and on any other once that frame has passed it (04 R131, R136; R170). -/
def linkExchanges (n c : Fin 2) (s : Rc8) : Rc8 :=
  let k := s.net[n]
  if (k.state == .syncing || k.state == .joined || k.state == .master) && !k.guard.closed && svpRuns s then
    ((measuredPorts k).filter fun p => chanOf p == c).foldl (fun s p => modNetPort n p (fun x => { x with exchanges := x.exchanges + 1 })
      { s with out := s.out ++ [.linkLocal n p k.mac s.rnd.round] }) s
  else s

/-- The round of the last MGMT_OPEN, by its own number where a step has renumbered since (05 R165). -/
def lastMgmt (n : Fin 2) (s : Rc8) : Nat := ((s.sch[n]).mgmtLast.map (·.1)).getD (s.rnd.round - 1)

/-- MGMT_OPEN (05 R166): the command window closes, the management window opens, and the frame goes. -/
def mgmtOpen (n : Fin 2) (deferred : BitVec 2) (s : Rc8) : Rc8 :=
  let r := s.rnd.round
  let idle := (s.sch[n]).inForce.isNone
  let s0 := if idle then countSilent n (lastMgmt n s) (countMissing n 4 (lastMgmt n s) s) else countMissing n 1 r s
  let s1 := modSch n (fun k => { k with commandOpen := false, mgmtOpen := some r, mgmtLast := some (r, schedId n s), openLinks := k.openLinks.set 2 (linkMask s.net[n]),
                                        arrived := if idle then [] else k.arrived }) s0
  let s2 := mgmtLaunch n deferred (reloadLease n deferred (leaseOnce s1))
  handoverNow (if launching n s then linkExchanges n 1 (linkExchanges n 0 s2) else s2)

/-! ### Copies of the management frame (05 R168; 10 R312, R324) -/

/-- A lease record as its bytes stand in a frame. -/
def parseRecord (b : List Byte) : Option LeaseRec :=
  let kind := match u8At b 2 with
    | 1 => some LeaseKind.renew
    | 2 => some .release
    | 3 => some .handover
    | 4 => some .committed
    | 5 => some .claim
    | _ => none
  kind.map fun k => { epoch := u16At b 0, kind := k, position := u8At b 3, round := u32At b 4, mark := u32At b 8, key := u8At b 12, mode := u8At b 13, prio := u16At b 14 }

/-- A digest record as its bytes stand in a frame. -/
def parseDigest (b : List Byte) : DigestRec := { chain := u64At b 0, seq := u32At b 8, kind := u8At b 12, own := bitAt (u8At b 13) 0 }

/-- The partner's reply: lease answer, digest, and 16 reserved bytes (R168). -/
def replyBytes (r : LeaseRec) (s : Rc8) : List Byte :=
  (leaseAnswer r s).bytes ++ ((windowDigest s).map DigestRec.bytes).getD (zeros 16) ++ zeros 16

/-- The request of the round before was this module's own (R167, R576). -/
def addressed (n : Fin 2) (s : Rc8) : Bool := (s.sch[n]).answered.target == selfNode s && (s.sch[n]).answered.code != 0

/-- The module's node reply to a request at its own index (R167, R576): its join state, time error, highest complete schedule other than
the one in force, and to STATUS its own neighbours (04 R575). -/
def moduleReply (n : Fin 2) (s : Rc8) : List Byte :=
  let q := (s.sch[n]).answered
  let held := (((s.nv.schedules[n]).map (·.id)).filter fun x => x != schedId n s).max?.getD 0
  le 1 (selfNode s) ++ le 1 (moduleJoin (s.net[n]).state) ++ le 2 q.seq ++ leS 4 (s.net[n]).timeErr ++ le 2 held ++ zeros 2 ++
    padTo 52 (if q.code = 4 then Config.statusBody ((s.net[n]).ringMap.filter fun x => x.node == selfNode s) else [])

/-- The partner's reply to the holder's frame, and its node reply where the round before addressed it (R167, R168): in a ring they go
into the passing frame while the guardian's window is open; in a star each is a frame of its own, padded to 64 bytes, once on the
channel. -/
def partnerReply (n : Fin 2) (c : Fin 2) (firstHere : Bool) (r : LeaseRec) (s : Rc8) : Rc8 :=
  let k := s.net[n]
  if isStandby s && (k.state == .syncing || k.state == .joined || k.state == .master) then
    if k.media.topo = .star then
      (if firstHere then
        launch n (!k.guard.closed) ((launchPorts k).filter fun p => chanOf p == c) 4
          ((selfNode s, padTo 64 (replyBytes r s)) :: if addressed n s then [(selfNode s, moduleReply n s)] else []) s
       else s)
    else if k.guard.closed then s
    else { s with out := s.out ++ [.partnerReply n (replyBytes r s)] ++ if addressed n s then [.nodeReply n (moduleReply n s)] else [] }
  else s

/-- A valid MGMT copy of the partner: its digest is compared once a round, a standby answers, and behind the frame the links being
measured have their exchange (R168, R170, R324). -/
def holderFrame (n c : Fin 2) (first firstHere : Bool) (f : BudanCopy) (s : Rc8) : Rc8 :=
  match parseRecord (slice f.data 0 16) with
  | none => s
  | some r =>
    let s1 := if first && isStandby s then compareDigest 2 s (parseDigest (slice f.data 16 16)) else s
    let s2 := partnerReply n c firstHere r s1
    if firstHere && !holdsToken s then linkExchanges n c s2 else s2

/-- The partner's reply as the holder receives it back (R168): its digest is compared once a round. -/
def replyFrame (first : Bool) (b : List Byte) (s : Rc8) : Rc8 :=
  if first && u8At b 2 != 0 then compareDigest 2 s (parseDigest (slice b 16 16)) else s

/-- A valid MGMT copy (R168, R324). -/
def mgmtCopy (n c : Fin 2) (first firstHere : Bool) (f : BudanCopy) (s : Rc8) : Rc8 :=
  let own := f.src == (s.net[n]).mac
  let star := (s.net[n]).media.topo == .star
  if !svpRuns s then s
  else if own then (if star then s else replyFrame first (slice f.data 96 48) s)
  else if star && decide (62 ≤ copyIdx f) then (if copyIdx f = partnerNode s then replyFrame first f.data s else s)
  else if star && f.data.length == 64 then s
  else holderFrame n c first firstHere f s

/-! ### BUDAN_COPY_RECEIVED (05 R163 and what its copies carry) -/

/-- Windows of a network that a copy has filled, or whose content it has replaced, for the forwarded set (R164; 10 R319). -/
def filledWindows (before after : List (Option Chosen)) : List (Nat × List Byte) :=
  ((List.range after.length).zip (before.zip after)).filterMap fun x => match x.2.1, x.2.2 with
    | none, some c => some (x.1, c.content)
    | some b, some c => if b.content = c.content then none else some (x.1, c.content)
    | _, _ => none

/-- The holder forwards the windows that a copy has filled. -/
def forwardWindows (n : Fin 2) (before : List (Option Chosen)) (s : Rc8) : Rc8 :=
  let l := filledWindows before (s.sch[n]).sel
  if holdsToken s && s.pair.partner.present && !l.isEmpty then plkSend 0x10 0 (.windows (l.map fun x => (n.val, x.1, x.2))) s else s

/-- Nodes that have begun to join since a state. -/
def beganJoining (n : Fin 2) (before s : Rc8) : List Nat :=
  ((s.net[n]).nodes.filter fun x => (x.join == 1 || x.join == 2) &&
    !((before.net[n]).nodes.any fun y => y.idx == x.idx && (y.join == 1 || y.join == 2))).map (·.idx)

/-- A copy was accepted as valid. -/
def accepted (n : Fin 2) (before s : Rc8) : Bool := decide ((before.sch[n]).arrived.length < (s.sch[n]).arrived.length)

/-- The first valid copy of its kind, index and sender in its round. -/
def firstCopy (n : Fin 2) (f : BudanCopy) (s : Rc8) : Bool :=
  !((s.sch[n]).arrived.any fun a => a.kind == f.kind && a.round == f.round && a.idx == copyIdx f && a.own == (f.src == (s.net[n]).mac))

/-- The first such copy on its channel. -/
def firstOnChannel (n c : Fin 2) (f : BudanCopy) (s : Rc8) : Bool :=
  !((s.sch[n]).arrived.any fun a => a.kind == f.kind && a.round == f.round && a.idx == copyIdx f && a.own == (f.src == (s.net[n]).mac) && chanOf a.port == c)

/-- The coupler's table for a schedule whose switch round has just been fixed. -/
def switchSlots (before s : Rc8) : Rc8 :=
  bothNets.foldl (fun s n =>
    match (s.sch[n]).pending, (before.sch[n]).pending.bind (·.round) with
    | some w, none => if w.round.isSome then addWork n (((storedSched n w.id s).map slotWork).getD []) s else s
    | _, _ => s) s

/-- BUDAN_COPY_RECEIVED (R163): the checks and selection, then what the copy tells. -/
def budanCopy (n : Fin 2) (port : Fin 4) (f : BudanCopy) (s : Rc8) : Rc8 :=
  let s1 := copyReceived n port f s
  if accepted n s s1 then
    let own := f.src == (s.net[n]).mac
    let s2 := forwardWindows n (s.sch[n]).sel s1
    let s3 := if f.kind = 1 ∧ own = false ∧ isStandby s = true then modPair (fun q => { q with lastCommand := max q.lastCommand f.round }) s2 else s2
    let s4 := if f.kind = 4 then mgmtCopy n (chanOf port) (firstCopy n f s) (firstOnChannel n (chanOf port) f s) f s3 else s3
    let s4 := if (s4.net[n]).ringMap = (s.net[n]).ringMap then s4 else mapChanged n s4
    let s5 := (beganJoining n s s4).foldl (fun s i => addWork n (joinWork n i s) s) s4
    let s6 := switchSlots s5 (tryFixSwitch s5)
    updateReady s6
  else s1

/-! ### Meanings -/

/-- LINK_DELAY_MEASURED (R136, R575): L of the link and the neighbour's index, with LINK_TOO_LONG above 560 ns, and new
break margins and path delays. -/
def execLinkDelayMeasured (n : Fin 2) (port : Fin 4) (ns : Nat) (nbr : Fin 64) (s : State) : Answer :=
  act (fun s =>
    if ((s.net[n]).ports[port]).link then
      let s1 := ownLink n port ns nbr.val (modNetPort n port (fun x => { x with delay := some ns }) s)
      let s2 := if 560 < ns then raise { src := 32 + 8 * n.val, reason := 0x07, sev := .warning, p0 := port.val, p1 := ns, p2 := 0 } s1 else s1
      mapChanged n s2
    else s) s

/-- PORT_LINK_UP (04 R126, R140, R575). -/
def execPortLinkUp (n : Fin 2) (port : Fin 4) (s : State) : Answer :=
  act (fun s => if configured n s && !((s.net[n]).ports[port]).link then finishAttach (mapChanged n (portUp n port s)) else s) s

/-- PORT_LINK_DOWN (04 R126, R575). -/
def execPortLinkDown (n : Fin 2) (port : Fin 4) (s : State) : Answer :=
  act (fun s => if ((s.net[n]).ports[port]).link then mapChanged n (portDown n port s) else s) s

/-- MGMT_OPEN (R166); bit c of `deferred`: the frame of channel c does not fit its window. -/
def execMgmtOpen (n : Fin 2) (deferred : BitVec 2) (s : State) : Answer := act (atMilestone 12 n.val (mgmtOpen n deferred)) s

/-- BUDAN_COPY_RECEIVED (R163). -/
def execBudanCopyReceived (n : Fin 2) (port : Fin 4) (f : BudanCopy) (s : State) : Answer := act (budanCopy n port f) s

end Sys2Proof.Machine
end

