-- ==== Sys2Proof/Machine/Cycle.lean ====
section
/-! DEFINITION. The round: its boundary, the milestones LATCH, SAMPLE, GATHER_DONE, ENGINE_START, COMMIT and HOST_TICK,
the shadow engine, and a network that is down (01 R32, R33; 02 R48; 03 R94 to R108, R574; 04 R126, R134, R140; 10 R319,
R327). -/

namespace Sys2Proof.Machine

open Sys2Proof

/-! ### The round boundary (03 R91, R112) -/

/-- The guardian's resynchronisation pulse arrives in time: after a fault two good ones reopen its windows (04 R134). -/
def guardResync (k : Net) : Net :=
  if k.guard.closed then
    (if 1 ≤ k.guard.good then { k with guard := { k.guard with closed := false, good := 0 } } else { k with guard := { k.guard with good := k.guard.good + 1 } })
  else k

/-- No port of a network that the topology uses has its link up (04 R140). -/
def noLink (k : Net) : Bool := linkMask k == 0

/-- One of the down conditions of a network in MASTER held, or did not hold, through a round (04 R140). -/
def countDown (i : Fin 3) (holds : Bool) (k : Net) : Net :=
  if k.state = .master then
    let d := k.down.set i (if holds then k.down[i] + 1 else 0)
    { k with down := d, downEpisode := k.downEpisode && (vlist d).any (· != 0) }
  else k

/-- What a network counts at a boundary: its guardian's pulse, rounds without a full valid round, links. -/
def netBoundary (k : Net) : Net := countDown 0 (noLink k) { guardResync k with lossRounds := k.lossRounds + 1 }

/-- A star network that launches from this round on has its couplers' tables sent (05 R166). -/
def firstLaunch (n : Fin 2) (s : Rc8) : Rc8 :=
  match (s.sch[n]).inForce with
  | some c => if (s.net[n]).state = .master ∧ (s.net[n]).launchFrom = s.rnd.round then addWork n (slotWork c) s else s
  | none => s

/-- The banks and windows of the new round (01 R32; 11 R355). -/
def openBanks (s : Rc8) : Rc8 := zeroPermits (bothNets.foldl (fun s n => modSch n (fun k => { k with txClosed := false, rxFrozen := false }) s) s)

/-- No task runs. -/
def noTaskRuns (s : Rc8) : Bool := (vlist s.run.tasks).all fun t => t.st != .running

/-- A sync boundary: the final pass of a resync takes place (10 R327). -/
def syncBoundary (s : Rc8) : Rc8 :=
  if holdsToken s && s.pair.resync.running && s.pair.resync.finalDue && noTaskRuns s then
    plkSend 0x31 0 (.copyDone true) (copyPass (modPair (fun q => { q with resync := { q.resync with finalDue := false } }) s))
  else s

/-- A shadow computation of the round before that never came to its end is an engine fault of the standby (06 R209); with its round
a computation that ended is past too. -/
def shadowFault (s : Rc8) : Rc8 :=
  if isStandby s then
    if s.eng.started && !s.eng.done then
      (let s1 := modEng (fun e => { e with barred := true }) (engineCommit s)
       if s.eng.st = .run then tokenFault s1 else s1)
    else modEng (fun e => { e with started := false, done := false }) s
  else s

/-- The engine's self-test ends: a standby that recovers asks for a resync, until which it stays ineligible (06 R209; of the cause no
rule tells, log 44). -/
def engineRecovers (passed : Bool) (s : Rc8) : Rc8 :=
  let s1 := selfTestDone passed s
  if s.eng.st = .recover ∧ s1.eng.st = .run ∧ isStandby s = true ∧ s.eng.barred = true then
    updateReady (startResync (Config.resyncFaultCause s.rnd.round) s1)
  else s1

/-- What the pair forgets or ends at a boundary. -/
def pairBoundary (s : Rc8) : Rc8 :=
  modPair (fun q => { q with fwdWindows := [], fwdStates := [], fwdDone := false, sourceKnown := false,
                             releasing := q.releasing.filter fun m => decide (s.rnd.round < m + 2) }) s

/-- The round number, the clock and monotonic time of the next round (03 R91; 08 R255); outputs that an activation opened for the round
that ends may close again (11 R370). -/
def nextRound (s : Rc8) : Rc8 :=
  atOffset 0 (modRun (fun r => { r with mono := if r.started then (r.mono + s.rnd.period) % 2 ^ 64 else r.mono })
    (modSaf (fun x => { x with forced := 0 }) { s with rnd := { s.rnd with round := (s.rnd.round + 1) % 2 ^ 64, fired := [] } }))

/-- ROUND_BOUNDARY (03 R112): the operations that wait take effect in this order: commands on both modules, mode changes,
schedule switches, the token; what waited in shadow on a module that has taken it goes on. -/
def roundBoundary (s : Rc8) : Rc8 :=
  let s1 := pairBoundary (nextRound (shadowFault s))
  let r := s1.rnd.round
  let s2 := applyModes r (applyDue r s1)
  let s3 := switchBoundary 1 (switchBoundary 0 s2)
  let s4 := bothNets.foldl (fun s n => reflectBoundary n s) { s3 with net := vmap netBoundary s3.net }
  let s5 := smlBoundary (openBanks (modFfe (fun x => { x with missed := x.missed + 1 }) (countBare s4)))
  let s6 := shadowOn (fixHandover (handoverBoundary (takeAtBoundary s5)))
  updateReady (syncBoundary (bothNets.foldl (fun s n => firstLaunch n s) s6))

/-! ### LATCH, SAMPLE and HOST_TICK -/

/-- LATCH (15 R477; 11 R361). -/
def latchRow (s : Rc8) : Rc8 := latchSafety (latchField s)

/-- SAMPLE (15 R477). -/
def sampleRow (x : FieldSample) (s : Rc8) : Rc8 := motionSample (sampleField x s)

/-- HOST_TICK (02 R48): the round is written, then the message sent. -/
def hostTick (p : Fin 4) (s : Rc8) : Rc8 := sendVec p 3 (modPort p (fun h => { h with tickRound := s.rnd.round }) s)

/-! ### What the holder forwards of a round (10 R319, R320) -/

/-- Window states and feedback states as the holder forwards them. -/
def windowStates (s : Rc8) : List (Nat × Nat × Nat × Nat) :=
  bothNets.flatMap fun n => ((List.range (s.sch[n]).wins.length).zip (s.sch[n]).wins).map fun x => (n.val, x.1, x.2.st.code, x.2.age)

/-- The setpoints published last before now, and their generation: a publication at this very instant counts for the next
round (03 R107). -/
def setBefore (s : Rc8) : List Byte × Nat :=
  if s.run.motionAt.any fun t => s.clk.refosc ≤ t then (s.run.motionPrev, (s.run.setGen + 2 ^ 64 - 1) % 2 ^ 64) else (s.run.motionOut, s.run.setGen)

/-- The later GATHER_DONE of the schedules in force, ns in the round. -/
def laterGather (s : Rc8) : Option Nat := (bothNets.filterMap fun n => ((s.sch[n]).inForce).map (·.gatherDone)).max?

/-- ENGINE_START comes more than 4 µs after the later GATHER_DONE, by when the last ROUND_INPUTS message is to be sent: its setpoint
generation is then the one in force at GATHER_DONE (DESIGN CHOICE, log 119). -/
def lateEngine (s : Rc8) : Bool :=
  match laterGather s, anySched s with
  | some o, some c => decide (o + 4000 < c.engineStart)
  | _, _ => false

/-- A network's GATHER_DONE is the last of the round (03 R98). -/
def lastGather (n : Fin 2) (s : Rc8) : Bool :=
  match (s.sch[n]).inForce with
  | none => false
  | some c => bothNets.all fun m => m == n || (match (s.sch[m]).inForce with
    | none => true
    | some d => decide (d.gatherDone < c.gatherDone) || (d.gatherDone == c.gatherDone && decide (m < n)))

/-- The last ROUND_INPUTS message of the round (10 R319; 11 R353). -/
def forwardInputs (s : Rc8) : Rc8 :=
  if holdsToken s && s.pair.partner.present then
    plkSend 0x11 2 (.roundInputs (setBefore s).2 (windowStates s) ((feedbackAxes s).map fun a => (feedbackOf a s).1.st.code) (fieldForward s) (latchedGroups s).toNat) s
  else s

/-! ### GATHER_DONE (01 R32; 03 R108; 05 R165, R171) -/

/-- Frames of a kind came in this round. -/
def cameRound (n : Fin 2) (kind : Nat) (s : Rc8) : Bool := (s.sch[n]).arrived.any fun a => a.kind == kind && a.round == s.rnd.round

/-- What a network without returning gather copies, or without SLOT frames, counts (04 R140). -/
def gatherDown (n : Fin 2) (s : Rc8) : Rc8 :=
  let star := (s.net[n]).media.topo == .star
  modNet n (fun k => countDown 2 (star && !cameRound n 3 s) (countDown 1 (!star && !cameRound n 2 s) k)) s

/-- GATHER_DONE: the receive bank freezes, missing and silent copies are counted, windows advance and the input images
are published with what this network's windows brought (03 R106, R108); where ENGINE_START comes too late for it, the holder forwards
its inputs now (10 R319). -/
def gatherDone (n : Fin 2) (s : Rc8) : Rc8 :=
  let r := s.rnd.round
  let kind := if (s.net[n]).media.topo = .star then 3 else 2
  let m := lastMgmt n s
  let s1 := countSilent n m (countMissing n 4 m (countMissing n kind r s))
  let s2 := gatherDown n (modSch n (fun k => { k with rxFrozen := true, gatherOpen := false, mgmtOpen := none, arrived := k.arrived.filter fun a => a.round == r }) s1)
  let s3 := motionGather (stationGather [n] (nodeChannels n (advanceWindows n r s2)))
  if lateEngine s && lastGather n s then forwardInputs s3 else s3

/-! ### The engine of the round (06 R188, R209; 10 R319, R323) -/

/-- The gap from COMMIT to ENGINE_START ends, and the operations due at ENGINE_START act (06 R212; 07 R231, R237). -/
def engineDue (s : Rc8) : Rc8 := applyEngine (modEng (fun e => { e with gap := none }) s)

/-- ENGINE_START (06 R188; 15 R477): on the standby the shadow engine starts later. -/
def engineRow (s : Rc8) : Rc8 :=
  if isStandby s then s
  else
    let due := engineDue s
    let set := setBefore due
    let s0 := readOutputs set.1 due
    engineDigest (engineStart set.1 set.2 (if lateEngine s then s0 else forwardInputs s0))

/-- Window states by their codes (05 R185). -/
def WinSt.ofCode (c : Nat) : WinSt :=
  (([.valid, .stale, .lost, .returning, .new, .newReturning] : List WinSt).find? fun x => x.code == c).getD .new

/-- The holder's windows in the place of the standby's own (10 R319). -/
def forwardedWindows (n : Fin 2) (s : Rc8) : List WinState :=
  ((List.range (s.sch[n]).wins.length).zip (s.sch[n]).wins).map fun x =>
    let y := match s.pair.fwdWindows.find? fun w => w.1 == n.val && w.2.1 == x.1 with
      | some w => { x.2 with content := w.2.2 }
      | none => x.2
    match s.pair.fwdStates.find? fun w => w.1 == n.val && w.2.1 == x.1 with
    | some w => { y with st := WinSt.ofCode w.2.2.1, age := w.2.2.2 }
    | none => y

/-- The setpoint set of the generation the holder used, of the newest and those kept before it (10 R320). -/
def shadowSet (s : Rc8) : List Byte × Nat :=
  match ((s.run.setGen, s.run.motionOut) :: s.run.setPast).find? fun x => x.1 == s.pair.fwdSetpoint with
  | some x => (x.2, x.1)
  | none => setBefore s

/-- The round is computed on the standby's own inputs: counted and raised (10 R319, R343). -/
def ownInputs (s : Rc8) : Rc8 :=
  raiseLimited (some 1) { src := 61, reason := 0x07, sev := .warning, p0 := 0, p1 := 0, p2 := lo32 s.rnd.round }
    (modPair (fun q => { q with sourceKnown := true, ownRound := true, ownRounds := inc32 q.ownRounds }) s)

/-- The shadow computation of a round: on the forwarded set where it is complete, with the standby's own window states
kept aside, else on its own inputs (10 R319, R321). -/
def shadowEngine (s : Rc8) : Rc8 :=
  if s.pair.fwdDone then
    let own := s.sch
    let s1 := bothNets.foldl (fun s n => modSch n (fun k => { k with wins := forwardedWindows n s }) s) (modPair (fun q => { q with sourceKnown := true, ownRound := false }) s)
    let set := shadowSet s1
    let s2 := motionGather (stationGather bothNets (readOutputs set.1 s1))
    let s3 := engineDigest (engineStart set.1 set.2 s2)
    bothNets.foldl (fun s n => modSch n (fun k => { k with wins := (own[n]).wins }) s) s3
  else
    let set := setBefore s
    let s2 := readOutputs set.1 (ownInputs s)
    engineDigest (engineStart set.1 set.2 s2)

/-- SHADOW_ENGINE_START (01 R33): 5 µs after the later GATHER_DONE, on a standby that shadows; with it is settled on whose inputs the
round is computed, and what waited for that goes on (10 R319, R321). -/
def shadowRow (s : Rc8) : Rc8 :=
  match laterGather s with
  | none => s
  | some o =>
    if isStandby s then
      let s1 := engineDue (atOffset (o + 5000) s)
      if s1.pair.synced then shadowOn (shadowEngine s1) else s1
    else s

/-- The axis status section is published (02 R49). -/
def publishAxes (s : Rc8) : Rc8 := bar2Publish 0 s.rnd.round s.clk.ptu (axisStatusSection s) s

/-- COMMIT of this round has passed: the gap after it is open (07 R237). -/
def commitPassed (s : Rc8) : Bool := s.eng.gap == some (s.rnd.round + 1)

/-- ENGINE_DONE (06 R189; 10 R321): on the standby the shadow results are kept, and stand in its images. Results that come
after COMMIT complete the publication of the axis status records, which COMMIT left to them (01 R33; 02 R49); a shadow snapshot that
waited for them is taken (10 R321). -/
def engineDoneRow (s : Rc8) : Rc8 :=
  let s1 := engineDone s
  if isStandby s && s.eng.started && !s.eng.done then
    let s2 := motionCommit (modEng (fun e => { e with lastRecords := e.records, repeating := false }) s1)
    shadowOn (if commitPassed s then publishAxes s2 else s2)
  else s1

/-! ### COMMIT (01 R32; 02 R49; 11 R355, R361) -/

/-- The transmit banks freeze. -/
def freezeTx (s : Rc8) : Rc8 := bothNets.foldl (fun s n => modSch n (fun k => { k with txFrozen := k.tx, txClosed := true }) s) s

/-- The gap in which tables move opens (07 R237). -/
def openGap (s : Rc8) : Rc8 := modEng (fun e => { e with gap := some (s.rnd.round + 1), moved := 0 }) s

/-- COMMIT (03 R96): engine records, station outputs and permits are in the bank, which freezes; the axis status records
are published, on a standby whose shadow computation still runs with its results, by COMMIT + 20 µs (02 R49). The standby's bank
freezes too, and is never launched. -/
def commitRow (s : Rc8) : Rc8 :=
  let s := openGap s
  if isStandby s then
    let s1 := commitSafety (freezeTx (commitPermits (stationCommit (handStates s))))
    if s.eng.started && !s.eng.done then s1 else publishAxes s1
  else
    let s1 := engineCommit s
    let s2 := motionCommit (freezeTx (commitPermits (stationCommit s1)))
    let s3 := commitSafety (publishAxes s2)
    if s.eng.st = .run ∧ s1.eng.st ≠ .run then tokenFault s3 else s3

/-! ### A network that is down (04 R140; 10 R318) -/

/-- Cause of NETWORK_DOWN: the first condition that has lasted 3 rounds. -/
def downCause (k : Net) : Option Nat :=
  if 3 ≤ k.down[0] then some 1 else if 3 ≤ k.down[1] then some 2 else if 3 ≤ k.down[2] then some 3 else none

/-- NETWORK_DOWN: raised once in an episode; with every configured network down it is a Fault of R318. -/
def networkDown (n : Fin 2) (s : Rc8) : Rc8 :=
  let k := s.net[n]
  match downCause k with
  | none => s
  | some c =>
    if k.state = .master ∧ k.downEpisode = false then
      let s1 := raise { src := 33 + 8 * n.val, reason := 0x05, sev := .critical, p0 := c, p1 := lo32 s.rnd.round, p2 := 0 }
        (modNet n (fun k => { k with downEpisode := true }) s)
      if (nets s1).all (fun m => (s1.net[m]).downEpisode) then tokenFault s1 else s1
    else s

/-! ### Meanings -/

/-- ROUND_BOUNDARY (03 R90, R112). -/
def execRoundBoundary (s : State) : Answer := act roundBoundary s

/-- LATCH (15 R477). -/
def execLatch (s : State) : Answer := act (atMilestone 1 0 latchRow) s

/-- SAMPLE (15 R477). -/
def execSamplePoint (x : FieldSample) (s : State) : Answer := act (atMilestone 2 0 (sampleRow x)) s

/-- HOST_TICK (02 R48). -/
def execHostTick (p : Fin 4) (s : State) : Answer := act (atNext 9 p.val fun _ => hostTick p) s

/-- GATHER_DONE (01 R32). -/
def execGatherDone (n : Fin 2) (s : State) : Answer := act (atMilestone 3 n.val (gatherDone n)) s

/-- ENGINE_START (06 R188). -/
def execEngineStart (s : State) : Answer := act (atMilestone 4 0 engineRow) s

/-- SHADOW_ENGINE_START (01 R33). -/
def execShadowEngineStart (s : State) : Answer := act shadowRow s

/-- ENGINE_DONE (06 R189). -/
def execEngineDone (s : State) : Answer := act engineDoneRow s

/-- ENGINE_SELF_TEST_DONE (06 R209). -/
def execEngineSelfTestDone (passed : Bool) (s : State) : Answer := act (engineRecovers passed) s

/-- COMMIT (01 R32). -/
def execCommitPoint (s : State) : Answer := act (atMilestone 5 0 commitRow) s

/-- NETWORK_DOWN (04 R140). -/
def execNetworkDown (n : Fin 2) (s : State) : Answer := act (networkDown n) s

end Sys2Proof.Machine
end

