-- ==== Sys2Proof/Machine/Areas.lean ====
section
/-! DEFINITION. The memory areas a region lies in (12 R394, R397). -/

namespace Sys2Proof.Machine

open Sys2Proof

/-- Areas a region lies in (*Tables: Coverage of the memory code, Reactions to an uncorrectable error*): DRAM and the L2 caches, CEN
memories, MRAM, SVP SRAM; what the level-1 caches hold is of DRAM. -/
def regionIn (area : Nat) (r : MemRegion) : Bool :=
  match r with
  | .program => decide (5 ≤ area ∧ area ≤ 8)
  | .bar2 => decide (5 ≤ area ∧ area ≤ 8)
  | .clean => decide (6 ≤ area ∧ area ≤ 8)
  | .l1 _ => area == 5
  | .table _ => area == 9
  | .engine _ => area == 10
  | .journal _ => area == 11
  | .retained _ => area == 11
  | .snapshot _ _ => area == 11
  | .object _ _ => area == 11
  | .svp => area == 12

end Sys2Proof.Machine
end

