-- ==== Sys2Proof/Machine/Integrity.lean ====
section
/-! DEFINITION. Lockstep mismatch and restore, the memory code and its scrubbers, the debug port, debug sessions and the
debug commands (12 R384 to R398, R414 to R421). -/

namespace Sys2Proof.Machine

open Sys2Proof

/-! ### Lockstep (12 R385, R390) -/

/-- LOCKSTEP_MISMATCH: pair, round, and 1 where it was recorded before the last reset (R421). -/
def mismatchEvent (k round before : Nat) : Ev := { src := 85, reason := 0x01, sev := .critical, p0 := k, p1 := lo32 round, p2 := before }

/-- The reaction to a mismatch of AP0 or AP1 (*Table: Reactions to a lockstep mismatch*): without a ready partner the
module also stops with a program fault. -/
def pairHalted (s : Rc8) : Rc8 :=
  if isStandby s ∨ (holdsToken s ∧ partnerReady s = true) then updateReady (tokenFault s) else programFault (tokenFault s)

/-- An SVP mismatch: AP0 and AP1 are halted with it, and PD0 records it. -/
def svpMismatch (s : Rc8) : Rc8 :=
  svpStops (modLs 1 (fun x => { x with st := .halted }) (modLs 0 (fun x => { x with st := .halted })
    { s with nv := { s.nv with pd0Mismatch := some s.rnd.round } }))

/-- LOCKSTEP_MISMATCH: only a pair whose comparator runs can mismatch. -/
def mismatch (k : Fin 3) (s : Rc8) : Rc8 :=
  if (s.itg.pairs[k]).st ≠ .lockstep then s
  else if k = 2 then svpMismatch s
  else pairHalted (raise (mismatchEvent k.val s.rnd.round 0) (modLs k (fun x => { x with st := .halted }) s))

/-- No task of a lockstep pair runs (R390). -/
def pairIdle (k : Fin 3) (s : Rc8) : Bool := allTasks.all fun t => (s.run.tasks[t]).st != .running || taskPair t s != k

/-- The processor channel's work of the round, from GATHER_DONE to COMMIT, is going on (R390; 11 R351). -/
def checksRun (s : Rc8) : Bool := bothNets.any fun n => (s.sch[n]).rxFrozen && !(s.sch[n]).txClosed

/-- Offsets of a round that fall within the 25 µs from now, in this round or the next (R390). -/
def within25 (s : Rc8) (round off : Nat) : Bool :=
  let t := round * s.rnd.period * fracPerNs + off * fracPerNs
  decide (s.clk.ptu ≤ t ∧ t < s.clk.ptu + 25000 * fracPerNs)

/-- A release of a task of the pair falls within the 25 µs from now (R390). -/
def releaseNear (k : Fin 3) (s : Rc8) : Bool :=
  (milestoneTable s).any fun e => e.kind == 8 && decide (e.param < 8) && taskPair ⟨e.param % 8, Nat.mod_lt _ (by decide)⟩ s == k &&
    ([s.rnd.round, s.rnd.round + 1].any fun n => e.fires n && within25 s n e.off)

/-- The processor channel's work begins within the 25 µs from now (R390; 11 R351). -/
def checksNear (s : Rc8) : Bool :=
  bothNets.any fun n => match (s.sch[n]).inForce with
    | none => false
    | some c => [s.rnd.round, s.rnd.round + 1].any fun r => within25 s r c.gatherDone

/-- LOCKSTEP_RESTORED: the restore point after a suspension has ended, at which no task of the pair runs nor is released and, for
AP0, the processor channel does not work. -/
def restored (k : Fin 2) (s : Rc8) : Rc8 :=
  let i : Fin 3 := k.castLE (by decide)
  let x := s.itg.pairs[i]
  if x.st = .suspended ∧ x.endedAt.isSome = true ∧ pairIdle i s = true ∧ releaseNear i s = false ∧ ¬(k = 0 ∧ (checksRun s || checksNear s) = true) then
    updateReady (raise { src := 85, reason := 0x02, sev := .notice, p0 := k.val, p1 := s.rnd.round - x.since, p2 := 0 }
      (modItg (fun y => { y with restores := inc32 y.restores }) (modLs i (fun y => { y with st := .lockstep, endedAt := none }) s)))
  else s

/-- LOCKSTEP_RESTORE_FAILED: 1 s without a restore point. -/
def lockstepRestoreFailed (k : Fin 2) (s : Rc8) : Rc8 :=
  let i : Fin 3 := k.castLE (by decide)
  match (s.itg.pairs[i]).endedAt with
  | none => s
  | some t =>
    let s1 := atRefosc (t + 1000000000) s
    raise { src := 85, reason := 0x03, sev := .error, p0 := k.val, p1 := lo32 s.rnd.round, p2 := 0 }
      (modLs i (fun y => { y with endedAt := none, stuck := true }) s1)

/-! ### The debug port (12 R387 to R389) -/

/-- The debug port's answer. -/
def portAnswer (ok : Bool) (s : Rc8) : Rc8 := { s with out := s.out ++ [.debugStatus ok] }

/-- Scope of the open session, 0 where none is. -/
def sessScope (s : Rc8) : Nat := (s.itg.sess.map (·.scope)).getD 0

/-- The core of a pair that a request names: the checker only where it runs as a core of its own (R386). -/
def namedCore (k : Fin 3) (checker : Bool) (s : Rc8) : Nat := 2 * k.val + b2n (checker && (s.itg.pairs[k]).st == .split)

/-- A core debug request that is accepted acts on its core (R388, R389). -/
def coreDebug (k : Fin 3) (op : CoreDebug) (s : Rc8) : Rc8 :=
  let core := fun b => namedCore k b s
  match op with
  | .halt b => modItg (fun x => { x with portHalts := x.portHalts ||| (1#4 <<< core b) }) s
  | .resume b => modItg (fun x => { x with portHalts := x.portHalts &&& ~~~(1#4 <<< core b) }) s
  | .registers => s
  | .setBreak b a => modItg (fun x => { x with portBreaks := vput x.portBreaks (core b) fun l => if l.contains a then l else l ++ [a] }) s
  | .clearBreak b a => modItg (fun x => { x with portBreaks := vput x.portBreaks (core b) fun l => l.filter (· != a) }) s

/-- DEBUG_PORT_REQUEST: a locked port takes the passive instructions alone; core debug is for a pair in scope, in STOP
and LAYBY; memory accesses go through the ACU in a session with a core scope, and one that it refuses never completes (R403). -/
def debugRequest (r : DebugRequest) (s : Rc8) : Rc8 :=
  if dmaStopped 15 s then s
  else match r with
    | .passive => portAnswer true s
    | .scan => portAnswer (bitAt (sessScope s) 2) s
    | .core k op =>
      if scopeCovers (sessScope s) k && s.run.mode != .run then portAnswer true (coreDebug k op (suspend k 1 s)) else portAnswer false s
    | .access t =>
      if sessScope s % 4 = 0 then portAnswer false s
      else
        let x : Transaction := { t with master := 15 }
        accessCheck x (if accessCause x s = 0 then portAnswer true s else s)

/-- DEBUG_SESSION_EXPIRY (R388). -/
def sessionExpiry (s : Rc8) : Rc8 :=
  match s.itg.sess with
  | none => s
  | some x => closeSession 2 0xFF none (atRefosc x.endAt s)

/-! ### Memory code (12 R393 to R397) -/

/-- Bits set of the first so many. -/
def onesIn (x : Nat → Bool) (n : Nat) : Nat := (List.range n).countP x

/-- What the code makes of a word of 64 data and 16 check bits that is read: `err` marks the stored bits that are wrong, `fault` the bits
[31:3] of the address that a fault changes. One or two wrong bits are corrected, three are detected; an address fault in one or two bits
is detected and never corrected (R393). -/
def codeRead (err : BitVec 80) (fault : BitVec 29) : CodeResult :=
  match onesIn fault.getLsbD 29 with
  | 0 => (match onesIn err.getLsbD 80 with
    | 0 => .clean
    | 1 => .corrected false
    | 2 => .corrected true
    | 3 => .data
    | _ => Config.codeBeyond err fault)
  | 1 => .address
  | 2 => .address
  | _ => Config.codeBeyond err fault

/-- Wrong bits in a DRAM device: device d below 4 holds data bits [16d + 15:16d], device 4 the check bits (R394). -/
def deviceBits (err : BitVec 80) (d : Fin 5) : Nat := onesIn (fun i => err.getLsbD (16 * d.val + i)) 16

/-- The word is uncorrectable since an earlier read (R397). -/
def isPoisoned (area addr : Nat) (s : Rc8) : Bool := s.itg.poisoned.any fun x => x.1 == area && x.2.2 == addr

/-- 24 h in ns. -/
def dayNs : Nat := 86400000000000

/-- DEVICE_ERRORS_HIGH where a device passes 100 corrected errors within 24 h. -/
def deviceError (d : Fin 5) (s : Rc8) : Rc8 :=
  let old := (s.itg.device[d]).filter fun t => decide (s.clk.refosc < t + dayNs)
  let s1 := modItg (fun x => { x with device := x.device.set d (old ++ [s.clk.refosc]) }) s
  if old.length = 100 then raise { src := 84, reason := 0x03, sev := .warning, p0 := d.val, p1 := 101, p2 := 0 } s1 else s1

/-- A corrected error is counted in its area, as single or double. -/
def countCorrected (area : Fin 13) (double : Bool) (s : Rc8) : Rc8 :=
  modItg (fun x => { x with areas := vmod x.areas area fun y =>
    if double then { y with double := inc32 y.double } else { y with single := inc32 y.single } }) s

/-- A corrected error of an area. -/
def areaCorrected (area : Fin 13) (addr : Nat) (double : Bool) (s : Rc8) : Rc8 :=
  raiseLimited none { src := 84, reason := 0x01, sev := .info, p0 := area.val, p1 := addr, p2 := if double then 2 else 1 } (countCorrected area double s)

/-- The DRAM devices, each with its area code. -/
def dramDevices : List (Fin 5) := [0, 1, 2, 3, 4]

/-- MEMORY_CORRECTED: in DRAM each device that held a corrected bit counts it, as double where it held both (R394, R395). A word that is
uncorrectable is not corrected until it is overwritten (R397). -/
def memoryCorrected (area : Fin 13) (addr : Nat) (err : BitVec 80) (s : Rc8) : Rc8 :=
  match codeRead err 0 with
  | .corrected double =>
    if isPoisoned area.val addr s then s
    else if area = 5 then
      dramDevices.foldl (fun s d => if deviceBits err d = 0 then s else deviceError d (areaCorrected (d.castLE (by decide)) addr (deviceBits err d == 2) s)) s
    else areaCorrected area addr double s
  | _ => s

/-- An axis whose memory failed enters FAULT with cause MEMORY when the CEN computes it next (06 R207). -/
def axisMemory (a : Fin 256) (s : Rc8) : Rc8 := putAxis a.val { axisOf a.val s with memError := true } s

/-- A snapshot slot becomes invalid. -/
def loseSnapshot (a : Fin 256) (slot : Fin 2) (s : Rc8) : Rc8 :=
  { s with nv := { s.nv with snaps := s.nv.snaps.map fun x => if x.1 = a.val then (x.1, x.2.set slot none) else x } }

/-- A word of a BAR2 buffer is marked uncorrectable, until a publication overwrites the buffer. -/
def poisonBar2 (addr : Nat) (s : Rc8) : Rc8 :=
  if 0x7C000000 ≤ addr ∧ addr < 0x80000000 then
    let o := addr % 0x1000000
    let mark := fun (x : Bar2Sec) => { x with bufs := vput x.bufs (o % 0x40000 / 0x10000 - 1) fun b => { b with poison := b.poison ++ [addr] } }
    if 0x40000 ≤ o ∧ 0x10000 ≤ o % 0x40000 then { s with bar2 := vput s.bar2 (o / 0x40000 - 1) mark } else s
  else s

/-- A copy of a stored object becomes invalid. Of the safety sets State holds which copies are good; of any other object the module goes on
with the partner copy, and its content stays (11 R367; 17 R529). -/
def objectBad (o : StoredObj) (copy : Fin 2) (s : Rc8) : Rc8 :=
  match o with
  | .safeActive => copyBad (copy.castLE (by decide)) s
  | .safePending => copyBad (if copy = 0 then 2 else 3) s
  | .other => s

/-- The axis whose memory a region is. -/
def regionAxis (r : MemRegion) : Nat :=
  match r with
  | .table a => a.val
  | .engine a => a.val
  | _ => 0

/-- What a read finds: in a level-1 cache parity tells an odd number of wrong bits, and a clean line is refetched; in every other memory
the code decides, and a word that was uncorrectable is so still (R393, R394, R397). -/
def readResult (area addr : Nat) (err : BitVec 80) (fault : BitVec 29) (r : MemRegion) (s : Rc8) : CodeResult :=
  match r with
  | .l1 dirty => if dirty && onesIn err.getLsbD 80 % 2 == 1 then .data else .clean
  | _ => match codeRead err fault with
    | .address => .address
    | c => if isPoisoned area addr s then .data else c

/-- Reactions by region (*Table: Reactions to an uncorrectable error*). A core that loads the word takes a precise exception, and what
the module then does is the region's reaction. -/
def regionFault (area : Fin 13) (addr : Nat) (r : MemRegion) (s : Rc8) : Rc8 :=
  match r with
  | .program => pairFault s
  | .bar2 => poisonBar2 addr s
  | .clean => countCorrected area (Config.refetchedDouble area.val addr) s
  | .table a => tableError a.val (addr % 0x4000 / 4) (axisMemory a s)
  | .engine a => axisMemory a s
  | .journal i => { s with nv := { s.nv with journal := lmod s.nv.journal i fun r => { r with crc := (recCrc r + 1) % 2 ^ 32 } } }
  | .retained commit => if commit then commitLost s else modRun (fun x => { x with retainBad := true }) s
  | .snapshot a k => loseSnapshot a k s
  | .object o k => objectBad o k s
  | .l1 _ => if 0x7C000000 ≤ addr ∧ addr < 0x80000000 then poisonBar2 addr s else pairFault s
  | .svp => svpMismatch s

/-- The word stays uncorrectable until it is overwritten; of MRAM what is stored tells it (R397). -/
def poison (area : Fin 13) (addr : Nat) (r : MemRegion) (s : Rc8) : Rc8 :=
  if area.val = 11 ∨ r = .clean ∨ isPoisoned area.val addr s = true then s
  else modItg (fun x => { x with poisoned := x.poisoned ++ [(area.val, regionAxis r, addr)] }) s

/-- An uncorrectable word is read, of class data or ADDRESS. -/
def uncorrectable (area : Fin 13) (addr : Nat) (address : Bool) (r : MemRegion) (s : Rc8) : Rc8 :=
  regionFault area addr r
    (raise { src := 84, reason := 0x02, sev := .critical, p0 := area.val, p1 := addr, p2 := if address then 2 else 1 }
      (if r = .clean then s
       else poison area addr r
         (modItg (fun x => { x with areas := vmod x.areas area fun y => { y with uncorrectable := inc32 y.uncorrectable, lastAddr := addr } }) s)))

/-- MEMORY_UNCORRECTABLE: a word is read and the code finds it uncorrectable; what it does not find so has no effect here. -/
def memoryUncorrectable (area : Fin 13) (addr : Nat) (err : BitVec 80) (fault : BitVec 29) (r : MemRegion) (s : Rc8) : Rc8 :=
  match readResult area.val addr err fault r s with
  | .data => uncorrectable area addr false r s
  | .address => uncorrectable area addr true r s
  | _ => s

/-- Lines of 64 bytes in the DRAM (01 R25). -/
def dramLines : Nat := 33554432

/-- SCRUB: the DRAM scrubber goes one line on; a pass ends where it wraps (R396, R414). -/
def scrub (area : Fin 13) (s : Rc8) : Rc8 :=
  if area.val ≤ 5 then
    modItg (fun x => if x.scrubAt + 1 = dramLines then { x with scrubAt := 0, scrubs := inc32 x.scrubs } else { x with scrubAt := x.scrubAt + 1 }) s
  else s

/-- An area's 16 bytes (R414). -/
def MemArea.bytes (x : MemArea) : List Byte := le 4 x.single ++ le 4 x.double ++ le 4 x.uncorrectable ++ le 4 x.lastAddr

/-- MEMORY_STATUS (R414). -/
def memoryStatusResponse (_ : Exec) (s : Rc8) : List Byte :=
  le 4 s.itg.scrubs ++ le 4 (s.itg.scrubAt / 16384) ++ zeros 8 ++ (vlist s.itg.areas).flatMap MemArea.bytes

/-! ### Debug sessions (12 R388, R391, R415) -/

/-- DEBUG_UNLOCK, step 5. -/
def checkUnlock (e : Exec) (_ : Rc8) : Option Status :=
  let scope := u8At e.req 0
  let min := u16At e.req 2
  if scope = 0 ∨ 7 < scope ∨ min < 1 ∨ 480 < min then some .badField else none

/-- DEBUG_UNLOCK, step 6. -/
def checkUnlockState (e : Exec) (s : Rc8) : Option Status :=
  firstFail [(s.run.key == .run, .wrongKeyPosition), (bitAt (u8At e.req 0) 2 && holdsToken s && s.pair.partner.present, .wrongState)]

/-- Every hold output of the module is released, which by-passes it on its networks (04 R140). -/
def holdsOff (by_ : Nat) (s : Rc8) : Rc8 :=
  allLoops.foldl (fun s c => setLoopHold c false s)
    (bothNets.foldl (fun s n => netEvent n .release (setSeq n none (setHold n 1 false 2 by_ (setHold n 0 false 2 by_ s)))) s)

/-- The TEST state (R391): the pulse stops, and a standby takes the token no more; holds are released, outputs open, and the module
stops. -/
def enterTest (port : Nat) (s : Rc8) : Rc8 :=
  if s.itg.test then s
  else
    let s1 := raise { src := 125, reason := 0x02, sev := .critical, p0 := port, p1 := lo32 s.rnd.round, p2 := 0 }
      (modPair (fun q => { q with pulse := false, committed := none, takeAt := none }) (modItg (fun x => { x with test := true }) s))
    let s2 := updateReady (openSafety (pinsOff (holdsOff port s1)))
    if s2.run.mode = .stop then s2 else enterStop 2 s.rnd.round s2

/-- DEBUG_UNLOCK's own row (R415). -/
def debugUnlock (e : Exec) (s : Rc8) : Rc8 :=
  if (s.itg.sess.map fun x => x.port != e.port).getD false || ((comingSession s).map fun x => x.port != e.port).getD false then
    endWith e.id .busy s
  else
    let min := u16At e.req 2
    waitSession (some { port := e.port, scope := u8At e.req 0, endAt := s.clk.refosc + min * 60000000000 }) min e.port.val (some e.id) (waitExec e.id s)

/-- The rules of a session are complete: it opens, with DEBUG_UNLOCKED and the TEST state where its scope has the boundary
scan, or it ends (R388, R391, R409, R415). -/
def sessionNow (w : SessWait) (s : Rc8) : Rc8 :=
  endOpt w.exec .done
    (match w.sess with
     | none => endDebug w.arg w.by_ s
     | some x =>
       let s1 := raise { src := 124, reason := 0x01, sev := .warning, p0 := x.scope, p1 := w.arg, p2 := w.by_ } (modItg (fun y => { y with sess := some x }) s)
       if bitAt x.scope 2 then enterTest w.by_ s1 else s1)

/-- What waits for rule epochs that are complete acts: debug sessions in their order, and the releases under new code (R409). -/
def rulesMet (s : Rc8) : Rc8 :=
  let due := s.itg.sessWaits.takeWhile fun w => ruleDone w.epoch s
  let s1 := due.foldl (fun s w => sessionNow w s) (modItg (fun x => { x with sessWaits := x.sessWaits.dropWhile fun w => ruleDone w.epoch s }) s)
  if codeWaits s1 then s1
  else s1.run.heldReleases.foldl (fun s x => decideRelease x.1 x.2.1 x.2.2 s) (modRun (fun r => { r with heldReleases := [] }) s1)

/-- RULE_EPOCH_COMPLETE: a report for an epoch includes every older one. -/
def ruleComplete (epoch : Nat) (s : Rc8) : Rc8 :=
  if s.itg.waiting.any fun x => x.1 == epoch then
    rulesMet (modItg (fun i => { i with complete := epoch, waiting := (i.waiting.dropWhile fun x => x.1 != epoch).drop 1 }) s)
  else s

/-- DEBUG_LOCK, step 6. -/
def checkLock (e : Exec) (s : Rc8) : Option Status := if ((comingSession s).map fun x => x.port == e.port).getD false then none else some .wrongState

/-- DEBUG_LOCK's own row (R415): a session that has ended since the checks ends no more. -/
def debugLock (e : Exec) (s : Rc8) : Rc8 :=
  if (checkLock e s).isSome then endWith e.id .wrongState s else closeSession 1 e.port.val (some e.id) (waitExec e.id s)

/-- State codes of a lockstep pair (R416). -/
def LsSt.code : LsSt → Nat
  | .lockstep => 0 | .split => 1 | .suspended => 2 | .halted => 3

/-- LOCKSTEP_STATUS (R416). -/
def lockstepStatusResponse (_ : Exec) (s : Rc8) : List Byte :=
  (vlist s.itg.pairs).flatMap (fun x => le 1 x.st.code) ++ le 1 s.nv.split.toNat ++ le 1 (sessScope s) ++ zeros 1 ++
  le 2 ((s.itg.sess.map fun x => (x.endAt - s.clk.refosc) / 60000000000).getD 0) ++ le 4 s.itg.suspensions ++ le 4 s.itg.restores ++ zeros 16

/-- SPLIT_SET, step 5. -/
def checkSplit (e : Exec) (_ : Rc8) : Option Status := if 3 < u8At e.req 0 then some .badField else none

/-- SPLIT_SET's own row (R417). -/
def splitSet (stored : Bool) (e : Exec) (s : Rc8) : Rc8 :=
  if !stored then endWith e.id .integrityFail s
  else
    let mask := u8At e.req 0
    let lacks := bitAt mask 0 && !((activeSet s).map setSingle).getD false
    endExec e.id .done (le 1 (b2n lacks) ++ zeros 3)
      (raise { src := 85, reason := 0x04, sev := .notice, p0 := mask, p1 := e.port.val, p2 := 0 }
        { s with nv := { s.nv with split := BitVec.ofNat 2 mask } })

/-! ### Breakpoints and steps (12 R389, R392, R418, R419) -/

/-- A core is present under the split setting (08 R245). -/
def corePresent (c : Nat) (s : Rc8) : Bool :=
  decide (c ≤ 3) && (c != 1 || s.itg.pairs[0].st == .split) && (c != 3 || s.itg.pairs[1].st == .split) &&
  (decide (c < 2) || s.pwr.domains.getLsbD 3)

/-- The lockstep pair of a core. -/
def pairOfCore (c : Nat) : Fin 3 := if c < 2 then 0 else 1

/-- DEBUG_BREAKPOINT, step 5: the offset counts where a breakpoint is set or cleared. -/
def checkBreak (e : Exec) (s : Rc8) : Option Status :=
  let action := u8At e.req 0
  if action < 1 ∨ 3 < action ∨ corePresent (u8At e.req 1) s = false ∨
     (action ≠ 3 ∧ (s.nv.active.map (·.codeSize)).getD 0 ≤ u32At e.req 4) then some .badField else none

/-- DEBUG_BREAKPOINT, step 6. -/
def checkBreakState (e : Exec) (s : Rc8) : Option Status :=
  if s.run.mode ≠ .layby ∨ isStandby s ∨ scopeCovers (sessScope s) (pairOfCore (u8At e.req 1)) = false then some .wrongState else none

/-- The breakpoints of a core. -/
def breaksOf (c : Nat) (s : Rc8) : List Nat := vget s.itg.breaks c []

/-- The breakpoints of a core replaced. -/
def putBreaks (c : Nat) (l : List Nat) (s : Rc8) : Rc8 := modItg (fun x => { x with breaks := vput x.breaks c fun _ => l }) s

/-- DEBUG_BREAKPOINT's own row (R418). -/
def debugBreakpoint (e : Exec) (s : Rc8) : Rc8 :=
  let c := u8At e.req 1
  let off := u32At e.req 4
  let l := breaksOf c s
  let done := fun (s : Rc8) => endExec e.id .done (le 1 (breaksOf c s).length ++ zeros 3) s
  match u8At e.req 0 with
  | 1 => if l.contains off then done s
         else if 16 ≤ l.length then endWith e.id .noSpace s
         else done (suspend (pairOfCore c) 2 (putBreaks c (l ++ [off]) s))
  | 2 => done (putBreaks c (l.filter fun x => x != off) s)
  | _ => done (putBreaks c [] s)

/-- DEBUG_TASK, step 5. -/
def checkTask (e : Exec) (s : Rc8) : Option Status :=
  let t := u8At e.req 0
  if (vget s.run.tasks t Task.reset).cfg.isNone ∨ u8At e.req 1 < 1 ∨ 3 < u8At e.req 1 then some .badField else none

/-- The task a request names; the checks have bounded it. -/
def taskOf (e : Exec) : Fin 8 := ⟨u8At e.req 0 % 8, Nat.mod_lt _ (by decide)⟩

/-- DEBUG_TASK, step 6: CYCLE is for a task halted at a cycle end, CONTINUE and STEP for one at a breakpoint. -/
def checkTaskState (e : Exec) (s : Rc8) : Option Status :=
  let t := taskOf e
  let need := if u8At e.req 1 = 1 then TaskSt.halted else TaskSt.breakpoint
  if s.run.mode ≠ .layby ∨ isStandby s ∨ scopeCovers (sessScope s) (taskPair t s) = false ∨ (s.run.tasks[t]).st ≠ need
  then some .wrongState else none

/-- DEBUG_TASK's own row (R419). -/
def debugTask (e : Exec) (s : Rc8) : Rc8 :=
  let t := taskOf e
  endWith e.id .done
    (match u8At e.req 1 with
     | 1 => modTask t (fun x => { x with wanted := 1 }) s
     | 2 => modTask t (fun x => { x with st := .running }) s
     | _ => modTask t (fun x => { x with st := .running }) (suspend (taskPair t s) 3 s))

/-- BREAKPOINT_REACHED: a running debug cycle stops at a breakpoint of its core, or after a step (R419). Where the core has breakpoints of
the debug port alone, it halts for the debugger (R388, R389). -/
def breakpointReached (t : Fin 8) (step : Bool) (s : Rc8) : Rc8 :=
  let x := s.run.tasks[t]
  let core := (x.cfg.map (·.core)).getD 0
  if s.run.mode = .layby ∧ isStandby s = false ∧ executes t s = true ∧ (step = true ∨ breaksOf core s ≠ []) then
    taskHalted t (if step then 3 else 2) (modTask t (fun y => { y with st := .breakpoint, debug := true }) s)
  else if s.run.mode ≠ .run ∧ executes t s = true ∧ vget s.itg.portBreaks core [] ≠ [] then
    modItg (fun y => { y with portHalts := y.portHalts ||| (1#4 <<< core) }) s
  else s

/-! ### DEBUG_READ (12 R420) -/

/-- Bytes of the program data area. -/
def dataSize (s : Rc8) : Nat := (s.nv.active.map (·.dataSize)).getD 0

/-- DEBUG_READ, step 5. -/
def checkDebugRead (e : Exec) (s : Rc8) : Option Status :=
  let n := u16At e.req 4
  if n < 1 ∨ 4000 < n ∨ dataSize s < u32At e.req 0 + n then some .badField else none

/-- DEBUG_READ, step 6. -/
def checkDebugReadState (_ : Exec) (s : Rc8) : Option Status := if sessScope s % 4 = 0 then some .wrongState else none

/-- No cycle is under way, so the program data area is as the last one left it. -/
def dataStill (s : Rc8) : Bool := allTasks.all fun t => (s.run.tasks[t]).st != .running && (s.run.tasks[t]).st != .breakpoint

/-- DEBUG_READ's own row (R420): the program data area's bytes. The read is not atomic with respect to running tasks: `data` is what it
finds while a cycle is under way (DESIGN CHOICE, log 90). -/
def debugRead (data : List Byte) (e : Exec) (s : Rc8) : Rc8 :=
  let n := u16At e.req 4
  endExec e.id .done (if dataStill s then memReadN s.run.data (u32At e.req 0) n else padTo n (data.take n)) s

/-! ### What the checks of R58 need (12 R410) -/

/-- MEMORY_STATUS. -/
def specMemoryStatus : CmdSpec := { cls := .observe, len := lenIs 0, resp := fun _ => 224 }
/-- DEBUG_UNLOCK. -/
def specDebugUnlock : CmdSpec := { cls := .engineer, len := lenIs 8, fields := checkUnlock, state := checkUnlockState }
/-- DEBUG_LOCK. -/
def specDebugLock : CmdSpec := { cls := .engineer, urgent := true, len := lenIs 0, state := checkLock }
/-- LOCKSTEP_STATUS. -/
def specLockstepStatus : CmdSpec := { cls := .observe, urgent := true, len := lenIs 0, resp := fun _ => 32 }
/-- SPLIT_SET. -/
def specSplitSet : CmdSpec := { cls := .engineer, len := lenIs 4, resp := fun _ => 4, fields := checkSplit }
/-- DEBUG_BREAKPOINT. -/
def specDebugBreakpoint : CmdSpec := { cls := .engineer, len := lenIs 12, resp := fun _ => 4, fields := checkBreak, state := checkBreakState }
/-- DEBUG_TASK. -/
def specDebugTask : CmdSpec := { cls := .engineer, len := lenIs 4, fields := checkTask, state := checkTaskState }
/-- DEBUG_READ. -/
def specDebugRead : CmdSpec :=
  { cls := .engineer, len := lenIs 8, resp := fun r => if 1 ≤ u16At r 4 ∧ u16At r 4 ≤ 4000 then u16At r 4 else 0,
    fields := checkDebugRead, state := checkDebugReadState }

/-! ### Meanings -/

/-- LOCKSTEP_MISMATCH (R385). -/
def execLockstepMismatch (k : Fin 3) (s : State) : Answer := act (mismatch k) s

/-- RULE_EPOCH_COMPLETE (R408). -/
def execRuleEpochComplete (epoch : Nat) (s : State) : Answer := act (ruleComplete epoch) s

/-- LOCKSTEP_RESTORED (R390). -/
def execLockstepRestored (k : Fin 2) (s : State) : Answer := act (restored k) s

/-- LOCKSTEP_RESTORE_FAILED (R390). -/
def execLockstepRestoreFailed (k : Fin 2) (s : State) : Answer := act (lockstepRestoreFailed k) s

/-- DEBUG_PORT_REQUEST (R387, R389). -/
def execDebugPortRequest (r : DebugRequest) (s : State) : Answer :=
  actIf (match r with
    | .access t => decide (1 ≤ t.kind.val ∧ 1 ≤ t.len ∧ t.len ≤ 256 ∧ t.addr < 2 ^ 32)
    | _ => true) "DEBUG_PORT_REQUEST" (debugRequest r) s

/-- DEBUG_SESSION_EXPIRY (R388). -/
def execDebugSessionExpiry (s : State) : Answer := act sessionExpiry s

/-- MEMORY_CORRECTED (R395): area 5 names a DRAM word, whose wrong bits say which devices of areas 0 to 4 count it (R394). -/
def execMemoryCorrected (area : Fin 13) (addr : Nat) (err : BitVec 80) (s : State) : Answer :=
  actIf (decide (5 ≤ area.val ∧ addr < 2 ^ 32)) "MEMORY_CORRECTED" (memoryCorrected area addr err) s

/-- MEMORY_UNCORRECTABLE (R397): the region lies in the area (R394). -/
def execMemoryUncorrectable (area : Fin 13) (addr : Nat) (err : CodeErrors) (region : MemRegion) (s : State) : Answer :=
  actIf (regionIn area.val region && decide (addr < 2 ^ 32)) "MEMORY_UNCORRECTABLE" (memoryUncorrectable area addr err.bits err.address region) s

/-- SCRUB (R396). -/
def execScrub (area : Fin 13) (s : State) : Answer := act (scrub area) s

/-- BREAKPOINT_REACHED (R419). -/
def execBreakpointReached (t : Fin 8) (step : Bool) (s : State) : Answer := act (breakpointReached t step) s

/-- MEMORY_STATUS (R414). -/
def execMemoryStatus (p : Fin 4) (m : Fin 8) (s : State) : Answer := act (answer 0x0905 p m memoryStatusResponse) s

/-- DEBUG_UNLOCK (R415). -/
def execDebugUnlock (p : Fin 4) (m : Fin 8) (s : State) : Answer := act (runCmd 0x0E01 p m debugUnlock) s

/-- DEBUG_LOCK (R415). -/
def execDebugLock (p : Fin 4) (m : Fin 8) (s : State) : Answer := act (runCmd 0x0E02 p m debugLock) s

/-- LOCKSTEP_STATUS (R416). -/
def execLockstepStatus (p : Fin 4) (m : Fin 8) (s : State) : Answer := act (answer 0x0E03 p m lockstepStatusResponse) s

/-- SPLIT_SET (R417); `stored` is whether the read-back matches. -/
def execSplitSet (p : Fin 4) (m : Fin 8) (stored : Bool) (s : State) : Answer := act (runCmd 0x0E04 p m (splitSet stored)) s

/-- DEBUG_BREAKPOINT (R418). -/
def execDebugBreakpoint (p : Fin 4) (m : Fin 8) (s : State) : Answer := act (runCmd 0x0E05 p m debugBreakpoint) s

/-- DEBUG_TASK (R419). -/
def execDebugTask (p : Fin 4) (m : Fin 8) (s : State) : Answer := act (runCmd 0x0E06 p m debugTask) s

/-- DEBUG_READ (R420); `data` is what the program data area holds. -/
def execDebugRead (p : Fin 4) (m : Fin 8) (data : List Byte) (s : State) : Answer := act (runCmd 0x0E07 p m (debugRead data)) s

end Sys2Proof.Machine
end

