-- ==== Sys2Proof/Machine/Recorder.lean ====
section
/-! DEFINITION. The event recorder: flush, seal, recovery, clear, and its commands (16). -/

namespace Sys2Proof.Machine

open Sys2Proof

/-- Records the MRAM log holds at most (R506). -/
def logPlaces : Nat := 524288

/-- The records of the buffer that are not yet in the log. -/
def Recorder.unflushed (r : Recorder) : List Record := r.buf.drop (r.buf.length - r.waiting)

/-- The log with the slot of the record flushed last as the buffer has it now. -/
def logNow (r : Recorder) (l : RecLog) : List Record :=
  if r.openDirty then
    match (r.buf.take (r.buf.length - r.waiting)).getLast? with
    | some x => l.log.dropLast ++ [x]
    | none => l.log
  else l.log

/-- Every record kept, log and buffer, in sequence order (R513). -/
def recAll (s : Rc8) : List Record := logNow s.rcd s.nv.recLog ++ s.rcd.unflushed

/-- The newest sequence given out. -/
def newestSeq (l : RecLog) : Nat := (l.nextSeq + 0xFFFFFFFF) % 2 ^ 32

/-- Sequence a is newer than b (R504). -/
def seqNewer (a b : Nat) : Bool :=
  let d := (a + 2 ^ 32 - b % 2 ^ 32) % 2 ^ 32
  decide (1 ≤ d ∧ d < 2 ^ 31)

/-- The copy of a flush: new records go to the log, the open record's slot is rewritten (R506). -/
def flushCopy (s : Rc8) : Rc8 :=
  let all := recAll s
  { s with
    rcd := { s.rcd with buf := if s.rcd.isOpen then s.rcd.buf.drop (s.rcd.buf.length - 1) else [],
                        waiting := 0, openDirty := false, failing := false, lastFlush := secOf s.clk.ptu },
    nv := { s.nv with recLog :=
      { s.nv.recLog with log := all.drop (all.length - logPlaces),
                         slot := (s.nv.recLog.slot + s.rcd.waiting) % logPlaces, sealed := false } } }

/-- Records dropped on a full buffer are reported once a flush has freed space (R507). -/
def reportDrops (s : Rc8) : Rc8 :=
  if s.rcd.dropped = 0 then s
  else raise { src := 112, reason := 0x02, sev := .warning, p0 := s.rcd.dropped, p1 := s.rcd.lastBefore, p2 := 0 }
    { s with rcd := { s.rcd with dropped := 0 } }

/-- A flush that failed keeps the records (R507). -/
def flushFailed (cause : Nat) (s : Rc8) : Rc8 :=
  raise { src := 112, reason := 0x03, sev := .error, p0 := cause, p1 := s.rcd.waiting, p2 := 0 }
    { s with rcd := { s.rcd with failing := true } }

/-- One flush (R506, R507). While a seal stands and feed loss is in force, records stay in the buffer
(R508). -/
def recFlush (result : FlushResult) (s : Rc8) : Rc8 :=
  if s.nv.recLog.sealed && s.pwr.loss then s
  else match result with
    | .stored => reportDrops (flushCopy s)
    | .recordFailed => flushFailed 1 s
    | .headerFailed => flushFailed 2 s

/-- The seal: a flush, and a header with the seal flag; the open record is closed (R505, R508). -/
def recSeal (s : Rc8) : Rc8 :=
  let t := reportDrops (flushCopy s)
  let t := flushCopy t
  { t with rcd := { t.rcd with isOpen := false }, nv := { t.nv with recLog := { t.nv.recLog with sealed := true } } }

/-- The recorder at module start (R509): unflushed records are gone, the sequence continues after the
newest record of the log, and an unsealed log that holds records gives LOG_RECOVERED. -/
def recRecover (s : Rc8) : Rc8 :=
  match s.nv.recLog.log.getLast? with
  | none => s
  | some x =>
    let s1 := { s with nv := { s.nv with recLog := { s.nv.recLog with nextSeq := (x.seq + 1) % 2 ^ 32 } } }
    if s.nv.recLog.sealed then s1
    else raise { src := 112, reason := 0x04, sev := .warning, p0 := x.seq, p1 := 0, p2 := 0 } s1

/-- RECORDER_CLEARED as its record stands in the first slot (R510). -/
def clearedRecord (by_ count time seq : Nat) : Record :=
  { code := 0x7001, rep := 1, seq := seq, time := time, lastOff := 0, p0 := by_, p1 := count }

/-- A clear (R510): buffer and log are emptied, and RECORDER_CLEARED goes straight into the first
slot. -/
def recClear (by_ : Nat) (s : Rc8) : Rc8 :=
  let count := (recAll s).length
  let l := s.nv.recLog
  ringEvent { src := 112, reason := 0x01, sev := .notice, p0 := by_, p1 := count, p2 := newestSeq l }
    { s with
      rcd := { s.rcd with buf := [], waiting := 0, isOpen := false, openDirty := false, clears := inc32 s.rcd.clears },
      nv := { s.nv with recLog :=
        { log := [clearedRecord by_ count s.clk.ptu l.nextSeq], slot := 0, sealed := false,
          nextSeq := (l.nextSeq + 1) % 2 ^ 32 } } }

/-- A clear whose MRAM write fails: the log keeps what the write left readable, which no rule states (R514; DESIGN CHOICE, log 7). -/
def clearFailed (s : Rc8) : Rc8 :=
  { s with
    rcd := { s.rcd with buf := s.rcd.unflushed, openDirty := false, isOpen := s.rcd.isOpen && s.rcd.waiting != 0 },
    nv := { s.nv with recLog := { s.nv.recLog with log := (logNow s.rcd s.nv.recLog).filter fun r => Config.leftReadable r.seq s.clk.refosc } } }

/-- The 32 bytes of a record (R503). -/
def Record.bytes (r : Record) : List Byte :=
  le 2 r.code ++ le 2 r.rep ++ le 4 r.seq ++ le 8 (secOf r.time) ++ le 4 (nsOf r.time) ++ le 4 r.lastOff ++
  le 4 r.p0 ++ le 4 r.p1

/-- The oldest sequence kept; with no record kept, the one the next record takes. -/
def oldestSeq (s : Rc8) : Nat := ((recAll s).head?.map (·.seq)).getD s.nv.recLog.nextSeq

/-- RECORDER_READ, checks of step 5 (R513). -/
def checkRecorderRead (e : Exec) (s : Rc8) : Option Status :=
  let first := u32At e.req 0
  firstFail [(decide (u16At e.req 4 < 1 ∨ 125 < u16At e.req 4), .badField),
    (first != 0 && seqNewer first s.nv.recLog.nextSeq, .badField)]

/-- RECORDER_READ (R513). -/
def recorderReadResponse (e : Exec) (s : Rc8) : List Byte :=
  let first := u32At e.req 0
  let all := recAll s
  let gone := first != 0 && seqNewer (oldestSeq s) first
  let from_ := if first = 0 ∨ gone then all else all.dropWhile fun r => seqNewer first r.seq
  let l := from_.take (u16At e.req 4)
  le 4 (oldestSeq s) ++ le 4 (newestSeq s.nv.recLog) ++ le 2 l.length ++
  le 2 (flagBit gone 0 + flagBit s.nv.recLog.sealed 1) ++ zeros 4 ++ l.flatMap Record.bytes

/-- RECORDER_STATUS (R515). -/
def recorderStatusResponse (_ : Exec) (s : Rc8) : List Byte :=
  le 4 (newestSeq s.nv.recLog) ++ le 4 (oldestSeq s) ++ le 4 s.nv.recLog.log.length ++ le 2 s.rcd.waiting ++
  le 1 (flagBit s.nv.recLog.sealed 0 + flagBit s.rcd.failing 1) ++ zeros 1 ++ le 4 s.rcd.droppedTotal ++
  le 4 s.rcd.clears ++ le 8 s.rcd.lastFlush

/-- The recorder commands (R512). -/
def specRecorderRead : CmdSpec :=
  { cls := .observe, len := lenIs 8, fields := checkRecorderRead,
    resp := fun r => if 1 ≤ u16At r 4 ∧ u16At r 4 ≤ 125 then 16 + 32 * u16At r 4 else 0 }
/-- RECORDER_CLEAR (R512). -/
def specRecorderClear : CmdSpec := { cls := .observe, len := lenIs 4, resp := fun _ => 4 }
/-- RECORDER_STATUS (R512). -/
def specRecorderStatus : CmdSpec := { cls := .observe, urgent := true, len := lenIs 0, resp := fun _ => 32 }

/-- RECORDER_FLUSH (R506, R507). -/
def execRecorderFlush (result : FlushResult) (s : State) : Answer := act (recFlush result) s

/-- RECORDER_READ (R513). -/
def execRecorderRead (p : Fin 4) (m : Fin 8) (s : State) : Answer := act (answer 0x0301 p m recorderReadResponse) s

/-- RECORDER_CLEAR (R510, R514); `stored` is whether the MRAM write succeeds. -/
def execRecorderClear (p : Fin 4) (m : Fin 8) (stored : Bool) (s : State) : Answer :=
  act (runCmd 0x0302 p m fun e s =>
    if otherWaiting s 0x0302 e.id then endWith e.id .busy s
    else if stored then endExec e.id .done (le 4 s.nv.recLog.nextSeq) (recClear p.val s)
    else endWith e.id .integrityFail (clearFailed s)) s

/-- RECORDER_STATUS (R515). -/
def execRecorderStatus (p : Fin 4) (m : Fin 8) (s : State) : Answer :=
  act (answer 0x0303 p m recorderStatusResponse) s

end Sys2Proof.Machine
end

