-- ==== Sys2Proof/Machine/Power.lean ====
section
/-! DEFINITION. Feeds, feed loss and its flush, the hold-up store, module reset, and POWER_STATUS (17). -/

namespace Sys2Proof.Machine

open Sys2Proof

/-- Power changed. -/
def modPwr (f : Power → Power) (s : Rc8) : Rc8 := { s with pwr := f s.pwr }

/-! ### Feeds (17 R518) -/

/-- Codes of the feed states. -/
def FeedSt.code : FeedSt → Nat
  | .ok => 0 | .low => 1 | .missing => 2

/-- The state a voltage gives, in units of 10 mV: a higher state counts 0.5 V above its threshold. -/
def feedState (old : FeedSt) (v : Nat) : FeedSt :=
  match old with
  | .ok => if v < 1200 then .missing else if v < 1920 then .low else .ok
  | .low => if v < 1200 then .missing else if v < 1970 then .low else .ok
  | .missing => if v < 1250 then .missing else if v < 1970 then .low else .ok

/-- FEED_CHANGED: a feed is measured; a change of its state is raised. -/
def feedChanged (f : Fin 2) (v : Nat) (s : Rc8) : Rc8 :=
  let old := (s.pwr.feeds[f]).st
  let new := feedState old v
  let s1 := modPwr (fun x => { x with feeds := x.feeds.set f { st := new, volt := v } }) s
  if new = old then s1
  else raiseLimited none { src := 8, reason := 0x01, sev := .warning, p0 := f.val + 1, p1 := old.code + 256 * new.code, p2 := v } s1

/-! ### Feed loss (17 R522, R523) -/

/-- Codes of the hold-up states. -/
def HoldSt.code : HoldSt → Nat
  | .charging => 0 | .ready => 1 | .supplying => 2

/-- FEED_LOSS: the flush starts, and the store supplies. -/
def feedLoss (store : Nat) (s : Rc8) : Rc8 :=
  if s.pwr.loss then s
  else
    let s1 := modPwr (fun x => { x with loss := true, lossAt := s.clk.refosc, flushing := true, holdup := .supplying })
      { s with nv := { s.nv with feedLosses := inc32 s.nv.feedLosses, lastLoss := secOf s.clk.ptu } }
    raise { src := 8, reason := 0x02, sev := .critical, p0 := lo32 s.rnd.round, p1 := store, p2 := s.pwr.holdup.code } s1

/-- POWER_FAIL_FLUSHED: the commit in progress has ended and the recorder is sealed, at these times in µs from feed
loss. -/
def powerFlushed (commitWait sealTime : Nat) (s : Rc8) : Rc8 :=
  if s.pwr.flushing then
    let s1 := recSeal (atRefosc (s.pwr.lossAt + 1000 * sealTime) s)
    raise { src := 9, reason := 0x01, sev := .error, p0 := commitWait, p1 := sealTime, p2 := lo32 s.rnd.round }
      (modPwr (fun x => { x with flushing := false }) { s1 with nv := { s1.nv with commitWait := commitWait, sealTime := sealTime } })
  else s

/-- FEED_RETURN: feed loss has lasted so many µs; the store is charged again. -/
def feedReturn (us store : Nat) (which : Fin 3) (s : Rc8) : Rc8 :=
  if s.pwr.loss then
    let s1 := atRefosc (s.pwr.lossAt + 1000 * us) s
    raise { src := 8, reason := 0x03, sev := .warning, p0 := us, p1 := store, p2 := which.val + 1 }
      (modPwr (fun x => { x with loss := false, holdup := .charging, chargeFrom := s1.clk.refosc })
        { s1 with nv := { s1.nv with lossesSurvived := inc32 s1.nv.lossesSurvived, longestLoss := max us s1.nv.longestLoss } })
  else s

/-! ### The store (17 R527, R528) -/

/-- A measured capacitance, in µF: one below 1.76 mF raises HOLDUP_DEGRADED. -/
def measured (store cap : Nat) (s : Rc8) : Rc8 :=
  let s1 := modPwr (fun x => { x with cap := cap, degraded := x.degraded || decide (cap < 1760) }) s
  if cap < 1760 then raise { src := 9, reason := 0x03, sev := .warning, p0 := cap, p1 := store, p2 := 0 } s1 else s1

/-- HOLDUP_READY: the store is full after a charge of so many ms. -/
def holdupReady (store cap ms : Nat) (s : Rc8) : Rc8 :=
  if s.pwr.holdup = .charging then
    let s1 := atRefosc (s.pwr.chargeFrom + 1000000 * ms) s
    measured store cap (raise { src := 9, reason := 0x02, sev := .notice, p0 := store, p1 := cap, p2 := ms }
      (modPwr (fun x => { x with holdup := .ready }) s1))
  else s

/-- HOLDUP_TOPUP: the daily top-up measures the store. -/
def holdupTopup (store cap : Nat) (s : Rc8) : Rc8 := if s.pwr.holdup = .ready then measured store cap s else s

/-! ### Module reset and power loss (17 R519, R521, R524) -/

/-- What is stored when the module is reset: a change that was armed on the holder is abandoned at the next start, unless a schedule
has fixed its waymark (09 R283, R296), and the
confirm window counts the whole seconds it has run (18 R542). -/
def storedAtReset (s : Rc8) : Nv :=
  { s.nv with
    armedAtReset := s.nv.armedAtReset || (changeArmed s && !s.chg.fixed && !isStandby s),
    upd := { s.nv.upd with used := s.nv.upd.used + (s.trialFrom.map fun t => (s.clk.refosc - t) / 1000000000).getD 0 } }

/-- Module reset: everything but the stored objects is as after power-on, and PD0 keeps the cause. -/
def moduleReset (cause : Nat) (s : Rc8) : Rc8 :=
  { Rc8.resetWith (storedAtReset s) with ident := s.ident, out := s.out, pwr := { Power.reset with cause := cause } }

/-- POWER_LOST: the logic fails; what is stored stays. -/
def powerLost (s : Rc8) : Rc8 := modPwr (fun x => { x with powered := false }) (moduleReset 1 s)

/-- WATCHDOG_RESET: counted, and with cause 2. -/
def watchdogReset (s : Rc8) : Rc8 := moduleReset 2 { s with nv := { s.nv with watchdogs := inc32 s.nv.watchdogs } }

/-! ### POWER_STATUS (17 R531) -/

/-- POWER_STATUS, with what the monitors measure. -/
def powerStatusResponse (x : PowerReading) (_ : Exec) (s : Rc8) : List Byte :=
  let q := s.pwr
  le 1 (q.feeds[0]).st.code ++ le 1 (q.feeds[1]).st.code ++ le 1 q.holdup.code ++
  le 1 (flagBit q.loss 0 + flagBit s.nv.recLog.sealed 1 + flagBit q.degraded 2) ++ le 2 (q.feeds[0]).volt ++ le 2 (q.feeds[1]).volt ++
  le 2 x.bus ++ le 2 x.store ++ le 2 q.cap ++ le 2 q.domains.toNat ++ le 4 x.power ++ le 2 x.currentA ++ le 2 x.currentB ++
  le 4 s.nv.feedLosses ++ le 4 s.nv.lossesSurvived ++ le 4 s.nv.longestLoss ++ le 4 s.nv.commitWait ++ le 4 s.nv.sealTime ++ le 4 s.nv.watchdogs ++
  le 8 s.nv.lastLoss ++ le 1 q.cause ++ zeros 7

/-- POWER_STATUS (R531). -/
def specPowerStatus : CmdSpec := { cls := .observe, urgent := true, len := lenIs 0, resp := fun _ => 64 }

/-! ### Meanings -/

/-- FEED_CHANGED (R518): a measured voltage in units of 10 mV. -/
def execFeedChanged (f : Fin 2) (volt : Nat) (s : State) : Answer := actIf (decide (volt < 65536)) "FEED_CHANGED" (feedChanged f volt) s

/-- FEED_LOSS (R522). -/
def execFeedLoss (store : Nat) (s : State) : Answer := actIf (decide (store < 65536)) "FEED_LOSS" (feedLoss store) s

/-- POWER_FAIL_FLUSHED (R522). -/
def execPowerFailFlushed (commitWait sealTime : Nat) (s : State) : Answer :=
  actIf (decide (commitWait ≤ sealTime ∧ sealTime < 2 ^ 32)) "POWER_FAIL_FLUSHED" (powerFlushed commitWait sealTime) s

/-- FEED_RETURN (R523). -/
def execFeedReturn (us store : Nat) (which : Fin 3) (s : State) : Answer :=
  actIf (decide (us < 2 ^ 32 ∧ store < 65536)) "FEED_RETURN" (feedReturn us store which) s

/-- HOLDUP_READY (R527). -/
def execHoldupReady (store cap ms : Nat) (s : State) : Answer :=
  actIf (decide (store < 65536 ∧ cap < 65536 ∧ ms < 2 ^ 32)) "HOLDUP_READY" (holdupReady store cap ms) s

/-- HOLDUP_TOPUP (R528). -/
def execHoldupTopup (store cap : Nat) (s : State) : Answer :=
  actIf (decide (store < 65536 ∧ cap < 65536)) "HOLDUP_TOPUP" (holdupTopup store cap) s

/-- POWER_LOST (R524). -/
def execPowerLost (s : State) : Answer := act powerLost s

/-- WATCHDOG_RESET (R521). -/
def execWatchdogReset (s : State) : Answer := act watchdogReset s

/-- POWER_STATUS (R531); `x` is what the monitors measure. -/
def execPowerStatus (p : Fin 4) (m : Fin 8) (x : PowerReading) (s : State) : Answer := act (answer 0x0F01 p m (powerStatusResponse x)) s

end Sys2Proof.Machine
end

