-- ==== Sys2Proof/Machine/Update.lean ====
section
/-! DEFINITION. Firmware update: delivery, verification, arming, confirmation, expiry and revert (18). -/

namespace Sys2Proof.Machine

open Sys2Proof

/-- The update changed. -/
def modUpd (f : Update → Update) (s : Rc8) : Rc8 := { s with nv := { s.nv with upd := f s.nv.upd } }

/-! ### Parts and needs (18 R533 to R535) -/

/-- Slot size of a part, bytes. -/
def slotSize (part : Nat) : Nat :=
  1048576 * (match part with
    | 1 => 4 | 2 => 64 | 3 => 2 | 4 => 4 | 5 => 128 | _ => 2)

/-- The part that provides an interface (*Table: Firmware interfaces*). -/
def providerOf (iface : Nat) : Nat :=
  match iface with
  | 1 => 1 | 2 => 2 | 3 => 3 | 4 => 4 | 5 => 6 | 6 => 5 | _ => 2

/-- The six images in force. -/
def partsNow (s : Rc8) : Vector FwPart 6 := vmap (fun f => f.slots[f.inForce]) s.nv.parts

/-- A level lies within a part's range of an interface. -/
def FwPart.meets (p : FwPart) (iface level : Nat) : Bool := p.provides.any fun x => x.1 == iface && decide (x.2.1 ≤ level ∧ level ≤ x.2.2)

/-- A need is met by the providing part of a combination. -/
def needMet (parts : Vector FwPart 6) (iface level : Nat) : Bool := (vget parts (providerOf iface - 1) (FwPart.reset 1)).meets iface level

/-- Every need of a combination is met, and the RUNTIME need of the active image, the loaded image and the change
package (R535). -/
def combinationOk (parts : Vector FwPart 6) (s : Rc8) : Bool :=
  (vlist parts).all (fun p => p.needs.all fun n => needMet parts n.1 n.2) &&
  ([s.nv.active, s.nv.loaded, s.nv.package.map (·.image)].filterMap id).all fun x => needMet parts 6 x.level

/-- A combination with a manifest entry's part replaced. -/
def replacePart (parts : Vector FwPart 6) (m : ManEntry) : Vector FwPart 6 := vput parts (m.part - 1) fun _ => m.image

/-- The part of the first step that does not meet every need (R535). -/
def failingStep (s : Rc8) : Vector FwPart 6 → List ManEntry → Option Nat
  | _, [] => none
  | parts, m :: l =>
    let next := replacePart parts m
    if combinationOk next s then failingStep s next l else some m.part

/-- Every part of a manifest replaced. -/
def finalParts (parts : Vector FwPart 6) (l : List ManEntry) : Vector FwPart 6 := l.foldl replacePart parts

/-- The level of interface HOST or PAIR that a combination declares (R534). -/
def declaredLevel (parts : Vector FwPart 6) (iface : Nat) : Nat :=
  (((parts[1]).provides.find? fun x => x.1 == iface).map (·.2.1)).getD 0

/-! ### The bundle (18 R536, R538, R539) -/

/-- Entries of a part's provides table. -/
def parseProvides (b : List Byte) (o : Nat) : List (Nat × Nat × Nat) :=
  (List.range 4).filterMap fun i =>
    let k := o + 112 + 8 * i
    if u8At b k = 0 then none else some (u8At b k, u16At b (k + 2), u16At b (k + 4))

/-- Entries of a part's needs table. -/
def parseNeeds (b : List Byte) (o : Nat) : List (Nat × Nat) :=
  (List.range 4).filterMap fun i =>
    let k := o + 144 + 4 * i
    if u8At b k = 0 then none else some (u8At b k, u16At b (k + 2))

/-- A manifest entry at an offset of the bundle. -/
def parseEntry (b : List Byte) (o : Nat) : ManEntry :=
  { part := u8At b o, off := u32At b (o + 8), len := u32At b (o + 12), digest := slice b (o + 16) 32, sig := slice b (o + 48) 64,
    image := { version := u32At b (o + 4), security := u16At b (o + 2), provides := parseProvides b o, needs := parseNeeds b o } }

/-- The manifest of a bundle. -/
def manifestOf (b : List Byte) : List ManEntry := (List.range (u8At b 6)).map fun i => parseEntry b (128 + 160 * i)

/-- The manifest's bytes. -/
def manifestBytes (b : List Byte) : List Byte := slice b 128 (160 * u8At b 6)

/-- Reserved bytes of a manifest entry are zero. -/
def entryReserved (b : List Byte) (o : Nat) : Bool :=
  u8At b (o + 1) == 0 && (List.range 4).all (fun i => u8At b (o + 113 + 8 * i) == 0 && u16At b (o + 118 + 8 * i) == 0 && u8At b (o + 145 + 4 * i) == 0)

/-- Condition 1 (R539): header fields, and reserved bytes of header and manifest. -/
def headerOk (b : List Byte) (s : Rc8) : Bool :=
  u32At b 0 == 0x31444E42 && u16At b 4 == 1 && decide (1 ≤ u8At b 6 ∧ u8At b 6 ≤ 6 ∧ u8At b 7 ≤ 1 ∧ u8At b 20 ≤ 3) &&
  u32At b 16 == b.length && u32At b 16 == s.nv.upd.length && allZero b 21 11 && allZero b 96 32 &&
  (List.range (u8At b 6)).all fun i => entryReserved b (128 + 160 * i)

/-- A manifest entry by condition 1: a part of the table, its image within the bundle, and no part twice. -/
def manEntryOk (b : List Byte) (l : List ManEntry) (m : ManEntry) : Bool :=
  decide (1 ≤ m.part ∧ m.part ≤ 6 ∧ m.off + m.len ≤ b.length) && l.countP (fun x => x.part == m.part) == 1

/-- HOST and PAIR are declared with equal levels by the service firmware (R534, condition 7). -/
def levelsEqual (m : ManEntry) : Bool :=
  (m.part != 2 || (m.image.provides.any (fun x => x.1 == 7) && m.image.provides.any fun x => x.1 == 8)) &&
  m.image.provides.all fun x => (x.1 != 7 && x.1 != 8) || x.2.1 == x.2.2

/-- The first entry that fails a condition. -/
def badPart (l : List ManEntry) (ok : ManEntry → Bool) : Option Nat := (l.find? fun m => !ok m).map (·.part)

/-- The image of an entry. -/
def imageOf (b : List Byte) (m : ManEntry) : List Byte := slice b m.off m.len

/-- Conditions 1 to 5, checked at UPDATE_END and at installation: the first that fails, and its part. -/
def bundleIntact (b : List Byte) (s : Rc8) : Option (Nat × Nat) :=
  let l := manifestOf b
  if !headerOk b s then some (1, 0)
  else match badPart l (manEntryOk b l) with
    | some p => some (1, p)
    | none =>
      if sha256 (manifestBytes b) ≠ s.nv.upd.hash then some (2, 0)
      else if u8At b 20 < s.nv.floor ∨ Config.signatureValid (u8At b 20) (sha256 (manifestBytes b)) (slice b 32 64) = false then some (3, 0)
      else match badPart l (fun m => sha256 (imageOf b m) == m.digest && Config.signatureValid (u8At b 20) (sha256 (imageOf b m)) m.sig) with
        | some p => some (4, p)
        | none => (badPart l fun m => decide (m.len ≤ slotSize m.part)).map fun p => (5, p)

/-- The first condition of *Table: Bundle conditions* that a bundle fails, and its part. -/
def bundleFails (b : List Byte) (s : Rc8) : Option (Nat × Nat) :=
  let l := manifestOf b
  match bundleIntact b s with
  | some x => some x
  | none => match badPart l (fun m => decide (vget s.nv.security (m.part - 1) 0 ≤ m.image.security)) with
    | some p => some (6, p)
    | none => match badPart l levelsEqual with
      | some p => some (7, p)
      | none => (failingStep s (partsNow s) l).map fun p => (8, p)

/-- Status of a failing condition. -/
def conditionStatus (c : Nat) : Status := if 2 ≤ c ∧ c ≤ 4 then .integrityFail else .badField

/-! ### Delivery (18 R538, R549, R550) -/

/-- Bytes held in staging. -/
def bytesHeld (u : Update) : Nat := (u.held.map fun x => x.2.length).sum

/-- The bundle as staging holds it, granule by granule. -/
def staged (u : Update) : List Byte := u.held.flatMap (·.2)

/-- UPDATE_BEGIN, step 5. -/
def checkBegin (e : Exec) (_ : Rc8) : Option Status := if u32At e.req 0 < 289 ∨ 2147483648 < u32At e.req 0 then some .badField else none

/-- UPDATE_BEGIN, step 6. -/
def checkBeginState (_ : Exec) (s : Rc8) : Option Status :=
  match s.nv.upd.st with
  | .armed => some .wrongState
  | .trial => some .wrongState
  | _ => none

/-- A new session: staging is cleared and a bundle discarded. -/
def newSession (length : Nat) (hash : List Byte) (u : Update) : Update :=
  let n := (u.lastSession + 1) % 2 ^ 32
  let n := if n = 0 then 1 else n
  { u with st := .receiving, session := n, lastSession := n, length := length, hash := hash, held := [], bundle := 0, key := 0, revoke := false,
           manifest := [] }

/-- UPDATE_BEGIN's own row. -/
def updateBegin (e : Exec) (s : Rc8) : Rc8 :=
  let u := s.nv.upd
  let length := u32At e.req 0
  let hash := slice e.req 8 32
  let s1 := if u.st = .receiving ∧ u.length = length ∧ u.hash = hash then s else modUpd (newSession length hash) s
  endExec e.id .done (le 4 s1.nv.upd.session ++ le 4 (bytesHeld s1.nv.upd) ++ zeros 8) s1

/-- UPDATE_BLOCK's request length. -/
def updateBlockLen (r : List Byte) : Bool := impliedLen 12 1 3968 (u32At r 8) 64 1 r

/-- The request names the open session, which receives. -/
def sessionMatches (e : Exec) (s : Rc8) : Bool := s.nv.upd.st == .receiving && s.nv.upd.session == u32At e.req 0

/-- UPDATE_BLOCK, step 5: the bundle length is that of the session the block names. -/
def checkUpdateBlock (e : Exec) (s : Rc8) : Option Status :=
  let off := u32At e.req 4
  let n := u32At e.req 8
  let total := s.nv.upd.length
  firstFail [(decide (off % 64 ≠ 0 ∨ n < 1 ∨ 3968 < n), .badField),
    (sessionMatches e s && (decide (total < off + n) || (decide (n % 64 ≠ 0) && off + n != total)), .badField)]

/-- UPDATE_BLOCK, step 6. -/
def checkSession (e : Exec) (s : Rc8) : Option Status := if sessionMatches e s then none else some .wrongState

/-- A granule of staging, kept in rising order. -/
def putGranule (held : List (Nat × List Byte)) (k : Nat) (b : List Byte) : List (Nat × List Byte) :=
  held.filter (fun x => decide (x.1 < k)) ++ [(k, b)] ++ held.filter fun x => decide (k < x.1)

/-- Granules a block covers. -/
def blockGranules (e : Exec) : List (Nat × List Byte) :=
  (List.range (ceilDiv (u32At e.req 8) 64)).map fun i => (u32At e.req 4 / 64 + i, slice e.req (64 + 64 * i) (min 64 (u32At e.req 8 - 64 * i)))

/-- UPDATE_BLOCK's own row: a wrong CRC or read-back leaves the block's granules not held. -/
def updateBlock (stored : Bool) (e : Exec) (s : Rc8) : Rc8 :=
  let g := blockGranules e
  if crc32c (e.req.drop 64) = u32At e.req 12 ∧ stored = true then
    let s1 := modUpd (fun u => { u with held := g.foldl (fun h x => putGranule h x.1 x.2) u.held }) s
    endExec e.id .done (le 4 (bytesHeld s1.nv.upd) ++ zeros 4) s1
  else
    endWith e.id .integrityFail (modUpd (fun u => { u with held := u.held.filter fun x => !(g.any fun y => y.1 == x.1) }) s)

/-! ### UPDATE_END (18 R540, R551) -/

/-- UPDATE_END, step 6. -/
def checkEnd (e : Exec) (s : Rc8) : Option Status :=
  if sessionMatches e s ∧ bytesHeld s.nv.upd = s.nv.upd.length then none else some .wrongState

/-- The bundle passes: VERIFIED. -/
def bundleReceived (b : List Byte) (port : Nat) (s : Rc8) : Rc8 :=
  raise { src := 116, reason := 0x01, sev := .notice, p0 := lo32 (u64At b 8), p1 := b.length, p2 := port }
    (modUpd (fun u => { u with st := .verified, bundle := u64At b 8, key := u8At b 20, revoke := bitAt (u8At b 7) 0, manifest := manifestOf b, refusal := 0 }) s)

/-- UPDATE_REFUSED (R539). -/
def updateRefused (cond part port : Nat) (s : Rc8) : Rc8 :=
  raise { src := 116, reason := 0x02, sev := .error, p0 := cond, p1 := part, p2 := port }
    (modUpd (fun u => { u with result := 2, refusal := cond }) s)

/-- The update ends with nothing staged. -/
def updateIdle (u : Update) : Update :=
  { u with st := .idle, session := 0, length := 0, hash := [], held := [], bundle := 0, key := 0, revoke := false, manifest := [], window := 0,
           trial := 0, used := 0, migrated := 0 }

/-- UPDATE_END's own row. -/
def updateEnd (e : Exec) (s : Rc8) : Rc8 :=
  let s1 := pendNow e s
  let b := staged s.nv.upd
  match bundleFails b s with
  | none => endWith e.id .done (bundleReceived b e.port.val s1)
  | some (c, part) =>
    let s2 := updateRefused c part e.port.val s1
    if conditionStatus c = .integrityFail then endWith e.id .integrityFail (modUpd (fun u => { u with held := [] }) s2)
    else endWith e.id .badField (modUpd updateIdle s2)

/-! ### UPDATE_ARM (18 R540, R547, R552) -/

/-- A bundle is staged. -/
def bundleStaged (s : Rc8) : Bool := s.nv.upd.st == .verified || s.nv.upd.st == .armed || s.nv.upd.st == .trial

/-- UPDATE_ARM, step 5. -/
def checkArmUpdate (e : Exec) (s : Rc8) : Option Status :=
  let action := u8At e.req 0
  if action < 1 ∨ 2 < action ∨ 1440 < u16At e.req 2 ∨ (bundleStaged s = true ∧ u64At e.req 4 ≠ s.nv.upd.bundle)
  then some .badField else none

/-- The PAIR level of the final step differs from a present partner's. -/
def pairBreak (s : Rc8) : Bool := s.pair.partner.present && declaredLevel (finalParts (partsNow s) s.nv.upd.manifest) 8 != s.pair.partner.level

/-- UPDATE_ARM, step 6. -/
def checkArmUpdateState (e : Exec) (s : Rc8) : Option Status :=
  if u8At e.req 0 = 2 then (if s.nv.upd.st = .armed then none else some .wrongState)
  else if s.nv.upd.st ≠ .verified ∨ (pairBreak s = true ∧ bitAt (u8At e.req 1) 1 = false) ∨
          (bitAt (u8At e.req 1) 0 = true ∧ holdsToken s = true ∧ s.run.mode ≠ .stop) then some .wrongState else none

/-- UPDATE_ARM's own row; the reserved flags [7:2] of the request are written as zero into the event (00 R11). -/
def updateArm (e : Exec) (s : Rc8) : Rc8 :=
  let arm := u8At e.req 0 == 1
  let w := if u16At e.req 2 = 0 then 15 else u16At e.req 2
  let s1 := raise { src := 116, reason := 0x03, sev := .notice, p0 := lo32 s.nv.upd.bundle, p1 := u8At e.req 1 % 4 + 256 * u8At e.req 0, p2 := w }
    (modUpd (fun u => if arm then { u with st := .armed, window := w } else { u with st := .verified, window := 0 }) s)
  endWith e.id .done (if arm && bitAt (u8At e.req 1) 0 then { s1 with restartAt := some (s.clk.refosc + 100000000) } else s1)

/-- UPDATE_RESTART: the reset that a restart at once, or the reaction to an expiry, is due (R544, R552). -/
def updateRestart (s : Rc8) : Rc8 :=
  match s.restartAt with
  | none => s
  | some _ => moduleReset 1 s

/-! ### UPDATE_CONFIRM (18 R543, R553) -/

/-- UPDATE_CONFIRM, step 5. -/
def checkConfirm (e : Exec) (s : Rc8) : Option Status :=
  if bundleStaged s = true ∧ u64At e.req 0 ≠ s.nv.upd.bundle then some .badField else none

/-- The conditions of R543. -/
def healthy (s : Rc8) : Bool :=
  s.nv.upd.st == .trial && s.pair.selfTest && (nets s).all (fun n => (s.net[n]).state == .joined || (s.net[n]).state == .master) &&
  (s.eng.st == .run || !s.pwr.domains.getLsbD 4) &&
  (!s.pair.partner.present || (s.pair.plk.up && (s.pair.token == .standbyReady || (holdsToken s && partnerReady s))))

/-- UPDATE_CONFIRM, step 6. -/
def checkConfirmState (_ : Exec) (s : Rc8) : Option Status := if healthy s then none else some .wrongState

/-- UPDATE_CONFIRM's own row. -/
def updateConfirm (e : Exec) (s : Rc8) : Rc8 :=
  let u := s.nv.upd
  let s1 := { s with trialFrom := none, nv := { s.nv with
    oldFormat := none,
    security := u.manifest.foldl (fun v m => vput v (m.part - 1) fun x => max x m.image.security) s.nv.security,
    floor := if u.revoke then max s.nv.floor u.key else s.nv.floor } }
  endWith e.id .done (raise { src := 117, reason := 0x03, sev := .notice, p0 := lo32 u.bundle, p1 := u.migrated, p2 := e.port.val }
    (modUpd (fun u => { updateIdle u with result := 1 }) s1))

/-! ### Revert and expiry (18 R542, R544) -/

/-- Slot changes of parts are undone. -/
def revertSlots (parts : List Nat) (s : Rc8) : Rc8 :=
  { s with nv := { s.nv with parts := parts.foldl (fun v p => vput v (p - 1) fun f => { f with inForce := if f.inForce = 0 then 1 else 0 }) s.nv.parts } }

/-- UPDATE_REVERTED: cause 1 window, 2 trial starts, 3 installation or migration; when 1 at once, 2 at the next start. -/
def updateReverted (cause when_ : Nat) (s : Rc8) : Rc8 :=
  raise { src := 117, reason := 0x04, sev := .error, p0 := cause, p1 := Config.objectsChanged s.nv.upd.bundle s.rnd.round, p2 := when_ } s

/-- The confirm window in ns of running time. -/
def windowNs (u : Update) : Nat := (60 * u.window - u.used) * 1000000000

/-- UPDATE_CONFIRM_EXPIRY (*Table: Reaction at expiry*). -/
def confirmExpiry (s0 : Rc8) : Rc8 :=
  match s0.trialFrom, s0.nv.upd.st with
  | some t, .trial =>
    let s := atRefosc (t + windowNs s0.nv.upd) s0
    let revert := fun (result : Nat) (s : Rc8) =>
      modUpd (fun u => { updateIdle u with result := result, revert := u.manifest.map (·.part) }) { s with trialFrom := none }
    if holdsToken s then
      if partnerReady s ∧ s.pair.hand.isNone = true then
        requestHandover .expiry 0 30000 { revert 3 (updateReverted 1 1 s) with expiryHandover := true }
      else revert 4 (updateReverted 1 2 s)
    else moduleReset 1 (revert 3 (updateReverted 1 1 s))
  | _, _ => s0

/-! ### UPDATE_STATUS (18 R554) -/

/-- Codes of the update states. -/
def UpdSt.code : UpdSt → Nat
  | .idle => 0 | .receiving => 1 | .verified => 2 | .armed => 3 | .trial => 4

/-- The images of the next start: those an armed bundle installs, those a pending or due revert restores, else those in
force. -/
def partsNext (s : Rc8) : Vector FwPart 6 :=
  let u := s.nv.upd
  let now := partsNow (revertSlots u.revert s)
  match u.st with
  | .armed => finalParts now u.manifest
  | .trial => if 3 ≤ u.trial then partsNow (revertSlots (u.manifest.map (·.part)) s) else now
  | _ => now

/-- Window left in s: 0 outside TRIAL. -/
def windowLeft (s : Rc8) : Nat :=
  let u := s.nv.upd
  if u.st = .trial then 60 * u.window - (u.used + (s.trialFrom.map fun t => (s.clk.refosc - t) / 1000000000).getD 0) else 0

/-- UPDATE_STATUS. -/
def updateStatusResponse (_ : Exec) (s : Rc8) : List Byte :=
  let u := s.nv.upd
  le 1 u.st.code ++ le 1 u.result ++ le 1 u.refusal ++ le 1 u.trial ++ le 4 u.session ++ le 8 u.bundle ++ le 4 u.length ++ le 4 (bytesHeld u) ++
  le 4 (windowLeft s) ++ le 2 u.window ++ le 1 ((u.manifest.map fun m => 2 ^ (m.part - 1)).sum) ++ le 1 (b2n (decide (partsNext s ≠ partsNow s))) ++
  (vlist (partsNext s)).flatMap (fun p => le 4 p.version) ++
  le 4 (if u.st = .trial ∨ u.revert ≠ [] then Config.objectsChanged u.bundle s.rnd.round else 0) ++ zeros 4

/-! ### What the checks of R58 need (18 R548) -/

/-- UPDATE_BEGIN. -/
def specUpdateBegin : CmdSpec := { cls := .engineer, len := lenIs 48, resp := fun _ => 16, fields := checkBegin, state := checkBeginState }
/-- UPDATE_BLOCK. -/
def specUpdateBlock : CmdSpec := { cls := .engineer, len := updateBlockLen, resp := fun r => impliedResp 1 3968 (u32At r 8) 8, fields := checkUpdateBlock, state := checkSession }
/-- UPDATE_END. -/
def specUpdateEnd : CmdSpec := { cls := .engineer, len := lenIs 4, state := checkEnd }
/-- UPDATE_ARM. -/
def specUpdateArm : CmdSpec := { cls := .engineer, len := lenIs 16, fields := checkArmUpdate, state := checkArmUpdateState }
/-- UPDATE_CONFIRM. -/
def specUpdateConfirm : CmdSpec := { cls := .engineer, len := lenIs 8, fields := checkConfirm, state := checkConfirmState }
/-- UPDATE_STATUS. -/
def specUpdateStatus : CmdSpec := { cls := .observe, urgent := true, len := lenIs 0, resp := fun _ => 64 }

/-! ### Meanings -/

/-- UPDATE_BEGIN (R549). -/
def execUpdateBegin (p : Fin 4) (m : Fin 8) (s : State) : Answer := act (runCmd 0x0D01 p m updateBegin) s

/-- UPDATE_BLOCK (R550); `stored` is whether the flash read-back matches. -/
def execUpdateBlock (p : Fin 4) (m : Fin 8) (stored : Bool) (s : State) : Answer := act (runCmd 0x0D02 p m (updateBlock stored)) s

/-- UPDATE_END (R551). -/
def execUpdateEnd (p : Fin 4) (m : Fin 8) (s : State) : Answer := act (runCmd 0x0D03 p m updateEnd) s

/-- UPDATE_ARM (R552). -/
def execUpdateArm (p : Fin 4) (m : Fin 8) (s : State) : Answer := act (runCmd 0x0D04 p m updateArm) s

/-- UPDATE_CONFIRM (R553). -/
def execUpdateConfirm (p : Fin 4) (m : Fin 8) (s : State) : Answer := act (runCmd 0x0D05 p m updateConfirm) s

/-- UPDATE_STATUS (R554). -/
def execUpdateStatus (p : Fin 4) (m : Fin 8) (s : State) : Answer := act (answer 0x0D06 p m updateStatusResponse) s

/-- UPDATE_RESTART (R552). -/
def execUpdateRestart (s : State) : Answer := act updateRestart s

/-- UPDATE_CONFIRM_EXPIRY (R544). -/
def execUpdateConfirmExpiry (s : State) : Answer := act confirmExpiry s

end Sys2Proof.Machine
end

