-- ==== Sys2Proof/Machine/General.lean ====
section
/-! DEFINITION. The general commands: IDENTIFY, GET_STATUS, READ_PLANT_TIME, COMMAND_RESULTS, SET_HOST_RIGHTS and
GET_HOST_RIGHTS (02 R81 to R87, R573). -/

namespace Sys2Proof.Machine

open Sys2Proof

/-! ### Reads (02 R82 to R84, R86, R87) -/

/-- IDENTIFY (R82). -/
def identifyResponse (e : Exec) (s : Rc8) : List Byte :=
  let parts := partsNow s
  padTo 16 s.ident.orderCode ++ padTo 16 s.ident.serial ++ le 2 s.ident.issue ++ le 1 s.pair.position ++ le 1 e.port.val ++
  le 2 (declaredLevel parts 7) ++ le 2 (declaredLevel parts 8) ++ (vlist parts).flatMap fun p => le 4 p.version

/-- Flags of GET_STATUS (R83). -/
def statusFlags (s : Rc8) : Nat :=
  flagBit (detourState s != 0) 0 + flagBit (latchedGroups s != 0) 1 + flagBit (s.tim.st == .holdover) 2 + flagBit (changeArmed s) 3 +
  flagBit (s.nv.upd.st == .armed) 4 + flagBit ((vlist s.itg.pairs).any fun x => x.st == .suspended) 5

/-- GET_STATUS, with the highest severity of an interval (R83). -/
def statusBytes (highest : Nat) (s : Rc8) : List Byte :=
  le 1 s.run.mode.code ++ le 1 s.run.key.code ++ le 1 (pairRole s) ++ le 1 (statusFlags s) ++ le 2 s.pair.epoch ++
  le 1 (s.pwr.feeds[0]).st.code ++ le 1 (s.pwr.feeds[1]).st.code ++ le 8 s.rnd.round ++ le 8 (secOf s.clk.ptu) ++ le 4 (nsOf s.clk.ptu) ++
  le 1 highest ++ zeros 3 ++ le 4 s.rnd.period ++ zeros 4

/-- GET_STATUS of a port (R83). -/
def getStatusResponse (e : Exec) (s : Rc8) : List Byte := statusBytes (((s.hp[e.port]).highest.map Sev.code).getD 0xFF) s

/-- GET_STATUS's own row: the answer, and a new severity interval of the port (R83, R573). -/
def getStatus (e : Exec) (s : Rc8) : Rc8 :=
  modPort e.port (fun h => { h with highest := none }) (endExec e.id .done (getStatusResponse e s) s)

/-- READ_PLANT_TIME (R84). -/
def readPlantTimeResponse (_ : Exec) (s : Rc8) : List Byte :=
  le 8 (secOf s.clk.ptu) ++ le 4 (nsOf s.clk.ptu) ++ le 2 (fracOf s.clk.ptu) ++ le 1 s.tim.st.code ++ zeros 1 ++ le 8 s.rnd.round ++
  le 4 s.rnd.period ++ zeros 4

/-- The 16 bytes of a completion log entry (R87). -/
def ComplEntry.bytes (x : ComplEntry) : List Byte := le 4 x.tag ++ le 2 x.code ++ le 2 x.status.code ++ le 4 x.round ++ le 1 x.mbx ++ zeros 3

/-- COMMAND_RESULTS (R87). -/
def commandResultsResponse (e : Exec) (s : Rc8) : List Byte :=
  let h := s.hp[e.port]
  padTo 528 (le 4 h.logTotal ++ le 2 h.log.length ++ zeros 10 ++ h.log.flatMap (·.bytes))

/-- One entry of GET_HOST_RIGHTS (R86). -/
def rightsEntry (p : Fin 4) (s : Rc8) : List Byte :=
  let r := rightsInForce p s
  let h := s.hp[p]
  le 1 r.cls.code ++ le 1 r.grants.toNat ++ le 1 (b2n h.link) ++ le 1 (b2n (sessionOpen p s)) ++ le 1 h.speed ++ le 1 h.width ++ zeros 2

/-- GET_HOST_RIGHTS (R86). -/
def hostRightsResponse (_ : Exec) (s : Rc8) : List Byte := rightsEntry 0 s ++ rightsEntry 1 s ++ rightsEntry 2 s ++ rightsEntry 3 s

/-! ### SET_HOST_RIGHTS (02 R65, R66, R85) -/

/-- The target port, where the field names one. -/
def rightsTarget (r : List Byte) : Option (Fin 4) := if h : u8At r 0 < 4 then some ⟨u8At r 0, h⟩ else none

/-- Class SAFETY is given or taken while a password is set: SAFETY and a session are needed (R85). -/
def needsSafety (r : List Byte) (s : Rc8) : Bool :=
  s.nv.password.isSome && (u8At r 1 == 3 || ((rightsTarget r).map fun p => (s.nv.rights[p]).cls == .safety).getD false)

/-- SET_HOST_RIGHTS, steps 3 and 4. -/
def checkRightsClass (e : Exec) (s : Rc8) : Option Status :=
  firstFail [(needsSafety e.req s && e.cls != .safety, .noAuthority), (needsSafety e.req s && !sessionOpen e.port s, .safetyLoginRequired)]

/-- SET_HOST_RIGHTS, step 5. -/
def checkRights (e : Exec) (_ : Rc8) : Option Status := if 3 < u8At e.req 0 ∨ 3 < u8At e.req 1 ∨ 32 ≤ u8At e.req 2 then some .badField else none

/-- A class that keeps the module configurable. -/
def Cls.configures (c : Cls) : Bool := c == .engineer || c == .safety

/-- The table with the entry that is asked for (R85). -/
def rightsAfter (r : List Byte) (s : Rc8) : Vector Rights 4 :=
  match rightsTarget r with
  | none => s.nv.rights
  | some p => s.nv.rights.set p { cls := Cls.ofCode (u8At r 1), grants := BitVec.ofNat 5 (u8At r 2) }

/-- SET_HOST_RIGHTS, step 6: a port that is ENGINEER or SAFETY must remain. -/
def checkRightsState (e : Exec) (s : Rc8) : Option Status :=
  if (vlist (rightsAfter e.req s)).any (fun x => x.cls.configures) then none else some .wrongState

/-- The entry is stored; the one before it stays in force until the command completes (R66). -/
def storeRights (id : Nat) (target : Fin 4) (new : Rights) (s : Rc8) : Rc8 :=
  modExec id (fun e => { e with rights := some (target, s.nv.rights[target]) }) { s with nv := { s.nv with rights := s.nv.rights.set target new } }

/-- A SET_HOST_RIGHTS is executing, so that another one ends with BUSY (R85). -/
def rightsBusy (s : Rc8) : Bool := s.execs.any fun x => x.code == 0x0010 && (x.phase == .checked || x.rights.isSome)

/-- SET_HOST_RIGHTS's own row: the entry is stored, the rules of BAR2 change with a new epoch, which the command's end waits for, and
the change takes effect as the command completes (R66, 12 R409); an entry already in force is DONE without a write; that a port
remains ENGINEER or SAFETY is looked at again as the entry is applied. -/
def setHostRights (stored : Bool) (e : Exec) (s : Rc8) : Rc8 :=
  match rightsTarget e.req with
  | none => endWith e.id .badField s
  | some p =>
    let new := (rightsAfter e.req s)[p]
    let s1 := if needsSafety e.req s then touchSession e.port s else s
    if new = s.nv.rights[p] then endWith e.id .done s1
    else if (checkRightsState e s).isSome then endWith e.id .wrongState s1
    else if !stored then endWith e.id .integrityFail s1
    else awaitRules e.id (commitRules (endWith e.id .done (storeRights e.id p new s1)))

/-! ### What the checks of R58 need (02 R81) -/

/-- IDENTIFY. -/
def specIdentify : CmdSpec := { cls := .observe, len := lenIs 0, resp := fun _ => 64 }
/-- GET_STATUS. -/
def specGetStatus : CmdSpec := { cls := .observe, urgent := true, len := lenIs 0, resp := fun _ => 40 }
/-- READ_PLANT_TIME. -/
def specReadPlantTime : CmdSpec := { cls := .observe, urgent := true, len := lenIs 0, resp := fun _ => 32 }
/-- COMMAND_RESULTS. -/
def specCommandResults : CmdSpec := { cls := .observe, urgent := true, len := lenIs 0, resp := fun _ => 528 }
/-- SET_HOST_RIGHTS. -/
def specSetHostRights : CmdSpec :=
  { cls := .engineer, len := lenIs 4, early := checkRightsClass, fields := checkRights, state := checkRightsState,
    busy := rightsBusy }
/-- GET_HOST_RIGHTS. -/
def specGetHostRights : CmdSpec := { cls := .observe, len := lenIs 0, resp := fun _ => 32 }

/-! ### Meanings -/

/-- IDENTIFY (R82). -/
def execIdentify (p : Fin 4) (m : Fin 8) (s : State) : Answer := act (answer 0x0001 p m identifyResponse) s

/-- GET_STATUS (R83). -/
def execGetStatus (p : Fin 4) (m : Fin 8) (s : State) : Answer := act (runCmd 0x0002 p m getStatus) s

/-- READ_PLANT_TIME (R84). -/
def execReadPlantTime (p : Fin 4) (m : Fin 8) (s : State) : Answer := act (answer 0x0003 p m readPlantTimeResponse) s

/-- COMMAND_RESULTS (R87). -/
def execCommandResults (p : Fin 4) (m : Fin 8) (s : State) : Answer := act (answer 0x0004 p m commandResultsResponse) s

/-- SET_HOST_RIGHTS (R85); `stored` is whether the MRAM read-back matches. -/
def execSetHostRights (p : Fin 4) (m : Fin 8) (stored : Bool) (s : State) : Answer := act (runCmd 0x0010 p m (setHostRights stored)) s

/-- GET_HOST_RIGHTS (R86). -/
def execGetHostRights (p : Fin 4) (m : Fin 8) (s : State) : Answer := act (answer 0x0011 p m hostRightsResponse) s

end Sys2Proof.Machine
end

