-- ==== Sys2Proof/Machine/Keys.lean ====
section
/-! DEFINITION. The key switch (08 R262, R264, R269; 11 R369; 12 R388; 15 R495). -/

namespace Sys2Proof.Machine

open Sys2Proof

/-- KEY_CHANGED: a new position counts. It ends every safety session, at RUN a debug session, and trim mode where it
leaves STOP; then the mode, the comparison of the two keys and the eligibility follow. -/
def keyChanged (k : Key) (s : Rc8) : Rc8 :=
  let old := s.run.key
  if k = old ∨ svpRuns s = false then s
  else
    let s1 := raise { src := 16, reason := 0x02, sev := .notice, p0 := old.code, p1 := k.code, p2 := s.pair.position }
      (modRun (fun r => { r with key := k }) s)
    let s2 := endSessions 3 s1
    let s3 := if k = .run then closeSession 3 0xFF none s2 else s2
    let s4 := if old = .stop then leaveTrim 3 s3 else s3
    updateReady (compareKeys (keyMode k s4))

/-- KEY_CHANGED (R262). -/
def execKeyChanged (k : Key) (s : State) : Answer := act (keyChanged k) s

end Sys2Proof.Machine
end

