-- ==== Sys2Proof/Machine/Mailbox.lean ====
section
/-! DEFINITION. The acknowledgement of a mailbox: the order in which the SVP takes them, the table of every command code,
and the checks of R58 (01 R31; 02 R56 to R58, R62, R66, R77, R78). -/

namespace Sys2Proof.Machine

open Sys2Proof

/-! ### Command codes (02 R77, R78) -/

/-- General commands. -/
def generalTable : List (Nat × CmdSpec) :=
  [(0x0001, specIdentify), (0x0002, specGetStatus), (0x0003, specReadPlantTime), (0x0004, specCommandResults),
   (0x0010, specSetHostRights), (0x0011, specGetHostRights)]

/-- Modes and programs. -/
def modeTable : List (Nat × CmdSpec) :=
  [(0x0101, specSetMode), (0x0102, specGetMode), (0x0103, specProgramLoad), (0x0104, specProgramActivate),
   (0x0105, specTaskStatus)]

/-- Online change. -/
def changeTable : List (Nat × CmdSpec) :=
  [(0x0201, specChangeLoad), (0x0202, specChangeArm), (0x0203, specChangeAbort), (0x0204, specChangeStatus)]

/-- Recorder. -/
def recorderTable : List (Nat × CmdSpec) :=
  [(0x0301, specRecorderRead), (0x0302, specRecorderClear), (0x0303, specRecorderStatus)]

/-- Budan. -/
def budanTable : List (Nat × CmdSpec) :=
  [(0x0401, specNetStatus), (0x0402, specNetPortCounters), (0x0403, specNetNodeList), (0x0404, specNetSetMedia),
   (0x0405, specNetRelease), (0x0406, specNetAttach), (0x0410, specSchedStatus), (0x0411, specSchedLoad),
   (0x0412, specSchedSwitch), (0x0413, specSchedDelete), (0x0414, specSchedChannelCounters), (0x0415, specSchedWindowStatus),
   (0x0416, specNodeStop)]

/-- Engine. -/
def engineTable : List (Nat × CmdSpec) :=
  [(0x0501, specEngineStatus), (0x0502, specEngineParamWrite), (0x0503, specEngineParamRead), (0x0504, specEngineBankCopy),
   (0x0505, specEngineBankSwap), (0x0506, specEngineAxisReset), (0x0507, specEngineAxisHalt), (0x0508, specEngineAxisStatus)]

/-- Repetitive learning. -/
def learnTable : List (Nat × CmdSpec) :=
  [(0x0601, specLearnStatus), (0x0602, specLearnConfigure), (0x0603, specLearnControl), (0x0604, specLearnTableRead),
   (0x0605, specLearnTableWrite), (0x0606, specLearnSnapshot), (0x0607, specLearnRestore), (0x0608, specLearnClear)]

/-- Redundancy. -/
def pairTable : List (Nat × CmdSpec) :=
  [(0x0701, specCrossoverRequest), (0x0702, specPairStatus), (0x0703, specSetHome), (0x0704, specPairResync)]

/-- Safety. -/
def safetyTable : List (Nat × CmdSpec) :=
  [(0x0801, specSafetyLogin), (0x0802, specSafetyLoad), (0x0803, specSafetyActivate), (0x0804, specSafetyLogRead),
   (0x0805, specDetourStatus), (0x0806, specSafetyStatus), (0x0807, specSafetyLogout), (0x0808, specSafetyPassword),
   (0x0809, specSafeStopReset)]

/-- Access control and memory. -/
def accessTable : List (Nat × CmdSpec) :=
  [(0x0901, specAcuRelease), (0x0902, specAcuLogRead), (0x0903, specAcuStatus), (0x0904, specAcuRulesRead),
   (0x0905, specMemoryStatus)]

/-- Plant time, Ethernet and rounds. -/
def timeTable : List (Nat × CmdSpec) :=
  [(0x0A01, specTimeAcceptStep), (0x0A02, specTimeStatus), (0x0A03, specTimeConfigure), (0x0A10, specEthConfigure),
   (0x0A11, specEthStatus), (0x0A20, specPeerConfigure), (0x0A21, specPeerStatus), (0x0A40, specMilestoneRead),
   (0x0A41, specMilestoneWrite), (0x0A42, specRoundSetPeriod), (0x0A43, specRoundStatus)]

/-- CAN. -/
def canTable : List (Nat × CmdSpec) :=
  [(0x0B01, specCanConfigure), (0x0B02, specCanStatus), (0x0B03, specCanRxConfigure), (0x0B04, specCanRxRead),
   (0x0B05, specCanTxWrite), (0x0B06, specCanTxCancel), (0x0B07, specCanTxStatus), (0x0B08, specCanRecover),
   (0x0B09, specCanStop)]

/-- Field front. -/
def fieldTable : List (Nat × CmdSpec) :=
  [(0x0C01, specFfeDioConfigure), (0x0C02, specFfeLoopConfigure), (0x0C03, specFfeStatus), (0x0C04, specFfeLoopTrim),
   (0x0C05, specFfeDioReset)]

/-- Update. -/
def updateTable : List (Nat × CmdSpec) :=
  [(0x0D01, specUpdateBegin), (0x0D02, specUpdateBlock), (0x0D03, specUpdateEnd), (0x0D04, specUpdateArm),
   (0x0D05, specUpdateConfirm), (0x0D06, specUpdateStatus)]

/-- Debug. -/
def debugTable : List (Nat × CmdSpec) :=
  [(0x0E01, specDebugUnlock), (0x0E02, specDebugLock), (0x0E03, specLockstepStatus), (0x0E04, specSplitSet),
   (0x0E05, specDebugBreakpoint), (0x0E06, specDebugTask), (0x0E07, specDebugRead)]

/-- Power. -/
def powerTable : List (Nat × CmdSpec) :=
  [(0x0F01, specPowerStatus)]

/-- Every command code that a chapter defines. -/
def commandTable : List (Nat × CmdSpec) :=
  generalTable ++ modeTable ++ changeTable ++ recorderTable ++ budanTable ++ engineTable ++
  learnTable ++ pairTable ++ safetyTable ++ accessTable ++ timeTable ++
  canTable ++ fieldTable ++ updateTable ++ debugTable ++ powerTable

/-- What a code names; every other code is undefined (R77). -/
def specOf (code : Nat) : Option CmdSpec := (commandTable.find? fun x => x.1 == code).map (·.2)

/-! ### The checks (02 R58) -/

/-- Commands that a first session accepts beside the OBSERVE commands: SAFETY_LOGOUT and SAFETY_PASSWORD (11 R368). -/
def firstSessionTakes (code : Nat) (c : CmdSpec) : Bool := c.cls == .observe || code == 0x0807 || code == 0x0808

/-- Step 4: a safety session is needed, or only a first session is open (02 R58, 11 R368). -/
def checkSession4 (c : CmdSpec) (e : Exec) (s : Rc8) : Option Status :=
  firstFail [(c.session && !sessionOpen e.port s, .safetyLoginRequired),
             (firstSession e.port s && !firstSessionTakes e.code c, .safetyLoginRequired)]

/-- Steps 1 and 2: urgent-capable in mailbox 0, and the lengths. -/
def checkForm (c : CmdSpec) (reqLen : Nat) (e : Exec) : Option Status :=
  firstFail [(e.mbx == 0 && !c.urgent, .badCommand),
             (decide (4032 < reqLen ∨ 4032 < e.cap ∨ e.cap < c.resp e.req) || !c.len e.req, .badLength)]

/-- Step 3: the class in force at the acknowledgement. -/
def checkClass (c : CmdSpec) (e : Exec) : Option Status := if e.cls.code < c.cls.code then some .noAuthority else none

/-- Steps 1 to 4. -/
def checkAccess (c : CmdSpec) (reqLen : Nat) (e : Exec) (s : Rc8) : Option Status :=
  checkForm c reqLen e <|> checkClass c e <|> c.early e s <|> checkSession4 c e s

/-- The checks of R58, in their order. -/
def checkCommand (c : CmdSpec) (reqLen : Nat) (e : Exec) (s : Rc8) : Option Status :=
  checkAccess c reqLen e s <|> c.fields e s <|> c.state e s

/-! ### Acknowledgement (01 R31; 02 R54, R56, R62) -/

/-- POSTED mailboxes of a port. -/
def postedOf (p : Fin 4) (s : Rc8) : List (Fin 4 × Fin 8) :=
  (([0, 1, 2, 3, 4, 5, 6, 7] : List (Fin 8)).filter fun m => ((s.hp[p]).mbx[m]).state == .posted).map fun m => (p, m)

/-- Every POSTED mailbox. -/
def postedAll (s : Rc8) : List (Fin 4 × Fin 8) := postedOf 0 s ++ postedOf 1 s ++ postedOf 2 s ++ postedOf 3 s

/-- The earliest arrival of a list. -/
def earliest (s : Rc8) : List (Fin 4 × Fin 8) → Option (Fin 4 × Fin 8)
  | [] => none
  | x :: l =>
    match earliest s l with
    | none => some x
    | some y => if ((s.hp[x.1]).mbx[x.2]).order ≤ ((s.hp[y.1]).mbx[y.2]).order then some x else some y

/-- The urgent mailbox that arrived first (01 R31). -/
def nextUrgent (s : Rc8) : Option (Fin 4 × Fin 8) := earliest s ((postedAll s).filter fun x => x.2 == 0)

/-- The other mailbox that arrived first. -/
def nextOther (s : Rc8) : Option (Fin 4 × Fin 8) := earliest s ((postedAll s).filter fun x => x.2 != 0)

/-- The requests of the service channels that this module serves: on a standby the holder's, which it keeps, are not its to serve (08
R270; 10 R326). -/
def servedChannel (s : Rc8) : List SvcReq := if isStandby s then [] else s.run.channel

/-- The mailbox the SVP takes next: urgent mailboxes first, and within each group by arrival; no other one while the service
channels hold a request (01 R31). -/
def nextMailbox (s : Rc8) : Option (Fin 4 × Fin 8) := nextUrgent s <|> (if servedChannel s = [] then nextOther s else none)

/-- The request length in a mailbox's header. -/
def Mailbox.reqLen (b : Mailbox) : Nat := u32At (memReadN b.mem 8 4) 0

/-- The command a mailbox carries, as it is acknowledged (02 R53, R66). -/
def commandOf (p : Fin 4) (m : Fin 8) (s : Rc8) : Exec :=
  let b := (s.hp[p]).mbx[m]
  let h := memReadN b.mem 0 16
  { id := s.nextExec, port := p, mbx := m, code := u16At h 0, tag := u32At h 4, noIrq := b.noIrq,
    req := if b.reqLen ≤ 4032 then memReadN b.mem 64 b.reqLen else [], cap := u32At h 12, cls := (rightsInForce p s).cls,
    phase := .checked, start := s.clk.refosc, pendingSent := false, portReset := false, rules := none, rights := none, task := none }

/-- A command that failed a check completes its mailbox with the check's status (02 R58). -/
def refuseCommand (e : Exec) (st : Status) (s : Rc8) : Rc8 := deliver e st [] s

/-- A command that passed its checks begins to execute; one that conflicts with a command executing ends with BUSY. -/
def beginExec (busy : Bool) (e : Exec) (s : Rc8) : Rc8 :=
  { s with execs := s.execs ++ [if busy then { e with phase := .ended .busy [] } else e] }

/-- The checks of one command, and where they lead; a command that needs the session counts for its idle time once its
port has the right to it (11 R369). MILESTONE_WRITE's fields are judged by the round-plan check, with which the break margins are
computed anew (03 R105; 04 R128). -/
def judge (reqLen : Nat) (e : Exec) (s : Rc8) : Rc8 :=
  match specOf e.code with
  | none => refuseCommand e .badCommand s
  | some c =>
    let t0 := if c.session && (checkAccess c reqLen e s).isNone then touchSession e.port s else s
    let t := if e.code = 0x0A41 ∧ (checkAccess c reqLen e s).isNone = true then (runPlanCheck t0).1 else t0
    match checkCommand c reqLen e s with
    | some st => refuseCommand e st t
    | none => beginExec (c.busy s) e t

/-- The SVP takes one mailbox: BUSY, and its checks. -/
def acknowledge (p : Fin 4) (m : Fin 8) (s : Rc8) : Rc8 :=
  judge ((s.hp[p]).mbx[m]).reqLen (commandOf p m s)
    { modMbx p m (fun b => { b with state := .busy }) s with nextExec := s.nextExec + 1 }

end Sys2Proof.Machine
end

