-- ==== Sys2Proof/Machine/Services.lean ====
section
/-! DEFINITION. The order in which the SVP serves mailboxes and service channels, the services of a task that are also
commands, and the end of a task's cycle with the requests it made (01 R31; 02 R56; 08 R248, R270; 14 R452, R453). -/

namespace Sys2Proof.Machine

open Sys2Proof

/-! ### Services that are also commands (08 R270) -/

/-- Class of a program authority (08 R244). -/
def authorityClass (s : Rc8) : Cls := Cls.ofCode ((s.nv.active.map (·.authority)).getD 0)

/-- Services that need OPERATE: LEARN_CONTROL, ENGINE_AXIS_RESET, ENGINE_AXIS_HALT and NODE_STOP (*Table: Runtime services*). -/
def operateServices : List Nat := [0x0603, 0x0506, 0x0507, 0x0416]

/-- Services that need OBSERVE: recorder and status reads, and the CAN objects (*Table: Runtime services*). -/
def observeServices : List Nat := [0x0301, 0x0302, 0x0002, 0x0401, 0x0410, 0x0501, 0x0601, 0x0A43] ++ [0x0B04, 0x0B05, 0x0B06, 0x0B07]

/-- Services answered in the call: buffer access of CAN (*Table: Runtime services*). -/
def inCall (code : Nat) : Bool := decide (0x0B04 ≤ code ∧ code ≤ 0x0B07)

/-- What a service needs: the checks of its command, with the class of the table of services. -/
def serviceSpec (code : Nat) : Option CmdSpec :=
  if operateServices.contains code then (specOf code).map fun c => { c with cls := .operate }
  else if observeServices.contains code then (specOf code).map fun c => { c with cls := .observe }
  else none

/-- RECORDER_CLEAR by the program (16 R510, R514). -/
def programClear (stored : Bool) (e : Exec) (s : Rc8) : Rc8 :=
  if otherWaiting s 0x0302 e.id then endWith e.id .busy s
  else if stored then endExec e.id .done (le 4 s.nv.recLog.nextSeq) (recClear 0xFF s)
  else endWith e.id .integrityFail (clearFailed s)

/-- A service answers with a response. -/
def respond (f : Exec → Rc8 → List Byte) (e : Exec) (s : Rc8) : Rc8 := endExec e.id .done (f e s) s

/-- Services that read and change nothing, with their responses. GET_STATUS has no port whose severity interval it reads, so it
reads none. -/
def readService (code : Nat) : Option (Exec → Rc8 → List Byte) :=
  match code with
  | 0x0002 => some fun _ => statusBytes 0xFF
  | 0x0301 => some recorderReadResponse
  | 0x0401 => some fun _ s => netStatusBlock 0 s ++ netStatusBlock 1 s
  | 0x0410 => some schedStatusResponse
  | 0x0501 => some engineStatusResponse
  | 0x0601 => some learnStatusResponse
  | 0x0A43 => some roundStatusResponse
  | _ => none

/-- What a service that is no such read does: as its command. -/
def actService (code : Nat) (stored : Bool) : Exec → Rc8 → Rc8 :=
  match code with
  | 0x0302 => programClear stored
  | 0x0416 => nodeStop
  | 0x0506 => axisRequest
  | 0x0507 => axisRequest
  | 0x0603 => learnMask
  | 0x0B04 => rxRead
  | 0x0B05 => canWrite
  | 0x0B06 => txCancel
  | 0x0B07 => respond txStatusResponse
  | _ => fun e => endWith e.id .badCommand

/-- What a service does. -/
def serviceRow (code : Nat) (stored : Bool) : Exec → Rc8 → Rc8 :=
  match readService code with
  | some f => respond f
  | none => actService code stored

/-- A task's request as a command of the module's own: no port, and the authority of the image. -/
def serviceExec (t : Fin 8) (code : Nat) (req : List Byte) (s : Rc8) : Exec :=
  { id := s.nextExec, port := 0, mbx := 1, code := code, tag := 0, noIrq := true, req := req, cap := 4032, cls := authorityClass s,
    phase := .checked, start := s.clk.refosc, pendingSent := false, portReset := false, rules := none, rights := none, task := some t }

/-- The status with which a request is turned away, as its command is (08 R270). -/
def serviceRefusal (e : Exec) (s : Rc8) : Option Status :=
  match serviceSpec e.code with
  | none => some .badCommand
  | some c => checkCommand c e.req.length e s <|> (if c.busy s then some .busy else none)

/-- A request begins to execute as its command does; the status where it is turned away. -/
def runService (t : Fin 8) (code : Nat) (req : List Byte) (stored : Bool) (s : Rc8) : Rc8 :=
  let e := serviceExec t code req s
  serviceRow code stored e { s with execs := s.execs ++ [e], nextExec := s.nextExec + 1 }

/-- The SVP serves a request: an event, a record, or a command, whose result is delivered when it has ended (R270). -/
def serveCall (t : Fin 8) (c : SvcCall) (s : Rc8) : Rc8 :=
  match c with
  | .event reason sev p0 p1 p2 => serveEvent t reason sev p0 p1 p2 s
  | .record code p0 p1 => serveRecord t code p0 p1 s
  | .command code req stored =>
    match serviceRefusal (serviceExec t code req s) s with
    | some st => serviceResult t (serviceBytes st []) s
    | none => runService t code req stored s

/-- The answer of a service in the call, as the command that just ended gives it. -/
def endedAnswer (id : Nat) (s : Rc8) : Status × List Byte :=
  match s.execs.find? fun e => e.id == id with
  | some e =>
    (match e.phase with
     | .ended st resp => (st, resp)
     | _ => (.busy, []))
  | none => (.busy, [])

/-- A CAN object service: answered in the call, executed by the holder; the standby takes what the holder read, and counts what
would transmit (R270; 14 R453). -/
def callNow (t : Fin 8) (code : Nat) (req : List Byte) (stored : Bool) (s : Rc8) : Rc8 :=
  if isStandby s then
    serviceInCall t (fun s => if code = 0x0B05 ∨ code = 0x0B06 then modRun (fun r => { r with notExecuted := inc32 r.notExecuted }) s else s) .done [] s
  else match serviceRefusal (serviceExec t code req s) s with
    | some st => serviceInCall t id st [] s
    | none =>
      let s1 := runService t code req stored s
      let a := endedAnswer s.nextExec s1
      serviceInCall t id a.1 a.2 { s1 with execs := s1.execs.filter fun e => e.id != s.nextExec }

/-- The module's own result of a request that reads and changes nothing (10 R319); of any other, none. -/
def ownResult (t : Fin 8) (c : SvcCall) (s : Rc8) : List Byte :=
  match c with
  | .command code req _ =>
    (match readService code with
     | some f =>
       let e := serviceExec t code req s
       (match serviceRefusal e s with
        | some st => serviceBytes st []
        | none => serviceBytes .done (f e s))
     | none => [])
  | _ => []

/-- A service that a task calls within its cycle. -/
def taskCall (t : Fin 8) (s : Rc8) (c : SvcCall) : Rc8 :=
  match c with
  | .command code req stored => if inCall code then callNow t code req stored s else serviceRequest t c (ownResult t c s) (serveCall t c) s
  | _ => serviceRequest t c [] (serveCall t c) s

/-- The end of a cycle, after the calls that it made. -/
def endCycle (t : Fin 8) (o : CycleOut) (s : Rc8) : Rc8 :=
  if executes t s then cycleEnd t o (o.calls.foldl (taskCall t) s) else s

/-! ### The order of service (01 R31; 02 R56) -/

/-- MAILBOX_ACKNOWLEDGE: nothing is taken while the service firmware does not serve; urgent mailboxes come first, then the
service channels in the order of their requests, then the other mailboxes. -/
def mailboxAcknowledge (s : Rc8) : Rc8 :=
  if s.svpReady && svpRuns s then
    match nextUrgent s, servedChannel s with
    | some x, _ => acknowledge x.1 x.2 s
    | none, r :: rest => serveCall r.task r.call (modRun (fun u => { u with channel := rest }) s)
    | none, [] =>
      match nextOther s with
      | some x => acknowledge x.1 x.2 s
      | none => s
  else s

/-! ### Meanings -/

/-- TASK_CYCLE_END (08 R248). -/
def execTaskCycleEnd (t : Fin 8) (o : CycleOut) (s : State) : Answer := act (endCycle t o) s

/-- MAILBOX_ACKNOWLEDGE (02 R58). -/
def execMailboxAcknowledge (s : State) : Answer := act mailboxAcknowledge s

end Sys2Proof.Machine
end

