-- ==== Sys2Proof/Machine/Start.lean ====
section
/-! DEFINITION. The start of the module: recorder, records of PD0, installation and trial of firmware, domains,
self-test, runtime, tables, plan check and the holds (01 R38; 03 R105; 07 R239; 08 R253; 09 R283; 10 R305, R317, R335;
11 R360; 12 R385, R405; 16 R509; 17 R519, R532; 18 R540 to R545). -/

namespace Sys2Proof.Machine

open Sys2Proof

/-! ### Recorder and PD0 (16 R509, 17 R532, 12 R385, R405, 09 R283) -/

/-- MODULE_START, the first event after the recorder is restored: the newest sequence before the start. -/
def startEvent (s : Rc8) : Ev :=
  let l := s.nv.recLog
  { src := 10, reason := 0x01, sev := .notice, p0 := s.pwr.cause,
    p1 := ((l.log.getLast?.map (·.seq)).getD ((l.nextSeq + 0xFFFFFFFF) % 2 ^ 32)), p2 := s.nv.watchdogs }

/-- What PD0 recorded of the SVP before the reset is raised now (12 R385, R405). -/
def raisePd0 (s : Rc8) : Rc8 :=
  let s1 := match s.nv.pd0Mismatch with
    | none => s
    | some r => raise (mismatchEvent 2 r 1) s
  let s2 := match s.nv.pd0Violation with
    | none => s1
    | some x => raise (violationEvent x) s1
  { s2 with nv := { s2.nv with pd0Mismatch := none, pd0Violation := none } }

/-- A change that the reset met in PREPARING or ARMED is abandoned, its package kept (09 R283, R284). -/
def abandonAtStart (s : Rc8) : Rc8 :=
  if s.nv.armedAtReset then
    raise { src := 24, reason := 0x05, sev := .error, p0 := 6, p1 := lo32 s.rnd.round, p2 := 0 }
      { s with nv := { s.nv with armedAtReset := false }, chg := { s.chg with result := 2, cause := 6 } }
  else s

/-! ### Old-format copies (18 R544, R545) -/

/-- The configuration objects as they stand (R545). -/
def Nv.configs (v : Nv) : StoredCfg :=
  { storedPeriod := v.storedPeriod, hostMilestones := v.hostMilestones, media := v.media, schedules := v.schedules, schedActive := v.schedActive,
    banks := v.banks, bankActive := v.bankActive, learnCfg := v.learnCfg, snaps := v.snaps, active := v.active,
    loaded := v.loaded, package := v.package, retainUse := v.retainUse, home := v.home, settle := v.settle, split := v.split,
    ptp := v.ptp, ethCfg := v.ethCfg, peerCfg := v.peerCfg, canCfg := v.canCfg, canRx := v.canRx,
    pinCfg := v.pinCfg, loopCfg := v.loopCfg, trims := v.trims }

/-- The configuration objects of an old-format copy, in force (R544). -/
def Nv.withConfigs (v : Nv) (c : StoredCfg) : Nv :=
  { v with
    storedPeriod := c.storedPeriod, hostMilestones := c.hostMilestones, media := c.media, schedules := c.schedules, schedActive := c.schedActive,
    banks := c.banks, bankActive := c.bankActive, learnCfg := c.learnCfg, snaps := c.snaps, active := c.active,
    loaded := c.loaded, package := c.package, retainUse := c.retainUse, home := c.home, settle := c.settle, split := c.split,
    ptp := c.ptp, ethCfg := c.ethCfg, peerCfg := c.peerCfg, canCfg := c.canCfg, canRx := c.canRx,
    pinCfg := c.pinCfg, loopCfg := c.loopCfg, trims := c.trims }

/-- A fallback reads the old-format copy of every configuration object, and so does what a start takes from them; without
copies nothing changes (R544, R545). -/
def readOldFormat (s : Rc8) : Rc8 :=
  match s.nv.oldFormat with
  | none => s
  | some c =>
    let r := Rc8.resetWith { s.nv.withConfigs c with oldFormat := none }
    { s with nv := r.nv, rnd := r.rnd, net := r.net, learn := r.learn, chg := { s.chg with st := r.chg.st }, itg := r.itg }

/-! ### Installation and trial (18 R540 to R545) -/

/-- The part codes of the update's manifest. -/
def manifestParts (s : Rc8) : List Nat := s.nv.upd.manifest.map (·.part)

/-- A pending revert is applied: the previous images, and the objects as they stood at installation (R544). -/
def pendingRevert (s : Rc8) : Rc8 :=
  if s.nv.upd.revert = [] then s
  else readOldFormat (modUpd (fun u => { u with revert := [], result := 3 }) (revertSlots s.nv.upd.revert s))

/-- An installation or a migration failed, or the third trial start has passed: the slot changes are undone in reverse
order, the old-format copies are read and the update ends (R541, R542, R544). -/
def giveUp (cause : Nat) (parts : List Nat) (s : Rc8) : Rc8 :=
  modUpd (fun u => { updateIdle u with result := 3 }) (readOldFormat (updateReverted cause 1 (revertSlots parts.reverse s)))

/-- A part's image goes into its inactive slot, which comes into force: PART_INSTALLED (R541). -/
def installPart (step : Nat) (m : ManEntry) (s : Rc8) : Rc8 :=
  let put := fun (f : FwSlots) =>
    let k : Fin 2 := if f.inForce = 0 then 1 else 0
    { inForce := k, slots := f.slots.set k m.image }
  raise { src := 117, reason := 0x01, sev := .notice, p0 := m.part, p1 := m.image.version, p2 := step }
    { s with nv := { s.nv with parts := vput s.nv.parts (m.part - 1) put } }

/-- The parts of a manifest in order, each with its self-check: the parts installed so far, and whether every one
passed. -/
def installParts (step : Nat) (checks : List Bool) : List ManEntry → List Nat → Rc8 → (Bool × List Nat × Rc8)
  | [], done, s => (true, done, s)
  | m :: l, done, s =>
    if checks.headD true then installParts (step + 1) checks.tail l (done ++ [m.part]) (installPart step m s)
    else (false, done ++ [m.part], { s with nv := { s.nv with parts := (installPart step m s).nv.parts } })

/-- UPDATE_TRIAL of the trial start in force (R540). -/
def trialStarts (s : Rc8) : Rc8 :=
  raise { src := 117, reason := 0x02, sev := .warning, p0 := s.nv.upd.trial, p1 := windowLeft s, p2 := lo32 s.nv.upd.bundle } s

/-- SETTINGS_MIGRATED, where objects were migrated (R545). -/
def settingsMigrated (x : StartReport) (s : Rc8) : Rc8 :=
  let s1 := modUpd (fun u => { u with migrated := x.migrated }) s
  if x.migrated = 0 then s1
  else raise { src := 117, reason := 0x05, sev := .info, p0 := x.migrated, p1 := x.oldFormat + 65536 * x.newFormat, p2 := 0 } s1

/-- The installation of an armed bundle, and its first trial start, which keeps the objects as they stand (R541, R542, R545). -/
def install (x : StartReport) (s : Rc8) : Rc8 :=
  if (bundleIntact (staged s.nv.upd) s).isSome then giveUp 3 [] s
  else
    let r := installParts 1 x.checks s.nv.upd.manifest [] s
    if !r.1 || !x.migrationOk then giveUp 3 r.2.1 r.2.2
    else
      let s1 := modUpd (fun u => { u with st := .trial, trial := 1, used := 0 }) r.2.2
      settingsMigrated x (trialStarts { s1 with nv := { s1.nv with oldFormat := some s1.nv.configs } })

/-- Start, in each state of the update (*Table: Update state machine*). -/
def updateStart (x : StartReport) (s0 : Rc8) : Rc8 :=
  let s := pendingRevert s0
  match s.nv.upd.st with
  | .armed => install x s
  | .trial =>
    if 3 ≤ s.nv.upd.trial then giveUp 2 (manifestParts s) s
    else trialStarts (modUpd (fun u => { u with trial := u.trial + 1 }) s)
  | _ => s

/-- FIRMWARE_RUNNING: the service firmware's and the runtime's versions, and the trial start (R555). -/
def firmwareRunning (s : Rc8) : Rc8 :=
  let now := partsNow s
  raise { src := 0, reason := 0x01, sev := .notice, p0 := now[1].version, p1 := now[4].version, p2 := if s.nv.upd.st = .trial then s.nv.upd.trial else 0 } s

/-! ### Domains (01 R38) -/

/-- A task of the active image is assigned to AP1. -/
def usesAp1 (s : Rc8) : Bool :=
  (s.nv.active.map fun x => (List.range 8).any fun t => (x.task t).period != 0 && decide (2 ≤ (x.task t).core)).getD false

/-- A DIO pin, a loop channel or a safety output is configured. -/
def usesField (s : Rc8) : Bool :=
  (vlist s.nv.pinCfg).any (fun c => c.mode != 0) || (vlist s.nv.loopCfg).any (fun c => c.mode != 0) ||
  ((activeSet s).map fun b => (List.range 8).any fun j => bitAt (outMode b j) 0).getD false

/-- A plant Ethernet port or a CAN port is configured. -/
def usesPd9 (s : Rc8) : Bool :=
  s.nv.ptp.mask != 0 || (vlist s.nv.ethCfg).any (fun c => c.enabled) || (vlist s.nv.canCfg).any fun c => bitAt c.flags 0

/-- The domains that the stored configuration switches on at start (R38). -/
def domainsAtStart (s : Rc8) : BitVec 12 :=
  0x467#12 ||| BitVec.ofNat 12 (flagBit (usesAp1 s) 3 + flagBit (configuredAxes s != []) 4 + flagBit (configured 0 s) 7 +
    flagBit (configured 1 s) 8 + flagBit (usesPd9 s) 9 + flagBit (usesField s) 11)

/-! ### Position, insertion steps, plan (10 R305, R335; 03 R105) -/

/-- The position is read from the slot coding; one that cannot be read runs as 0 (10 R305). -/
def readPosition (s : Rc8) : Rc8 :=
  let s1 := modPair (fun q => { q with position := s.ident.slot }) s
  if s.ident.slot = 0 then raise { src := 63, reason := 0x03, sev := .error, p0 := 4, p1 := pairLevel s1, p2 := s1.pair.partner.level } s1 else s1

/-- INSERTION_STEP of a step before joining, with its duration in ms; one that took longer than its maximum leaves its bit (10 R335). -/
def startStep (k ms : Nat) (s : Rc8) : Rc8 :=
  raise { src := 63, reason := 0x04, sev := .info, p0 := k, p1 := ms, p2 := 0 }
    (if stepMaximum k < 1000000 * ms then modPair (fun q => { q with stepFailed := q.stepFailed ||| stepBit k }) s else s)

/-- So many ms of the start pass; the round number is that of the plant time reached (03 R91). -/
def passMs (ms : Nat) (s : Rc8) : Rc8 :=
  let s1 := atRefosc (s.clk.refosc + 1000000 * ms) s
  { s1 with rnd := { s1.rnd with round := roundOf s1.rnd.period s1.clk.ptu } }

/-- The stored plan is checked, and with it the break margins (03 R105, 04 R128); while it fails, RUN is refused (08 R264). -/
def checkStoredPlan (s0 : Rc8) : Rc8 :=
  let s := updateMargins 1 (updateMargins 0 s0)
  match planCheck (storedPlan s) with
  | none => s
  | some f => configRefused f { s with run := { s.run with planBad := true } }

/-- SPLIT_REFUSED, where AP0 is split without single-channel use (11 R360). -/
def splitCheck (s : Rc8) : Rc8 :=
  if splitRefused s then
    raise { src := 69, reason := 0x04, sev := .critical, p0 := ((activeSet s).map setVersion).getD 0, p1 := 0, p2 := 0 } s
  else s

/-- The runtime starts (08 R253). The tables are restored where the module claims the token: one that joins a running pair does
not restore, and receives them by resync (07 R239). -/
def startPrograms (x : StartReport) (s : Rc8) : Rc8 := modRun (fun r => { r with retainBad := !x.retainOk }) (startRuntime s)

/-- Every configured network starts its attach sequence (04 R138). -/
def attachAll (s : Rc8) : Rc8 := (nets s).foldl (fun s n => startAttach n none 0xFF s) s

/-- The service firmware is ready: mailboxes are served, the wait for a claim counts from now, and a trial's confirm
window runs (02 R56, 10 R317, 18 R542). -/
def serviceReady (s : Rc8) : Rc8 :=
  modPair (fun q => { q with claimRef := s.clk.refosc, step := 4, stepFrom := s.clk.refosc })
    { s with svpReady := true, trialFrom := if s.nv.upd.st = .trial then some s.clk.refosc else none }

/-! ### The start (17 R519, R521) -/

/-- Bring-up: steps 1 and 2, with the recorder, PD0, installation and the position; with PD10 on, the pair link trains (10 R335). -/
def bringUp (x : StartReport) (s : Rc8) : Rc8 :=
  let s1 := passMs (x.steps[0] + x.steps[1]) { s with pwr := { s.pwr with powered := true }, run := { s.run with key := x.key } }
  let s2 := abandonAtStart (raisePd0 (raise (startEvent s1) (recRecover s1)))
  let s3 := readPosition (updateStart x s2)
  let s4 := modPair (fun q => { q with training := some s3.clk.refosc }) { s3 with pwr := { s3.pwr with domains := domainsAtStart s3 } }
  startStep 2 x.steps[1] (startStep 1 x.steps[0] (firmwareRunning s4))

/-- Self-test: step 3, with the load of the active set and the axis maps into the SML (11 R346, R357, R359). -/
def selfTest (x : StartReport) (s : Rc8) : Rc8 :=
  let s1 := loadMaps (passMs x.steps[2] s)
  let s2 := modChannel 1 (fun c => { c with tested := x.selfTest && x.smlTest }) (modChannel 0 (fun c => { c with tested := x.selfTest })
    (modSaf (fun y => { y with sml := { y.sml with crc := (s1.nv.safeActive.map fun b => crcWithout b 12).getD 0, failed := !x.smlTest } })
      (modPair (fun q => { q with selfTest := x.selfTest }) s1)))
  startStep 3 x.steps[2] (splitCheck s2)

/-- MODULE_START: a module that runs does not start again. -/
def moduleStart (x : StartReport) (s : Rc8) : Rc8 :=
  if s.svpReady || !svpRuns s then s
  else
    let s1 := checkStoredPlan (startPrograms x (selfTest x (bringUp x s)))
    stepsAdvance (ptpRestart (loopsHold (attachAll (serviceReady s1))))

/-- MODULE_START (R519). -/
def execModuleStart (x : StartReport) (s : State) : Answer :=
  actIf (decide (x.migrated < 2 ^ 32 ∧ x.oldFormat < 65536 ∧ x.newFormat < 65536)) "MODULE_START" (moduleStart x) s

end Sys2Proof.Machine
end

