-- ==== Sys2Proof/Machine/Dispatch.lean ====
section
/-! DEFINITION. One arm per command of the block: the command's meaning, called directly. -/

namespace Sys2Proof.Machine

open Sys2Proof

/-- The effect of a command on everything but the queue. -/
def exec (i : Instr) (s : State) : Host.Outcome State Fault Refusal :=
  match i with
  | .mailboxWrite p off data => Sys2Proof.Machine.execMailboxWrite p off data s
  | .mailboxFree p m => Sys2Proof.Machine.execMailboxFree p m s
  | .mbxDoorbell p val => Sys2Proof.Machine.execMbxDoorbell p val s
  | .mbxDone p val => Sys2Proof.Machine.execMbxDone p val s
  | .mbxError p val => Sys2Proof.Machine.execMbxError p val s
  | .mbxErrorCount p => Sys2Proof.Machine.execMbxErrorCount p s
  | .evqCtrl p val => Sys2Proof.Machine.execEvqCtrl p val s
  | .evqTail p val => Sys2Proof.Machine.execEvqTail p val s
  | .evqLost p => Sys2Proof.Machine.execEvqLost p s
  | .evqStatus p val => Sys2Proof.Machine.execEvqStatus p val s
  | .registerWrite p off width val => Sys2Proof.Machine.execRegisterWrite p off width val s
  | .bar2Write p => Sys2Proof.Machine.execBar2Write p s
  | .msixUnmask p v => Sys2Proof.Machine.execMsixUnmask p v s
  | .linkUp p speed width => Sys2Proof.Machine.execLinkUp p speed width s
  | .linkDown p => Sys2Proof.Machine.execLinkDown p s
  | .functionLevelReset p => Sys2Proof.Machine.execFunctionLevelReset p s
  | .conventionalReset p => Sys2Proof.Machine.execConventionalReset p s
  | .mailboxAcknowledge => Sys2Proof.Machine.execMailboxAcknowledge s
  | .commandExecutionEnd id => Sys2Proof.Machine.execCommandExecutionEnd id s
  | .pendingCompletion id => Sys2Proof.Machine.execPendingCompletion id s
  | .evqCoalesceTimeout p => Sys2Proof.Machine.execEvqCoalesceTimeout p s
  | .evqWriteFailed p => Sys2Proof.Machine.execEvqWriteFailed p s
  | .identify p m => Sys2Proof.Machine.execIdentify p m s
  | .getStatus p m => Sys2Proof.Machine.execGetStatus p m s
  | .readPlantTime p m => Sys2Proof.Machine.execReadPlantTime p m s
  | .commandResults p m => Sys2Proof.Machine.execCommandResults p m s
  | .setHostRights p m stored => Sys2Proof.Machine.execSetHostRights p m stored s
  | .getHostRights p m => Sys2Proof.Machine.execGetHostRights p m s
  | .milestoneRead p m => Sys2Proof.Machine.execMilestoneRead p m s
  | .milestoneWrite p m stored => Sys2Proof.Machine.execMilestoneWrite p m stored s
  | .roundSetPeriod p m stored => Sys2Proof.Machine.execRoundSetPeriod p m stored s
  | .roundStatus p m => Sys2Proof.Machine.execRoundStatus p m s
  | .roundBoundary => Sys2Proof.Machine.execRoundBoundary s
  | .latch => Sys2Proof.Machine.execLatch s
  | .samplePoint x => Sys2Proof.Machine.execSamplePoint x s
  | .gatherLaunch n => Sys2Proof.Machine.execGatherLaunch n s
  | .gatherDone n => Sys2Proof.Machine.execGatherDone n s
  | .engineStart => Sys2Proof.Machine.execEngineStart s
  | .engineDone => Sys2Proof.Machine.execEngineDone s
  | .shadowEngineStart => Sys2Proof.Machine.execShadowEngineStart s
  | .safetyCheckPoint => Sys2Proof.Machine.execSafetyCheckPoint s
  | .commitPoint => Sys2Proof.Machine.execCommitPoint s
  | .commandLaunch n => Sys2Proof.Machine.execCommandLaunch n s
  | .mgmtOpen n deferred => Sys2Proof.Machine.execMgmtOpen n deferred s
  | .taskRelease t => Sys2Proof.Machine.execTaskRelease t s
  | .hostTick p => Sys2Proof.Machine.execHostTick p s
  | .canReference c => Sys2Proof.Machine.execCanReference c s
  | .ethLaunch e ch => Sys2Proof.Machine.execEthLaunch e ch s
  | .timeStepBoundary => Sys2Proof.Machine.execTimeStepBoundary s
  | .budanCopyReceived n port f => Sys2Proof.Machine.execBudanCopyReceived n port f s
  | .smlCopyReceived n port f => Sys2Proof.Machine.execSmlCopyReceived n port f s
  | .smlLoadPage page data => Sys2Proof.Machine.execSmlLoadPage page data s
  | .smlStrobeFault strobe deviation => Sys2Proof.Machine.execSmlStrobeFault strobe deviation s
  | .portLinkUp n port => Sys2Proof.Machine.execPortLinkUp n port s
  | .portLinkDown n port => Sys2Proof.Machine.execPortLinkDown n port s
  | .listenSilence n => Sys2Proof.Machine.execListenSilence n s
  | .timeConverged n => Sys2Proof.Machine.execTimeConverged n s
  | .networkLost n => Sys2Proof.Machine.execNetworkLost n s
  | .networkDown n => Sys2Proof.Machine.execNetworkDown n s
  | .channelSilent n ch => Sys2Proof.Machine.execChannelSilent n ch s
  | .bypassHoldTimer n => Sys2Proof.Machine.execBypassHoldTimer n s
  | .linkDelayMeasured n port ns nbr => Sys2Proof.Machine.execLinkDelayMeasured n port ns nbr s
  | .guardianCut n port window => Sys2Proof.Machine.execGuardianCut n port window s
  | .guardianResyncFault n deviation => Sys2Proof.Machine.execGuardianResyncFault n deviation s
  | .leasePulseLoss n => Sys2Proof.Machine.execLeasePulseLoss n s
  | .netStatus p m => Sys2Proof.Machine.execNetStatus p m s
  | .netPortCounters p m => Sys2Proof.Machine.execNetPortCounters p m s
  | .netNodeList p m => Sys2Proof.Machine.execNetNodeList p m s
  | .netSetMedia p m stored => Sys2Proof.Machine.execNetSetMedia p m stored s
  | .netRelease p m => Sys2Proof.Machine.execNetRelease p m s
  | .netAttach p m => Sys2Proof.Machine.execNetAttach p m s
  | .schedStatus p m => Sys2Proof.Machine.execSchedStatus p m s
  | .schedLoad p m stored => Sys2Proof.Machine.execSchedLoad p m stored s
  | .schedSwitch p m => Sys2Proof.Machine.execSchedSwitch p m s
  | .scheduleSwitchTimeout => Sys2Proof.Machine.execScheduleSwitchTimeout s
  | .schedDelete p m => Sys2Proof.Machine.execSchedDelete p m s
  | .schedChannelCounters p m => Sys2Proof.Machine.execSchedChannelCounters p m s
  | .schedWindowStatus p m => Sys2Proof.Machine.execSchedWindowStatus p m s
  | .nodeStop p m => Sys2Proof.Machine.execNodeStop p m s
  | .engineStatus p m => Sys2Proof.Machine.execEngineStatus p m s
  | .engineParamWrite p m stored => Sys2Proof.Machine.execEngineParamWrite p m stored s
  | .engineParamRead p m => Sys2Proof.Machine.execEngineParamRead p m s
  | .engineBankCopy p m stored => Sys2Proof.Machine.execEngineBankCopy p m stored s
  | .engineBankSwap p m => Sys2Proof.Machine.execEngineBankSwap p m s
  | .engineAxisReset p m => Sys2Proof.Machine.execEngineAxisReset p m s
  | .engineAxisHalt p m => Sys2Proof.Machine.execEngineAxisHalt p m s
  | .engineAxisStatus p m => Sys2Proof.Machine.execEngineAxisStatus p m s
  | .engineSelfTestDone passed => Sys2Proof.Machine.execEngineSelfTestDone passed s
  | .learnStatus p m => Sys2Proof.Machine.execLearnStatus p m s
  | .learnConfigure p m => Sys2Proof.Machine.execLearnConfigure p m s
  | .learnControl p m => Sys2Proof.Machine.execLearnControl p m s
  | .learnTableRead p m => Sys2Proof.Machine.execLearnTableRead p m s
  | .learnTableWrite p m => Sys2Proof.Machine.execLearnTableWrite p m s
  | .learnSnapshot p m => Sys2Proof.Machine.execLearnSnapshot p m s
  | .learnRestore p m => Sys2Proof.Machine.execLearnRestore p m s
  | .learnClear p m => Sys2Proof.Machine.execLearnClear p m s
  | .tableMove a stored => Sys2Proof.Machine.execTableMove a stored s
  | .taskCycleEnd t o => Sys2Proof.Machine.execTaskCycleEnd t o s
  | .retainCommitDone step => Sys2Proof.Machine.execRetainCommitDone step s
  | .taskException t => Sys2Proof.Machine.execTaskException t s
  | .keyChanged k => Sys2Proof.Machine.execKeyChanged k s
  | .modeChangeEffect => Sys2Proof.Machine.execModeChangeEffect s
  | .keyMismatch => Sys2Proof.Machine.execKeyMismatch s
  | .setMode p m => Sys2Proof.Machine.execSetMode p m s
  | .getMode p m => Sys2Proof.Machine.execGetMode p m s
  | .programLoad p m stored => Sys2Proof.Machine.execProgramLoad p m stored s
  | .programActivate p m stored => Sys2Proof.Machine.execProgramActivate p m stored s
  | .taskStatus p m => Sys2Proof.Machine.execTaskStatus p m s
  | .timeService t => Sys2Proof.Machine.execTimeService t s
  | .taskInfo t => Sys2Proof.Machine.execTaskInfo t s
  | .raiseEvent t reason sev p0 p1 p2 => Sys2Proof.Machine.execRaiseEvent t reason sev p0 p1 p2 s
  | .recordService t code p0 p1 => Sys2Proof.Machine.execRecordService t code p0 p1 s
  | .tsRead t e => Sys2Proof.Machine.execTsRead t e s
  | .peerWrite t ch data => Sys2Proof.Machine.execPeerWrite t ch data s
  | .peerRead t ch => Sys2Proof.Machine.execPeerRead t ch s
  | .changeLoad p m stored => Sys2Proof.Machine.execChangeLoad p m stored s
  | .changeArm p m => Sys2Proof.Machine.execChangeArm p m s
  | .changeAbort p m => Sys2Proof.Machine.execChangeAbort p m s
  | .changeStatus p m => Sys2Proof.Machine.execChangeStatus p m s
  | .changePreparationEnd verified => Sys2Proof.Machine.execChangePreparationEnd verified s
  | .waymarkCandidate bad => Sys2Proof.Machine.execWaymarkCandidate bad s
  | .changeTimeout => Sys2Proof.Machine.execChangeTimeout s
  | .leaseMessage path h m => Sys2Proof.Machine.execLeaseMessage path h m s
  | .digestMessage h l => Sys2Proof.Machine.execDigestMessage h l s
  | .windowsMessage h n l => Sys2Proof.Machine.execWindowsMessage h n l s
  | .roundInputsMessage h setpoint states feedback field groups => Sys2Proof.Machine.execRoundInputsMessage h setpoint states feedback field groups s
  | .releaseMessage h m => Sys2Proof.Machine.execReleaseMessage h m s
  | .cycleEndMessage h m => Sys2Proof.Machine.execCycleEndMessage h m s
  | .serviceMessage h task data => Sys2Proof.Machine.execServiceMessage h task data s
  | .applyMessage h op round stored => Sys2Proof.Machine.execApplyMessage h op round stored s
  | .confirmMessage h c => Sys2Proof.Machine.execConfirmMessage h c s
  | .stateCopyMessage h items verified => Sys2Proof.Machine.execStateCopyMessage h items verified s
  | .copyDoneMessage h final pages => Sys2Proof.Machine.execCopyDoneMessage h final pages s
  | .keepaliveMessage h => Sys2Proof.Machine.execKeepaliveMessage h s
  | .keepaliveSend => Sys2Proof.Machine.execKeepaliveSend s
  | .plkRetransmitTimeout => Sys2Proof.Machine.execPlkRetransmitTimeout s
  | .plkUp lanes ms level splitEqual equal => Sys2Proof.Machine.execPlkUp lanes ms level splitEqual equal s
  | .plkDown lockLost => Sys2Proof.Machine.execPlkDown lockLost s
  | .plkLaneDegraded lane => Sys2Proof.Machine.execPlkLaneDegraded lane s
  | .leaseTimerOut => Sys2Proof.Machine.execLeaseTimerOut s
  | .claimToken => Sys2Proof.Machine.execClaimToken s
  | .partnerAbsent => Sys2Proof.Machine.execPartnerAbsent s
  | .resyncSlow => Sys2Proof.Machine.execResyncSlow s
  | .homeReclaim => Sys2Proof.Machine.execHomeReclaim s
  | .crossoverWaitLimit => Sys2Proof.Machine.execCrossoverWaitLimit s
  | .crossoverRequest p m => Sys2Proof.Machine.execCrossoverRequest p m s
  | .pairStatus p m => Sys2Proof.Machine.execPairStatus p m s
  | .setHome p m stored => Sys2Proof.Machine.execSetHome p m stored s
  | .pairResync p m => Sys2Proof.Machine.execPairResync p m s
  | .safetyLogin p m => Sys2Proof.Machine.execSafetyLogin p m s
  | .safetyLoad p m stored => Sys2Proof.Machine.execSafetyLoad p m stored s
  | .safetyActivate p m smlOk => Sys2Proof.Machine.execSafetyActivate p m smlOk s
  | .safetyLogRead p m => Sys2Proof.Machine.execSafetyLogRead p m s
  | .detourStatus p m => Sys2Proof.Machine.execDetourStatus p m s
  | .safetyStatus p m => Sys2Proof.Machine.execSafetyStatus p m s
  | .safetyLogout p m => Sys2Proof.Machine.execSafetyLogout p m s
  | .safetyPassword p m stored salt => Sys2Proof.Machine.execSafetyPassword p m stored salt s
  | .safeStopReset p m => Sys2Proof.Machine.execSafeStopReset p m s
  | .safetySessionIdle p => Sys2Proof.Machine.execSafetySessionIdle p s
  | .detourExpired => Sys2Proof.Machine.execDetourExpired s
  | .testPulse j named => Sys2Proof.Machine.execTestPulse j named s
  | .lockstepMismatch k => Sys2Proof.Machine.execLockstepMismatch k s
  | .lockstepRestored k => Sys2Proof.Machine.execLockstepRestored k s
  | .lockstepRestoreFailed k => Sys2Proof.Machine.execLockstepRestoreFailed k s
  | .debugPortRequest r => Sys2Proof.Machine.execDebugPortRequest r s
  | .debugSessionExpiry => Sys2Proof.Machine.execDebugSessionExpiry s
  | .memoryCorrected area addr err => Sys2Proof.Machine.execMemoryCorrected area addr err s
  | .memoryUncorrectable area addr err region => Sys2Proof.Machine.execMemoryUncorrectable area addr err region s
  | .scrub area => Sys2Proof.Machine.execScrub area s
  | .accessViolation x => Sys2Proof.Machine.execAccessViolation x s
  | .ruleEpochCommit rules => Sys2Proof.Machine.execRuleEpochCommit rules s
  | .ruleEpochLate ns => Sys2Proof.Machine.execRuleEpochLate ns s
  | .acuRelease p m => Sys2Proof.Machine.execAcuRelease p m s
  | .acuLogRead p m => Sys2Proof.Machine.execAcuLogRead p m s
  | .acuStatus p m => Sys2Proof.Machine.execAcuStatus p m s
  | .acuRulesRead p m => Sys2Proof.Machine.execAcuRulesRead p m s
  | .memoryStatus p m => Sys2Proof.Machine.execMemoryStatus p m s
  | .debugUnlock p m => Sys2Proof.Machine.execDebugUnlock p m s
  | .debugLock p m => Sys2Proof.Machine.execDebugLock p m s
  | .lockstepStatus p m => Sys2Proof.Machine.execLockstepStatus p m s
  | .splitSet p m stored => Sys2Proof.Machine.execSplitSet p m stored s
  | .debugBreakpoint p m => Sys2Proof.Machine.execDebugBreakpoint p m s
  | .debugTask p m => Sys2Proof.Machine.execDebugTask p m s
  | .debugRead p m data => Sys2Proof.Machine.execDebugRead p m data s
  | .ptpMessageReceived e f => Sys2Proof.Machine.execPtpMessageReceived e f s
  | .ptpOffsetMeasurement e offset delay => Sys2Proof.Machine.execPtpOffsetMeasurement e offset delay s
  | .ptpLost => Sys2Proof.Machine.execPtpLost s
  | .holdoverLong => Sys2Proof.Machine.execHoldoverLong s
  | .ethFrameReceived e f => Sys2Proof.Machine.execEthFrameReceived e f s
  | .ethFrameLaunch e => Sys2Proof.Machine.execEthFrameLaunch e s
  | .peerLost ch => Sys2Proof.Machine.execPeerLost ch s
  | .ethLinkUp e speed => Sys2Proof.Machine.execEthLinkUp e speed s
  | .ethLinkDown e => Sys2Proof.Machine.execEthLinkDown e s
  | .timeAcceptStep p m => Sys2Proof.Machine.execTimeAcceptStep p m s
  | .timeStatus p m => Sys2Proof.Machine.execTimeStatus p m s
  | .timeConfigure p m stored => Sys2Proof.Machine.execTimeConfigure p m stored s
  | .ethConfigure p m stored => Sys2Proof.Machine.execEthConfigure p m stored s
  | .ethStatus p m => Sys2Proof.Machine.execEthStatus p m s
  | .peerConfigure p m stored => Sys2Proof.Machine.execPeerConfigure p m stored s
  | .peerStatus p m => Sys2Proof.Machine.execPeerStatus p m s
  | .canFrameReceived c f => Sys2Proof.Machine.execCanFrameReceived c f s
  | .canSelection c => Sys2Proof.Machine.execCanSelection c s
  | .canAttemptEnd c how sinceStart => Sys2Proof.Machine.execCanAttemptEnd c how sinceStart s
  | .canBusOff c => Sys2Proof.Machine.execCanBusOff c s
  | .canRecovered c => Sys2Proof.Machine.execCanRecovered c s
  | .canConfigure p m stored => Sys2Proof.Machine.execCanConfigure p m stored s
  | .canStatus p m => Sys2Proof.Machine.execCanStatus p m s
  | .canRxConfigure p m stored => Sys2Proof.Machine.execCanRxConfigure p m stored s
  | .canRxRead p m => Sys2Proof.Machine.execCanRxRead p m s
  | .canTxWrite p m => Sys2Proof.Machine.execCanTxWrite p m s
  | .canTxCancel p m => Sys2Proof.Machine.execCanTxCancel p m s
  | .canTxStatus p m => Sys2Proof.Machine.execCanTxStatus p m s
  | .canRecover p m => Sys2Proof.Machine.execCanRecover p m s
  | .canStop p m => Sys2Proof.Machine.execCanStop p m s
  | .dioFilteredChange ch => Sys2Proof.Machine.execDioFilteredChange ch s
  | .dioShort ch => Sys2Proof.Machine.execDioShort ch s
  | .dioThermal ch => Sys2Proof.Machine.execDioThermal ch s
  | .dioOpenLoad ch => Sys2Proof.Machine.execDioOpenLoad ch s
  | .dioOutputTimeout => Sys2Proof.Machine.execDioOutputTimeout s
  | .fieldSupplyChanged f volt => Sys2Proof.Machine.execFieldSupplyChanged f volt s
  | .loopConversion c x => Sys2Proof.Machine.execLoopConversion c x s
  | .loopOvercurrentRelease c => Sys2Proof.Machine.execLoopOvercurrentRelease c s
  | .loopHoldRetry c => Sys2Proof.Machine.execLoopHoldRetry c s
  | .loopSettlingEnd c => Sys2Proof.Machine.execLoopSettlingEnd c s
  | .selButton ms => Sys2Proof.Machine.execSelButton ms s
  | .setButton ms => Sys2Proof.Machine.execSetButton ms s
  | .trimCaptureDone => Sys2Proof.Machine.execTrimCaptureDone s
  | .trimModeTimeout => Sys2Proof.Machine.execTrimModeTimeout s
  | .ffeDioConfigure p m stored => Sys2Proof.Machine.execFfeDioConfigure p m stored s
  | .ffeLoopConfigure p m stored => Sys2Proof.Machine.execFfeLoopConfigure p m stored s
  | .ffeStatus p m => Sys2Proof.Machine.execFfeStatus p m s
  | .ffeLoopTrim p m stored => Sys2Proof.Machine.execFfeLoopTrim p m stored s
  | .ffeDioReset p m => Sys2Proof.Machine.execFfeDioReset p m s
  | .recorderFlush result => Sys2Proof.Machine.execRecorderFlush result s
  | .recorderRead p m => Sys2Proof.Machine.execRecorderRead p m s
  | .recorderClear p m stored => Sys2Proof.Machine.execRecorderClear p m stored s
  | .recorderStatus p m => Sys2Proof.Machine.execRecorderStatus p m s
  | .feedChanged f volt => Sys2Proof.Machine.execFeedChanged f volt s
  | .feedLoss store => Sys2Proof.Machine.execFeedLoss store s
  | .powerFailFlushed commitWait sealTime => Sys2Proof.Machine.execPowerFailFlushed commitWait sealTime s
  | .feedReturn us store which => Sys2Proof.Machine.execFeedReturn us store which s
  | .holdupReady store cap ms => Sys2Proof.Machine.execHoldupReady store cap ms s
  | .holdupTopup store cap => Sys2Proof.Machine.execHoldupTopup store cap s
  | .powerLost => Sys2Proof.Machine.execPowerLost s
  | .watchdogReset => Sys2Proof.Machine.execWatchdogReset s
  | .moduleStart r => Sys2Proof.Machine.execModuleStart r s
  | .updateConfirmExpiry => Sys2Proof.Machine.execUpdateConfirmExpiry s
  | .updateRestart => Sys2Proof.Machine.execUpdateRestart s
  | .updateBegin p m => Sys2Proof.Machine.execUpdateBegin p m s
  | .updateBlock p m stored => Sys2Proof.Machine.execUpdateBlock p m stored s
  | .updateEnd p m => Sys2Proof.Machine.execUpdateEnd p m s
  | .updateArm p m => Sys2Proof.Machine.execUpdateArm p m s
  | .updateConfirm p m => Sys2Proof.Machine.execUpdateConfirm p m s
  | .updateStatus p m => Sys2Proof.Machine.execUpdateStatus p m s
  | .powerStatus p m x => Sys2Proof.Machine.execPowerStatus p m x s
  | .registerLoRead p off width => Sys2Proof.Machine.execRegisterLoRead p off width s
  | .ruleEpochComplete epoch => Sys2Proof.Machine.execRuleEpochComplete epoch s
  | .testPulseEnd pClosed mClosed => Sys2Proof.Machine.execTestPulseEnd pClosed mClosed s
  | .handoverOutputsOff => Sys2Proof.Machine.execHandoverOutputsOff s
  | .breakpointReached t step => Sys2Proof.Machine.execBreakpointReached t step s
  | .insertionStepTimeout => Sys2Proof.Machine.execInsertionStepTimeout s
  | .ptpMessageInterval e k => Sys2Proof.Machine.execPtpMessageInterval e k s
  | .ethFrameSent e => Sys2Proof.Machine.execEthFrameSent e s
  | .canReceiveError c eight => Sys2Proof.Machine.execCanReceiveError c eight s
  | .dioThermalRestart ch => Sys2Proof.Machine.execDioThermalRestart ch s
  | .dioFaultConditionEnds ch openLoad => Sys2Proof.Machine.execDioFaultConditionEnds ch openLoad s

end Sys2Proof.Machine
end

