-- ==== Sys2Proof/Machine/Leds.lean ====
section
/-! DEFINITION. The front panel's LEDs, which show the state the other chapters keep (19 R562; 12 R391; 15 R494). -/

namespace Sys2Proof.Machine

open Sys2Proof

/-- The twelve LEDs; N0A to N1B by network and channel. -/
inductive Led where
  | run | token | safe | detour | fault
  | feed (f : Fin 2)
  | chan (n c : Fin 2)
  | pair
deriving DecidableEq, Repr

/-- Colours. -/
inductive Colour where
  | green | yellow | red
deriving DecidableEq, Repr

/-- What an LED shows: dark, lit, or flashing with a duty cycle of 50 % at a frequency in units of 0.25 Hz. -/
inductive Glow where
  | off
  | on (c : Colour)
  | flash (c : Colour) (quarters : Nat)
deriving DecidableEq, Repr

/-- The module runs in the first second of its start (R562). -/
def lampTest (s : Rc8) : Bool := decide (s.clk.refosc < 1000000000)

/-- The colour of the lamp test: yellow, or green where the LED has no yellow; FAULT, which has neither, lights red
(DESIGN CHOICE, log 77). -/
def lampColour : Led → Colour
  | .run => .green
  | .token => .green
  | .safe => .green
  | .fault => .red
  | .detour => .yellow
  | .feed _ => .yellow
  | .chan _ _ => .yellow
  | .pair => .yellow

/-- Three flashes of the trim procedure at 2 Hz are still shown: of FAULT, or of N0A to N1B together (15 R494). -/
def flashing (fault : Bool) (s : Rc8) : Bool := (s.ffe.flashes.map fun x => x.1 == fault && decide (s.clk.refosc < x.2 + 1500000000)).getD false

/-- RUN: the mode; the start, and trim mode (R562; 15 R494). -/
def runLed (s : Rc8) : Glow :=
  if !s.svpReady then .flash .green 16
  else if s.ffe.trim.isSome then .flash .green 8
  else match s.run.mode with
    | .run => .on .green
    | .layby => .flash .green 4
    | .stop => .off

/-- TOKEN: the token state. -/
def tokenLed (s : Rc8) : Glow :=
  match s.pair.token with
  | .holder => .on .green
  | .handover => .flash .green 16
  | .standbyReady => .flash .green 4
  | .standby => .flash .green 1
  | .unclaimed => .off

/-- SAFE: the active set, the latched groups, and the latched output faults. -/
def safeLed (s : Rc8) : Glow :=
  if (activeSet s).isSome && latchedGroups s == 0 && s.saf.faults == 0 then .on .green
  else if latchedGroups s != 0 then .on .red
  else if s.saf.faults != 0 then .flash .red 8
  else .off

/-- DETOUR: the state that DETOUR_STATUS reports. -/
def detourLed (s : Rc8) : Glow :=
  match detourState s with
  | 0 => .off
  | 1 => .flash .yellow 4
  | 2 => .on .yellow
  | _ => .flash .yellow 16

/-- What lights FAULT steadily: a halted pair, engine FAILED, a frozen master, a network in MASTER that is down. -/
def faultStands (s : Rc8) : Bool :=
  (vlist s.itg.pairs).any (fun p => p.st == .halted) || s.eng.st == .failed || s.itg.frozen != 0 ||
  (nets s).any fun n => (s.net[n]).state == .master && (s.net[n]).downEpisode

/-- FAULT; the trim procedure's flashes come first (15 R494; DESIGN CHOICE, log 77). -/
def faultLed (s : Rc8) : Glow :=
  if flashing true s then .flash .red 8
  else if faultStands s then .on .red
  else if (s.rcd.alarm.map fun t => decide (s.clk.refosc < t + 60000000000)).getD false then .flash .red 4
  else .off

/-- FEED A and FEED B: the feed's state. -/
def feedLed (f : Fin 2) (s : Rc8) : Glow :=
  match (s.pwr.feeds[f]).st with
  | .ok => .on .green
  | .low => .on .yellow
  | .missing => .off

/-- Number of N0A, N0B, N1A and N1B among the LEDs of the trim display. -/
def chanBit (n c : Fin 2) : Nat := 2 * n.val + c.val

/-- N0A, N0B, N1A and N1B in trim mode: the channel number in binary on three of them, the span step on N1B (15 R494). Their
colour, which no rule states, is green (DESIGN CHOICE, log 77). -/
def trimLed (t : TrimMode) (b : Nat) (s : Rc8) : Glow :=
  if flashing false s then .flash .green 8
  else if (if b = 3 then t.span else bitAt t.chan b) then .on .green else .off

/-- N0A, N0B, N1A and N1B: the channel of a network in service; OFF stands before the other lines, which speak of such a channel
(DESIGN CHOICE, log 77). -/
def chanLed (n c : Fin 2) (s : Rc8) : Glow :=
  let k := s.net[n]
  let link := (usedPorts k c).all fun p => (k.ports[p]).link
  match s.ffe.trim with
  | some t => trimLed t (chanBit n c) s
  | none =>
    if k.state = .notConfigured ∨ k.state = .bypassed ∨ chanUsed k c = false then .off
    else if link && (s.sch[n]).count[c].calm == 8 then .on .green
    else if bitAt k.lineMode c.val || !link then .flash .green 4
    else if 8 ≤ (s.sch[n]).count[c].run then .on .yellow
    else .off

/-- PARTNER_INCOMPATIBLE is in force: the levels or split settings differ, the transfer failed, or the position cannot be read
(10 R305, R336). -/
def incompatible (s : Rc8) : Bool :=
  let p := s.pair.partner
  (p.present && p.level != 0 && (p.level != pairLevel s || !p.split)) || p.failed || (s.svpReady && s.ident.slot == 0)

/-- PAIR: the partner and the pair link; of two lines the upper one is shown. -/
def pairLed (s : Rc8) : Glow :=
  if s.pair.partner.present && s.pair.plk.up && s.pair.plk.lanes == 2 then .on .green
  else if s.pair.partner.present && s.pair.plk.up then .flash .green 4
  else if s.pair.partner.present then .on .yellow
  else if incompatible s then .flash .red 8
  else .off

/-- *Table: LED meanings*. -/
def meaningOf (l : Led) (s : Rc8) : Glow :=
  match l with
  | .run => runLed s
  | .token => tokenLed s
  | .safe => safeLed s
  | .detour => detourLed s
  | .fault => faultLed s
  | .feed f => feedLed f s
  | .chan n c => chanLed n c s
  | .pair => pairLed s

/-- What an LED shows (R562): nothing without power; in TEST FAULT alone is lit (12 R391); every LED for the first second of a
start. -/
def ledShows (l : Led) (s : Rc8) : Glow :=
  if !s.pwr.powered then .off
  else if s.itg.test then (if l = .fault then .on .red else .off)
  else if lampTest s then .on (lampColour l)
  else meaningOf l s

end Sys2Proof.Machine
end

