-- ==== Sys2Proof/WellFormed.lean ====
section
/-! DEFINITION. The commands a sender can send: operands within the widths of the buses, frames and measurements that
carry them. A command outside them stops the block by name. -/

namespace Sys2Proof

open Sys2Proof.Machine

/-- A bus transaction: a kind, 1 to 256 bytes, a 32-bit address (01 R25; 12 R399, R402). -/
def transactionWf (t : Transaction) : Bool := decide (1 ≤ t.kind.val ∧ 1 ≤ t.len ∧ t.len ≤ 256 ∧ t.addr < 2 ^ 32)

/-- A debug port request: a memory access is a bus transaction. -/
def debugRequestWf (r : DebugRequest) : Bool :=
  match r with
  | .access t => transactionWf t
  | _ => true

/-- A start report: its counts fit the event that carries them (18 R555). -/
def startReportWf (x : StartReport) : Bool := decide (x.migrated < 2 ^ 32 ∧ x.oldFormat < 65536 ∧ x.newFormat < 65536)

/-- Items of a state copy: the byte stores they carry are in canonical form. -/
def copyItemWf (x : CopyItem) : Bool :=
  match x with
  | .retained _ area data _ _ => Mem.wf area && Mem.wf data
  | .program data => Mem.wf data
  | _ => true

/-- A command that a sender can send. -/
def Instr.wf (i : Instr) : Bool :=
  match i with
  | .mailboxWrite _ _ data => decide (1 ≤ data.length ∧ data.length ≤ 256)
  | .registerWrite _ off width _ => decide (1 ≤ width ∧ width ≤ 256 ∧ (width ≤ 4 ∨ off < 0x1000 ∨ 0x9000 ≤ off))
  | .registerLoRead _ _ width => decide (1 ≤ width ∧ width ≤ 512)
  | .stateCopyMessage _ items _ => items.all copyItemWf
  | .smlLoadPage page data => decide (data.length ≤ 1008 ∧ page < 2 ^ 32)
  | .safetyPassword _ _ _ salt => salt.length == 16
  | .debugPortRequest r => debugRequestWf r
  | .memoryCorrected area addr _ => decide (5 ≤ area.val ∧ addr < 2 ^ 32)
  | .memoryUncorrectable area addr _ region => regionIn area.val region && decide (addr < 2 ^ 32)
  | .accessViolation x => transactionWf x
  | .ruleEpochLate ns => decide (2000 < ns)
  | .ptpMessageReceived _ f => decide (f.messageType < 16 ∧ f.domain < 256 ∧ f.seq < 65536)
  | .ptpOffsetMeasurement _ offset delay => decide (offset.natAbs < 2 ^ 63 ∧ delay < 2 ^ 32)
  | .canFrameReceived _ f => decide (f.id < if f.ext then 2 ^ 29 else 2048)
  | .fieldSupplyChanged _ volt => decide (volt < 65536)
  | .feedChanged _ volt => decide (volt < 65536)
  | .feedLoss store => decide (store < 65536)
  | .powerFailFlushed commitWait sealTime => decide (commitWait ≤ sealTime ∧ sealTime < 2 ^ 32)
  | .feedReturn us store _ => decide (us < 2 ^ 32 ∧ store < 65536)
  | .holdupReady store cap ms => decide (store < 65536 ∧ cap < 65536 ∧ ms < 2 ^ 32)
  | .holdupTopup store cap => decide (store < 65536 ∧ cap < 65536)
  | .moduleStart r => startReportWf r
  | _ => true

end Sys2Proof
end

