-- ==== Sys2Proof/Safety.lean ====
section
/-! DEFINITION. What counts as a safe run of the block, and the terms the statements use. -/

namespace Sys2Proof.Machine

open Sys2Proof

/-- Every waiting command is one that a sender can send. -/
def State.queueWf (s : State) : Bool := s.pending.all Instr.wf

/-- n steps, one after the other, each answering a next state. -/
def stepsTo : Nat → State → State → Prop
  | 0, s, t => s = t
  | n + 1, s, t => ∃ u, step s = .next u ∧ stepsTo n u t

/-- A safe run: from this state any number of steps can be taken, and none stops. -/
def State.RunsOn (s : State) : Prop := ∀ n, ∃ t, stepsTo n s t

/-- Some host port is ENGINEER or SAFETY, so that the module can still be configured (02 R85). -/
def Rc8.configurable (s : Rc8) : Bool := (vlist s.nv.rights).any fun x => x.cls == .engineer || x.cls == .safety

/-- Every byte store of the module is in canonical form: the mailboxes, the retained areas and the copy in use. -/
def Rc8.memWf (s : Rc8) : Bool :=
  (vlist s.hp).all (fun h => (vlist h.mbx).all fun b => Mem.wf b.mem) && (vlist s.nv.retain).all Mem.wf && Mem.wf s.run.retained

/-- The block with its module changed and its queue as it was. -/
def State.after (s : State) (f : Rc8 → Rc8) : State := { s with toRc8 := f s.toRc8 }

/-- A port with what an event may write at it taken from another one: the severity of its interval, its ring's indices,
phase, sequence and counts, and the pending bit of vector 0 (02 R69, R70, R72, R73, R573). -/
def HostPort.withEvents (h t : HostPort) : HostPort :=
  { h with
    highest := t.highest,
    evq := { h.evq with head := t.evq.head, phase := t.evq.phase, seq := t.evq.seq, lost := t.evq.lost,
                        lossCount := t.evq.lossCount, lossFirst := t.evq.lossFirst, lossLast := t.evq.lossLast,
                        uninterrupted := t.evq.uninterrupted, oldest := t.evq.oldest },
    msix := h.msix.set 0 { h.msix[0] with pend := (t.msix[0]).pend } }

/-- A module with what events may write taken from another one: the recorder, the rate-limit table, the ports and the
messages and ring entries put out (02 R75, R568; 16 R504). -/
def Rc8.withEvents (s t : Rc8) : Rc8 :=
  { s with
    hp := #v[(s.hp[0]).withEvents t.hp[0], (s.hp[1]).withEvents t.hp[1], (s.hp[2]).withEvents t.hp[2],
             (s.hp[3]).withEvents t.hp[3]],
    rcd := t.rcd, limits := t.limits, out := t.out, nv := { s.nv with recLog := t.nv.recLog } }

/-- What a reset of one host port leaves: the port's mailboxes, ring, registers and session as at reset, the other ports and the
rest of the module as they were, and the port's commands marked, so that they are not delivered (02 R43, R64). -/
def Rc8.portWasReset (s : Rc8) (p : Fin 4) (t : Rc8) : Prop :=
  (∀ m : Fin 8, ((t.hp[p]).mbx[m]).state = .free) ∧ (t.hp[p]).evq.enable = false ∧
  (t.hp[p]).mbxDone = 0 ∧ (t.hp[p]).mbxError = 0 ∧ (t.hp[p]).mbxErrorCount = 0 ∧ (t.hp[p]).scratch = 0 ∧ (t.hp[p]).tickRound = 0 ∧
  t.saf.sess[p] = none ∧
  (∀ q : Fin 4, q ≠ p → t.saf.sess[q] = s.saf.sess[q] ∧ (t.hp[q]).mbx = (s.hp[q]).mbx ∧ (t.hp[q]).mbxError = (s.hp[q]).mbxError ∧
    (t.hp[q]).evq.enable = (s.hp[q]).evq.enable) ∧
  t.nv.rights = s.nv.rights ∧ t.clk = s.clk ∧ t.net = s.net ∧ t.sch = s.sch ∧ t.run = s.run ∧ t.pair = s.pair ∧
  t.execs = s.execs.map (fun e => if e.port = p ∧ e.task = none then { e with portReset := true } else e)

/-- The command answers a next state with this property, and the queue stays. -/
def Leads (c : Instr) (s : State) (P : State → Prop) : Prop := ∃ t : State, exec c s = .next t ∧ t.pending = s.pending ∧ P t

/-- The commands of a module with one of them in another phase. -/
def Rc8.marked (s : Rc8) (id : Nat) (ph : Phase) : List Exec := s.execs.map fun x => if x.id = id then { x with phase := ph } else x

/-- The commands of a module with one of them answered PENDING and in another phase (02 R59). -/
def Rc8.markedLong (s : Rc8) (id : Nat) (ph : Phase) : List Exec :=
  s.execs.map fun x => if x.id = id then { x with pendingSent := true, phase := ph } else x

/-- The command answers a next state that is this one but for what events may write, and the queue stays. -/
def LeadsTo (c : Instr) (s : State) (r : Rc8) : Prop :=
  ∃ t : State, exec c s = .next t ∧ t.pending = s.pending ∧ t.toRc8 = r.withEvents t.toRc8

/-- A module with one of its commands ended. -/
def Rc8.ended (s : Rc8) (id : Nat) (st : Status) (resp : List Byte) : Rc8 := { s with execs := s.marked id (.ended st resp) }

/-- An operation that takes effect on this module at a round, without a partner's confirmation. -/
def PendOp.own (round : Nat) (op : PairOp) (exec : Option Nat) (resp : List Byte) (late : Bool) : PendOp :=
  { seq := none, round := round, op := op, exec := exec, confirmed := true, resp := resp, late := late, fromPartner := false }

/-- A module on which a command has ended with DONE and its effective round, at which its operation acts. -/
def Rc8.atEffective (s : Rc8) (e : Exec) : Rc8 :=
  { s with execs := s.marked e.id (.ended .done (le 4 (effectiveRound s % 2 ^ 32) ++ zeros 4)),
           pair := { s.pair with pend := s.pair.pend ++ [PendOp.own (effectiveRound s) (.command e.code e.req) none [] false] } }

/-- A module on which a command has ended with DONE and its operation stands fixed for the first boundary at least 1 ms ahead. -/
def Rc8.fixedAhead (s : Rc8) (e : Exec) : Rc8 :=
  { s with pair := { s.pair with pend := s.pair.pend ++ [PendOp.own (roundAfter 1000000 s) (.command e.code e.req) (some e.id) [] false] },
           execs := s.marked e.id (.ended .done []) }

end Sys2Proof.Machine
end

