-- ==== Sys2Proof/Certificates/Slice0/Obligations.lean ====
section
/-! DEFINITION. The statements about the model, for the provers. -/

open Sys2Proof Sys2Proof.Machine


/-! ### The block as a whole -/

/-- A step takes the command at the front of the queue and runs it with the queue's rest (the model's own queue, log 1). -/
def Obligations.StepRunsTheFrontCommand : Prop := ∀ (c : Instr) (rest : List Instr) (s : State), s.pending = c :: rest → step s = exec c (s.withPending rest)

/-- With no command waiting the block idles, and no word spells a command (the model's own queue, log 1; the table gives no
bits). -/
def Obligations.EmptyQueueIdles : Prop :=
  (∀ s : State, s.pending = [] → step s = .next s) ∧
  ∀ (nbits w : Nat) (s : State), decodeTableWord nbits w = none ∧ s.withFetchWord nbits w = s

/-- The port registers and the host rights table after reset (02 R45 reset columns, R54, R65). After reset some port can
configure the module (02 R65, R85). -/
def Obligations.ResetState : Prop :=
  ((∀ p : Fin 4, (State.reset.hp[p]).mbxDone = 0 ∧ (State.reset.hp[p]).mbxError = 0 ∧ (State.reset.hp[p]).mbxErrorCount = 0 ∧
    (State.reset.hp[p]).scratch = 0 ∧ (State.reset.hp[p]).tickRound = 0 ∧ (∀ m : Fin 8, ((State.reset.hp[p]).mbx[m]).state = .free) ∧
    (State.reset.hp[p]).evq.base = 0 ∧ (State.reset.hp[p]).evq.size = 6 ∧ (State.reset.hp[p]).evq.enable = false ∧
    (State.reset.hp[p]).evq.headAddr = 0 ∧ (State.reset.hp[p]).evq.tail = 0 ∧ (State.reset.hp[p]).evq.head = 0 ∧
    (State.reset.hp[p]).evq.phase = true ∧ (∀ k : Fin 4, ((State.reset.hp[p]).evq.mask[k]) = 0xFFFFFFFF) ∧
    (State.reset.hp[p]).evq.coalTime = 0 ∧ (State.reset.hp[p]).evq.coalCount = 1 ∧ (State.reset.hp[p]).evq.lost = 0 ∧
    (State.reset.hp[p]).evq.configError = false ∧ (State.reset.hp[p]).evq.tailError = false ∧
    (State.reset.hp[p]).evq.dmaError = false) ∧
  State.reset.svpReady = false ∧ State.reset.run.mode = .stop ∧
  State.reset.nv.rights[0] = { cls := .engineer, grants := 0b11111 } ∧
  (∀ p : Fin 4, p ≠ 0 → State.reset.nv.rights[p] = { cls := .observe, grants := 0b00001 }) ∧ State.reset.pending = []) ∧
  (State.reset.configurable = true)

/-- A module on which some port is ENGINEER or SAFETY keeps one, whatever command runs (02 R85). -/
def Obligations.StepKeepsConfigurable : Prop := ∀ s t : State, s.configurable = true → step s = .next t → t.configurable = true

/-- Only SET_HOST_RIGHTS changes the host rights table: no reset, no update and no other command does (02 R43, R65). -/
def Obligations.RightsTableOnlyByItsCommand : Prop :=
  ∀ (c : Instr) (s t : State), (∀ p m stored, c ≠ .setHostRights p m stored) → exec c s = .next t → t.nv.rights = s.nv.rights

/-- A command that a sender can send completes and leaves the queue alone, in every state; one that no sender can send stops
the block with the fault that names it; nothing is refused. -/
def Obligations.EverySendableCommandCompletes : Prop :=
  ∀ (c : Instr) (s : State),
    (c.wf = true → ∃ t : State, exec c s = .next t ∧ t.pending = s.pending) ∧
    (c.wf = false → ∃ name : String, exec c s = .fault (.illFormed name))

/-- From a state whose waiting commands can all be sent, the block runs on for any number of steps. -/
def Obligations.SendableQueueRunsOn : Prop := ∀ s : State, s.queueWf = true → s.RunsOn

/-! ### Events, recorder and rings -/

/-- An event that is raised changes nothing but what events may write: the ports' severity intervals, ring indices and
counts, the vector 0 pending bit, the recorder, and what is put out, which only grows. A repeat of the open record is
counted in it; another occurrence gets a record of its own with the next sequence, or is dropped and counted where 4,096
records wait (16 R504, R505, R507). -/
def Obligations.EventsAreRecordedAndChangeNothingElse : Prop :=
  (∀ (e : Ev) (s : Rc8), raise e s = s.withEvents (raise e s) ∧ (∃ l, (raise e s).out = s.out ++ l) ∧
    ∀ p : Fin 4, (s.hp[p]).evq.enable = false → ((raise e s).hp[p]).evq = (s.hp[p]).evq) ∧
  (∀ (e : Ev) (s : Rc8),
    (recMatches s.rcd e.code e.p0 e.p1 = true → (raise e s).nv.recLog.nextSeq = s.nv.recLog.nextSeq ∧
      (raise e s).rcd.buf.length = s.rcd.buf.length ∧ (raise e s).rcd.waiting = s.rcd.waiting) ∧
    (recMatches s.rcd e.code e.p0 e.p1 = false → 4096 ≤ s.rcd.waiting →
      (raise e s).rcd.buf = s.rcd.buf ∧ (raise e s).rcd.dropped = min 0xFFFFFFFF (s.rcd.dropped + 1) ∧
      (raise e s).nv.recLog.nextSeq = s.nv.recLog.nextSeq) ∧
    (recMatches s.rcd e.code e.p0 e.p1 = false → s.rcd.waiting < 4096 →
      (raise e s).rcd.buf.getLast? = some { code := e.code, rep := 1, seq := s.nv.recLog.nextSeq, time := s.clk.ptu, lastOff := 0, p0 := e.p0 % 2 ^ 32, p1 := e.p1 % 2 ^ 32 } ∧
      (raise e s).nv.recLog.nextSeq = (s.nv.recLog.nextSeq + 1) % 2 ^ 32 ∧ (raise e s).rcd.waiting = s.rcd.waiting + 1))

/-- At an enabled ring that selects its source, on a port that is not frozen, an event takes the next sequence number. Into
free space it is written at the head with the write phase, the head goes one on, and the phase inverts where it wraps;
while the ring is full, the entry after the head being the tail, it is dropped and counted (02 R69, R70, R72). Where a
tail write frees space at an enabled ring whose pending-loss count is not 0, EVENTS_LOST is written at the head with the
count and the first and last sequence lost, and the count returns to 0; with no loss pending only the tail moves (R71,
R72). -/
def Obligations.RingCountsItsLosses : Prop :=
  (∀ (e : Ev) (s : Rc8) (p : Fin 4), (s.hp[p]).evq.enable = true → (s.hp[p]).evq.selects e.src = true → portFrozen p s = false →
    ((raise e s).hp[p]).evq.seq = ((s.hp[p]).evq.seq + 1) % 2 ^ 32 ∧
    (((s.hp[p]).evq.head + 1) % 2 ^ (s.hp[p]).evq.size = (s.hp[p]).evq.tail →
      ((raise e s).hp[p]).evq.lost = min 0xFFFFFFFF ((s.hp[p]).evq.lost + 1) ∧
      ((raise e s).hp[p]).evq.lossCount = min 0xFFFFFFFF ((s.hp[p]).evq.lossCount + 1) ∧
      ((raise e s).hp[p]).evq.head = (s.hp[p]).evq.head) ∧
    (((s.hp[p]).evq.head + 1) % 2 ^ (s.hp[p]).evq.size ≠ (s.hp[p]).evq.tail →
      ((raise e s).hp[p]).evq.head = ((s.hp[p]).evq.head + 1) % 2 ^ (s.hp[p]).evq.size ∧
      ((raise e s).hp[p]).evq.phase = (if ((s.hp[p]).evq.head + 1) % 2 ^ (s.hp[p]).evq.size = 0 then !(s.hp[p]).evq.phase else (s.hp[p]).evq.phase) ∧
      ((raise e s).hp[p]).evq.lost = (s.hp[p]).evq.lost ∧
      .hostWrite p ((s.hp[p]).evq.base + 32 * (s.hp[p]).evq.head) (e.entry (s.hp[p]).evq.phase (s.hp[p]).evq.seq s.clk.ptu) ∈ (raise e s).out)) ∧
  (∀ (s : State) (p : Fin 4) (v : U32), (s.hp[p]).link = true → portFrozen p s.toRc8 = false →
    (s.hp[p]).evq.tailValid (v.toNat % 65536) = true →
    ((s.hp[p]).evq.lossCount = 0 → exec (.evqTail p v) s = .next (s.after (modPort p fun h => { h with evq := { h.evq with tail := v.toNat % 65536 } }))) ∧
    ((s.hp[p]).evq.enable = true → 0 < (s.hp[p]).evq.lossCount → ((s.hp[p]).evq.head + 1) % 2 ^ (s.hp[p]).evq.size ≠ v.toNat % 65536 →
      ∃ t : State, exec (.evqTail p v) s = .next t ∧ (t.hp[p]).evq.lossCount = 0 ∧ (t.hp[p]).evq.seq = ((s.hp[p]).evq.seq + 1) % 2 ^ 32 ∧
        (t.hp[p]).evq.head = ((s.hp[p]).evq.head + 1) % 2 ^ (s.hp[p]).evq.size ∧
        .hostWrite p ((s.hp[p]).evq.base + 32 * (s.hp[p]).evq.head)
          (Ev.entry { src := 120 + p.val, reason := 1, sev := .warning, p0 := (s.hp[p]).evq.lossCount, p1 := (s.hp[p]).evq.lossFirst,
                      p2 := (s.hp[p]).evq.lossLast } (s.hp[p]).evq.phase (s.hp[p]).evq.seq s.clk.ptu) ∈ t.out))

/-- A tail write is taken where the value is reached from the tail on the way to the head, else it is discarded, sets
tail_error and keeps the old tail (R71). -/
def Obligations.RingTailWrite : Prop :=
  ∀ (s : State) (p : Fin 4) (v : U32), (s.hp[p]).link = true → portFrozen p s.toRc8 = false →
    (s.hp[p]).evq.tail < 2 ^ (s.hp[p]).evq.size → (s.hp[p]).evq.head < 2 ^ (s.hp[p]).evq.size →
    ((∃ k d : Nat, v.toNat % 65536 = ((s.hp[p]).evq.tail + k) % 2 ^ (s.hp[p]).evq.size ∧ d < 2 ^ (s.hp[p]).evq.size ∧ k ≤ d ∧
        (s.hp[p]).evq.head = ((s.hp[p]).evq.tail + d) % 2 ^ (s.hp[p]).evq.size) →
      ∃ t : State, exec (.evqTail p v) s = .next t ∧ (t.hp[p]).evq.tail = v.toNat % 65536 ∧
        (t.hp[p]).evq.tailError = (s.hp[p]).evq.tailError) ∧
    (¬ (∃ k d : Nat, v.toNat % 65536 = ((s.hp[p]).evq.tail + k) % 2 ^ (s.hp[p]).evq.size ∧ d < 2 ^ (s.hp[p]).evq.size ∧ k ≤ d ∧
        (s.hp[p]).evq.head = ((s.hp[p]).evq.tail + d) % 2 ^ (s.hp[p]).evq.size) →
      exec (.evqTail p v) s = .next (s.after (modPort p fun h => { h with evq := { h.evq with tailError := true } })))

/-- A write into host memory that failed disables the ring and sets dma_error; the head does not advance past the event, and
it adds one to EVQ_LOST and nothing to the pending-loss count; until the next enable no event is written or counted
(R74). -/
def Obligations.RingWriteFailed : Prop :=
  ∀ (s : State) (p : Fin 4), (s.hp[p]).evq.enable = true → (s.hp[p]).evq.head < 2 ^ (s.hp[p]).evq.size →
    ∃ t : State, exec (.evqWriteFailed p) s = .next t ∧ (t.hp[p]).evq.enable = false ∧ (t.hp[p]).evq.dmaError = true ∧
      ((t.hp[p]).evq.head + 1) % 2 ^ (s.hp[p]).evq.size = (s.hp[p]).evq.head ∧ (t.hp[p]).evq.head < 2 ^ (s.hp[p]).evq.size ∧
      (t.hp[p]).evq.lost = min 0xFFFFFFFF ((s.hp[p]).evq.lost + 1) ∧ (t.hp[p]).evq.lossCount = (s.hp[p]).evq.lossCount ∧
      (t.hp[p]).evq.seq = (s.hp[p]).evq.seq ∧
      t = s.after (fun r => { r with hp := r.hp.set p { r.hp[p] with evq := (t.hp[p]).evq } }) ∧
      ∀ e : Ev, ((raise e t.toRc8).hp[p]).evq = (t.hp[p]).evq

/-! ### Host ports and mailboxes -/

/-- A write to EVQ_CTRL: 0 disables the ring; 1 on an enabled ring changes nothing; 1 on a ring out of its configuration
only sets config_error; 1 otherwise enables it with head, tail and sequence 0 and phase 1 (R67). That an enable also
clears the pending-loss count and the coalescing count is the model's choice (log 10). -/
def Obligations.RingEnable : Prop :=
  ∀ (s : State) (p : Fin 4) (v : U32), (s.hp[p]).link = true → portFrozen p s.toRc8 = false →
    (v.getLsbD 0 = false → exec (.evqCtrl p v) s = .next (s.after (modPort p fun h => { h with evq := { h.evq with enable := false } }))) ∧
    (v.getLsbD 0 = true → (s.hp[p]).evq.enable = true → exec (.evqCtrl p v) s = .next s) ∧
    (v.getLsbD 0 = true → (s.hp[p]).evq.enable = false →
      ((s.hp[p]).evq.size < 6 ∨ 16 < (s.hp[p]).evq.size ∨ (s.hp[p]).evq.base = 0 ∨ (s.hp[p]).evq.headAddr = 0) →
      exec (.evqCtrl p v) s = .next (s.after (modPort p fun h => { h with evq := { h.evq with configError := true } }))) ∧
    (v.getLsbD 0 = true → (s.hp[p]).evq.enable = false → 6 ≤ (s.hp[p]).evq.size → (s.hp[p]).evq.size ≤ 16 →
      (s.hp[p]).evq.base ≠ 0 → (s.hp[p]).evq.headAddr ≠ 0 →
      exec (.evqCtrl p v) s = .next (s.after (modPort p fun h => { h with evq := { h.evq with
        enable := true, head := 0, tail := 0, phase := true, seq := 0, lossCount := 0, uninterrupted := 0 } })))

/-- A host write within one mailbox, by the mailbox's state: FREE stores every byte but the state byte, DONE takes only a
write that carries 0 into the state byte and becomes FREE, and everything else is an error of cause 3 (R44, R54, R55).
What a stored host write leaves in a mailbox: each enabled byte at its offset, the state byte's place and every other
byte as they were, and the store in canonical form (R55). -/
def Obligations.MailboxWrites : Prop :=
  (∀ (s : State) (p : Fin 4) (m : Fin 8) (o : Nat) (data : List (Option Byte)),
    (s.hp[p]).link = true → portFrozen p s.toRc8 = false → 1 ≤ data.length → data.length ≤ 256 → o + data.length ≤ 0x1000 →
    (((s.hp[p]).mbx[m]).state = .free →
      exec (.mailboxWrite p (0x1000 + 0x1000 * m.val + o) data) s =
        .next (s.after (modMbx p m fun b => { b with mem := storeHost b.mem o data }))) ∧
    (((s.hp[p]).mbx[m]).state = .done → carried o data 18 = some 0 →
      exec (.mailboxWrite p (0x1000 + 0x1000 * m.val + o) data) s = .next (s.after (modMbx p m fun b => { b with state := .free })) ∧
      exec (.mailboxFree p m) s = .next (s.after (modMbx p m fun b => { b with state := .free }))) ∧
    (((s.hp[p]).mbx[m]).state = .done → carried o data 18 ≠ some 0 →
      exec (.mailboxWrite p (0x1000 + 0x1000 * m.val + o) data) s = .next (s.after (mailboxError p (m.castLE (by decide)) 3))) ∧
    (((s.hp[p]).mbx[m]).state = .posted ∨ ((s.hp[p]).mbx[m]).state = .busy →
      exec (.mailboxWrite p (0x1000 + 0x1000 * m.val + o) data) s = .next (s.after (mailboxError p (m.castLE (by decide)) 3)) ∧
      exec (.mailboxFree p m) s = .next (s.after (mailboxError p (m.castLE (by decide)) 3)))) ∧
  (∀ (mem : Mem) (o : Nat) (data : List (Option Byte)), Mem.wf mem = true →
    Mem.wf (storeHost mem o data) = true ∧
    ∀ a : Nat, memRead (storeHost mem o data) a = (if a = 18 then memRead mem a else (carried o data a).getD (memRead mem a)))

/-- A doorbell on a FREE mailbox: a repeated header sequence is an error of cause 2, whatever the doorbell carries; else a
doorbell that carries the header sequence's low 24 bits posts the mailbox and its sequence is accepted; else the mailbox
completes with BAD_FIELD and accepts nothing. On any other mailbox it is an error of cause 1 (R54). A mailbox error sets
its bit and counts, saturating; the other flags, the mailboxes and the other ports' error registers stay, and
MAILBOX_ERROR comes at most once in 10 ms (R47, R89). -/
def Obligations.DoorbellsAndMailboxErrors : Prop :=
  (∀ (s : State) (p : Fin 4) (m : Fin 8) (v : U32), (s.hp[p]).link = true → portFrozen p s.toRc8 = false → v.toNat % 8 = m.val →
    (((s.hp[p]).mbx[m]).state = .free → ((s.hp[p]).mbx[m]).lastSeq ≠ some ((s.hp[p]).mbx[m]).headerSeq →
      ((s.hp[p]).mbx[m]).headerSeq % 2 ^ 24 = v.toNat / 256 →
      exec (.mbxDoorbell p v) s =
        .next (s.after fun r => { modMbx p m (fun b => { b with state := .posted, lastSeq := some b.headerSeq, order := r.arrivals }) r with
          arrivals := r.arrivals + 1 })) ∧
    (((s.hp[p]).mbx[m]).state = .free → ((s.hp[p]).mbx[m]).lastSeq = some ((s.hp[p]).mbx[m]).headerSeq →
      exec (.mbxDoorbell p v) s = .next (s.after (mailboxError p (m.castLE (by decide)) 2))) ∧
    (((s.hp[p]).mbx[m]).state = .free → ((s.hp[p]).mbx[m]).lastSeq ≠ some ((s.hp[p]).mbx[m]).headerSeq →
      ((s.hp[p]).mbx[m]).headerSeq % 2 ^ 24 ≠ v.toNat / 256 → Mem.wf ((s.hp[p]).mbx[m]).mem = true →
      ∃ t : State, exec (.mbxDoorbell p v) s = .next t ∧ ((t.hp[p]).mbx[m]).state = .done ∧
        memReadN ((t.hp[p]).mbx[m]).mem 16 2 = le 2 0x0102 ∧ memReadN ((t.hp[p]).mbx[m]).mem 12 4 = le 4 0 ∧
        ((t.hp[p]).mbx[m]).lastSeq = ((s.hp[p]).mbx[m]).lastSeq ∧ (t.hp[p]).mbxDone = (s.hp[p]).mbxDone ||| (1#8 <<< m.val) ∧
        t.execs = s.execs ∧ t.arrivals = s.arrivals) ∧
    (((s.hp[p]).mbx[m]).state ≠ .free →
      exec (.mbxDoorbell p v) s = .next (s.after (mailboxError p (m.castLE (by decide)) 1)))) ∧
  (∀ (s : Rc8) (p : Fin 4) (bit : Fin 9) (cause : Nat),
    ((mailboxError p bit cause s).hp[p]).mbxError = (s.hp[p]).mbxError ||| (1#9 <<< bit.val) ∧
    ((mailboxError p bit cause s).hp[p]).mbxErrorCount = min 65535 ((s.hp[p]).mbxErrorCount + 1) ∧
    ((mailboxError p bit cause s).hp[p]).mbx = (s.hp[p]).mbx ∧ ((mailboxError p bit cause s).hp[p]).mbxDone = (s.hp[p]).mbxDone ∧
    (∀ q : Fin 4, q ≠ p → ((mailboxError p bit cause s).hp[q]).mbxError = (s.hp[q]).mbxError ∧
      ((mailboxError p bit cause s).hp[q]).mbxErrorCount = (s.hp[q]).mbxErrorCount) ∧
    (mailboxError p bit cause s).execs = s.execs ∧ (mailboxError p bit cause s).clk = s.clk)

/-- Writes to MBX_DONE, MBX_ERROR and EVQ_STATUS clear exactly the write-one-to-clear bits they carry (R45; 00 R16). Reads
of MBX_ERROR_COUNT and EVQ_LOST answer the count and clear it; a read of a _LO register latches its _HI, which the next
read of _HI answers; a read of HP_SCRATCH answers it and changes nothing (R45; 00 R17). A register write: HP_SCRATCH
holds any value; a write to the ring configuration is taken only while the ring is disabled; a reserved or read-only
offset, an unaligned or narrow access and a link that is down discard it. A BAR2 write sets MBX_ERROR.bar2_write with
cause 4 (R44 to R46, R52). Unmasking a vector sends the message that is pending for it, once, and no other one (R47). -/
def Obligations.RegistersAndVectors : Prop :=
  (∀ (s : State) (p : Fin 4) (v : U32), (s.hp[p]).link = true → portFrozen p s.toRc8 = false →
    exec (.mbxDone p v) s = .next (s.after (modPort p fun h => { h with mbxDone := h.mbxDone &&& ~~~(v.setWidth 8) })) ∧
    exec (.mbxError p v) s = .next (s.after (modPort p fun h => { h with mbxError := h.mbxError &&& ~~~(v.setWidth 9) })) ∧
    exec (.evqStatus p v) s = .next (s.after (modPort p fun h => { h with evq := { h.evq with
      configError := h.evq.configError && !v.getLsbD 2, tailError := h.evq.tailError && !v.getLsbD 3,
      dmaError := h.evq.dmaError && !v.getLsbD 4 } }))) ∧
  (∀ (s : State) (p : Fin 4), (s.hp[p]).link = true → portFrozen p s.toRc8 = false →
    exec (.mbxErrorCount p) s = .next (s.after fun r => { modPort p (fun h => { h with mbxErrorCount := 0 }) r with
      out := r.out ++ [.readData p (le 4 (r.hp[p]).mbxErrorCount)] }) ∧
    exec (.evqLost p) s = .next (s.after fun r => { modPort p (fun h => { h with evq := { h.evq with lost := 0 } }) r with
      out := r.out ++ [.readData p (le 4 (r.hp[p]).evq.lost)] }) ∧
    exec (.registerLoRead p 0x40 4) s = .next (s.after fun r => { modPort p (fun h => { h with latchBase := some (h.evq.base / 2 ^ 32) }) r with
      out := r.out ++ [.readData p (le 4 ((r.hp[p]).evq.base % 2 ^ 32))] }) ∧
    (∀ x, (s.hp[p]).latchBase = some x → exec (.registerLoRead p 0x44 4) s =
      .next (s.after fun r => { modPort p (fun h => { h with latchBase := none }) r with out := r.out ++ [.readData p (le 4 x)] })) ∧
    exec (.registerLoRead p 0x80 4) s = .next (s.after fun r => { modPort p (fun h => { h with latchTick := some (h.tickRound / 2 ^ 32) }) r with
      out := r.out ++ [.readData p (le 4 ((r.hp[p]).tickRound % 2 ^ 32))] }) ∧
    exec (.registerLoRead p 0x90 4) s = .next (s.after fun r => { r with out := r.out ++ [.readData p (le 4 (r.hp[p]).scratch.toNat)] })) ∧
  (∀ (s : State) (p : Fin 4) (v : U32),
    ((s.hp[p]).link = true → portFrozen p s.toRc8 = false →
      exec (.registerWrite p 0x90 4 v) s = .next (s.after (modPort p fun h => { h with scratch := v })) ∧
      ((s.hp[p]).evq.enable = false →
        exec (.registerWrite p 0x48 4 v) s = .next (s.after (modPort p fun h => { h with evq := { h.evq with size := v.toNat % 32 } }))) ∧
      ((s.hp[p]).evq.enable = true → ∀ off ∈ [0x40, 0x44, 0x48, 0x50, 0x54], exec (.registerWrite p off 4 v) s = .next s) ∧
      (∀ off ∈ [0x00, 0x04, 0x08, 0x14, 0x20, 0x5C, 0x74, 0x80, 0x84, 0xFC, 0x100, 0xFFC, 0x9040], exec (.registerWrite p off 4 v) s = .next s) ∧
      (∀ off width, 1 ≤ width → width ≤ 256 → (width ≠ 4 ∨ off % 4 ≠ 0) → off < 0x1000 → exec (.registerWrite p off width v) s = .next s) ∧
      exec (.bar2Write p) s = .next (s.after (mailboxError p 8 4))) ∧
    ((s.hp[p]).link = false → (∀ off, off < 0x1000 → exec (.registerWrite p off 4 v) s = .next s) ∧ exec (.bar2Write p) s = .next s)) ∧
  (∀ (s : State) (p v : Fin 4), (s.hp[p]).link = true → portFrozen p s.toRc8 = false →
    ∃ t : State, exec (.msixUnmask p v) s = .next t ∧ ((t.hp[p]).msix[v]).masked = false ∧ ((t.hp[p]).msix[v]).pend = false ∧
      t.out = s.out ++ (if ((s.hp[p]).msix[v]).pend then [.msix p v ((s.hp[p]).msix[v]).addr ((s.hp[p]).msix[v]).data] else []) ∧
      t = s.after fun r => { modPort p (fun h => { h with msix := vmod h.msix v fun x => { x with masked := false, pend := false } }) r with out := t.out })

/-- A link-down, a function-level reset or a conventional reset of one port whose link is up completes: it frees its
mailboxes, disables its ring, returns its registers to reset and ends its safety session; the other ports, the rights
table and the commands stay, but that those of the port will not be delivered; a task's service has no port (08 R270)
(R43, R64; 19 R560). On a port without link each changes nothing. A link that comes up on a powered module only brings
the port up (R88). -/
def Obligations.PortResetsAreLocal : Prop :=
  ∀ (s : State) (p : Fin 4),
    ((s.hp[p]).link = true → ∃ t : State, exec (.linkDown p) s = .next t ∧ t.pending = s.pending ∧ s.toRc8.portWasReset p t.toRc8) ∧
    ((s.hp[p]).link = true → ∃ t : State, exec (.conventionalReset p) s = .next t ∧ t.pending = s.pending ∧ s.toRc8.portWasReset p t.toRc8) ∧
    ((s.hp[p]).link = true → portFrozen p s.toRc8 = false →
      ∃ t : State, exec (.functionLevelReset p) s = .next t ∧ t.pending = s.pending ∧ s.toRc8.portWasReset p t.toRc8) ∧
    ((s.hp[p]).link = false → exec (.linkDown p) s = .next s ∧ exec (.conventionalReset p) s = .next s ∧ exec (.functionLevelReset p) s = .next s) ∧
    (∀ speed width, ((s.hp[p]).link = true ∨ s.pwr.powered = false) → exec (.linkUp p speed width) s = .next s) ∧
    (∀ speed width, (s.hp[p]).link = false → s.pwr.powered = true →
      exec (.linkUp p speed width) s = .next (s.after fun r =>
        raise { src := 120 + p.val, reason := 3, sev := .notice, p0 := speedCode speed, p1 := widthCode width, p2 := 0 }
          (modPort p (fun h => { h with link := true, speed := speedCode speed, width := widthCode width }) r)))

/-- The service firmware takes POSTED mailboxes by arrival, urgent ones (mailbox 0) first; an undefined code, a length out
of range and a class too low complete the mailbox with their status and execute nothing (01 R31; 02 R58, R62). A command
whose checks pass is acknowledged: its mailbox is BUSY and it executes next, under the class in force at that moment
(R58, R66); with MILESTONE_WRITE's checks the margins are computed anew (03 R105; 04 R128). A command that has ended is
delivered: its mailbox holds status, response length and response and is DONE; after a reset of its port nothing is
written; and where it had answered PENDING, the completion log takes it and COMMAND_COMPLETE goes to its port; the end
of a command that waits for a rule epoch comes no sooner than the epoch's completion, and a change of the host rights
table is in force with it (R54, R59, R66, R87; 12 R409). 100 ms after its execution began, a command that still runs
completes its mailbox with PENDING and response length 0, and runs on; MILESTONE_WRITE, ROUND_SET_PERIOD, NET_SET_MEDIA,
SET_HOME and the general, access and debug commands never do (R59; 03 R112; 04 R145; 10 R338; 12 R410). -/
def Obligations.CommandLife : Prop :=
  (∀ (s : State) (p : Fin 4) (m : Fin 8), s.svpReady = true → svpRuns s.toRc8 = true → nextMailbox s.toRc8 = some (p, m) →
    ((s.hp[p]).mbx[m]).state = .posted ∧
    (∀ (q : Fin 4) (k : Fin 8), ((s.hp[q]).mbx[k]).state = .posted →
      (m = 0 ∨ k ≠ 0) ∧ ((m = 0 ↔ k = 0) → ((s.hp[p]).mbx[m]).order ≤ ((s.hp[q]).mbx[k]).order)) ∧
    (specOf (commandOf p m s.toRc8).code = none → Mem.wf ((s.hp[p]).mbx[m]).mem = true →
      ∃ t : State, exec .mailboxAcknowledge s = .next t ∧ ((t.hp[p]).mbx[m]).state = .done ∧
        memReadN ((t.hp[p]).mbx[m]).mem 16 2 = le 2 0x0100 ∧ t.execs = s.execs) ∧
    (∀ c, specOf (commandOf p m s.toRc8).code = some c → checkForm c ((s.hp[p]).mbx[m]).reqLen (commandOf p m s.toRc8) = none →
      (rightsInForce p s.toRc8).cls.code < c.cls.code → Mem.wf ((s.hp[p]).mbx[m]).mem = true →
      ∃ t : State, exec .mailboxAcknowledge s = .next t ∧ ((t.hp[p]).mbx[m]).state = .done ∧
        memReadN ((t.hp[p]).mbx[m]).mem 16 2 = le 2 0x0300 ∧ t.execs = s.execs)) ∧
  (∀ (s : State) (p : Fin 4) (m : Fin 8) (c : CmdSpec), s.svpReady = true → svpRuns s.toRc8 = true → nextMailbox s.toRc8 = some (p, m) →
    specOf (commandOf p m s.toRc8).code = some c → c.session = false →
    checkCommand c ((s.hp[p]).mbx[m]).reqLen (commandOf p m s.toRc8)
      { modMbx p m (fun b => { b with state := .busy }) s.toRc8 with nextExec := s.nextExec + 1 } = none →
    c.busy { modMbx p m (fun b => { b with state := .busy }) s.toRc8 with nextExec := s.nextExec + 1 } = false →
    ((commandOf p m s.toRc8).code ≠ 0x0A41 → exec .mailboxAcknowledge s = .next (s.after fun r =>
      { modMbx p m (fun b => { b with state := .busy }) r with nextExec := r.nextExec + 1, execs := r.execs ++ [commandOf p m r] })) ∧
    ((commandOf p m s.toRc8).code = 0x0A41 → exec .mailboxAcknowledge s = .next (s.after fun r =>
      { (runPlanCheck { modMbx p m (fun b => { b with state := .busy }) r with nextExec := r.nextExec + 1 }).1 with
        execs := r.execs ++ [commandOf p m r] }))) ∧
  (∀ (s : State) (e : Exec) (st : Status) (resp : List Byte), s.execs.find? (fun x => x.id == e.id) = some e → e.phase = .ended st resp →
    e.task = none →
    (e.rulesMet s.toRc8 = false → exec (.commandExecutionEnd e.id) s = .next s) ∧
    (e.rulesMet s.toRc8 = true → e.portReset = false → e.pendingSent = false → resp.length ≤ 4032 → Mem.wf ((s.hp[e.port]).mbx[e.mbx]).mem = true →
      ∃ t : State, exec (.commandExecutionEnd e.id) s = .next t ∧ ((t.hp[e.port]).mbx[e.mbx]).state = .done ∧
        memReadN ((t.hp[e.port]).mbx[e.mbx]).mem 16 2 = le 2 st.code ∧
        memReadN ((t.hp[e.port]).mbx[e.mbx]).mem 12 4 = le 4 resp.length ∧
        memReadN ((t.hp[e.port]).mbx[e.mbx]).mem 64 resp.length = resp ∧
        (t.hp[e.port]).mbxDone = (s.hp[e.port]).mbxDone ||| (1#8 <<< e.mbx.val) ∧ t.execs = s.execs.filter (fun x => x.id != e.id)) ∧
    (e.rulesMet s.toRc8 = true → e.portReset = true → e.pendingSent = false →
      exec (.commandExecutionEnd e.id) s = .next (s.after fun r => rightsComplete e { r with execs := r.execs.filter (fun x => x.id != e.id) })) ∧
    (e.rulesMet s.toRc8 = true → e.portReset = false → e.pendingSent = true →
      exec (.commandExecutionEnd e.id) s = .next (s.after fun r =>
        raiseOwn e.port { src := 120 + e.port.val, reason := 2, sev := .info, p0 := e.tag, p1 := e.code + 65536 * st.code, p2 := e.mbx.val }
          (logCompletion e st (rightsComplete e { r with execs := r.execs.filter (fun x => x.id != e.id) }))))) ∧
  (∀ (s : State) (e : Exec), s.execs.find? (fun x => x.id == e.id) = some e → e.phase = .waiting → e.pendingSent = false → e.portReset = false →
    Mem.wf ((s.hp[e.port]).mbx[e.mbx]).mem = true → e.task = none →
    (neverPends e.code = true → exec (.pendingCompletion e.id) s = .next s) ∧
    (neverPends e.code = false → ∃ t : State, exec (.pendingCompletion e.id) s = .next t ∧ ((t.hp[e.port]).mbx[e.mbx]).state = .done ∧
      memReadN ((t.hp[e.port]).mbx[e.mbx]).mem 16 2 = le 2 1 ∧ memReadN ((t.hp[e.port]).mbx[e.mbx]).mem 12 4 = le 4 0 ∧
      e.start + 100000000 ≤ t.clk.refosc ∧
      t.execs = s.execs.map (fun x => if x.id = e.id then { x with pendingSent := true, phase := .waiting } else x)))

/-- Vector 0 when the oldest waiting entry's time is over: on a ring with entries not yet signalled the message is sent, or
stands pending while the vector is masked, and the count starts anew (R73). HOST_TICK writes the round first and then
sends vector 3 (R48). -/
def Obligations.TimedMessages : Prop :=
  ∀ (s : State) (p : Fin 4), portFrozen p s.toRc8 = false →
    (0 < (s.hp[p]).evq.uninterrupted → ∃ t : State, exec (.evqCoalesceTimeout p) s = .next t ∧ (t.hp[p]).evq.uninterrupted = 0 ∧
      (((s.hp[p]).msix[0]).masked = false → t.out = s.out ++ [.msix p 0 ((s.hp[p]).msix[0]).addr ((s.hp[p]).msix[0]).data]) ∧
      (((s.hp[p]).msix[0]).masked = true → t.out = s.out ∧ ((t.hp[p]).msix[0]).pend = true)) ∧
    (∀ x, dueEntry 9 p.val s.toRc8 = some x →
      ∃ t : State, exec (.hostTick p) s = .next t ∧ (t.hp[p]).tickRound = t.rnd.round ∧
        (((s.hp[p]).msix[3]).masked = false → t.out = s.out ++ [.msix p 3 ((s.hp[p]).msix[3]).addr ((s.hp[p]).msix[3]).data]) ∧
        (((s.hp[p]).msix[3]).masked = true → t.out = s.out ∧ ((t.hp[p]).msix[3]).pend = true))

/-! ### General commands and reads -/

/-- Every read command of fixed length that has passed its checks ends with DONE and a response of exactly the length its
chapter gives, and changes nothing but its own execution record. Reads whose length follows a count of the request
answer exactly that many records, or no more than it where fewer are kept; ENGINE_PARAM_READ answers the generation and
the block (06 R218, R222; 07 R242; 11 R378; 12 R419; 16 R513). -/
def Obligations.ReadCommandsAnswer : Prop :=
  (∀ (s : State) (p : Fin 4) (m : Fin 8) (e : Exec),
    (findChecked s.toRc8 0x0001 p m = some e → ∃ resp : List Byte, resp.length = 64 ∧ exec (.identify p m) s = .next (s.after (endExec e.id .done resp))) ∧
    (findChecked s.toRc8 0x0003 p m = some e → ∃ resp : List Byte, resp.length = 32 ∧ exec (.readPlantTime p m) s = .next (s.after (endExec e.id .done resp))) ∧
    (findChecked s.toRc8 0x0004 p m = some e → ∃ resp : List Byte, resp.length = 528 ∧ exec (.commandResults p m) s = .next (s.after (endExec e.id .done resp))) ∧
    (findChecked s.toRc8 0x0011 p m = some e → ∃ resp : List Byte, resp.length = 32 ∧ exec (.getHostRights p m) s = .next (s.after (endExec e.id .done resp))) ∧
    (findChecked s.toRc8 0x0102 p m = some e → ∃ resp : List Byte, resp.length = 32 ∧ exec (.getMode p m) s = .next (s.after (endExec e.id .done resp))) ∧
    (findChecked s.toRc8 0x0105 p m = some e → ∃ resp : List Byte, resp.length = 272 ∧ exec (.taskStatus p m) s = .next (s.after (endExec e.id .done resp))) ∧
    (findChecked s.toRc8 0x0204 p m = some e → ∃ resp : List Byte, resp.length = 64 ∧ exec (.changeStatus p m) s = .next (s.after (endExec e.id .done resp))) ∧
    (findChecked s.toRc8 0x0303 p m = some e → ∃ resp : List Byte, resp.length = 32 ∧ exec (.recorderStatus p m) s = .next (s.after (endExec e.id .done resp))) ∧
    (findChecked s.toRc8 0x0401 p m = some e → ∃ resp : List Byte, resp.length = 64 ∧ exec (.netStatus p m) s = .next (s.after (endExec e.id .done resp))) ∧
    (findChecked s.toRc8 0x0402 p m = some e → ∃ resp : List Byte, resp.length = 128 ∧ exec (.netPortCounters p m) s = .next (s.after (endExec e.id .done resp))) ∧
    (findChecked s.toRc8 0x0403 p m = some e → ∃ resp : List Byte, resp.length = 1040 ∧ exec (.netNodeList p m) s = .next (s.after (endExec e.id .done resp))) ∧
    (findChecked s.toRc8 0x0410 p m = some e → ∃ resp : List Byte, resp.length = 64 ∧ exec (.schedStatus p m) s = .next (s.after (endExec e.id .done resp))) ∧
    (findChecked s.toRc8 0x0414 p m = some e → ∃ resp : List Byte, resp.length = 64 ∧ exec (.schedChannelCounters p m) s = .next (s.after (endExec e.id .done resp))) ∧
    (findChecked s.toRc8 0x0415 p m = some e → ∃ resp : List Byte, resp.length = 2056 ∧ exec (.schedWindowStatus p m) s = .next (s.after (endExec e.id .done resp))) ∧
    (findChecked s.toRc8 0x0501 p m = some e → ∃ resp : List Byte, resp.length = 64 ∧ exec (.engineStatus p m) s = .next (s.after (endExec e.id .done resp))) ∧
    (findChecked s.toRc8 0x0702 p m = some e → ∃ resp : List Byte, resp.length = 64 ∧ exec (.pairStatus p m) s = .next (s.after (endExec e.id .done resp))) ∧
    (findChecked s.toRc8 0x0805 p m = some e → ∃ resp : List Byte, resp.length = 32 ∧ exec (.detourStatus p m) s = .next (s.after (endExec e.id .done resp))) ∧
    (findChecked s.toRc8 0x0806 p m = some e → ∃ resp : List Byte, resp.length = 1096 ∧ exec (.safetyStatus p m) s = .next (s.after (endExec e.id .done resp))) ∧
    (findChecked s.toRc8 0x0902 p m = some e → ∃ resp : List Byte, resp.length = 528 ∧ exec (.acuLogRead p m) s = .next (s.after (endExec e.id .done resp))) ∧
    (findChecked s.toRc8 0x0903 p m = some e → ∃ resp : List Byte, resp.length = 32 ∧ exec (.acuStatus p m) s = .next (s.after (endExec e.id .done resp))) ∧
    (findChecked s.toRc8 0x0904 p m = some e → ∃ resp : List Byte, resp.length = 136 ∧ exec (.acuRulesRead p m) s = .next (s.after (endExec e.id .done resp))) ∧
    (findChecked s.toRc8 0x0905 p m = some e → ∃ resp : List Byte, resp.length = 224 ∧ exec (.memoryStatus p m) s = .next (s.after (endExec e.id .done resp))) ∧
    (findChecked s.toRc8 0x0A02 p m = some e → ∃ resp : List Byte, resp.length = 64 ∧ exec (.timeStatus p m) s = .next (s.after (endExec e.id .done resp))) ∧
    (findChecked s.toRc8 0x0A11 p m = some e → ∃ resp : List Byte, resp.length = 64 ∧ exec (.ethStatus p m) s = .next (s.after (endExec e.id .done resp))) ∧
    (findChecked s.toRc8 0x0A21 p m = some e → ∃ resp : List Byte, resp.length = 256 ∧ exec (.peerStatus p m) s = .next (s.after (endExec e.id .done resp))) ∧
    (findChecked s.toRc8 0x0A40 p m = some e → ∃ resp : List Byte, resp.length = 1040 ∧ exec (.milestoneRead p m) s = .next (s.after (endExec e.id .done resp))) ∧
    (findChecked s.toRc8 0x0A43 p m = some e → ∃ resp : List Byte, resp.length = 64 ∧ exec (.roundStatus p m) s = .next (s.after (endExec e.id .done resp))) ∧
    (findChecked s.toRc8 0x0B02 p m = some e → ∃ resp : List Byte, resp.length = 48 ∧ exec (.canStatus p m) s = .next (s.after (endExec e.id .done resp))) ∧
    (findChecked s.toRc8 0x0B07 p m = some e → ∃ resp : List Byte, resp.length = 64 ∧ exec (.canTxStatus p m) s = .next (s.after (endExec e.id .done resp))) ∧
    (findChecked s.toRc8 0x0C03 p m = some e → ∃ resp : List Byte, resp.length = 128 ∧ exec (.ffeStatus p m) s = .next (s.after (endExec e.id .done resp))) ∧
    (findChecked s.toRc8 0x0D06 p m = some e → ∃ resp : List Byte, resp.length = 64 ∧ exec (.updateStatus p m) s = .next (s.after (endExec e.id .done resp))) ∧
    (findChecked s.toRc8 0x0E03 p m = some e → ∃ resp : List Byte, resp.length = 32 ∧ exec (.lockstepStatus p m) s = .next (s.after (endExec e.id .done resp))) ∧
    (∀ x, findChecked s.toRc8 0x0F01 p m = some e → ∃ resp : List Byte, resp.length = 64 ∧ exec (.powerStatus p m x) s = .next (s.after (endExec e.id .done resp)))) ∧
  (∀ (s : State) (p : Fin 4) (m : Fin 8) (e : Exec),
    (findChecked s.toRc8 0x0508 p m = some e → ∃ resp : List Byte, resp.length = (64 * u16At e.req 2) ∧ exec (.engineAxisStatus p m) s = .next (s.after (endExec e.id .done resp))) ∧
    (findChecked s.toRc8 0x0601 p m = some e → ∃ resp : List Byte, resp.length = (32 * u16At e.req 2) ∧ exec (.learnStatus p m) s = .next (s.after (endExec e.id .done resp))) ∧
    (findChecked s.toRc8 0x0604 p m = some e → ∃ resp : List Byte, resp.length = (8 + 4 * u16At e.req 4) ∧ exec (.learnTableRead p m) s = .next (s.after (endExec e.id .done resp))) ∧
    (findChecked s.toRc8 0x0301 p m = some e → ∃ k, k ≤ u16At e.req 4 ∧ ∃ resp : List Byte, resp.length = (16 + 32 * k) ∧ exec (.recorderRead p m) s = .next (s.after (endExec e.id .done resp))) ∧
    (findChecked s.toRc8 0x0804 p m = some e → ∃ k, k ≤ u16At e.req 4 ∧ ∃ resp : List Byte, resp.length = (16 + 64 * k) ∧ exec (.safetyLogRead p m) s = .next (s.after (endExec e.id .done resp))) ∧
    (∀ data, findChecked s.toRc8 0x0E07 p m = some e → dataStill s.toRc8 = true →
      exec (.debugRead p m data) s = .next (s.after (endExec e.id .done (memReadN s.run.data (u32At e.req 0) (u16At e.req 4))))) ∧
    (∀ data, findChecked s.toRc8 0x0E07 p m = some e → dataStill s.toRc8 = false → u16At e.req 4 ≤ data.length →
      exec (.debugRead p m data) s = .next (s.after (endExec e.id .done (data.take (u16At e.req 4))))) ∧
    (findChecked s.toRc8 0x0503 p m = some e → u8At e.req 2 = 0 →
      exec (.engineParamRead p m) s = .next (s.after (endExec e.id .done (le 4 (s.nv.banks[s.nv.bankActive]).generation ++ le 1 s.nv.bankActive.val ++ zeros 3 ++
        (s.nv.banks[s.nv.bankActive]).block (u16At e.req 0))))))

/-- What GET_MODE, READ_PLANT_TIME, GET_HOST_RIGHTS and ROUND_STATUS answer, field by field (02 R84, R86; 03 R117; 08 R273).
GET_STATUS answers 40 bytes that begin with mode and key, and starts a new severity interval at its own port alone (02
R83, R573). CAN_RX_READ answers 96 bytes for each object it names and then clears its new, lost and overwrite marks (14
R469). -/
def Obligations.ReadsAnswerTheState : Prop :=
  (∀ (s : State) (p : Fin 4) (m : Fin 8) (e : Exec),
    (findChecked s.toRc8 0x0102 p m = some e → ∃ rest, exec (.getMode p m) s = .next (s.after (endExec e.id .done (le 1 s.run.mode.code ++ le 1 s.run.key.code ++
      le 1 (if s.pair.partner.present then s.pair.partner.key else 0xFF) ++ le 1 s.run.lastCause ++ rest)))) ∧
    (findChecked s.toRc8 0x0003 p m = some e → ∃ rest, exec (.readPlantTime p m) s = .next (s.after (endExec e.id .done (le 8 (s.clk.ptu / (65536 * 1000000000) % 2 ^ 64) ++ le 4 (s.clk.ptu % (65536 * 1000000000) / 65536) ++ le 2 (s.clk.ptu % 65536) ++
        le 1 s.tim.st.code ++ zeros 1 ++ le 8 s.rnd.round ++ rest)))) ∧
    (findChecked s.toRc8 0x0011 p m = some e → ∃ resp, exec (.getHostRights p m) s = .next (s.after (endExec e.id .done resp)) ∧
      ∀ k : Fin 4, slice resp (8 * k.val) 4 = le 1 (rightsInForce k s.toRc8).cls.code ++ le 1 (rightsInForce k s.toRc8).grants.toNat ++
        le 1 (b2n (s.hp[k]).link) ++ le 1 (b2n (s.saf.sess[k]).isSome)) ∧
    (findChecked s.toRc8 0x0A43 p m = some e → ∃ rest, exec (.roundStatus p m) s = .next (s.after (endExec e.id .done (le 8 s.rnd.round ++ le 4 s.rnd.period ++ le 4 s.nv.storedPeriod ++ le 2 s.rnd.generation ++ rest))))) ∧
  (∀ (s : State) (p : Fin 4) (m : Fin 8) (e : Exec),
    (findChecked s.toRc8 0x0002 p m = some e → ∃ resp, resp.length = 40 ∧ resp.take 2 = le 1 s.run.mode.code ++ le 1 s.run.key.code ∧
      exec (.getStatus p m) s = .next (s.after fun r => modPort e.port (fun h => { h with highest := none }) (endExec e.id .done resp r))) ∧
    (findChecked s.toRc8 0x0B04 p m = some e → ∃ resp, resp.length = 96 * u16At e.req 4 ∧
      exec (.canRxRead p m) s = .next (s.after fun r => endExec e.id .done resp (modCan (canAt e) (fun x => { x with rx := x.rx.map fun y =>
        if (u16At e.req 2 ≤ y.1 ∧ y.1 < u16At e.req 2 + u16At e.req 4) then (y.1, { y.2 with isNew := false, lost := false, overwrites := 0 }) else y }) r))))

/-- SET_HOST_RIGHTS: an entry that is in force already ends with DONE and changes nothing else; one that leaves no ENGINEER
or SAFETY port ends with WRONG_STATE; one whose read-back differs ends with INTEGRITY_FAIL; any other one is stored and ends
with DONE, and the access rules follow in a new rule epoch, for whose completion the command's end waits (02 R64, R85; 12
R401, R409). Until that end the port's old entry is in force; with it the new one is, a change of class ends the
target's safety session and no other, and no other entry changes (R64, R66, R88). -/
def Obligations.SetHostRightsOutcomes : Prop :=
  (∀ (s : State) (p : Fin 4) (m : Fin 8) (e : Exec) (target : Fin 4) (stored : Bool), findChecked s.toRc8 0x0010 p m = some e →
    u8At e.req 0 = target.val → u8At e.req 1 ≤ 3 → u8At e.req 2 < 32 → s.nv.password = none →
    ((Cls.ofCode (u8At e.req 1) = (s.nv.rights[target]).cls ∧ BitVec.ofNat 5 (u8At e.req 2) = (s.nv.rights[target]).grants) →
      exec (.setHostRights p m stored) s = .next (s.after (endExec e.id .done []))) ∧
    (¬ (Cls.ofCode (u8At e.req 1) = (s.nv.rights[target]).cls ∧ BitVec.ofNat 5 (u8At e.req 2) = (s.nv.rights[target]).grants) →
      ((∀ k : Fin 4, (if k = target then Cls.ofCode (u8At e.req 1) else (s.nv.rights[k]).cls) ∈ [Cls.observe, Cls.operate]) →
        exec (.setHostRights p m stored) s = .next (s.after (endExec e.id .wrongState []))) ∧
      ((∃ k : Fin 4, (if k = target then Cls.ofCode (u8At e.req 1) else (s.nv.rights[k]).cls) ∈ [Cls.engineer, Cls.safety]) →
        (stored = false → exec (.setHostRights p m stored) s = .next (s.after (endExec e.id .integrityFail []))) ∧
        (stored = true → ∃ t : State, exec (.setHostRights p m stored) s = .next t ∧
          t.nv.rights = s.nv.rights.set target { cls := Cls.ofCode (u8At e.req 1), grants := BitVec.ofNat 5 (u8At e.req 2) } ∧
          t.itg.epoch = (s.itg.epoch + 1) % 2 ^ 32 ∧ t.itg.regions = rulesFor t.toRc8 ∧
          t.itg.waiting = s.itg.waiting ++ [(t.itg.epoch, s.clk.refosc, false)] ∧
          t.execs = s.execs.map (fun x => if x.id = e.id then
            { x with phase := .ended .done [], rules := some t.itg.epoch, rights := some (target, s.nv.rights[target]) } else x) ∧
          t.saf = s.saf ∧ t.clk = s.clk ∧ t.run = s.run ∧ t.net = s.net ∧ t.out = s.out)))) ∧
  (∀ (s : State) (e : Exec) (target : Fin 4) (old : Rights) (st : Status) (resp : List Byte), s.execs.find? (fun x => x.id == e.id) = some e →
    e.phase = .ended st resp → e.rights = some (target, old) → (∀ x ∈ s.execs, x.id ≠ e.id → x.rights = none) →
    rightsInForce target s.toRc8 = old ∧ (∀ q : Fin 4, q ≠ target → rightsInForce q s.toRc8 = s.nv.rights[q]) ∧
    (e.rulesMet s.toRc8 = true → (∀ x ∈ s.execs, x.id = e.id → x = e) → Leads (.commandExecutionEnd e.id) s fun t =>
      (∀ q : Fin 4, rightsInForce q t.toRc8 = s.nv.rights[q]) ∧ t.nv.rights = s.nv.rights ∧
      t.saf.sess = (if old.cls = (s.nv.rights[target]).cls then s.saf.sess else s.saf.sess.set target none)))

/-! ### Rounds and milestones -/

/-- The round boundary takes the round number one on, modulo 2^64, in every state (03 R91, R112). -/
def Obligations.RoundBoundaryCountsRounds : Prop := ∀ s : State, Leads .roundBoundary s fun t => t.rnd.round = (s.rnd.round + 1) % 2 ^ 64

/-- A milestone that is not due in the current round, or whose turn it is not among those of its instant, does nothing (03
R96, R98). GATHER_DONE freezes the receive bank and closes the gather window; ENGINE_START begins a computation where
the engine is in RUN and its domain is on, on the setpoints published last before it; ENGINE_DONE ends it; COMMIT
freezes the transmit banks of holder and standby; MGMT_OPEN closes the command window and opens the management window of
the round (01 R32, R38; 03 R107; 05 R164, R166; 06 R188, R189). The standby does not compute at ENGINE_START; its own
computation starts after the later GATHER_DONE (01 R33; 10 R319). -/
def Obligations.MilestonesOfTheRound : Prop :=
  (∀ (s : State) (n : Fin 2) (t : Fin 8) (p : Fin 4) (x : FieldSample) (d : BitVec 2),
    (dueEntry 1 0 s.toRc8 = none → exec .latch s = .next s) ∧ (dueEntry 2 0 s.toRc8 = none → exec (.samplePoint x) s = .next s) ∧
    (dueEntry 3 n.val s.toRc8 = none → exec (.gatherDone n) s = .next s) ∧ (dueEntry 4 0 s.toRc8 = none → exec .engineStart s = .next s) ∧
    (dueEntry 5 0 s.toRc8 = none → exec .commitPoint s = .next s) ∧ (dueEntry 6 n.val s.toRc8 = none → exec (.commandLaunch n) s = .next s) ∧
    (dueEntry 7 n.val s.toRc8 = none → exec (.gatherLaunch n) s = .next s) ∧ (dueEntry 8 t.val s.toRc8 = none → exec (.taskRelease t) s = .next s) ∧
    (dueEntry 9 p.val s.toRc8 = none → exec (.hostTick p) s = .next s) ∧ (dueEntry 12 n.val s.toRc8 = none → exec (.mgmtOpen n d) s = .next s)) ∧
  (∀ (s : State) (n : Fin 2) (e : Milestone) (d : BitVec 2),
    (dueEntry 3 n.val s.toRc8 = some e → Leads (.gatherDone n) s fun t =>
      (t.sch[n]).rxFrozen = true ∧ (t.sch[n]).gatherOpen = false ∧ (t.sch[n]).mgmtOpen = none ∧ t.eng = s.eng ∧ t.nv.rights = s.nv.rights) ∧
    (dueEntry 4 0 s.toRc8 = some e → isStandby s.toRc8 = false → dmaStopped 5 s.toRc8 = false →
      (engineCode s.toRc8 = 0 → Leads .engineStart s fun t => t.eng.started = true ∧ t.eng.done = false ∧
        t.eng.usedGen = (setBefore t.toRc8).2 ∧ t.run = s.run ∧ t.net = s.net ∧ t.clk = s.clk.toPtu (roundStart s.toRc8 + e.off * fracPerNs)) ∧
      (engineCode s.toRc8 ≠ 0 → Leads .engineStart s fun t => t.eng.started = false ∧ t.eng.records = [] ∧ t.net = s.net)) ∧
    (s.eng.started = true → s.eng.done = false → isStandby s.toRc8 = false → dmaStopped 5 s.toRc8 = false → Leads .engineDone s fun t =>
      t.eng = { s.eng with done := true } ∧ t.net = s.net ∧ t.run = s.run) ∧
    (dueEntry 5 0 s.toRc8 = some e → Leads .commitPoint s fun t =>
      ∀ k : Fin 2, (t.sch[k]).txClosed = true ∧ (t.sch[k]).txFrozen = (t.sch[k]).tx) ∧
    (dueEntry 12 n.val s.toRc8 = some e → Leads (.mgmtOpen n d) s fun t =>
      (t.sch[n]).mgmtOpen = some s.rnd.round ∧ (t.sch[n]).commandOpen = false ∧ (svpRuns s.toRc8 = true → t.pair.renewed = some s.rnd.round)) ∧
    (isStandby s.toRc8 = true → dueEntry 4 0 s.toRc8 = some e → Leads .engineStart s fun t => t.eng = s.eng ∧ t.out = s.out) ∧
    (isStandby s.toRc8 = true → s.pair.synced = true → dmaStopped 5 s.toRc8 = false → engineCode s.toRc8 = 0 →
      (∃ k : Fin 2, (s.sch[k]).inForce.isSome = true) → Leads .shadowEngineStart s fun t =>
        t.eng.started = true ∧ t.eng.done = false ∧ t.pair.ownRound = !s.pair.fwdDone))

/-- GATHER_LAUNCH and COMMAND_LAUNCH open the receive windows of their kind at their instant. The holder in MASTER whose
guardian lets it launches one frame per index on each launch port, empty gather frames and command frames from the
frozen bank; with the guardian's window closed, or without MASTER, nothing goes out (04 R131; 05 R155, R157 to R159). -/
def Obligations.LaunchesAndTheirFrames : Prop :=
  ∀ (s : State) (n : Fin 2) (e : Milestone) (c : Schedule), (s.sch[n]).inForce = some c →
    (dueEntry 7 n.val s.toRc8 = some e → Leads (.gatherLaunch n) s fun t =>
      (t.sch[n]).gatherOpen = true ∧ (t.sch[n]).rxFrozen = false ∧ (t.sch[n]).sel = c.windows.map (fun _ => none) ∧
      t.clk = s.clk.toPtu (roundStart s.toRc8 + e.off * fracPerNs) ∧ t.nv = s.nv ∧ t.run = s.run ∧ t.eng = s.eng ∧ t.hp = s.hp ∧
      t.out = s.out ++ (if launching n s.toRc8 = true ∧ (s.net[n]).media.topo ≠ .star ∧ guardOpen s.net[n] = true then
        (launchPorts s.net[n]).flatMap fun p => (c.frames false).map fun i =>
          Out.budan n p (budanDest n) (s.net[n]).mac (s.net[n]).media.etherType 2 s.rnd.round c.id (frameFlags (renumberedRound s.toRc8) (switchPending s.sch[n] s.rnd.round) p i) (zeros (c.frameLen false i))
        else [])) ∧
    (dueEntry 6 n.val s.toRc8 = some e → Leads (.commandLaunch n) s fun t =>
      (t.sch[n]).commandOpen = true ∧ t.clk = s.clk.toPtu (roundStart s.toRc8 + e.off * fracPerNs) ∧ t.nv = s.nv ∧ t.run = s.run ∧
      t.eng = s.eng ∧ t.hp = s.hp ∧
      t.out = s.out ++ (if launching n s.toRc8 = true ∧ guardOpen s.net[n] = true then
        (launchPorts s.net[n]).flatMap fun p => (c.frames true).map fun i =>
          Out.budan n p (budanDest n) (s.net[n]).mac (s.net[n]).media.etherType 1 s.rnd.round c.id (frameFlags (renumberedRound s.toRc8) (switchPending s.sch[n] s.rnd.round) p i)
            (commandData c (s.sch[n]).txFrozen s.rnd.round i)
        else []))

/-- ROUND_SET_PERIOD and NET_SET_MEDIA store what the next cold start takes and leave what is in force: the media at once, the
period at the first boundary at least 1 ms ahead, until which the command runs on (the model's reading, log 106);
MILESTONE_WRITE stores its set at once and fixes its round and generation for a later boundary. Where a partner is
present that cannot be reached, or the read-back differs, each ends with INTEGRITY_FAIL and changes nothing else (03
R112, R115, R116; 04 R149). The configuration commands of chapters 13 to 15: refused with INTEGRITY_FAIL where the read-back fails, else
fixed for the first boundary at least 1 ms ahead; what is in force until then stays. At that boundary the configuration
of each comes into force and its operation no longer waits (13 R440, R442, R444, R446; 14 R467, R468; 15 R496 to R498). -/
def Obligations.ConfigurationCommands : Prop :=
  (∀ (s : State) (p : Fin 4) (m : Fin 8) (e : Exec) (n : Fin 2),
    (findChecked s.toRc8 0x0A42 p m = some e → s.pair.partner.present = false → roundAfter 1000000 s.toRc8 ≠ 0 → Leads (.roundSetPeriod p m true) s fun t =>
      t.pair.pend = s.pair.pend ++ [PendOp.own (roundAfter 1000000 s.toRc8) (.command e.code e.req) (some e.id) [] true] ∧
      t.nv = s.nv ∧ t.rnd = s.rnd ∧ t.execs = s.marked e.id .waiting) ∧
    (findChecked s.toRc8 0x0404 p m = some e → s.pair.partner.present = false → u8At e.req 0 = n.val → Leads (.netSetMedia p m true) s fun t =>
      t.nv = { s.nv with media := s.nv.media.set n (mediaOf e.req) } ∧ t.net = s.net ∧ t.execs = s.marked e.id (.ended .done [])) ∧
    (findChecked s.toRc8 0x0A41 p m = some e → s.pair.partner.present = false → otherWaiting s.toRc8 0x0A41 e.id = false →
      opWaits 0x0A41 s.toRc8 = false → (∀ k : Fin 2, loadRuns k s.toRc8 = false) → changeArmed s.toRc8 = false → roundAfter 1000000 s.toRc8 ≠ 0 →
      Leads (.milestoneWrite p m true) s fun t =>
        t.pair.pend = s.pair.pend ++ [PendOp.own (roundAfter 1000000 s.toRc8) (.command e.code e.req) (some e.id)
          (le 8 (roundAfter 1000000 s.toRc8) ++ le 2 ((s.rnd.generation + 1) % 65536) ++ zeros 6) false] ∧
        t.rnd = s.rnd ∧ t.nv = { s.nv with hostMilestones := hostEntries e.req } ∧
        t.execs = s.marked e.id (.ended .done (le 8 (roundAfter 1000000 s.toRc8) ++ le 2 ((s.rnd.generation + 1) % 65536) ++ zeros 6))) ∧
    (findChecked s.toRc8 0x0A42 p m = some e → exec (.roundSetPeriod p m false) s = .next (s.after (endWith e.id .integrityFail))) ∧
    (findChecked s.toRc8 0x0404 p m = some e → exec (.netSetMedia p m false) s = .next (s.after (endWith e.id .integrityFail))) ∧
    (findChecked s.toRc8 0x0A42 p m = some e → s.pair.partner.present = true → s.pair.plk.up = false →
      exec (.roundSetPeriod p m true) s = .next (s.after (endWith e.id .integrityFail)))) ∧
  ((∀ (s : State) (p : Fin 4) (m : Fin 8) (e : Exec),
    (findChecked s.toRc8 0x0A03 p m = some e → exec (.timeConfigure p m false) s = .next (s.after (endWith e.id .integrityFail)) ∧
      (s.pair.partner.present = false → roundAfter 1000000 s.toRc8 ≠ 0 → exec (.timeConfigure p m true) s = .next (s.after fun r => r.fixedAhead e))) ∧
    (findChecked s.toRc8 0x0A10 p m = some e → exec (.ethConfigure p m false) s = .next (s.after (endWith e.id .integrityFail)) ∧
      (s.pair.partner.present = false → roundAfter 1000000 s.toRc8 ≠ 0 → exec (.ethConfigure p m true) s = .next (s.after fun r => r.fixedAhead e))) ∧
    (findChecked s.toRc8 0x0A20 p m = some e → exec (.peerConfigure p m false) s = .next (s.after (endWith e.id .integrityFail)) ∧
      (s.pair.partner.present = false → roundAfter 1000000 s.toRc8 ≠ 0 → exec (.peerConfigure p m true) s = .next (s.after fun r => r.fixedAhead e))) ∧
    (findChecked s.toRc8 0x0B01 p m = some e → exec (.canConfigure p m false) s = .next (s.after (endWith e.id .integrityFail)) ∧
      (s.pair.partner.present = false → roundAfter 1000000 s.toRc8 ≠ 0 → exec (.canConfigure p m true) s = .next (s.after fun r => r.fixedAhead e))) ∧
    (findChecked s.toRc8 0x0C01 p m = some e → exec (.ffeDioConfigure p m false) s = .next (s.after (endWith e.id .integrityFail)) ∧
      (s.pair.partner.present = false → roundAfter 1000000 s.toRc8 ≠ 0 → exec (.ffeDioConfigure p m true) s = .next (s.after fun r => r.fixedAhead e))) ∧
    (findChecked s.toRc8 0x0C02 p m = some e → exec (.ffeLoopConfigure p m false) s = .next (s.after (endWith e.id .integrityFail)) ∧
      (s.pair.partner.present = false → roundAfter 1000000 s.toRc8 ≠ 0 → exec (.ffeLoopConfigure p m true) s = .next (s.after fun r => r.fixedAhead e)))) ∧
  (∀ (s : State) (p : Fin 4) (m : Fin 8) (e : Exec), findChecked s.toRc8 0x0B03 p m = some e →
    exec (.canRxConfigure p m false) s = .next (s.after (endWith e.id .integrityFail)) ∧
    (s.pair.partner.present = false → ∀ c : Fin 4, u8At e.req 0 = c.val → exec (.canRxConfigure p m true) s = .next (s.after fun r => { r with
      nv := { r.nv with canRx := r.nv.canRx.set c (putRxCfgs r.nv.canRx[c] (rxCfgs e.req)) }, execs := r.marked e.id (.ended .done []) }))) ∧
  (∀ (s : Rc8) (r : List Byte) (w n : Nat) (x : Option Nat), w ≠ 0 → w ≤ n →
    (∀ id, s.pair.pend = [PendOp.own w (.command 0x0A42 r) (some id) [] true] → (applyDue n s).nv.storedPeriod = u32At r 0 ∧
      (applyDue n s).rnd.period = s.rnd.period ∧ (applyDue n s).execs = s.marked id (.ended .done [])) ∧
    (s.pair.pend = [PendOp.own w (.command 0x0A03 r) x [] false] → (applyDue n s).nv.ptp = ptpOf r ∧ (applyDue n s).pair.pend = []) ∧
    (∀ k : Fin 2, u8At r 0 = k.val → s.pair.pend = [PendOp.own w (.command 0x0A10 r) x [] false] →
      (applyDue n s).nv.ethCfg = s.nv.ethCfg.set k { speed := u8At r 1, enabled := bitAt (u8At r 2) 0, ip := u32At r 4, weights := (List.range 7).map fun q => u8At r (8 + q) } ∧
      (applyDue n s).pair.pend = []) ∧
    (∀ k : Fin 16, u8At r 0 = k.val → s.pair.pend = [PendOp.own w (.command 0x0A20 r) x [] false] →
      (applyDue n s).nv.peerCfg = s.nv.peerCfg.set k (peerOf r) ∧ ((applyDue n s).peers[k]).st = (if bitAt (peerOf r).flags 0 then 1 else 0)) ∧
    (∀ k : Fin 4, u8At r 0 = k.val → s.pair.pend = [PendOp.own w (.command 0x0B01 r) x [] false] →
      (applyDue n s).nv.canCfg = s.nv.canCfg.set k { flags := u8At r 1, timing := slice r 2 10, ref := u32At r 12, repeats := u8At r 16 }) ∧
    (∀ k : Fin 8, u8At r 0 = k.val → s.pair.pend = [PendOp.own w (.command 0x0C02 r) x [] false] →
      (applyDue n s).nv.loopCfg = s.nv.loopCfg.set k { mode := u8At r 1, vtmin := u16At r 4, rw := u16At r 6, vsrc := u16At r 8 }) ∧
    (∀ k : Fin 32, u8At r 0 = 1 → u8At r 8 = k.val → s.pair.pend = [PendOp.own w (.command 0x0C01 r) x [] false] →
      (applyDue n s).nv.pinCfg = s.nv.pinCfg.set k { mode := u8At r 9, flags := u8At r 10, filter := u16At r 12 } ∧
      (u8At r 9 ≠ 3 → ((applyDue n s).ffe.pins[k]).on = false))))

/-! ### Networks and schedules -/

/-- A port's link comes up or goes down, and a link's delay is measured: the port's own fields, the count of link ups, the
reflection at a port whose channel has no link at its other end, the ring map, which a link leaves with its neighbour's
report of it once no channel carries it; of the schedules only work for the nodes, the path delays, is renewed. With the
links its topology uses a BYPASSED network listens (R126, R136, R140, R575). -/
def Obligations.LinksOfANetwork : Prop :=
  ∀ (s : State) (n : Fin 2) (port : Fin 4) (ns : Nat) (nbr : Fin 64),
    (configured n s.toRc8 = true → ((s.net[n]).ports[port]).link = false → Leads (.portLinkUp n port) s fun t =>
      ((t.net[n]).ports[port]).link = true ∧ ((t.net[n]).ports[port]).ups = min 65535 (((s.net[n]).ports[port]).ups + 1) ∧
      ((t.net[n]).ports[port]).delay = none ∧
      ((t.net[n]).ports[port]).reflecting = (decide ((s.net[n]).media.topo ≠ .star) && !((s.net[n]).ports[otherPort port]).link) ∧
      (t.net[n]).state = (if (s.net[n]).state = .bypassed ∧ linksReady t.net[n] = true then .listen else (s.net[n]).state) ∧
      (∀ k : Fin 2, k ≠ n → t.net[k] = s.net[k]) ∧ t.sch = s.sch.set n { s.sch[n] with work := (t.sch[n]).work } ∧ t.nv.rights = s.nv.rights) ∧
    (((s.net[n]).ports[port]).link = true → Leads (.portLinkDown n port) s fun t =>
      ((t.net[n]).ports[port]).link = false ∧ ((t.net[n]).ports[port]).ups = ((s.net[n]).ports[port]).ups ∧
      ((t.net[n]).ports[otherPort port]).reflecting = (decide ((s.net[n]).media.topo ≠ .star) && ((s.net[n]).ports[otherPort port]).link) ∧
      (∀ x ∈ (s.net[n]).ringMap, x.node = selfNode s.toRc8 → x.side = port.val % 2 →
        (∀ y ∈ (s.net[n]).ringMap, y.node = selfNode s.toRc8 → y.side = port.val % 2 → y = x) →
        (∀ q : Fin 4, q ≠ port → q.val % 2 = port.val % 2 → ((s.net[n]).ports[q]).link = false) →
        (t.net[n]).ringMap = (s.net[n]).ringMap.filter fun y => y != x && !(y.node == x.nbr && y.nbr == x.node)) ∧
      (t.net[n]).state = (s.net[n]).state ∧ (∀ k : Fin 2, k ≠ n → t.net[k] = s.net[k]) ∧
      t.sch = s.sch.set n { s.sch[n] with work := (t.sch[n]).work }) ∧
    (((s.net[n]).ports[port]).link = true → Leads (.linkDelayMeasured n port ns nbr) s fun t =>
      ((t.net[n]).ports[port]).delay = some ns ∧
      { node := selfNode s.toRc8, side := port.val % 2, nbr := nbr.val, delay := ns } ∈ (t.net[n]).ringMap ∧
      (∀ k : Fin 2, k ≠ n → t.net[k] = s.net[k] ∧ t.sch[k] = s.sch[k]) ∧ (t.sch[n]).inForce = (s.sch[n]).inForce)

/-- Where a network goes at the end of the listen time, at convergence and at loss: silence with a valid lease makes it
MASTER from the next round on, or leaves it without configuration where a cold start of the pair finds no channel stored
for it, silence without one or a frame heard keeps it listening; convergence makes it MASTER with the lease and JOINED
without; 8 rounds without a full valid round send it back to LISTEN (R140 to R142). -/
def Obligations.NetworkStateMachine : Prop :=
  ∀ (s : State) (n : Fin 2) (t0 : Nat),
    ((s.net[n]).state = .listen → (s.net[n]).listenFrom = some t0 →
      ((s.net[n]).heard = true → Leads (.listenSilence n) s fun t => (t.net[n]).state = .listen ∧ (t.net[n]).heard = false ∧
        (t.net[n]).listenFrom = some t.clk.refosc ∧ t0 + 2000000 ≤ t.clk.refosc) ∧
      ((s.net[n]).heard = false → leaseValid s.toRc8 = false → Leads (.listenSilence n) s fun t =>
        (t.net[n]).state = .listen ∧ (t.net[n]).metSilence = true ∧ t0 + 2000000 ≤ t.clk.refosc) ∧
      ((s.net[n]).heard = false → leaseValid s.toRc8 = true → otherLive n s.toRc8 = false → (s.nv.media[n]).chans = 0 → Leads (.listenSilence n) s fun t =>
        (t.net[n]).state = .notConfigured ∧ (t.net[n]).media = s.nv.media[n]) ∧
      ((s.net[n]).heard = false → leaseValid s.toRc8 = true → otherLive n s.toRc8 = true ∨ (s.nv.media[n]).chans ≠ 0 → Leads (.listenSilence n) s fun t =>
        (t.net[n]).state = .master ∧ (t.net[n]).launchFrom = t.rnd.round + 1 ∧ (t.net[n]).listenFrom = none)) ∧
    (16 ≤ (s.net[n]).conv → (s.net[n]).state = .syncing → Leads (.timeConverged n) s fun t =>
      (t.net[n]).state = (if leaseValid s.toRc8 = true then .master else .joined) ∧ (∀ k : Fin 2, k ≠ n → t.net[k] = s.net[k])) ∧
    (8 ≤ (s.net[n]).lossRounds → (s.net[n]).state = .joined ∨ (s.net[n]).state = .syncing → Leads (.networkLost n) s fun t =>
      (t.net[n]).state = .listen ∧ (t.net[n]).listenFrom = some s.clk.refosc ∧ (t.net[n]).conv = 0 ∧ (t.net[n]).lossRounds = 0 ∧
      (∀ k : Fin 2, k ≠ n → t.net[k] = s.net[k]))

/-- The guardian's cuts and resynchronisation faults are counted, a fault closes its windows; NETWORK_DOWN and
CHANNEL_SILENT mark their episode once (R132, R134, R140; 05 R165, R187). The bypass holds: NET_ATTACH completes its
mailbox with PENDING and starts the sequence of every network named, which listens at once where its links are up
already (the model's reading, log 13); NET_RELEASE opens both holds at once, or A first where both are active; the hold
timer takes each sequence to its next wait or its end (R138, R150, R151). -/
def Obligations.GuardianEpisodesAndHolds : Prop :=
  (∀ (s : State) (n : Fin 2) (port : Fin 4) (w : CutWindow) (dev : Option Int) (ch : Fin 2) (c : Nat),
    Leads (.guardianCut n port w) s (fun t =>
      ((t.net[n]).ports[port]).cuts = min 0xFFFFFFFF (((s.net[n]).ports[port]).cuts + 1) ∧
      (t.net[n]).guard = { (s.net[n]).guard with cuts := min 0xFFFFFFFF ((s.net[n]).guard.cuts + 1) } ∧ (t.net[n]).state = (s.net[n]).state) ∧
    Leads (.guardianResyncFault n dev) s (fun t => (t.net[n]).guard.closed = true ∧ (t.net[n]).guard.good = 0 ∧
      (t.net[n]).guard.faults = min 0xFFFFFFFF ((s.net[n]).guard.faults + 1) ∧ (t.net[n]).ports = (s.net[n]).ports) ∧
    (downCause s.net[n] = some c → (s.net[n]).state = .master → (s.net[n]).downEpisode = false → Leads (.networkDown n) s fun t =>
      (t.net[n]).downEpisode = true ∧ t.nv.rights = s.nv.rights) ∧
    (8 ≤ ((s.sch[n]).count[ch]).run → ((s.sch[n]).count[ch]).episode = false → Leads (.channelSilent n ch) s fun t =>
      ((t.sch[n]).count[ch]) = { (s.sch[n]).count[ch] with episode := true } ∧ t.net = s.net) ∧
    (((s.sch[n]).count[ch]).episode = true → exec (.channelSilent n ch) s = .next s)) ∧
  (∀ (s : State) (p : Fin 4) (m : Fin 8) (e : Exec) (n : Fin 2) (q : HoldSeq),
    (findChecked s.toRc8 0x0406 p m = some e → n ∈ maskNets e → Leads (.netAttach p m) s fun t =>
      (t.net[n]).seq = some { step := if chanUsed s.net[n] 0 then .waitA else .waitB, start := s.clk.refosc, since := s.clk.refosc, exec := some e.id, by_ := p.val } ∧
      (t.net[n]).state = (if (s.net[n]).state = .bypassed ∧ linksReady s.net[n] = true then .listen else (s.net[n]).state)) ∧
    (findChecked s.toRc8 0x0405 p m = some e → n ∈ maskNets e → (s.net[n]).holds ≤ 3 →
      (bitAt (u8At e.req 1) 0 = true → Leads (.netRelease p m) s fun t => (t.net[n]).holds = 0 ∧ (t.net[n]).seq = none) ∧
      (bitAt (u8At e.req 1) 0 = false → (s.net[n]).holds = 3 → Leads (.netRelease p m) s fun t =>
        (t.net[n]).holds = 2 ∧ (t.net[n]).seq = some { step := .waitRelease, start := s.clk.refosc, since := s.clk.refosc, exec := some e.id, by_ := p.val })) ∧
    ((s.net[n]).seq = some q → q.step = .waitA → Leads (.bypassHoldTimer n) s fun t =>
      ((t.net[n]).seq.map (·.step)) = (if chanUsed s.net[n] 1 then some .waitStartB else none)) ∧
    ((s.net[n]).seq = some q → q.step = .waitRelease → (s.net[n]).holds = 2 → Leads (.bypassHoldTimer n) s fun t =>
      (t.net[n]).seq = none ∧ (t.net[n]).holds = 0 ∧ q.since + 5000000000 ≤ t.clk.refosc) ∧
    ((s.net[n]).seq = some q → q.step = .waitStartB → Leads (.bypassHoldTimer n) s fun t =>
      (t.net[n]).seq = some { q with step := .waitB, since := t.clk.refosc } ∧ q.start + 5000000000 ≤ t.clk.refosc) ∧
    ((s.net[n]).seq = some q → q.step = .waitB → Leads (.bypassHoldTimer n) s fun t => (t.net[n]).seq = none))

/-- SCHED_LOAD takes its blocks in order and stores the whole schedule once every check of its last block passes;
SCHED_DELETE removes one and tells the partner until it has confirmed; NODE_STOP queues a stop on each network named
with the next sequence (R181, R183, R186). SCHED_SWITCH makes the schedules named pending and answers PENDING; a switch
without every confirmation ends after 10 s with TOO_LATE and leaves the schedules in force (R175, R182). -/
def Obligations.Schedules : Prop :=
  (∀ (s : State) (p : Fin 4) (m : Fin 8) (e : Exec) (n : Fin 2),
    (findChecked s.toRc8 0x0411 p m = some e → netAt e 0 = n → schedLoadBlocked e s.toRc8 = none → u32At e.req 8 = 0 →
      (∀ stored, bitAt (u8At e.req 1) 0 = false → Leads (.schedLoad p m stored) s fun t =>
        (t.sch[n]).load = some { port := e.port, id := u16At e.req 2, total := u32At e.req 4, data := e.req.drop 16, finishing := none } ∧
        t.execs = s.marked e.id (.ended .done (le 4 (e.req.drop 16).length ++ zeros 4)) ∧ t.nv = s.nv ∧ t.net = s.net) ∧
      (bitAt (u8At e.req 1) 0 = true → schedCrcOk (e.req.drop 16) = true →
        schedCond1 (e.req.drop 16) (s.net[n]).media s.rnd.period (u32At e.req 4) (u16At e.req 2) n.val = true →
        schedRefusal n (parseSchedule (e.req.drop 16)) (otherSched n s.toRc8) s.toRc8 = none → s.pair.partner.present = false →
        Leads (.schedLoad p m true) s fun t => t.nv.schedules = s.nv.schedules.set n (s.nv.schedules[n] ++ [parseSchedule (e.req.drop 16)]) ∧
          (t.sch[n]).inForce = (s.sch[n]).inForce)) ∧
    (findChecked s.toRc8 0x0413 p m = some e → netAt e 0 = n → u8At e.req 0 ≤ 1 → Leads (.schedDelete p m) s fun t =>
      t.nv.schedules = s.nv.schedules.set n (s.nv.schedules[n].filter fun c => c.id != u16At e.req 2) ∧
      (t.sch[n]).toDelete = (s.sch[n]).toDelete ++ [(u16At e.req 2, if s.pair.plk.up then some (plkNextSeq 0x20 s.toRc8) else none)] ∧ (t.sch[n]).inForce = (s.sch[n]).inForce ∧
      t.execs = s.marked e.id (.ended .done [])) ∧
    (findChecked s.toRc8 0x0416 p m = some e → (∀ k ∈ maskNets e, (s.sch[k]).stops.length < 16) → Leads (.nodeStop p m) s fun t =>
      (∀ k ∈ maskNets e, (t.sch[k]).stopSeq = ((s.sch[k]).stopSeq + 1) % 65536 ∧ (t.sch[k]).stops = (s.sch[k]).stops ++
        [{ cmd := u8At e.req 1, target := u8At e.req 2, seq := ((s.sch[k]).stopSeq + 1) % 65536, sent := 0 }]) ∧
      (∀ k : Fin 2, k ∉ maskNets e → t.sch[k] = s.sch[k]) ∧ t.net = s.net ∧ t.nv = s.nv)) ∧
  ((∀ (s : State) (p : Fin 4) (m : Fin 8) (e : Exec), findChecked s.toRc8 0x0412 p m = some e → changeArmed s.toRc8 = false → switchRuns s.toRc8 = false → u64At e.req 8 = 0 →
    (∀ n ∈ maskNets e, ∃ c, storedSched n (switchId e n) s.toRc8 = some c ∧ schedCrcOk c.image = true ∧
      schedCond1 c.image (s.net[n]).media s.rnd.period c.image.length c.id n.val = true ∧
      schedRefusal n c (afterSwitch e (if n = 0 then 1 else 0) s.toRc8) s.toRc8 = none) →
    Leads (.schedSwitch p m) s fun t =>
      (∀ n ∈ maskNets e, (t.sch[n]).pending.map (·.id) = some (switchId e n) ∧ (t.sch[n]).inForce = (s.sch[n]).inForce) ∧ t.nv.schedules = s.nv.schedules) ∧
  (∀ (s : State) (w : SchedSwitch), (bothNets.findSome? fun n => (s.sch[n]).pending.filter fun w => w.round.isNone) = some w →
    Leads .scheduleSwitchTimeout s fun t => (∀ n : Fin 2, (t.sch[n]).pending = none ∧ (t.sch[n]).inForce = (s.sch[n]).inForce) ∧
      w.since + 10000000000 ≤ t.clk.refosc))

/-- A frame copy at a port of a configured network with link: foreign where tagged or of another EtherType, corrupt where
its check sequence is wrong, and passed on all the same, late outside its window; one that passes every check counts as
valid on its channel (04 R120, R124 to R126; 05 R163, R165). -/
def Obligations.CopiesAreSorted : Prop :=
  ∀ (s : State) (n : Fin 2) (port : Fin 4) (f : BudanCopy), configured n s.toRc8 = true → ((s.net[n]).ports[port]).link = true →
    ((f.tagged = true ∨ f.etherType ≠ (s.net[n]).media.etherType) → Leads (.budanCopyReceived n port f) s fun t =>
      ((t.net[n]).ports[port]) = { (s.net[n]).ports[port] with foreign := min 0xFFFFFFFF (((s.net[n]).ports[port]).foreign + 1) } ∧ t.sch = s.sch) ∧
    (f.tagged = false → f.etherType = (s.net[n]).media.etherType → f.fcsOk = false → Leads (.budanCopyReceived n port f) s fun t =>
      ((t.sch[n]).count[chanOf port]) = { (s.sch[n]).count[chanOf port] with corrupt := min 0xFFFFFFFF (((s.sch[n]).count[chanOf port]).corrupt + 1) } ∧
      ((t.net[n]).ports[port]).fcs = min 0xFFFFFFFF (((s.net[n]).ports[port]).fcs + 1) ∧ (t.sch[n]).sel = (s.sch[n]).sel ∧
      t.out = s.out ++ (if (s.net[n]).media.topo = .star ∨ f.src = (s.net[n]).mac ∨ (f.kind = 4 ∧ bitAt f.flags 3 = true) then []
        else if ((s.net[n]).ports[port]).reflecting = true then [.repeated n port f]
        else if ((s.net[n]).ports[otherPort port]).link = true ∧ ((s.net[n]).ports[otherPort port]).reflectEnds = false then [.repeated n (otherPort port) f]
        else [])) ∧
    (f.tagged = false → f.etherType = (s.net[n]).media.etherType → f.fcsOk = true → ¬ (f.kind = 4 ∧ bitAt f.flags 3 = true) →
      (s.net[n]).state ≠ .listen → checkShape n port f s.toRc8 = true → checkRound n f s.toRc8 = true → checkId n f s.toRc8 = true →
      (checkWindow n f s.toRc8 = false → Leads (.budanCopyReceived n port f) s fun t =>
        ((t.sch[n]).count[chanOf port]) = { (s.sch[n]).count[chanOf port] with late := min 0xFFFFFFFF (((s.sch[n]).count[chanOf port]).late + 1) } ∧
        (t.sch[n]).sel = (s.sch[n]).sel ∧ (t.sch[n]).arrived = (s.sch[n]).arrived) ∧
      (checkWindow n f s.toRc8 = true → Leads (.budanCopyReceived n port f) s fun t =>
        ((t.sch[n]).count[chanOf port]).valid = min 0xFFFFFFFF (((s.sch[n]).count[chanOf port]).valid + 1) ∧
        (t.sch[n]).arrived = (s.sch[n]).arrived ++ [{ port := port, kind := f.kind, idx := copyIdx f, own := f.src == (s.net[n]).mac, round := f.round }]))

/-! ### Engine and learning -/

/-- ENGINE_PARAM_WRITE writes one block of the shadow bank and ENGINE_BANK_COPY copies the active bank into it; the active
bank keeps every block, the shadow's generation counts, and a read-back that differs stores nothing (06 R217, R219).
ENGINE_BANK_SWAP fixes its round and answers PENDING; the engine's self-test in RECOVER ends in RUN, with every axis
that was neither idle nor in fault in FAULT, or in FAILED (06 R209, R220). -/
def Obligations.EngineBanksAndSelfTest : Prop :=
  (∀ (s : State) (p : Fin 4) (m : Fin 8) (e : Exec),
    (findChecked s.toRc8 0x0502 p m = some e → engineBusy e s.toRc8 = false → s.pair.partner.present = false →
      (Leads (.engineParamWrite p m true) s fun t =>
        (t.nv.banks[shadowBank s.toRc8]).block (u16At e.req 0) = slice e.req 8 768 ∧
        (∀ a, a ≠ u16At e.req 0 → (t.nv.banks[shadowBank s.toRc8]).block a = (s.nv.banks[shadowBank s.toRc8]).block a) ∧
        (t.nv.banks[shadowBank s.toRc8]).generation = ((s.nv.banks[shadowBank s.toRc8]).generation + 1) % 2 ^ 32 ∧
        (t.nv.banks[s.nv.bankActive]) = (s.nv.banks[s.nv.bankActive]) ∧ t.nv.bankActive = s.nv.bankActive ∧ t.eng = s.eng ∧
        t.execs = s.marked e.id (.ended .done (le 4 (((s.nv.banks[shadowBank s.toRc8]).generation + 1) % 2 ^ 32) ++ zeros 4))) ∧
      exec (.engineParamWrite p m false) s = .next (s.after (endWith e.id .integrityFail))) ∧
    (findChecked s.toRc8 0x0504 p m = some e → engineBusy e s.toRc8 = false → s.pair.partner.present = false →
      Leads (.engineBankCopy p m true) s fun t =>
        (t.nv.banks[shadowBank s.toRc8]) = (s.nv.banks[s.nv.bankActive]) ∧ (t.nv.banks[s.nv.bankActive]) = (s.nv.banks[s.nv.bankActive]) ∧
        t.nv.bankActive = s.nv.bankActive ∧ t.eng = s.eng)) ∧
  ((∀ (s : State) (p : Fin 4) (m : Fin 8) (e : Exec), findChecked s.toRc8 0x0505 p m = some e → changeArmed s.toRc8 = false →
    (u64At e.req 0 = 0 ∨ roundAfter 1000000 s.toRc8 ≤ u64At e.req 0) → Leads (.engineBankSwap p m) s fun t =>
      t.eng = { s.eng with swapAt := some (if u64At e.req 0 = 0 then roundAfter 1000000 s.toRc8 else u64At e.req 0) } ∧
      t.nv.bankActive = s.nv.bankActive ∧ t.execs = s.markedLong e.id .waiting ∧ t.pair.pend.length = s.pair.pend.length + 1) ∧
  (∀ s : State, s.eng.st = .recover →
    (Leads (.engineSelfTestDone true) s fun t => t.eng.st = .run ∧ t.eng.recovered = some s.rnd.round ∧ t.eng.started = false ∧
      (∀ a ∈ configuredAxes s.toRc8, (axisOf a s.toRc8).st ≠ .idle → (axisOf a t.toRc8).st = .fault ∧ (axisOf a t.toRc8).quick = true)) ∧
    (Leads (.engineSelfTestDone false) s fun t => t.eng = { s.eng with st := .failed })))

/-- The commands that act at the next effective round end with DONE and that round in their response, and act on both
modules there: nothing else changes at once; a LEARN_CONFIGURE that changes the table's form answers PENDING and runs on
(06 R212, R221; 07 R235, R242; 10 R569). -/
def Obligations.EffectiveRoundCommands : Prop :=
  ∀ (s : State) (p : Fin 4) (m : Fin 8) (e : Exec), s.pair.partner.present = false →
    (findChecked s.toRc8 0x0506 p m = some e → exec (.engineAxisReset p m) s = .next (s.after fun r => r.atEffective e)) ∧
    (findChecked s.toRc8 0x0507 p m = some e → exec (.engineAxisHalt p m) s = .next (s.after fun r => r.atEffective e)) ∧
    (findChecked s.toRc8 0x0602 p m = some e → learnBusy [u16At e.req 0] s.toRc8 = false →
      (learnResamples e.req s.toRc8 = false → exec (.learnConfigure p m) s = .next (s.after fun r => r.atEffective e)) ∧
      (learnResamples e.req s.toRc8 = true → Leads (.learnConfigure p m) s fun t =>
        t.pair.pend = s.pair.pend ++ [PendOp.own (effectiveRound s.toRc8) (.command e.code e.req) (some e.id) [] true] ∧
        t.execs = s.markedLong e.id .waiting ∧ t.learn = s.learn ∧ t.nv = s.nv)) ∧
    (findChecked s.toRc8 0x0603 p m = some e → learnBusy (maskAxes e.req 0) s.toRc8 = false →
      exec (.learnControl p m) s = .next (s.after fun r => r.atEffective e)) ∧
    (findChecked s.toRc8 0x0605 p m = some e → learnBusy [u16At e.req 0] s.toRc8 = false →
      exec (.learnTableWrite p m) s = .next (s.after fun r => r.atEffective e)) ∧
    (findChecked s.toRc8 0x0608 p m = some e → learnBusy (maskAxes e.req 0) s.toRc8 = false →
      exec (.learnClear p m) s = .next (s.after fun r => r.atEffective e))

/-- LEARN_SNAPSHOT and LEARN_RESTORE answer PENDING and act at ENGINE_START of their effective round, on both modules: every axis
they name waits there for its snapshot, or for its restored table; a restore without a valid snapshot ends with
INTEGRITY_FAIL, and so does one left without one there, and restores no axis. TABLE_MOVE makes the move in its gap: the table
and configuration of the move come into force, a snapshot is stored in one slot under the boundary of the gap, the other slot
stays, and a read-back that differs ends the command with INTEGRITY_FAIL and keeps both; the command ends with its last move.
A table that a failed conversion leaves moves back after its waymark's round alone. Outside the gap nothing moves (07 R237 to
R240, R242; 09 R290). -/
def Obligations.TablesSnapshotsRestores : Prop :=
  (∀ (s : State) (p : Fin 4) (m : Fin 8) (e : Exec),
    (findChecked s.toRc8 0x0606 p m = some e → learnBusy (maskAxes e.req 0) s.toRc8 = false → Leads (.learnSnapshot p m) s fun t =>
      t.pair.pend = s.pair.pend ++ [PendOp.own (effectiveRound s.toRc8) (.command e.code e.req) (some e.id) [] true] ∧
      t.pair.snapWait = s.pair.snapWait ++ (if s.pair.partner.present = true ∧ s.pair.plk.up = true then [(plkNextSeq 0x20 s.toRc8, e.id)] else []) ∧
      t.execs = s.markedLong e.id .waiting ∧ t.learn = s.learn ∧ t.nv = s.nv ∧ t.eng = s.eng) ∧
    (findChecked s.toRc8 0x0607 p m = some e → learnBusy (maskAxes e.req 0) s.toRc8 = false →
      ((∀ a ∈ maskAxes e.req 0, (restoreSlot a s.toRc8).isSome = true) → Leads (.learnRestore p m) s fun t =>
        t.pair.pend = s.pair.pend ++ [PendOp.own (effectiveRound s.toRc8) (.command e.code e.req) (some e.id) [] true] ∧
        t.execs = s.markedLong e.id .waiting ∧ t.learn = s.learn ∧ t.nv = s.nv ∧ t.eng = s.eng) ∧
      (∀ a ∈ maskAxes e.req 0, restoreSlot a s.toRc8 = none → Leads (.learnRestore p m) s fun t =>
        t.execs = s.markedLong e.id (.ended .integrityFail []) ∧ t.learn = s.learn ∧ t.pair.pend = s.pair.pend ∧ t.nv.snaps = s.nv.snaps))) ∧
  (∀ (s : Rc8) (r : List Byte) (w n id : Nat), w ≠ 0 → w ≤ n →
    (s.pair.pend = [PendOp.own w (.command 0x0606 r) (some id) [] true] → (takeDue true n s).pair.pend = [] ∧
      ∀ a ∈ maskAxes r 0, learnOf a (takeDue true n s) = { learnOf a s with snapFor := some (.own id) }) ∧
    (s.pair.pend = [PendOp.own w (.command 0x0607 r) (some id) [] true] → (takeDue true n s).pair.pend = [] ∧
      ((∀ a ∈ maskAxes r 0, (restoreSlot a s).isSome = true) → ∀ a ∈ maskAxes r 0, ∃ mv, mv.why = 2 ∧ mv.exec = some id ∧ mv.cfg = (learnOf a s).cfg ∧
        learnOf a (takeDue true n s) = { learnOf a s with move := some mv })) ∧
    (s.pair.pend = [PendOp.own w (.command 0x0607 r) (some id) [] true] → ∀ a ∈ maskAxes r 0, restoreSlot a s = none →
      (takeDue true n s).learn = s.learn ∧ (takeDue true n s).execs = s.marked id (.ended .integrityFail []))) ∧
  (∀ (s : State) (a : Fin 256) (stored : Bool),
    (∀ mv : TableMove, (learnOf a.val s.toRc8).move = some mv → mv.why = 5 →
      (mv.round < gapRound s.toRc8 → moveWindow mv.cfg.n s.toRc8 = true → Leads (.tableMove a stored) s fun t =>
        learnOf a.val t.toRc8 = { learnOf a.val s.toRc8 with table := (if tablesHeld s.toRc8 = true then mv.table else []), move := none, skip := false } ∧
        (∀ b : Nat, b ≠ a.val → learnOf b t.toRc8 = learnOf b s.toRc8)) ∧
      (gapRound s.toRc8 ≤ mv.round → exec (.tableMove a stored) s = .next s)) ∧
    (∀ mv : TableMove, (learnOf a.val s.toRc8).move = some mv → mv.why ≠ 3 → mv.why ≠ 5 → tablesHeld s.toRc8 = true →
      (moveWindow mv.cfg.n s.toRc8 = true → Leads (.tableMove a stored) s fun t => (learnOf a.val t.toRc8).move = none ∧ (learnOf a.val t.toRc8).cfg = mv.cfg ∧
        (learnOf a.val t.toRc8).table = fullTable mv.table mv.cfg.n ∧ (∀ b : Nat, b ≠ a.val → learnOf b t.toRc8 = learnOf b s.toRc8) ∧
        (∀ id, mv.exec = some id → (∀ x ∈ s.learn, x.1 ≠ a.val → (x.2.move.bind (·.exec)) ≠ some id) → t.execs = s.marked id (.ended .done []))) ∧
      (moveWindow mv.cfg.n s.toRc8 = false → exec (.tableMove a stored) s = .next s)) ∧
    (∀ why : SnapFor, (learnOf a.val s.toRc8).move = none → (learnOf a.val s.toRc8).snapFor = some why →
      (moveWindow (learnOf a.val s.toRc8).cfg.n s.toRc8 = false → exec (.tableMove a stored) s = .next s) ∧
      (moveWindow (learnOf a.val s.toRc8).cfg.n s.toRc8 = true → stored = true → Leads (.tableMove a stored) s fun t =>
        (learnOf a.val t.toRc8).snapFor = none ∧ (learnOf a.val t.toRc8).lastSnap = gapRound s.toRc8 ∧ (learnOf a.val t.toRc8).table = (learnOf a.val s.toRc8).table ∧
        ∃ i : Fin 2, ((slotsOf a.val t.toRc8)[i]).map (fun x => (x.entries, x.round)) =
            some (fullTable (learnOf a.val s.toRc8).table (learnOf a.val s.toRc8).cfg.n, gapRound s.toRc8) ∧
          (newestSlot (SnapSlot.good a.val) (slotsOf a.val s.toRc8)).map (·.1) ≠ some i ∧
          (∀ j : Fin 2, j ≠ i → (slotsOf a.val t.toRc8)[j] = (slotsOf a.val s.toRc8)[j])) ∧
      (∀ id, why = .own id → moveWindow (learnOf a.val s.toRc8).cfg.n s.toRc8 = true → stored = false → Leads (.tableMove a stored) s fun t =>
        (learnOf a.val t.toRc8).snapFor = none ∧ t.nv = s.nv ∧ t.execs = s.marked id (.ended .integrityFail []))) ∧
    ((learnOf a.val s.toRc8).move = none → (learnOf a.val s.toRc8).snapFor = none → exec (.tableMove a stored) s = .next s))

/-! ### Programs -/

/-- In RUN a release begins the cycle of a waiting task with its snapshot and the next cycle sequence, or is held while the
rules of new code are not complete; the release of a task that still runs is skipped and counted as an overrun, and that
cycle publishes nothing. In LAYBY it begins the cycle that debug control has asked for, and in STOP no release does
anything (08 R248, R255, R258, R261, R266; 12 R409). The code of a task ends, after the services it called: its retained
changes enter the DRAM copy, its motion outputs are published with the next generation where task 0 neither overran nor
ran under debug control, and nothing is published where it overran. The cycle is over and counts, unless the commit of
the cycle before is not complete: then it waits for that at its end (08 R248, R249, R252). A task whose code does not
execute, as its core stands or a task of higher priority runs on it, ends no cycle (08 R247). A retained commit: the
commit word of the newest record is written, then its granules stand in the area in use and its record leaves the
journal, with the next one's written; one that fails before its word is written is a program fault. Without its word no
record is applied, and with it none fails (08 R252, R254, R264). -/
def Obligations.TasksAndRetainedData : Prop :=
  (∀ (s : State) (t : Fin 8) (e : Milestone), dueEntry 8 t.val s.toRc8 = some e → coreRuns t s.toRc8 = true → isStandby s.toRc8 = false →
    (s.run.mode = .run → (s.run.tasks[t]).st = .waiting → codeWaits s.toRc8 = false → Leads (.taskRelease t) s fun u =>
      (u.run.tasks[t]).st = .running ∧ (u.run.tasks[t]).debug = false ∧ (u.run.tasks[t]).seq = ((s.run.tasks[t]).seq + 1) % 2 ^ 64 ∧ (u.run.tasks[t]).overran = false ∧
      (u.run.tasks[t]).lastRound = s.rnd.round ∧ (u.run.tasks[t]).snap.time = roundStart s.toRc8 + e.off * fracPerNs ∧
      (u.run.tasks[t]).snap.mono = s.run.mono + e.off ∧ (∀ k : Fin 8, k ≠ t → u.run.tasks[k] = s.run.tasks[k]) ∧ u.nv = s.nv) ∧
    (s.run.mode = .run → (s.run.tasks[t]).st = .waiting → codeWaits s.toRc8 = true → Leads (.taskRelease t) s fun u =>
      u.run = { s.run with heldReleases := s.run.heldReleases ++ [(t, roundStart s.toRc8 + e.off * fracPerNs, s.run.mono + e.off)] }) ∧
    (s.run.mode = .layby → (s.run.tasks[t]).st = .halted → (s.run.tasks[t]).wanted ≠ 0 → codeWaits s.toRc8 = false → Leads (.taskRelease t) s fun u =>
      (u.run.tasks[t]).st = .running ∧ (u.run.tasks[t]).debug = true ∧ (u.run.tasks[t]).wanted = 0 ∧
      (u.run.tasks[t]).seq = ((s.run.tasks[t]).seq + 1) % 2 ^ 64 ∧ (∀ k : Fin 8, k ≠ t → u.run.tasks[k] = s.run.tasks[k])) ∧
    (s.run.mode = .run → (s.run.tasks[t]).st = .running → Leads (.taskRelease t) s fun u =>
      (u.run.tasks[t]).st = .running ∧ (u.run.tasks[t]).overran = true ∧ (u.run.tasks[t]).seq = (s.run.tasks[t]).seq ∧
      (u.run.tasks[t]).consec = min 255 ((s.run.tasks[t]).consec + 1) ∧ (u.run.tasks[t]).overruns = min 0xFFFFFFFF ((s.run.tasks[t]).overruns + 1) ∧
      (∀ k : Fin 8, k ≠ t → u.run.tasks[k] = s.run.tasks[k])) ∧
    (s.run.mode = .stop → Leads (.taskRelease t) s fun u => u.run = s.run ∧ u.out = s.out)) ∧
  ((∀ (s : State) (t : Fin 8) (o : CycleOut), executes t s.toRc8 = true →
    exec (.taskCycleEnd t o) s = exec (.taskCycleEnd t { o with calls := [] }) (s.after fun r => o.calls.foldl (taskCall t) r)) ∧
  (∀ (s : State) (t : Fin 8) (o : CycleOut), executes t s.toRc8 = false → exec (.taskCycleEnd t o) s = .next s) ∧
  ∀ (s : State) (t : Fin 8) (o : CycleOut), o.calls = [] → executes t s.toRc8 = true → isStandby s.toRc8 = false → s.run.mode = .run →
    (Leads (.taskCycleEnd t o) s fun u => u.run.retained = o.granules.foldl (fun m g => memWriteN m g.1 (padTo 64 g.2)) s.run.retained ∧
      ∀ k : Fin 8, k ≠ t → u.run.tasks[k] = s.run.tasks[k]) ∧
    (commitBefore t s.toRc8 = true → Leads (.taskCycleEnd t o) s fun u => (u.run.tasks[t]).st = .running ∧ (u.run.tasks[t]).ending = true ∧
      (u.run.tasks[t]).cycles = (s.run.tasks[t]).cycles) ∧
    (commitBefore t s.toRc8 = false → Leads (.taskCycleEnd t o) s fun u => (u.run.tasks[t]).st = .waiting ∧ (u.run.tasks[t]).cycles = min 0xFFFFFFFF ((s.run.tasks[t]).cycles + 1) ∧
      (u.run.tasks[t]).lastExec = o.ns / 1000 ∧ ((s.run.tasks[t]).overran = false → (u.run.tasks[t]).consec = 0)) ∧
    (t = 0 → (s.run.tasks[t]).overran = false → (s.run.tasks[t]).debug = false → Leads (.taskCycleEnd t o) s fun u =>
      u.run.motionOut = o.motion.take 65536 ∧ u.run.motionPrev = s.run.motionOut ∧ u.run.setGen = (s.run.setGen + 1) % 2 ^ 64) ∧
    ((s.run.tasks[t]).overran = true → Leads (.taskCycleEnd t o) s fun u =>
      u.run.motionOut = s.run.motionOut ∧ u.run.setGen = s.run.setGen ∧ u.bar2 = s.bar2)) ∧
  (∀ (s : State) (r : JournalRec) (rest : List JournalRec) (pre : List JournalRec) (x : JournalRec),
    s.run.commits = r :: rest → s.nv.journal = pre ++ [x] →
    (Leads (.retainCommitDone .word) s fun t => t.nv.journal = pre ++ [{ x with committed := true }] ∧ t.nv.retain = s.nv.retain ∧ t.run = s.run) ∧
    (x.committed = true → changeArmed s.toRc8 = false → Leads (.retainCommitDone .applied) s fun t => t.run.commits = rest ∧
      t.nv.journal = pre ++ rest.take 1 ∧ t.nv.retain = s.nv.retain.set s.nv.retainUse (applyGranules s.nv.retain[s.nv.retainUse] r)) ∧
    (x.committed = false → exec (.retainCommitDone .applied) s = .next s) ∧
    (x.committed = true → exec (.retainCommitDone .failed) s = .next s) ∧
    (x.committed = false → Leads (.retainCommitDone .failed) s fun t => t.run.commits = rest ∧ t.nv.journal = pre ++ rest.take 1 ∧ t.nv.retain = s.nv.retain ∧
      (isStandby s.toRc8 = false → targetMode s.toRc8 ≠ .stop →
        PendOp.own (roundAfter 250000 s.toRc8) (.mode 0 4) none [] true ∈ t.pair.pend)))

/-- A change of mode is fixed for the first boundary at least 250 µs ahead: by SET_MODE, whose command runs on until then,
by a turn of the key, and by a program fault of a task that runs (08 R262, R264, R272; 03 R112). A turn of the key also
ends every safety session (11 R369). A mode change takes effect at its boundary: STOP and LAYBY from RUN always, RUN
from STOP where no condition refuses it, else the module stays in STOP (08 R261, R264, R266). -/
def Obligations.OperatingModes : Prop :=
  (∀ (s : State) (p : Fin 4) (m : Fin 8) (e : Exec) (t : Fin 8) (k : Key),
    (findChecked s.toRc8 0x0101 p m = some e → Mode.ofCode (u8At e.req 0) ≠ targetMode s.toRc8 → Leads (.setMode p m) s fun u =>
      u.pair.pend = s.pair.pend ++ [PendOp.own (roundAfter 250000 s.toRc8) (.mode (Mode.ofCode (u8At e.req 0)).code 2) (some e.id) [] true] ∧
      u.execs = s.marked e.id .waiting ∧ u.run = s.run) ∧
    (findChecked s.toRc8 0x0101 p m = some e → Mode.ofCode (u8At e.req 0) = s.run.mode → targetMode s.toRc8 = s.run.mode →
      exec (.setMode p m) s = .next (s.after (endWith e.id .done))) ∧
    (executes t s.toRc8 = true → isStandby s.toRc8 = false → targetMode s.toRc8 ≠ .stop →
      Leads (.taskException t) s fun u => PendOp.own (roundAfter 250000 s.toRc8) (.mode 0 4) none [] true ∈ u.pair.pend ∧ u.run = s.run) ∧
    (k ≠ s.run.key → svpRuns s.toRc8 = true → Leads (.keyChanged k) s fun u =>
      u.run.key = k ∧ u.saf.sess = Vector.replicate 4 none ∧ u.run.mode = s.run.mode ∧
      (isStandby s.toRc8 = false → k = .stop → targetMode s.toRc8 ≠ .stop →
        PendOp.own (roundAfter 250000 s.toRc8) (.mode 0 1) none [] true ∈ u.pair.pend)) ∧
    (∀ t0, s.run.keysDiffer = some t0 → holdsToken s.toRc8 = true → s.run.keyWarned = false → Leads .keyMismatch s fun u =>
      u.run = { s.run with keyWarned := true } ∧ t0 + 5000000000 ≤ u.clk.refosc)) ∧
  (∀ (s : State) (x : PendOp) (target cause : Nat), s.pair.pend = [x] → x.op = .mode target cause →
    (target = 0 → s.run.mode ≠ .stop → Leads .modeChangeEffect s fun t => t.run.mode = .stop ∧ t.run.lastCause = cause ∧ t.run.modeRound = x.round ∧
      (∀ k : Fin 8, (t.run.tasks[k]).st = .waiting ∨ (t.run.tasks[k]).st = .unused) ∧ t.pair.pend = []) ∧
    (target = 2 → s.run.mode = .run → Leads .modeChangeEffect s fun t => t.run.mode = .layby ∧
      (∀ k : Fin 8, (s.run.tasks[k]).st = .waiting → (t.run.tasks[k]).st = .halted) ∧
      (∀ k : Fin 8, (s.run.tasks[k]).st = .running → (t.run.tasks[k]).st = .running)) ∧
    (target = 1 → s.run.mode = .stop → s.nv.active = none → Leads .modeChangeEffect s fun t => t.run.mode = .stop ∧ t.run.lastCause = s.run.lastCause) ∧
    (target = 1 → s.run.mode = .stop → runRefusal { s.toRc8 with clk := s.clk.toPtu (x.round * s.rnd.period * fracPerNs), pair := { s.pair with pend := [] } } = none →
      Leads .modeChangeEffect s fun t => t.run.mode = .run ∧ t.run.lastCause = cause ∧ t.run.modeRound = x.round))

/-- The services of a task whose code executes: TIME and TASK_INFO answer at once; RAISE_EVENT and RECORD are served at once
where nothing stands before them, and leave their result for the next snapshot, else they join the service channels;
they are refused with BUSY while 16 requests are outstanding. A standby executes neither: it keeps the place of the
result and counts the request (08 R270; 01 R31; 10 R321; 16 R511). -/
def Obligations.TaskServices : Prop :=
  ∀ (s : State) (t : Fin 8), executes t s.toRc8 = true →
    exec (.timeService t) s = .next (s.after fun r => { r with out := r.out ++ [.timeReply t (s.run.tasks[t]).snap.time (s.run.tasks[t]).snap.mono] }) ∧
    exec (.taskInfo t) s = .next (s.after fun r => { r with out := r.out ++ [.taskInfo t (s.run.tasks[t]).seq (s.run.tasks[t]).overruns (s.run.tasks[t]).consec s.run.mode] }) ∧
    (∀ reason sev p0 p1 p2, outstanding t s.toRc8 < 16 → isStandby s.toRc8 = false → channelFree s.toRc8 = true → 1 ≤ reason → reason ≤ 255 → sev ≤ 4 →
      Leads (.raiseEvent t reason sev p0 p1 p2) s fun u => (u.run.tasks[t]).results = (s.run.tasks[t]).results ++ [le 2 0] ∧ u.eng = s.eng ∧ u.net = s.net) ∧
    (∀ reason sev p0 p1 p2, outstanding t s.toRc8 < 16 → isStandby s.toRc8 = false → channelFree s.toRc8 = false → Leads (.raiseEvent t reason sev p0 p1 p2) s fun u =>
      u.toRc8 = { s.toRc8 with run := { s.run with channel := s.run.channel ++ [{ task := t, call := .event reason sev p0 p1 p2 }] } }) ∧
    (∀ reason sev p0 p1 p2, outstanding t s.toRc8 < 16 → isStandby s.toRc8 = true → Leads (.raiseEvent t reason sev p0 p1 p2) s fun u =>
      (u.run.tasks[t]).results = (s.run.tasks[t]).results ++ [[]] ∧ u.run.notExecuted = min 0xFFFFFFFF (s.run.notExecuted + 1) ∧ u.out = s.out) ∧
    (∀ code p0 p1, outstanding t s.toRc8 < 16 → isStandby s.toRc8 = false → channelFree s.toRc8 = true → code / 256 = 19 → Leads (.recordService t code p0 p1) s fun u =>
      (u.run.tasks[t]).results = (s.run.tasks[t]).results ++ [le 2 0] ∧ u.hp = s.hp ∧ u.net = s.net) ∧
    (∀ reason sev p0 p1 p2, 16 ≤ outstanding t s.toRc8 →
      exec (.raiseEvent t reason sev p0 p1 p2) s = .next (s.after fun r => { r with out := r.out ++ [.serviceStatus t .busy []] }))

/-- PROGRAM_LOAD collects the blocks and its last one puts the image into the loaded slot; PROGRAM_ACTIVATE makes the loaded
image active, keeps the old one in the loaded slot and starts the runtime with it (08 R244, R274, R275). -/
def Obligations.ProgramLoadAndActivate : Prop :=
  ∀ (s : State) (p : Fin 4) (m : Fin 8) (e : Exec),
    (findChecked s.toRc8 0x0103 p m = some e → s.chg.load = none → changeArmed s.toRc8 = false → s.run.activating = none →
      BlockLoad.runs s.run.load s.toRc8 = false → u32At e.req 8 = 0 →
      (∀ stored, bitAt (u8At e.req 0) 0 = false → Leads (.programLoad p m stored) s fun t =>
        t.run = { s.run with load := some { total := u32At e.req 4, data := e.req.drop 16, finishing := none } } ∧ t.nv.loaded = none ∧
        t.nv.active = s.nv.active ∧ t.execs = s.marked e.id (.ended .done (le 4 (e.req.drop 16).length ++ zeros 4))) ∧
      (bitAt (u8At e.req 0) 0 = true → imageIntact (e.req.drop 16) = true → imageFieldsOk (e.req.drop 16) s.toRc8 = true → s.pair.partner.present = false →
        Leads (.programLoad p m true) s fun t => t.nv.loaded = some (parseImage (e.req.drop 16)) ∧ t.nv.active = s.nv.active ∧ t.run.mode = s.run.mode) ∧
      (bitAt (u8At e.req 0) 0 = true → imageIntact (e.req.drop 16) = false → ∀ stored, Leads (.programLoad p m stored) s fun t =>
        t.nv.loaded = none ∧ t.execs = s.markedLong e.id (.ended .integrityFail []))) ∧
    (∀ x, findChecked s.toRc8 0x0104 p m = some e → s.chg.load = none → s.chg.st = .idle → s.nv.loaded = some x → s.pair.partner.present = false →
      imagePlanFails x s.toRc8 = false → coresPresent x (imageDomains x s.toRc8) = true → (activateRetained (u8At e.req 0) x s.toRc8).isSome = true → Leads (.programActivate p m true) s fun t =>
        t.nv.active = some x ∧ t.nv.loaded = s.nv.active ∧ t.nv.retainUse ≠ s.nv.retainUse ∧ t.nv.journal = [] ∧ t.run.started = true ∧ t.run.mono = 0 ∧
        t.run.activating = none ∧ t.run.mode = s.run.mode)

/-- CHANGE_LOAD keeps the package, CHANGE_ARM starts preparation with its timeout, preparation that passes every check arms
the change with a candidate, and at the candidate the new image is active and the old one loaded, with the other bank,
retained area and code area in use, or, where the conversion fails, nothing has changed (09 R281, R283 to R288, R290,
R300, R301); a standby does neither by itself (R295). CHANGE_ABORT, the timeout and a missed candidate: a loaded package
is discarded, preparation or a change whose candidate lies 250 µs ahead is abandoned and the package kept, the timeout
abandons with cause 2, and a candidate at which an affected task runs is missed and the next one offered, unless an
abort waits for it (09 R284, R286, R287, R297, R302). -/
def Obligations.OnlineChange : Prop :=
  ((∀ (s : State) (p : Fin 4) (m : Fin 8) (e : Exec), findChecked s.toRc8 0x0201 p m = some e → changeArmed s.toRc8 = false →
    BlockLoad.runs s.run.load s.toRc8 = false → s.run.activating = none → BlockLoad.runs s.chg.load s.toRc8 = false → u32At e.req 8 = 0 →
    bitAt (u8At e.req 0) 0 = false → ∀ stored, Leads (.changeLoad p m stored) s fun t =>
      t.chg.load = some { total := u32At e.req 4, data := e.req.drop 16, finishing := none } ∧ t.nv.active = s.nv.active ∧ t.run = s.run ∧
      t.execs = s.marked e.id (.ended .done (le 4 (e.req.drop 16).length ++ zeros 4))) ∧
  (∀ (s : State) (p : Fin 4) (m : Fin 8) (e : Exec) (k : Package), findChecked s.toRc8 0x0202 p m = some e → s.nv.package = some k →
    s.chg.st = .loaded → changeBlocked s.toRc8 = false → Leads (.changeArm p m) s fun t => t.chg.st = .preparing ∧ t.chg.exec = some e.id ∧
      t.chg.deadline = some (e.start + (if u32At e.req 8 = 0 then k.timeout else u32At e.req 8) * 1000000) ∧ t.chg.notBefore = u64At e.req 16 ∧
      t.chg.failed = prepareFails k s.toRc8 ∧ t.nv.active = s.nv.active ∧ t.nv.bankActive = s.nv.bankActive ∧ t.execs = s.markedLong e.id .waiting) ∧
  (∀ (s : State) (k : Package), s.nv.package = some k → s.chg.st = .preparing → changeUnconfirmed s.toRc8 = false → isStandby s.toRc8 = false →
    (s.chg.failed = none → Leads (.changePreparationEnd true) s fun t => t.chg.st = .armed ∧
      t.chg.candidate.isSome = true ∧ t.chg.fixed = k.hasSched ∧ t.nv.active = s.nv.active) ∧
    (∀ f verified, s.chg.failed = some f → Leads (.changePreparationEnd verified) s fun t =>
      t.chg.st = .loaded ∧ t.chg.result = 2 ∧ t.chg.cause = f.1 ∧ t.nv.active = s.nv.active) ∧
    (s.chg.failed = none → Leads (.changePreparationEnd false) s fun t => t.chg.st = .loaded ∧ t.chg.result = 2 ∧ t.chg.cause = 7 ∧ t.nv.active = s.nv.active)) ∧
  (∀ (s : State) (w : Nat) (k : Package) (old : Image), s.chg.candidate = some w → s.nv.package = some k → s.nv.active = some old → isStandby s.toRc8 = false →
    s.chg.fixed = false → runningAffected s.toRc8 = [] → s.pair.partner.present = false →
    (conversionFails none s.toRc8 = false → Leads (.waymarkCandidate none) s fun t => t.nv.active = some k.image ∧ t.nv.loaded = some old ∧
      t.nv.package = none ∧ t.chg.st = .idle ∧ t.chg.result = 1 ∧ t.chg.candidate = none ∧ t.chg.waymark = w ∧ t.nv.bankActive ≠ s.nv.bankActive ∧
      t.nv.retainUse ≠ s.nv.retainUse ∧ t.nv.journal = [switchRec k.image.id t.nv.retainUse] ∧ t.run.codeUse ≠ s.run.codeUse) ∧
    (∀ bad : Option Nat, conversionFails bad s.toRc8 = true → Leads (.waymarkCandidate bad) s fun t => t.nv.active = s.nv.active ∧
      t.nv.package = s.nv.package ∧ t.chg.st = .loaded ∧ t.chg.result = 2 ∧ t.chg.cause = 5 ∧ t.nv.bankActive = s.nv.bankActive ∧ t.nv.retainUse = s.nv.retainUse)) ∧
  (∀ (s : State), isStandby s.toRc8 = true → (∀ verified, exec (.changePreparationEnd verified) s = .next s) ∧
    ∀ bad, exec (.waymarkCandidate bad) s = .next s)) ∧
  ((∀ (s : State) (p : Fin 4) (m : Fin 8) (e : Exec), findChecked s.toRc8 0x0203 p m = some e →
    (s.chg.st = .loaded → Leads (.changeAbort p m) s fun t => t.chg = { s.chg with st := .idle } ∧ t.nv = { s.nv with package := none } ∧
      t.execs = s.marked e.id (.ended .done [])) ∧
    (s.chg.st = .preparing → Leads (.changeAbort p m) s fun t => t.chg.st = .loaded ∧ t.chg.result = 2 ∧ t.chg.cause = 1 ∧ t.nv.package = s.nv.package) ∧
    (s.chg.st = .armed → s.chg.fixed = true → exec (.changeAbort p m) s = .next (s.after (endWith e.id .tooLate))) ∧
    (∀ w, s.chg.st = .armed → s.chg.fixed = false → s.chg.candidate = some w →
      (w * s.rnd.period * fracPerNs + (s.clk.refosc - e.start) * fracPerNs < s.clk.ptu + 250000 * fracPerNs →
        Leads (.changeAbort p m) s fun t => t.chg = { s.chg with aborts := s.chg.aborts ++ [e.id] } ∧ t.execs = s.marked e.id .waiting ∧ t.nv = s.nv) ∧
      (s.clk.ptu + 250000 * fracPerNs ≤ w * s.rnd.period * fracPerNs + (s.clk.refosc - e.start) * fracPerNs →
        Leads (.changeAbort p m) s fun t => t.chg.st = .loaded ∧ t.chg.result = 2 ∧ t.chg.cause = 1 ∧ t.nv.package = s.nv.package))) ∧
  (∀ (s : State) (d : Nat), s.chg.deadline = some d → s.chg.fixed = false → Leads .changeTimeout s fun t =>
    t.chg.st = .loaded ∧ t.chg.result = 2 ∧ t.chg.cause = 2 ∧ t.chg.deadline = none ∧ t.nv.package = s.nv.package ∧ d ≤ t.clk.refosc) ∧
  (∀ (s : State) (w : Nat) (bad : Option Nat), s.chg.candidate = some w → s.chg.fixed = false → isStandby s.toRc8 = false → runningAffected s.toRc8 ≠ [] →
    (s.chg.aborts = [] → Leads (.waymarkCandidate bad) s fun t => t.chg.candidate = some (w + candidatePeriod s.toRc8) ∧ t.chg.st = s.chg.st ∧
      t.chg.missed = min 0xFFFFFFFF (s.chg.missed + 1) ∧ t.nv.active = s.nv.active ∧ t.nv.package = s.nv.package) ∧
    (∀ id, s.chg.aborts = [id] → s.chg.exec = none → Leads (.waymarkCandidate bad) s fun t => t.chg.candidate = none ∧ t.chg.st = .loaded ∧
      t.chg.result = 2 ∧ t.chg.cause = 1 ∧ t.execs = s.marked id (.ended .done []) ∧ t.nv.package = s.nv.package)))

/-! ### The pair -/

/-- A message on a pair link that is down does nothing; one with a wrong CRC is discarded and counted; a reliable one that
has come before acts no second time (R308, R310). What the standby takes of its holder over the link: the forwarded
windows and inputs of the round; releases, each of which its task's shadow release follows, skipped or begun with the
holder's times, one that waits for none being kept, and one that finds the cycle before it running being a shadow lag;
cycle ends, each of which the shadow cycle that waits for it follows; service results; and the state copy with its end.
A release on a standby that decides itself does nothing, a keepalive only keeps the link alive (R308, R319, R321, R322,
R327; 11 R364; 15 R484). The link itself: training brings it up with its
partner present, where a holder transfers what differs; a lane may go, a keepalive goes after 10 µs of silence, an
unacknowledged message is sent again three times, and then, at loss of lock or after 50 µs of silence, the link is down
and nothing awaits an acknowledgement (R306 to R310). -/
def Obligations.PairMessages : Prop :=
  (∀ (s : State) (h : PlkHdr) (l : List DigestRec) (m : RelMsg) (y : CycMsg) (c : ConfirmMsg) (op : PairOp) (round task : Nat) (data : List Byte) (st : Bool),
    (s.pair.plk.up = false → l.length ≤ 64 → exec (.digestMessage h l) s = .next s ∧ exec (.releaseMessage h m) s = .next s ∧ exec (.cycleEndMessage h y) s = .next s ∧
      exec (.confirmMessage h c) s = .next s ∧ exec (.applyMessage h op round st) s = .next s ∧ exec (.serviceMessage h task data) s = .next s ∧
      exec (.keepaliveMessage h) s = .next s) ∧
    (s.pair.plk.up = true → h.crcOk = false → l.length ≤ 64 → ∀ i ∈ [Instr.digestMessage h l, .releaseMessage h m, .cycleEndMessage h y, .confirmMessage h c,
        .applyMessage h op round st, .serviceMessage h task data, .keepaliveMessage h],
      Leads i s fun t => t.pair = { s.pair with plk := { s.pair.plk with crcErrors := min 0xFFFFFFFF (s.pair.plk.crcErrors + 1) } } ∧ t.run = s.run) ∧
    (s.pair.plk.up = true → h.crcOk = true → h.ack = false →
      ((0x12, h.seq) ∈ s.pair.plk.rx → Leads (.releaseMessage h m) s fun t => t.pair.releases = s.pair.releases ∧ t.run = s.run) ∧
      ((0x20, h.seq) ∈ s.pair.plk.rx → Leads (.applyMessage h op round st) s fun t => t.pair.pend = s.pair.pend ∧ t.nv = s.nv))) ∧
  (∀ (s : State) (h : PlkHdr), s.pair.plk.up = true → h.crcOk = true → h.ack = false → (∀ ty, (ty, h.seq) ∉ s.pair.plk.rx) →
    isStandby s.toRc8 = true → dmaStopped 14 s.toRc8 = false →
    exec (.keepaliveMessage h) s = .next (s.after (modPair fun q => { q with plk := { q.plk with lastRx := s.clk.refosc } })) ∧
    (∀ (n : Fin 2) (l : List (Nat × List Byte)), h.round = s.rnd.round → Leads (.windowsMessage h n l) s fun t =>
      t.pair.fwdWindows = l.map (fun x => (n.val, x.1, x.2)) ++ s.pair.fwdWindows ∧ t.sch = s.sch) ∧
    (∀ setpoint states fb field groups, h.round = s.rnd.round → Leads (.roundInputsMessage h setpoint states fb field groups) s fun t =>
      t.pair.fwdSetpoint = setpoint ∧ t.pair.fwdStates = s.pair.fwdStates ++ states ∧ t.pair.fwdDone = (s.pair.fwdDone || (h.last && inputsInTime s.toRc8)) ∧
      t.ffe = { s.ffe with holder := field } ∧ t.saf = { s.saf with partnerMask := groups } ∧ t.run = s.run) ∧
    (∀ m : RelMsg, (s.pair.synced = false ∨ ownDecides s.toRc8 = true → Leads (.releaseMessage h m) s fun t => t.pair.releases = s.pair.releases ∧ t.run = s.run) ∧
      (s.pair.synced = true → ownDecides s.toRc8 = false → s.run.mode ≠ .layby → (∀ k : Fin 8, (s.run.tasks[k]).parked = none) →
        ((∀ k : Fin 8, (s.run.tasks[k]).held = []) → Leads (.releaseMessage h m) s fun t => t.pair.releases = s.pair.releases ++ [m] ∧ t.run = s.run ∧
          (m.released = true → stillRuns m.task h.round s.toRc8 = true → t.pair.lag = true ∧ t.pair.resync.cause = 3)) ∧
        (∀ (k : Fin 8) (x : Nat × Nat × Nat) (y : List Byte × List Byte), m.task = k.val → (s.run.tasks[k]).held = [x] → (∀ j : Fin 8, j ≠ k → (s.run.tasks[j]).held = []) →
          s.pair.releases = [] → (m.released = false → Leads (.releaseMessage h m) s fun t => (t.run.tasks[k]).held = [] ∧ (t.run.tasks[k]).overran = true ∧
              (t.run.tasks[k]).seq = (s.run.tasks[k]).seq) ∧
            (m.released = true → (s.run.tasks[k]).st = .waiting → codeWaits s.toRc8 = false → contentCame s.toRc8 = true → shadowImages k m s.toRc8 = some y →
              Leads (.releaseMessage h m) s fun t => (t.run.tasks[k]).held = [] ∧ (t.run.tasks[k]).st = .running ∧ (t.run.tasks[k]).snap.time = m.time ∧
                (t.run.tasks[k]).snap.mono = m.mono ∧ (t.run.tasks[k]).seq = ((s.run.tasks[k]).seq + 1) % 2 ^ 64)))) ∧
    (∀ m : CycMsg, (∀ k : Fin 8, (s.run.tasks[k]).held = []) →
      ((∀ k : Fin 8, (s.run.tasks[k]).parked = none) → Leads (.cycleEndMessage h m) s fun t => t.pair.cycles = s.pair.cycles ++ [m] ∧ t.run = s.run) ∧
      (∀ (k : Fin 8) (o : CycleOut), (s.run.tasks[k]).parked = some o → (∀ j : Fin 8, j ≠ k → (s.run.tasks[j]).parked = none) → m.task = k.val → m.seq = (s.run.tasks[k]).seq →
        s.pair.cycles = [] → ownDecides s.toRc8 = false → Leads (.cycleEndMessage h m) s fun t => (t.run.tasks[k]).parked = none ∧ t.pair.cycles = [] ∧
          (k = 0 → t.run.motionOut = (if m.published = true then o.motion.take 65536 else s.run.motionOut)))) ∧
    (∀ task data, task < 8 → Leads (.serviceMessage h task data) s fun t => t.pair.services = s.pair.services ++ [(task, data)] ∧ t.can = s.can) ∧
    (∀ b x, (Leads (.stateCopyMessage h [.bank b x] true) s fun t => (t.nv.banks[b]) = x ∧ t.pair.resync.running = true ∧ t.pair.resync.requested = false) ∧
      (Leads (.stateCopyMessage h [.bank b x] false) s fun t => t.nv.banks = s.nv.banks ∧ t.pair.resync.running = false ∧ t.pair.resync.requested = true)) ∧
    (∀ pages, (Leads (.copyDoneMessage h true pages) s fun t => t.pair.synced = true ∧ t.pair.mismatch = false ∧ t.pair.resync.running = false ∧ t.run.started = true) ∧
      (Leads (.copyDoneMessage h false pages) s fun t => t.pair.synced = s.pair.synced ∧ t.pair.resync.passes = s.pair.resync.passes + 1 ∧
        t.pair.resync.pages = pages))) ∧
  (∀ s : State,
    (∀ lanes ms level splitEqual equal, s.pair.plk.up = false → lanes ≠ (0 : Fin 3) → Leads (.plkUp lanes ms level splitEqual equal) s fun t =>
      t.pair.plk.up = true ∧ t.pair.plk.lanes = lanes.val ∧ t.pair.plk.rx = [] ∧ t.pair.partner.present = true ∧ t.pair.partner.level = level ∧
      (holdsToken s.toRc8 = false → t.pair.partner.equalItems = (equal && splitEqual)) ∧
      (holdsToken s.toRc8 = true → level = pairLevel s.toRc8 → t.pair.partner.equalItems = splitEqual)) ∧
    (s.pair.plk.up = true →
      (∀ lane, Leads (.plkLaneDegraded lane) s fun t => t.pair = { s.pair with plk := { s.pair.plk with lanes := 1 } }) ∧
      (Leads .keepaliveSend s fun t => (∃ q, t.out = s.out ++ [.plk 0x3F 0 q s.rnd.round .none (plkWire 0x3F 0 q s.rnd.round .none)]) ∧ t.pair.plk.lastTx = t.clk.refosc ∧
        s.pair.plk.lastTx + 10000 ≤ t.clk.refosc) ∧
      (∀ x rest, s.pair.plk.awaiting = x :: rest → x.tries < 3 → Leads .plkRetransmitTimeout s fun t =>
        t.pair.plk.awaiting = rest ++ [{ x with tries := x.tries + 1, since := t.clk.refosc }] ∧
        t.out = s.out ++ [.plk x.type x.flags x.seq x.round x.body (plkWire x.type x.flags x.seq x.round x.body)] ∧ x.since + 20000 ≤ t.clk.refosc ∧ t.pair.plk.up = true) ∧
      (∀ x rest, s.pair.plk.awaiting = x :: rest → 3 ≤ x.tries → Leads .plkRetransmitTimeout s fun t =>
        t.pair.plk.up = false ∧ t.pair.plk.lanes = 0 ∧ t.pair.plk.awaiting = []) ∧
      (∀ lost, Leads (.plkDown lost) s fun t => t.pair.plk.up = false ∧ t.pair.plk.lanes = 0 ∧ t.pair.plk.awaiting = [] ∧
        (lost = false → s.pair.plk.lastRx + 50000 ≤ t.clk.refosc))))

/-- Lease records and answers: a renewal of its epoch reloads the standby's timer and is kept; the holder keeps what its
standby answers, and a confirmed handover commits (R312, R314, R331). -/
def Obligations.LeaseMessages : Prop :=
  (∀ (s : State) (h : PlkHdr) (r : LeaseRec), svpRuns s.toRc8 = true → isStandby s.toRc8 = true → r.kind = .renew → r.epoch = s.pair.epoch →
    ∀ path, (path = .window ∨ (s.pair.plk.up = true ∧ h.crcOk = true ∧ h.ack = false)) → Leads (.leaseMessage path h (.record r)) s fun t =>
      t.pair.leaseEnd = s.clk.refosc + 40 * standbyCycles s.rnd.period ∧ t.pair.epoch = r.epoch ∧ t.pair.lastRenewal = fullRound r.round s.toRc8 ∧
      t.pair.partner.position = r.position ∧ t.pair.partner.key = r.key ∧ t.pair.token = s.pair.token) ∧
  (∀ (s : State) (h : PlkHdr) (a : LeaseAns), svpRuns s.toRc8 = true → s.pair.token = .holder → Leads (.leaseMessage .window h (.answer a)) s fun t =>
    t.pair.partner.role = a.role ∧ t.pair.partner.inelig = a.inelig ∧ t.pair.partner.key = a.key ∧ t.pair.partner.heard = some s.rnd.round ∧
    (∀ hd, s.pair.hand = some hd → hd.round.isSome = true → hd.committed = false →
      (a.confirmed = true → t.pair.token = .handover ∧ t.pair.hand = some { hd with confirmed := true, committed := true }) ∧
      (a.confirmed = false → t.pair.token = .holder))) ∧
  (∀ (s : State) (h : PlkHdr) (m : LeaseMsg), svpRuns s.toRc8 = false → exec (.leaseMessage .window h m) s = .next s)

/-- A digest record with no partner counts as uncompared; one that differs from the synchronised standby's own is a
mismatch, and a resync with cause 2 starts (R324, R325). APPLY and CONFIRM: an operation of a later round joins the
standby's operations where its read-back matches, and is answered either way, a LEARN_SNAPSHOT by the report of its
slots; a confirmation in time confirms the operation or the candidate, and ends the holder's resync (R309, R327, R342;
07 R242; 09 R286). -/
def Obligations.DigestsAndConfirmation : Prop :=
  (∀ (s : State) (h : PlkHdr) (d : DigestRec) (k : Fin 9), s.pair.plk.up = true → h.crcOk = true → h.ack = false → isStandby s.toRc8 = true →
    s.pair.synced = true → d.own = false → d.kind = k.val →
    ((∀ x ∈ s.pair.history[k], x.seq ≠ d.seq) → Leads (.digestMessage h [d]) s fun t =>
      t.pair.uncompared = min 0xFFFFFFFF (s.pair.uncompared + 1) ∧ t.pair.mismatches = s.pair.mismatches ∧ t.pair.synced = true) ∧
    (∀ x, (s.pair.history[k]).find? (fun x => x.seq == d.seq) = some x → x.own = false →
      (x.chain = d.chain → Leads (.digestMessage h [d]) s fun t => t.pair.mismatch = s.pair.mismatch ∧ t.pair.mismatches = s.pair.mismatches) ∧
      (x.chain ≠ d.chain → Leads (.digestMessage h [d]) s fun t => t.pair.mismatch = true ∧ t.pair.mismatches = min 0xFFFFFFFF (s.pair.mismatches + 1) ∧
        t.pair.synced = false ∧ t.pair.resync.cause = 2))) ∧
  (∀ (s : State) (h : PlkHdr), s.pair.plk.up = true → h.crcOk = true → h.ack = false → (∀ ty, (ty, h.seq) ∉ s.pair.plk.rx) →
    (isStandby s.toRc8 = true → ∀ code r round, code ≠ 0x0412 → s.rnd.round < round →
      (Leads (.applyMessage h (.command code r) round true) s fun t =>
        (∃ x : PendOp, x.seq = some h.seq ∧ x.round = round ∧ x.op = .command code r ∧ x.fromPartner = true ∧ t.pair.pend = s.pair.pend ++ [x]) ∧
        (code ≠ 0x0606 → ∃ q, .plk 0x21 0 q s.rnd.round (.confirm h.seq true) (plkWire 0x21 0 q s.rnd.round (.confirm h.seq true)) ∈ t.out) ∧ (code ≠ 0x0A41 → t.nv = s.nv)) ∧
      (Leads (.applyMessage h (.command code r) round false) s fun t => t.pair.pend = s.pair.pend ∧
        (∃ q, .plk 0x21 0 q s.rnd.round (.confirm h.seq false) (plkWire 0x21 0 q s.rnd.round (.confirm h.seq false)) ∈ t.out) ∧ t.nv = s.nv)) ∧
    (holdsToken s.toRc8 = true → ∀ ok, Leads (.confirmMessage h (.copied ok)) s fun t =>
      t.pair.resync.running = false ∧ t.pair.resync.requested = false ∧ t.pair.resync.exec = none ∧ t.pair.token = s.pair.token) ∧
    (∀ round, s.clk.ptu ≤ confirmBy round s.toRc8 → Leads (.confirmMessage h (.waymark round true)) s fun t =>
      t.chg = { s.chg with confirmed := s.chg.confirmed ++ [round] }) ∧
    (∀ round ok, ok = false ∨ confirmBy round s.toRc8 < s.clk.ptu → Leads (.confirmMessage h (.waymark round ok)) s fun t => t.chg = s.chg) ∧
    (∀ x seq, s.pair.pend = [x] → x.seq = some seq → x.confirmed = false → x.fromPartner = false → x.op.twoWay = false → x.round ≠ 0 →
      Leads (.confirmMessage h (.apply seq true)) s fun t => t.pair.pend = [{ x with confirmed := true }]))

/-- The token: the lease timer out takes it from a holder, makes a ready standby due at the next boundary, and sends another
standby to UNCLAIMED; a claim takes it under a new epoch, with the pulse; and the partner goes absent in silence (R306,
R311, R313, R314, R317, R318). -/
def Obligations.TokenMoves : Prop :=
  ∀ s : State, svpRuns s.toRc8 = true →
    ((s.pair.token = .holder ∨ s.pair.token = .handover) → s.pair.pulse = true → Leads .leaseTimerOut s fun t => t.pair.token = .standby ∧ t.pair.pulse = false ∧
      t.pair.epoch = s.pair.epoch ∧ t.pair.synced = false ∧ s.pair.leaseEnd ≤ t.clk.refosc) ∧
    (s.pair.token = .standbyReady → Leads .leaseTimerOut s fun t => t.pair.takeAt = some (2, s.rnd.round + 1) ∧ t.pair.token = .standbyReady) ∧
    (s.pair.token = .standby → Leads .leaseTimerOut s fun t => t.pair.token = .unclaimed ∧ t.pair.partner.present = false ∧ t.pair.claimRef = t.clk.refosc) ∧
    (mayClaim s.toRc8 = true → Leads .claimToken s fun t => t.pair.token = .holder ∧ t.pair.pulse = true ∧
      t.pair.epoch = (s.nv.highestEpoch + 1) % 65536 ∧ t.nv.highestEpoch = (s.nv.highestEpoch + 1) % 65536 ∧
      s.pair.claimRef + claimWait s.toRc8 ≤ t.clk.refosc ∧ t.run.started = true) ∧
    (s.pair.plk.up = false → s.pair.partner.present = true → (∀ r, s.pair.partner.heard = some r → r + 8 < s.rnd.round) → Leads .partnerAbsent s fun t =>
      t.pair.partner.present = false ∧ t.pair.partner.role = 0)

/-- Crossovers, home and resync: a request waits with its limit and ends TOO_LATE at it; SET_HOME stores the home and settle
time; PAIR_RESYNC starts a resync with cause 4; after the settle time the home module asks for the token; a slow resync
is reported, and an insertion step past its maximum sets its eligibility bit (R327, R332, R333, R335, R339, R341, R342). -/
def Obligations.CrossoverHomeResync : Prop :=
  ∀ (s : State) (p : Fin 4) (m : Fin 8) (e : Exec),
    (findChecked s.toRc8 0x0701 p m = some e → s.pair.hand = none → Leads (.crossoverRequest p m) s fun t =>
      (∃ h, t.pair.hand = some h ∧ h.by_ = .command e.id ∧ h.committed = false ∧
        h.waitEnd = s.clk.refosc + (if u32At e.req 8 = 0 then 30000 else u32At e.req 8) * 1000000) ∧
      t.pair.token = s.pair.token ∧ t.execs = s.markedLong e.id .waiting) ∧
    (∀ h id, s.pair.hand = some h → h.round = none → h.by_ = .command id → Leads .crossoverWaitLimit s fun t =>
      t.pair.hand = none ∧ t.execs = s.marked id (.ended .tooLate []) ∧ h.waitEnd ≤ t.clk.refosc ∧ t.pair.token = s.pair.token) ∧
    (findChecked s.toRc8 0x0703 p m = some e → s.pair.partner.present = false → Leads (.setHome p m true) s fun t =>
      t.nv.home = u8At e.req 0 ∧ t.nv.settle = (if u16At e.req 2 = 0 then s.nv.settle else u16At e.req 2) ∧
      (u8At e.req 0 ≠ s.nv.home → t.pair.reclaim = false) ∧
      t.execs = s.marked e.id (.ended .done [])) ∧
    (findChecked s.toRc8 0x0704 p m = some e → s.pair.resync.running = false → Leads (.pairResync p m) s fun t =>
      t.pair.resync.cause = 4 ∧ t.pair.resync.exec = some e.id ∧ t.pair.resync.running = copyAllowed s.toRc8 ∧ t.pair.token = s.pair.token ∧
      t.execs = s.markedLong e.id .waiting) ∧
    (∀ t0, s.pair.settleFrom = some t0 → s.pair.token = .standbyReady → Leads .homeReclaim s fun t =>
      t.pair = { s.pair with reclaim := true, settleFrom := none } ∧ t0 + s.nv.settle * 1000000000 ≤ t.clk.refosc) ∧
    (s.pair.resync.running = true → holdsToken s.toRc8 = true → exec .resyncSlow s = .next (s.after fun r =>
      raise { src := 61, reason := 4, sev := .warning, p0 := s.pair.resync.passes, p1 := s.pair.resync.pages, p2 := 0 }
        (atRefosc (s.pair.resync.start + 1000000000) r))) ∧
    (isStandby s.toRc8 = true → s.pair.training = none → s.pair.step = 4 → (∃ n ∈ nets s.toRc8, (s.net[n]).state ≠ .joined) →
      Leads .insertionStepTimeout s fun t => t.pair.stepFailed = s.pair.stepFailed ||| 2 ^ 7) ∧
    (isStandby s.toRc8 = true → s.pair.training = none → s.pair.step = 7 → s.pair.synced = false → s.pair.stepFailed &&& 1 = 0 →
      Leads .insertionStepTimeout s fun t => t.pair.stepFailed = s.pair.stepFailed ||| 1 ∧ s.pair.stepFrom + 1000000000 ≤ t.clk.refosc) ∧
    (∀ t0, isStandby s.toRc8 = true → s.pair.training = some t0 → s.pair.step = 0 → s.pair.stepFailed &&& 2 ^ 10 = 0 →
      Leads .insertionStepTimeout s fun t => t.pair.stepFailed = s.pair.stepFailed ||| 2 ^ 10 ∧ t0 + 100000000 ≤ t.clk.refosc)

/-! ### Safety functions -/

/-- Sessions: a right password opens one and clears the failures, a wrong one counts and the fifth locks for 60 s, a wrong
length is refused without counting; logout and 900 s of idleness end one and no other; a new password is stored with its
salt and ends every other session (R368, R369, R375, R381). -/
def Obligations.SafetySessions : Prop :=
  ∀ (s : State) (p : Fin 4) (m : Fin 8) (e : Exec),
    (findChecked s.toRc8 0x0801 p m = some e → (s.saf.lockUntil = none ∨ ∃ t0, s.saf.lockUntil = some t0 ∧ t0 ≤ s.clk.refosc) →
      ((8 ≤ u8At e.req 0 ∧ u8At e.req 0 ≤ 32) ∨ (u8At e.req 0 = 0 ∧ s.nv.password = none)) → passwordChars (slice e.req 4 (u8At e.req 0)) = true →
      (passwordRight e.req s.toRc8 = true → Leads (.safetyLogin p m) s fun t =>
        t.saf.sess = s.saf.sess.set e.port (some { operator := slice e.req 36 16, last := s.clk.refosc, first := s.nv.password.isNone }) ∧
        t.saf.fails = 0 ∧ t.saf.lockUntil = none ∧ t.execs = s.marked e.id (.ended .done [])) ∧
      (passwordRight e.req s.toRc8 = false → s.saf.fails < 4 → Leads (.safetyLogin p m) s fun t =>
        t.saf = { s.saf with fails := s.saf.fails + 1 } ∧ t.execs = s.marked e.id (.ended .integrityFail [])) ∧
      (passwordRight e.req s.toRc8 = false → 4 ≤ s.saf.fails → Leads (.safetyLogin p m) s fun t =>
        t.saf = { s.saf with fails := 0, lockUntil := some (s.clk.refosc + 60000000000) } ∧ t.execs = s.marked e.id (.ended .integrityFail []))) ∧
    (findChecked s.toRc8 0x0801 p m = some e → (1 ≤ u8At e.req 0 ∧ u8At e.req 0 < 8) ∨ 32 < u8At e.req 0 → Leads (.safetyLogin p m) s fun t =>
      t.saf = s.saf ∧ t.execs = s.marked e.id (.ended .badField [])) ∧
    (findChecked s.toRc8 0x0807 p m = some e → Leads (.safetyLogout p m) s fun t =>
      t.saf = { s.saf with sess := s.saf.sess.set e.port none } ∧ t.execs = s.marked e.id (.ended .done [])) ∧
    (∀ x, s.saf.sess[p] = some x → Leads (.safetySessionIdle p) s fun t =>
      t.saf = { s.saf with sess := s.saf.sess.set p none } ∧ x.last + 900000000000 ≤ t.clk.refosc) ∧
    (∀ salt, findChecked s.toRc8 0x0808 p m = some e → salt.length = 16 → s.pair.partner.present = false → Leads (.safetyPassword p m true salt) s fun t =>
      t.nv.password = some (salt, padTo 32 (pbkdf2 (slice e.req 4 (u8At e.req 0)) salt 10000)) ∧
      (∀ q : Fin 4, q ≠ e.port → t.saf.sess[q] = none) ∧ t.saf.sess[e.port] = s.saf.sess[e.port].map (fun y => { y with first := false }))

/-- Safety parameter sets: the last block of SAFETY_LOAD that passes every check makes the set pending and leaves the active one;
SAFETY_ACTIVATE fixes its round, and ends with INTEGRITY_FAIL where the SML does not report the set's CRC, and with
WRONG_STATE where a partner is present that cannot confirm (R367, R370, R376, R377). SAFE_STOP_RESET: with no open output to
test it is fixed for its round, or ends with WRONG_STATE where a group named cannot be reset; else its light tests come first
(R354, R363, R382). -/
def Obligations.SafetySetsAndResets : Prop :=
  (∀ (s : State) (p : Fin 4) (m : Fin 8) (e : Exec),
    (findChecked s.toRc8 0x0802 p m = some e → BlockLoad.runs s.saf.load s.toRc8 = false →
      (bitAt (u8At e.req 0) 0 = false → ∀ stored, Leads (.safetyLoad p m stored) s fun t =>
        t.saf = { s.saf with load := some (blockTake s.saf.load e) } ∧ t.nv = s.nv ∧
        t.execs = s.marked e.id (.ended .done (blockResponse (blockTake s.saf.load e)))) ∧
      (bitAt (u8At e.req 0) 0 = true → setCrcOk (blockTake s.saf.load e).data = true → setFieldsOk (blockTake s.saf.load e).data = true →
        s.pair.partner.present = false → Leads (.safetyLoad p m true) s fun t =>
          t.nv.safePending = some (blockTake s.saf.load e).data ∧ t.nv.safeActive = s.nv.safeActive) ∧
      (bitAt (u8At e.req 0) 0 = true → setCrcOk (blockTake s.saf.load e).data = false → ∀ stored, Leads (.safetyLoad p m stored) s fun t =>
        t.nv = s.nv ∧ t.execs = s.markedLong e.id (.ended .integrityFail []))) ∧
    (findChecked s.toRc8 0x0803 p m = some e → s.pair.hand = none → s.pair.resync.running = false → s.pair.partner.present = true → s.pair.plk.up = false →
      ∀ smlOk, exec (.safetyActivate p m smlOk) s = .next (s.after (endWith e.id .wrongState))) ∧
    (findChecked s.toRc8 0x0803 p m = some e → s.pair.hand = none → s.pair.resync.running = false → s.pair.partner.present = false ∨ s.pair.plk.up = true →
      (Leads (.safetyActivate p m true) s fun t =>
        t.saf.activating = some (e.id, if u64At e.req 8 = 0 then roundAfter 2000000 s.toRc8 else u64At e.req 8) ∧ t.saf.sml.crc = u32At e.req 4 ∧
        t.nv = s.nv ∧ t.pair.pend.length = s.pair.pend.length + 1) ∧
      (Leads (.safetyActivate p m false) s fun t => t.saf = s.saf ∧ t.nv = s.nv ∧ t.execs = s.markedLong e.id (.ended .integrityFail [])))) ∧
  (∀ (s : State) (p : Fin 4) (m : Fin 8) (e : Exec), findChecked s.toRc8 0x0809 p m = some e →
    (resetTestsOf (u8At e.req 2) s.toRc8 = [] → resetAllowed (u16At e.req 0) s.toRc8 = true → Leads (.safeStopReset p m) s fun t =>
      t.pair.pend.length = s.pair.pend.length + 1 ∧ t.saf = s.saf ∧ t.execs = s.marked e.id .waiting) ∧
    (resetTestsOf (u8At e.req 2) s.toRc8 ≠ [] → resetAllowed (u16At e.req 0) s.toRc8 = true → Leads (.safeStopReset p m) s fun t =>
      t.saf = { s.saf with resetTests := resetTestsOf (u8At e.req 2) s.toRc8 } ∧ t.execs = s.marked e.id .waiting) ∧
    (resetAllowed (u16At e.req 0) s.toRc8 = false → exec (.safeStopReset p m) s = .next (s.after (endWith e.id .wrongState))))

/-- Test pulses: a closed output whose dark test is due takes one on its next side, an open one a light test where the set
enables them, and on a standby only an open output in a round that its holder names has a light test; the pulse ends at its
width, and a readback that does not follow latches the output's fault and opens it (R363, R364). -/
def Obligations.TestPulses : Prop :=
  (∀ (s : State) (j : Fin 8) (set : List Byte) (named : Bool), s.saf.pulse = none → s.saf.resetTests = [] → activeSet s.toRc8 = some set →
    bitAt (outMode set j.val) 0 = true →
    (isStandby s.toRc8 = true → named = true → commandKnown s.toRc8 = true → bitAt (u8At s.ffe.holder 262) j.val = true →
      (commandedLow s.toRc8).getLsbD j.val = false → (commandedHigh s.toRc8).getLsbD j.val = false → bitAt (outMode set j.val) 2 = true →
      Leads (.testPulse j named) s fun t => t.saf.pulse = some { out := j, dark := false, side := s.saf.nextSide[j], start := t.clk.refosc, exec := none }) ∧
    (isStandby s.toRc8 = true → (named = false ∨ bitAt (u8At s.ffe.holder 262) j.val = false) → exec (.testPulse j named) s = .next s) ∧
    (isStandby s.toRc8 = false → s.saf.ch[0].closed.getLsbD j.val = true → s.saf.ch[1].closed.getLsbD j.val = true → bitAt (outMode set j.val) 1 = true → Leads (.testPulse j named) s fun t =>
      t.saf.pulse = some { out := j, dark := true, side := s.saf.nextSide[j], start := t.clk.refosc, exec := none } ∧
      t.saf.nextSide[j] ≠ s.saf.nextSide[j] ∧ t.saf.ch = s.saf.ch) ∧
    (isStandby s.toRc8 = false → s.saf.ch[0].closed.getLsbD j.val = false → s.saf.ch[1].closed.getLsbD j.val = false → bitAt (outMode set j.val) 2 = true → Leads (.testPulse j named) s fun t =>
      t.saf.pulse = some { out := j, dark := false, side := s.saf.nextSide[j], start := t.clk.refosc, exec := none } ∧ t.saf.ch = s.saf.ch) ∧
    (isStandby s.toRc8 = false → s.saf.ch[0].closed.getLsbD j.val = true → s.saf.ch[1].closed.getLsbD j.val = true → bitAt (outMode set j.val) 1 = false →
      exec (.testPulse j named) s = .next s)) ∧
  (∀ (s : State) (q : Pulse) (pc mc : BitVec 8), s.saf.pulse = some q → q.exec = none →
    (pulseFollows q pc mc = true → allOutputs.filter (followsPulse q (commandedLow s.toRc8) (commandedHigh s.toRc8) pc mc) = [] →
      Leads (.testPulseEnd pc mc) s fun t => t.saf = { s.saf with pulse := none, readP := pc, readM := mc } ∧ q.start ≤ t.clk.refosc) ∧
    (pulseFollows q pc mc = false → Leads (.testPulseEnd pc mc) s fun t => t.saf.pulse = none ∧ t.saf.faults.getLsbD q.out.val = true ∧
      ∀ c : Fin 2, (t.saf.ch[c]).closed.getLsbD q.out.val = false))

/-- At the check point both channels give every axis a permit under the epoch; with no valid set each is stop or no permit.
A detour that expires is marked and latches the groups of its monitored axes; a latched group stays latched (R351, R353,
R355, R358, R367). The SML's own side: a copy of channel B that a tap hears, while its port's link is up and its
network's domain on, and that is accepted sets its round and joins its selection, where it replaces a window already
selected only as its port ranks first on the same cycle; a load page is kept and acknowledged, and a strobe that is off by
more than 1 % of the round period opens its outputs and drops its round (R345, R346, R570; 04 R122). -/
def Obligations.SafetyChannels : Prop :=
  ((∀ (s : State) (e : Milestone), dueEntry 5 0 s.toRc8 = some e → Leads .safetyCheckPoint s fun t =>
    ∀ c : Fin 2, (t.saf.ch[c]).permits.length = 256 ∧ (t.saf.ch[c]).permitFor.1 = s.pair.epoch ∧
      (activeSet s.toRc8 = none → ∀ x ∈ (t.saf.ch[c]).permits, x = 0x00 ∨ x = 0xFF)) ∧
  (∀ s : State, dueEntry 5 0 s.toRc8 = none → exec .safetyCheckPoint s = .next s) ∧
  (∀ (s : State) (set : List Byte) (a : Nat) (c : Fin 2) (k : Nat), activeSet s.toRc8 = some set → s.saf.det.entry.isSome = true → s.saf.det.expired = false →
    s.saf.det.axes = [(a, c, k)] → Leads .detourExpired s fun t => t.saf.det.expired = true ∧ s.saf.det.endAt ≤ t.clk.refosc ∧
      ((safeAxis set a).monitored = true → (safeAxis set a).group < 16 →
        (t.saf.ch[if c = 0 then (1 : Fin 2) else 0]).latched.getLsbD (safeAxis set a).group = true) ∧
      (∀ (d : Fin 2) (g : Nat), (s.saf.ch[d]).latched.getLsbD g = true → (t.saf.ch[d]).latched.getLsbD g = true))) ∧
  (∀ s : State,
    (∀ n port f, smlAccepts n f s.toRc8 = true → ((s.net[n]).ports[tapPort port]).link = true → s.pwr.domains.getLsbD (7 + n.val) = true →
      Leads (.smlCopyReceived n port f) s fun t => t.saf.sml.round = some f.round ∧
        t.saf.sml.sel[n] = (s.saf.sml.sel[n].filter fun y => !((smlWindows n port f s.toRc8).any fun z => z.window == y.window)) ++ smlWindows n port f s.toRc8 ∧
        t.saf.ch = s.saf.ch ∧ t.sch = s.sch) ∧
    (∀ n port f, (smlAccepts n f s.toRc8 = false ∨ ((s.net[n]).ports[tapPort port]).link = false ∨ s.pwr.domains.getLsbD (7 + n.val) = false) →
      exec (.smlCopyReceived n port f) s = .next s) ∧
    (∀ page data, data.length ≤ 1008 → page < 2 ^ 32 → Leads (.smlLoadPage page data) s fun t => t.saf.sml.page = page ∧ t.saf.sml.ack = page ∧
      t.saf.sml.data = data ∧ t.saf.sml.object = (if page = 1 then data else s.saf.sml.object ++ data) ∧ t.saf.ch = s.saf.ch ∧ t.nv = s.nv) ∧
    (∀ strobe dev, strobeOff dev s.toRc8 = false → exec (.smlStrobeFault strobe dev) s = .next s) ∧
    (∀ strobe dev, strobeOff dev s.toRc8 = true → Leads (.smlStrobeFault strobe dev) s fun t => t.saf.sml.strobe = true ∧ t.saf.sml.round = none ∧
      (t.saf.ch[1]).closed = 0 ∧ t.saf.ch[0] = s.saf.ch[0]))

/-! ### Lockstep, memory and access -/

/-- Lockstep: a mismatch halts AP0 or AP1 and nothing that the comparator does not run on; one of the SVP halts all three, stops
the pulse and opens the SML's switches; a suspended pair is restored at its restore point, at which no task of it runs nor is
released and the processor channel does not work, or stays stuck (R385, R390). The memory code: one and two wrong bits are
corrected, three and an address fault in one or two bits are detected; a corrected error counts in its area as single or
double, in DRAM in the area of each device that held it; an uncorrectable one counts with its address (but for clean lines),
stays so until it is overwritten and reacts by region; a scrub goes one line on and wraps at the end of the DRAM (R393 to
R397, R414). -/
def Obligations.LockstepAndMemory : Prop :=
  ((∀ (s : State) (k : Fin 3), (s.itg.pairs[k]).st = .lockstep →
    (k ≠ 2 → Leads (.lockstepMismatch k) s fun t => (t.itg.pairs[k]).st = .halted ∧ (∀ j : Fin 3, j ≠ k → (t.itg.pairs[j]).st = (s.itg.pairs[j]).st)) ∧
    (k = 2 → Leads (.lockstepMismatch k) s fun t => (∀ j : Fin 3, (t.itg.pairs[j]).st = .halted) ∧ t.svpReady = false ∧ t.pair.pulse = false ∧
      t.nv = { s.nv with pd0Mismatch := some s.rnd.round } ∧ (t.saf.ch[1]).closed = 0 ∧ t.saf.ch[0] = s.saf.ch[0] ∧ t.out = s.out)) ∧
  (∀ (s : State) (k : Fin 3), (s.itg.pairs[k]).st ≠ .lockstep → exec (.lockstepMismatch k) s = .next s) ∧
  (∀ (s : State) (k : Fin 2) (i : Fin 3), i.val = k.val → (s.itg.pairs[i]).st = .suspended → (s.itg.pairs[i]).endedAt.isSome = true →
    pairIdle i s.toRc8 = true → releaseNear i s.toRc8 = false → (k = 0 → checksRun s.toRc8 = false ∧ checksNear s.toRc8 = false) →
    Leads (.lockstepRestored k) s fun t => (t.itg.pairs[i]).st = .lockstep ∧ (t.itg.pairs[i]).endedAt = none ∧ t.itg.restores = inc32 s.itg.restores) ∧
  (∀ (s : State) (k : Fin 2) (i : Fin 3) (t0 : Nat), i.val = k.val → (s.itg.pairs[i]).endedAt = some t0 →
    LeadsTo (.lockstepRestoreFailed k) s
      { atRefosc (t0 + 1000000000) s.toRc8 with itg := { s.itg with pairs := s.itg.pairs.set i { s.itg.pairs[i] with endedAt := none, stuck := true } } })) ∧
  ((∀ (err : BitVec 80) (fault : BitVec 29),
    (onesIn fault.getLsbD 29 = 0 → onesIn err.getLsbD 80 = 1 ∨ onesIn err.getLsbD 80 = 2 → codeRead err fault = .corrected (decide (onesIn err.getLsbD 80 = 2))) ∧
    (onesIn fault.getLsbD 29 = 0 → onesIn err.getLsbD 80 = 3 → codeRead err fault = .data) ∧
    (onesIn fault.getLsbD 29 = 1 ∨ onesIn fault.getLsbD 29 = 2 → codeRead err fault = .address)) ∧
  (∀ (s : State) (area : Fin 13) (addr : Nat) (err : BitVec 80) (double : Bool), 6 ≤ area.val → addr < 2 ^ 32 → codeRead err 0 = .corrected double →
    (isPoisoned area.val addr s.toRc8 = false → Leads (.memoryCorrected area addr err) s fun t =>
      t.itg = { s.itg with areas := s.itg.areas.set area (if double then { s.itg.areas[area] with double := inc32 (s.itg.areas[area]).double }
                                        else { s.itg.areas[area] with single := inc32 (s.itg.areas[area]).single }) } ∧ t.run = s.run ∧ t.eng = s.eng) ∧
    (isPoisoned area.val addr s.toRc8 = true → exec (.memoryCorrected area addr err) s = .next s)) ∧
  (∀ (s : State) (addr : Nat) (err : BitVec 80) (double : Bool), addr < 2 ^ 32 → codeRead err 0 = .corrected double → isPoisoned 5 addr s.toRc8 = false →
    Leads (.memoryCorrected 5 addr err) s fun t => t.itg.scrubAt = s.itg.scrubAt ∧ t.run = s.run ∧ t.eng = s.eng ∧
      ∀ (d : Fin 5) (k : Fin 13), k.val = d.val →
        (deviceBits err d = 0 → t.itg.areas[k] = s.itg.areas[k] ∧ t.itg.device[d] = s.itg.device[d]) ∧
        (deviceBits err d = 1 → t.itg.areas[k] = { s.itg.areas[k] with single := inc32 (s.itg.areas[k]).single } ∧ (t.itg.device[d]).getLast? = some s.clk.refosc) ∧
        (deviceBits err d = 2 → t.itg.areas[k] = { s.itg.areas[k] with double := inc32 (s.itg.areas[k]).double } ∧ (t.itg.device[d]).getLast? = some s.clk.refosc)) ∧
  (∀ (s : State) (area : Fin 13) (addr : Nat) (err : BitVec 80) (fault : BitVec 29) (r : MemRegion), regionIn area.val r = true → addr < 2 ^ 32 →
    (readResult area.val addr err fault r s.toRc8 ≠ .data → readResult area.val addr err fault r s.toRc8 ≠ .address →
      exec (.memoryUncorrectable area addr ⟨err, fault⟩ r) s = .next s) ∧
    (readResult area.val addr err fault r s.toRc8 = .data ∨ readResult area.val addr err fault r s.toRc8 = .address →
      (∀ o copy, r = .object o copy → LeadsTo (.memoryUncorrectable area addr ⟨err, fault⟩ r) s (objectBad o copy
        { s.toRc8 with itg := { s.itg with areas := s.itg.areas.set area { s.itg.areas[area] with uncorrectable := inc32 (s.itg.areas[area]).uncorrectable, lastAddr := addr } } })) ∧
      (r = .bar2 → LeadsTo (.memoryUncorrectable area addr ⟨err, fault⟩ r) s (poisonBar2 addr (poison area addr r
        { s.toRc8 with itg := { s.itg with areas := s.itg.areas.set area { s.itg.areas[area] with uncorrectable := inc32 (s.itg.areas[area]).uncorrectable, lastAddr := addr } } }))) ∧
      (r = .clean → Leads (.memoryUncorrectable area addr ⟨err, fault⟩ r) s fun t => (t.itg.areas[area]).uncorrectable = (s.itg.areas[area]).uncorrectable ∧
        t.itg.poisoned = s.itg.poisoned ∧ t.run = s.run) ∧
      (∀ i, r = .journal i → Leads (.memoryUncorrectable area addr ⟨err, fault⟩ r) s fun t => t.nv.retain = s.nv.retain ∧
        (∀ x, t.nv.journal[i]? = some x → x.valid = false) ∧ (∀ j, j ≠ i → t.nv.journal[j]? = s.nv.journal[j]?)) ∧
      (r = .retained false → Leads (.memoryUncorrectable area addr ⟨err, fault⟩ r) s fun t => t.run.retainBad = true ∧ t.nv.retain = s.nv.retain) ∧
      (∀ a, r = .engine a → Leads (.memoryUncorrectable area addr ⟨err, fault⟩ r) s fun t => (axisOf a.val t.toRc8).memError = true ∧
        isPoisoned area.val addr t.toRc8 = true) ∧
      (∀ a k, r = .snapshot a k → Leads (.memoryUncorrectable area addr ⟨err, fault⟩ r) s fun t =>
        ∀ x ∈ t.nv.snaps, x.1 = a.val → x.2[k] = none))) ∧
  (∀ (s : State) (area : Fin 13), area.val ≤ 5 →
    (s.itg.scrubAt + 1 ≠ 33554432 → exec (.scrub area) s = .next (s.after fun r => { r with itg := { r.itg with scrubAt := r.itg.scrubAt + 1 } })) ∧
    (s.itg.scrubAt + 1 = 33554432 →
      exec (.scrub area) s = .next (s.after fun r => { r with itg := { r.itg with scrubAt := 0, scrubs := inc32 r.itg.scrubs } }))))

/-- Access control: an allowed transaction changes nothing, but that a host port's read of its BAR2 is answered with the
bytes there, or poisoned; a refused one is logged with the sequence, cause, address and epoch, the oldest of 16 going,
and freezes a master that is no core; ACU_RELEASE releases it. A rule commit brings the regions of the rule sources into
force as the next epoch at once, and a host port's are its mailboxes, the directory page and the slots granted; a late
epoch is counted once; a completion report covers every older epoch, and with it a release held for the rules of new
code begins (R397, R399 to R409, R411; 02 R49, R52). -/
def Obligations.AccessControl : Prop :=
  (∀ (s : State) (x : Transaction), 1 ≤ x.kind.val → 1 ≤ x.len → x.len ≤ 256 → x.addr < 2 ^ 32 → issues x.master s.toRc8 = true →
    (accessCause x s.toRc8 = 0 → x.master.val < 10 ∨ 14 ≤ x.master.val → exec (.accessViolation x) s = .next s) ∧
    (∀ p : Fin 4, accessCause x s.toRc8 = 0 → x.master.val = 10 + p.val → (s.hp[p]).link = true → x.kind.val = 1 → inBar2 p.val x.addr = true →
      (poisoned x.addr x.len s.toRc8 = false → exec (.accessViolation x) s = .next (s.after fun r =>
        { r with out := r.out ++ [.readData p ((List.range x.len).map fun i => bar2Byte p (x.addr - bar2Base p.val + i) r)] })) ∧
      (poisoned x.addr x.len s.toRc8 = true → exec (.accessViolation x) s = .next (s.after fun r => { r with out := r.out ++ [.readPoisoned p] }))) ∧
    (accessCause x s.toRc8 ≠ 0 → Leads (.accessViolation x) s fun t => t.itg.violations = inc32 s.itg.violations ∧
      t.itg.asv.getLast? = some (asvEntry x (accessCause x s.toRc8) s.toRc8) ∧
      (s.itg.asv.length ≤ 16 → t.itg.asv.length = min 16 (s.itg.asv.length + 1)) ∧
      (∀ j : Nat, j < 16 → t.itg.frozen.getLsbD j = (s.itg.frozen.getLsbD j || (decide (j = x.master.val) && decide (4 ≤ j)))) ∧
      (x.master.val = 4 → t.nv.pd0Violation = some (asvEntry x (accessCause x s.toRc8) s.toRc8) ∧ t.svpReady = false))) ∧
  (∀ (s : State) (p : Fin 4), (rulesFor s.toRc8)[10 + p.val] = hostRules p.val (s.nv.rights[p]).grants) ∧
  (∀ (s : State) (source : RuleSource), exec (.ruleEpochCommit source) s = .next (s.after fun r => { r with itg := { r.itg with
      regions := rulesFor r, epoch := (r.itg.epoch + 1) % 2 ^ 32, commits := inc32 r.itg.commits,
      waiting := r.itg.waiting ++ [((r.itg.epoch + 1) % 2 ^ 32, r.clk.refosc, false)] } })) ∧
  (∀ (s : State) (ns ep since : Nat), 2000 < ns → s.itg.waiting = [(ep, since, false)] → LeadsTo (.ruleEpochLate ns) s
    { atRefosc (since + ns) s.toRc8 with itg := { s.itg with lateEpochs := inc32 s.itg.lateEpochs, waiting := [(ep, since, true)] } }) ∧
  (∀ (s : State) (ep : Nat) (before after : List (Nat × Nat × Bool)) (x : Nat × Bool), s.itg.waiting = before ++ (ep, x) :: after → (∀ y ∈ before, y.1 ≠ ep) →
    s.itg.sessWaits = [] → s.run.heldReleases = [] →
    exec (.ruleEpochComplete ep) s = .next (s.after fun r => { r with itg := { r.itg with complete := ep, waiting := after } })) ∧
  (∀ (s : State) (ep : Nat), (∀ y ∈ s.itg.waiting, y.1 ≠ ep) → exec (.ruleEpochComplete ep) s = .next s) ∧
  (∀ (s : State) (ep time mono : Nat) (x : Nat × Bool) (k : Fin 8), s.itg.waiting = [(ep, x)] → s.itg.sessWaits = [] → s.run.heldReleases = [(k, time, mono)] →
    s.run.mode = .run → (s.run.tasks[k]).st = .waiting → isStandby s.toRc8 = false → Leads (.ruleEpochComplete ep) s fun t =>
      (t.run.tasks[k]).st = .running ∧ (t.run.tasks[k]).snap.time = time ∧ t.run.heldReleases = []) ∧
  (∀ (s : State) (p : Fin 4) (m : Fin 8) (e : Exec), findChecked s.toRc8 0x0901 p m = some e → u8At e.req 0 ≤ 15 → Leads (.acuRelease p m) s fun t =>
    (∀ j : Nat, j < 16 → t.itg.frozen.getLsbD j = (s.itg.frozen.getLsbD j && decide (j ≠ u8At e.req 0))) ∧
    (∀ y ∈ t.itg.asv, y.master.val = u8At e.req 0 → y.st ≠ 0) ∧ t.execs = s.marked e.id (.ended .done []))

/-- Debugging: the locked port takes the passive instructions alone, the scan chain and a core's debug only in scope, core
debug never in RUN, memory in a session alone; a session that is to open for its minutes, or to end by command or
expiry, waits for the rule epoch that goes with it, and then opens, or ends with its breakpoints gone and its halted cores
resumed; a breakpoint is
kept 16 to a core; a halted task goes on as asked and stops at a breakpoint (R387 to R389, R391, R392, R401, R409, R415,
R417 to R419). -/
def Obligations.Debugging : Prop :=
  (∀ s : State, dmaStopped 15 s.toRc8 = false →
    exec (.debugPortRequest .passive) s = .next (s.after fun r => { r with out := r.out ++ [.debugStatus true] }) ∧
    exec (.debugPortRequest .scan) s =
      .next (s.after fun r => { r with out := r.out ++ [.debugStatus ((r.itg.sess.map fun x => bitAt x.scope 2).getD false)] }) ∧
    (∀ k op, (s.itg.sess = none ∨ s.run.mode = .run) →
      exec (.debugPortRequest (.core k op)) s = .next (s.after fun r => { r with out := r.out ++ [.debugStatus false] })) ∧
    (∀ x : Transaction, 1 ≤ x.kind.val → 1 ≤ x.len → x.len ≤ 256 → x.addr < 2 ^ 32 → s.itg.sess = none →
      exec (.debugPortRequest (.access x)) s = .next (s.after fun r => { r with out := r.out ++ [.debugStatus false] })) ∧
    (∀ (k : Fin 3) (op : CoreDebug) x, s.itg.sess = some x → k.val < 2 → bitAt x.scope k.val = true → s.run.mode ≠ .run → (s.itg.pairs[k]).st = .lockstep →
      Leads (.debugPortRequest (.core k op)) s fun t => (t.itg.pairs[k]).st = .suspended ∧ (t.itg.pairs[k]).byPort = true ∧
        t.itg.suspensions = inc32 s.itg.suspensions ∧
        (∀ b, op = .halt b → t.itg.portHalts = s.itg.portHalts ||| (1#4 <<< (2 * k.val))) ∧
        (∀ b, op = .resume b → t.itg.portHalts = s.itg.portHalts &&& ~~~(1#4 <<< (2 * k.val))))) ∧
  (∀ (s : State) x, s.itg.sess = some x → s.itg.sessWaits = [] → Leads .debugSessionExpiry s fun t => t.itg.sess = some x ∧ x.endAt ≤ t.clk.refosc ∧
    t.itg.epoch = (s.itg.epoch + 1) % 2 ^ 32 ∧ t.itg.sessWaits = [{ epoch := (s.itg.epoch + 1) % 2 ^ 32, sess := none, arg := 2, by_ := 0xFF, exec := none }]) ∧
  (∀ (s : State) (w : SessWait) (x : Nat × Bool), s.itg.sessWaits = [w] → s.itg.waiting = [(w.epoch, x)] → s.run.heldReleases = [] →
    (w.sess = none → s.itg.sess.isSome = true → Leads (.ruleEpochComplete w.epoch) s fun t => t.itg.sess = none ∧ t.itg.sessWaits = [] ∧
      (∀ b ∈ vlist t.itg.breaks, b = []) ∧ t.itg.portHalts = 0 ∧ (∀ b ∈ vlist t.itg.portBreaks, b = []) ∧ (∀ id, w.exec = some id → t.execs = s.marked id (.ended .done []))) ∧
    (∀ y, w.sess = some y → Leads (.ruleEpochComplete w.epoch) s fun t => t.itg.sess = some y ∧ t.itg.sessWaits = [] ∧
      (bitAt y.scope 2 = false → ∀ id, w.exec = some id → t.execs = s.marked id (.ended .done [])) ∧
      (bitAt y.scope 2 = true → s.itg.test = false → t.itg.test = true ∧ t.pair.pulse = false ∧ ∀ c : Fin 2, (t.saf.ch[c]).closed = 0))) ∧
  (∀ (s : State) (p : Fin 4) (m : Fin 8) (e : Exec),
    (findChecked s.toRc8 0x0E01 p m = some e → (∀ x, s.itg.sess = some x → x.port = e.port) → (∀ x, comingSession s.toRc8 = some x → x.port = e.port) →
      Leads (.debugUnlock p m) s fun t => t.itg.sess = s.itg.sess ∧ t.itg.epoch = (s.itg.epoch + 1) % 2 ^ 32 ∧ t.execs = s.marked e.id .waiting ∧
        ∃ w, t.itg.sessWaits = s.itg.sessWaits ++ [w] ∧ w.epoch = (s.itg.epoch + 1) % 2 ^ 32 ∧ w.arg = u16At e.req 2 ∧ w.by_ = e.port.val ∧ w.exec = some e.id ∧
          w.sess = some { port := e.port, scope := u8At e.req 0, endAt := s.clk.refosc + u16At e.req 2 * 60000000000 }) ∧
    (findChecked s.toRc8 0x0E01 p m = some e → (∃ x, s.itg.sess = some x ∧ x.port ≠ e.port) → exec (.debugUnlock p m) s = .next (s.after (endWith e.id .busy))) ∧
    (findChecked s.toRc8 0x0E02 p m = some e → (∃ x, comingSession s.toRc8 = some x ∧ x.port = e.port) → Leads (.debugLock p m) s fun t =>
      t.itg.sess = s.itg.sess ∧ t.itg.epoch = (s.itg.epoch + 1) % 2 ^ 32 ∧ t.execs = s.marked e.id .waiting ∧
      t.itg.sessWaits = s.itg.sessWaits ++ [{ epoch := (s.itg.epoch + 1) % 2 ^ 32, sess := none, arg := 1, by_ := e.port.val, exec := some e.id }]) ∧
    (findChecked s.toRc8 0x0E02 p m = some e → (∀ x, comingSession s.toRc8 = some x → x.port ≠ e.port) →
      exec (.debugLock p m) s = .next (s.after (endWith e.id .wrongState))) ∧
    (findChecked s.toRc8 0x0E04 p m = some e → LeadsTo (.splitSet p m true) s (({ s.toRc8 with nv := { s.nv with split := BitVec.ofNat 2 (u8At e.req 0) } } : Rc8).ended e.id .done
      (le 1 (b2n (bitAt (u8At e.req 0) 0 && !((activeSet s.toRc8).map setSingle).getD false)) ++ zeros 3))) ∧
    (findChecked s.toRc8 0x0E05 p m = some e → ∀ c : Fin 4, u8At e.req 1 = c.val →
      (u8At e.req 0 = 1 → (s.itg.breaks[c]).contains (u32At e.req 4) = false → (s.itg.breaks[c]).length < 16 → Leads (.debugBreakpoint p m) s fun t =>
        t.itg.breaks = s.itg.breaks.set c (s.itg.breaks[c] ++ [u32At e.req 4]) ∧ t.execs = s.marked e.id (.ended .done (le 1 ((s.itg.breaks[c]).length + 1) ++ zeros 3))) ∧
      (u8At e.req 0 = 1 → (s.itg.breaks[c]).contains (u32At e.req 4) = false → 16 ≤ (s.itg.breaks[c]).length →
        exec (.debugBreakpoint p m) s = .next (s.after (endWith e.id .noSpace))) ∧
      (u8At e.req 0 = 3 → Leads (.debugBreakpoint p m) s fun t => t.itg = { s.itg with breaks := s.itg.breaks.set c [] } ∧ t.execs = s.marked e.id (.ended .done (zeros 4)))) ∧
    (findChecked s.toRc8 0x0E06 p m = some e → ∀ i : Fin 8, u8At e.req 0 = i.val →
      (u8At e.req 1 = 1 → exec (.debugTask p m) s = .next (s.after fun r =>
        endWith e.id .done { r with run := { r.run with tasks := r.run.tasks.set i { r.run.tasks[i] with wanted := 1 } } })) ∧
      (u8At e.req 1 = 2 → exec (.debugTask p m) s = .next (s.after fun r =>
        endWith e.id .done { r with run := { r.run with tasks := r.run.tasks.set i { r.run.tasks[i] with st := .running } } })))) ∧
  (∀ (s : State) (i : Fin 8) (step : Bool), s.run.mode = .layby → isStandby s.toRc8 = false → executes i s.toRc8 = true → (step = true ∨ breaksOf (((s.run.tasks[i]).cfg.map (·.core)).getD 0) s.toRc8 ≠ []) →
    LeadsTo (.breakpointReached i step) s
      { s.toRc8 with run := { s.run with tasks := s.run.tasks.set i { s.run.tasks[i] with st := .breakpoint, debug := true } } })

/-! ### Plant time, Ethernet and CAN -/

/-- The time state machine: a measurement on the port that disciplines is kept and locks the time where it is within the
threshold; a jump leads to HOLDOVER, or to a step at once where the configuration lets a stopped module take it; a lost
source leads from LOCKED to HOLDOVER and cancels a step. An accepted step is fixed for its round, and at its boundary
plant time and round number take it (R424, R426, R427, R428, R441; 03 R94, R95). PTP messages: a peer delay request is
answered in the peer-to-peer profile and by no other; the standby and management messages change nothing; the ports and
the grandmaster are as the best master clock algorithm decides, where a module that may not be grandmaster is never
MASTER without a SLAVE port. Each message sent at its interval takes the next sequence of its kind (R430, R431, R442). -/
def Obligations.PlantTimeAndPtp : Prop :=
  ((∀ (s : State) (e : Fin 2) (off : Int) (delay : Nat), off.natAbs < 2 ^ 63 → delay < 2 ^ 32 →
    (isStandby s.toRc8 = true ∨ (s.tim.ports[e]).st ≠ 9 → exec (.ptpOffsetMeasurement e off delay) s = .next s) ∧
    (isStandby s.toRc8 = false → (s.tim.ports[e]).st = 9 → ptpRuns e s.toRc8 = true → Leads (.ptpOffsetMeasurement e off delay) s fun t =>
      t.tim.last = off ∧ t.tim.delay = delay ∧ t.tim.recent = ((off * 65536 - s.clk.residual) :: s.tim.recent).take 3 ∧ t.rnd = s.rnd ∧ t.run = s.run ∧
      t.tim.st = (if s.tim.st = .stepPending then .stepPending
        else if beyond s.nv.ptp.threshold t.tim.recent = false then .locked
        else if s.tim.st = .freeRunning ∧ bitAt s.nv.ptp.flags 2 = true ∧ s.run.mode = .stop then .stepPending
        else .holdover))) ∧
  (∀ s : State, isStandby s.toRc8 = false →
    (s.tim.st = .locked → Leads .ptpLost s fun t => t.tim.st = .holdover ∧ t.tim.holdAt = some s.clk.refosc ∧ t.tim.holdFrom = secOf s.clk.ptu) ∧
    (s.tim.st = .stepPending → Leads .ptpLost s fun t => t.tim.st = .holdover ∧ t.tim.stepAt = none ∧ t.rnd = s.rnd) ∧
    (s.tim.st = .freeRunning ∨ s.tim.st = .holdover → exec .ptpLost s = .next s)) ∧
  (∀ (s : State) (t0 : Nat), s.tim.holdAt = some t0 → s.tim.st = .holdover →
    LeadsTo .holdoverLong s { atRefosc (t0 + 3600000000000) s.toRc8 with tim := { s.tim with holdAt := none } }) ∧
  (∀ (s : State) (p : Fin 4) (m : Fin 8) (e : Exec), findChecked s.toRc8 0x0A01 p m = some e →
    ((s.sch[0]).pending = none → (s.sch[1]).pending = none → s.chg.fixed = false → Leads (.timeAcceptStep p m) s fun t =>
      t.tim.stepAt = some (max (roundAfter 1000000 s.toRc8) (u64At e.req 8)) ∧ t.tim.st = .stepPending ∧ t.tim.refusal = 0 ∧ t.tim.exec = some e.id ∧
      t.execs = s.markedLong e.id .waiting) ∧
    ((s.sch[0]).pending.isSome = true ∨ (s.sch[1]).pending.isSome = true ∨ s.chg.fixed = true →
      exec (.timeAcceptStep p m) s = .next (s.after (endWith e.id .busy)))) ∧
  (∀ (s : State) (b : Nat) (k : Int), isStandby s.toRc8 = false → s.tim.st = .stepPending → s.tim.stepAt = some b →
    k = roundDivAway (s.tim.offset * 65536) (s.rnd.period * fracPerNs) → Leads .timeStepBoundary s fun t =>
      t.tim.st = .locked ∧ t.tim.stepAt = none ∧ t.tim.steps = inc32 s.tim.steps ∧
      t.rnd.round = (if k = 0 then s.rnd.round else ((s.rnd.round : Int) + k).toNat) ∧
      t.clk.residual = s.tim.offset * 65536 - k * ((s.rnd.period * fracPerNs : Nat) : Int) ∧
      t.clk.ptu = (((s.clk.toPtu (b * s.rnd.period * fracPerNs)).ptu : Int) + k * ((s.rnd.period * fracPerNs : Nat) : Int)).toNat)) ∧
  (∀ (s : State) (e : Fin 2) (f : PtpMsg), f.messageType < 16 → f.domain < 256 → f.seq < 65536 → ptpRuns e s.toRc8 = true → dmaStopped 8 s.toRc8 = false →
    (f.domain ≠ s.nv.ptp.domain → exec (.ptpMessageReceived e f) s = .next s) ∧
    (f.domain = s.nv.ptp.domain → f.messageType = 2 → s.nv.ptp.profile ≠ 2 → exec (.ptpMessageReceived e f) s = .next s) ∧
    (f.domain = s.nv.ptp.domain → f.messageType = 2 → s.nv.ptp.profile = 2 → bitAt s.nv.ptp.flags 1 = true → (s.eth[e]).sending.isSome = true → txFull s.eth[e] 6 = false →
      exec (.ptpMessageReceived e f) s = .next (s.after fun r => { r with eth := r.eth.set e { r.eth[e] with
        queue := (r.eth[e]).queue ++ [{ queue := 6, launch := none, payload := .ptp 3 f.seq }] } })) ∧
    (f.messageType ≠ 2 → (isStandby s.toRc8 = true ∨ f.messageType = 13) → exec (.ptpMessageReceived e f) s = .next s) ∧
    (f.domain = s.nv.ptp.domain → f.messageType = 11 → isStandby s.toRc8 = false → bitAt s.nv.ptp.mask 0 = true → bitAt s.nv.ptp.mask 1 = true →
      mayMaster s.toRc8 = true → Leads (.ptpMessageReceived e f) s fun t =>
        ((t.tim.ports[0]).st, (t.tim.ports[1]).st, t.tim.gm) =
          (fun d : Nat × Nat × Nat => (d.1 % 10, d.2.1 % 10, d.2.2 % 2 ^ 64))
            (Config.ptpDecision s.nv.ptp ((s.tim.ports[0]).st, (s.tim.ports[1]).st) s.tim.gm e.val f.messageType f.body) ∧ t.eth = s.eth) ∧
    (f.domain = s.nv.ptp.domain → f.messageType = 11 → isStandby s.toRc8 = false → bitAt s.nv.ptp.mask 0 = true → bitAt s.nv.ptp.mask 1 = true →
      mayMaster s.toRc8 = false → Leads (.ptpMessageReceived e f) s fun t =>
        (t.tim.ports[0]).st = 9 ∨ (t.tim.ports[1]).st = 9 ∨ ((t.tim.ports[0]).st ≠ 6 ∧ (t.tim.ports[1]).st ≠ 6)) ∧
    (s.nv.ptp.profile = 2 → Leads (.ptpMessageInterval e .delay) s fun t => (t.tim.ports[e]).seq[3] = ((s.tim.ports[e]).seq[3] + 1) % 65536) ∧
    ((s.tim.ports[e]).st = 6 → holdsToken s.toRc8 = true →
      (Leads (.ptpMessageInterval e .announce) s fun t => (t.tim.ports[e]).seq[0] = ((s.tim.ports[e]).seq[0] + 1) % 65536) ∧
      (Leads (.ptpMessageInterval e .sync) s fun t => (t.tim.ports[e]).seq[1] = ((s.tim.ports[e]).seq[1] + 1) % 65536)))

/-- Plant Ethernet: received frames are counted and reach their channel, launched and sent frames free their places, links
come and go, and the peer services publish and read (R432 to R436, R439, R447). -/
def Obligations.PlantEthernet : Prop :=
  (∀ (s : State) (e : Fin 2) (f : EthRx), (s.eth[e]).link = true → (s.nv.ethCfg[e]).enabled = true → dmaStopped 8 s.toRc8 = false →
    (f.fcsOk = false → exec (.ethFrameReceived e f) s = .next (s.after (ethCount e 5))) ∧
    (f.fcsOk = true → f.buffers < 31 → f.size < 64 ∨ 1522 < f.size → exec (.ethFrameReceived e f) s = .next (s.after fun r => ethCount e 3 (ethCount e 1 r))) ∧
    (f.fcsOk = true → f.buffers < 31 → 64 ≤ f.size → f.size ≤ 1522 → f.content = .pause →
      exec (.ethFrameReceived e f) s = .next (s.after fun r => ethCount e 4 (ethCount e 1 r))) ∧
    (∀ sender port pay ch, f.fcsOk = true → f.buffers < 31 → 64 ≤ f.size → f.size ≤ 1522 → f.content = .udp sender port pay →
      allPeers.find? (peerAccepts e sender port pay s.toRc8) = some ch → Leads (.ethFrameReceived e f) s fun t =>
        (t.peers[ch]).st = 1 ∧ (t.peers[ch]).rx = pay.drop 16 ∧ (t.peers[ch]).rxSeq = some (u32At pay 4) ∧ (t.peers[ch]).rxRound = s.rnd.round ∧
        (∀ k : Fin 16, k ≠ ch → t.peers[k] = s.peers[k]) ∧ t.run = s.run)) ∧
  (∀ (s : State) (e : Fin 2) (f : EthFrame) (l : Nat), dmaStopped 8 s.toRc8 = false → (s.eth[e]).queue = [f] → f.launch = some l →
    ((s.eth[e]).sending = none → (s.eth[e]).link = true → (s.eth[e]).speed ≠ 3 →
      exec (.ethFrameLaunch e) s = .next (s.after fun r => { atPtu l r with
        eth := r.eth.set e { r.eth[e] with queue := [], sending := some f }, out := r.out ++ [.eth e f] })) ∧
    ((s.eth[e]).sending.isSome = true → Leads (.ethFrameLaunch e) s fun t => (t.eth[e]).queue = [] ∧ (t.eth[e]).sending = (s.eth[e]).sending ∧
      (t.eth[e]).count[6] = inc32 (s.eth[e]).count[6])) ∧
  (∀ (s : State) (e : Fin 2) (f : EthFrame), (s.eth[e]).queue = [] → (s.eth[e]).sending = some f → Leads (.ethFrameSent e) s fun t =>
    (t.eth[e]).sending = none ∧ (t.eth[e]).count[0] = inc32 (s.eth[e]).count[0] ∧
    (t.eth[e]).count[9] = (if f.queue = 7 then inc32 (s.eth[e]).count[9] else (s.eth[e]).count[9]) ∧ t.nv = s.nv ∧ t.out = s.out ∧
    (∀ c id, f.peerOf = some (c, id) → (s.eth[e]).ts.length < 16 →
      (t.eth[e]).ts = (s.eth[e]).ts ++ [{ id := id, correction := txCorrection (s.eth[e]).speed, time := f.launch.getD s.clk.ptu }])) ∧
  (∀ (s : State) (e : Fin 2) (speed : EthSpeed), (s.eth[e]).link = false → (s.nv.ethCfg[e]).enabled = true → (s.eth[e]).queue = [] →
    ((s.nv.ethCfg[e]).speed = 0 ∨ (s.nv.ethCfg[e]).speed = ethSpeedCode speed →
      LeadsTo (.ethLinkUp e speed) s { s.toRc8 with eth := s.eth.set e { s.eth[e] with link := true, speed := ethSpeedCode speed } }) ∧
    ((s.nv.ethCfg[e]).speed ≠ 0 → (s.nv.ethCfg[e]).speed ≠ ethSpeedCode speed → exec (.ethLinkUp e speed) s = .next s)) ∧
  (∀ (s : State) (e : Fin 2), (s.eth[e]).link = true → LeadsTo (.ethLinkDown e) s
    { s.toRc8 with eth := s.eth.set e { s.eth[e] with link := false, speed := 0, sending := none, count := (s.eth[e]).count.set 10 (inc32 (s.eth[e]).count[10]) } }) ∧
  (∀ (s : State) (e : Fin 2) (ch : Fin 16) (x : Milestone), dueEntry 11 (256 * e.val + ch.val) s.toRc8 = some x → holdsToken s.toRc8 = true →
    peerUses s.nv.peerCfg[ch] 1 = true → (s.nv.peerCfg[ch]).port = e.val → txFull s.eth[e] (s.nv.peerCfg[ch]).pcp = false → Leads (.ethLaunch e ch) s fun t =>
      (t.peers[ch]).sent = ((s.peers[ch]).sent + 1) % 2 ^ 32 ∧ (t.peers[ch]).fresh = false ∧ (t.peers[ch]).tx = (s.peers[ch]).tx ∧ t.run = s.run) ∧
  (∀ (s : State) (ch : Fin 16), peerUses s.nv.peerCfg[ch] 2 = true → (s.peers[ch]).st = 1 →
    ((s.peers[ch]).rxRound + (s.nv.peerCfg[ch]).loss ≤ s.rnd.round →
      LeadsTo (.peerLost ch) s { s.toRc8 with peers := s.peers.set ch { s.peers[ch] with st := 2, lostAt := s.rnd.round } }) ∧
    (s.rnd.round < (s.peers[ch]).rxRound + (s.nv.peerCfg[ch]).loss → exec (.peerLost ch) s = .next s)) ∧
  (∀ (s : State) (i : Fin 8) (e : Fin 2) (ch : Fin 16) (data : List Byte), executes i s.toRc8 = true →
    isStandby s.toRc8 = false → s.pair.partner.present = false →
    ((s.eth[e]).tsOver = false → exec (.tsRead i e) s = .next (s.after fun r => { r with
      eth := r.eth.set e { r.eth[e] with ts := (r.eth[e]).ts.drop 1, tsOver := false, tsDropped := 0 },
      out := r.out ++ [.serviceStatus i .done (le 4 0 ++ le 4 (r.eth[e]).tsDropped ++ ((r.eth[e]).ts.take 1).flatMap TsEntry.bytes)] })) ∧
    ((s.nv.peerCfg[ch]).port = e.val → txFull s.eth[e] (s.nv.peerCfg[ch]).pcp = false → exec (.peerWrite i ch data) s = .next (s.after fun r => { r with
      peers := r.peers.set ch { r.peers[ch] with tx := data, fresh := true }, out := r.out ++ [.serviceStatus i .done []] })) ∧
    ((s.nv.peerCfg[ch]).port = e.val → txFull s.eth[e] (s.nv.peerCfg[ch]).pcp = true → exec (.peerWrite i ch data) s = .next (s.after fun r =>
      { ethCount e 8 r with out := r.out ++ [.serviceStatus i .noSpace []] })) ∧
    (∃ d : List Byte, d.drop 20 = (s.peers[ch]).rx ∧ exec (.peerRead i ch) s = .next (s.after fun r => { r with out := r.out ++ [.serviceStatus i .done d] })))

/-- CAN transmission: the pending object that wins arbitration is selected; a sent frame leaves its object SENT and goes
out, a lost attempt FAILED in one-shot mode and PENDING else; bus-off fails the one-shot objects and holds the others,
recovery returns every held object at once; a stop object repeats; receive errors count and set the error state (R455 to
R460, R465). -/
def Obligations.CanTransmission : Prop :=
  (∀ (x : CanPort) (y : Int × TxObj), canWinner x = some y → y ∈ canObjects x ∧ y.2.st = .pending ∧
    ∀ z ∈ canObjects x, z.2.st = .pending → arbitration y.2 ≤ arbitration z.2) ∧
  (∀ (s : State) (c : Fin 4) (y : Int × TxObj), canSends c s.toRc8 = true → canSelected s.can[c] = none → dmaStopped 9 s.toRc8 = false →
    (canWinner s.can[c] = some y → Leads (.canSelection c) s fun t => t.can = s.can.set c ((s.can[c]).modObj y.1 fun o => { o with st := .selected }) ∧ t.run = s.run) ∧
    (canWinner s.can[c] = none → exec (.canSelection c) s = .next s)) ∧
  (∀ (s : State) (c : Fin 4) (j : Fin 64) (o : TxObj) (ns : Nat), canSends c s.toRc8 = true → canSelected s.can[c] = some ((j.val : Int), o) →
    (Leads (.canAttemptEnd c .sent ns) s fun t => ((t.can[c]).tx[j]).st = .sent ∧ (t.can[c]).sentCount = inc32 (s.can[c]).sentCount ∧ (t.can[c]).tec = (s.can[c]).tec - 1 ∧
      ∃ l, t.out = s.out ++ .can c (j.val : Int) (o.id + if o.ext then 2 ^ 31 else 0) o.dlc (o.data.take (dlcBytes o.fd o.dlc)) :: l) ∧
    (o.oneShot = true → Leads (.canAttemptEnd c .lost ns) s fun t => ((t.can[c]).tx[j]).st = .failed ∧ (t.can[c]).failures = inc32 (s.can[c]).failures) ∧
    (o.oneShot = false → Leads (.canAttemptEnd c .lost ns) s fun t => ((t.can[c]).tx[j]).st = .pending ∧ (t.can[c]).failures = (s.can[c]).failures)) ∧
  (∀ (s : State) (c : Fin 4) (o : TxObj) (ns : Nat), canSends c s.toRc8 = true → canSelected s.can[c] = some (-2, o) → (s.can[c]).stopNext = none →
    Leads (.canAttemptEnd c .sent ns) s fun t => (t.can[c]).stop.st = (if (s.can[c]).stopLeft = 0 then .sent else .pending) ∧
      (t.can[c]).stopLeft = (s.can[c]).stopLeft - 1) ∧
  (∀ (s : State) (c : Fin 4), 256 ≤ (s.can[c]).tec → (s.can[c]).err ≠ .busOff → (s.can[c]).err ≠ .recovering → Leads (.canBusOff c) s fun t =>
    (t.can[c]).err = (if bitAt (s.nv.canCfg[c]).flags 4 then .recovering else .busOff) ∧ (t.can[c]).busOffs = inc32 (s.can[c]).busOffs ∧
    (∀ j : Fin 64, ((t.can[c]).tx[j]).st = (if ((s.can[c]).tx[j]).st = .pending ∨ ((s.can[c]).tx[j]).st = .selected then
      (if ((s.can[c]).tx[j]).oneShot then .failed else .held) else ((s.can[c]).tx[j]).st)) ∧ ∀ d : Fin 4, d ≠ c → t.can[d] = s.can[d]) ∧
  (∀ (s : State) (c : Fin 4), (s.can[c]).tec < 256 → exec (.canBusOff c) s = .next s) ∧
  (∀ (s : State) (c : Fin 4), (s.can[c]).err = .recovering → Leads (.canRecovered c) s fun t =>
    t.can = s.can.set c { (s.can[c]).mapObj (fun o => if o.st = .held then { o with st := .pending } else o) with err := .active, tec := 0, rec_ := 0 } ∧
    t.nv.canCfg = s.nv.canCfg ∧ t.run = s.run) ∧
  (∀ (s : State) (c : Fin 4) (eight : Bool), canSends c s.toRc8 = true → Leads (.canReceiveError c eight) s fun t =>
    (t.can[c]).rec_ = min 255 ((s.can[c]).rec_ + if eight then 8 else 1) ∧ (t.can[c]).tec = (s.can[c]).tec ∧
    (t.can[c]).err = (if 127 < (t.can[c]).tec ∨ 127 < (t.can[c]).rec_ then .passive else .active)) ∧
  (∀ (s : State) (c : Fin 4) (eight : Bool), canSends c s.toRc8 = false → exec (.canReceiveError c eight) s = .next s)

/-- CAN reception and the time reference: a received frame goes to the object of its identifier, which becomes new, marks a
frame it lost and takes its next even generation, or is discarded; a reference message is loaded with its next sequence,
or waits for the one in progress and counts as skipped (R450 to R454, R461). The CAN commands on a module without a
partner: a write makes a free object PENDING with the request's frame, a cancel takes a PENDING or HELD one and comes
too late for a SELECTED one, RECOVER starts the recovery, and a stop takes the next sequence of each port named and
loads its stop object, or waits for the stop frame on the bus (R456, R459, R464, R470, R471, R474, R475). -/
def Obligations.CanReceptionAndCommands : Prop :=
  ((∀ (s : State) (c : Fin 4) (f : CanRx), f.id < (if f.ext then 2 ^ 29 else 2048) → bitAt (s.nv.canCfg[c]).flags 0 = true → s.pwr.domains.getLsbD 9 = true →
    (s.can[c]).err ≠ .busOff → (s.can[c]).err ≠ .recovering → dmaStopped 9 s.toRc8 = false →
    (rxObjectOf s.nv.canRx[c] f.ext f.id = none → Leads (.canFrameReceived c f) s fun t => (t.can[c]).discarded = inc32 (s.can[c]).discarded ∧
      (t.can[c]).received = inc32 (s.can[c]).received ∧ (t.can[c]).rx = (s.can[c]).rx) ∧
    (∀ n, rxObjectOf s.nv.canRx[c] f.ext f.id = some n → Leads (.canFrameReceived c f) s fun t => (t.can[c]).received = inc32 (s.can[c]).received ∧
      (rxObj t.can[c] n).isNew = true ∧ (rxObj t.can[c] n).id = f.id ∧ (rxObj t.can[c] n).ext = f.ext ∧
      (rxObj t.can[c] n).lost = ((rxObj s.can[c] n).lost || (rxObj s.can[c] n).isNew) ∧
      (rxObj t.can[c] n).generation = ((rxObj s.can[c] n).generation + 2) % 65536 ∧ (rxObj t.can[c] n).time = s.clk.ptu - f.sinceStart * fracPerNs ∧
      (f.rtr = false → (rxObj t.can[c] n).data = padTo 64 (f.data.take (dlcBytes f.fd f.dlc.val))) ∧
      ∀ k, k ≠ n → rxObj t.can[c] k = rxObj s.can[c] k)) ∧
  (∀ (s : State) (c : Fin 4) (x : Milestone), dueEntry 10 c.val s.toRc8 = some x → holdsToken s.toRc8 = true → bitAt (s.nv.canCfg[c]).flags 0 = true →
    (s.nv.canCfg[c]).ref ≠ 0 → Leads (.canReference c) s fun t => (t.can[c]).refSeq = ((s.can[c]).refSeq + 1) % 2 ^ 32 ∧ (t.can[c]).tx = (s.can[c]).tx ∧
      ((s.can[c]).ref.st ≠ .pending ∧ (s.can[c]).ref.st ≠ .selected ∧ (s.can[c]).ref.st ≠ .held →
        (t.can[c]).ref.st = .pending ∧ (t.can[c]).refNow = (t.can[c]).refSeq ∧ (t.can[c]).refSkipped = (s.can[c]).refSkipped) ∧
      ((s.can[c]).ref.st = .pending ∨ (s.can[c]).ref.st = .selected ∨ (s.can[c]).ref.st = .held →
        (t.can[c]).ref = (s.can[c]).ref ∧ (t.can[c]).refNext = some (t.can[c]).refSeq ∧ (t.can[c]).refSkipped = inc32 (s.can[c]).refSkipped))) ∧
  (∀ (s : State) (p : Fin 4) (m : Fin 8) (e : Exec), s.pair.partner.present = false →
    (∀ (c : Fin 4) (j : Fin 64), findChecked s.toRc8 0x0B05 p m = some e → u8At e.req 0 = c.val → u8At e.req 1 = j.val →
      (((s.can[c]).tx[j]).st ≠ .pending → ((s.can[c]).tx[j]).st ≠ .selected → ((s.can[c]).tx[j]).st ≠ .held →
        exec (.canTxWrite p m) s = .next (s.after fun r => { r with
          can := r.can.set c { r.can[c] with tx := (r.can[c]).tx.set j (txObjOf e.req) }, execs := r.marked e.id (.ended .done []) })) ∧
      (((s.can[c]).tx[j]).st = .pending ∨ ((s.can[c]).tx[j]).st = .selected ∨ ((s.can[c]).tx[j]).st = .held →
        exec (.canTxWrite p m) s = .next (s.after (endWith e.id .busy)))) ∧
    (∀ (c : Fin 4) (j : Fin 64), findChecked s.toRc8 0x0B06 p m = some e → u8At e.req 0 = c.val → u8At e.req 1 = j.val →
      (((s.can[c]).tx[j]).st = .pending ∨ ((s.can[c]).tx[j]).st = .held → exec (.canTxCancel p m) s = .next (s.after fun r => { r with
        can := r.can.set c { r.can[c] with tx := (r.can[c]).tx.set j { (r.can[c]).tx[j] with st := .cancelled } }, execs := r.marked e.id (.ended .done [5, 0, 0, 0]) })) ∧
      (((s.can[c]).tx[j]).st = .selected → exec (.canTxCancel p m) s = .next (s.after (endWith e.id .tooLate))) ∧
      (((s.can[c]).tx[j]).st ∈ [TxSt.empty, .sent, .failed, .cancelled] → exec (.canTxCancel p m) s = .next (s.after (endWith e.id .wrongState)))) ∧
    (∀ c : Fin 4, findChecked s.toRc8 0x0B08 p m = some e → u8At e.req 0 = c.val → exec (.canRecover p m) s = .next (s.after fun r => { r with
      can := r.can.set c { r.can[c] with err := .recovering, byCommand := true }, execs := r.marked e.id (.ended .done []) })) ∧
    (findChecked s.toRc8 0x0B09 p m = some e → Leads (.canStop p m) s fun t => ∀ d : Fin 4,
      (bitAt (u8At e.req 0) d.val = false → t.can[d] = s.can[d]) ∧
      (bitAt (u8At e.req 0) d.val = true → (t.can[d]).stopSeq = ((s.can[d]).stopSeq + 1) % 65536 ∧ (t.can[d]).tx = (s.can[d]).tx ∧
        ((s.can[d]).stop.st ≠ .selected → (t.can[d]).stop.st = .pending ∧ (t.can[d]).stop.id = 0 ∧ (t.can[d]).stopLeft = (s.nv.canCfg[d]).repeats - 1) ∧
        ((s.can[d]).stop.st = .selected → (t.can[d]).stop = (s.can[d]).stop ∧ (t.can[d]).stopNext.isSome = true))))

/-! ### The field front -/

/-- LATCH applies the set read for it and drives every output pin the module may drive and that is not in thermal shutdown;
SAMPLE latches the readbacks and clears the change counts; outputs go off after two rounds without a set, 100 µs after
the LATCH of a handover round, and on a lost lease (R477, R482, R484; 04 R133; 11 R364). Pins and supplies: a filtered
change toggles and counts; a short, a thermal shutdown and an open load set their fault bit on the outputs the rules
name and nothing elsewhere; a pin that has cooled restarts or, latched, waits to be cleared; a supply takes the state of
its voltage; FFE_DIO_RESET clears the pins of its mask at the next boundary (R479, R481, R483, R501). -/
def Obligations.FieldPinsAndRound : Prop :=
  ((∀ (s : State) (e : Milestone) (set : List Byte), dueEntry 1 0 s.toRc8 = some e → latchSet s.toRc8 = some set →
    wordOf set 8 &&& ~~~(wordOf s.ffe.applied 8) = 0 → s.ffe.from_ ≤ s.rnd.round → Leads .latch s fun t =>
      t.ffe.applied = set ∧ t.ffe.fresh = false ∧ t.ffe.missed = 0 ∧ t.run = s.run ∧ t.clk = s.clk.toPtu (roundStart s.toRc8 + e.off * fracPerNs) ∧
      ∀ i : Fin 32, (isOutput i s.toRc8 = false → t.ffe.pins[i] = s.ffe.pins[i]) ∧
        (isOutput i s.toRc8 = true → (t.ffe.pins[i]).on = (drivesPins s.toRc8 && (wordOf set 0).getLsbD i.val && !(s.ffe.pins[i]).fault.getLsbD 1))) ∧
  (∀ (s : State) (e : Milestone) (x : FieldSample), dueEntry 2 0 s.toRc8 = some e → Leads (.samplePoint x) s fun t =>
    t.ffe.readback = x.on ∧ t.ffe.sampled = s.rnd.round ∧ t.saf.readP = x.pClosed ∧ t.saf.readM = x.mClosed ∧ t.ffe.inputs = inputWord s.toRc8 ∧
    ∀ i : Fin 32, (t.ffe.pins[i]).changes = 0 ∧ (t.ffe.pins[i]).on = (s.ffe.pins[i]).on) ∧
  (∀ s : State, (2 ≤ s.ffe.missed → Leads .dioOutputTimeout s fun t => (∀ i : Fin 32, (t.ffe.pins[i]).on = false) ∧ t.saf = s.saf ∧ t.nv = s.nv ∧ t.run = s.run) ∧
    (s.ffe.missed < 2 → exec .dioOutputTimeout s = .next s)) ∧
  (∀ (s : State) (t0 : Nat), s.ffe.offAt = some t0 → Leads .handoverOutputsOff s fun t => (∀ i : Fin 32, (t.ffe.pins[i]).on = false) ∧
    (∀ c : Fin 2, (t.saf.ch[c]).closed = 0) ∧ t.ffe.offAt = none ∧ t0 ≤ t.clk.refosc ∧ t.nv = s.nv) ∧
  (∀ (s : State) (n : Fin 2), Leads (.leasePulseLoss n) s fun t => (t.net[n]).guard.lease = false ∧ (t.net[n]).state = (s.net[n]).state ∧ t.saf = s.saf ∧
    (s.ffe.offAt = none → ∀ i : Fin 32, (t.ffe.pins[i]).on = false) ∧ (s.ffe.offAt.isSome = true → t.ffe = s.ffe))) ∧
  ((∀ (s : State) (i : Fin 32),
    ((s.nv.pinCfg[i]).mode = 0 → exec (.dioFilteredChange i) s = .next s) ∧
    ((s.nv.pinCfg[i]).mode ≠ 0 → Leads (.dioFilteredChange i) s fun t => (t.ffe.pins[i]).filtered = !(s.ffe.pins[i]).filtered ∧
      (t.ffe.pins[i]).changes = (s.ffe.pins[i]).changes + 1 ∧ (t.ffe.pins[i]).on = (s.ffe.pins[i]).on ∧ (∀ k : Fin 32, k ≠ i → t.ffe.pins[k] = s.ffe.pins[k]) ∧
      t.out = s.out ∧ t.nv = s.nv) ∧
    (isOutput i s.toRc8 = false → exec (.dioShort i) s = .next s ∧ exec (.dioThermal i) s = .next s ∧ exec (.dioOpenLoad i) s = .next s) ∧
    (isOutput i s.toRc8 = true → (s.ffe.pins[i]).on = true → supplyMissing i s.toRc8 = false →
      LeadsTo (.dioShort i) s { s.toRc8 with ffe := { s.ffe with pins := s.ffe.pins.set i { s.ffe.pins[i] with fault := (s.ffe.pins[i]).fault ||| 1 } } } ∧
      Leads (.dioThermal i) s fun t => (t.ffe.pins[i]).on = false ∧ (t.ffe.pins[i]).fault.getLsbD 1 = true ∧
        (t.ffe.pins[i]).fault.getLsbD 4 = ((s.ffe.pins[i]).fault.getLsbD 4 || bitAt (s.nv.pinCfg[i]).flags 0)) ∧
    (isOutput i s.toRc8 = true → (s.ffe.pins[i]).on = false → bitAt (s.nv.pinCfg[i]).flags 1 = true → (s.ffe.pins[i]).switched + 1000000 ≤ s.clk.refosc →
      holdsToken s.toRc8 = true → supplyMissing i s.toRc8 = false →
      LeadsTo (.dioOpenLoad i) s { s.toRc8 with ffe := { s.ffe with pins := s.ffe.pins.set i { s.ffe.pins[i] with fault := (s.ffe.pins[i]).fault ||| 4 } } }) ∧
    ((s.ffe.pins[i]).fault.getLsbD 1 = false → exec (.dioThermalRestart i) s = .next s) ∧
    ((s.ffe.pins[i]).fault.getLsbD 1 = true → (s.ffe.pins[i]).fault.getLsbD 4 = true → Leads (.dioThermalRestart i) s fun t =>
      t.ffe = { s.ffe with pins := s.ffe.pins.set i { s.ffe.pins[i] with cooled := true } } ∧ t.nv = s.nv) ∧
    ((s.ffe.pins[i]).fault.getLsbD 1 = true → (s.ffe.pins[i]).fault.getLsbD 4 = false → Leads (.dioThermalRestart i) s fun t =>
      (t.ffe.pins[i]).fault.getLsbD 1 = false ∧ (s.ffe.dark = true ∨ isOutput i s.toRc8 = false → (t.ffe.pins[i]).on = (s.ffe.pins[i]).on) ∧
      (isOutput i s.toRc8 = true → s.ffe.dark = false → (t.ffe.pins[i]).on = (drivesPins s.toRc8 && (wordOf s.ffe.applied 0).getLsbD i.val))) ∧
    (∀ o : Bool, Leads (.dioFaultConditionEnds i o) s fun t =>
      t.ffe = { s.ffe with pins := s.ffe.pins.set i { s.ffe.pins[i] with fault := (s.ffe.pins[i]).fault &&& (if o then 0x1B else 0x1E) } } ∧ t.nv = s.nv)) ∧
  (∀ (s : State) (f : Fin 2) (v : Nat), v < 65536 →
    LeadsTo (.fieldSupplyChanged f v) s { s.toRc8 with ffe := { s.ffe with supply := s.ffe.supply.set f (supplyState (s.ffe.supply[f]).1 v, v) } } ∧
    (v < 1000 → supplyState (s.ffe.supply[f]).1 v = .missing) ∧ (1850 ≤ v → supplyState (s.ffe.supply[f]).1 v = .ok)) ∧
  (∀ (s : State) (p : Fin 4) (m : Fin 8) (e : Exec), findChecked s.toRc8 0x0C05 p m = some e → s.pair.partner.present = false →
    exec (.ffeDioReset p m) s = .next (s.after fun r => { r with
      pair := { r.pair with pend := r.pair.pend ++ [PendOp.own (r.rnd.round + 1) (.command e.code e.req) (some e.id) [] true] }, execs := r.marked e.id .waiting })) ∧
  (∀ (s : Rc8) (r : List Byte) (w n id : Nat), w ≠ 0 → w ≤ n → s.pair.pend = [PendOp.own w (.command 0x0C05 r) (some id) [] true] →
    (applyDue n s).execs = s.marked id (.ended .done []) ∧
    ∀ i : Fin 32, (applyDue n s).ffe.pins[i] = if (wordOf r 0).getLsbD i.val then clearPin s.ffe.pins[i] else s.ffe.pins[i]))

/-- The current loops: a conversion of a configured channel is trimmed, judged and kept; a passive limiter that acts for 50
ms releases the hold, which is retried after 10 s; the settling time ends (R488 to R493). Trim mode and the trims: SEL
enters, steps and leaves it, a long SET starts a capture, the mean of 64 conversions gives the zero or the span or is
refused, 120 s without a press end it, and FFE_LOOP_TRIM writes, clears or reads a channel's trims, not while trim mode
runs (R493 to R495, R500). -/
def Obligations.LoopsAndTrims : Prop :=
  (∀ (s : State) (c : Fin 8),
    (∀ x, (s.nv.loopCfg[c]).mode = 0 → exec (.loopConversion c x) s = .next s) ∧
    (∀ x, (s.nv.loopCfg[c]).mode ≠ 0 → s.pwr.domains.getLsbD 11 = true → Leads (.loopConversion c x) s fun t =>
      (t.ffe.loops[c]).current = trimmed s.nv.trims[c] x.current ∧ (t.ffe.loops[c]).convAt = s.clk.ptu ∧
      (t.ffe.loops[c]).status = loopStatus (t.ffe.loops[c]).over_ (t.ffe.loops[c]).current ∧
      (headroom2000 s.nv.loopCfg[c] x (t.ffe.loops[c]).current < 2000000 → (t.ffe.loops[c]).compliance = true) ∧
      (2400000 ≤ headroom2000 s.nv.loopCfg[c] x (t.ffe.loops[c]).current → (t.ffe.loops[c]).compliance = false) ∧
      (2000000 ≤ headroom2000 s.nv.loopCfg[c] x (t.ffe.loops[c]).current → headroom2000 s.nv.loopCfg[c] x (t.ffe.loops[c]).current < 2400000 →
        (t.ffe.loops[c]).compliance = (s.ffe.loops[c]).compliance) ∧
      (t.ffe.loops[c]).hold = (s.ffe.loops[c]).hold ∧ t.ffe.pins = s.ffe.pins ∧ ∀ d : Fin 8, d ≠ c → t.ffe.loops[d] = s.ffe.loops[d]) ∧
    (∀ t0, (s.ffe.loops[c]).limitFrom = some t0 → (s.nv.loopCfg[c]).mode = 1 → (s.ffe.loops[c]).hold = true → Leads (.loopOvercurrentRelease c) s fun t =>
      (t.ffe.loops[c]).hold = false ∧ (t.ffe.loops[c]).over_ = true ∧ (t.ffe.loops[c]).retryAt = some (t.clk.refosc + 10000000000) ∧
      (t.ffe.loops[c]).limitFrom = none ∧ t0 + 50000000 ≤ t.clk.refosc) ∧
    (∀ t0, (s.ffe.loops[c]).retryAt = some t0 → s.itg.test = false → Leads (.loopHoldRetry c) s fun t =>
      (t.ffe.loops[c]).hold = (loopUsed c s.toRc8 && s.pwr.domains.getLsbD 11) ∧ (t.ffe.loops[c]).retryAt = none ∧ t0 ≤ t.clk.refosc) ∧
    (∀ t0, (s.ffe.loops[c]).settleEnd = some t0 → Leads (.loopSettlingEnd c) s fun t =>
      t.ffe = { s.ffe with loops := s.ffe.loops.set c { s.ffe.loops[c] with settleEnd := none } } ∧ t0 ≤ t.clk.refosc ∧ t.nv = s.nv)) ∧
  ((∀ (s : State) (ms : Nat), (s.execs.any fun e => e.code == 0x0C04) = false →
    (∀ c l, s.ffe.trim = none → 3000 ≤ ms → usedLoops s.toRc8 = c :: l → s.run.key = .stop →
      LeadsTo (.selButton ms) s { s.toRc8 with ffe := { s.ffe with trim := some (zeroStep c s.clk.refosc) } }) ∧
    (∀ x, s.ffe.trim = some x → 3000 ≤ ms → LeadsTo (.selButton ms) s { s.toRc8 with ffe := { s.ffe with trim := none } }) ∧
    (∀ x, s.ffe.trim = some x → ms < 1000 → x.span = false → exec (.selButton ms) s = .next (s.after fun r => { r with
      ffe := { r.ffe with trim := some (zeroStep (nextLoop x.chan (usedLoops r)) r.clk.refosc) } }))) ∧
  (∀ (s : State) (ms : Nat) (x : TrimMode), s.ffe.trim = some x → x.capture = none → exec (.setButton ms) s = .next (s.after fun r => { r with
    ffe := { r.ffe with trim := some { x with press := r.clk.refosc, capture := if 2000 ≤ ms then some [] else none } } })) ∧
  (∀ (s : State) (x : TrimMode) (l : List Int) (c : Fin 8), s.ffe.trim = some x → x.capture = some l → x.chan = c.val → 64 ≤ l.length →
    (x.span = false → 64 * 7000 ≤ l.sum → l.sum ≤ 64 * 9000 → exec .trimCaptureDone s = .next (s.after fun r => { r with
      ffe := { r.ffe with trim := some { x with capture := none, span := true, z := roundDivAway (l.sum - 64 * 8000) 64 } } })) ∧
    (x.span = false → (l.sum < 64 * 7000 ∨ 64 * 9000 < l.sum) → LeadsTo .trimCaptureDone s
      { s.toRc8 with ffe := { s.ffe with trim := some { x with capture := none }, flashes := some (true, s.clk.refosc) } }) ∧
    (∀ k : Int, x.span = true → 64 * 38000 ≤ l.sum → l.sum ≤ 64 * 42000 → 0 < l.sum - 64 * (8000 + x.z) →
      k = roundDivAway ((64 * 32000 - (l.sum - 64 * (8000 + x.z))) * 65536) (l.sum - 64 * (8000 + x.z)).toNat → -3277 ≤ k → k ≤ 3277 →
      LeadsTo .trimCaptureDone s { s.toRc8 with nv := { s.nv with trims := s.nv.trims.set c { z := x.z, s := k, source := 2 } },
                                                ffe := { s.ffe with trim := some (zeroStep x.chan x.press), flashes := some (false, s.clk.refosc) } })) ∧
  (∀ (s : State) (x : TrimMode), s.ffe.trim = some x →
    LeadsTo .trimModeTimeout s { atRefosc (x.press + 120000000000) s.toRc8 with ffe := { s.ffe with trim := none } }) ∧
  (∀ (s : State) (p : Fin 4) (m : Fin 8) (e : Exec) (c : Fin 8), findChecked s.toRc8 0x0C04 p m = some e → u8At e.req 0 = c.val →
    (∀ b, u8At e.req 1 = 3 → exec (.ffeLoopTrim p m b) s = .next (s.after (endExec e.id .done (trimBytes s.nv.trims[c])))) ∧
    (∀ b, u8At e.req 1 ≠ 3 → s.ffe.trim.isSome = true → exec (.ffeLoopTrim p m b) s = .next (s.after (endWith e.id .busy))) ∧
    (u8At e.req 1 ≠ 3 → s.ffe.trim = none → exec (.ffeLoopTrim p m false) s = .next (s.after (endWith e.id .integrityFail))) ∧
    (∀ x : Trim, s.ffe.trim = none → (u8At e.req 1 = 1 ∧ x = { z := s16At e.req 2, s := s16At e.req 4, source := 1 }) ∨ (u8At e.req 1 = 2 ∧ x = { z := 0, s := 0, source := 1 }) →
      LeadsTo (.ffeLoopTrim p m true) s (({ s.toRc8 with nv := { s.nv with trims := s.nv.trims.set c x } } : Rc8).ended e.id .done (trimBytes x)))))

/-! ### Recorder, power, update -/

/-- The recorder: a flush puts every record kept into the log and loses none while the log has room, a failed one keeps the
buffer; a clear leaves RECORDER_CLEARED alone, with the count it emptied, and answers its sequence; one whose write
fails keeps the records not yet flushed, and of the log what is still readable (log 7) (R506 to R508, R510, R514). Feeds
and the hold-up store: a feed takes the state of its voltage; feed loss is counted and starts the flush, whose end seals
the recorder; a return is counted with its length and charges the store, which becomes ready and is measured (R518,
R522, R523, R527, R528). -/
def Obligations.RecorderAndPower : Prop :=
  ((∀ s : State, (s.nv.recLog.sealed = true ∧ s.pwr.loss = true → ∀ x, exec (.recorderFlush x) s = .next s) ∧
    (s.nv.recLog.sealed = false ∨ s.pwr.loss = false →
      (s.rcd.dropped = 0 → Leads (.recorderFlush .stored) s fun t => t.nv.recLog.log = (recAll s.toRc8).drop ((recAll s.toRc8).length - 524288) ∧
        t.rcd.waiting = 0 ∧ t.nv.recLog.sealed = false ∧ t.nv.recLog.nextSeq = s.nv.recLog.nextSeq ∧
        ((recAll s.toRc8).length ≤ 524288 → recAll t.toRc8 = recAll s.toRc8)) ∧
      (∀ x, x = .recordFailed ∨ x = .headerFailed → Leads (.recorderFlush x) s fun t => t.rcd.failing = true ∧ t.nv.recLog.log = s.nv.recLog.log))) ∧
  (∀ (s : State) (p : Fin 4) (m : Fin 8) (e : Exec), findChecked s.toRc8 0x0302 p m = some e →
    (otherWaiting s.toRc8 0x0302 e.id = true → ∀ b, exec (.recorderClear p m b) s = .next (s.after (endWith e.id .busy))) ∧
    (otherWaiting s.toRc8 0x0302 e.id = false →
      (Leads (.recorderClear p m false) s fun t => t.execs = s.marked e.id (.ended .integrityFail []) ∧ t.rcd.unflushed = s.rcd.unflushed ∧
        t.rcd.waiting = s.rcd.waiting ∧ t.nv.recLog.log.Sublist (logNow s.rcd s.nv.recLog) ∧ t.nv.recLog.nextSeq = s.nv.recLog.nextSeq ∧
        t.rcd.clears = s.rcd.clears) ∧
      Leads (.recorderClear p m true) s fun t => t.rcd.buf = [] ∧ t.rcd.waiting = 0 ∧ t.rcd.clears = inc32 s.rcd.clears ∧
        t.execs = s.marked e.id (.ended .done (le 4 s.nv.recLog.nextSeq)) ∧ t.nv.recLog.nextSeq = (s.nv.recLog.nextSeq + 1) % 2 ^ 32 ∧ t.nv.recLog.sealed = false ∧
        t.nv.recLog.log = [{ code := 0x7001, rep := 1, seq := s.nv.recLog.nextSeq, time := s.clk.ptu, lastOff := 0, p0 := p.val, p1 := (recAll s.toRc8).length }]))) ∧
  (∀ s : State,
    (∀ (f : Fin 2) (v : Nat), v < 65536 →
      LeadsTo (.feedChanged f v) s { s.toRc8 with pwr := { s.pwr with feeds := s.pwr.feeds.set f { st := feedState (s.pwr.feeds[f]).st v, volt := v } } } ∧
      (v < 1200 → feedState (s.pwr.feeds[f]).st v = .missing) ∧ (1970 ≤ v → feedState (s.pwr.feeds[f]).st v = .ok)) ∧
    (∀ store, store < 65536 → s.pwr.loss = true → exec (.feedLoss store) s = .next s) ∧
    (∀ store, store < 65536 → s.pwr.loss = false → LeadsTo (.feedLoss store) s
      { s.toRc8 with pwr := { s.pwr with loss := true, lossAt := s.clk.refosc, flushing := true, holdup := .supplying },
                     nv := { s.nv with feedLosses := inc32 s.nv.feedLosses, lastLoss := secOf s.clk.ptu } }) ∧
    (∀ w n, w ≤ n → n < 2 ^ 32 → s.pwr.flushing = true → Leads (.powerFailFlushed w n) s fun t => t.nv.recLog.sealed = true ∧ t.pwr = { s.pwr with flushing := false } ∧
      t.nv.commitWait = w ∧ t.nv.sealTime = n ∧ s.pwr.lossAt + 1000 * n ≤ t.clk.refosc ∧ t.run = s.run) ∧
    (∀ us store which, us < 2 ^ 32 → store < 65536 → s.pwr.loss = true → Leads (.feedReturn us store which) s fun t =>
      t.pwr = { s.pwr with loss := false, holdup := .charging, chargeFrom := t.clk.refosc } ∧ t.nv.lossesSurvived = inc32 s.nv.lossesSurvived ∧
      t.nv.longestLoss = max us s.nv.longestLoss ∧ s.pwr.lossAt + 1000 * us ≤ t.clk.refosc) ∧
    (∀ us store which, us < 2 ^ 32 → store < 65536 → s.pwr.loss = false → exec (.feedReturn us store which) s = .next s) ∧
    (∀ store cap ms, store < 65536 → cap < 65536 → ms < 2 ^ 32 → s.pwr.holdup = .charging → LeadsTo (.holdupReady store cap ms) s
      { atRefosc (s.pwr.chargeFrom + 1000000 * ms) s.toRc8 with pwr := { s.pwr with holdup := .ready, cap := cap, degraded := s.pwr.degraded || decide (cap < 1760) } }) ∧
    (∀ store cap, store < 65536 → cap < 65536 → s.pwr.holdup = .ready → LeadsTo (.holdupTopup store cap) s
      { s.toRc8 with pwr := { s.pwr with cap := cap, degraded := s.pwr.degraded || decide (cap < 1760) } }))

/-- Reset and start: power loss and the watchdog reset everything but what is stored, the identity and the reset cause, and
a restart that is due does so; a module that does not run starts with the key and self-test reported, and one that runs
ignores a start, as does one whose SVP is held; a reset marks a change that it meets armed on a holder, unless a schedule
has fixed its waymark (R519, R521, R524; 18 R552; 09 R283, R296). A start that reverts reads the
old-format copies (18 R544, R545; which objects have one is the model's choice, log 101). -/
def Obligations.ResetAndStart : Prop :=
  (∀ s : State, Leads .powerLost s fun t => t.pwr.powered = false ∧ t.pwr.cause = 1 ∧
    t.toRc8 = { Rc8.resetWith t.nv with ident := s.ident, out := s.out, pwr := t.pwr } ∧
    t.nv = { s.nv with armedAtReset := t.nv.armedAtReset, upd := { s.nv.upd with used := t.nv.upd.used } } ∧
    (t.nv.armedAtReset = true ↔ s.nv.armedAtReset = true ∨ (changeArmed s.toRc8 = true ∧ s.chg.fixed = false ∧ isStandby s.toRc8 = false))) ∧
  (∀ s : State, Leads .watchdogReset s fun t => t.pwr = { Power.reset with cause := 2 } ∧
    t.toRc8 = { Rc8.resetWith t.nv with ident := s.ident, out := s.out, pwr := t.pwr } ∧
    t.nv = { s.nv with watchdogs := inc32 s.nv.watchdogs, armedAtReset := t.nv.armedAtReset, upd := { s.nv.upd with used := t.nv.upd.used } }) ∧
  (∀ s : State, s.restartAt = none → exec .updateRestart s = .next s) ∧
  (∀ s : State, s.restartAt.isSome = true → Leads .updateRestart s fun t => t.restartAt = none ∧ t.svpReady = false ∧
    t.toRc8 = { Rc8.resetWith t.nv with ident := s.ident, out := s.out, pwr := { Power.reset with cause := 1 } }) ∧
  (∀ (s : State) (r : StartReport), r.migrated < 2 ^ 32 → r.oldFormat < 65536 → r.newFormat < 65536 →
    (s.svpReady = true ∨ svpRuns s.toRc8 = false → exec (.moduleStart r) s = .next s) ∧
    (s.svpReady = false → svpRuns s.toRc8 = true → Leads (.moduleStart r) s fun t => t.svpReady = true ∧ t.run.key = r.key ∧ t.run.started = true ∧
      t.pair.selfTest = r.selfTest ∧ t.pair.position = s.ident.slot ∧ t.pwr.powered = true ∧ t.nv.armedAtReset = false ∧ t.nv.pd0Mismatch = none ∧
      t.nv.pd0Violation = none ∧ t.nv.upd.revert = [] ∧ t.nv.upd.st ≠ .armed ∧ t.nv.rights = s.nv.rights) ∧
    (∀ c, s.svpReady = false → svpRuns s.toRc8 = true → s.nv.oldFormat = some c →
      (s.nv.upd.revert ≠ [] ∧ s.nv.upd.st ≠ .armed) ∨ (s.nv.upd.st = .trial ∧ 3 ≤ s.nv.upd.trial) →
      Leads (.moduleStart r) s fun t => t.nv.oldFormat = none ∧ t.nv.media = c.media ∧ t.nv.home = c.home ∧ t.nv.canCfg = c.canCfg ∧ t.nv.trims = c.trims))

/-- Delivery and verification: a session resumes or starts with nothing held, a right block is held granule by granule and a
wrong one is not, and the end verifies the bundle or refuses it by the first condition that fails (R536, R538, R539,
R549 to R551). Arming, confirmation and expiry: arming sets the window and, with restart at once, a restart in 100 ms;
disarming goes back to VERIFIED; a confirmation ends the update and never lowers a security version or the floor; an
unconfirmed trial is reverted, at once on a module that does not hold the token, after a handover on a holder with a
ready partner, and at the next start on a holder alone (R537, R540, R543, R544, R552, R553). -/
def Obligations.FirmwareUpdate : Prop :=
  (∀ (s : State) (p : Fin 4) (m : Fin 8) (e : Exec),
    (findChecked s.toRc8 0x0D01 p m = some e →
      (s.nv.upd.st = .receiving → s.nv.upd.length = u32At e.req 0 → s.nv.upd.hash = slice e.req 8 32 → exec (.updateBegin p m) s =
        .next (s.after (endExec e.id .done (le 4 s.nv.upd.session ++ le 4 (bytesHeld s.nv.upd) ++ zeros 8)))) ∧
      (s.nv.upd.st ≠ .receiving → Leads (.updateBegin p m) s fun t => t.nv.upd.st = .receiving ∧ t.nv.upd.held = [] ∧ t.nv.upd.length = u32At e.req 0 ∧
        t.nv.upd.hash = slice e.req 8 32 ∧ t.nv.upd.session ≠ 0 ∧ t.nv.upd.result = s.nv.upd.result ∧ t.nv.parts = s.nv.parts ∧
        t.execs = s.marked e.id (.ended .done (le 4 t.nv.upd.session ++ zeros 12)))) ∧
    (findChecked s.toRc8 0x0D02 p m = some e →
      (crc32c (e.req.drop 64) = u32At e.req 12 → Leads (.updateBlock p m true) s fun t => (∀ g ∈ blockGranules e, g ∈ t.nv.upd.held) ∧
        (∀ x ∈ s.nv.upd.held, (∀ g ∈ blockGranules e, g.1 ≠ x.1) → x ∈ t.nv.upd.held) ∧ t.nv = { s.nv with upd := { s.nv.upd with held := t.nv.upd.held } } ∧
        t.execs = s.marked e.id (.ended .done (le 4 (bytesHeld t.nv.upd) ++ zeros 4))) ∧
      (∀ b, crc32c (e.req.drop 64) ≠ u32At e.req 12 ∨ b = false → Leads (.updateBlock p m b) s fun t => (∀ g ∈ blockGranules e, ∀ x ∈ t.nv.upd.held, x.1 ≠ g.1) ∧
        t.nv = { s.nv with upd := { s.nv.upd with held := t.nv.upd.held } } ∧ t.execs = s.marked e.id (.ended .integrityFail []))) ∧
    (findChecked s.toRc8 0x0D03 p m = some e → Leads (.updateEnd p m) s fun t => t.nv.parts = s.nv.parts ∧
      match bundleFails (staged s.nv.upd) s.toRc8 with
      | none => t.nv.upd.st = .verified ∧ t.nv.upd.manifest = manifestOf (staged s.nv.upd) ∧ t.nv.upd.refusal = 0 ∧ t.execs = s.markedLong e.id (.ended .done [])
      | some c => t.nv.upd.result = 2 ∧ t.nv.upd.refusal = c.1 ∧ t.nv.upd.held = [] ∧
          (conditionStatus c.1 = .badField → t.nv.upd.st = .idle) ∧ (conditionStatus c.1 = .integrityFail → t.nv.upd.st = s.nv.upd.st) ∧
          t.execs = s.markedLong e.id (.ended (conditionStatus c.1) []))) ∧
  (∀ (s : State) (p : Fin 4) (m : Fin 8) (e : Exec),
    (findChecked s.toRc8 0x0D04 p m = some e →
      (u8At e.req 0 = 1 → Leads (.updateArm p m) s fun t => t.nv.upd.st = .armed ∧ t.nv.upd.window = (if u16At e.req 2 = 0 then 15 else u16At e.req 2) ∧
        t.nv.upd.held = s.nv.upd.held ∧ t.nv.parts = s.nv.parts ∧ t.execs = s.marked e.id (.ended .done []) ∧
        t.restartAt = (if bitAt (u8At e.req 1) 0 then some (s.clk.refosc + 100000000) else s.restartAt)) ∧
      (u8At e.req 0 = 2 → Leads (.updateArm p m) s fun t => t.nv.upd.st = .verified ∧ t.nv.upd.window = 0 ∧ t.nv.parts = s.nv.parts ∧ t.restartAt = s.restartAt ∧
        t.execs = s.marked e.id (.ended .done []))) ∧
    (findChecked s.toRc8 0x0D05 p m = some e → Leads (.updateConfirm p m) s fun t => t.nv.upd.st = .idle ∧ t.nv.upd.result = 1 ∧ t.trialFrom = none ∧ t.nv.oldFormat = none ∧
      t.nv.parts = s.nv.parts ∧ s.nv.floor ≤ t.nv.floor ∧ (∀ i : Fin 6, s.nv.security[i] ≤ t.nv.security[i]) ∧
      (∀ x ∈ s.nv.upd.manifest, ∀ i : Fin 6, x.part = i.val + 1 → x.image.security ≤ t.nv.security[i]) ∧ t.execs = s.marked e.id (.ended .done [])) ∧
    (∀ t0, s.trialFrom = some t0 → s.nv.upd.st = .trial →
      (holdsToken s.toRc8 = false → Leads .updateConfirmExpiry s fun t => t.nv.upd.st = .idle ∧ t.nv.upd.result = 3 ∧ t.nv.upd.revert = s.nv.upd.manifest.map (·.part) ∧
        t.svpReady = false ∧ t.trialFrom = none ∧ t.nv.parts = s.nv.parts) ∧
      (holdsToken s.toRc8 = true → partnerReady s.toRc8 = true → s.pair.hand = none → Leads .updateConfirmExpiry s fun t => t.nv.upd.st = .idle ∧
        t.nv.upd.result = 3 ∧ t.nv.upd.revert = s.nv.upd.manifest.map (·.part) ∧ t.trialFrom = none ∧ t.expiryHandover = true ∧
        (t.pair.hand.map fun h => (h.by_, h.committed)) = some (.expiry, false) ∧ t.pair.token = s.pair.token) ∧
      (holdsToken s.toRc8 = true → partnerReady s.toRc8 = false → Leads .updateConfirmExpiry s fun t => t.nv.upd.st = .idle ∧ t.nv.upd.result = 4 ∧
        t.nv.upd.revert = s.nv.upd.manifest.map (·.part) ∧ t.trialFrom = none ∧ t.run = s.run ∧ t.pair = s.pair)) ∧
    (s.nv.upd.st ≠ .trial → exec .updateConfirmExpiry s = .next s))

/-! ### The LEDs -/

/-- The LEDs: none without power, FAULT alone in TEST, every LED in the first second of a start, and after it the state that
each one shows (R562; 12 R391; 17 R518, R524); the colour of the lamp test is yellow, or green where the LED has no
yellow, and FAULT, which has neither, lights red (the model's choice, log 77). -/
def Obligations.LedMeanings : Prop :=
  (∀ s : State, Leads .powerLost s fun t => ∀ l, ledShows l t.toRc8 = .off) ∧
  (∀ s : State, s.pwr.powered = true → s.itg.test = true → ∀ l, ledShows l s.toRc8 = if l = .fault then .on .red else .off) ∧
  (∀ s : State, s.pwr.powered = true → s.itg.test = false → s.clk.refosc < 1000000000 →
    (∀ l, l = .run ∨ l = .token ∨ l = .safe → ledShows l s.toRc8 = .on .green) ∧ ledShows .fault s.toRc8 = .on .red ∧
    (∀ l, l ≠ .run → l ≠ .token → l ≠ .safe → l ≠ .fault → ledShows l s.toRc8 = .on .yellow)) ∧
  (∀ s : State, s.pwr.powered = true → s.itg.test = false → 1000000000 ≤ s.clk.refosc →
    (∀ (f : Fin 2) (v : Nat), v < 65536 → Leads (.feedChanged f v) s fun t => (v < 1200 → ledShows (.feed f) t.toRc8 = .off) ∧
      (1250 ≤ v → v < 1920 → ledShows (.feed f) t.toRc8 = .on .yellow) ∧ (1970 ≤ v → ledShows (.feed f) t.toRc8 = .on .green)) ∧
    ledShows .run s.toRc8 = (if s.svpReady = false then .flash .green 16 else if s.ffe.trim.isSome then .flash .green 8
      else if s.run.mode = .run then .on .green else if s.run.mode = .layby then .flash .green 4 else .off) ∧
    (s.pair.token = .holder → ledShows .token s.toRc8 = .on .green) ∧ (s.pair.token = .handover → ledShows .token s.toRc8 = .flash .green 16) ∧
    (s.pair.token = .standbyReady → ledShows .token s.toRc8 = .flash .green 4) ∧ (s.pair.token = .standby → ledShows .token s.toRc8 = .flash .green 1) ∧
    (s.pair.token = .unclaimed → ledShows .token s.toRc8 = .off) ∧
    (latchedGroups s.toRc8 ≠ 0 → ledShows .safe s.toRc8 = .on .red) ∧
    (latchedGroups s.toRc8 = 0 → ledShows .safe s.toRc8 = if s.saf.faults ≠ 0 then .flash .red 8 else if (activeSet s.toRc8).isSome then .on .green else .off) ∧
    ledShows .detour s.toRc8 = (if detourState s.toRc8 = 0 then .off else if detourState s.toRc8 = 1 then .flash .yellow 4
      else if detourState s.toRc8 = 2 then .on .yellow else .flash .yellow 16) ∧
    (s.ffe.flashes = none → (faultStands s.toRc8 = true → ledShows .fault s.toRc8 = .on .red) ∧
      (faultStands s.toRc8 = false → s.rcd.alarm = none → ledShows .fault s.toRc8 = .off) ∧
      (∀ t0, faultStands s.toRc8 = false → s.rcd.alarm = some t0 →
        ledShows .fault s.toRc8 = if s.clk.refosc < t0 + 60000000000 then .flash .red 4 else .off)) ∧
    (∀ n c : Fin 2, s.ffe.trim = none → (s.net[n]).state = .notConfigured ∨ (s.net[n]).state = .bypassed → ledShows (.chan n c) s.toRc8 = .off) ∧
    (s.pair.partner.present = true →
      ledShows .pair s.toRc8 = if s.pair.plk.up then (if s.pair.plk.lanes = 2 then .on .green else .flash .green 4) else .on .yellow))
end

