-- ==== Sys2Proof/Laws/Bytes.lean ====
section
/-! SUPPORT. The lengths of the byte strings that responses are made of. -/

namespace Sys2Proof.Machine

open Sys2Proof

@[simp] theorem le_length (n x : Nat) : (le n x).length = n := by
  induction n generalizing x with
  | zero => rfl
  | succ n ih => simp [le, ih]

@[simp] theorem be_length (n x : Nat) : (be n x).length = n := by simp [be]

@[simp] theorem leS_length (n : Nat) (x : Int) : (leS n x).length = n := by simp [leS]

@[simp] theorem zeros_length (n : Nat) : (zeros n).length = n := by simp [zeros]

@[simp] theorem padTo_length (n : Nat) (b : List Byte) : (padTo n b).length = n := by simp [padTo]

@[simp] theorem slice_length (b : List Byte) (i n : Nat) : (slice b i n).length = n := by simp [slice]

/-- A run of pieces of one length. -/
theorem flatMap_length_const {α β : Type} (f : α → List β) (n : Nat) (h : ∀ x, (f x).length = n) (l : List α) :
    (l.flatMap f).length = l.length * n := by
  induction l with
  | nil => simp
  | cons x l ih => simp [List.flatMap_cons, h, ih, Nat.add_mul, Nat.add_comm]

/-- The low bytes of a number, most significant ones cut, give it back below the bound. -/
theorem u8At_cons_zero (b : Byte) (l : List Byte) : u8At (b :: l) 0 = b.toNat := rfl

@[simp] theorem u8At_cons_succ (b : Byte) (l : List Byte) (i : Nat) : u8At (b :: l) (i + 1) = u8At l i := rfl

end Sys2Proof.Machine
end

