-- ==== Sys2Proof/Laws/Rights.lean ====
section
/-! SUPPORT. What leaves the host rights table alone: every operation but the one that writes it. -/

namespace Sys2Proof.Machine

open Sys2Proof

/-! ### Machine/Ops.lean -/

/-- A choice between states keeps the table where both do. -/
@[simp] theorem ite_rights (c : Prop) [Decidable c] (a b : Rc8) :
    (if c then a else b).nv.rights = if c then a.nv.rights else b.nv.rights := by split <;> rfl

/-- A fold keeps the rights table where every step does. -/
@[simp] theorem foldl_rights {α : Type} (g : Rc8 → α → Rc8) (h : ∀ s x, (g s x).nv.rights = s.nv.rights) (l : List α) (s : Rc8) :
    (l.foldl g s).nv.rights = s.nv.rights := by
  induction l generalizing s with
  | nil => rfl
  | cons x l ih => simp only [List.foldl_cons]; rw [ih, h]

@[simp] theorem domainOn_rights (d : Fin 12) (s : Rc8) : (domainOn d s).nv.rights = s.nv.rights := by first | rfl

@[simp] theorem atPtu_rights (target : Nat) (s : Rc8) : (atPtu target s).nv.rights = s.nv.rights := by first | rfl

@[simp] theorem atRefosc_rights (target : Nat) (s : Rc8) : (atRefosc target s).nv.rights = s.nv.rights := by first | rfl

@[simp] theorem recordEvent_rights (e : Ev) (s : Rc8) : (recordEvent e s).nv.rights = s.nv.rights := by first | rfl

@[simp] theorem ringEvent_rights (e : Ev) (s : Rc8) : (ringEvent e s).nv.rights = s.nv.rights := by first | rfl

@[simp] theorem raise_rights (e : Ev) (s : Rc8) : (raise e s).nv.rights = s.nv.rights := by first | rfl

@[simp] theorem raiseOwn_rights (p : Fin 4) (e : Ev) (s : Rc8) : (raiseOwn p e s).nv.rights = s.nv.rights := by first | rfl

@[simp] theorem raiseWindow_rights (window key : Nat) (place : Option (Fin 3)) (e : Ev) (s : Rc8) : (raiseWindow window key place e s).nv.rights = s.nv.rights := by simp [raiseWindow]

@[simp] theorem raiseLimited_rights (place : Option (Fin 3)) (e : Ev) (s : Rc8) : (raiseLimited place e s).nv.rights = s.nv.rights := by simp [raiseLimited]

@[simp] theorem sendVec_rights (p v : Fin 4) (s : Rc8) : (sendVec p v s).nv.rights = s.nv.rights := by simp [sendVec]

@[simp] theorem modPort_rights (p : Fin 4) (f : HostPort → HostPort) (s : Rc8) : (modPort p f s).nv.rights = s.nv.rights := by first | rfl

@[simp] theorem modMbx_rights (p : Fin 4) (m : Fin 8) (f : Mailbox → Mailbox) (s : Rc8) : (modMbx p m f s).nv.rights = s.nv.rights := by first | rfl

@[simp] theorem mailboxError_rights (p : Fin 4) (bit : Fin 9) (cause : Nat) (s : Rc8) : (mailboxError p bit cause s).nv.rights = s.nv.rights := by simp [mailboxError]

@[simp] theorem mailboxDone_rights (p : Fin 4) (m : Fin 8) (noIrq : Bool) (s : Rc8) : (mailboxDone p m noIrq s).nv.rights = s.nv.rights := by simp [mailboxDone]

@[simp] theorem mailboxReply_rights (p : Fin 4) (m : Fin 8) (st : Status) (resp : List Byte) (s : Rc8) : (mailboxReply p m st resp s).nv.rights = s.nv.rights := by first | rfl

@[simp] theorem modExec_rights (id : Nat) (f : Exec → Exec) (s : Rc8) : (modExec id f s).nv.rights = s.nv.rights := by first | rfl

@[simp] theorem endExec_rights (id : Nat) (st : Status) (resp : List Byte) (s : Rc8) : (endExec id st resp s).nv.rights = s.nv.rights := by first | rfl

@[simp] theorem endWith_rights (id : Nat) (st : Status) (s : Rc8) : (endWith id st s).nv.rights = s.nv.rights := by first | rfl

@[simp] theorem waitExec_rights (id : Nat) (s : Rc8) : (waitExec id s).nv.rights = s.nv.rights := by first | rfl

@[simp] theorem pendNow_rights (e : Exec) (s : Rc8) : (pendNow e s).nv.rights = s.nv.rights := by simp [pendNow]

@[simp] theorem runCmd_rights (code : Nat) (p : Fin 4) (m : Fin 8) (body : Exec → Rc8 → Rc8) (s : Rc8) (h_body : ∀ x0 x1, (body x0 x1).nv.rights = x1.nv.rights) : (runCmd code p m body s).nv.rights = s.nv.rights := by
  unfold runCmd; (repeat' (first | rfl | (simp [h_body]; done) | split))

@[simp] theorem answer_rights (code : Nat) (p : Fin 4) (m : Fin 8) (resp : Exec → Rc8 → List Byte) (s : Rc8) : (answer code p m resp s).nv.rights = s.nv.rights := by simp [answer]

@[simp] theorem endOpt_rights (id : Option Nat) (st : Status) (s : Rc8) : (endOpt id st s).nv.rights = s.nv.rights := by
  unfold endOpt; (repeat' (first | rfl | (simp; done) | split))

@[simp] theorem bar2Publish_rights (sec : Fin 5) (round time : Nat) (data : List Byte) (s : Rc8) : (bar2Publish sec round time data s).nv.rights = s.nv.rights := by first | rfl

/-! ### Machine/SchedOps.lean -/

@[simp] theorem modNet_rights (n : Fin 2) (f : Net → Net) (s : Rc8) : (modNet n f s).nv.rights = s.nv.rights := by first | rfl

@[simp] theorem modSch_rights (n : Fin 2) (f : Sched → Sched) (s : Rc8) : (modSch n f s).nv.rights = s.nv.rights := by first | rfl

@[simp] theorem loadMaps_rights (s : Rc8) : (loadMaps s).nv.rights = s.nv.rights := by first | rfl

@[simp] theorem atOffset_rights (off : Nat) (s : Rc8) : (atOffset off s).nv.rights = s.nv.rights := by first | rfl

@[simp] theorem lateWrite_rights (n : Fin 2) (master : Nat) (s : Rc8) : (lateWrite n master s).nv.rights = s.nv.rights := by simp [lateWrite]

@[simp] theorem tableChanged_rights (s : Rc8) : (tableChanged s).nv.rights = s.nv.rights := by first | rfl

@[simp] theorem putSchedule_rights (n : Fin 2) (id : Nat) (s : Rc8) : (putSchedule n id s).nv.rights = s.nv.rights := by
  unfold putSchedule; (repeat' (first | rfl | (simp; done) | split))

@[simp] theorem fireEntry_rights (e : Milestone) (s : Rc8) : (fireEntry e s).nv.rights = s.nv.rights := by first | rfl

@[simp] theorem atMilestone_rights (kind param : Nat) (f : Rc8 → Rc8) (s : Rc8) (h_f : ∀ x0, (f x0).nv.rights = x0.nv.rights) : (atMilestone kind param f s).nv.rights = s.nv.rights := by
  unfold atMilestone; (repeat' (first | rfl | (simp [h_f]; done) | split))

@[simp] theorem atNext_rights (kind param : Nat) (f : Nat → Rc8 → Rc8) (s : Rc8) (h_f : ∀ x0 x1, (f x0 x1).nv.rights = x1.nv.rights) : (atNext kind param f s).nv.rights = s.nv.rights := by
  unfold atNext; (repeat' (first | rfl | (simp [h_f]; done) | split))

@[simp] theorem configRefused_rights (f : PlanFail) (s : Rc8) : (configRefused f s).nv.rights = s.nv.rights := by first | rfl

@[simp] theorem updateMargins_rights (n : Fin 2) (s : Rc8) : (updateMargins n s).nv.rights = s.nv.rights := by
  unfold updateMargins; dsimp only; (repeat' (first | rfl | (simp; done) | (refine (foldl_rights _ (fun _ _ => ?_) _ _).trans ?_) | split))

@[simp] theorem runPlanCheck_rights (s : Rc8) : (runPlanCheck s).1.nv.rights = s.nv.rights := by simp [runPlanCheck]

/-! ### Machine/Learning.lean -/

@[simp] theorem putLearn_rights (a : Nat) (l : Learn) (s : Rc8) : (putLearn a l s).nv.rights = s.nv.rights := by first | rfl

@[simp] theorem modLearn_rights (a : Nat) (f : Learn → Learn) (s : Rc8) : (modLearn a f s).nv.rights = s.nv.rights := by first | rfl

@[simp] theorem learnChanged_rights (a : Nat) (old new : LearnSt) (cause : Nat) (s : Rc8) : (learnChanged a old new cause s).nv.rights = s.nv.rights := by simp [learnChanged]

@[simp] theorem learnGoto_rights (a : Nat) (new : LearnSt) (cause : Nat) (s : Rc8) : (learnGoto a new cause s).nv.rights = s.nv.rights := by simp [learnGoto]

@[simp] theorem learnControl_rights (a mode : Nat) (s : Rc8) : (learnControl a mode s).nv.rights = s.nv.rights := by simp [learnControl]

@[simp] theorem learnControls_rights (s : Rc8) : (learnControls s).nv.rights = s.nv.rights := by
  unfold learnControls
  refine foldl_rights _ (fun _ _ => ?_) _ _
  split <;> simp

@[simp] theorem tableError_rights (a point : Nat) (s : Rc8) : (tableError a point s).nv.rights = s.nv.rights := by simp [tableError]

@[simp] theorem learnUpdate_rights (a : Nat) (li : LearnIn) (epPrev ep : Rat) (s : Rc8) : (learnUpdate a li epPrev ep s).nv.rights = s.nv.rights := by simp [learnUpdate]

/-! ### Machine/PairOps.lean -/

@[simp] theorem modPair_rights (f : Pair → Pair) (s : Rc8) : (modPair f s).nv.rights = s.nv.rights := by first | rfl

@[simp] theorem plkMessage_rights (type flags : Nat) (body : PlkBody) (s : Rc8) : (plkMessage type flags body s).nv.rights = s.nv.rights := by first | rfl

@[simp] theorem plkSend_rights (type flags : Nat) (body : PlkBody) (s : Rc8) : (plkSend type flags body s).nv.rights = s.nv.rights := by simp [plkSend]

@[simp] theorem pairStore_rights (id : Nat) (op : PairOp) (round : Nat) (resp : List Byte) (late : Bool) (eff : Rc8 → Rc8) (s : Rc8) (h_eff : ∀ x0, (eff x0).nv.rights = x0.nv.rights) : (pairStore id op round resp late eff s).nv.rights = s.nv.rights := by simp [pairStore, h_eff]

@[simp] theorem pairTell_rights (id : Option Nat) (op : PairOp) (round : Nat) (resp : List Byte) (late : Bool) (s : Rc8) : (pairTell id op round resp late s).nv.rights = s.nv.rights := by simp [pairTell]

/-! ### Machine/Engine.lean -/

@[simp] theorem modEng_rights (f : Engine → Engine) (s : Rc8) : (modEng f s).nv.rights = s.nv.rights := by first | rfl

@[simp] theorem putAxis_rights (a : Nat) (x : Axis) (s : Rc8) : (putAxis a x s).nv.rights = s.nv.rights := by first | rfl

@[simp] theorem countBare_rights (s : Rc8) : (countBare s).nv.rights = s.nv.rights := by simp [countBare]

@[simp] theorem axisEvents_rights (a : Nat) (b : List Byte) (o : AxisOut) (fb : Feedback) (s : Rc8) : (axisEvents a b o fb s).nv.rights = s.nv.rights := by
  unfold axisEvents; (repeat' (first | rfl | (simp; done) | split))

@[simp] theorem engineAxis_rights (set : List Byte) (fb : List (Nat × Feedback)) (prev : List (Nat × Axis)) (a : Nat) (s : Rc8) : (engineAxis set fb prev a s).nv.rights = s.nv.rights := by
  unfold engineAxis; (repeat' (first | rfl | (simp; done) | split))

@[simp] theorem engineNone_rights (set : List Byte) (fb : List (Nat × Feedback)) (a : Nat) (s : Rc8) : (engineNone set fb a s).nv.rights = s.nv.rights := by
  unfold engineNone; (repeat' (first | rfl | (simp; done) | split))

@[simp] theorem countSlip_rights (slip : Bool) (s : Rc8) : (countSlip slip s).nv.rights = s.nv.rights := by simp [countSlip]

@[simp] theorem engineCompute_rights (set : List Byte) (s : Rc8) : (engineCompute set s).nv.rights = s.nv.rights := by
  unfold engineCompute
  extract_lets sel prev fb s1
  have h : s1.nv.rights = s.nv.rights := modEng_rights _ _
  clear_value s1
  generalize List.range 256 = l
  refine (foldl_rights _ (fun _ _ => ?_) l _).trans h
  rw [ite_rights, engineNone_rights, engineAxis_rights, ite_self]

@[simp] theorem txWrite_rights (n : Fin 2) (master win off : Nat) (b : List Byte) (s : Rc8) : (txWrite n master win off b s).nv.rights = s.nv.rights := by simp [txWrite]

@[simp] theorem writeRecord_rights (x : Nat × CmdRec) (s : Rc8) : (writeRecord x s).nv.rights = s.nv.rights := by
  unfold writeRecord; (repeat' (first | rfl | (simp; done) | split))

@[simp] theorem writeRecords_rights (l : List (Nat × CmdRec)) (s : Rc8) : (writeRecords l s).nv.rights = s.nv.rights := by simp [writeRecords]

@[simp] theorem swapBanks_rights (cause : Nat) (s : Rc8) : (swapBanks cause s).nv.rights = s.nv.rights := by first | rfl

/-! ### Machine/EngineCmd.lean -/

@[simp] theorem modBank_rights (b : Fin 2) (f : Bank → Bank) (s : Rc8) : (modBank b f s).nv.rights = s.nv.rights := by first | rfl

@[simp] theorem effParamWrite_rights (r : List Byte) (s : Rc8) : (effParamWrite r s).nv.rights = s.nv.rights := by first | rfl

@[simp] theorem paramsWritten_rights (axis port : Nat) (s : Rc8) : (paramsWritten axis port s).nv.rights = s.nv.rights := by first | rfl

@[simp] theorem ownParamWrite_rights (port : Nat) (r : List Byte) (s : Rc8) : (ownParamWrite port r s).nv.rights = s.nv.rights := by first | rfl

@[simp] theorem paramWrite_rights (stored : Bool) (e : Exec) (s : Rc8) : (paramWrite stored e s).nv.rights = s.nv.rights := by simp [paramWrite]

@[simp] theorem effBankCopy_rights (s : Rc8) : (effBankCopy s).nv.rights = s.nv.rights := by first | rfl

@[simp] theorem ownBankCopy_rights (port : Nat) (s : Rc8) : (ownBankCopy port s).nv.rights = s.nv.rights := by first | rfl

@[simp] theorem bankCopy_rights (stored : Bool) (e : Exec) (s : Rc8) : (bankCopy stored e s).nv.rights = s.nv.rights := by simp [bankCopy]

@[simp] theorem pairAt_rights (id : Nat) (op : PairOp) (round : Nat) (s : Rc8) : (pairAt id op round s).nv.rights = s.nv.rights := by simp [pairAt]

@[simp] theorem bankSwap_rights (e : Exec) (s : Rc8) : (bankSwap e s).nv.rights = s.nv.rights := by simp [bankSwap]

@[simp] theorem effBankSwap_rights (ok : Bool) (s : Rc8) : (effBankSwap ok s).nv.rights = s.nv.rights := by simp [effBankSwap]

@[simp] theorem effAxisRequest_rights (halt : Bool) (r : List Byte) (s : Rc8) : (effAxisRequest halt r s).nv.rights = s.nv.rights := by simp [effAxisRequest]

@[simp] theorem axisRequest_rights (e : Exec) (s : Rc8) : (axisRequest e s).nv.rights = s.nv.rights := by simp [axisRequest]

@[simp] theorem engineStart_rights (set : List Byte) (gen : Nat) (s : Rc8) : (engineStart set gen s).nv.rights = s.nv.rights := by simp [engineStart]

@[simp] theorem engineDone_rights (s : Rc8) : (engineDone s).nv.rights = s.nv.rights := by simp [engineDone]

@[simp] theorem selfTestDone_rights (passed : Bool) (s : Rc8) : (selfTestDone passed s).nv.rights = s.nv.rights := by simp [selfTestDone]

@[simp] theorem markRepeated_rights (s : Rc8) : (markRepeated s).nv.rights = s.nv.rights := by first | rfl

@[simp] theorem handStates_rights (s : Rc8) : (handStates s).nv.rights = s.nv.rights := by first | rfl

@[simp] theorem launchRecords_rights (s : Rc8) : (launchRecords s).nv.rights = s.nv.rights := by simp [launchRecords]

@[simp] theorem engineCommit_rights (s : Rc8) : (engineCommit s).nv.rights = s.nv.rights := by simp [engineCommit]

/-! ### Machine/LearnCmd.lean -/

@[simp] theorem learnAt_rights (e : Exec) (s : Rc8) : (learnAt e s).nv.rights = s.nv.rights := by simp [learnAt]

@[simp] theorem storeLearnCfg_rights (a : Nat) (c : LearnCfg) (s : Rc8) : (storeLearnCfg a c s).nv.rights = s.nv.rights := by first | rfl

@[simp] theorem effLearnConfigure_rights (r : List Byte) (s : Rc8) : (effLearnConfigure r s).nv.rights = s.nv.rights := by simp [effLearnConfigure]

@[simp] theorem armResample_rights (why : Nat) (exec : Option Nat) (a : Nat) (c : LearnCfg) (s : Rc8) : (armResample why exec a c s).nv.rights = s.nv.rights := by first | rfl

@[simp] theorem learnLater_rights (e : Exec) (s : Rc8) : (learnLater e s).nv.rights = s.nv.rights := by simp [learnLater]

@[simp] theorem learnConfigure_rights (e : Exec) (s : Rc8) : (learnConfigure e s).nv.rights = s.nv.rights := by simp [learnConfigure]

@[simp] theorem dueLearnConfigure_rights (exec : Option Nat) (r : List Byte) (s : Rc8) : (dueLearnConfigure exec r s).nv.rights = s.nv.rights := by simp [dueLearnConfigure]

@[simp] theorem effLearnControl_rights (r : List Byte) (s : Rc8) : (effLearnControl r s).nv.rights = s.nv.rights := by simp [effLearnControl]

@[simp] theorem tableFresh_rights (a : Nat) (entry : Nat → Bool) (s : Rc8) : (tableFresh a entry s).nv.rights = s.nv.rights := by first | rfl

@[simp] theorem effTableWrite_rights (r : List Byte) (s : Rc8) : (effTableWrite r s).nv.rights = s.nv.rights := by simp [effTableWrite]

@[simp] theorem effLearnClear_rights (r : List Byte) (s : Rc8) : (effLearnClear r s).nv.rights = s.nv.rights := by simp [effLearnClear]

@[simp] theorem learnMask_rights (e : Exec) (s : Rc8) : (learnMask e s).nv.rights = s.nv.rights := by simp [learnMask]

@[simp] theorem learnTableWrite_rights (e : Exec) (s : Rc8) : (learnTableWrite e s).nv.rights = s.nv.rights := by simp [learnTableWrite]

@[simp] theorem restoreFailed_rights (a : Nat) (s : Rc8) : (restoreFailed a s).nv.rights = s.nv.rights := by first | rfl

@[simp] theorem armRestore_rights (why : Nat) (exec : Option Nat) (a : Nat) (x : SnapSlot) (s : Rc8) : (armRestore why exec a x s).nv.rights = s.nv.rights := by first | rfl

@[simp] theorem learnRestore_rights (e : Exec) (s : Rc8) : (learnRestore e s).nv.rights = s.nv.rights := by
  unfold learnRestore; dsimp only; (repeat' (first | rfl | (simp; done) | (refine (foldl_rights _ (fun _ _ => ?_) _ _).trans ?_) | split))

@[simp] theorem dueLearnRestore_rights (exec : Option Nat) (r : List Byte) (s : Rc8) : (dueLearnRestore exec r s).nv.rights = s.nv.rights := by
  unfold dueLearnRestore
  extract_lets axes
  split
  · cases exec with
    | none => exact restoreFailed_rights _ _
    | some id => exact (endWith_rights _ _ _).trans (restoreFailed_rights _ _)
  · refine foldl_rights _ (fun _ _ => ?_) _ _
    split <;> simp

@[simp] theorem learnSnapshot_rights (e : Exec) (s : Rc8) : (learnSnapshot e s).nv.rights = s.nv.rights := by simp [learnSnapshot]

@[simp] theorem dueLearnSnapshot_rights (why : SnapFor) (r : List Byte) (s : Rc8) : (dueLearnSnapshot why r s).nv.rights = s.nv.rights := by simp [dueLearnSnapshot]

@[simp] theorem takeSnapshot_rights (a : Nat) (s : Rc8) : (takeSnapshot a s).nv.rights = s.nv.rights := by first | rfl

@[simp] theorem moveFinish_rights (exec : Option Nat) (s : Rc8) : (moveFinish exec s).nv.rights = s.nv.rights := by
  unfold moveFinish; (repeat' (first | rfl | (simp; done) | split))

@[simp] theorem snapFinish_rights (why : SnapFor) (s : Rc8) : (snapFinish why s).nv.rights = s.nv.rights := by
  unfold snapFinish; (repeat' (first | rfl | (simp; done) | split))

@[simp] theorem snapDrop_rights (why : SnapFor) (s : Rc8) : (snapDrop why s).nv.rights = s.nv.rights := by first | rfl

@[simp] theorem snapFails_rights (why : SnapFor) (s : Rc8) : (snapFails why s).nv.rights = s.nv.rights := by
  unfold snapFails; (repeat' (first | rfl | (simp; done) | split))

@[simp] theorem snapReported_rights (seq : Nat) (ok : Bool) (s : Rc8) : (snapReported seq ok s).nv.rights = s.nv.rights := by
  unfold snapReported; (repeat' (first | rfl | (simp; done) | split))

@[simp] theorem snapAlone_rights (s : Rc8) : (snapAlone s).nv.rights = s.nv.rights := by simp [snapAlone]

@[simp] theorem applyMove_rights (a : Nat) (mv : TableMove) (s0 : Rc8) : (applyMove a mv s0).nv.rights = s0.nv.rights := by simp [applyMove]

@[simp] theorem restoreAxis_rights (a : Nat) (s : Rc8) : (restoreAxis a s).nv.rights = s.nv.rights := by
  unfold restoreAxis; dsimp only; (repeat' (first | rfl | (simp; done) | (refine (foldl_rights _ (fun _ _ => ?_) _ _).trans ?_) | split))

@[simp] theorem restoreTables_rights (s : Rc8) : (restoreTables s).nv.rights = s.nv.rights := by simp [restoreTables]

@[simp] theorem moved_rights (points : Nat) (s : Rc8) : (moved points s).nv.rights = s.nv.rights := by first | rfl

@[simp] theorem tableMove_rights (a : Nat) (stored : Bool) (s : Rc8) : (tableMove a stored s).nv.rights = s.nv.rights := by
  unfold tableMove; dsimp only; (repeat' (first | rfl | (simp; done) | (refine (foldl_rights _ (fun _ _ => ?_) _ _).trans ?_) | split))

/-! ### Machine/Rounds.lean -/

@[simp] theorem storeMilestones_rights (r : List Byte) (s : Rc8) : (storeMilestones r s).nv.rights = s.nv.rights := by first | rfl

@[simp] theorem effMilestoneWrite_rights (r : List Byte) (s : Rc8) : (effMilestoneWrite r s).nv.rights = s.nv.rights := by first | rfl

@[simp] theorem milestoneWrite_rights (stored : Bool) (e : Exec) (s : Rc8) : (milestoneWrite stored e s).nv.rights = s.nv.rights := by simp [milestoneWrite]

@[simp] theorem effSetPeriod_rights (r : List Byte) (s : Rc8) : (effSetPeriod r s).nv.rights = s.nv.rights := by first | rfl

@[simp] theorem ownSetPeriod_rights (port : Nat) (r : List Byte) (s : Rc8) : (ownSetPeriod port r s).nv.rights = s.nv.rights := by first | rfl

@[simp] theorem roundSetPeriod_rights (stored : Bool) (e : Exec) (s : Rc8) : (roundSetPeriod stored e s).nv.rights = s.nv.rights := by simp [roundSetPeriod]

/-! ### Machine/Digest.lean -/

@[simp] theorem chainStep_rights (k : Fin 9) (seq : Nat) (content : List Byte) (s : Rc8) : (chainStep k seq content s).nv.rights = s.nv.rights := by simp [chainStep]

@[simp] theorem engineDigest_rights (s : Rc8) : (engineDigest s).nv.rights = s.nv.rights := by simp [engineDigest]

/-! ### Machine/Rules.lean -/

@[simp] theorem modItg_rights (f : Integrity → Integrity) (s : Rc8) : (modItg f s).nv.rights = s.nv.rights := by first | rfl

@[simp] theorem commitRules_rights (s : Rc8) : (commitRules s).nv.rights = s.nv.rights := by first | rfl

@[simp] theorem awaitRules_rights (id : Nat) (s : Rc8) : (awaitRules id s).nv.rights = s.nv.rights := by first | rfl

@[simp] theorem codeRules_rights (s : Rc8) : (codeRules s).nv.rights = s.nv.rights := by first | rfl

/-! ### Machine/LockOps.lean -/

@[simp] theorem modLs_rights (k : Fin 3) (f : LsPair → LsPair) (s : Rc8) : (modLs k f s).nv.rights = s.nv.rights := by first | rfl

@[simp] theorem suspend_rights (k : Fin 3) (cause : Nat) (s : Rc8) : (suspend k cause s).nv.rights = s.nv.rights := by
  unfold suspend; (repeat' (first | rfl | (simp; done) | split))

@[simp] theorem endSuspension_rights (k : Fin 3) (s : Rc8) : (endSuspension k s).nv.rights = s.nv.rights := by simp [endSuspension]

@[simp] theorem endTaskDebug_rights (s : Rc8) : (endTaskDebug s).nv.rights = s.nv.rights := by simp [endTaskDebug]

@[simp] theorem endDebug_rights (cause by_ : Nat) (s : Rc8) : (endDebug cause by_ s).nv.rights = s.nv.rights := by
  unfold endDebug; (repeat' (first | rfl | (simp; done) | split))

@[simp] theorem waitSession_rights (new : Option DebugSess) (arg by_ : Nat) (exec : Option Nat) (s : Rc8) : (waitSession new arg by_ exec s).nv.rights = s.nv.rights := by first | rfl

@[simp] theorem closeSession_rights (cause by_ : Nat) (exec : Option Nat) (s : Rc8) : (closeSession cause by_ exec s).nv.rights = s.nv.rights := by simp [closeSession]

/-! ### Machine/Session.lean -/

@[simp] theorem modSaf_rights (f : Safety → Safety) (s : Rc8) : (modSaf f s).nv.rights = s.nv.rights := by first | rfl

@[simp] theorem endSession_rights (p : Fin 4) (cause : Nat) (s : Rc8) : (endSession p cause s).nv.rights = s.nv.rights := by simp [endSession]

@[simp] theorem endSessions_rights (cause : Nat) (s : Rc8) : (endSessions cause s).nv.rights = s.nv.rights := by simp [endSessions]

@[simp] theorem endOtherSessions_rights (p : Fin 4) (cause : Nat) (s : Rc8) : (endOtherSessions p cause s).nv.rights = s.nv.rights := by simp [endOtherSessions]

@[simp] theorem touchSession_rights (p : Fin 4) (s : Rc8) : (touchSession p s).nv.rights = s.nv.rights := by first | rfl

@[simp] theorem safetySessionIdle_rights (p : Fin 4) (s : Rc8) : (safetySessionIdle p s).nv.rights = s.nv.rights := by
  unfold safetySessionIdle; (repeat' (first | rfl | (simp; done) | split))

/-! ### Machine/SafeSet.lean -/

@[simp] theorem copiesWritten_rights (a b : Fin 4) (s : Rc8) : (copiesWritten a b s).nv.rights = s.nv.rights := by first | rfl

@[simp] theorem copyBad_rights (k : Fin 4) (s : Rc8) : (copyBad k s).nv.rights = s.nv.rights := by first | rfl

/-! ### Machine/Program.lean -/

@[simp] theorem takeSwitch_rights (s : Rc8) : (takeSwitch s).nv.rights = s.nv.rights := by
  unfold takeSwitch; (repeat' (first | rfl | (simp; done) | split))

@[simp] theorem replayJournal_rights (s0 : Rc8) : (replayJournal s0).nv.rights = s0.nv.rights := by simp [replayJournal]

@[simp] theorem retainReplayed_rights (s : Rc8) : (retainReplayed s).nv.rights = s.nv.rights := by simp [retainReplayed]

@[simp] theorem modRun_rights (f : Runtime → Runtime) (s : Rc8) : (modRun f s).nv.rights = s.nv.rights := by first | rfl

@[simp] theorem modTask_rights (t : Fin 8) (f : Task → Task) (s : Rc8) : (modTask t f s).nv.rights = s.nv.rights := by first | rfl

@[simp] theorem publishMotion_rights (img : List Byte) (s : Rc8) : (publishMotion img s).nv.rights = s.nv.rights := by first | rfl

@[simp] theorem publishStation_rights (t : Fin 8) (img : List Byte) (s : Rc8) : (publishStation t img s).nv.rights = s.nv.rights := by first | rfl

@[simp] theorem publishStops_rights (s : Rc8) : (publishStops s).nv.rights = s.nv.rights := by
  unfold publishStops; (repeat' (first | rfl | (simp; done) | split))

@[simp] theorem loadCode_rights (s : Rc8) : (loadCode s).nv.rights = s.nv.rights := by first | rfl

@[simp] theorem secondCode_rights (b : List Byte) (s : Rc8) : (secondCode b s).nv.rights = s.nv.rights := by first | rfl

@[simp] theorem startRuntime_rights (s : Rc8) : (startRuntime s).nv.rights = s.nv.rights := by simp [startRuntime]

@[simp] theorem runRefused_rights (c : Nat × Nat) (s : Rc8) : (runRefused c s).nv.rights = s.nv.rights := by first | rfl

@[simp] theorem effProgramLoad_rights (image : List Byte) (s : Rc8) : (effProgramLoad image s).nv.rights = s.nv.rights := by first | rfl

@[simp] theorem tellPartner_rights (op : PairOp) (s : Rc8) : (tellPartner op s).nv.rights = s.nv.rights := by simp [tellPartner]

@[simp] theorem ownProgramLoad_rights (port : Nat) (image : List Byte) (s : Rc8) : (ownProgramLoad port image s).nv.rights = s.nv.rights := by first | rfl

@[simp] theorem finishProgram_rights (e : Exec) (image : List Byte) (stored : Bool) (s : Rc8) : (finishProgram e image stored s).nv.rights = s.nv.rights := by simp [finishProgram]

@[simp] theorem dropPackage_rights (s : Rc8) : (dropPackage s).nv.rights = s.nv.rights := by simp [dropPackage]

@[simp] theorem discardPackage_rights (s : Rc8) : (discardPackage s).nv.rights = s.nv.rights := by simp [discardPackage]

@[simp] theorem programLoad_rights (stored : Bool) (e : Exec) (s : Rc8) : (programLoad stored e s).nv.rights = s.nv.rights := by simp [programLoad]

@[simp] theorem awaitOpt_rights (id : Option Nat) (s : Rc8) : (awaitOpt id s).nv.rights = s.nv.rights := by
  unfold awaitOpt; (repeat' (first | rfl | (simp; done) | split))

@[simp] theorem imageDomains_rights (x : Image) (s : Rc8) : (imageDomains x s).nv.rights = s.nv.rights := by simp [imageDomains]

@[simp] theorem effActivate_rights (kind : Nat) (s : Rc8) : (effActivate kind s).nv.rights = s.nv.rights := by
  unfold effActivate; (repeat' (first | rfl | (simp; done) | split))

@[simp] theorem ownActivate_rights (kind : Nat) (s : Rc8) : (ownActivate kind s).nv.rights = s.nv.rights := by
  unfold ownActivate; (repeat' (first | rfl | (simp; done) | split))

@[simp] theorem programActivate_rights (stored : Bool) (e : Exec) (s : Rc8) : (programActivate stored e s).nv.rights = s.nv.rights := by
  unfold programActivate; (repeat' (first | rfl | (simp; done) | split))

/-! ### Machine/Mode.lean -/

@[simp] theorem requestMode_rights (target : Mode) (cause : Nat) (exec : Option Nat) (s : Rc8) : (requestMode target cause exec s).nv.rights = s.nv.rights := by simp [requestMode]

@[simp] theorem faultStop_rights (cause : Nat) (s : Rc8) : (faultStop cause s).nv.rights = s.nv.rights := by simp [faultStop]

@[simp] theorem programFault_rights (s : Rc8) : (programFault s).nv.rights = s.nv.rights := by simp [programFault]

@[simp] theorem keyMode_rights (k : Key) (s : Rc8) : (keyMode k s).nv.rights = s.nv.rights := by
  unfold keyMode; (repeat' (first | rfl | (simp; done) | split))

@[simp] theorem taskHalted_rights (t : Fin 8) (why : Nat) (s : Rc8) : (taskHalted t why s).nv.rights = s.nv.rights := by first | rfl

@[simp] theorem abortCycles_rights (s0 : Rc8) : (abortCycles s0).nv.rights = s0.nv.rights := by first | rfl

@[simp] theorem freeTasks_rights (s : Rc8) : (freeTasks s).nv.rights = s.nv.rights := by first | rfl

@[simp] theorem modeChanged_rights (new : Mode) (cause round : Nat) (s : Rc8) : (modeChanged new cause round s).nv.rights = s.nv.rights := by first | rfl

@[simp] theorem enterStop_rights (cause round : Nat) (s : Rc8) : (enterStop cause round s).nv.rights = s.nv.rights := by simp [enterStop]

@[simp] theorem reloadProgram_rights (s : Rc8) : (reloadProgram s).nv.rights = s.nv.rights := by simp [reloadProgram]

@[simp] theorem loadRetained_rights (s : Rc8) : (loadRetained s).nv.rights = s.nv.rights := by first | rfl

@[simp] theorem enterRun_rights (cause round : Nat) (s : Rc8) : (enterRun cause round s).nv.rights = s.nv.rights := by simp [enterRun]

@[simp] theorem finishLayby_rights (s : Rc8) : (finishLayby s).nv.rights = s.nv.rights := by simp [finishLayby]

@[simp] theorem enterLayby_rights (cause round : Nat) (exec : Option Nat) (s : Rc8) : (enterLayby cause round exec s).nv.rights = s.nv.rights := by
  unfold enterLayby
  dsimp only
  rw [finishLayby_rights]
  refine (foldl_rights _ (fun _ _ => ?_) _ _).trans ?_
  · split <;> simp
  · simp

@[simp] theorem applyMode_rights (target : Mode) (cause round : Nat) (exec : Option Nat) (s : Rc8) : (applyMode target cause round exec s).nv.rights = s.nv.rights := by
  unfold applyMode; (repeat' (first | rfl | (simp; done) | split))

@[simp] theorem applyModes_rights (round : Nat) (s : Rc8) : (applyModes round s).nv.rights = s.nv.rights := by
  unfold applyModes; dsimp only; (repeat' (first | rfl | (simp; done) | (refine (foldl_rights _ (fun _ _ => ?_) _ _).trans ?_) | split))

@[simp] theorem modeChangeEffect_rights (s : Rc8) : (modeChangeEffect s).nv.rights = s.nv.rights := by
  unfold modeChangeEffect; (repeat' (first | rfl | (simp; done) | split))

@[simp] theorem setMode_rights (e : Exec) (s : Rc8) : (setMode e s).nv.rights = s.nv.rights := by simp [setMode]

@[simp] theorem keyMismatch_rights (s : Rc8) : (keyMismatch s).nv.rights = s.nv.rights := by
  unfold keyMismatch; (repeat' (first | rfl | (simp; done) | split))

@[simp] theorem compareKeys_rights (s : Rc8) : (compareKeys s).nv.rights = s.nv.rights := by
  unfold compareKeys; (repeat' (first | rfl | (simp; done) | split))

/-! ### Machine/Net.lean -/

@[simp] theorem netGoto_rights (n : Fin 2) (dest : NetState) (ev : NetEv) (s : Rc8) : (netGoto n dest ev s).nv.rights = s.nv.rights := by simp [netGoto]

@[simp] theorem startListen_rights (n : Fin 2) (s : Rc8) : (startListen n s).nv.rights = s.nv.rights := by first | rfl

@[simp] theorem netEvent_rights (n : Fin 2) (ev : NetEv) (s : Rc8) : (netEvent n ev s).nv.rights = s.nv.rights := by
  unfold netEvent
  cases ev <;> cases (s.net[n]).state <;> simp <;> split <;> simp

@[simp] theorem netLease_rights (gained : Bool) (s : Rc8) : (netLease gained s).nv.rights = s.nv.rights := by simp [netLease]

@[simp] theorem modNetPort_rights (n : Fin 2) (port : Fin 4) (f : NetPort → NetPort) (s : Rc8) : (modNetPort n port f s).nv.rights = s.nv.rights := by first | rfl

@[simp] theorem setLineMode_rights (n : Fin 2) (c : Fin 2) (on : Bool) (port : Nat) (s : Rc8) : (setLineMode n c on port s).nv.rights = s.nv.rights := by simp [setLineMode]

@[simp] theorem ownSide_rights (n : Fin 2) (side : Nat) (s : Rc8) : (ownSide n side s).nv.rights = s.nv.rights := by first | rfl

@[simp] theorem portUp_rights (n : Fin 2) (port : Fin 4) (s : Rc8) : (portUp n port s).nv.rights = s.nv.rights := by simp [portUp]

@[simp] theorem portDown_rights (n : Fin 2) (port : Fin 4) (s : Rc8) : (portDown n port s).nv.rights = s.nv.rights := by simp [portDown]

@[simp] theorem reflectBoundary_rights (n : Fin 2) (s : Rc8) : (reflectBoundary n s).nv.rights = s.nv.rights := by simp [reflectBoundary]

@[simp] theorem setHold_rights (n : Fin 2) (c : Fin 2) (on : Bool) (cause by_ : Nat) (s : Rc8) : (setHold n c on cause by_ s).nv.rights = s.nv.rights := by simp [setHold]

@[simp] theorem holdFail_rights (n : Fin 2) (c : Fin 2) (by_ : Nat) (s : Rc8) : (holdFail n c by_ s).nv.rights = s.nv.rights := by simp [holdFail]

@[simp] theorem setSeq_rights (n : Fin 2) (q : Option HoldSeq) (s : Rc8) : (setSeq n q s).nv.rights = s.nv.rights := by first | rfl

@[simp] theorem startAttach_rights (n : Fin 2) (exec : Option Nat) (by_ : Nat) (s : Rc8) : (startAttach n exec by_ s).nv.rights = s.nv.rights := by simp [startAttach]

@[simp] theorem finishNets_rights (code : Nat) (settled : Net → Bool) (s : Rc8) : (finishNets code settled s).nv.rights = s.nv.rights := by simp [finishNets]

@[simp] theorem finishAttach_rights (s : Rc8) : (finishAttach s).nv.rights = s.nv.rights := by simp [finishAttach]

@[simp] theorem finishRelease_rights (s : Rc8) : (finishRelease s).nv.rights = s.nv.rights := by simp [finishRelease]

@[simp] theorem holdTimer_rights (n : Fin 2) (s : Rc8) : (holdTimer n s).nv.rights = s.nv.rights := by
  unfold holdTimer; (repeat' (first | rfl | (simp; done) | split))

@[simp] theorem startRelease_rights (n : Fin 2) (atOnce : Bool) (exec : Option Nat) (by_ : Nat) (s : Rc8) : (startRelease n atOnce exec by_ s).nv.rights = s.nv.rights := by simp [startRelease]

@[simp] theorem takeMedia_rights (s : Rc8) (n : Fin 2) : (takeMedia s n).nv.rights = s.nv.rights := by simp [takeMedia]

@[simp] theorem takeStoredSched_rights (s : Rc8) (n : Fin 2) : (takeStoredSched s n).nv.rights = s.nv.rights := by simp [takeStoredSched]

@[simp] theorem takePeriod_rights (period : Nat) (s : Rc8) : (takePeriod period s).nv.rights = s.nv.rights := by simp [takePeriod]

@[simp] theorem takeStoredConfig_rights (s : Rc8) : (takeStoredConfig s).nv.rights = s.nv.rights := by
  unfold takeStoredConfig
  rw [foldl_rights _ takeStoredSched_rights, foldl_rights _ takeMedia_rights, takePeriod_rights]

@[simp] theorem checkColdPlan_rights (s : Rc8) : (checkColdPlan s).nv.rights = s.nv.rights := by
  unfold checkColdPlan; dsimp only; (repeat' (first | rfl | (simp; done) | (refine (foldl_rights _ (fun _ _ => ?_) _ _).trans ?_) | split))

@[simp] theorem coldStart_rights (n : Fin 2) (s : Rc8) : (coldStart n s).nv.rights = s.nv.rights := by
  have ht : (if otherLive n s = true then s else takeStoredConfig s).nv.rights = s.nv.rights := by
    rw [ite_rights, takeStoredConfig_rights, ite_self]
  unfold coldStart
  extract_lets restart s1 first s2 s3
  have h1 : s1.nv.rights = s.nv.rights := ht
  have h3 : s3.nv.rights = s.nv.rights := by
    show (netGoto n .master .silence (raise _ (modNet n _ s1))).nv.rights = _
    rw [netGoto_rights, raise_rights, modNet_rights]; exact ht
  clear_value s3 s1
  split
  · rw [checkColdPlan_rights]; exact h1
  · split
    · exact h3
    · rw [checkColdPlan_rights]; exact h3

@[simp] theorem silenceMet_rights (n : Fin 2) (s : Rc8) : (silenceMet n s).nv.rights = s.nv.rights := by simp [silenceMet]

@[simp] theorem effSetMedia_rights (r : List Byte) (s : Rc8) : (effSetMedia r s).nv.rights = s.nv.rights := by simp [effSetMedia]

@[simp] theorem ownLink_rights (n : Fin 2) (port : Fin 4) (ns nbr : Nat) (s : Rc8) : (ownLink n port ns nbr s).nv.rights = s.nv.rights := by first | rfl

/-! ### Machine/Frames.lean -/

@[simp] theorem launch_rights (n : Fin 2) (open_ : Bool) (ports : List (Fin 4)) (kind : Nat) (frames : List (Nat × List Byte)) (s : Rc8) : (launch n open_ ports kind frames s).nv.rights = s.nv.rights := by simp [launch]

@[simp] theorem gatherLaunch_rights (n : Fin 2) (s : Rc8) : (gatherLaunch n s).nv.rights = s.nv.rights := by
  unfold gatherLaunch; (repeat' (first | rfl | (simp; done) | split))

@[simp] theorem commandLaunch_rights (n : Fin 2) (s : Rc8) : (commandLaunch n s).nv.rights = s.nv.rights := by
  unfold commandLaunch; (repeat' (first | rfl | (simp; done) | split))

@[simp] theorem modChan_rights (n : Fin 2) (c : Fin 2) (f : ChanCount → ChanCount) (s : Rc8) : (modChan n c f s).nv.rights = s.nv.rights := by first | rfl

@[simp] theorem countMissing_rights (n : Fin 2) (kind round : Nat) (s : Rc8) : (countMissing n kind round s).nv.rights = s.nv.rights := by first | rfl

@[simp] theorem countSilent_rights (n : Fin 2) (round : Nat) (s : Rc8) : (countSilent n round s).nv.rights = s.nv.rights := by simp [countSilent]

@[simp] theorem takeRound_rights (round off : Nat) (s : Rc8) : (takeRound round off s).nv.rights = s.nv.rights := by first | rfl

@[simp] theorem joinPeriod_rights (period : Nat) (s : Rc8) : (joinPeriod period s).nv.rights = s.nv.rights := by simp [joinPeriod]

@[simp] theorem joinRound_rights (n : Fin 2) (f : BudanCopy) (s : Rc8) : (joinRound n f s).nv.rights = s.nv.rights := by simp [joinRound]

@[simp] theorem judgeFull_rights (n : Fin 2) (f : BudanCopy) (s : Rc8) : (judgeFull n f s).nv.rights = s.nv.rights := by simp [judgeFull]

@[simp] theorem selectCopy_rights (n : Fin 2) (port : Fin 4) (f : BudanCopy) (s : Rc8) : (selectCopy n port f s).nv.rights = s.nv.rights := by simp [selectCopy]

@[simp] theorem modNode_rights (n : Fin 2) (i : Nat) (f : Node → Node) (s : Rc8) : (modNode n i f s).nv.rights = s.nv.rights := by first | rfl

@[simp] theorem commandsMissed_rights (n : Fin 2) (i : Nat) (s : Rc8) : (commandsMissed n i s).nv.rights = s.nv.rights := by simp [commandsMissed]

@[simp] theorem safeValues_rights (n : Fin 2) (i : Nat) (s : Rc8) : (safeValues n i s).nv.rights = s.nv.rights := by first | rfl

@[simp] theorem resumeWindows_rights (n : Fin 2) (target : Nat) (s : Rc8) : (resumeWindows n target s).nv.rights = s.nv.rights := by
  unfold resumeWindows; (repeat' (first | rfl | (simp; done) | split))

@[simp] theorem stopActs_rights (n : Fin 2) (cmd target : Nat) (s : Rc8) : (stopActs n cmd target s).nv.rights = s.nv.rights := by simp [stopActs]

@[simp] theorem flagMissed_rights (n : Fin 2) (i : Nat) (on : Bool) (s : Rc8) : (flagMissed n i on s).nv.rights = s.nv.rights := by
  unfold flagMissed; (repeat' (first | rfl | (simp; done) | split))

@[simp] theorem nodeReply_rights (n : Fin 2) (round : Nat) (d : List Byte) (s : Rc8) : (nodeReply n round d s).nv.rights = s.nv.rights := by simp [nodeReply]

@[simp] theorem takeSchedule_rights (n : Fin 2) (image : List Byte) (s : Rc8) : (takeSchedule n image s).nv.rights = s.nv.rights := by simp [takeSchedule]

@[simp] theorem fetchOffer_rights (n : Fin 2) (f : BudanCopy) (s : Rc8) : (fetchOffer n f s).nv.rights = s.nv.rights := by
  unfold fetchOffer; dsimp only; (repeat' (first | rfl | (simp; done) | (refine (foldl_rights _ (fun _ _ => ?_) _ _).trans ?_) | split))

@[simp] theorem adoptSchedule_rights (n : Fin 2) (f : BudanCopy) (s : Rc8) : (adoptSchedule n f s).nv.rights = s.nv.rights := by simp [adoptSchedule]

@[simp] theorem channelRestored_rights (n : Fin 2) (c : Fin 2) (s : Rc8) : (channelRestored n c s).nv.rights = s.nv.rights := by simp [channelRestored]

@[simp] theorem takeTimeError_rights (n : Fin 2) (hops : Nat) (err : Int) (s : Rc8) : (takeTimeError n hops err s).nv.rights = s.nv.rights := by
  unfold takeTimeError; (repeat' (first | rfl | (simp; done) | split))

@[simp] theorem ringShape_rights (n : Fin 2) (port : Fin 4) (f : BudanCopy) (s : Rc8) : (ringShape n port f s).nv.rights = s.nv.rights := by simp [ringShape]

@[simp] theorem driveReports_rights (n : Fin 2) (before : List (Option Chosen)) (s : Rc8) : (driveReports n before s).nv.rights = s.nv.rights := by
  unfold driveReports; dsimp only; (repeat' (first | rfl | (simp; done) | (refine (foldl_rights _ (fun _ _ => ?_) _ _).trans ?_) | split))

@[simp] theorem noteSwitch_rights (n : Fin 2) (f : BudanCopy) (s : Rc8) : (noteSwitch n f s).nv.rights = s.nv.rights := by simp [noteSwitch]

@[simp] theorem noteStop_rights (n : Fin 2) (f : BudanCopy) (s : Rc8) : (noteStop n f s).nv.rights = s.nv.rights := by simp [noteStop]

@[simp] theorem noteRequest_rights (n : Fin 2) (f : BudanCopy) (s : Rc8) : (noteRequest n f s).nv.rights = s.nv.rights := by simp [noteRequest]

@[simp] theorem replyCopy_rights (n : Fin 2) (port : Fin 4) (f : BudanCopy) (own : Bool) (s : Rc8) : (replyCopy n port f own s).nv.rights = s.nv.rights := by simp [replyCopy]

@[simp] theorem takeNumber_rights (f : BudanCopy) (n : Fin 2) (s : Rc8) : (takeNumber f n s).nv.rights = s.nv.rights := by simp [takeNumber]

@[simp] theorem notePartner_rights (n : Fin 2) (f : BudanCopy) (s : Rc8) : (notePartner n f s).nv.rights = s.nv.rights := by simp [notePartner]

@[simp] theorem acceptCopy_rights (n : Fin 2) (port : Fin 4) (f : BudanCopy) (s : Rc8) : (acceptCopy n port f s).nv.rights = s.nv.rights := by simp [acceptCopy]

@[simp] theorem repeatCopy_rights (n : Fin 2) (port : Fin 4) (f : BudanCopy) (s : Rc8) : (repeatCopy n port f s).nv.rights = s.nv.rights := by simp [repeatCopy]

@[simp] theorem copyReceived_rights (n : Fin 2) (port : Fin 4) (f : BudanCopy) (s : Rc8) : (copyReceived n port f s).nv.rights = s.nv.rights := by simp [copyReceived]

@[simp] theorem advanceWindows_rights (n : Fin 2) (round : Nat) (s : Rc8) : (advanceWindows n round s).nv.rights = s.nv.rights := by simp [advanceWindows]

@[simp] theorem nodeChannels_rights (n : Fin 2) (s : Rc8) : (nodeChannels n s).nv.rights = s.nv.rights := by
  unfold nodeChannels; (repeat' (first | rfl | (simp; done) | split))

/-! ### Machine/SchedCmd.lean -/

@[simp] theorem scheduleRefused_rights (n : Fin 2) (id cond port : Nat) (s : Rc8) : (scheduleRefused n id cond port s).nv.rights = s.nv.rights := by first | rfl

@[simp] theorem effSchedStore_rights (n : Nat) (image : List Byte) (s : Rc8) : (effSchedStore n image s).nv.rights = s.nv.rights := by first | rfl

@[simp] theorem effSchedLoad_rights (n : Fin 2) (port : Nat) (image : List Byte) (s : Rc8) : (effSchedLoad n port image s).nv.rights = s.nv.rights := by first | rfl

@[simp] theorem finishLoad_rights (e : Exec) (n : Fin 2) (image : List Byte) (stored : Bool) (s : Rc8) : (finishLoad e n image stored s).nv.rights = s.nv.rights := by
  unfold finishLoad; dsimp only; (repeat' (first | rfl | (simp; done) | (refine (foldl_rights _ (fun _ _ => ?_) _ _).trans ?_) | split))

@[simp] theorem schedLoad_rights (stored : Bool) (e : Exec) (s : Rc8) : (schedLoad stored e s).nv.rights = s.nv.rights := by
  unfold schedLoad; (repeat' (first | rfl | (simp; done) | split))

@[simp] theorem failSwitch_rights (st : Status) (cause : Nat) (s : Rc8) : (failSwitch st cause s).nv.rights = s.nv.rights := by
  unfold failSwitch
  refine foldl_rights _ (fun _ _ => ?_) _ _
  split <;> simp

@[simp] theorem tryFixSwitch_rights (s : Rc8) : (tryFixSwitch s).nv.rights = s.nv.rights := by simp [tryFixSwitch]

@[simp] theorem renewPaths_rights (n : Fin 2) (s : Rc8) : (renewPaths n s).nv.rights = s.nv.rights := by simp [renewPaths]

@[simp] theorem copySchedule_rights (n : Fin 2) (c : Schedule) (s : Rc8) : (copySchedule n c s).nv.rights = s.nv.rights := by simp [copySchedule]

@[simp] theorem schedSwitch_rights (e : Exec) (s : Rc8) : (schedSwitch e s).nv.rights = s.nv.rights := by
  unfold schedSwitch
  split
  · simp
  · dsimp only
    split
    · simp
    · rw [tryFixSwitch_rights]
      refine (foldl_rights _ (fun _ _ => ?_) _ _).trans ?_
      · split <;> simp
      · simp

@[simp] theorem switchBoundary_rights (n : Fin 2) (s : Rc8) : (switchBoundary n s).nv.rights = s.nv.rights := by
  unfold switchBoundary; (repeat' (first | rfl | (simp; done) | split))

@[simp] theorem effSchedDelete_rights (n id : Nat) (s : Rc8) : (effSchedDelete n id s).nv.rights = s.nv.rights := by first | rfl

@[simp] theorem keptSchedule_rights (n id : Nat) (s : Rc8) : (keptSchedule n id s).nv.rights = s.nv.rights := by first | rfl

@[simp] theorem schedDelete_rights (e : Exec) (s : Rc8) : (schedDelete e s).nv.rights = s.nv.rights := by simp [schedDelete]

@[simp] theorem nodeStop_rights (e : Exec) (s : Rc8) : (nodeStop e s).nv.rights = s.nv.rights := by simp [nodeStop]

/-! ### Machine/Images.lean -/

@[simp] theorem publishMotionIn_rights (img : List Byte) (s : Rc8) : (publishMotionIn img s).nv.rights = s.nv.rights := by first | rfl

@[simp] theorem publishStationIn_rights (img : List Byte) (s : Rc8) : (publishStationIn img s).nv.rights = s.nv.rights := by first | rfl

@[simp] theorem motionGather_rights (s : Rc8) : (motionGather s).nv.rights = s.nv.rights := by first | rfl

@[simp] theorem motionCommit_rights (s : Rc8) : (motionCommit s).nv.rights = s.nv.rights := by first | rfl

@[simp] theorem motionSample_rights (s : Rc8) : (motionSample s).nv.rights = s.nv.rights := by simp [motionSample]

@[simp] theorem stationGather_rights (l : List (Fin 2)) (s : Rc8) : (stationGather l s).nv.rights = s.nv.rights := by simp [stationGather]

@[simp] theorem stationOut_rights (n : Fin 2) (i : Nat) (w : Window) (s : Rc8) : (stationOut n i w s).nv.rights = s.nv.rights := by simp [stationOut]

@[simp] theorem stationCommit_rights (s : Rc8) : (stationCommit s).nv.rights = s.nv.rights := by simp [stationCommit]

/-! ### Machine/Port.lean -/

@[simp] theorem mailboxHostWrite_rights (p : Fin 4) (m : Fin 8) (off : Nat) (data : List (Option Byte)) (s : Rc8) : (mailboxHostWrite p m off data s).nv.rights = s.nv.rights := by
  unfold mailboxHostWrite; (repeat' (first | rfl | (simp; done) | split))

@[simp] theorem mailboxRangeWrite_rights (p : Fin 4) (off : Nat) (data : List (Option Byte)) (s : Rc8) : (mailboxRangeWrite p off data s).nv.rights = s.nv.rights := by
  unfold mailboxRangeWrite; dsimp only; (repeat' (first | rfl | (simp; done) | (refine (foldl_rights _ (fun _ _ => ?_) _ _).trans ?_) | split))

@[simp] theorem whileLinked_rights (p : Fin 4) (f : Rc8 → Rc8) (s : Rc8) (h_f : ∀ x0, (f x0).nv.rights = x0.nv.rights) : (whileLinked p f s).nv.rights = s.nv.rights := by simp [whileLinked, h_f]

@[simp] theorem whileUp_rights (p : Fin 4) (f : Rc8 → Rc8) (s : Rc8) (h_f : ∀ x0, (f x0).nv.rights = x0.nv.rights) : (whileUp p f s).nv.rights = s.nv.rights := by simp [whileUp, h_f]

@[simp] theorem doorbell_rights (p : Fin 4) (val : U32) (s : Rc8) : (doorbell p val s).nv.rights = s.nv.rights := by simp [doorbell]

@[simp] theorem evqTailWrite_rights (p : Fin 4) (val : U32) (s : Rc8) : (evqTailWrite p val s).nv.rights = s.nv.rights := by simp [evqTailWrite]

@[simp] theorem evqLostRead_rights (p : Fin 4) (s : Rc8) : (evqLostRead p s).nv.rights = s.nv.rights := by first | rfl

@[simp] theorem errorCountRead_rights (p : Fin 4) (s : Rc8) : (errorCountRead p s).nv.rights = s.nv.rights := by first | rfl

@[simp] theorem unmaskVector_rights (p v : Fin 4) (s : Rc8) : (unmaskVector p v s).nv.rights = s.nv.rights := by simp [unmaskVector]

@[simp] theorem msixTableWrite_rights (p : Fin 4) (o : Nat) (val : U32) (s : Rc8) : (msixTableWrite p o val s).nv.rights = s.nv.rights := by
  unfold msixTableWrite; (repeat' (first | rfl | (simp; done) | split))

@[simp] theorem portRegWrite_rights (p : Fin 4) (off : Nat) (val : U32) (s : Rc8) : (portRegWrite p off val s).nv.rights = s.nv.rights := by
  unfold portRegWrite; (repeat' (first | rfl | (simp; done) | split))

@[simp] theorem bar0Read_rights (p : Fin 4) (off width : Nat) (s : Rc8) : (bar0Read p off width s).nv.rights = s.nv.rights := by simp [bar0Read]

@[simp] theorem bar0Write_rights (p : Fin 4) (off width : Nat) (val : U32) (s : Rc8) : (bar0Write p off width val s).nv.rights = s.nv.rights := by simp [bar0Write]

@[simp] theorem portReset_rights (p : Fin 4) (link : Bool) (s : Rc8) : (portReset p link s).nv.rights = s.nv.rights := by simp [portReset]

@[simp] theorem logCompletion_rights (e : Exec) (st : Status) (s : Rc8) : (logCompletion e st s).nv.rights = s.nv.rights := by first | rfl

@[simp] theorem serviceResult_rights (t : Fin 8) (result : List Byte) (s : Rc8) : (serviceResult t result s).nv.rights = s.nv.rights := by simp [serviceResult]

@[simp] theorem deliver_rights (e : Exec) (st : Status) (resp : List Byte) (s : Rc8) : (deliver e st resp s).nv.rights = s.nv.rights := by
  unfold deliver; (repeat' (first | rfl | (simp; done) | split))

@[simp] theorem rightsComplete_rights (e : Exec) (s : Rc8) : (rightsComplete e s).nv.rights = s.nv.rights := by
  unfold rightsComplete; (repeat' (first | rfl | (simp; done) | split))

/-! ### Machine/Tasks.lean -/

@[simp] theorem tellRelease_rights (t : Fin 8) (released : Bool) (time mono : Nat) (s : Rc8) : (tellRelease t released time mono s).nv.rights = s.nv.rights := by simp [tellRelease]

@[simp] theorem skipRelease_rights (t : Fin 8) (s : Rc8) : (skipRelease t s).nv.rights = s.nv.rights := by simp [skipRelease]

@[simp] theorem beginWith_rights (t : Fin 8) (debug : Bool) (time mono : Nat) (motion station : List Byte) (s : Rc8) : (beginWith t debug time mono motion station s).nv.rights = s.nv.rights := by simp [beginWith]

@[simp] theorem beginCycle_rights (t : Fin 8) (debug : Bool) (time mono : Nat) (s : Rc8) : (beginCycle t debug time mono s).nv.rights = s.nv.rights := by simp [beginCycle]

@[simp] theorem holdRelease_rights (t : Fin 8) (time mono : Nat) (s : Rc8) : (holdRelease t time mono s).nv.rights = s.nv.rights := by first | rfl

@[simp] theorem ownRelease_rights (t : Fin 8) (time mono : Nat) (s : Rc8) : (ownRelease t time mono s).nv.rights = s.nv.rights := by
  unfold ownRelease; (repeat' (first | rfl | (simp; done) | split))

@[simp] theorem takeRelease_rights (t : Fin 8) (s : Rc8) : (takeRelease t s).2.nv.rights = s.nv.rights := by
  simp [takeRelease]

@[simp] theorem shadowOne_rights (t : Fin 8) (s : Rc8) : (shadowOne t s).nv.rights = s.nv.rights := by
  unfold shadowOne
  split
  · rfl
  · extract_lets r next
    have hn : ∀ x, (next x).nv.rights = x.nv.rights := fun x => modTask_rights _ _ x
    have hr : r.2.nv.rights = s.nv.rights := takeRelease_rights t s
    clear_value next r
    split
    · rw [ownRelease_rights, hn, hr]
    · split
      · rfl
      · split
        · rw [skipRelease_rights, hn, hr]
        · split
          · rfl
          · split
            · rfl
            · split
              · rfl
              · rw [beginWith_rights, hn, hr]

@[simp] theorem shadowAll_rights (s : Rc8) : (shadowAll s).nv.rights = s.nv.rights := by
  unfold shadowAll
  rw [foldl_rights _ (fun _ _ => shadowOne_rights _ _)]

@[simp] theorem shadowRelease_rights (t : Fin 8) (time mono : Nat) (s : Rc8) : (shadowRelease t time mono s).nv.rights = s.nv.rights := by
  unfold shadowRelease
  split
  · rfl
  · rw [shadowOne_rights, modTask_rights]

@[simp] theorem decideRelease_rights (t : Fin 8) (time mono : Nat) (s : Rc8) : (decideRelease t time mono s).nv.rights = s.nv.rights := by simp [decideRelease]

@[simp] theorem taskRelease_rights (t : Fin 8) (s : Rc8) : (taskRelease t s).nv.rights = s.nv.rights := by
  unfold taskRelease; (repeat' (first | rfl | (simp; done) | split))

@[simp] theorem commitFailed_rights (t cause bytes : Nat) (s : Rc8) : (commitFailed t cause bytes s).nv.rights = s.nv.rights := by simp [commitFailed]

@[simp] theorem queueCommit_rights (t : Fin 8) (g : List (Nat × List Byte)) (s : Rc8) : (queueCommit t g s).nv.rights = s.nv.rights := by simp [queueCommit]

@[simp] theorem tellCycle_rights (t : Fin 8) (published : Bool) (s : Rc8) : (tellCycle t published s).nv.rights = s.nv.rights := by simp [tellCycle]

@[simp] theorem publishCycle_rights (t : Fin 8) (o : CycleOut) (s : Rc8) : (publishCycle t o s).nv.rights = s.nv.rights := by simp [publishCycle]

@[simp] theorem cycleDigest_rights (t : Fin 8) (o : CycleOut) (published : Bool) (s : Rc8) : (cycleDigest t o published s).nv.rights = s.nv.rights := by simp [cycleDigest]

@[simp] theorem evalInstances_rights (t : Fin 8) (o : CycleOut) (s : Rc8) : (evalInstances t o s).nv.rights = s.nv.rights := by first | rfl

@[simp] theorem closeCycle_rights (t : Fin 8) (us : Nat) (s : Rc8) : (closeCycle t us s).nv.rights = s.nv.rights := by simp [closeCycle]

@[simp] theorem handOver_rights (t : Fin 8) (o : CycleOut) (s : Rc8) : (handOver t o s).nv.rights = s.nv.rights := by simp [handOver]

@[simp] theorem cycleEnd_rights (t : Fin 8) (o : CycleOut) (s : Rc8) : (cycleEnd t o s).nv.rights = s.nv.rights := by simp [cycleEnd]

@[simp] theorem endParked_rights (t : Fin 8) (s : Rc8) : (endParked t s).nv.rights = s.nv.rights := by
  unfold endParked; (repeat' (first | rfl | (simp; done) | split))

@[simp] theorem shadowOn_rights (s : Rc8) : (shadowOn s).nv.rights = s.nv.rights := by
  unfold shadowOn
  rw [shadowAll_rights, foldl_rights _ (fun _ _ => endParked_rights _ _)]

theorem journal_rights (s : Rc8) (l : List JournalRec) : ({ s with nv := { s.nv with journal := l } } : Rc8).nv.rights = s.nv.rights := rfl

@[simp] theorem nextCommit_rights (s : Rc8) : (nextCommit s).nv.rights = s.nv.rights := by
  unfold nextCommit
  dsimp only
  refine (foldl_rights _ (fun _ _ => ?_) _ _).trans ((modRun_rights _ _).trans (journal_rights _ _))
  rw [ite_rights, closeCycle_rights, ite_self]

@[simp] theorem fillOther_rights (s : Rc8) : (fillOther s).nv.rights = s.nv.rights := by
  unfold fillOther; (repeat' (first | rfl | (simp; done) | split))

@[simp] theorem applyRecord_rights (r : JournalRec) (s : Rc8) : (applyRecord r s).nv.rights = s.nv.rights := by simp [applyRecord]

@[simp] theorem commitDone_rights (step : CommitStep) (s : Rc8) : (commitDone step s).nv.rights = s.nv.rights := by
  unfold commitDone; (repeat' (first | rfl | (simp; done) | split))

@[simp] theorem commitLost_rights (s : Rc8) : (commitLost s).nv.rights = s.nv.rights := by
  unfold commitLost; (repeat' (first | rfl | (simp; done) | split))

@[simp] theorem whileRunning_rights (t : Fin 8) (f : Rc8 → Rc8) (s : Rc8) (h_f : ∀ x0, (f x0).nv.rights = x0.nv.rights) : (whileRunning t f s).nv.rights = s.nv.rights := by simp [whileRunning, h_f]

@[simp] theorem serviceRequest_rights (t : Fin 8) (c : SvcCall) (own : List Byte) (serve : Rc8 → Rc8) (s : Rc8) (h_serve : ∀ x0, (serve x0).nv.rights = x0.nv.rights) : (serviceRequest t c own serve s).nv.rights = s.nv.rights := by simp [serviceRequest, h_serve]

@[simp] theorem serveEvent_rights (t : Fin 8) (reason sev p0 p1 p2 : Nat) (s : Rc8) : (serveEvent t reason sev p0 p1 p2 s).nv.rights = s.nv.rights := by simp [serveEvent]

@[simp] theorem serveRecord_rights (t : Fin 8) (code p0 p1 : Nat) (s : Rc8) : (serveRecord t code p0 p1 s).nv.rights = s.nv.rights := by simp [serveRecord]

@[simp] theorem raiseEvent_rights (t : Fin 8) (reason sev p0 p1 p2 : Nat) (s : Rc8) : (raiseEvent t reason sev p0 p1 p2 s).nv.rights = s.nv.rights := by simp [raiseEvent]

@[simp] theorem recordRequest_rights (t : Fin 8) (code p0 p1 : Nat) (s : Rc8) : (recordRequest t code p0 p1 s).nv.rights = s.nv.rights := by simp [recordRequest]

/-! ### Machine/Change.lean -/

@[simp] theorem modChg_rights (f : Change → Change) (s : Rc8) : (modChg f s).nv.rights = s.nv.rights := by first | rfl

@[simp] theorem effChangeLoad_rights (b : List Byte) (s : Rc8) : (effChangeLoad b s).nv.rights = s.nv.rights := by simp [effChangeLoad]

@[simp] theorem ownChangeLoad_rights (port : Nat) (b : List Byte) (s : Rc8) : (ownChangeLoad port b s).nv.rights = s.nv.rights := by simp [ownChangeLoad]

@[simp] theorem finishChange_rights (e : Exec) (b : List Byte) (stored : Bool) (s : Rc8) : (finishChange e b stored s).nv.rights = s.nv.rights := by
  unfold finishChange; (repeat' (first | rfl | (simp; done) | split))

@[simp] theorem changeLoad_rights (stored : Bool) (e : Exec) (s : Rc8) : (changeLoad stored e s).nv.rights = s.nv.rights := by simp [changeLoad]

@[simp] theorem undoChange_rights (skip : Bool) (s : Rc8) : (undoChange skip s).nv.rights = s.nv.rights := by
  unfold undoChange; dsimp only; (repeat' (first | rfl | (simp; done) | (refine (foldl_rights _ (fun _ _ => ?_) _ _).trans ?_) | split))

@[simp] theorem endAborts_rights (st : Status) (s : Rc8) : (endAborts st s).nv.rights = s.nv.rights := by simp [endAborts]

@[simp] theorem abandon_rights (cause cond : Nat) (s : Rc8) : (abandon cause cond s).nv.rights = s.nv.rights := by simp [abandon]

@[simp] theorem changeInterrupted_rights (s : Rc8) : (changeInterrupted s).nv.rights = s.nv.rights := by simp [changeInterrupted]

@[simp] theorem prepareProgram_rights (k : Package) (s : Rc8) : (prepareProgram k s).nv.rights = s.nv.rights := by
  unfold prepareProgram; (repeat' (first | rfl | (simp; done) | split))

@[simp] theorem effPrepare_rights (s : Rc8) : (effPrepare s).nv.rights = s.nv.rights := by
  unfold effPrepare; dsimp only; (repeat' (first | rfl | (simp; done) | (refine (foldl_rights _ (fun _ _ => ?_) _ _).trans ?_) | split))

@[simp] theorem effArm_rights (s : Rc8) : (effArm s).nv.rights = s.nv.rights := by simp [effArm]

@[simp] theorem changeArm_rights (e : Exec) (s : Rc8) : (changeArm e s).nv.rights = s.nv.rights := by
  unfold changeArm; (repeat' (first | rfl | (simp; done) | split))

@[simp] theorem offerCandidate_rights (w : Nat) (s : Rc8) : (offerCandidate w s).nv.rights = s.nv.rights := by simp [offerCandidate]

@[simp] theorem preparationEnd_rights (verified : Bool) (s : Rc8) : (preparationEnd verified s).nv.rights = s.nv.rights := by
  unfold preparationEnd; (repeat' (first | rfl | (simp; done) | split))

@[simp] theorem cutCycles_rights (w : Nat) (s : Rc8) : (cutCycles w s).nv.rights = s.nv.rights := by simp [cutCycles]

@[simp] theorem changeLearn_rights (k : Package) (s : Rc8) : (changeLearn k s).nv.rights = s.nv.rights := by
  unfold changeLearn; dsimp only; (repeat' (first | rfl | (simp; done) | (refine (foldl_rights _ (fun _ _ => ?_) _ _).trans ?_) | split))

@[simp] theorem finishCommits_rights (s : Rc8) : (finishCommits s).nv.rights = s.nv.rights := by
  unfold finishCommits
  extract_lets area n s1
  have h : s1.nv.rights = s.nv.rights := modRun_rights _ _
  clear_value s1
  refine (foldl_rights _ (fun _ _ => ?_) _ _).trans h
  rw [ite_rights, closeCycle_rights, ite_self]

@[simp] theorem carryInstances_rights (old new : Image) (s : Rc8) : (carryInstances old new s).nv.rights = s.nv.rights := by first | rfl

@[simp] theorem convertData_rights (old new : Image) (bad : Option Nat) (s : Rc8) : (convertData old new bad s).nv.rights = s.nv.rights := by first | rfl

@[simp] theorem switchImages_rights (k : Package) (old : Image) (bad : Option Nat) (s : Rc8) : (switchImages k old bad s).nv.rights = s.nv.rights := by first | rfl

@[simp] theorem effWaymark_rights (w : Nat) (bad : Option Nat) (s : Rc8) : (effWaymark w bad s).nv.rights = s.nv.rights := by
  unfold effWaymark; (repeat' (first | rfl | (simp; done) | split))

@[simp] theorem applyWaymark_rights (w : Nat) (bad : Option Nat) (s : Rc8) : (applyWaymark w bad s).nv.rights = s.nv.rights := by simp [applyWaymark]

@[simp] theorem effMissed_rights (s : Rc8) : (effMissed s).nv.rights = s.nv.rights := by first | rfl

@[simp] theorem missWaymark_rights (w : Nat) (s : Rc8) : (missWaymark w s).nv.rights = s.nv.rights := by simp [missWaymark]

@[simp] theorem waymarkCandidate_rights (bad : Option Nat) (s : Rc8) : (waymarkCandidate bad s).nv.rights = s.nv.rights := by
  unfold waymarkCandidate; (repeat' (first | rfl | (simp; done) | split))

@[simp] theorem changeTimeout_rights (s : Rc8) : (changeTimeout s).nv.rights = s.nv.rights := by
  unfold changeTimeout; (repeat' (first | rfl | (simp; done) | split))

@[simp] theorem changeAbort_rights (e : Exec) (s : Rc8) : (changeAbort e s).nv.rights = s.nv.rights := by
  unfold changeAbort; (repeat' (first | rfl | (simp; done) | split))

/-! ### Machine/SafeCheck.lean -/

@[simp] theorem modChannel_rights (c : Fin 2) (f : Channel → Channel) (s : Rc8) : (modChannel c f s).nv.rights = s.nv.rights := by first | rfl

@[simp] theorem putChAxis_rights (c : Fin 2) (a : Nat) (x : ChAxis) (s : Rc8) : (putChAxis c a x s).nv.rights = s.nv.rights := by first | rfl

@[simp] theorem channelStep_rights (set : List Byte) (p : AxisPlace) (c : Fin 2) (s : Rc8) : (channelStep set p c s).nv.rights = s.nv.rights := by simp [channelStep]

@[simp] theorem channelEvent_rights (c : Fin 2) (back : Bool) (p1 p2 : Nat) (s : Rc8) : (channelEvent c back p1 p2 s).nv.rights = s.nv.rights := by first | rfl

@[simp] theorem channelLoss_rights (c : Fin 2) (cause : Nat) (s : Rc8) : (channelLoss c cause s).nv.rights = s.nv.rights := by
  unfold channelLoss; (repeat' (first | rfl | (simp; done) | split))

@[simp] theorem smlSilence_rights (set : List Byte) (n : Fin 2) (s : Rc8) : (smlSilence set n s).nv.rights = s.nv.rights := by
  unfold smlSilence; (repeat' (first | rfl | (simp; done) | split))

@[simp] theorem crossCheck_rights (a : Nat) (s : Rc8) : (crossCheck a s).nv.rights = s.nv.rights := by simp [crossCheck]

@[simp] theorem latchGroup_rights (c : Fin 2) (g axis cause : Nat) (s : Rc8) : (latchGroup c g axis cause s).nv.rights = s.nv.rights := by simp [latchGroup]

@[simp] theorem axisLatches_rights (set : List Byte) (n : Fin 2) (a : Nat) (s : Rc8) : (axisLatches set n a s).nv.rights = s.nv.rights := by simp [axisLatches]

@[simp] theorem mirrorLatches_rights (s : Rc8) : (mirrorLatches s).nv.rights = s.nv.rights := by simp [mirrorLatches]

@[simp] theorem modDet_rights (f : Detour → Detour) (s : Rc8) : (modDet f s).nv.rights = s.nv.rights := by first | rfl

@[simp] theorem detourEntry_rights (set : List Byte) (c : Fin 2) (cause : Nat) (s : Rc8) : (detourEntry set c cause s).nv.rights = s.nv.rights := by simp [detourEntry]

@[simp] theorem detourAxis_rights (set : List Byte) (n : Fin 2) (a : Nat) (s : Rc8) : (detourAxis set n a s).nv.rights = s.nv.rights := by
  unfold detourAxis; dsimp only; (repeat' (first | rfl | (simp; done) | (refine (foldl_rights _ (fun _ _ => ?_) _ _).trans ?_) | split))

@[simp] theorem detourEdges_rights (set : List Byte) (before : Bool) (s : Rc8) : (detourEdges set before s).nv.rights = s.nv.rights := by simp [detourEdges]

@[simp] theorem detourShown_rights (s : Rc8) : (detourShown s).nv.rights = s.nv.rights := by first | rfl

@[simp] theorem channelPermits_rights (c : Fin 2) (s : Rc8) : (channelPermits c s).nv.rights = s.nv.rights := by first | rfl

@[simp] theorem smlPermit_rights (s : Rc8) (a : Nat) : (smlPermit s a).nv.rights = s.nv.rights := by
  unfold smlPermit; (repeat' (first | rfl | (simp; done) | split))

@[simp] theorem processorPermit_rights (s : Rc8) (a : Nat) : (processorPermit s a).nv.rights = s.nv.rights := by
  unfold processorPermit; (repeat' (first | rfl | (simp; done) | split))

@[simp] theorem commitPermits_rights (s : Rc8) : (commitPermits s).nv.rights = s.nv.rights := by simp [commitPermits]

@[simp] theorem zeroPermits_rights (s : Rc8) : (zeroPermits s).nv.rights = s.nv.rights := by
  unfold zeroPermits
  refine foldl_rights _ (fun _ _ => ?_) _ _
  split <;> simp

@[simp] theorem haltLatched_rights (set : List Byte) (s : Rc8) : (haltLatched set s).nv.rights = s.nv.rights := by simp [haltLatched]

@[simp] theorem writeSafe_rights (set : List Byte) (s : Rc8) : (writeSafe set s).nv.rights = s.nv.rights := by simp [writeSafe]

@[simp] theorem safetyRecords_rights (set : List Byte) (s : Rc8) : (safetyRecords set s).nv.rights = s.nv.rights := by
  unfold safetyRecords; dsimp only; (repeat' (first | rfl | (simp; done) | (refine (foldl_rights _ (fun _ _ => ?_) _ _).trans ?_) | split))

@[simp] theorem safetyJudge_rights (set : List Byte) (s : Rc8) : (safetyJudge set s).nv.rights = s.nv.rights := by
  unfold safetyJudge; dsimp only; (repeat' (first | rfl | (simp; done) | (refine (foldl_rights _ (fun _ _ => ?_) _ _).trans ?_) | split))

@[simp] theorem safetyLosses_rights (set : List Byte) (s : Rc8) : (safetyLosses set s).nv.rights = s.nv.rights := by
  simp only [safetyLosses, smlSilence_rights, channelLoss_rights]

@[simp] theorem activationRefused_rights (id : Nat) (f : Nat × Nat × Nat) (s : Rc8) : (activationRefused id f s).nv.rights = s.nv.rights := by
  unfold activationRefused; (repeat' (first | rfl | (simp; done) | split))

@[simp] theorem activationCheck_rights (s : Rc8) : (activationCheck s).nv.rights = s.nv.rights := by
  unfold activationCheck; (repeat' (first | rfl | (simp; done) | split))

@[simp] theorem safetyRound_rights (set : List Byte) (s : Rc8) : (safetyRound set s).nv.rights = s.nv.rights := by simp [safetyRound]

@[simp] theorem safetyCheckPoint_rights (s : Rc8) : (safetyCheckPoint s).nv.rights = s.nv.rights := by
  unfold safetyCheckPoint
  split
  · rfl
  · extract_lets s0 s1 s2
    have h0 : s0.nv.rights = s.nv.rights := atOffset_rights _ _
    have h1 : s1.nv.rights = s.nv.rights := by
      show (match activeSet s0 with
        | none => safetyRecords [] s0
        | some set => if splitRefused s0 then safetyRecords [] s0 else safetyRound set s0).nv.rights = _
      clear_value s0
      split
      · rw [safetyRecords_rights, h0]
      · rw [ite_rights, safetyRecords_rights, safetyRound_rights, ite_self, h0]
    have h2 : s2.nv.rights = s.nv.rights := by
      show (channelPermits 1 (channelPermits 0 (activationCheck s1))).nv.rights = _
      rw [channelPermits_rights, channelPermits_rights, activationCheck_rights, h1]
    clear_value s2
    rw [foldl_rights _ (fun _ _ => smlPermit_rights _ _), h2]

@[simp] theorem detourExpired_rights (s : Rc8) : (detourExpired s).nv.rights = s.nv.rights := by
  unfold detourExpired; (repeat' (first | rfl | (simp; done) | split))

/-! ### Machine/SafetyCmd.lean -/

@[simp] theorem safetyLog_rights (kind port : Nat) (old new : Option (List Byte)) (operator : List Byte) (s : Rc8) : (safetyLog kind port old new operator s).nv.rights = s.nv.rights := by first | rfl

@[simp] theorem loginFailed_rights (e : Exec) (st : Status) (fails lock : Nat) (s : Rc8) : (loginFailed e st fails lock s).nv.rights = s.nv.rights := by first | rfl

@[simp] theorem safetyLogin_rights (e : Exec) (s : Rc8) : (safetyLogin e s).nv.rights = s.nv.rights := by simp [safetyLogin]

@[simp] theorem safetyLogout_rights (e : Exec) (s : Rc8) : (safetyLogout e s).nv.rights = s.nv.rights := by simp [safetyLogout]

@[simp] theorem effSafetyLoad_rights (b : List Byte) (s : Rc8) : (effSafetyLoad b s).nv.rights = s.nv.rights := by first | rfl

@[simp] theorem ownSafetyLoad_rights (port : Nat) (b : List Byte) (s : Rc8) : (ownSafetyLoad port b s).nv.rights = s.nv.rights := by first | rfl

@[simp] theorem safetyLoad_rights (stored : Bool) (e : Exec) (s : Rc8) : (safetyLoad stored e s).nv.rights = s.nv.rights := by simp [safetyLoad]

@[simp] theorem safetyActivate_rights (smlOk : Bool) (e : Exec) (s : Rc8) : (safetyActivate smlOk e s).nv.rights = s.nv.rights := by simp [safetyActivate]

@[simp] theorem effSafetyActivate_rights (port : Nat) (operator : List Byte) (s : Rc8) : (effSafetyActivate port operator s).nv.rights = s.nv.rights := by
  unfold effSafetyActivate; (repeat' (first | rfl | (simp; done) | split))

@[simp] theorem ownSafetyActivate_rights (port : Nat) (operator : List Byte) (s : Rc8) : (ownSafetyActivate port operator s).nv.rights = s.nv.rights := by simp [ownSafetyActivate]

@[simp] theorem safetyActivateEnds_rights (s : Rc8) : (safetyActivateEnds s).nv.rights = s.nv.rights := by first | rfl

@[simp] theorem effPassword_rights (keep : Option (Fin 4)) (op : List Byte) (s : Rc8) : (effPassword keep op s).nv.rights = s.nv.rights := by
  unfold effPassword; (repeat' (first | rfl | (simp; done) | split))

@[simp] theorem ownPassword_rights (p : Fin 4) (op : List Byte) (s : Rc8) : (ownPassword p op s).nv.rights = s.nv.rights := by simp [ownPassword]

@[simp] theorem safetyPassword_rights (stored : Bool) (salt : List Byte) (e : Exec) (s : Rc8) : (safetyPassword stored salt e s).nv.rights = s.nv.rights := by simp [safetyPassword]

@[simp] theorem effStopReset_rights (mask outs : Nat) (s : Rc8) : (effStopReset mask outs s).nv.rights = s.nv.rights := by first | rfl

@[simp] theorem ownStopReset_rights (port mask outs : Nat) (s : Rc8) : (ownStopReset port mask outs s).nv.rights = s.nv.rights := by first | rfl

@[simp] theorem fixStopReset_rights (e : Exec) (s : Rc8) : (fixStopReset e s).nv.rights = s.nv.rights := by simp [fixStopReset]

@[simp] theorem safeStopReset_rights (e : Exec) (s : Rc8) : (safeStopReset e s).nv.rights = s.nv.rights := by simp [safeStopReset]

/-! ### Machine/SafeOut.lean -/

@[simp] theorem latchSafety_rights (s : Rc8) : (latchSafety s).nv.rights = s.nv.rights := by first | rfl

@[simp] theorem commitSafety_rights (s : Rc8) : (commitSafety s).nv.rights = s.nv.rights := by first | rfl

@[simp] theorem openSafety_rights (s : Rc8) : (openSafety s).nv.rights = s.nv.rights := by first | rfl

@[simp] theorem outputFault_rights (j : Fin 8) (cause other : Nat) (s : Rc8) : (outputFault j cause other s).nv.rights = s.nv.rights := by simp [outputFault]

@[simp] theorem sampleSafety_rights (pClosed mClosed : BitVec 8) (s : Rc8) : (sampleSafety pClosed mClosed s).nv.rights = s.nv.rights := by simp [sampleSafety]

@[simp] theorem startPulse_rights (j : Fin 8) (dark : Bool) (side : Fin 2) (exec : Option Nat) (s : Rc8) : (startPulse j dark side exec s).nv.rights = s.nv.rights := by first | rfl

@[simp] theorem testPulse_rights (j : Fin 8) (named : Bool) (s : Rc8) : (testPulse j named s).nv.rights = s.nv.rights := by
  unfold testPulse; (repeat' (first | rfl | (simp; done) | split))

@[simp] theorem testPulseEnd_rights (pClosed mClosed : BitVec 8) (s : Rc8) : (testPulseEnd pClosed mClosed s).nv.rights = s.nv.rights := by
  unfold testPulseEnd; dsimp only; (repeat' (first | rfl | (simp; done) | (refine (foldl_rights _ (fun _ _ => ?_) _ _).trans ?_) | split))

@[simp] theorem modSml_rights (f : Sml → Sml) (s : Rc8) : (modSml f s).nv.rights = s.nv.rights := by first | rfl

@[simp] theorem smlCopy_rights (n port : Fin 2) (f : BudanCopy) (s : Rc8) : (smlCopy n port f s).nv.rights = s.nv.rights := by simp [smlCopy]

@[simp] theorem smlPage_rights (page : Nat) (data : List Byte) (s : Rc8) : (smlPage page data s).nv.rights = s.nv.rights := by first | rfl

@[simp] theorem smlStrobe_rights (strobe : Fin 3) (deviation : Int) (s : Rc8) : (smlStrobe strobe deviation s).nv.rights = s.nv.rights := by simp [smlStrobe]

@[simp] theorem smlBoundary_rights (s : Rc8) : (smlBoundary s).nv.rights = s.nv.rights := by first | rfl

/-! ### Machine/PlantTime.lean -/

@[simp] theorem modTim_rights (f : PlantTime → PlantTime) (s : Rc8) : (modTim f s).nv.rights = s.nv.rights := by first | rfl

@[simp] theorem setPtpPort_rights (e : Fin 2) (st : Nat) (s : Rc8) : (setPtpPort e st s).nv.rights = s.nv.rights := by simp [setPtpPort]

@[simp] theorem setGrandmaster_rights (e : Fin 2) (gm : Nat) (s : Rc8) : (setGrandmaster e gm s).nv.rights = s.nv.rights := by simp [setGrandmaster]

@[simp] theorem ptpDecide_rights (e : Fin 2) (kind : Nat) (content : List Byte) (s : Rc8) : (ptpDecide e kind content s).nv.rights = s.nv.rights := by simp [ptpDecide]

@[simp] theorem ptpRestart_rights (s : Rc8) : (ptpRestart s).nv.rights = s.nv.rights := by simp [ptpRestart]

@[simp] theorem tellTime_rights (op : PairOp) (round : Nat) (s : Rc8) : (tellTime op round s).nv.rights = s.nv.rights := by simp [tellTime]

@[simp] theorem timeGoto_rights (st : TimeSt) (s : Rc8) : (timeGoto st s).nv.rights = s.nv.rights := by simp [timeGoto]

@[simp] theorem discipline_rights (offset : Int) (s : Rc8) : (discipline offset s).nv.rights = s.nv.rights := by first | rfl

@[simp] theorem refuseJump_rights (offset : Int) (s : Rc8) : (refuseJump offset s).nv.rights = s.nv.rights := by first | rfl

@[simp] theorem recordOffset_rights (offset : Int) (s : Rc8) : (recordOffset offset s).nv.rights = s.nv.rights := by
  unfold recordOffset; (repeat' (first | rfl | (simp; done) | split))

@[simp] theorem fixStep_rights (b : Nat) (exec : Option Nat) (s : Rc8) : (fixStep b exec s).nv.rights = s.nv.rights := by simp [fixStep]

@[simp] theorem timeOffset_rights (jump : Bool) (offset : Int) (s : Rc8) : (timeOffset jump offset s).nv.rights = s.nv.rights := by
  unfold timeOffset; (repeat' (first | rfl | (simp; done) | split))

@[simp] theorem offsetMeasured_rights (e : Fin 2) (offset : Int) (delay : Nat) (s : Rc8) : (offsetMeasured e offset delay s).nv.rights = s.nv.rights := by simp [offsetMeasured]

@[simp] theorem cancelStep_rights (s : Rc8) : (cancelStep s).nv.rights = s.nv.rights := by simp [cancelStep]

@[simp] theorem timeLost_rights (s : Rc8) : (timeLost s).nv.rights = s.nv.rights := by
  unfold timeLost; (repeat' (first | rfl | (simp; done) | split))

@[simp] theorem holdoverLong_rights (s : Rc8) : (holdoverLong s).nv.rights = s.nv.rights := by
  unfold holdoverLong; (repeat' (first | rfl | (simp; done) | split))

@[simp] theorem timeTakeOver_rights (s : Rc8) : (timeTakeOver s).nv.rights = s.nv.rights := by simp [timeTakeOver]

@[simp] theorem timeBecomeStandby_rights (s : Rc8) : (timeBecomeStandby s).nv.rights = s.nv.rights := by simp [timeBecomeStandby]

@[simp] theorem modEth_rights (e : Fin 2) (f : EthPort → EthPort) (s : Rc8) : (modEth e f s).nv.rights = s.nv.rights := by first | rfl

@[simp] theorem ethCount_rights (e : Fin 2) (i : Fin 11) (s : Rc8) : (ethCount e i s).nv.rights = s.nv.rights := by first | rfl

@[simp] theorem dropLate_rights (e : Fin 2) (f : EthFrame) (s : Rc8) : (dropLate e f s).nv.rights = s.nv.rights := by
  unfold dropLate; (repeat' (first | rfl | (simp; done) | split))

@[simp] theorem dropSkipped_rights (e : Fin 2) (s : Rc8) : (dropSkipped e s).nv.rights = s.nv.rights := by simp [dropSkipped]

@[simp] theorem moveRounds_rights (b : Nat) (k : Int) (s : Rc8) : (moveRounds b k s).nv.rights = s.nv.rights := by first | rfl

@[simp] theorem renumberCandidate_rights (b : Nat) (k : Int) (s : Rc8) : (renumberCandidate b k s).nv.rights = s.nv.rights := by
  unfold renumberCandidate; (repeat' (first | rfl | (simp; done) | split))

@[simp] theorem applyStep_rights (b : Nat) (delta : Int) (s : Rc8) : (applyStep b delta s).nv.rights = s.nv.rights := by simp [applyStep]

@[simp] theorem timeStepped_rights (period : Nat) (delta : Int) (s : Rc8) : (timeStepped period delta s).nv.rights = s.nv.rights := by first | rfl

@[simp] theorem stepBoundary_rights (s : Rc8) : (stepBoundary s).nv.rights = s.nv.rights := by
  unfold stepBoundary; (repeat' (first | rfl | (simp; done) | split))

@[simp] theorem acceptStep_rights (e : Exec) (s : Rc8) : (acceptStep e s).nv.rights = s.nv.rights := by simp [acceptStep]

@[simp] theorem effTimeConfigure_rights (r : List Byte) (s : Rc8) : (effTimeConfigure r s).nv.rights = s.nv.rights := by simp [effTimeConfigure]

@[simp] theorem configureBoth_rights (stored : Bool) (e : Exec) (s : Rc8) : (configureBoth stored e s).nv.rights = s.nv.rights := by simp [configureBoth]

/-! ### Machine/Ether.lean -/

@[simp] theorem modPeer_rights (ch : Fin 16) (f : Peer → Peer) (s : Rc8) : (modPeer ch f s).nv.rights = s.nv.rights := by first | rfl

@[simp] theorem startFrame_rights (e : Fin 2) (s : Rc8) : (startFrame e s).nv.rights = s.nv.rights := by
  unfold startFrame; dsimp only; (repeat' (first | rfl | (simp; done) | (refine (foldl_rights _ (fun _ _ => ?_) _ _).trans ?_) | split))

@[simp] theorem queueFrame_rights (e : Fin 2) (f : EthFrame) (s : Rc8) : (queueFrame e f s).nv.rights = s.nv.rights := by simp [queueFrame]

@[simp] theorem frameLaunch_rights (e : Fin 2) (s : Rc8) : (frameLaunch e s).nv.rights = s.nv.rights := by
  unfold frameLaunch; dsimp only; (repeat' (first | rfl | (simp; done) | (refine (foldl_rights _ (fun _ _ => ?_) _ _).trans ?_) | split))

@[simp] theorem stampFrame_rights (e : Fin 2) (f : EthFrame) (s : Rc8) : (stampFrame e f s).nv.rights = s.nv.rights := by
  unfold stampFrame; (repeat' (first | rfl | (simp; done) | split))

@[simp] theorem frameSent_rights (e : Fin 2) (s : Rc8) : (frameSent e s).nv.rights = s.nv.rights := by
  unfold frameSent; (repeat' (first | rfl | (simp; done) | split))

@[simp] theorem ethLaunch_rights (e : Fin 2) (ch : Fin 16) (off : Nat) (s : Rc8) : (ethLaunch e ch off s).nv.rights = s.nv.rights := by simp [ethLaunch]

@[simp] theorem peerTake_rights (e : Fin 2) (ch : Fin 16) (payload : List Byte) (s : Rc8) : (peerTake e ch payload s).nv.rights = s.nv.rights := by simp [peerTake]

@[simp] theorem peerLost_rights (ch : Fin 16) (s : Rc8) : (peerLost ch s).nv.rights = s.nv.rights := by simp [peerLost]

@[simp] theorem ethDeliver_rights (e : Fin 2) (f : EthRx) (s : Rc8) : (ethDeliver e f s).nv.rights = s.nv.rights := by
  unfold ethDeliver; (repeat' (first | rfl | (simp; done) | split))

@[simp] theorem ethReceived_rights (e : Fin 2) (f : EthRx) (s : Rc8) : (ethReceived e f s).nv.rights = s.nv.rights := by simp [ethReceived]

@[simp] theorem ethUp_rights (e : Fin 2) (speed : EthSpeed) (s : Rc8) : (ethUp e speed s).nv.rights = s.nv.rights := by simp [ethUp]

@[simp] theorem ethDown_rights (e : Fin 2) (s : Rc8) : (ethDown e s).nv.rights = s.nv.rights := by simp [ethDown]

@[simp] theorem ptpSend_rights (e : Fin 2) (messageType seq : Nat) (s : Rc8) : (ptpSend e messageType seq s).nv.rights = s.nv.rights := by simp [ptpSend]

@[simp] theorem ptpSendTwo_rights (e : Fin 2) (first second seq : Nat) (s : Rc8) : (ptpSendTwo e first second seq s).nv.rights = s.nv.rights := by simp [ptpSendTwo]

@[simp] theorem ptpMessage_rights (e : Fin 2) (f : PtpMsg) (s : Rc8) : (ptpMessage e f s).nv.rights = s.nv.rights := by simp [ptpMessage]

@[simp] theorem ptpNext_rights (e : Fin 2) (k : Fin 4) (s : Rc8) : (ptpNext e k s).2.nv.rights = s.nv.rights := by simp [ptpNext]

@[simp] theorem ptpInterval_rights (e : Fin 2) (k : PtpTimer) (s : Rc8) : (ptpInterval e k s).nv.rights = s.nv.rights := by
  unfold ptpInterval
  split
  · rfl
  · dsimp only
    split <;> split <;> (try split) <;> simp <;> split <;> simp

@[simp] theorem gratuitousArp_rights (s : Rc8) : (gratuitousArp s).nv.rights = s.nv.rights := by simp [gratuitousArp]

@[simp] theorem serviceInCall_rights (t : Fin 8) (effect : Rc8 → Rc8) (st : Status) (data : List Byte) (s : Rc8) (h_effect : ∀ x0, (effect x0).nv.rights = x0.nv.rights) : (serviceInCall t effect st data s).nv.rights = s.nv.rights := by
  unfold serviceInCall; (repeat' (first | rfl | (simp [h_effect]; done) | split))

@[simp] theorem tsRead_rights (t : Fin 8) (e : Fin 2) (s : Rc8) : (tsRead t e s).nv.rights = s.nv.rights := by simp [tsRead]

@[simp] theorem peerWrite_rights (t : Fin 8) (ch : Fin 16) (data : List Byte) (s : Rc8) : (peerWrite t ch data s).nv.rights = s.nv.rights := by simp [peerWrite]

@[simp] theorem peerRead_rights (t : Fin 8) (ch : Fin 16) (s : Rc8) : (peerRead t ch s).nv.rights = s.nv.rights := by simp [peerRead]

@[simp] theorem effEthConfigure_rights (r : List Byte) (s : Rc8) : (effEthConfigure r s).nv.rights = s.nv.rights := by simp [effEthConfigure]

@[simp] theorem effPeerConfigure_rights (r : List Byte) (s : Rc8) : (effPeerConfigure r s).nv.rights = s.nv.rights := by first | rfl

/-! ### Machine/Can.lean -/

@[simp] theorem modCan_rights (c : Fin 4) (f : CanPort → CanPort) (s : Rc8) : (modCan c f s).nv.rights = s.nv.rights := by first | rfl

@[simp] theorem tellCan_rights (c : Fin 4) (i : Int) (s : Rc8) : (tellCan c i s).nv.rights = s.nv.rights := by
  unfold tellCan; (repeat' (first | rfl | (simp; done) | split))

@[simp] theorem canSelection_rights (c : Fin 4) (s : Rc8) : (canSelection c s).nv.rights = s.nv.rights := by
  unfold canSelection; (repeat' (first | rfl | (simp; done) | split))

@[simp] theorem canErrState_rights (c : Fin 4) (s : Rc8) : (canErrState c s).nv.rights = s.nv.rights := by simp [canErrState]

@[simp] theorem canReceiveError_rights (c : Fin 4) (eight : Bool) (s : Rc8) : (canReceiveError c eight s).nv.rights = s.nv.rights := by simp [canReceiveError]

@[simp] theorem txFailed_rights (c : Fin 4) (i : Int) (cause : Nat) (s : Rc8) : (txFailed c i cause s).nv.rights = s.nv.rights := by simp [txFailed]

@[simp] theorem canBusOff_rights (c : Fin 4) (s : Rc8) : (canBusOff c s).nv.rights = s.nv.rights := by simp [canBusOff]

@[simp] theorem canRecovered_rights (c : Fin 4) (s : Rc8) : (canRecovered c s).nv.rights = s.nv.rights := by simp [canRecovered]

@[simp] theorem sentInternal_rights (c : Fin 4) (i : Int) (o : TxObj) (s : Rc8) : (sentInternal c i o s).nv.rights = s.nv.rights := by simp [sentInternal]

@[simp] theorem notSent_rights (c : Fin 4) (i : Int) (o : TxObj) (cause : Nat) (s : Rc8) : (notSent c i o cause s).nv.rights = s.nv.rights := by simp [notSent]

@[simp] theorem attemptEnd_rights (c : Fin 4) (how : CanEnd) (sinceStart : Nat) (s : Rc8) : (attemptEnd c how sinceStart s).nv.rights = s.nv.rights := by
  unfold attemptEnd; (repeat' (first | rfl | (simp; done) | split))

@[simp] theorem canReceived_rights (c : Fin 4) (f : CanRx) (s : Rc8) : (canReceived c f s).nv.rights = s.nv.rights := by
  unfold canReceived; (repeat' (first | rfl | (simp; done) | split))

@[simp] theorem canReference_rights (c : Fin 4) (s : Rc8) : (canReference c s).nv.rights = s.nv.rights := by simp [canReference]

@[simp] theorem canTakeOver_rights (s : Rc8) : (canTakeOver s).nv.rights = s.nv.rights := by first | rfl

@[simp] theorem canBecomeStandby_rights (s : Rc8) : (canBecomeStandby s).nv.rights = s.nv.rights := by first | rfl

@[simp] theorem takeCanStatus_rights (c : Fin 4) (d : List Byte) (s : Rc8) : (takeCanStatus c d s).nv.rights = s.nv.rights := by first | rfl

@[simp] theorem applyBoth_rights (e : Exec) (eff : Rc8 → Rc8) (s : Rc8) (h_eff : ∀ x0, (eff x0).nv.rights = x0.nv.rights) : (applyBoth e eff s).nv.rights = s.nv.rights := by simp [applyBoth, h_eff]

@[simp] theorem effCanConfigure_rights (r : List Byte) (s : Rc8) : (effCanConfigure r s).nv.rights = s.nv.rights := by simp [effCanConfigure]

@[simp] theorem effRxConfigure_rights (r : List Byte) (s : Rc8) : (effRxConfigure r s).nv.rights = s.nv.rights := by first | rfl

@[simp] theorem rxConfigure_rights (stored : Bool) (e : Exec) (s : Rc8) : (rxConfigure stored e s).nv.rights = s.nv.rights := by simp [rxConfigure]

@[simp] theorem rxRead_rights (e : Exec) (s : Rc8) : (rxRead e s).nv.rights = s.nv.rights := by first | rfl

@[simp] theorem effTxWrite_rights (r : List Byte) (s : Rc8) : (effTxWrite r s).nv.rights = s.nv.rights := by first | rfl

@[simp] theorem canWrite_rights (e : Exec) (s : Rc8) : (canWrite e s).nv.rights = s.nv.rights := by simp [canWrite]

@[simp] theorem effTxCancel_rights (r : List Byte) (s : Rc8) : (effTxCancel r s).nv.rights = s.nv.rights := by first | rfl

@[simp] theorem txCancel_rights (e : Exec) (s : Rc8) : (txCancel e s).nv.rights = s.nv.rights := by
  unfold txCancel; (repeat' (first | rfl | (simp; done) | split))

@[simp] theorem canRecover_rights (e : Exec) (s : Rc8) : (canRecover e s).nv.rights = s.nv.rights := by first | rfl

@[simp] theorem effCanStop_rights (r : List Byte) (s : Rc8) : (effCanStop r s).nv.rights = s.nv.rights := by simp [effCanStop]

@[simp] theorem canStop_rights (e : Exec) (s : Rc8) : (canStop e s).nv.rights = s.nv.rights := by simp [canStop]

/-! ### Machine/Field.lean -/

@[simp] theorem modFfe_rights (f : FieldFront → FieldFront) (s : Rc8) : (modFfe f s).nv.rights = s.nv.rights := by first | rfl

@[simp] theorem modPin_rights (i : Fin 32) (f : Pin → Pin) (s : Rc8) : (modPin i f s).nv.rights = s.nv.rights := by first | rfl

@[simp] theorem switchPin_rights (i : Fin 32) (on : Bool) (s : Rc8) : (switchPin i on s).nv.rights = s.nv.rights := by first | rfl

@[simp] theorem pinsOff_rights (s : Rc8) : (pinsOff s).nv.rights = s.nv.rights := by first | rfl

@[simp] theorem drivePins_rights (cmd : BitVec 32) (s : Rc8) : (drivePins cmd s).nv.rights = s.nv.rights := by
  unfold drivePins
  refine foldl_rights _ (fun _ _ => ?_) _ _
  split <;> simp

@[simp] theorem clearPins_rights (mask : BitVec 32) (s : Rc8) : (clearPins mask s).nv.rights = s.nv.rights := by simp [clearPins]

@[simp] theorem readOutputs_rights (set : List Byte) (s : Rc8) : (readOutputs set s).nv.rights = s.nv.rights := by simp [readOutputs]

@[simp] theorem latchField_rights (s : Rc8) : (latchField s).nv.rights = s.nv.rights := by
  unfold latchField
  split
  · rfl
  · dsimp only; simp

@[simp] theorem outputTimeout_rights (s : Rc8) : (outputTimeout s).nv.rights = s.nv.rights := by simp [outputTimeout]

@[simp] theorem outputsOff_rights (s : Rc8) : (outputsOff s).nv.rights = s.nv.rights := by
  unfold outputsOff; (repeat' (first | rfl | (simp; done) | split))

@[simp] theorem filteredChange_rights (i : Fin 32) (s : Rc8) : (filteredChange i s).nv.rights = s.nv.rights := by simp [filteredChange]

@[simp] theorem setFault_rights (i : Fin 32) (bit : Nat) (s : Rc8) : (setFault i bit s).nv.rights = s.nv.rights := by first | rfl

@[simp] theorem dioShort_rights (i : Fin 32) (s : Rc8) : (dioShort i s).nv.rights = s.nv.rights := by simp [dioShort]

@[simp] theorem dioThermal_rights (i : Fin 32) (s : Rc8) : (dioThermal i s).nv.rights = s.nv.rights := by simp [dioThermal]

@[simp] theorem thermalRestart_rights (i : Fin 32) (s : Rc8) : (thermalRestart i s).nv.rights = s.nv.rights := by simp [thermalRestart]

@[simp] theorem dioOpenLoad_rights (i : Fin 32) (s : Rc8) : (dioOpenLoad i s).nv.rights = s.nv.rights := by simp [dioOpenLoad]

@[simp] theorem faultEnds_rights (i : Fin 32) (dioOpenLoad : Bool) (s : Rc8) : (faultEnds i dioOpenLoad s).nv.rights = s.nv.rights := by first | rfl

@[simp] theorem supplyChanged_rights (f : Fin 2) (v : Nat) (s : Rc8) : (supplyChanged f v s).nv.rights = s.nv.rights := by simp [supplyChanged]

@[simp] theorem readbackFault_rights (i : Fin 32) (kind who : Nat) (s : Rc8) : (readbackFault i kind who s).nv.rights = s.nv.rights := by simp [readbackFault]

@[simp] theorem readbackOwn_rights (x : FieldSample) (s : Rc8) (i : Fin 32) : (readbackOwn x s i).nv.rights = s.nv.rights := by simp [readbackOwn]

@[simp] theorem readbackStandby_rights (x : FieldSample) (s : Rc8) (i : Fin 32) : (readbackStandby x s i).nv.rights = s.nv.rights := by simp [readbackStandby]

@[simp] theorem sampleField_rights (x : FieldSample) (s : Rc8) : (sampleField x s).nv.rights = s.nv.rights := by
  unfold sampleField
  simp only [modFfe_rights]
  refine (foldl_rights _ (fun _ _ => ?_) _ _).trans ?_
  · split <;> simp
  · simp

@[simp] theorem fieldPower_rights (s : Rc8) : (fieldPower s).nv.rights = s.nv.rights := by first | rfl

@[simp] theorem effDioConfigure_rights (r : List Byte) (s : Rc8) : (effDioConfigure r s).nv.rights = s.nv.rights := by simp [effDioConfigure]

@[simp] theorem effDioReset_rights (r : List Byte) (s : Rc8) : (effDioReset r s).nv.rights = s.nv.rights := by simp [effDioReset]

@[simp] theorem ownDioReset_rights (port : Nat) (r : List Byte) (s : Rc8) : (ownDioReset port r s).nv.rights = s.nv.rights := by simp [ownDioReset]

@[simp] theorem dioReset_rights (e : Exec) (s : Rc8) : (dioReset e s).nv.rights = s.nv.rights := by simp [dioReset]

/-! ### Machine/Loops.lean -/

@[simp] theorem modLoop_rights (c : Fin 8) (f : Loop → Loop) (s : Rc8) : (modLoop c f s).nv.rights = s.nv.rights := by first | rfl

@[simp] theorem setLoopHold_rights (c : Fin 8) (on : Bool) (s : Rc8) : (setLoopHold c on s).nv.rights = s.nv.rights := by first | rfl

@[simp] theorem loopsSettle_rights (s : Rc8) : (loopsSettle s).nv.rights = s.nv.rights := by
  unfold loopsSettle
  refine foldl_rights _ (fun _ _ => ?_) _ _
  split <;> simp

@[simp] theorem loopsHold_rights (s : Rc8) : (loopsHold s).nv.rights = s.nv.rights := by first | rfl

@[simp] theorem overcurrentRelease_rights (c : Fin 8) (s : Rc8) : (overcurrentRelease c s).nv.rights = s.nv.rights := by
  unfold overcurrentRelease; (repeat' (first | rfl | (simp; done) | split))

@[simp] theorem holdRetry_rights (c : Fin 8) (s : Rc8) : (holdRetry c s).nv.rights = s.nv.rights := by
  unfold holdRetry; (repeat' (first | rfl | (simp; done) | split))

@[simp] theorem settlingEnd_rights (c : Fin 8) (s : Rc8) : (settlingEnd c s).nv.rights = s.nv.rights := by
  unfold settlingEnd; (repeat' (first | rfl | (simp; done) | split))

@[simp] theorem captureTake_rights (c : Fin 8) (i : Int) (s : Rc8) : (captureTake c i s).nv.rights = s.nv.rights := by first | rfl

@[simp] theorem loopConversion_rights (c : Fin 8) (x : LoopSample) (s : Rc8) : (loopConversion c x s).nv.rights = s.nv.rights := by simp [loopConversion]

@[simp] theorem leaveTrim_rights (cause : Nat) (s : Rc8) : (leaveTrim cause s).nv.rights = s.nv.rights := by
  unfold leaveTrim; (repeat' (first | rfl | (simp; done) | split))

@[simp] theorem flashes_rights (fault : Bool) (s : Rc8) : (flashes fault s).nv.rights = s.nv.rights := by first | rfl

@[simp] theorem enterTrim_rights (s : Rc8) : (enterTrim s).nv.rights = s.nv.rights := by
  unfold enterTrim; (repeat' (first | rfl | (simp; done) | split))

@[simp] theorem selPress_rights (ms : Nat) (s : Rc8) : (selPress ms s).nv.rights = s.nv.rights := by
  unfold selPress; (repeat' (first | rfl | (simp; done) | split))

@[simp] theorem setPress_rights (ms : Nat) (s : Rc8) : (setPress ms s).nv.rights = s.nv.rights := by first | rfl

@[simp] theorem storeTrim_rights (c : Nat) (z k : Int) (source why : Nat) (s : Rc8) : (storeTrim c z k source why s).nv.rights = s.nv.rights := by first | rfl

@[simp] theorem trimRefused_rights (c step mean : Nat) (s : Rc8) : (trimRefused c step mean s).nv.rights = s.nv.rights := by first | rfl

@[simp] theorem captureDone_rights (s : Rc8) : (captureDone s).nv.rights = s.nv.rights := by
  unfold captureDone; (repeat' (first | rfl | (simp; done) | split))

@[simp] theorem trimTimeout_rights (s : Rc8) : (trimTimeout s).nv.rights = s.nv.rights := by
  unfold trimTimeout; (repeat' (first | rfl | (simp; done) | split))

@[simp] theorem effLoopConfigure_rights (r : List Byte) (s : Rc8) : (effLoopConfigure r s).nv.rights = s.nv.rights := by simp [effLoopConfigure]

@[simp] theorem loopTrim_rights (stored : Bool) (e : Exec) (s : Rc8) : (loopTrim stored e s).nv.rights = s.nv.rights := by simp [loopTrim]

/-! ### Machine/Token.lean -/

@[simp] theorem seeEpoch_rights (e : Nat) (s : Rc8) : (seeEpoch e s).nv.rights = s.nv.rights := by simp [seeEpoch]

@[simp] theorem loadHolder_rights (s : Rc8) : (loadHolder s).nv.rights = s.nv.rights := by first | rfl

@[simp] theorem loadStandby_rights (s : Rc8) : (loadStandby s).nv.rights = s.nv.rights := by first | rfl

@[simp] theorem partnerPresent_rights (path : Nat) (s : Rc8) : (partnerPresent path s).nv.rights = s.nv.rights := by simp [partnerPresent]

@[simp] theorem partnerAbsent_rights (s : Rc8) : (partnerAbsent s).nv.rights = s.nv.rights := by simp [partnerAbsent]

@[simp] theorem stepEnds_rights (k : Nat) (s : Rc8) : (stepEnds k s).nv.rights = s.nv.rights := by simp [stepEnds]

@[simp] theorem stepsAdvance_rights (s : Rc8) : (stepsAdvance s).nv.rights = s.nv.rights := by simp [stepsAdvance]

@[simp] theorem settle_rights (s : Rc8) : (settle s).nv.rights = s.nv.rights := by first | rfl

@[simp] theorem gainReady_rights (s : Rc8) : (gainReady s).nv.rights = s.nv.rights := by simp [gainReady]

@[simp] theorem loseReady_rights (s : Rc8) : (loseReady s).nv.rights = s.nv.rights := by first | rfl

@[simp] theorem updateReady_rights (s0 : Rc8) : (updateReady s0).nv.rights = s0.nv.rights := by
  unfold updateReady; dsimp only; (repeat' (first | rfl | (simp; done) | (refine (foldl_rights _ (fun _ _ => ?_) _ _).trans ?_) | split))

@[simp] theorem sendItems_rights (l : List CopyItem) (s : Rc8) : (sendItems l s).nv.rights = s.nv.rights := by simp [sendItems]

@[simp] theorem sendTransfer_rights (s : Rc8) : (sendTransfer s).nv.rights = s.nv.rights := by simp [sendTransfer]

@[simp] theorem copyPass_rights (s : Rc8) : (copyPass s).nv.rights = s.nv.rights := by simp [copyPass]

@[simp] theorem firstPass_rights (s : Rc8) : (firstPass s).nv.rights = s.nv.rights := by simp [firstPass]

@[simp] theorem startResync_rights (cause : Nat) (s : Rc8) : (startResync cause s).nv.rights = s.nv.rights := by simp [startResync]

@[simp] theorem resumeResync_rights (s : Rc8) : (resumeResync s).nv.rights = s.nv.rights := by simp [resumeResync]

@[simp] theorem suspendResync_rights (s : Rc8) : (suspendResync s).nv.rights = s.nv.rights := by simp [suspendResync]

@[simp] theorem endHand_rights (h : Handover) (st : Status) (s : Rc8) : (endHand h st s).nv.rights = s.nv.rights := by
  unfold endHand; (repeat' (first | rfl | (simp; done) | split))

@[simp] theorem abandonHand_rights (cause : Nat) (st : Status) (s : Rc8) : (abandonHand cause st s).nv.rights = s.nv.rights := by
  unfold abandonHand; (repeat' (first | rfl | (simp; done) | split))

@[simp] theorem fixHandover_rights (s : Rc8) : (fixHandover s).nv.rights = s.nv.rights := by
  unfold fixHandover; (repeat' (first | rfl | (simp; done) | split))

@[simp] theorem requestHandover_rights (by_ : HandBy) (notBefore ms : Nat) (s : Rc8) : (requestHandover by_ notBefore ms s).nv.rights = s.nv.rights := by simp [requestHandover]

@[simp] theorem commitHandover_rights (s : Rc8) : (commitHandover s).nv.rights = s.nv.rights := by
  unfold commitHandover; (repeat' (first | rfl | (simp; done) | split))

@[simp] theorem becomeStandby_rights (s : Rc8) : (becomeStandby s).nv.rights = s.nv.rights := by simp [becomeStandby]

@[simp] theorem releaseToken_rights (cause : Nat) (s : Rc8) : (releaseToken cause s).nv.rights = s.nv.rights := by simp [releaseToken]

@[simp] theorem tokenFault_rights (s : Rc8) : (tokenFault s).nv.rights = s.nv.rights := by
  unfold tokenFault; (repeat' (first | rfl | (simp; done) | split))

@[simp] theorem enterUnclaimed_rights (s : Rc8) : (enterUnclaimed s).nv.rights = s.nv.rights := by simp [enterUnclaimed]

@[simp] theorem takeoverRefused_rights (why : Nat) (s : Rc8) : (takeoverRefused why s).nv.rights = s.nv.rights := by first | rfl

@[simp] theorem newEpoch_rights (s : Rc8) : (newEpoch s).nv.rights = s.nv.rights := by first | rfl

@[simp] theorem startLease_rights (s : Rc8) : (startLease s).nv.rights = s.nv.rights := by first | rfl

@[simp] theorem launchNow_rights (s : Rc8) : (launchNow s).nv.rights = s.nv.rights := by first | rfl

@[simp] theorem beginHolding_rights (cause gap : Nat) (s : Rc8) : (beginHolding cause gap s).nv.rights = s.nv.rights := by simp [beginHolding]

@[simp] theorem takeToken_rights (cause : Nat) (s : Rc8) : (takeToken cause s).nv.rights = s.nv.rights := by simp [takeToken]

@[simp] theorem takeAtBoundary_rights (s : Rc8) : (takeAtBoundary s).nv.rights = s.nv.rights := by
  unfold takeAtBoundary; (repeat' (first | rfl | (simp; done) | split))

@[simp] theorem handoverBoundary_rights (s : Rc8) : (handoverBoundary s).nv.rights = s.nv.rights := by
  unfold handoverBoundary; dsimp only; (repeat' (first | rfl | (simp; done) | (refine (foldl_rights _ (fun _ _ => ?_) _ _).trans ?_) | split))

@[simp] theorem handoverPoint_rights (s : Rc8) : (handoverPoint s).nv.rights = s.nv.rights := by
  unfold handoverPoint; (repeat' (first | rfl | (simp; done) | split))

@[simp] theorem leaseTimerOut_rights (s0 : Rc8) : (leaseTimerOut s0).nv.rights = s0.nv.rights := by
  unfold leaseTimerOut; dsimp only; (repeat' (first | rfl | (simp; done) | (refine (foldl_rights _ (fun _ _ => ?_) _ _).trans ?_) | split))

theorem claimStart_rights (s : Rc8) : (claim.startAtClaim s).nv.rights = s.nv.rights := by
  unfold claim.startAtClaim
  dsimp only
  split <;> (try split) <;> simp

@[simp] theorem claim_rights (s : Rc8) : (claim s).nv.rights = s.nv.rights := by
  unfold claim
  dsimp only
  split <;> simp [claimStart_rights]

@[simp] theorem partnerSilent_rights (s : Rc8) : (partnerSilent s).nv.rights = s.nv.rights := by simp [partnerSilent]

@[simp] theorem homeReclaim_rights (s : Rc8) : (homeReclaim s).nv.rights = s.nv.rights := by
  unfold homeReclaim; (repeat' (first | rfl | (simp; done) | split))

@[simp] theorem crossoverWaitLimit_rights (s : Rc8) : (crossoverWaitLimit s).nv.rights = s.nv.rights := by
  unfold crossoverWaitLimit; (repeat' (first | rfl | (simp; done) | split))

@[simp] theorem insertionTimeout_rights (s : Rc8) : (insertionTimeout s).nv.rights = s.nv.rights := by
  unfold insertionTimeout; (repeat' (first | rfl | (simp; done) | split))

@[simp] theorem resyncSlow_rights (s : Rc8) : (resyncSlow s).nv.rights = s.nv.rights := by simp [resyncSlow]

@[simp] theorem crossoverRequest_rights (e : Exec) (s : Rc8) : (crossoverRequest e s).nv.rights = s.nv.rights := by simp [crossoverRequest]

@[simp] theorem effSetHome_rights (r : List Byte) (s : Rc8) : (effSetHome r s).nv.rights = s.nv.rights := by simp [effSetHome]

@[simp] theorem ownSetHome_rights (port : Nat) (r : List Byte) (s : Rc8) : (ownSetHome port r s).nv.rights = s.nv.rights := by simp [ownSetHome]

@[simp] theorem setHome_rights (stored : Bool) (e : Exec) (s : Rc8) : (setHome stored e s).nv.rights = s.nv.rights := by simp [setHome]

@[simp] theorem pairResync_rights (e : Exec) (s : Rc8) : (pairResync e s).nv.rights = s.nv.rights := by simp [pairResync]

/-! ### Machine/Access.lean -/

@[simp] theorem pairFault_rights (s : Rc8) : (pairFault s).nv.rights = s.nv.rights := by simp [pairFault]

@[simp] theorem logViolation_rights (x : AsvEntry) (s : Rc8) : (logViolation x s).nv.rights = s.nv.rights := by first | rfl

@[simp] theorem raiseViolation_rights (x : AsvEntry) (s : Rc8) : (raiseViolation x s).nv.rights = s.nv.rights := by simp [raiseViolation]

@[simp] theorem svpStops_rights (s : Rc8) : (svpStops s).nv.rights = s.nv.rights := by first | rfl

@[simp] theorem freeze_rights (m : Nat) (s : Rc8) : (freeze m s).nv.rights = s.nv.rights := by first | rfl

@[simp] theorem masterReleased_rights (m how port : Nat) (s : Rc8) : (masterReleased m how port s).nv.rights = s.nv.rights := by first | rfl

@[simp] theorem offender_rights (x : AsvEntry) (s : Rc8) : (offender x s).nv.rights = s.nv.rights := by simp [offender]

@[simp] theorem allowed_rights (x : Transaction) (s : Rc8) : (allowed x s).nv.rights = s.nv.rights := by
  unfold allowed; (repeat' (first | rfl | (simp; done) | split))

@[simp] theorem accessCheck_rights (x : Transaction) (s : Rc8) : (accessCheck x s).nv.rights = s.nv.rights := by
  unfold accessCheck; (repeat' (first | rfl | (simp; done) | split))

@[simp] theorem ruleLate_rights (ns : Nat) (s : Rc8) : (ruleLate ns s).nv.rights = s.nv.rights := by
  unfold ruleLate; (repeat' (first | rfl | (simp; done) | split))

@[simp] theorem acuRelease_rights (e : Exec) (s : Rc8) : (acuRelease e s).nv.rights = s.nv.rights := by first | rfl

/-! ### Machine/Apply.lean -/

@[simp] theorem effSwitchRound_rights (r : List Byte) (round : Nat) (s : Rc8) : (effSwitchRound r round s).nv.rights = s.nv.rights := by simp [effSwitchRound]

@[simp] theorem commandBoth_rights (code : Nat) (r : List Byte) (s : Rc8) : (commandBoth code r s).nv.rights = s.nv.rights := by
  unfold commandBoth; (repeat' (first | rfl | (simp; done) | split))

@[simp] theorem commandOwn_rights (code : Nat) (r : List Byte) (p : Fin 4) (s : Rc8) : (commandOwn code r p s).nv.rights = s.nv.rights := by
  unfold commandOwn; (repeat' (first | rfl | (simp; done) | split))

@[simp] theorem commandPartner_rights (code : Nat) (r : List Byte) (round : Nat) (s : Rc8) : (commandPartner code r round s).nv.rights = s.nv.rights := by
  unfold commandPartner; (repeat' (first | rfl | (simp; done) | split))

@[simp] theorem opOwn_rights (op : PairOp) (p : Fin 4) (s : Rc8) : (opOwn op p s).nv.rights = s.nv.rights := by
  unfold opOwn; (repeat' (first | rfl | (simp; done) | split))

@[simp] theorem opPartner_rights (op : PairOp) (round : Nat) (s : Rc8) : (opPartner op round s).nv.rights = s.nv.rights := by
  unfold opPartner; (repeat' (first | rfl | (simp; done) | split))

@[simp] theorem opFails_rights (op : PairOp) (s : Rc8) : (opFails op s).nv.rights = s.nv.rights := by
  unfold opFails; (repeat' (first | rfl | (simp; done) | split))

@[simp] theorem opDropped_rights (op : PairOp) (s : Rc8) : (opDropped op s).nv.rights = s.nv.rights := by simp [opDropped]

@[simp] theorem opDone_rights (op : PairOp) (s : Rc8) : (opDone op s).nv.rights = s.nv.rights := by simp [opDone]

@[simp] theorem dropOp_rights (x : PendOp) (s : Rc8) : (dropOp x s).nv.rights = s.nv.rights := by first | rfl

@[simp] theorem dueOwn_rights (x : PendOp) (s : Rc8) : (dueOwn x s).nv.rights = s.nv.rights := by
  unfold dueOwn; (repeat' (first | rfl | (simp; done) | split))

@[simp] theorem duePartner_rights (x : PendOp) (s : Rc8) : (duePartner x s).nv.rights = s.nv.rights := by
  unfold duePartner; (repeat' (first | rfl | (simp; done) | split))

@[simp] theorem takeDue_rights (engine : Bool) (round : Nat) (s : Rc8) : (takeDue engine round s).nv.rights = s.nv.rights := by simp [takeDue]

@[simp] theorem applyDue_rights (round : Nat) (s : Rc8) : (applyDue round s).nv.rights = s.nv.rights := by simp [applyDue]

@[simp] theorem applyEngine_rights (s : Rc8) : (applyEngine s).nv.rights = s.nv.rights := by simp [applyEngine]

@[simp] theorem opRefused_rights (x : PendOp) (s : Rc8) : (opRefused x s).nv.rights = s.nv.rights := by
  unfold opRefused; (repeat' (first | rfl | (simp; done) | split))

@[simp] theorem opStored_rights (op : PairOp) (s : Rc8) : (opStored op s).nv.rights = s.nv.rights := by
  unfold opStored; (repeat' (first | rfl | (simp; done) | split))

@[simp] theorem opConfirmed_rights (x : PendOp) (s : Rc8) : (opConfirmed x s).nv.rights = s.nv.rights := by
  unfold opConfirmed; (repeat' (first | rfl | (simp; done) | split))

@[simp] theorem deleteConfirmed_rights (seq : Nat) (ok : Bool) (s : Rc8) : (deleteConfirmed seq ok s).nv.rights = s.nv.rights := by first | rfl

@[simp] theorem applyConfirmed_rights (seq : Nat) (ok : Bool) (s : Rc8) : (applyConfirmed seq ok s).nv.rights = s.nv.rights := by
  unfold applyConfirmed; (repeat' (first | rfl | (simp; done) | split))

@[simp] theorem opsUnconfirmed_rights (s : Rc8) : (opsUnconfirmed s).nv.rights = s.nv.rights := by simp [opsUnconfirmed]

@[simp] theorem joinOp_rights (seq : Nat) (op : PairOp) (round : Nat) (s : Rc8) : (joinOp seq op round s).nv.rights = s.nv.rights := by simp [joinOp]

@[simp] theorem dropSteps_rights (s : Rc8) : (dropSteps s).nv.rights = s.nv.rights := by first | rfl

@[simp] theorem waymarkOp_rights (round : Nat) (s : Rc8) : (waymarkOp round s).nv.rights = s.nv.rights := by simp [waymarkOp]

@[simp] theorem applyOp_rights (seq : Nat) (op : PairOp) (round : Nat) (stored : Bool) (s : Rc8) : (applyOp seq op round stored s).nv.rights = s.nv.rights := by
  unfold applyOp; (repeat' (first | rfl | (simp; done) | split))

/-! ### Machine/PairLink.lean -/

@[simp] theorem plkCrcError_rights (type : Nat) (s : Rc8) : (plkCrcError type s).nv.rights = s.nv.rights := by simp [plkCrcError]

@[simp] theorem plkAck_rights (type : Nat) (h : PlkHdr) (s : Rc8) : (plkAck type h s).nv.rights = s.nv.rights := by first | rfl

@[simp] theorem plkReceive_rights (type : Nat) (h : PlkHdr) (f : Rc8 → Rc8) (s : Rc8) (h_f : ∀ x0, (f x0).nv.rights = x0.nv.rights) : (plkReceive type h f s).nv.rights = s.nv.rights := by simp [plkReceive, h_f]

@[simp] theorem windowPresence_rights (path : PairPath) (s : Rc8) : (windowPresence path s).nv.rights = s.nv.rights := by
  unfold windowPresence; (repeat' (first | rfl | (simp; done) | split))

@[simp] theorem claimRecord_rights (r : LeaseRec) (s : Rc8) : (claimRecord r s).nv.rights = s.nv.rights := by simp [claimRecord]

@[simp] theorem releaseRecord_rights (seen : Nat) (r : LeaseRec) (s : Rc8) : (releaseRecord seen r s).nv.rights = s.nv.rights := by
  unfold releaseRecord; (repeat' (first | rfl | (simp; done) | split))

@[simp] theorem dualHolder_rights (r : LeaseRec) (what : Nat) (s : Rc8) : (dualHolder r what s).nv.rights = s.nv.rights := by first | rfl

@[simp] theorem stepDown_rights (r : LeaseRec) (s : Rc8) : (stepDown r s).nv.rights = s.nv.rights := by simp [stepDown]

@[simp] theorem rivalRecord_rights (r : LeaseRec) (s : Rc8) : (rivalRecord r s).nv.rights = s.nv.rights := by simp [rivalRecord]

@[simp] theorem unplannedTaken_rights (r : LeaseRec) (s : Rc8) : (unplannedTaken r s).nv.rights = s.nv.rights := by
  unfold unplannedTaken; (repeat' (first | rfl | (simp; done) | split))

@[simp] theorem standbyRenewal_rights (r : LeaseRec) (s : Rc8) : (standbyRenewal r s).nv.rights = s.nv.rights := by
  unfold standbyRenewal; (repeat' (first | rfl | (simp; done) | split))

@[simp] theorem renewalRecord_rights (seen : Nat) (r : LeaseRec) (s : Rc8) : (renewalRecord seen r s).nv.rights = s.nv.rights := by
  unfold renewalRecord; (repeat' (first | rfl | (simp; done) | split))

@[simp] theorem partnerKey_rights (k : Nat) (s : Rc8) : (partnerKey k s).nv.rights = s.nv.rights := by simp [partnerKey]

@[simp] theorem recordReceived_rights (path : PairPath) (r : LeaseRec) (s0 : Rc8) : (recordReceived path r s0).nv.rights = s0.nv.rights := by
  unfold recordReceived; (repeat' (first | rfl | (simp; done) | split))

@[simp] theorem answerReceived_rights (path : PairPath) (a : LeaseAns) (s0 : Rc8) : (answerReceived path a s0).nv.rights = s0.nv.rights := by simp [answerReceived]

@[simp] theorem leaseReceived_rights (path : PairPath) (h : PlkHdr) (m : LeaseMsg) (s : Rc8) : (leaseReceived path h m s).nv.rights = s.nv.rights := by
  unfold leaseReceived; (repeat' (first | rfl | (simp; done) | split))

@[simp] theorem digestMismatch_rights (d : DigestRec) (path : Nat) (s : Rc8) : (digestMismatch d path s).nv.rights = s.nv.rights := by simp [digestMismatch]

@[simp] theorem compareDigest_rights (path : Nat) (s : Rc8) (d : DigestRec) : (compareDigest path s d).nv.rights = s.nv.rights := by
  unfold compareDigest; (repeat' (first | rfl | (simp; done) | split))

@[simp] theorem forwarded_rights (h : PlkHdr) (f : Rc8 → Rc8) (s : Rc8) (h_f : ∀ x0, (f x0).nv.rights = x0.nv.rights) : (forwarded h f s).nv.rights = s.nv.rights := by simp [forwarded, h_f]

@[simp] theorem roundInputs_rights (last : Bool) (setpoint : Nat) (states : List (Nat × Nat × Nat × Nat)) (field : List Byte) (groups : BitVec 16) (s : Rc8) : (roundInputs last setpoint states field groups s).nv.rights = s.nv.rights := by first | rfl

@[simp] theorem debugRelease_rights (m : RelMsg) (s : Rc8) : (debugRelease m s).nv.rights = s.nv.rights := by
  unfold debugRelease; dsimp only; (repeat' (first | rfl | (simp; done) | (refine (foldl_rights _ (fun _ _ => ?_) _ _).trans ?_) | split))

@[simp] theorem releaseReceived_rights (round : Nat) (m : RelMsg) (s : Rc8) : (releaseReceived round m s).nv.rights = s.nv.rights := by simp [releaseReceived]

@[simp] theorem serviceReceived_rights (task : Nat) (data : List Byte) (s : Rc8) : (serviceReceived task data s).nv.rights = s.nv.rights := by simp [serviceReceived]

@[simp] theorem sendMap_rights (n : Fin 2) (s : Rc8) : (sendMap n s).nv.rights = s.nv.rights := by simp [sendMap]

@[simp] theorem sendMaps_rights (s : Rc8) : (sendMaps s).nv.rights = s.nv.rights := by simp [sendMaps]

@[simp] theorem mergeMap_rights (n : Fin 2) (whole : Bool) (l : List Neighbour) (s : Rc8) : (mergeMap n whole l s).nv.rights = s.nv.rights := by simp [mergeMap]

@[simp] theorem takeChange_rights (c : Change) (s : Rc8) : (takeChange c s).nv.rights = s.nv.rights := by simp [takeChange]

@[simp] theorem takeTask_rights (t : Fin 8) (x : Task) (s : Rc8) : (takeTask t x s).nv.rights = s.nv.rights := by first | rfl

@[simp] theorem takeItem_rights (s : Rc8) (i : CopyItem) : (takeItem s i).nv.rights = s.nv.rights := by
  unfold takeItem; (repeat' (first | rfl | (simp; done) | split))

@[simp] theorem takeItems_rights (items : List CopyItem) (s : Rc8) : (takeItems items s).nv.rights = s.nv.rights := by simp [takeItems]

@[simp] theorem copyFailed_rights (s : Rc8) : (copyFailed s).nv.rights = s.nv.rights := by simp [copyFailed]

@[simp] theorem stateCopy_rights (items : List CopyItem) (verified : Bool) (s : Rc8) : (stateCopy items verified s).nv.rights = s.nv.rights := by simp [stateCopy]

@[simp] theorem takeMode_rights (s : Rc8) : (takeMode s).nv.rights = s.nv.rights := by simp [takeMode]

@[simp] theorem resyncDone_rights (round : Nat) (s : Rc8) : (resyncDone round s).nv.rights = s.nv.rights := by simp [resyncDone]

@[simp] theorem copyDone_rights (round : Nat) (final : Bool) (pages : Nat) (s : Rc8) : (copyDone round final pages s).nv.rights = s.nv.rights := by
  unfold copyDone; (repeat' (first | rfl | (simp; done) | split))

@[simp] theorem copyDoneEvent_rights (h : PlkHdr) (final : Bool) (pages : Nat) (s : Rc8) : (copyDoneEvent h final pages s).nv.rights = s.nv.rights := by simp [copyDoneEvent]

@[simp] theorem copiedConfirm_rights (ok : Bool) (s : Rc8) : (copiedConfirm ok s).nv.rights = s.nv.rights := by simp [copiedConfirm]

@[simp] theorem waymarkConfirm_rights (round : Nat) (ok : Bool) (s : Rc8) : (waymarkConfirm round ok s).nv.rights = s.nv.rights := by simp [waymarkConfirm]

@[simp] theorem confirmReceived_rights (c : ConfirmMsg) (s : Rc8) : (confirmReceived c s).nv.rights = s.nv.rights := by
  unfold confirmReceived; (repeat' (first | rfl | (simp; done) | split))

@[simp] theorem plkDown_rights (cause : Nat) (s : Rc8) : (plkDown cause s).nv.rights = s.nv.rights := by simp [plkDown]

@[simp] theorem plkLost_rights (lockLost : Bool) (s : Rc8) : (plkLost lockLost s).nv.rights = s.nv.rights := by simp [plkLost]

@[simp] theorem keepaliveSend_rights (s : Rc8) : (keepaliveSend s).nv.rights = s.nv.rights := by simp [keepaliveSend]

@[simp] theorem retransmit_rights (s : Rc8) : (retransmit s).nv.rights = s.nv.rights := by
  unfold retransmit; (repeat' (first | rfl | (simp; done) | split))

@[simp] theorem resendDelete_rights (n : Fin 2) (s : Rc8) (id : Nat) : (resendDelete n s id).nv.rights = s.nv.rights := by simp [resendDelete]

@[simp] theorem resendDeletes_rights (s : Rc8) : (resendDeletes s).nv.rights = s.nv.rights := by simp [resendDeletes]

@[simp] theorem compatibility_rights (level : Nat) (splitEqual : Bool) (s : Rc8) : (compatibility level splitEqual s).nv.rights = s.nv.rights := by simp [compatibility]

@[simp] theorem plkUp_rights (lanes ms level : Nat) (splitEqual equal : Bool) (s : Rc8) : (plkUp lanes ms level splitEqual equal s).nv.rights = s.nv.rights := by simp [plkUp]

@[simp] theorem laneDegraded_rights (lane : Fin 2) (s : Rc8) : (laneDegraded lane s).nv.rights = s.nv.rights := by simp [laneDegraded]

/-! ### Machine/Mgmt.lean -/

@[simp] theorem addWork_rights (n : Fin 2) (l : List MgmtWork) (s : Rc8) : (addWork n l s).nv.rights = s.nv.rights := by first | rfl

@[simp] theorem mapChanged_rights (n : Fin 2) (s : Rc8) : (mapChanged n s).nv.rights = s.nv.rights := by simp [mapChanged]

@[simp] theorem offerPartner_rights (n : Fin 2) (s : Rc8) : (offerPartner n s).nv.rights = s.nv.rights := by
  unfold offerPartner; (repeat' (first | rfl | (simp; done) | split))

@[simp] theorem takeRequest_rights (n : Fin 2) (s0 : Rc8) : (takeRequest n s0).nv.rights = s0.nv.rights := by simp [takeRequest]

@[simp] theorem advanceStops_rights (n : Fin 2) (s : Rc8) : (advanceStops n s).nv.rights = s.nv.rights := by
  unfold advanceStops; (repeat' (first | rfl | (simp; done) | split))

@[simp] theorem mgmtDeferred_rights (n : Fin 2) (deferred : BitVec 2) (s : Rc8) : (mgmtDeferred n deferred s).nv.rights = s.nv.rights := by simp [mgmtDeferred]

@[simp] theorem mgmtLaunch_rights (n : Fin 2) (deferred : BitVec 2) (s : Rc8) : (mgmtLaunch n deferred s).nv.rights = s.nv.rights := by
  unfold mgmtLaunch; (repeat' (first | rfl | (simp; done) | split))

@[simp] theorem withdrawHandover_rights (s : Rc8) : (withdrawHandover s).nv.rights = s.nv.rights := by
  unfold withdrawHandover; (repeat' (first | rfl | (simp; done) | split))

@[simp] theorem leaseOnce_rights (s : Rc8) : (leaseOnce s).nv.rights = s.nv.rights := by
  unfold leaseOnce; dsimp only; (repeat' (first | rfl | (simp; done) | (refine (foldl_rights _ (fun _ _ => ?_) _ _).trans ?_) | split))

@[simp] theorem reloadLease_rights (n : Fin 2) (deferred : BitVec 2) (s : Rc8) : (reloadLease n deferred s).nv.rights = s.nv.rights := by simp [reloadLease]

@[simp] theorem handoverNow_rights (s : Rc8) : (handoverNow s).nv.rights = s.nv.rights := by
  unfold handoverNow; (repeat' (first | rfl | (simp; done) | split))

@[simp] theorem linkExchanges_rights (n c : Fin 2) (s : Rc8) : (linkExchanges n c s).nv.rights = s.nv.rights := by simp [linkExchanges]

@[simp] theorem mgmtOpen_rights (n : Fin 2) (deferred : BitVec 2) (s : Rc8) : (mgmtOpen n deferred s).nv.rights = s.nv.rights := by simp [mgmtOpen]

@[simp] theorem partnerReply_rights (n : Fin 2) (c : Fin 2) (firstHere : Bool) (r : LeaseRec) (s : Rc8) : (partnerReply n c firstHere r s).nv.rights = s.nv.rights := by simp [partnerReply]

@[simp] theorem holderFrame_rights (n c : Fin 2) (first firstHere : Bool) (f : BudanCopy) (s : Rc8) : (holderFrame n c first firstHere f s).nv.rights = s.nv.rights := by
  unfold holderFrame; (repeat' (first | rfl | (simp; done) | split))

@[simp] theorem replyFrame_rights (first : Bool) (b : List Byte) (s : Rc8) : (replyFrame first b s).nv.rights = s.nv.rights := by simp [replyFrame]

@[simp] theorem mgmtCopy_rights (n c : Fin 2) (first firstHere : Bool) (f : BudanCopy) (s : Rc8) : (mgmtCopy n c first firstHere f s).nv.rights = s.nv.rights := by simp [mgmtCopy]

@[simp] theorem forwardWindows_rights (n : Fin 2) (before : List (Option Chosen)) (s : Rc8) : (forwardWindows n before s).nv.rights = s.nv.rights := by simp [forwardWindows]

@[simp] theorem switchSlots_rights (b s : Rc8) : (switchSlots b s).nv.rights = s.nv.rights := by
  unfold switchSlots
  refine foldl_rights _ (fun _ _ => ?_) _ _
  split <;> (try split) <;> simp

@[simp] theorem budanCopy_rights (n : Fin 2) (port : Fin 4) (f : BudanCopy) (s : Rc8) : (budanCopy n port f s).nv.rights = s.nv.rights := by simp [budanCopy]

/-! ### Machine/Cycle.lean -/

@[simp] theorem firstLaunch_rights (n : Fin 2) (s : Rc8) : (firstLaunch n s).nv.rights = s.nv.rights := by
  unfold firstLaunch; (repeat' (first | rfl | (simp; done) | split))

@[simp] theorem openBanks_rights (s : Rc8) : (openBanks s).nv.rights = s.nv.rights := by simp [openBanks]

@[simp] theorem syncBoundary_rights (s : Rc8) : (syncBoundary s).nv.rights = s.nv.rights := by simp [syncBoundary]

@[simp] theorem shadowFault_rights (s : Rc8) : (shadowFault s).nv.rights = s.nv.rights := by simp [shadowFault]

@[simp] theorem engineRecovers_rights (passed : Bool) (s : Rc8) : (engineRecovers passed s).nv.rights = s.nv.rights := by simp [engineRecovers]

@[simp] theorem pairBoundary_rights (s : Rc8) : (pairBoundary s).nv.rights = s.nv.rights := by first | rfl

@[simp] theorem nextRound_rights (s : Rc8) : (nextRound s).nv.rights = s.nv.rights := by first | rfl

theorem net_rights (s : Rc8) (v : Vector Net 2) : ({ s with net := v } : Rc8).nv.rights = s.nv.rights := rfl

@[simp] theorem roundBoundary_rights (s : Rc8) : (roundBoundary s).nv.rights = s.nv.rights := by
  unfold roundBoundary
  rw [updateReady_rights, syncBoundary_rights, foldl_rights _ (fun _ _ => firstLaunch_rights _ _)]
  rw [shadowOn_rights, fixHandover_rights, handoverBoundary_rights, takeAtBoundary_rights,  smlBoundary_rights, openBanks_rights, modFfe_rights, countBare_rights,
   foldl_rights _ (fun _ _ => reflectBoundary_rights _ _), net_rights]
  rw [switchBoundary_rights, switchBoundary_rights, applyModes_rights, applyDue_rights, pairBoundary_rights, nextRound_rights, shadowFault_rights]

@[simp] theorem latchRow_rights (s : Rc8) : (latchRow s).nv.rights = s.nv.rights := by simp [latchRow]

@[simp] theorem sampleRow_rights (x : FieldSample) (s : Rc8) : (sampleRow x s).nv.rights = s.nv.rights := by simp [sampleRow]

@[simp] theorem hostTick_rights (p : Fin 4) (s : Rc8) : (hostTick p s).nv.rights = s.nv.rights := by simp [hostTick]

@[simp] theorem forwardInputs_rights (s : Rc8) : (forwardInputs s).nv.rights = s.nv.rights := by simp [forwardInputs]

@[simp] theorem gatherDown_rights (n : Fin 2) (s : Rc8) : (gatherDown n s).nv.rights = s.nv.rights := by first | rfl

@[simp] theorem gatherDone_rights (n : Fin 2) (s : Rc8) : (gatherDone n s).nv.rights = s.nv.rights := by simp [gatherDone]

@[simp] theorem engineDue_rights (s : Rc8) : (engineDue s).nv.rights = s.nv.rights := by simp [engineDue]

@[simp] theorem engineRow_rights (s : Rc8) : (engineRow s).nv.rights = s.nv.rights := by simp [engineRow]

@[simp] theorem ownInputs_rights (s : Rc8) : (ownInputs s).nv.rights = s.nv.rights := by simp [ownInputs]

@[simp] theorem shadowEngine_rights (s : Rc8) : (shadowEngine s).nv.rights = s.nv.rights := by simp [shadowEngine]

@[simp] theorem shadowRow_rights (s : Rc8) : (shadowRow s).nv.rights = s.nv.rights := by
  unfold shadowRow; (repeat' (first | rfl | (simp; done) | split))

@[simp] theorem publishAxes_rights (s : Rc8) : (publishAxes s).nv.rights = s.nv.rights := by first | rfl

@[simp] theorem engineDoneRow_rights (s : Rc8) : (engineDoneRow s).nv.rights = s.nv.rights := by simp [engineDoneRow]

@[simp] theorem freezeTx_rights (s : Rc8) : (freezeTx s).nv.rights = s.nv.rights := by first | rfl

@[simp] theorem openGap_rights (s : Rc8) : (openGap s).nv.rights = s.nv.rights := by first | rfl

@[simp] theorem commitRow_rights (s : Rc8) : (commitRow s).nv.rights = s.nv.rights := by simp [commitRow]

@[simp] theorem networkDown_rights (n : Fin 2) (s : Rc8) : (networkDown n s).nv.rights = s.nv.rights := by
  unfold networkDown; dsimp only; (repeat' (first | rfl | (simp; done) | (refine (foldl_rights _ (fun _ _ => ?_) _ _).trans ?_) | split))

/-! ### Machine/Integrity.lean -/

@[simp] theorem pairHalted_rights (s : Rc8) : (pairHalted s).nv.rights = s.nv.rights := by simp [pairHalted]

@[simp] theorem svpMismatch_rights (s : Rc8) : (svpMismatch s).nv.rights = s.nv.rights := by first | rfl

@[simp] theorem mismatch_rights (k : Fin 3) (s : Rc8) : (mismatch k s).nv.rights = s.nv.rights := by simp [mismatch]

@[simp] theorem restored_rights (k : Fin 2) (s : Rc8) : (restored k s).nv.rights = s.nv.rights := by simp [restored]

theorem raise_modLs_rights (i : Fin 3) (e : Ev) (s : Rc8) (f : LsPair → LsPair) (t : Nat) : (raise e (modLs i f (atRefosc t s))).nv.rights = s.nv.rights := by
  rw [raise_rights, modLs_rights, atRefosc_rights]

@[simp] theorem lockstepRestoreFailed_rights (k : Fin 2) (s : Rc8) : (lockstepRestoreFailed k s).nv.rights = s.nv.rights := by
  unfold lockstepRestoreFailed
  extract_lets i
  cases h : (s.itg.pairs[i]).endedAt with
  | none => rfl
  | some t => exact raise_modLs_rights i _ s _ _

@[simp] theorem portAnswer_rights (ok : Bool) (s : Rc8) : (portAnswer ok s).nv.rights = s.nv.rights := by first | rfl

@[simp] theorem coreDebug_rights (k : Fin 3) (op : CoreDebug) (s : Rc8) : (coreDebug k op s).nv.rights = s.nv.rights := by
  unfold coreDebug; (repeat' (first | rfl | (simp; done) | split))

@[simp] theorem debugRequest_rights (r : DebugRequest) (s : Rc8) : (debugRequest r s).nv.rights = s.nv.rights := by
  unfold debugRequest; (repeat' (first | rfl | (simp; done) | split))

@[simp] theorem sessionExpiry_rights (s : Rc8) : (sessionExpiry s).nv.rights = s.nv.rights := by
  unfold sessionExpiry; (repeat' (first | rfl | (simp; done) | split))

@[simp] theorem deviceError_rights (d : Fin 5) (s : Rc8) : (deviceError d s).nv.rights = s.nv.rights := by simp [deviceError]

@[simp] theorem countCorrected_rights (area : Fin 13) (double : Bool) (s : Rc8) : (countCorrected area double s).nv.rights = s.nv.rights := by first | rfl

@[simp] theorem areaCorrected_rights (area : Fin 13) (addr : Nat) (double : Bool) (s : Rc8) : (areaCorrected area addr double s).nv.rights = s.nv.rights := by simp [areaCorrected]

@[simp] theorem memoryCorrected_rights (area : Fin 13) (addr : Nat) (err : BitVec 80) (s : Rc8) : (memoryCorrected area addr err s).nv.rights = s.nv.rights := by
  unfold memoryCorrected; (repeat' (first | rfl | (simp; done) | split))

@[simp] theorem axisMemory_rights (a : Fin 256) (s : Rc8) : (axisMemory a s).nv.rights = s.nv.rights := by first | rfl

@[simp] theorem loseSnapshot_rights (a : Fin 256) (slot : Fin 2) (s : Rc8) : (loseSnapshot a slot s).nv.rights = s.nv.rights := by first | rfl

@[simp] theorem poisonBar2_rights (addr : Nat) (s : Rc8) : (poisonBar2 addr s).nv.rights = s.nv.rights := by simp [poisonBar2]

@[simp] theorem objectBad_rights (o : StoredObj) (copy : Fin 2) (s : Rc8) : (objectBad o copy s).nv.rights = s.nv.rights := by
  unfold objectBad; (repeat' (first | rfl | (simp; done) | split))

@[simp] theorem regionFault_rights (area : Fin 13) (addr : Nat) (r : MemRegion) (s : Rc8) : (regionFault area addr r s).nv.rights = s.nv.rights := by
  unfold regionFault; (repeat' (first | rfl | (simp; done) | split))

@[simp] theorem poison_rights (area : Fin 13) (addr : Nat) (r : MemRegion) (s : Rc8) : (poison area addr r s).nv.rights = s.nv.rights := by simp [poison]

@[simp] theorem uncorrectable_rights (area : Fin 13) (addr : Nat) (address : Bool) (r : MemRegion) (s : Rc8) : (uncorrectable area addr address r s).nv.rights = s.nv.rights := by simp [uncorrectable]

@[simp] theorem memoryUncorrectable_rights (area : Fin 13) (addr : Nat) (err : BitVec 80) (fault : BitVec 29) (r : MemRegion) (s : Rc8) : (memoryUncorrectable area addr err fault r s).nv.rights = s.nv.rights := by
  unfold memoryUncorrectable; (repeat' (first | rfl | (simp; done) | split))

@[simp] theorem scrub_rights (area : Fin 13) (s : Rc8) : (scrub area s).nv.rights = s.nv.rights := by simp [scrub]

@[simp] theorem holdsOff_rights (by_ : Nat) (s : Rc8) : (holdsOff by_ s).nv.rights = s.nv.rights := by simp [holdsOff]

@[simp] theorem enterTest_rights (port : Nat) (s : Rc8) : (enterTest port s).nv.rights = s.nv.rights := by simp [enterTest]

@[simp] theorem debugUnlock_rights (e : Exec) (s : Rc8) : (debugUnlock e s).nv.rights = s.nv.rights := by simp [debugUnlock]

@[simp] theorem sessionNow_rights (w : SessWait) (s : Rc8) : (sessionNow w s).nv.rights = s.nv.rights := by
  unfold sessionNow; (repeat' (first | rfl | (simp; done) | split))

@[simp] theorem rulesMet_rights (s : Rc8) : (rulesMet s).nv.rights = s.nv.rights := by simp [rulesMet]

@[simp] theorem ruleComplete_rights (epoch : Nat) (s : Rc8) : (ruleComplete epoch s).nv.rights = s.nv.rights := by simp [ruleComplete]

@[simp] theorem debugLock_rights (e : Exec) (s : Rc8) : (debugLock e s).nv.rights = s.nv.rights := by simp [debugLock]

@[simp] theorem splitSet_rights (stored : Bool) (e : Exec) (s : Rc8) : (splitSet stored e s).nv.rights = s.nv.rights := by simp [splitSet]

@[simp] theorem putBreaks_rights (c : Nat) (l : List Nat) (s : Rc8) : (putBreaks c l s).nv.rights = s.nv.rights := by first | rfl

@[simp] theorem debugBreakpoint_rights (e : Exec) (s : Rc8) : (debugBreakpoint e s).nv.rights = s.nv.rights := by
  unfold debugBreakpoint; (repeat' (first | rfl | (simp; done) | split))

@[simp] theorem debugTask_rights (e : Exec) (s : Rc8) : (debugTask e s).nv.rights = s.nv.rights := by
  unfold debugTask; (repeat' (first | rfl | (simp; done) | split))

@[simp] theorem breakpointReached_rights (t : Fin 8) (step : Bool) (s : Rc8) : (breakpointReached t step s).nv.rights = s.nv.rights := by simp [breakpointReached]

@[simp] theorem debugRead_rights (data : List Byte) (e : Exec) (s : Rc8) : (debugRead data e s).nv.rights = s.nv.rights := by first | rfl

/-! ### Machine/Recorder.lean -/

theorem recLog_rights (s : Rc8) (r : Recorder) (l : RecLog) :
    ({ s with rcd := r, nv := { s.nv with recLog := l } } : Rc8).nv.rights = s.nv.rights := rfl

@[simp] theorem flushCopy_rights (s : Rc8) : (flushCopy s).nv.rights = s.nv.rights := by
  unfold flushCopy
  exact recLog_rights s _ _

@[simp] theorem reportDrops_rights (s : Rc8) : (reportDrops s).nv.rights = s.nv.rights := by simp [reportDrops]

@[simp] theorem flushFailed_rights (cause : Nat) (s : Rc8) : (flushFailed cause s).nv.rights = s.nv.rights := by first | rfl

@[simp] theorem recFlush_rights (result : FlushResult) (s : Rc8) : (recFlush result s).nv.rights = s.nv.rights := by
  unfold recFlush; (repeat' (first | rfl | (simp; done) | split))

@[simp] theorem recSeal_rights (s : Rc8) : (recSeal s).nv.rights = s.nv.rights := by simp [recSeal]

@[simp] theorem recRecover_rights (s : Rc8) : (recRecover s).nv.rights = s.nv.rights := by
  unfold recRecover; (repeat' (first | rfl | (simp; done) | split))

@[simp] theorem recClear_rights (by_ : Nat) (s : Rc8) : (recClear by_ s).nv.rights = s.nv.rights := by first | rfl

@[simp] theorem clearFailed_rights (s : Rc8) : (clearFailed s).nv.rights = s.nv.rights := by first | rfl

/-! ### Machine/Power.lean -/

@[simp] theorem modPwr_rights (f : Power → Power) (s : Rc8) : (modPwr f s).nv.rights = s.nv.rights := by first | rfl

@[simp] theorem feedChanged_rights (f : Fin 2) (v : Nat) (s : Rc8) : (feedChanged f v s).nv.rights = s.nv.rights := by simp [feedChanged]

@[simp] theorem feedLoss_rights (store : Nat) (s : Rc8) : (feedLoss store s).nv.rights = s.nv.rights := by simp [feedLoss]

theorem raise_modPwr_rights (e : Ev) (f : Power → Power) (s : Rc8) (a b : Nat) :
    (raise e (modPwr f { s with nv := { s.nv with commitWait := a, sealTime := b } })).nv.rights = s.nv.rights := by
  rw [raise_rights, modPwr_rights]

theorem recSeal_atRefosc_rights (t : Nat) (s : Rc8) : (recSeal (atRefosc t s)).nv.rights = s.nv.rights := by
  rw [recSeal_rights, atRefosc_rights]

@[simp] theorem powerFlushed_rights (commitWait sealTime : Nat) (s : Rc8) :
    (powerFlushed commitWait sealTime s).nv.rights = s.nv.rights := by
  unfold powerFlushed
  split
  · exact (raise_modPwr_rights _ _ _ _ _).trans (recSeal_atRefosc_rights _ _)
  · rfl

@[simp] theorem feedReturn_rights (us store : Nat) (which : Fin 3) (s : Rc8) : (feedReturn us store which s).nv.rights = s.nv.rights := by simp [feedReturn]

@[simp] theorem measured_rights (store cap : Nat) (s : Rc8) : (measured store cap s).nv.rights = s.nv.rights := by simp [measured]

@[simp] theorem holdupReady_rights (store cap ms : Nat) (s : Rc8) : (holdupReady store cap ms s).nv.rights = s.nv.rights := by simp [holdupReady]

@[simp] theorem holdupTopup_rights (store cap : Nat) (s : Rc8) : (holdupTopup store cap s).nv.rights = s.nv.rights := by simp [holdupTopup]

@[simp] theorem moduleReset_rights (cause : Nat) (s : Rc8) : (moduleReset cause s).nv.rights = s.nv.rights := by first | rfl

@[simp] theorem powerLost_rights (s : Rc8) : (powerLost s).nv.rights = s.nv.rights := by first | rfl

@[simp] theorem watchdogReset_rights (s : Rc8) : (watchdogReset s).nv.rights = s.nv.rights := by first | rfl

/-! ### Machine/Update.lean -/

@[simp] theorem modUpd_rights (f : Update → Update) (s : Rc8) : (modUpd f s).nv.rights = s.nv.rights := by first | rfl

@[simp] theorem updateBegin_rights (e : Exec) (s : Rc8) : (updateBegin e s).nv.rights = s.nv.rights := by simp [updateBegin]

@[simp] theorem updateBlock_rights (stored : Bool) (e : Exec) (s : Rc8) : (updateBlock stored e s).nv.rights = s.nv.rights := by simp [updateBlock]

@[simp] theorem bundleReceived_rights (b : List Byte) (port : Nat) (s : Rc8) : (bundleReceived b port s).nv.rights = s.nv.rights := by first | rfl

@[simp] theorem updateRefused_rights (cond part port : Nat) (s : Rc8) : (updateRefused cond part port s).nv.rights = s.nv.rights := by first | rfl

@[simp] theorem updateEnd_rights (e : Exec) (s : Rc8) : (updateEnd e s).nv.rights = s.nv.rights := by
  unfold updateEnd; dsimp only; (repeat' (first | rfl | (simp; done) | (refine (foldl_rights _ (fun _ _ => ?_) _ _).trans ?_) | split))

@[simp] theorem updateArm_rights (e : Exec) (s : Rc8) : (updateArm e s).nv.rights = s.nv.rights := by simp [updateArm]

@[simp] theorem updateRestart_rights (s : Rc8) : (updateRestart s).nv.rights = s.nv.rights := by
  unfold updateRestart; (repeat' (first | rfl | (simp; done) | split))

@[simp] theorem updateConfirm_rights (e : Exec) (s : Rc8) : (updateConfirm e s).nv.rights = s.nv.rights := by first | rfl

@[simp] theorem revertSlots_rights (parts : List Nat) (s : Rc8) : (revertSlots parts s).nv.rights = s.nv.rights := by first | rfl

@[simp] theorem updateReverted_rights (cause when_ : Nat) (s : Rc8) : (updateReverted cause when_ s).nv.rights = s.nv.rights := by first | rfl

@[simp] theorem confirmExpiry_rights (s0 : Rc8) : (confirmExpiry s0).nv.rights = s0.nv.rights := by
  unfold confirmExpiry; (repeat' (first | rfl | (simp; done) | split))

/-! ### Machine/General.lean -/

@[simp] theorem getStatus_rights (e : Exec) (s : Rc8) : (getStatus e s).nv.rights = s.nv.rights := by first | rfl

/-! ### Machine/Keys.lean -/

@[simp] theorem keyChanged_rights (k : Key) (s : Rc8) : (keyChanged k s).nv.rights = s.nv.rights := by simp [keyChanged]

/-! ### Machine/Mailbox.lean -/

@[simp] theorem refuseCommand_rights (e : Exec) (st : Status) (s : Rc8) : (refuseCommand e st s).nv.rights = s.nv.rights := by simp [refuseCommand]

@[simp] theorem beginExec_rights (busy : Bool) (e : Exec) (s : Rc8) : (beginExec busy e s).nv.rights = s.nv.rights := by first | rfl

@[simp] theorem judge_rights (reqLen : Nat) (e : Exec) (s : Rc8) : (judge reqLen e s).nv.rights = s.nv.rights := by
  unfold judge; (repeat' (first | rfl | (simp; done) | split))

@[simp] theorem acknowledge_rights (p : Fin 4) (m : Fin 8) (s : Rc8) : (acknowledge p m s).nv.rights = s.nv.rights := by simp [acknowledge]

/-! ### Machine/Services.lean -/

@[simp] theorem programClear_rights (stored : Bool) (e : Exec) (s : Rc8) : (programClear stored e s).nv.rights = s.nv.rights := by simp [programClear]

@[simp] theorem respond_rights (f : Exec → Rc8 → List Byte) (e : Exec) (s : Rc8) : (respond f e s).nv.rights = s.nv.rights := by first | rfl

@[simp] theorem actService_rights (code : Nat) (stored : Bool) (e : Exec) (s : Rc8) : (actService code stored e s).nv.rights = s.nv.rights := by
  unfold actService
  split <;> simp [respond]

@[simp] theorem serviceRow_rights (code : Nat) (stored : Bool) (e : Exec) (s : Rc8) : (serviceRow code stored e s).nv.rights = s.nv.rights := by
  unfold serviceRow
  cases readService code with
  | some f => exact respond_rights _ _ _
  | none => exact actService_rights _ _ _ _

theorem newExec_rights (s : Rc8) (l : List Exec) (n : Nat) : ({ s with execs := l, nextExec := n } : Rc8).nv.rights = s.nv.rights := rfl

@[simp] theorem runService_rights (t : Fin 8) (code : Nat) (req : List Byte) (stored : Bool) (s : Rc8) :
    (runService t code req stored s).nv.rights = s.nv.rights := by
  unfold runService
  dsimp only
  rw [serviceRow_rights, newExec_rights]

@[simp] theorem serveCall_rights (t : Fin 8) (c : SvcCall) (s : Rc8) : (serveCall t c s).nv.rights = s.nv.rights := by
  unfold serveCall; (repeat' (first | rfl | (simp; done) | split))

@[simp] theorem callNow_rights (t : Fin 8) (code : Nat) (req : List Byte) (stored : Bool) (s : Rc8) : (callNow t code req stored s).nv.rights = s.nv.rights := by
  unfold callNow; (repeat' (first | rfl | (simp; done) | split))

@[simp] theorem taskCall_rights (t : Fin 8) (s : Rc8) (c : SvcCall) : (taskCall t s c).nv.rights = s.nv.rights := by
  unfold taskCall; (repeat' (first | rfl | (simp; done) | split))

@[simp] theorem endCycle_rights (t : Fin 8) (o : CycleOut) (s : Rc8) : (endCycle t o s).nv.rights = s.nv.rights := by simp [endCycle]

@[simp] theorem mailboxAcknowledge_rights (s : Rc8) : (mailboxAcknowledge s).nv.rights = s.nv.rights := by
  unfold mailboxAcknowledge; (repeat' (first | rfl | (simp; done) | split))

/-! ### Machine/Start.lean -/

@[simp] theorem raisePd0_rights (s : Rc8) : (raisePd0 s).nv.rights = s.nv.rights := by
  unfold raisePd0; (repeat' (first | rfl | (simp; done) | split))

@[simp] theorem abandonAtStart_rights (s : Rc8) : (abandonAtStart s).nv.rights = s.nv.rights := by simp [abandonAtStart]

@[simp] theorem readOldFormat_rights (s : Rc8) : (readOldFormat s).nv.rights = s.nv.rights := by
  unfold readOldFormat; (repeat' (first | rfl | (simp; done) | split))

@[simp] theorem pendingRevert_rights (s : Rc8) : (pendingRevert s).nv.rights = s.nv.rights := by simp [pendingRevert]

@[simp] theorem giveUp_rights (cause : Nat) (parts : List Nat) (s : Rc8) : (giveUp cause parts s).nv.rights = s.nv.rights := by simp [giveUp]

@[simp] theorem installPart_rights (step : Nat) (m : ManEntry) (s : Rc8) : (installPart step m s).nv.rights = s.nv.rights := by first | rfl

@[simp] theorem trialStarts_rights (s : Rc8) : (trialStarts s).nv.rights = s.nv.rights := by first | rfl

@[simp] theorem settingsMigrated_rights (x : StartReport) (s : Rc8) : (settingsMigrated x s).nv.rights = s.nv.rights := by simp [settingsMigrated]

@[simp] theorem installParts_rights (i : Nat) (checks : List (Bool)) (m l) (s : Rc8) : (installParts i checks m l s).2.2.nv.rights = s.nv.rights := by
  induction m generalizing i checks l s with
  | nil => rfl
  | cons x m ih =>
    unfold installParts
    split
    · rw [ih, installPart_rights]
    · rfl

@[simp] theorem install_rights (x : StartReport) (s : Rc8) : (install x s).nv.rights = s.nv.rights := by
  unfold install
  split
  · simp
  · dsimp only
    split <;> simp

@[simp] theorem updateStart_rights (x : StartReport) (s0 : Rc8) : (updateStart x s0).nv.rights = s0.nv.rights := by
  unfold updateStart; dsimp only; (repeat' (first | rfl | (simp; done) | (refine (foldl_rights _ (fun _ _ => ?_) _ _).trans ?_) | split))

@[simp] theorem firmwareRunning_rights (s : Rc8) : (firmwareRunning s).nv.rights = s.nv.rights := by first | rfl

@[simp] theorem readPosition_rights (s : Rc8) : (readPosition s).nv.rights = s.nv.rights := by simp [readPosition]

@[simp] theorem startStep_rights (k ms : Nat) (s : Rc8) : (startStep k ms s).nv.rights = s.nv.rights := by simp [startStep]

@[simp] theorem passMs_rights (ms : Nat) (s : Rc8) : (passMs ms s).nv.rights = s.nv.rights := by first | rfl

@[simp] theorem checkStoredPlan_rights (s0 : Rc8) : (checkStoredPlan s0).nv.rights = s0.nv.rights := by
  unfold checkStoredPlan; dsimp only; (repeat' (first | rfl | (simp; done) | (refine (foldl_rights _ (fun _ _ => ?_) _ _).trans ?_) | split))

@[simp] theorem splitCheck_rights (s : Rc8) : (splitCheck s).nv.rights = s.nv.rights := by simp [splitCheck]

@[simp] theorem startPrograms_rights (x : StartReport) (s : Rc8) : (startPrograms x s).nv.rights = s.nv.rights := by simp [startPrograms]

@[simp] theorem attachAll_rights (s : Rc8) : (attachAll s).nv.rights = s.nv.rights := by simp [attachAll]

@[simp] theorem serviceReady_rights (s : Rc8) : (serviceReady s).nv.rights = s.nv.rights := by first | rfl

@[simp] theorem bringUp_rights (x : StartReport) (s : Rc8) : (bringUp x s).nv.rights = s.nv.rights := by simp [bringUp]

@[simp] theorem selfTest_rights (x : StartReport) (s : Rc8) : (selfTest x s).nv.rights = s.nv.rights := by simp [selfTest]

@[simp] theorem moduleStart_rights (x : StartReport) (s : Rc8) : (moduleStart x s).nv.rights = s.nv.rights := by simp [moduleStart]

end Sys2Proof.Machine
end

