-- ==== Sys2Proof/Laws/State.lean ====
section
/-! SUPPORT. What each update of the module leaves in each of its parts, so that no proof unfolds one. -/

namespace Sys2Proof.Machine

open Sys2Proof

/-! ### The block -/

@[simp] theorem State.after_toRc8 (s : State) (f : Rc8 → Rc8) : (s.after f).toRc8 = f s.toRc8 := rfl
@[simp] theorem State.after_pending (s : State) (f : Rc8 → Rc8) : (s.after f).pending = s.pending := rfl
@[simp] theorem State.withPending_toRc8 (s : State) (l : List Instr) : (s.withPending l).toRc8 = s.toRc8 := rfl
@[simp] theorem State.withPending_pending (s : State) (l : List Instr) : (s.withPending l).pending = l := rfl

/-- A command that acts always answers the next state. -/
theorem act_eq (f : Rc8 → Rc8) (s : State) : act f s = .next (s.after f) := rfl

/-- A command that can be sent acts. -/
theorem actIf_eq {ok : Bool} (h : ok = true) (name : String) (f : Rc8 → Rc8) (s : State) : actIf ok name f s = .next (s.after f) := by
  subst h; rfl

/-- A command that no sender can send stops by name. -/
theorem actIf_fault {ok : Bool} (h : ok = false) (name : String) (f : Rc8 → Rc8) (s : State) : actIf ok name f s = .fault (.illFormed name) := by
  subst h; rfl

/-- What a meaning that answered has done to the module. -/
theorem act_next {f : Rc8 → Rc8} {s t : State} (h : act f s = .next t) : t = s.after f := by cases h; rfl

/-- What a guarded meaning that answered has done to the module. -/
theorem actIf_next {ok : Bool} {name : String} {f : Rc8 → Rc8} {s t : State} (h : actIf ok name f s = .next t) : t = s.after f := by
  unfold actIf at h; split at h
  · exact act_next h
  · cases h

/-! ### Vectors -/

@[simp] theorem vmod_getElem {α : Type} {n : Nat} (v : Vector α n) (i : Fin n) (f : α → α) (k : Nat) (h : k < n) :
    (vmod v i f)[k] = if i.val = k then f v[i] else v[k] := by
  simp [vmod, Vector.getElem_set]

@[simp] theorem vlist_length {α : Type} {n : Nat} (v : Vector α n) : (vlist v).length = n := by simp [vlist]

@[simp] theorem vmap_getElem {α β : Type} {n : Nat} (f : α → β) (v : Vector α n) (k : Nat) (h : k < n) : (vmap f v)[k] = f v[k] := by
  simp [vmap]

/-! ### modPort -/

@[simp] theorem modPort_ident (p : Fin 4) (f : HostPort → HostPort) (s : Rc8) : (modPort p f s).ident = s.ident := rfl
@[simp] theorem modPort_clk (p : Fin 4) (f : HostPort → HostPort) (s : Rc8) : (modPort p f s).clk = s.clk := rfl
@[simp] theorem modPort_svpReady (p : Fin 4) (f : HostPort → HostPort) (s : Rc8) : (modPort p f s).svpReady = s.svpReady := rfl
@[simp] theorem modPort_hp (p : Fin 4) (f : HostPort → HostPort) (s : Rc8) : (modPort p f s).hp = vmod s.hp p f := rfl
@[simp] theorem modPort_execs (p : Fin 4) (f : HostPort → HostPort) (s : Rc8) : (modPort p f s).execs = s.execs := rfl
@[simp] theorem modPort_nextExec (p : Fin 4) (f : HostPort → HostPort) (s : Rc8) : (modPort p f s).nextExec = s.nextExec := rfl
@[simp] theorem modPort_arrivals (p : Fin 4) (f : HostPort → HostPort) (s : Rc8) : (modPort p f s).arrivals = s.arrivals := rfl
@[simp] theorem modPort_limits (p : Fin 4) (f : HostPort → HostPort) (s : Rc8) : (modPort p f s).limits = s.limits := rfl
@[simp] theorem modPort_bar2 (p : Fin 4) (f : HostPort → HostPort) (s : Rc8) : (modPort p f s).bar2 = s.bar2 := rfl
@[simp] theorem modPort_out (p : Fin 4) (f : HostPort → HostPort) (s : Rc8) : (modPort p f s).out = s.out := rfl
@[simp] theorem modPort_rcd (p : Fin 4) (f : HostPort → HostPort) (s : Rc8) : (modPort p f s).rcd = s.rcd := rfl
@[simp] theorem modPort_rnd (p : Fin 4) (f : HostPort → HostPort) (s : Rc8) : (modPort p f s).rnd = s.rnd := rfl
@[simp] theorem modPort_net (p : Fin 4) (f : HostPort → HostPort) (s : Rc8) : (modPort p f s).net = s.net := rfl
@[simp] theorem modPort_sch (p : Fin 4) (f : HostPort → HostPort) (s : Rc8) : (modPort p f s).sch = s.sch := rfl
@[simp] theorem modPort_eng (p : Fin 4) (f : HostPort → HostPort) (s : Rc8) : (modPort p f s).eng = s.eng := rfl
@[simp] theorem modPort_learn (p : Fin 4) (f : HostPort → HostPort) (s : Rc8) : (modPort p f s).learn = s.learn := rfl
@[simp] theorem modPort_tablesRestored (p : Fin 4) (f : HostPort → HostPort) (s : Rc8) : (modPort p f s).tablesRestored = s.tablesRestored := rfl
@[simp] theorem modPort_run (p : Fin 4) (f : HostPort → HostPort) (s : Rc8) : (modPort p f s).run = s.run := rfl
@[simp] theorem modPort_chg (p : Fin 4) (f : HostPort → HostPort) (s : Rc8) : (modPort p f s).chg = s.chg := rfl
@[simp] theorem modPort_pair (p : Fin 4) (f : HostPort → HostPort) (s : Rc8) : (modPort p f s).pair = s.pair := rfl
@[simp] theorem modPort_saf (p : Fin 4) (f : HostPort → HostPort) (s : Rc8) : (modPort p f s).saf = s.saf := rfl
@[simp] theorem modPort_itg (p : Fin 4) (f : HostPort → HostPort) (s : Rc8) : (modPort p f s).itg = s.itg := rfl
@[simp] theorem modPort_tim (p : Fin 4) (f : HostPort → HostPort) (s : Rc8) : (modPort p f s).tim = s.tim := rfl
@[simp] theorem modPort_eth (p : Fin 4) (f : HostPort → HostPort) (s : Rc8) : (modPort p f s).eth = s.eth := rfl
@[simp] theorem modPort_peers (p : Fin 4) (f : HostPort → HostPort) (s : Rc8) : (modPort p f s).peers = s.peers := rfl
@[simp] theorem modPort_can (p : Fin 4) (f : HostPort → HostPort) (s : Rc8) : (modPort p f s).can = s.can := rfl
@[simp] theorem modPort_ffe (p : Fin 4) (f : HostPort → HostPort) (s : Rc8) : (modPort p f s).ffe = s.ffe := rfl
@[simp] theorem modPort_pwr (p : Fin 4) (f : HostPort → HostPort) (s : Rc8) : (modPort p f s).pwr = s.pwr := rfl
@[simp] theorem modPort_restartAt (p : Fin 4) (f : HostPort → HostPort) (s : Rc8) : (modPort p f s).restartAt = s.restartAt := rfl
@[simp] theorem modPort_trialFrom (p : Fin 4) (f : HostPort → HostPort) (s : Rc8) : (modPort p f s).trialFrom = s.trialFrom := rfl
@[simp] theorem modPort_expiryHandover (p : Fin 4) (f : HostPort → HostPort) (s : Rc8) : (modPort p f s).expiryHandover = s.expiryHandover := rfl
@[simp] theorem modPort_nv (p : Fin 4) (f : HostPort → HostPort) (s : Rc8) : (modPort p f s).nv = s.nv := rfl

/-! ### modMbx -/

@[simp] theorem modMbx_ident (p : Fin 4) (m : Fin 8) (f : Mailbox → Mailbox) (s : Rc8) : (modMbx p m f s).ident = s.ident := rfl
@[simp] theorem modMbx_clk (p : Fin 4) (m : Fin 8) (f : Mailbox → Mailbox) (s : Rc8) : (modMbx p m f s).clk = s.clk := rfl
@[simp] theorem modMbx_svpReady (p : Fin 4) (m : Fin 8) (f : Mailbox → Mailbox) (s : Rc8) : (modMbx p m f s).svpReady = s.svpReady := rfl
@[simp] theorem modMbx_hp (p : Fin 4) (m : Fin 8) (f : Mailbox → Mailbox) (s : Rc8) : (modMbx p m f s).hp = vmod s.hp p fun h => { h with mbx := vmod h.mbx m f } := rfl
@[simp] theorem modMbx_execs (p : Fin 4) (m : Fin 8) (f : Mailbox → Mailbox) (s : Rc8) : (modMbx p m f s).execs = s.execs := rfl
@[simp] theorem modMbx_nextExec (p : Fin 4) (m : Fin 8) (f : Mailbox → Mailbox) (s : Rc8) : (modMbx p m f s).nextExec = s.nextExec := rfl
@[simp] theorem modMbx_arrivals (p : Fin 4) (m : Fin 8) (f : Mailbox → Mailbox) (s : Rc8) : (modMbx p m f s).arrivals = s.arrivals := rfl
@[simp] theorem modMbx_limits (p : Fin 4) (m : Fin 8) (f : Mailbox → Mailbox) (s : Rc8) : (modMbx p m f s).limits = s.limits := rfl
@[simp] theorem modMbx_bar2 (p : Fin 4) (m : Fin 8) (f : Mailbox → Mailbox) (s : Rc8) : (modMbx p m f s).bar2 = s.bar2 := rfl
@[simp] theorem modMbx_out (p : Fin 4) (m : Fin 8) (f : Mailbox → Mailbox) (s : Rc8) : (modMbx p m f s).out = s.out := rfl
@[simp] theorem modMbx_rcd (p : Fin 4) (m : Fin 8) (f : Mailbox → Mailbox) (s : Rc8) : (modMbx p m f s).rcd = s.rcd := rfl
@[simp] theorem modMbx_rnd (p : Fin 4) (m : Fin 8) (f : Mailbox → Mailbox) (s : Rc8) : (modMbx p m f s).rnd = s.rnd := rfl
@[simp] theorem modMbx_net (p : Fin 4) (m : Fin 8) (f : Mailbox → Mailbox) (s : Rc8) : (modMbx p m f s).net = s.net := rfl
@[simp] theorem modMbx_sch (p : Fin 4) (m : Fin 8) (f : Mailbox → Mailbox) (s : Rc8) : (modMbx p m f s).sch = s.sch := rfl
@[simp] theorem modMbx_eng (p : Fin 4) (m : Fin 8) (f : Mailbox → Mailbox) (s : Rc8) : (modMbx p m f s).eng = s.eng := rfl
@[simp] theorem modMbx_learn (p : Fin 4) (m : Fin 8) (f : Mailbox → Mailbox) (s : Rc8) : (modMbx p m f s).learn = s.learn := rfl
@[simp] theorem modMbx_tablesRestored (p : Fin 4) (m : Fin 8) (f : Mailbox → Mailbox) (s : Rc8) : (modMbx p m f s).tablesRestored = s.tablesRestored := rfl
@[simp] theorem modMbx_run (p : Fin 4) (m : Fin 8) (f : Mailbox → Mailbox) (s : Rc8) : (modMbx p m f s).run = s.run := rfl
@[simp] theorem modMbx_chg (p : Fin 4) (m : Fin 8) (f : Mailbox → Mailbox) (s : Rc8) : (modMbx p m f s).chg = s.chg := rfl
@[simp] theorem modMbx_pair (p : Fin 4) (m : Fin 8) (f : Mailbox → Mailbox) (s : Rc8) : (modMbx p m f s).pair = s.pair := rfl
@[simp] theorem modMbx_saf (p : Fin 4) (m : Fin 8) (f : Mailbox → Mailbox) (s : Rc8) : (modMbx p m f s).saf = s.saf := rfl
@[simp] theorem modMbx_itg (p : Fin 4) (m : Fin 8) (f : Mailbox → Mailbox) (s : Rc8) : (modMbx p m f s).itg = s.itg := rfl
@[simp] theorem modMbx_tim (p : Fin 4) (m : Fin 8) (f : Mailbox → Mailbox) (s : Rc8) : (modMbx p m f s).tim = s.tim := rfl
@[simp] theorem modMbx_eth (p : Fin 4) (m : Fin 8) (f : Mailbox → Mailbox) (s : Rc8) : (modMbx p m f s).eth = s.eth := rfl
@[simp] theorem modMbx_peers (p : Fin 4) (m : Fin 8) (f : Mailbox → Mailbox) (s : Rc8) : (modMbx p m f s).peers = s.peers := rfl
@[simp] theorem modMbx_can (p : Fin 4) (m : Fin 8) (f : Mailbox → Mailbox) (s : Rc8) : (modMbx p m f s).can = s.can := rfl
@[simp] theorem modMbx_ffe (p : Fin 4) (m : Fin 8) (f : Mailbox → Mailbox) (s : Rc8) : (modMbx p m f s).ffe = s.ffe := rfl
@[simp] theorem modMbx_pwr (p : Fin 4) (m : Fin 8) (f : Mailbox → Mailbox) (s : Rc8) : (modMbx p m f s).pwr = s.pwr := rfl
@[simp] theorem modMbx_restartAt (p : Fin 4) (m : Fin 8) (f : Mailbox → Mailbox) (s : Rc8) : (modMbx p m f s).restartAt = s.restartAt := rfl
@[simp] theorem modMbx_trialFrom (p : Fin 4) (m : Fin 8) (f : Mailbox → Mailbox) (s : Rc8) : (modMbx p m f s).trialFrom = s.trialFrom := rfl
@[simp] theorem modMbx_expiryHandover (p : Fin 4) (m : Fin 8) (f : Mailbox → Mailbox) (s : Rc8) : (modMbx p m f s).expiryHandover = s.expiryHandover := rfl
@[simp] theorem modMbx_nv (p : Fin 4) (m : Fin 8) (f : Mailbox → Mailbox) (s : Rc8) : (modMbx p m f s).nv = s.nv := rfl

/-! ### modExec -/

@[simp] theorem modExec_ident (id : Nat) (f : Exec → Exec) (s : Rc8) : (modExec id f s).ident = s.ident := rfl
@[simp] theorem modExec_clk (id : Nat) (f : Exec → Exec) (s : Rc8) : (modExec id f s).clk = s.clk := rfl
@[simp] theorem modExec_svpReady (id : Nat) (f : Exec → Exec) (s : Rc8) : (modExec id f s).svpReady = s.svpReady := rfl
@[simp] theorem modExec_hp (id : Nat) (f : Exec → Exec) (s : Rc8) : (modExec id f s).hp = s.hp := rfl
@[simp] theorem modExec_execs (id : Nat) (f : Exec → Exec) (s : Rc8) : (modExec id f s).execs = s.execs.map fun e => if e.id == id then f e else e := rfl
@[simp] theorem modExec_nextExec (id : Nat) (f : Exec → Exec) (s : Rc8) : (modExec id f s).nextExec = s.nextExec := rfl
@[simp] theorem modExec_arrivals (id : Nat) (f : Exec → Exec) (s : Rc8) : (modExec id f s).arrivals = s.arrivals := rfl
@[simp] theorem modExec_limits (id : Nat) (f : Exec → Exec) (s : Rc8) : (modExec id f s).limits = s.limits := rfl
@[simp] theorem modExec_bar2 (id : Nat) (f : Exec → Exec) (s : Rc8) : (modExec id f s).bar2 = s.bar2 := rfl
@[simp] theorem modExec_out (id : Nat) (f : Exec → Exec) (s : Rc8) : (modExec id f s).out = s.out := rfl
@[simp] theorem modExec_rcd (id : Nat) (f : Exec → Exec) (s : Rc8) : (modExec id f s).rcd = s.rcd := rfl
@[simp] theorem modExec_rnd (id : Nat) (f : Exec → Exec) (s : Rc8) : (modExec id f s).rnd = s.rnd := rfl
@[simp] theorem modExec_net (id : Nat) (f : Exec → Exec) (s : Rc8) : (modExec id f s).net = s.net := rfl
@[simp] theorem modExec_sch (id : Nat) (f : Exec → Exec) (s : Rc8) : (modExec id f s).sch = s.sch := rfl
@[simp] theorem modExec_eng (id : Nat) (f : Exec → Exec) (s : Rc8) : (modExec id f s).eng = s.eng := rfl
@[simp] theorem modExec_learn (id : Nat) (f : Exec → Exec) (s : Rc8) : (modExec id f s).learn = s.learn := rfl
@[simp] theorem modExec_tablesRestored (id : Nat) (f : Exec → Exec) (s : Rc8) : (modExec id f s).tablesRestored = s.tablesRestored := rfl
@[simp] theorem modExec_run (id : Nat) (f : Exec → Exec) (s : Rc8) : (modExec id f s).run = s.run := rfl
@[simp] theorem modExec_chg (id : Nat) (f : Exec → Exec) (s : Rc8) : (modExec id f s).chg = s.chg := rfl
@[simp] theorem modExec_pair (id : Nat) (f : Exec → Exec) (s : Rc8) : (modExec id f s).pair = s.pair := rfl
@[simp] theorem modExec_saf (id : Nat) (f : Exec → Exec) (s : Rc8) : (modExec id f s).saf = s.saf := rfl
@[simp] theorem modExec_itg (id : Nat) (f : Exec → Exec) (s : Rc8) : (modExec id f s).itg = s.itg := rfl
@[simp] theorem modExec_tim (id : Nat) (f : Exec → Exec) (s : Rc8) : (modExec id f s).tim = s.tim := rfl
@[simp] theorem modExec_eth (id : Nat) (f : Exec → Exec) (s : Rc8) : (modExec id f s).eth = s.eth := rfl
@[simp] theorem modExec_peers (id : Nat) (f : Exec → Exec) (s : Rc8) : (modExec id f s).peers = s.peers := rfl
@[simp] theorem modExec_can (id : Nat) (f : Exec → Exec) (s : Rc8) : (modExec id f s).can = s.can := rfl
@[simp] theorem modExec_ffe (id : Nat) (f : Exec → Exec) (s : Rc8) : (modExec id f s).ffe = s.ffe := rfl
@[simp] theorem modExec_pwr (id : Nat) (f : Exec → Exec) (s : Rc8) : (modExec id f s).pwr = s.pwr := rfl
@[simp] theorem modExec_restartAt (id : Nat) (f : Exec → Exec) (s : Rc8) : (modExec id f s).restartAt = s.restartAt := rfl
@[simp] theorem modExec_trialFrom (id : Nat) (f : Exec → Exec) (s : Rc8) : (modExec id f s).trialFrom = s.trialFrom := rfl
@[simp] theorem modExec_expiryHandover (id : Nat) (f : Exec → Exec) (s : Rc8) : (modExec id f s).expiryHandover = s.expiryHandover := rfl
@[simp] theorem modExec_nv (id : Nat) (f : Exec → Exec) (s : Rc8) : (modExec id f s).nv = s.nv := rfl

/-! ### modCan -/

@[simp] theorem modCan_ident (c : Fin 4) (f : CanPort → CanPort) (s : Rc8) : (modCan c f s).ident = s.ident := rfl
@[simp] theorem modCan_clk (c : Fin 4) (f : CanPort → CanPort) (s : Rc8) : (modCan c f s).clk = s.clk := rfl
@[simp] theorem modCan_svpReady (c : Fin 4) (f : CanPort → CanPort) (s : Rc8) : (modCan c f s).svpReady = s.svpReady := rfl
@[simp] theorem modCan_hp (c : Fin 4) (f : CanPort → CanPort) (s : Rc8) : (modCan c f s).hp = s.hp := rfl
@[simp] theorem modCan_execs (c : Fin 4) (f : CanPort → CanPort) (s : Rc8) : (modCan c f s).execs = s.execs := rfl
@[simp] theorem modCan_nextExec (c : Fin 4) (f : CanPort → CanPort) (s : Rc8) : (modCan c f s).nextExec = s.nextExec := rfl
@[simp] theorem modCan_arrivals (c : Fin 4) (f : CanPort → CanPort) (s : Rc8) : (modCan c f s).arrivals = s.arrivals := rfl
@[simp] theorem modCan_limits (c : Fin 4) (f : CanPort → CanPort) (s : Rc8) : (modCan c f s).limits = s.limits := rfl
@[simp] theorem modCan_bar2 (c : Fin 4) (f : CanPort → CanPort) (s : Rc8) : (modCan c f s).bar2 = s.bar2 := rfl
@[simp] theorem modCan_out (c : Fin 4) (f : CanPort → CanPort) (s : Rc8) : (modCan c f s).out = s.out := rfl
@[simp] theorem modCan_rcd (c : Fin 4) (f : CanPort → CanPort) (s : Rc8) : (modCan c f s).rcd = s.rcd := rfl
@[simp] theorem modCan_rnd (c : Fin 4) (f : CanPort → CanPort) (s : Rc8) : (modCan c f s).rnd = s.rnd := rfl
@[simp] theorem modCan_net (c : Fin 4) (f : CanPort → CanPort) (s : Rc8) : (modCan c f s).net = s.net := rfl
@[simp] theorem modCan_sch (c : Fin 4) (f : CanPort → CanPort) (s : Rc8) : (modCan c f s).sch = s.sch := rfl
@[simp] theorem modCan_eng (c : Fin 4) (f : CanPort → CanPort) (s : Rc8) : (modCan c f s).eng = s.eng := rfl
@[simp] theorem modCan_learn (c : Fin 4) (f : CanPort → CanPort) (s : Rc8) : (modCan c f s).learn = s.learn := rfl
@[simp] theorem modCan_tablesRestored (c : Fin 4) (f : CanPort → CanPort) (s : Rc8) : (modCan c f s).tablesRestored = s.tablesRestored := rfl
@[simp] theorem modCan_run (c : Fin 4) (f : CanPort → CanPort) (s : Rc8) : (modCan c f s).run = s.run := rfl
@[simp] theorem modCan_chg (c : Fin 4) (f : CanPort → CanPort) (s : Rc8) : (modCan c f s).chg = s.chg := rfl
@[simp] theorem modCan_pair (c : Fin 4) (f : CanPort → CanPort) (s : Rc8) : (modCan c f s).pair = s.pair := rfl
@[simp] theorem modCan_saf (c : Fin 4) (f : CanPort → CanPort) (s : Rc8) : (modCan c f s).saf = s.saf := rfl
@[simp] theorem modCan_itg (c : Fin 4) (f : CanPort → CanPort) (s : Rc8) : (modCan c f s).itg = s.itg := rfl
@[simp] theorem modCan_tim (c : Fin 4) (f : CanPort → CanPort) (s : Rc8) : (modCan c f s).tim = s.tim := rfl
@[simp] theorem modCan_eth (c : Fin 4) (f : CanPort → CanPort) (s : Rc8) : (modCan c f s).eth = s.eth := rfl
@[simp] theorem modCan_peers (c : Fin 4) (f : CanPort → CanPort) (s : Rc8) : (modCan c f s).peers = s.peers := rfl
@[simp] theorem modCan_can (c : Fin 4) (f : CanPort → CanPort) (s : Rc8) : (modCan c f s).can = vmod s.can c f := rfl
@[simp] theorem modCan_ffe (c : Fin 4) (f : CanPort → CanPort) (s : Rc8) : (modCan c f s).ffe = s.ffe := rfl
@[simp] theorem modCan_pwr (c : Fin 4) (f : CanPort → CanPort) (s : Rc8) : (modCan c f s).pwr = s.pwr := rfl
@[simp] theorem modCan_restartAt (c : Fin 4) (f : CanPort → CanPort) (s : Rc8) : (modCan c f s).restartAt = s.restartAt := rfl
@[simp] theorem modCan_trialFrom (c : Fin 4) (f : CanPort → CanPort) (s : Rc8) : (modCan c f s).trialFrom = s.trialFrom := rfl
@[simp] theorem modCan_expiryHandover (c : Fin 4) (f : CanPort → CanPort) (s : Rc8) : (modCan c f s).expiryHandover = s.expiryHandover := rfl
@[simp] theorem modCan_nv (c : Fin 4) (f : CanPort → CanPort) (s : Rc8) : (modCan c f s).nv = s.nv := rfl

/-! ### modChg -/

@[simp] theorem modChg_ident (f : Change → Change) (s : Rc8) : (modChg f s).ident = s.ident := rfl
@[simp] theorem modChg_clk (f : Change → Change) (s : Rc8) : (modChg f s).clk = s.clk := rfl
@[simp] theorem modChg_svpReady (f : Change → Change) (s : Rc8) : (modChg f s).svpReady = s.svpReady := rfl
@[simp] theorem modChg_hp (f : Change → Change) (s : Rc8) : (modChg f s).hp = s.hp := rfl
@[simp] theorem modChg_execs (f : Change → Change) (s : Rc8) : (modChg f s).execs = s.execs := rfl
@[simp] theorem modChg_nextExec (f : Change → Change) (s : Rc8) : (modChg f s).nextExec = s.nextExec := rfl
@[simp] theorem modChg_arrivals (f : Change → Change) (s : Rc8) : (modChg f s).arrivals = s.arrivals := rfl
@[simp] theorem modChg_limits (f : Change → Change) (s : Rc8) : (modChg f s).limits = s.limits := rfl
@[simp] theorem modChg_bar2 (f : Change → Change) (s : Rc8) : (modChg f s).bar2 = s.bar2 := rfl
@[simp] theorem modChg_out (f : Change → Change) (s : Rc8) : (modChg f s).out = s.out := rfl
@[simp] theorem modChg_rcd (f : Change → Change) (s : Rc8) : (modChg f s).rcd = s.rcd := rfl
@[simp] theorem modChg_rnd (f : Change → Change) (s : Rc8) : (modChg f s).rnd = s.rnd := rfl
@[simp] theorem modChg_net (f : Change → Change) (s : Rc8) : (modChg f s).net = s.net := rfl
@[simp] theorem modChg_sch (f : Change → Change) (s : Rc8) : (modChg f s).sch = s.sch := rfl
@[simp] theorem modChg_eng (f : Change → Change) (s : Rc8) : (modChg f s).eng = s.eng := rfl
@[simp] theorem modChg_learn (f : Change → Change) (s : Rc8) : (modChg f s).learn = s.learn := rfl
@[simp] theorem modChg_tablesRestored (f : Change → Change) (s : Rc8) : (modChg f s).tablesRestored = s.tablesRestored := rfl
@[simp] theorem modChg_run (f : Change → Change) (s : Rc8) : (modChg f s).run = s.run := rfl
@[simp] theorem modChg_chg (f : Change → Change) (s : Rc8) : (modChg f s).chg = f s.chg := rfl
@[simp] theorem modChg_pair (f : Change → Change) (s : Rc8) : (modChg f s).pair = s.pair := rfl
@[simp] theorem modChg_saf (f : Change → Change) (s : Rc8) : (modChg f s).saf = s.saf := rfl
@[simp] theorem modChg_itg (f : Change → Change) (s : Rc8) : (modChg f s).itg = s.itg := rfl
@[simp] theorem modChg_tim (f : Change → Change) (s : Rc8) : (modChg f s).tim = s.tim := rfl
@[simp] theorem modChg_eth (f : Change → Change) (s : Rc8) : (modChg f s).eth = s.eth := rfl
@[simp] theorem modChg_peers (f : Change → Change) (s : Rc8) : (modChg f s).peers = s.peers := rfl
@[simp] theorem modChg_can (f : Change → Change) (s : Rc8) : (modChg f s).can = s.can := rfl
@[simp] theorem modChg_ffe (f : Change → Change) (s : Rc8) : (modChg f s).ffe = s.ffe := rfl
@[simp] theorem modChg_pwr (f : Change → Change) (s : Rc8) : (modChg f s).pwr = s.pwr := rfl
@[simp] theorem modChg_restartAt (f : Change → Change) (s : Rc8) : (modChg f s).restartAt = s.restartAt := rfl
@[simp] theorem modChg_trialFrom (f : Change → Change) (s : Rc8) : (modChg f s).trialFrom = s.trialFrom := rfl
@[simp] theorem modChg_expiryHandover (f : Change → Change) (s : Rc8) : (modChg f s).expiryHandover = s.expiryHandover := rfl
@[simp] theorem modChg_nv (f : Change → Change) (s : Rc8) : (modChg f s).nv = s.nv := rfl

/-! ### modEng -/

@[simp] theorem modEng_ident (f : Engine → Engine) (s : Rc8) : (modEng f s).ident = s.ident := rfl
@[simp] theorem modEng_clk (f : Engine → Engine) (s : Rc8) : (modEng f s).clk = s.clk := rfl
@[simp] theorem modEng_svpReady (f : Engine → Engine) (s : Rc8) : (modEng f s).svpReady = s.svpReady := rfl
@[simp] theorem modEng_hp (f : Engine → Engine) (s : Rc8) : (modEng f s).hp = s.hp := rfl
@[simp] theorem modEng_execs (f : Engine → Engine) (s : Rc8) : (modEng f s).execs = s.execs := rfl
@[simp] theorem modEng_nextExec (f : Engine → Engine) (s : Rc8) : (modEng f s).nextExec = s.nextExec := rfl
@[simp] theorem modEng_arrivals (f : Engine → Engine) (s : Rc8) : (modEng f s).arrivals = s.arrivals := rfl
@[simp] theorem modEng_limits (f : Engine → Engine) (s : Rc8) : (modEng f s).limits = s.limits := rfl
@[simp] theorem modEng_bar2 (f : Engine → Engine) (s : Rc8) : (modEng f s).bar2 = s.bar2 := rfl
@[simp] theorem modEng_out (f : Engine → Engine) (s : Rc8) : (modEng f s).out = s.out := rfl
@[simp] theorem modEng_rcd (f : Engine → Engine) (s : Rc8) : (modEng f s).rcd = s.rcd := rfl
@[simp] theorem modEng_rnd (f : Engine → Engine) (s : Rc8) : (modEng f s).rnd = s.rnd := rfl
@[simp] theorem modEng_net (f : Engine → Engine) (s : Rc8) : (modEng f s).net = s.net := rfl
@[simp] theorem modEng_sch (f : Engine → Engine) (s : Rc8) : (modEng f s).sch = s.sch := rfl
@[simp] theorem modEng_eng (f : Engine → Engine) (s : Rc8) : (modEng f s).eng = f s.eng := rfl
@[simp] theorem modEng_learn (f : Engine → Engine) (s : Rc8) : (modEng f s).learn = s.learn := rfl
@[simp] theorem modEng_tablesRestored (f : Engine → Engine) (s : Rc8) : (modEng f s).tablesRestored = s.tablesRestored := rfl
@[simp] theorem modEng_run (f : Engine → Engine) (s : Rc8) : (modEng f s).run = s.run := rfl
@[simp] theorem modEng_chg (f : Engine → Engine) (s : Rc8) : (modEng f s).chg = s.chg := rfl
@[simp] theorem modEng_pair (f : Engine → Engine) (s : Rc8) : (modEng f s).pair = s.pair := rfl
@[simp] theorem modEng_saf (f : Engine → Engine) (s : Rc8) : (modEng f s).saf = s.saf := rfl
@[simp] theorem modEng_itg (f : Engine → Engine) (s : Rc8) : (modEng f s).itg = s.itg := rfl
@[simp] theorem modEng_tim (f : Engine → Engine) (s : Rc8) : (modEng f s).tim = s.tim := rfl
@[simp] theorem modEng_eth (f : Engine → Engine) (s : Rc8) : (modEng f s).eth = s.eth := rfl
@[simp] theorem modEng_peers (f : Engine → Engine) (s : Rc8) : (modEng f s).peers = s.peers := rfl
@[simp] theorem modEng_can (f : Engine → Engine) (s : Rc8) : (modEng f s).can = s.can := rfl
@[simp] theorem modEng_ffe (f : Engine → Engine) (s : Rc8) : (modEng f s).ffe = s.ffe := rfl
@[simp] theorem modEng_pwr (f : Engine → Engine) (s : Rc8) : (modEng f s).pwr = s.pwr := rfl
@[simp] theorem modEng_restartAt (f : Engine → Engine) (s : Rc8) : (modEng f s).restartAt = s.restartAt := rfl
@[simp] theorem modEng_trialFrom (f : Engine → Engine) (s : Rc8) : (modEng f s).trialFrom = s.trialFrom := rfl
@[simp] theorem modEng_expiryHandover (f : Engine → Engine) (s : Rc8) : (modEng f s).expiryHandover = s.expiryHandover := rfl
@[simp] theorem modEng_nv (f : Engine → Engine) (s : Rc8) : (modEng f s).nv = s.nv := rfl

/-! ### modBank -/

@[simp] theorem modBank_ident (b : Fin 2) (f : Bank → Bank) (s : Rc8) : (modBank b f s).ident = s.ident := rfl
@[simp] theorem modBank_clk (b : Fin 2) (f : Bank → Bank) (s : Rc8) : (modBank b f s).clk = s.clk := rfl
@[simp] theorem modBank_svpReady (b : Fin 2) (f : Bank → Bank) (s : Rc8) : (modBank b f s).svpReady = s.svpReady := rfl
@[simp] theorem modBank_hp (b : Fin 2) (f : Bank → Bank) (s : Rc8) : (modBank b f s).hp = s.hp := rfl
@[simp] theorem modBank_execs (b : Fin 2) (f : Bank → Bank) (s : Rc8) : (modBank b f s).execs = s.execs := rfl
@[simp] theorem modBank_nextExec (b : Fin 2) (f : Bank → Bank) (s : Rc8) : (modBank b f s).nextExec = s.nextExec := rfl
@[simp] theorem modBank_arrivals (b : Fin 2) (f : Bank → Bank) (s : Rc8) : (modBank b f s).arrivals = s.arrivals := rfl
@[simp] theorem modBank_limits (b : Fin 2) (f : Bank → Bank) (s : Rc8) : (modBank b f s).limits = s.limits := rfl
@[simp] theorem modBank_bar2 (b : Fin 2) (f : Bank → Bank) (s : Rc8) : (modBank b f s).bar2 = s.bar2 := rfl
@[simp] theorem modBank_out (b : Fin 2) (f : Bank → Bank) (s : Rc8) : (modBank b f s).out = s.out := rfl
@[simp] theorem modBank_rcd (b : Fin 2) (f : Bank → Bank) (s : Rc8) : (modBank b f s).rcd = s.rcd := rfl
@[simp] theorem modBank_rnd (b : Fin 2) (f : Bank → Bank) (s : Rc8) : (modBank b f s).rnd = s.rnd := rfl
@[simp] theorem modBank_net (b : Fin 2) (f : Bank → Bank) (s : Rc8) : (modBank b f s).net = s.net := rfl
@[simp] theorem modBank_sch (b : Fin 2) (f : Bank → Bank) (s : Rc8) : (modBank b f s).sch = s.sch := rfl
@[simp] theorem modBank_eng (b : Fin 2) (f : Bank → Bank) (s : Rc8) : (modBank b f s).eng = s.eng := rfl
@[simp] theorem modBank_learn (b : Fin 2) (f : Bank → Bank) (s : Rc8) : (modBank b f s).learn = s.learn := rfl
@[simp] theorem modBank_tablesRestored (b : Fin 2) (f : Bank → Bank) (s : Rc8) : (modBank b f s).tablesRestored = s.tablesRestored := rfl
@[simp] theorem modBank_run (b : Fin 2) (f : Bank → Bank) (s : Rc8) : (modBank b f s).run = s.run := rfl
@[simp] theorem modBank_chg (b : Fin 2) (f : Bank → Bank) (s : Rc8) : (modBank b f s).chg = s.chg := rfl
@[simp] theorem modBank_pair (b : Fin 2) (f : Bank → Bank) (s : Rc8) : (modBank b f s).pair = s.pair := rfl
@[simp] theorem modBank_saf (b : Fin 2) (f : Bank → Bank) (s : Rc8) : (modBank b f s).saf = s.saf := rfl
@[simp] theorem modBank_itg (b : Fin 2) (f : Bank → Bank) (s : Rc8) : (modBank b f s).itg = s.itg := rfl
@[simp] theorem modBank_tim (b : Fin 2) (f : Bank → Bank) (s : Rc8) : (modBank b f s).tim = s.tim := rfl
@[simp] theorem modBank_eth (b : Fin 2) (f : Bank → Bank) (s : Rc8) : (modBank b f s).eth = s.eth := rfl
@[simp] theorem modBank_peers (b : Fin 2) (f : Bank → Bank) (s : Rc8) : (modBank b f s).peers = s.peers := rfl
@[simp] theorem modBank_can (b : Fin 2) (f : Bank → Bank) (s : Rc8) : (modBank b f s).can = s.can := rfl
@[simp] theorem modBank_ffe (b : Fin 2) (f : Bank → Bank) (s : Rc8) : (modBank b f s).ffe = s.ffe := rfl
@[simp] theorem modBank_pwr (b : Fin 2) (f : Bank → Bank) (s : Rc8) : (modBank b f s).pwr = s.pwr := rfl
@[simp] theorem modBank_restartAt (b : Fin 2) (f : Bank → Bank) (s : Rc8) : (modBank b f s).restartAt = s.restartAt := rfl
@[simp] theorem modBank_trialFrom (b : Fin 2) (f : Bank → Bank) (s : Rc8) : (modBank b f s).trialFrom = s.trialFrom := rfl
@[simp] theorem modBank_expiryHandover (b : Fin 2) (f : Bank → Bank) (s : Rc8) : (modBank b f s).expiryHandover = s.expiryHandover := rfl
@[simp] theorem modBank_nv (b : Fin 2) (f : Bank → Bank) (s : Rc8) : (modBank b f s).nv = { s.nv with banks := vmod s.nv.banks b f } := rfl

/-! ### modEth -/

@[simp] theorem modEth_ident (e : Fin 2) (f : EthPort → EthPort) (s : Rc8) : (modEth e f s).ident = s.ident := rfl
@[simp] theorem modEth_clk (e : Fin 2) (f : EthPort → EthPort) (s : Rc8) : (modEth e f s).clk = s.clk := rfl
@[simp] theorem modEth_svpReady (e : Fin 2) (f : EthPort → EthPort) (s : Rc8) : (modEth e f s).svpReady = s.svpReady := rfl
@[simp] theorem modEth_hp (e : Fin 2) (f : EthPort → EthPort) (s : Rc8) : (modEth e f s).hp = s.hp := rfl
@[simp] theorem modEth_execs (e : Fin 2) (f : EthPort → EthPort) (s : Rc8) : (modEth e f s).execs = s.execs := rfl
@[simp] theorem modEth_nextExec (e : Fin 2) (f : EthPort → EthPort) (s : Rc8) : (modEth e f s).nextExec = s.nextExec := rfl
@[simp] theorem modEth_arrivals (e : Fin 2) (f : EthPort → EthPort) (s : Rc8) : (modEth e f s).arrivals = s.arrivals := rfl
@[simp] theorem modEth_limits (e : Fin 2) (f : EthPort → EthPort) (s : Rc8) : (modEth e f s).limits = s.limits := rfl
@[simp] theorem modEth_bar2 (e : Fin 2) (f : EthPort → EthPort) (s : Rc8) : (modEth e f s).bar2 = s.bar2 := rfl
@[simp] theorem modEth_out (e : Fin 2) (f : EthPort → EthPort) (s : Rc8) : (modEth e f s).out = s.out := rfl
@[simp] theorem modEth_rcd (e : Fin 2) (f : EthPort → EthPort) (s : Rc8) : (modEth e f s).rcd = s.rcd := rfl
@[simp] theorem modEth_rnd (e : Fin 2) (f : EthPort → EthPort) (s : Rc8) : (modEth e f s).rnd = s.rnd := rfl
@[simp] theorem modEth_net (e : Fin 2) (f : EthPort → EthPort) (s : Rc8) : (modEth e f s).net = s.net := rfl
@[simp] theorem modEth_sch (e : Fin 2) (f : EthPort → EthPort) (s : Rc8) : (modEth e f s).sch = s.sch := rfl
@[simp] theorem modEth_eng (e : Fin 2) (f : EthPort → EthPort) (s : Rc8) : (modEth e f s).eng = s.eng := rfl
@[simp] theorem modEth_learn (e : Fin 2) (f : EthPort → EthPort) (s : Rc8) : (modEth e f s).learn = s.learn := rfl
@[simp] theorem modEth_tablesRestored (e : Fin 2) (f : EthPort → EthPort) (s : Rc8) : (modEth e f s).tablesRestored = s.tablesRestored := rfl
@[simp] theorem modEth_run (e : Fin 2) (f : EthPort → EthPort) (s : Rc8) : (modEth e f s).run = s.run := rfl
@[simp] theorem modEth_chg (e : Fin 2) (f : EthPort → EthPort) (s : Rc8) : (modEth e f s).chg = s.chg := rfl
@[simp] theorem modEth_pair (e : Fin 2) (f : EthPort → EthPort) (s : Rc8) : (modEth e f s).pair = s.pair := rfl
@[simp] theorem modEth_saf (e : Fin 2) (f : EthPort → EthPort) (s : Rc8) : (modEth e f s).saf = s.saf := rfl
@[simp] theorem modEth_itg (e : Fin 2) (f : EthPort → EthPort) (s : Rc8) : (modEth e f s).itg = s.itg := rfl
@[simp] theorem modEth_tim (e : Fin 2) (f : EthPort → EthPort) (s : Rc8) : (modEth e f s).tim = s.tim := rfl
@[simp] theorem modEth_eth (e : Fin 2) (f : EthPort → EthPort) (s : Rc8) : (modEth e f s).eth = vmod s.eth e f := rfl
@[simp] theorem modEth_peers (e : Fin 2) (f : EthPort → EthPort) (s : Rc8) : (modEth e f s).peers = s.peers := rfl
@[simp] theorem modEth_can (e : Fin 2) (f : EthPort → EthPort) (s : Rc8) : (modEth e f s).can = s.can := rfl
@[simp] theorem modEth_ffe (e : Fin 2) (f : EthPort → EthPort) (s : Rc8) : (modEth e f s).ffe = s.ffe := rfl
@[simp] theorem modEth_pwr (e : Fin 2) (f : EthPort → EthPort) (s : Rc8) : (modEth e f s).pwr = s.pwr := rfl
@[simp] theorem modEth_restartAt (e : Fin 2) (f : EthPort → EthPort) (s : Rc8) : (modEth e f s).restartAt = s.restartAt := rfl
@[simp] theorem modEth_trialFrom (e : Fin 2) (f : EthPort → EthPort) (s : Rc8) : (modEth e f s).trialFrom = s.trialFrom := rfl
@[simp] theorem modEth_expiryHandover (e : Fin 2) (f : EthPort → EthPort) (s : Rc8) : (modEth e f s).expiryHandover = s.expiryHandover := rfl
@[simp] theorem modEth_nv (e : Fin 2) (f : EthPort → EthPort) (s : Rc8) : (modEth e f s).nv = s.nv := rfl

/-! ### modPeer -/

@[simp] theorem modPeer_ident (c : Fin 16) (f : Peer → Peer) (s : Rc8) : (modPeer c f s).ident = s.ident := rfl
@[simp] theorem modPeer_clk (c : Fin 16) (f : Peer → Peer) (s : Rc8) : (modPeer c f s).clk = s.clk := rfl
@[simp] theorem modPeer_svpReady (c : Fin 16) (f : Peer → Peer) (s : Rc8) : (modPeer c f s).svpReady = s.svpReady := rfl
@[simp] theorem modPeer_hp (c : Fin 16) (f : Peer → Peer) (s : Rc8) : (modPeer c f s).hp = s.hp := rfl
@[simp] theorem modPeer_execs (c : Fin 16) (f : Peer → Peer) (s : Rc8) : (modPeer c f s).execs = s.execs := rfl
@[simp] theorem modPeer_nextExec (c : Fin 16) (f : Peer → Peer) (s : Rc8) : (modPeer c f s).nextExec = s.nextExec := rfl
@[simp] theorem modPeer_arrivals (c : Fin 16) (f : Peer → Peer) (s : Rc8) : (modPeer c f s).arrivals = s.arrivals := rfl
@[simp] theorem modPeer_limits (c : Fin 16) (f : Peer → Peer) (s : Rc8) : (modPeer c f s).limits = s.limits := rfl
@[simp] theorem modPeer_bar2 (c : Fin 16) (f : Peer → Peer) (s : Rc8) : (modPeer c f s).bar2 = s.bar2 := rfl
@[simp] theorem modPeer_out (c : Fin 16) (f : Peer → Peer) (s : Rc8) : (modPeer c f s).out = s.out := rfl
@[simp] theorem modPeer_rcd (c : Fin 16) (f : Peer → Peer) (s : Rc8) : (modPeer c f s).rcd = s.rcd := rfl
@[simp] theorem modPeer_rnd (c : Fin 16) (f : Peer → Peer) (s : Rc8) : (modPeer c f s).rnd = s.rnd := rfl
@[simp] theorem modPeer_net (c : Fin 16) (f : Peer → Peer) (s : Rc8) : (modPeer c f s).net = s.net := rfl
@[simp] theorem modPeer_sch (c : Fin 16) (f : Peer → Peer) (s : Rc8) : (modPeer c f s).sch = s.sch := rfl
@[simp] theorem modPeer_eng (c : Fin 16) (f : Peer → Peer) (s : Rc8) : (modPeer c f s).eng = s.eng := rfl
@[simp] theorem modPeer_learn (c : Fin 16) (f : Peer → Peer) (s : Rc8) : (modPeer c f s).learn = s.learn := rfl
@[simp] theorem modPeer_tablesRestored (c : Fin 16) (f : Peer → Peer) (s : Rc8) : (modPeer c f s).tablesRestored = s.tablesRestored := rfl
@[simp] theorem modPeer_run (c : Fin 16) (f : Peer → Peer) (s : Rc8) : (modPeer c f s).run = s.run := rfl
@[simp] theorem modPeer_chg (c : Fin 16) (f : Peer → Peer) (s : Rc8) : (modPeer c f s).chg = s.chg := rfl
@[simp] theorem modPeer_pair (c : Fin 16) (f : Peer → Peer) (s : Rc8) : (modPeer c f s).pair = s.pair := rfl
@[simp] theorem modPeer_saf (c : Fin 16) (f : Peer → Peer) (s : Rc8) : (modPeer c f s).saf = s.saf := rfl
@[simp] theorem modPeer_itg (c : Fin 16) (f : Peer → Peer) (s : Rc8) : (modPeer c f s).itg = s.itg := rfl
@[simp] theorem modPeer_tim (c : Fin 16) (f : Peer → Peer) (s : Rc8) : (modPeer c f s).tim = s.tim := rfl
@[simp] theorem modPeer_eth (c : Fin 16) (f : Peer → Peer) (s : Rc8) : (modPeer c f s).eth = s.eth := rfl
@[simp] theorem modPeer_peers (c : Fin 16) (f : Peer → Peer) (s : Rc8) : (modPeer c f s).peers = vmod s.peers c f := rfl
@[simp] theorem modPeer_can (c : Fin 16) (f : Peer → Peer) (s : Rc8) : (modPeer c f s).can = s.can := rfl
@[simp] theorem modPeer_ffe (c : Fin 16) (f : Peer → Peer) (s : Rc8) : (modPeer c f s).ffe = s.ffe := rfl
@[simp] theorem modPeer_pwr (c : Fin 16) (f : Peer → Peer) (s : Rc8) : (modPeer c f s).pwr = s.pwr := rfl
@[simp] theorem modPeer_restartAt (c : Fin 16) (f : Peer → Peer) (s : Rc8) : (modPeer c f s).restartAt = s.restartAt := rfl
@[simp] theorem modPeer_trialFrom (c : Fin 16) (f : Peer → Peer) (s : Rc8) : (modPeer c f s).trialFrom = s.trialFrom := rfl
@[simp] theorem modPeer_expiryHandover (c : Fin 16) (f : Peer → Peer) (s : Rc8) : (modPeer c f s).expiryHandover = s.expiryHandover := rfl
@[simp] theorem modPeer_nv (c : Fin 16) (f : Peer → Peer) (s : Rc8) : (modPeer c f s).nv = s.nv := rfl

/-! ### modFfe -/

@[simp] theorem modFfe_ident (f : FieldFront → FieldFront) (s : Rc8) : (modFfe f s).ident = s.ident := rfl
@[simp] theorem modFfe_clk (f : FieldFront → FieldFront) (s : Rc8) : (modFfe f s).clk = s.clk := rfl
@[simp] theorem modFfe_svpReady (f : FieldFront → FieldFront) (s : Rc8) : (modFfe f s).svpReady = s.svpReady := rfl
@[simp] theorem modFfe_hp (f : FieldFront → FieldFront) (s : Rc8) : (modFfe f s).hp = s.hp := rfl
@[simp] theorem modFfe_execs (f : FieldFront → FieldFront) (s : Rc8) : (modFfe f s).execs = s.execs := rfl
@[simp] theorem modFfe_nextExec (f : FieldFront → FieldFront) (s : Rc8) : (modFfe f s).nextExec = s.nextExec := rfl
@[simp] theorem modFfe_arrivals (f : FieldFront → FieldFront) (s : Rc8) : (modFfe f s).arrivals = s.arrivals := rfl
@[simp] theorem modFfe_limits (f : FieldFront → FieldFront) (s : Rc8) : (modFfe f s).limits = s.limits := rfl
@[simp] theorem modFfe_bar2 (f : FieldFront → FieldFront) (s : Rc8) : (modFfe f s).bar2 = s.bar2 := rfl
@[simp] theorem modFfe_out (f : FieldFront → FieldFront) (s : Rc8) : (modFfe f s).out = s.out := rfl
@[simp] theorem modFfe_rcd (f : FieldFront → FieldFront) (s : Rc8) : (modFfe f s).rcd = s.rcd := rfl
@[simp] theorem modFfe_rnd (f : FieldFront → FieldFront) (s : Rc8) : (modFfe f s).rnd = s.rnd := rfl
@[simp] theorem modFfe_net (f : FieldFront → FieldFront) (s : Rc8) : (modFfe f s).net = s.net := rfl
@[simp] theorem modFfe_sch (f : FieldFront → FieldFront) (s : Rc8) : (modFfe f s).sch = s.sch := rfl
@[simp] theorem modFfe_eng (f : FieldFront → FieldFront) (s : Rc8) : (modFfe f s).eng = s.eng := rfl
@[simp] theorem modFfe_learn (f : FieldFront → FieldFront) (s : Rc8) : (modFfe f s).learn = s.learn := rfl
@[simp] theorem modFfe_tablesRestored (f : FieldFront → FieldFront) (s : Rc8) : (modFfe f s).tablesRestored = s.tablesRestored := rfl
@[simp] theorem modFfe_run (f : FieldFront → FieldFront) (s : Rc8) : (modFfe f s).run = s.run := rfl
@[simp] theorem modFfe_chg (f : FieldFront → FieldFront) (s : Rc8) : (modFfe f s).chg = s.chg := rfl
@[simp] theorem modFfe_pair (f : FieldFront → FieldFront) (s : Rc8) : (modFfe f s).pair = s.pair := rfl
@[simp] theorem modFfe_saf (f : FieldFront → FieldFront) (s : Rc8) : (modFfe f s).saf = s.saf := rfl
@[simp] theorem modFfe_itg (f : FieldFront → FieldFront) (s : Rc8) : (modFfe f s).itg = s.itg := rfl
@[simp] theorem modFfe_tim (f : FieldFront → FieldFront) (s : Rc8) : (modFfe f s).tim = s.tim := rfl
@[simp] theorem modFfe_eth (f : FieldFront → FieldFront) (s : Rc8) : (modFfe f s).eth = s.eth := rfl
@[simp] theorem modFfe_peers (f : FieldFront → FieldFront) (s : Rc8) : (modFfe f s).peers = s.peers := rfl
@[simp] theorem modFfe_can (f : FieldFront → FieldFront) (s : Rc8) : (modFfe f s).can = s.can := rfl
@[simp] theorem modFfe_ffe (f : FieldFront → FieldFront) (s : Rc8) : (modFfe f s).ffe = f s.ffe := rfl
@[simp] theorem modFfe_pwr (f : FieldFront → FieldFront) (s : Rc8) : (modFfe f s).pwr = s.pwr := rfl
@[simp] theorem modFfe_restartAt (f : FieldFront → FieldFront) (s : Rc8) : (modFfe f s).restartAt = s.restartAt := rfl
@[simp] theorem modFfe_trialFrom (f : FieldFront → FieldFront) (s : Rc8) : (modFfe f s).trialFrom = s.trialFrom := rfl
@[simp] theorem modFfe_expiryHandover (f : FieldFront → FieldFront) (s : Rc8) : (modFfe f s).expiryHandover = s.expiryHandover := rfl
@[simp] theorem modFfe_nv (f : FieldFront → FieldFront) (s : Rc8) : (modFfe f s).nv = s.nv := rfl

/-! ### modItg -/

@[simp] theorem modItg_ident (f : Integrity → Integrity) (s : Rc8) : (modItg f s).ident = s.ident := rfl
@[simp] theorem modItg_clk (f : Integrity → Integrity) (s : Rc8) : (modItg f s).clk = s.clk := rfl
@[simp] theorem modItg_svpReady (f : Integrity → Integrity) (s : Rc8) : (modItg f s).svpReady = s.svpReady := rfl
@[simp] theorem modItg_hp (f : Integrity → Integrity) (s : Rc8) : (modItg f s).hp = s.hp := rfl
@[simp] theorem modItg_execs (f : Integrity → Integrity) (s : Rc8) : (modItg f s).execs = s.execs := rfl
@[simp] theorem modItg_nextExec (f : Integrity → Integrity) (s : Rc8) : (modItg f s).nextExec = s.nextExec := rfl
@[simp] theorem modItg_arrivals (f : Integrity → Integrity) (s : Rc8) : (modItg f s).arrivals = s.arrivals := rfl
@[simp] theorem modItg_limits (f : Integrity → Integrity) (s : Rc8) : (modItg f s).limits = s.limits := rfl
@[simp] theorem modItg_bar2 (f : Integrity → Integrity) (s : Rc8) : (modItg f s).bar2 = s.bar2 := rfl
@[simp] theorem modItg_out (f : Integrity → Integrity) (s : Rc8) : (modItg f s).out = s.out := rfl
@[simp] theorem modItg_rcd (f : Integrity → Integrity) (s : Rc8) : (modItg f s).rcd = s.rcd := rfl
@[simp] theorem modItg_rnd (f : Integrity → Integrity) (s : Rc8) : (modItg f s).rnd = s.rnd := rfl
@[simp] theorem modItg_net (f : Integrity → Integrity) (s : Rc8) : (modItg f s).net = s.net := rfl
@[simp] theorem modItg_sch (f : Integrity → Integrity) (s : Rc8) : (modItg f s).sch = s.sch := rfl
@[simp] theorem modItg_eng (f : Integrity → Integrity) (s : Rc8) : (modItg f s).eng = s.eng := rfl
@[simp] theorem modItg_learn (f : Integrity → Integrity) (s : Rc8) : (modItg f s).learn = s.learn := rfl
@[simp] theorem modItg_tablesRestored (f : Integrity → Integrity) (s : Rc8) : (modItg f s).tablesRestored = s.tablesRestored := rfl
@[simp] theorem modItg_run (f : Integrity → Integrity) (s : Rc8) : (modItg f s).run = s.run := rfl
@[simp] theorem modItg_chg (f : Integrity → Integrity) (s : Rc8) : (modItg f s).chg = s.chg := rfl
@[simp] theorem modItg_pair (f : Integrity → Integrity) (s : Rc8) : (modItg f s).pair = s.pair := rfl
@[simp] theorem modItg_saf (f : Integrity → Integrity) (s : Rc8) : (modItg f s).saf = s.saf := rfl
@[simp] theorem modItg_itg (f : Integrity → Integrity) (s : Rc8) : (modItg f s).itg = f s.itg := rfl
@[simp] theorem modItg_tim (f : Integrity → Integrity) (s : Rc8) : (modItg f s).tim = s.tim := rfl
@[simp] theorem modItg_eth (f : Integrity → Integrity) (s : Rc8) : (modItg f s).eth = s.eth := rfl
@[simp] theorem modItg_peers (f : Integrity → Integrity) (s : Rc8) : (modItg f s).peers = s.peers := rfl
@[simp] theorem modItg_can (f : Integrity → Integrity) (s : Rc8) : (modItg f s).can = s.can := rfl
@[simp] theorem modItg_ffe (f : Integrity → Integrity) (s : Rc8) : (modItg f s).ffe = s.ffe := rfl
@[simp] theorem modItg_pwr (f : Integrity → Integrity) (s : Rc8) : (modItg f s).pwr = s.pwr := rfl
@[simp] theorem modItg_restartAt (f : Integrity → Integrity) (s : Rc8) : (modItg f s).restartAt = s.restartAt := rfl
@[simp] theorem modItg_trialFrom (f : Integrity → Integrity) (s : Rc8) : (modItg f s).trialFrom = s.trialFrom := rfl
@[simp] theorem modItg_expiryHandover (f : Integrity → Integrity) (s : Rc8) : (modItg f s).expiryHandover = s.expiryHandover := rfl
@[simp] theorem modItg_nv (f : Integrity → Integrity) (s : Rc8) : (modItg f s).nv = s.nv := rfl

/-! ### modPair -/

@[simp] theorem modPair_ident (f : Pair → Pair) (s : Rc8) : (modPair f s).ident = s.ident := rfl
@[simp] theorem modPair_clk (f : Pair → Pair) (s : Rc8) : (modPair f s).clk = s.clk := rfl
@[simp] theorem modPair_svpReady (f : Pair → Pair) (s : Rc8) : (modPair f s).svpReady = s.svpReady := rfl
@[simp] theorem modPair_hp (f : Pair → Pair) (s : Rc8) : (modPair f s).hp = s.hp := rfl
@[simp] theorem modPair_execs (f : Pair → Pair) (s : Rc8) : (modPair f s).execs = s.execs := rfl
@[simp] theorem modPair_nextExec (f : Pair → Pair) (s : Rc8) : (modPair f s).nextExec = s.nextExec := rfl
@[simp] theorem modPair_arrivals (f : Pair → Pair) (s : Rc8) : (modPair f s).arrivals = s.arrivals := rfl
@[simp] theorem modPair_limits (f : Pair → Pair) (s : Rc8) : (modPair f s).limits = s.limits := rfl
@[simp] theorem modPair_bar2 (f : Pair → Pair) (s : Rc8) : (modPair f s).bar2 = s.bar2 := rfl
@[simp] theorem modPair_out (f : Pair → Pair) (s : Rc8) : (modPair f s).out = s.out := rfl
@[simp] theorem modPair_rcd (f : Pair → Pair) (s : Rc8) : (modPair f s).rcd = s.rcd := rfl
@[simp] theorem modPair_rnd (f : Pair → Pair) (s : Rc8) : (modPair f s).rnd = s.rnd := rfl
@[simp] theorem modPair_net (f : Pair → Pair) (s : Rc8) : (modPair f s).net = s.net := rfl
@[simp] theorem modPair_sch (f : Pair → Pair) (s : Rc8) : (modPair f s).sch = s.sch := rfl
@[simp] theorem modPair_eng (f : Pair → Pair) (s : Rc8) : (modPair f s).eng = s.eng := rfl
@[simp] theorem modPair_learn (f : Pair → Pair) (s : Rc8) : (modPair f s).learn = s.learn := rfl
@[simp] theorem modPair_tablesRestored (f : Pair → Pair) (s : Rc8) : (modPair f s).tablesRestored = s.tablesRestored := rfl
@[simp] theorem modPair_run (f : Pair → Pair) (s : Rc8) : (modPair f s).run = s.run := rfl
@[simp] theorem modPair_chg (f : Pair → Pair) (s : Rc8) : (modPair f s).chg = s.chg := rfl
@[simp] theorem modPair_pair (f : Pair → Pair) (s : Rc8) : (modPair f s).pair = f s.pair := rfl
@[simp] theorem modPair_saf (f : Pair → Pair) (s : Rc8) : (modPair f s).saf = s.saf := rfl
@[simp] theorem modPair_itg (f : Pair → Pair) (s : Rc8) : (modPair f s).itg = s.itg := rfl
@[simp] theorem modPair_tim (f : Pair → Pair) (s : Rc8) : (modPair f s).tim = s.tim := rfl
@[simp] theorem modPair_eth (f : Pair → Pair) (s : Rc8) : (modPair f s).eth = s.eth := rfl
@[simp] theorem modPair_peers (f : Pair → Pair) (s : Rc8) : (modPair f s).peers = s.peers := rfl
@[simp] theorem modPair_can (f : Pair → Pair) (s : Rc8) : (modPair f s).can = s.can := rfl
@[simp] theorem modPair_ffe (f : Pair → Pair) (s : Rc8) : (modPair f s).ffe = s.ffe := rfl
@[simp] theorem modPair_pwr (f : Pair → Pair) (s : Rc8) : (modPair f s).pwr = s.pwr := rfl
@[simp] theorem modPair_restartAt (f : Pair → Pair) (s : Rc8) : (modPair f s).restartAt = s.restartAt := rfl
@[simp] theorem modPair_trialFrom (f : Pair → Pair) (s : Rc8) : (modPair f s).trialFrom = s.trialFrom := rfl
@[simp] theorem modPair_expiryHandover (f : Pair → Pair) (s : Rc8) : (modPair f s).expiryHandover = s.expiryHandover := rfl
@[simp] theorem modPair_nv (f : Pair → Pair) (s : Rc8) : (modPair f s).nv = s.nv := rfl

/-! ### modTim -/

@[simp] theorem modTim_ident (f : PlantTime → PlantTime) (s : Rc8) : (modTim f s).ident = s.ident := rfl
@[simp] theorem modTim_clk (f : PlantTime → PlantTime) (s : Rc8) : (modTim f s).clk = s.clk := rfl
@[simp] theorem modTim_svpReady (f : PlantTime → PlantTime) (s : Rc8) : (modTim f s).svpReady = s.svpReady := rfl
@[simp] theorem modTim_hp (f : PlantTime → PlantTime) (s : Rc8) : (modTim f s).hp = s.hp := rfl
@[simp] theorem modTim_execs (f : PlantTime → PlantTime) (s : Rc8) : (modTim f s).execs = s.execs := rfl
@[simp] theorem modTim_nextExec (f : PlantTime → PlantTime) (s : Rc8) : (modTim f s).nextExec = s.nextExec := rfl
@[simp] theorem modTim_arrivals (f : PlantTime → PlantTime) (s : Rc8) : (modTim f s).arrivals = s.arrivals := rfl
@[simp] theorem modTim_limits (f : PlantTime → PlantTime) (s : Rc8) : (modTim f s).limits = s.limits := rfl
@[simp] theorem modTim_bar2 (f : PlantTime → PlantTime) (s : Rc8) : (modTim f s).bar2 = s.bar2 := rfl
@[simp] theorem modTim_out (f : PlantTime → PlantTime) (s : Rc8) : (modTim f s).out = s.out := rfl
@[simp] theorem modTim_rcd (f : PlantTime → PlantTime) (s : Rc8) : (modTim f s).rcd = s.rcd := rfl
@[simp] theorem modTim_rnd (f : PlantTime → PlantTime) (s : Rc8) : (modTim f s).rnd = s.rnd := rfl
@[simp] theorem modTim_net (f : PlantTime → PlantTime) (s : Rc8) : (modTim f s).net = s.net := rfl
@[simp] theorem modTim_sch (f : PlantTime → PlantTime) (s : Rc8) : (modTim f s).sch = s.sch := rfl
@[simp] theorem modTim_eng (f : PlantTime → PlantTime) (s : Rc8) : (modTim f s).eng = s.eng := rfl
@[simp] theorem modTim_learn (f : PlantTime → PlantTime) (s : Rc8) : (modTim f s).learn = s.learn := rfl
@[simp] theorem modTim_tablesRestored (f : PlantTime → PlantTime) (s : Rc8) : (modTim f s).tablesRestored = s.tablesRestored := rfl
@[simp] theorem modTim_run (f : PlantTime → PlantTime) (s : Rc8) : (modTim f s).run = s.run := rfl
@[simp] theorem modTim_chg (f : PlantTime → PlantTime) (s : Rc8) : (modTim f s).chg = s.chg := rfl
@[simp] theorem modTim_pair (f : PlantTime → PlantTime) (s : Rc8) : (modTim f s).pair = s.pair := rfl
@[simp] theorem modTim_saf (f : PlantTime → PlantTime) (s : Rc8) : (modTim f s).saf = s.saf := rfl
@[simp] theorem modTim_itg (f : PlantTime → PlantTime) (s : Rc8) : (modTim f s).itg = s.itg := rfl
@[simp] theorem modTim_tim (f : PlantTime → PlantTime) (s : Rc8) : (modTim f s).tim = f s.tim := rfl
@[simp] theorem modTim_eth (f : PlantTime → PlantTime) (s : Rc8) : (modTim f s).eth = s.eth := rfl
@[simp] theorem modTim_peers (f : PlantTime → PlantTime) (s : Rc8) : (modTim f s).peers = s.peers := rfl
@[simp] theorem modTim_can (f : PlantTime → PlantTime) (s : Rc8) : (modTim f s).can = s.can := rfl
@[simp] theorem modTim_ffe (f : PlantTime → PlantTime) (s : Rc8) : (modTim f s).ffe = s.ffe := rfl
@[simp] theorem modTim_pwr (f : PlantTime → PlantTime) (s : Rc8) : (modTim f s).pwr = s.pwr := rfl
@[simp] theorem modTim_restartAt (f : PlantTime → PlantTime) (s : Rc8) : (modTim f s).restartAt = s.restartAt := rfl
@[simp] theorem modTim_trialFrom (f : PlantTime → PlantTime) (s : Rc8) : (modTim f s).trialFrom = s.trialFrom := rfl
@[simp] theorem modTim_expiryHandover (f : PlantTime → PlantTime) (s : Rc8) : (modTim f s).expiryHandover = s.expiryHandover := rfl
@[simp] theorem modTim_nv (f : PlantTime → PlantTime) (s : Rc8) : (modTim f s).nv = s.nv := rfl

/-! ### modPwr -/

@[simp] theorem modPwr_ident (f : Power → Power) (s : Rc8) : (modPwr f s).ident = s.ident := rfl
@[simp] theorem modPwr_clk (f : Power → Power) (s : Rc8) : (modPwr f s).clk = s.clk := rfl
@[simp] theorem modPwr_svpReady (f : Power → Power) (s : Rc8) : (modPwr f s).svpReady = s.svpReady := rfl
@[simp] theorem modPwr_hp (f : Power → Power) (s : Rc8) : (modPwr f s).hp = s.hp := rfl
@[simp] theorem modPwr_execs (f : Power → Power) (s : Rc8) : (modPwr f s).execs = s.execs := rfl
@[simp] theorem modPwr_nextExec (f : Power → Power) (s : Rc8) : (modPwr f s).nextExec = s.nextExec := rfl
@[simp] theorem modPwr_arrivals (f : Power → Power) (s : Rc8) : (modPwr f s).arrivals = s.arrivals := rfl
@[simp] theorem modPwr_limits (f : Power → Power) (s : Rc8) : (modPwr f s).limits = s.limits := rfl
@[simp] theorem modPwr_bar2 (f : Power → Power) (s : Rc8) : (modPwr f s).bar2 = s.bar2 := rfl
@[simp] theorem modPwr_out (f : Power → Power) (s : Rc8) : (modPwr f s).out = s.out := rfl
@[simp] theorem modPwr_rcd (f : Power → Power) (s : Rc8) : (modPwr f s).rcd = s.rcd := rfl
@[simp] theorem modPwr_rnd (f : Power → Power) (s : Rc8) : (modPwr f s).rnd = s.rnd := rfl
@[simp] theorem modPwr_net (f : Power → Power) (s : Rc8) : (modPwr f s).net = s.net := rfl
@[simp] theorem modPwr_sch (f : Power → Power) (s : Rc8) : (modPwr f s).sch = s.sch := rfl
@[simp] theorem modPwr_eng (f : Power → Power) (s : Rc8) : (modPwr f s).eng = s.eng := rfl
@[simp] theorem modPwr_learn (f : Power → Power) (s : Rc8) : (modPwr f s).learn = s.learn := rfl
@[simp] theorem modPwr_tablesRestored (f : Power → Power) (s : Rc8) : (modPwr f s).tablesRestored = s.tablesRestored := rfl
@[simp] theorem modPwr_run (f : Power → Power) (s : Rc8) : (modPwr f s).run = s.run := rfl
@[simp] theorem modPwr_chg (f : Power → Power) (s : Rc8) : (modPwr f s).chg = s.chg := rfl
@[simp] theorem modPwr_pair (f : Power → Power) (s : Rc8) : (modPwr f s).pair = s.pair := rfl
@[simp] theorem modPwr_saf (f : Power → Power) (s : Rc8) : (modPwr f s).saf = s.saf := rfl
@[simp] theorem modPwr_itg (f : Power → Power) (s : Rc8) : (modPwr f s).itg = s.itg := rfl
@[simp] theorem modPwr_tim (f : Power → Power) (s : Rc8) : (modPwr f s).tim = s.tim := rfl
@[simp] theorem modPwr_eth (f : Power → Power) (s : Rc8) : (modPwr f s).eth = s.eth := rfl
@[simp] theorem modPwr_peers (f : Power → Power) (s : Rc8) : (modPwr f s).peers = s.peers := rfl
@[simp] theorem modPwr_can (f : Power → Power) (s : Rc8) : (modPwr f s).can = s.can := rfl
@[simp] theorem modPwr_ffe (f : Power → Power) (s : Rc8) : (modPwr f s).ffe = s.ffe := rfl
@[simp] theorem modPwr_pwr (f : Power → Power) (s : Rc8) : (modPwr f s).pwr = f s.pwr := rfl
@[simp] theorem modPwr_restartAt (f : Power → Power) (s : Rc8) : (modPwr f s).restartAt = s.restartAt := rfl
@[simp] theorem modPwr_trialFrom (f : Power → Power) (s : Rc8) : (modPwr f s).trialFrom = s.trialFrom := rfl
@[simp] theorem modPwr_expiryHandover (f : Power → Power) (s : Rc8) : (modPwr f s).expiryHandover = s.expiryHandover := rfl
@[simp] theorem modPwr_nv (f : Power → Power) (s : Rc8) : (modPwr f s).nv = s.nv := rfl

/-! ### modRun -/

@[simp] theorem modRun_ident (f : Runtime → Runtime) (s : Rc8) : (modRun f s).ident = s.ident := rfl
@[simp] theorem modRun_clk (f : Runtime → Runtime) (s : Rc8) : (modRun f s).clk = s.clk := rfl
@[simp] theorem modRun_svpReady (f : Runtime → Runtime) (s : Rc8) : (modRun f s).svpReady = s.svpReady := rfl
@[simp] theorem modRun_hp (f : Runtime → Runtime) (s : Rc8) : (modRun f s).hp = s.hp := rfl
@[simp] theorem modRun_execs (f : Runtime → Runtime) (s : Rc8) : (modRun f s).execs = s.execs := rfl
@[simp] theorem modRun_nextExec (f : Runtime → Runtime) (s : Rc8) : (modRun f s).nextExec = s.nextExec := rfl
@[simp] theorem modRun_arrivals (f : Runtime → Runtime) (s : Rc8) : (modRun f s).arrivals = s.arrivals := rfl
@[simp] theorem modRun_limits (f : Runtime → Runtime) (s : Rc8) : (modRun f s).limits = s.limits := rfl
@[simp] theorem modRun_bar2 (f : Runtime → Runtime) (s : Rc8) : (modRun f s).bar2 = s.bar2 := rfl
@[simp] theorem modRun_out (f : Runtime → Runtime) (s : Rc8) : (modRun f s).out = s.out := rfl
@[simp] theorem modRun_rcd (f : Runtime → Runtime) (s : Rc8) : (modRun f s).rcd = s.rcd := rfl
@[simp] theorem modRun_rnd (f : Runtime → Runtime) (s : Rc8) : (modRun f s).rnd = s.rnd := rfl
@[simp] theorem modRun_net (f : Runtime → Runtime) (s : Rc8) : (modRun f s).net = s.net := rfl
@[simp] theorem modRun_sch (f : Runtime → Runtime) (s : Rc8) : (modRun f s).sch = s.sch := rfl
@[simp] theorem modRun_eng (f : Runtime → Runtime) (s : Rc8) : (modRun f s).eng = s.eng := rfl
@[simp] theorem modRun_learn (f : Runtime → Runtime) (s : Rc8) : (modRun f s).learn = s.learn := rfl
@[simp] theorem modRun_tablesRestored (f : Runtime → Runtime) (s : Rc8) : (modRun f s).tablesRestored = s.tablesRestored := rfl
@[simp] theorem modRun_run (f : Runtime → Runtime) (s : Rc8) : (modRun f s).run = f s.run := rfl
@[simp] theorem modRun_chg (f : Runtime → Runtime) (s : Rc8) : (modRun f s).chg = s.chg := rfl
@[simp] theorem modRun_pair (f : Runtime → Runtime) (s : Rc8) : (modRun f s).pair = s.pair := rfl
@[simp] theorem modRun_saf (f : Runtime → Runtime) (s : Rc8) : (modRun f s).saf = s.saf := rfl
@[simp] theorem modRun_itg (f : Runtime → Runtime) (s : Rc8) : (modRun f s).itg = s.itg := rfl
@[simp] theorem modRun_tim (f : Runtime → Runtime) (s : Rc8) : (modRun f s).tim = s.tim := rfl
@[simp] theorem modRun_eth (f : Runtime → Runtime) (s : Rc8) : (modRun f s).eth = s.eth := rfl
@[simp] theorem modRun_peers (f : Runtime → Runtime) (s : Rc8) : (modRun f s).peers = s.peers := rfl
@[simp] theorem modRun_can (f : Runtime → Runtime) (s : Rc8) : (modRun f s).can = s.can := rfl
@[simp] theorem modRun_ffe (f : Runtime → Runtime) (s : Rc8) : (modRun f s).ffe = s.ffe := rfl
@[simp] theorem modRun_pwr (f : Runtime → Runtime) (s : Rc8) : (modRun f s).pwr = s.pwr := rfl
@[simp] theorem modRun_restartAt (f : Runtime → Runtime) (s : Rc8) : (modRun f s).restartAt = s.restartAt := rfl
@[simp] theorem modRun_trialFrom (f : Runtime → Runtime) (s : Rc8) : (modRun f s).trialFrom = s.trialFrom := rfl
@[simp] theorem modRun_expiryHandover (f : Runtime → Runtime) (s : Rc8) : (modRun f s).expiryHandover = s.expiryHandover := rfl
@[simp] theorem modRun_nv (f : Runtime → Runtime) (s : Rc8) : (modRun f s).nv = s.nv := rfl

/-! ### modTask -/

@[simp] theorem modTask_ident (t : Fin 8) (f : Task → Task) (s : Rc8) : (modTask t f s).ident = s.ident := rfl
@[simp] theorem modTask_clk (t : Fin 8) (f : Task → Task) (s : Rc8) : (modTask t f s).clk = s.clk := rfl
@[simp] theorem modTask_svpReady (t : Fin 8) (f : Task → Task) (s : Rc8) : (modTask t f s).svpReady = s.svpReady := rfl
@[simp] theorem modTask_hp (t : Fin 8) (f : Task → Task) (s : Rc8) : (modTask t f s).hp = s.hp := rfl
@[simp] theorem modTask_execs (t : Fin 8) (f : Task → Task) (s : Rc8) : (modTask t f s).execs = s.execs := rfl
@[simp] theorem modTask_nextExec (t : Fin 8) (f : Task → Task) (s : Rc8) : (modTask t f s).nextExec = s.nextExec := rfl
@[simp] theorem modTask_arrivals (t : Fin 8) (f : Task → Task) (s : Rc8) : (modTask t f s).arrivals = s.arrivals := rfl
@[simp] theorem modTask_limits (t : Fin 8) (f : Task → Task) (s : Rc8) : (modTask t f s).limits = s.limits := rfl
@[simp] theorem modTask_bar2 (t : Fin 8) (f : Task → Task) (s : Rc8) : (modTask t f s).bar2 = s.bar2 := rfl
@[simp] theorem modTask_out (t : Fin 8) (f : Task → Task) (s : Rc8) : (modTask t f s).out = s.out := rfl
@[simp] theorem modTask_rcd (t : Fin 8) (f : Task → Task) (s : Rc8) : (modTask t f s).rcd = s.rcd := rfl
@[simp] theorem modTask_rnd (t : Fin 8) (f : Task → Task) (s : Rc8) : (modTask t f s).rnd = s.rnd := rfl
@[simp] theorem modTask_net (t : Fin 8) (f : Task → Task) (s : Rc8) : (modTask t f s).net = s.net := rfl
@[simp] theorem modTask_sch (t : Fin 8) (f : Task → Task) (s : Rc8) : (modTask t f s).sch = s.sch := rfl
@[simp] theorem modTask_eng (t : Fin 8) (f : Task → Task) (s : Rc8) : (modTask t f s).eng = s.eng := rfl
@[simp] theorem modTask_learn (t : Fin 8) (f : Task → Task) (s : Rc8) : (modTask t f s).learn = s.learn := rfl
@[simp] theorem modTask_tablesRestored (t : Fin 8) (f : Task → Task) (s : Rc8) : (modTask t f s).tablesRestored = s.tablesRestored := rfl
@[simp] theorem modTask_run (t : Fin 8) (f : Task → Task) (s : Rc8) : (modTask t f s).run = { s.run with tasks := vmod s.run.tasks t f } := rfl
@[simp] theorem modTask_chg (t : Fin 8) (f : Task → Task) (s : Rc8) : (modTask t f s).chg = s.chg := rfl
@[simp] theorem modTask_pair (t : Fin 8) (f : Task → Task) (s : Rc8) : (modTask t f s).pair = s.pair := rfl
@[simp] theorem modTask_saf (t : Fin 8) (f : Task → Task) (s : Rc8) : (modTask t f s).saf = s.saf := rfl
@[simp] theorem modTask_itg (t : Fin 8) (f : Task → Task) (s : Rc8) : (modTask t f s).itg = s.itg := rfl
@[simp] theorem modTask_tim (t : Fin 8) (f : Task → Task) (s : Rc8) : (modTask t f s).tim = s.tim := rfl
@[simp] theorem modTask_eth (t : Fin 8) (f : Task → Task) (s : Rc8) : (modTask t f s).eth = s.eth := rfl
@[simp] theorem modTask_peers (t : Fin 8) (f : Task → Task) (s : Rc8) : (modTask t f s).peers = s.peers := rfl
@[simp] theorem modTask_can (t : Fin 8) (f : Task → Task) (s : Rc8) : (modTask t f s).can = s.can := rfl
@[simp] theorem modTask_ffe (t : Fin 8) (f : Task → Task) (s : Rc8) : (modTask t f s).ffe = s.ffe := rfl
@[simp] theorem modTask_pwr (t : Fin 8) (f : Task → Task) (s : Rc8) : (modTask t f s).pwr = s.pwr := rfl
@[simp] theorem modTask_restartAt (t : Fin 8) (f : Task → Task) (s : Rc8) : (modTask t f s).restartAt = s.restartAt := rfl
@[simp] theorem modTask_trialFrom (t : Fin 8) (f : Task → Task) (s : Rc8) : (modTask t f s).trialFrom = s.trialFrom := rfl
@[simp] theorem modTask_expiryHandover (t : Fin 8) (f : Task → Task) (s : Rc8) : (modTask t f s).expiryHandover = s.expiryHandover := rfl
@[simp] theorem modTask_nv (t : Fin 8) (f : Task → Task) (s : Rc8) : (modTask t f s).nv = s.nv := rfl

/-! ### modSaf -/

@[simp] theorem modSaf_ident (f : Safety → Safety) (s : Rc8) : (modSaf f s).ident = s.ident := rfl
@[simp] theorem modSaf_clk (f : Safety → Safety) (s : Rc8) : (modSaf f s).clk = s.clk := rfl
@[simp] theorem modSaf_svpReady (f : Safety → Safety) (s : Rc8) : (modSaf f s).svpReady = s.svpReady := rfl
@[simp] theorem modSaf_hp (f : Safety → Safety) (s : Rc8) : (modSaf f s).hp = s.hp := rfl
@[simp] theorem modSaf_execs (f : Safety → Safety) (s : Rc8) : (modSaf f s).execs = s.execs := rfl
@[simp] theorem modSaf_nextExec (f : Safety → Safety) (s : Rc8) : (modSaf f s).nextExec = s.nextExec := rfl
@[simp] theorem modSaf_arrivals (f : Safety → Safety) (s : Rc8) : (modSaf f s).arrivals = s.arrivals := rfl
@[simp] theorem modSaf_limits (f : Safety → Safety) (s : Rc8) : (modSaf f s).limits = s.limits := rfl
@[simp] theorem modSaf_bar2 (f : Safety → Safety) (s : Rc8) : (modSaf f s).bar2 = s.bar2 := rfl
@[simp] theorem modSaf_out (f : Safety → Safety) (s : Rc8) : (modSaf f s).out = s.out := rfl
@[simp] theorem modSaf_rcd (f : Safety → Safety) (s : Rc8) : (modSaf f s).rcd = s.rcd := rfl
@[simp] theorem modSaf_rnd (f : Safety → Safety) (s : Rc8) : (modSaf f s).rnd = s.rnd := rfl
@[simp] theorem modSaf_net (f : Safety → Safety) (s : Rc8) : (modSaf f s).net = s.net := rfl
@[simp] theorem modSaf_sch (f : Safety → Safety) (s : Rc8) : (modSaf f s).sch = s.sch := rfl
@[simp] theorem modSaf_eng (f : Safety → Safety) (s : Rc8) : (modSaf f s).eng = s.eng := rfl
@[simp] theorem modSaf_learn (f : Safety → Safety) (s : Rc8) : (modSaf f s).learn = s.learn := rfl
@[simp] theorem modSaf_tablesRestored (f : Safety → Safety) (s : Rc8) : (modSaf f s).tablesRestored = s.tablesRestored := rfl
@[simp] theorem modSaf_run (f : Safety → Safety) (s : Rc8) : (modSaf f s).run = s.run := rfl
@[simp] theorem modSaf_chg (f : Safety → Safety) (s : Rc8) : (modSaf f s).chg = s.chg := rfl
@[simp] theorem modSaf_pair (f : Safety → Safety) (s : Rc8) : (modSaf f s).pair = s.pair := rfl
@[simp] theorem modSaf_saf (f : Safety → Safety) (s : Rc8) : (modSaf f s).saf = f s.saf := rfl
@[simp] theorem modSaf_itg (f : Safety → Safety) (s : Rc8) : (modSaf f s).itg = s.itg := rfl
@[simp] theorem modSaf_tim (f : Safety → Safety) (s : Rc8) : (modSaf f s).tim = s.tim := rfl
@[simp] theorem modSaf_eth (f : Safety → Safety) (s : Rc8) : (modSaf f s).eth = s.eth := rfl
@[simp] theorem modSaf_peers (f : Safety → Safety) (s : Rc8) : (modSaf f s).peers = s.peers := rfl
@[simp] theorem modSaf_can (f : Safety → Safety) (s : Rc8) : (modSaf f s).can = s.can := rfl
@[simp] theorem modSaf_ffe (f : Safety → Safety) (s : Rc8) : (modSaf f s).ffe = s.ffe := rfl
@[simp] theorem modSaf_pwr (f : Safety → Safety) (s : Rc8) : (modSaf f s).pwr = s.pwr := rfl
@[simp] theorem modSaf_restartAt (f : Safety → Safety) (s : Rc8) : (modSaf f s).restartAt = s.restartAt := rfl
@[simp] theorem modSaf_trialFrom (f : Safety → Safety) (s : Rc8) : (modSaf f s).trialFrom = s.trialFrom := rfl
@[simp] theorem modSaf_expiryHandover (f : Safety → Safety) (s : Rc8) : (modSaf f s).expiryHandover = s.expiryHandover := rfl
@[simp] theorem modSaf_nv (f : Safety → Safety) (s : Rc8) : (modSaf f s).nv = s.nv := rfl

/-! ### modNet -/

@[simp] theorem modNet_ident (n : Fin 2) (f : Net → Net) (s : Rc8) : (modNet n f s).ident = s.ident := rfl
@[simp] theorem modNet_clk (n : Fin 2) (f : Net → Net) (s : Rc8) : (modNet n f s).clk = s.clk := rfl
@[simp] theorem modNet_svpReady (n : Fin 2) (f : Net → Net) (s : Rc8) : (modNet n f s).svpReady = s.svpReady := rfl
@[simp] theorem modNet_hp (n : Fin 2) (f : Net → Net) (s : Rc8) : (modNet n f s).hp = s.hp := rfl
@[simp] theorem modNet_execs (n : Fin 2) (f : Net → Net) (s : Rc8) : (modNet n f s).execs = s.execs := rfl
@[simp] theorem modNet_nextExec (n : Fin 2) (f : Net → Net) (s : Rc8) : (modNet n f s).nextExec = s.nextExec := rfl
@[simp] theorem modNet_arrivals (n : Fin 2) (f : Net → Net) (s : Rc8) : (modNet n f s).arrivals = s.arrivals := rfl
@[simp] theorem modNet_limits (n : Fin 2) (f : Net → Net) (s : Rc8) : (modNet n f s).limits = s.limits := rfl
@[simp] theorem modNet_bar2 (n : Fin 2) (f : Net → Net) (s : Rc8) : (modNet n f s).bar2 = s.bar2 := rfl
@[simp] theorem modNet_out (n : Fin 2) (f : Net → Net) (s : Rc8) : (modNet n f s).out = s.out := rfl
@[simp] theorem modNet_rcd (n : Fin 2) (f : Net → Net) (s : Rc8) : (modNet n f s).rcd = s.rcd := rfl
@[simp] theorem modNet_rnd (n : Fin 2) (f : Net → Net) (s : Rc8) : (modNet n f s).rnd = s.rnd := rfl
@[simp] theorem modNet_net (n : Fin 2) (f : Net → Net) (s : Rc8) : (modNet n f s).net = vmod s.net n f := rfl
@[simp] theorem modNet_sch (n : Fin 2) (f : Net → Net) (s : Rc8) : (modNet n f s).sch = s.sch := rfl
@[simp] theorem modNet_eng (n : Fin 2) (f : Net → Net) (s : Rc8) : (modNet n f s).eng = s.eng := rfl
@[simp] theorem modNet_learn (n : Fin 2) (f : Net → Net) (s : Rc8) : (modNet n f s).learn = s.learn := rfl
@[simp] theorem modNet_tablesRestored (n : Fin 2) (f : Net → Net) (s : Rc8) : (modNet n f s).tablesRestored = s.tablesRestored := rfl
@[simp] theorem modNet_run (n : Fin 2) (f : Net → Net) (s : Rc8) : (modNet n f s).run = s.run := rfl
@[simp] theorem modNet_chg (n : Fin 2) (f : Net → Net) (s : Rc8) : (modNet n f s).chg = s.chg := rfl
@[simp] theorem modNet_pair (n : Fin 2) (f : Net → Net) (s : Rc8) : (modNet n f s).pair = s.pair := rfl
@[simp] theorem modNet_saf (n : Fin 2) (f : Net → Net) (s : Rc8) : (modNet n f s).saf = s.saf := rfl
@[simp] theorem modNet_itg (n : Fin 2) (f : Net → Net) (s : Rc8) : (modNet n f s).itg = s.itg := rfl
@[simp] theorem modNet_tim (n : Fin 2) (f : Net → Net) (s : Rc8) : (modNet n f s).tim = s.tim := rfl
@[simp] theorem modNet_eth (n : Fin 2) (f : Net → Net) (s : Rc8) : (modNet n f s).eth = s.eth := rfl
@[simp] theorem modNet_peers (n : Fin 2) (f : Net → Net) (s : Rc8) : (modNet n f s).peers = s.peers := rfl
@[simp] theorem modNet_can (n : Fin 2) (f : Net → Net) (s : Rc8) : (modNet n f s).can = s.can := rfl
@[simp] theorem modNet_ffe (n : Fin 2) (f : Net → Net) (s : Rc8) : (modNet n f s).ffe = s.ffe := rfl
@[simp] theorem modNet_pwr (n : Fin 2) (f : Net → Net) (s : Rc8) : (modNet n f s).pwr = s.pwr := rfl
@[simp] theorem modNet_restartAt (n : Fin 2) (f : Net → Net) (s : Rc8) : (modNet n f s).restartAt = s.restartAt := rfl
@[simp] theorem modNet_trialFrom (n : Fin 2) (f : Net → Net) (s : Rc8) : (modNet n f s).trialFrom = s.trialFrom := rfl
@[simp] theorem modNet_expiryHandover (n : Fin 2) (f : Net → Net) (s : Rc8) : (modNet n f s).expiryHandover = s.expiryHandover := rfl
@[simp] theorem modNet_nv (n : Fin 2) (f : Net → Net) (s : Rc8) : (modNet n f s).nv = s.nv := rfl

/-! ### modSch -/

@[simp] theorem modSch_ident (n : Fin 2) (f : Sched → Sched) (s : Rc8) : (modSch n f s).ident = s.ident := rfl
@[simp] theorem modSch_clk (n : Fin 2) (f : Sched → Sched) (s : Rc8) : (modSch n f s).clk = s.clk := rfl
@[simp] theorem modSch_svpReady (n : Fin 2) (f : Sched → Sched) (s : Rc8) : (modSch n f s).svpReady = s.svpReady := rfl
@[simp] theorem modSch_hp (n : Fin 2) (f : Sched → Sched) (s : Rc8) : (modSch n f s).hp = s.hp := rfl
@[simp] theorem modSch_execs (n : Fin 2) (f : Sched → Sched) (s : Rc8) : (modSch n f s).execs = s.execs := rfl
@[simp] theorem modSch_nextExec (n : Fin 2) (f : Sched → Sched) (s : Rc8) : (modSch n f s).nextExec = s.nextExec := rfl
@[simp] theorem modSch_arrivals (n : Fin 2) (f : Sched → Sched) (s : Rc8) : (modSch n f s).arrivals = s.arrivals := rfl
@[simp] theorem modSch_limits (n : Fin 2) (f : Sched → Sched) (s : Rc8) : (modSch n f s).limits = s.limits := rfl
@[simp] theorem modSch_bar2 (n : Fin 2) (f : Sched → Sched) (s : Rc8) : (modSch n f s).bar2 = s.bar2 := rfl
@[simp] theorem modSch_out (n : Fin 2) (f : Sched → Sched) (s : Rc8) : (modSch n f s).out = s.out := rfl
@[simp] theorem modSch_rcd (n : Fin 2) (f : Sched → Sched) (s : Rc8) : (modSch n f s).rcd = s.rcd := rfl
@[simp] theorem modSch_rnd (n : Fin 2) (f : Sched → Sched) (s : Rc8) : (modSch n f s).rnd = s.rnd := rfl
@[simp] theorem modSch_net (n : Fin 2) (f : Sched → Sched) (s : Rc8) : (modSch n f s).net = s.net := rfl
@[simp] theorem modSch_sch (n : Fin 2) (f : Sched → Sched) (s : Rc8) : (modSch n f s).sch = vmod s.sch n f := rfl
@[simp] theorem modSch_eng (n : Fin 2) (f : Sched → Sched) (s : Rc8) : (modSch n f s).eng = s.eng := rfl
@[simp] theorem modSch_learn (n : Fin 2) (f : Sched → Sched) (s : Rc8) : (modSch n f s).learn = s.learn := rfl
@[simp] theorem modSch_tablesRestored (n : Fin 2) (f : Sched → Sched) (s : Rc8) : (modSch n f s).tablesRestored = s.tablesRestored := rfl
@[simp] theorem modSch_run (n : Fin 2) (f : Sched → Sched) (s : Rc8) : (modSch n f s).run = s.run := rfl
@[simp] theorem modSch_chg (n : Fin 2) (f : Sched → Sched) (s : Rc8) : (modSch n f s).chg = s.chg := rfl
@[simp] theorem modSch_pair (n : Fin 2) (f : Sched → Sched) (s : Rc8) : (modSch n f s).pair = s.pair := rfl
@[simp] theorem modSch_saf (n : Fin 2) (f : Sched → Sched) (s : Rc8) : (modSch n f s).saf = s.saf := rfl
@[simp] theorem modSch_itg (n : Fin 2) (f : Sched → Sched) (s : Rc8) : (modSch n f s).itg = s.itg := rfl
@[simp] theorem modSch_tim (n : Fin 2) (f : Sched → Sched) (s : Rc8) : (modSch n f s).tim = s.tim := rfl
@[simp] theorem modSch_eth (n : Fin 2) (f : Sched → Sched) (s : Rc8) : (modSch n f s).eth = s.eth := rfl
@[simp] theorem modSch_peers (n : Fin 2) (f : Sched → Sched) (s : Rc8) : (modSch n f s).peers = s.peers := rfl
@[simp] theorem modSch_can (n : Fin 2) (f : Sched → Sched) (s : Rc8) : (modSch n f s).can = s.can := rfl
@[simp] theorem modSch_ffe (n : Fin 2) (f : Sched → Sched) (s : Rc8) : (modSch n f s).ffe = s.ffe := rfl
@[simp] theorem modSch_pwr (n : Fin 2) (f : Sched → Sched) (s : Rc8) : (modSch n f s).pwr = s.pwr := rfl
@[simp] theorem modSch_restartAt (n : Fin 2) (f : Sched → Sched) (s : Rc8) : (modSch n f s).restartAt = s.restartAt := rfl
@[simp] theorem modSch_trialFrom (n : Fin 2) (f : Sched → Sched) (s : Rc8) : (modSch n f s).trialFrom = s.trialFrom := rfl
@[simp] theorem modSch_expiryHandover (n : Fin 2) (f : Sched → Sched) (s : Rc8) : (modSch n f s).expiryHandover = s.expiryHandover := rfl
@[simp] theorem modSch_nv (n : Fin 2) (f : Sched → Sched) (s : Rc8) : (modSch n f s).nv = s.nv := rfl

/-! ### modUpd -/

@[simp] theorem modUpd_ident (f : Update → Update) (s : Rc8) : (modUpd f s).ident = s.ident := rfl
@[simp] theorem modUpd_clk (f : Update → Update) (s : Rc8) : (modUpd f s).clk = s.clk := rfl
@[simp] theorem modUpd_svpReady (f : Update → Update) (s : Rc8) : (modUpd f s).svpReady = s.svpReady := rfl
@[simp] theorem modUpd_hp (f : Update → Update) (s : Rc8) : (modUpd f s).hp = s.hp := rfl
@[simp] theorem modUpd_execs (f : Update → Update) (s : Rc8) : (modUpd f s).execs = s.execs := rfl
@[simp] theorem modUpd_nextExec (f : Update → Update) (s : Rc8) : (modUpd f s).nextExec = s.nextExec := rfl
@[simp] theorem modUpd_arrivals (f : Update → Update) (s : Rc8) : (modUpd f s).arrivals = s.arrivals := rfl
@[simp] theorem modUpd_limits (f : Update → Update) (s : Rc8) : (modUpd f s).limits = s.limits := rfl
@[simp] theorem modUpd_bar2 (f : Update → Update) (s : Rc8) : (modUpd f s).bar2 = s.bar2 := rfl
@[simp] theorem modUpd_out (f : Update → Update) (s : Rc8) : (modUpd f s).out = s.out := rfl
@[simp] theorem modUpd_rcd (f : Update → Update) (s : Rc8) : (modUpd f s).rcd = s.rcd := rfl
@[simp] theorem modUpd_rnd (f : Update → Update) (s : Rc8) : (modUpd f s).rnd = s.rnd := rfl
@[simp] theorem modUpd_net (f : Update → Update) (s : Rc8) : (modUpd f s).net = s.net := rfl
@[simp] theorem modUpd_sch (f : Update → Update) (s : Rc8) : (modUpd f s).sch = s.sch := rfl
@[simp] theorem modUpd_eng (f : Update → Update) (s : Rc8) : (modUpd f s).eng = s.eng := rfl
@[simp] theorem modUpd_learn (f : Update → Update) (s : Rc8) : (modUpd f s).learn = s.learn := rfl
@[simp] theorem modUpd_tablesRestored (f : Update → Update) (s : Rc8) : (modUpd f s).tablesRestored = s.tablesRestored := rfl
@[simp] theorem modUpd_run (f : Update → Update) (s : Rc8) : (modUpd f s).run = s.run := rfl
@[simp] theorem modUpd_chg (f : Update → Update) (s : Rc8) : (modUpd f s).chg = s.chg := rfl
@[simp] theorem modUpd_pair (f : Update → Update) (s : Rc8) : (modUpd f s).pair = s.pair := rfl
@[simp] theorem modUpd_saf (f : Update → Update) (s : Rc8) : (modUpd f s).saf = s.saf := rfl
@[simp] theorem modUpd_itg (f : Update → Update) (s : Rc8) : (modUpd f s).itg = s.itg := rfl
@[simp] theorem modUpd_tim (f : Update → Update) (s : Rc8) : (modUpd f s).tim = s.tim := rfl
@[simp] theorem modUpd_eth (f : Update → Update) (s : Rc8) : (modUpd f s).eth = s.eth := rfl
@[simp] theorem modUpd_peers (f : Update → Update) (s : Rc8) : (modUpd f s).peers = s.peers := rfl
@[simp] theorem modUpd_can (f : Update → Update) (s : Rc8) : (modUpd f s).can = s.can := rfl
@[simp] theorem modUpd_ffe (f : Update → Update) (s : Rc8) : (modUpd f s).ffe = s.ffe := rfl
@[simp] theorem modUpd_pwr (f : Update → Update) (s : Rc8) : (modUpd f s).pwr = s.pwr := rfl
@[simp] theorem modUpd_restartAt (f : Update → Update) (s : Rc8) : (modUpd f s).restartAt = s.restartAt := rfl
@[simp] theorem modUpd_trialFrom (f : Update → Update) (s : Rc8) : (modUpd f s).trialFrom = s.trialFrom := rfl
@[simp] theorem modUpd_expiryHandover (f : Update → Update) (s : Rc8) : (modUpd f s).expiryHandover = s.expiryHandover := rfl
@[simp] theorem modUpd_nv (f : Update → Update) (s : Rc8) : (modUpd f s).nv = { s.nv with upd := f s.nv.upd } := rfl

/-! ### putLearn -/

@[simp] theorem putLearn_ident (a : Nat) (l : Learn) (s : Rc8) : (putLearn a l s).ident = s.ident := rfl
@[simp] theorem putLearn_clk (a : Nat) (l : Learn) (s : Rc8) : (putLearn a l s).clk = s.clk := rfl
@[simp] theorem putLearn_svpReady (a : Nat) (l : Learn) (s : Rc8) : (putLearn a l s).svpReady = s.svpReady := rfl
@[simp] theorem putLearn_hp (a : Nat) (l : Learn) (s : Rc8) : (putLearn a l s).hp = s.hp := rfl
@[simp] theorem putLearn_execs (a : Nat) (l : Learn) (s : Rc8) : (putLearn a l s).execs = s.execs := rfl
@[simp] theorem putLearn_nextExec (a : Nat) (l : Learn) (s : Rc8) : (putLearn a l s).nextExec = s.nextExec := rfl
@[simp] theorem putLearn_arrivals (a : Nat) (l : Learn) (s : Rc8) : (putLearn a l s).arrivals = s.arrivals := rfl
@[simp] theorem putLearn_limits (a : Nat) (l : Learn) (s : Rc8) : (putLearn a l s).limits = s.limits := rfl
@[simp] theorem putLearn_bar2 (a : Nat) (l : Learn) (s : Rc8) : (putLearn a l s).bar2 = s.bar2 := rfl
@[simp] theorem putLearn_out (a : Nat) (l : Learn) (s : Rc8) : (putLearn a l s).out = s.out := rfl
@[simp] theorem putLearn_rcd (a : Nat) (l : Learn) (s : Rc8) : (putLearn a l s).rcd = s.rcd := rfl
@[simp] theorem putLearn_rnd (a : Nat) (l : Learn) (s : Rc8) : (putLearn a l s).rnd = s.rnd := rfl
@[simp] theorem putLearn_net (a : Nat) (l : Learn) (s : Rc8) : (putLearn a l s).net = s.net := rfl
@[simp] theorem putLearn_sch (a : Nat) (l : Learn) (s : Rc8) : (putLearn a l s).sch = s.sch := rfl
@[simp] theorem putLearn_eng (a : Nat) (l : Learn) (s : Rc8) : (putLearn a l s).eng = s.eng := rfl
@[simp] theorem putLearn_tablesRestored (a : Nat) (l : Learn) (s : Rc8) : (putLearn a l s).tablesRestored = s.tablesRestored := rfl
@[simp] theorem putLearn_run (a : Nat) (l : Learn) (s : Rc8) : (putLearn a l s).run = s.run := rfl
@[simp] theorem putLearn_chg (a : Nat) (l : Learn) (s : Rc8) : (putLearn a l s).chg = s.chg := rfl
@[simp] theorem putLearn_pair (a : Nat) (l : Learn) (s : Rc8) : (putLearn a l s).pair = s.pair := rfl
@[simp] theorem putLearn_saf (a : Nat) (l : Learn) (s : Rc8) : (putLearn a l s).saf = s.saf := rfl
@[simp] theorem putLearn_itg (a : Nat) (l : Learn) (s : Rc8) : (putLearn a l s).itg = s.itg := rfl
@[simp] theorem putLearn_tim (a : Nat) (l : Learn) (s : Rc8) : (putLearn a l s).tim = s.tim := rfl
@[simp] theorem putLearn_eth (a : Nat) (l : Learn) (s : Rc8) : (putLearn a l s).eth = s.eth := rfl
@[simp] theorem putLearn_peers (a : Nat) (l : Learn) (s : Rc8) : (putLearn a l s).peers = s.peers := rfl
@[simp] theorem putLearn_can (a : Nat) (l : Learn) (s : Rc8) : (putLearn a l s).can = s.can := rfl
@[simp] theorem putLearn_ffe (a : Nat) (l : Learn) (s : Rc8) : (putLearn a l s).ffe = s.ffe := rfl
@[simp] theorem putLearn_pwr (a : Nat) (l : Learn) (s : Rc8) : (putLearn a l s).pwr = s.pwr := rfl
@[simp] theorem putLearn_restartAt (a : Nat) (l : Learn) (s : Rc8) : (putLearn a l s).restartAt = s.restartAt := rfl
@[simp] theorem putLearn_trialFrom (a : Nat) (l : Learn) (s : Rc8) : (putLearn a l s).trialFrom = s.trialFrom := rfl
@[simp] theorem putLearn_expiryHandover (a : Nat) (l : Learn) (s : Rc8) : (putLearn a l s).expiryHandover = s.expiryHandover := rfl
@[simp] theorem putLearn_nv (a : Nat) (l : Learn) (s : Rc8) : (putLearn a l s).nv = s.nv := rfl

end Sys2Proof.Machine
end

