-- ==== Sys2Proof/Laws/Events.lean ====
section
/-! SUPPORT. What the shared operations leave alone: events, messages, and the life of a mailbox command. -/

namespace Sys2Proof.Machine

open Sys2Proof

/-! ### The pair link -/

/-- Messages change what they are put into and what waits for them, and nothing else. -/
theorem plkSend_frame (k g : Nat) (b : PlkBody) (s : Rc8) :
    plkSend k g b s = { s with pair := (plkSend k g b s).pair, out := (plkSend k g b s).out } := by
  have step : ∀ (k g : Nat) (b : PlkBody) (r : Rc8), r = { s with pair := r.pair, out := r.out } →
      plkMessage k g b r = { s with pair := (plkMessage k g b r).pair, out := (plkMessage k g b r).out } := by
    intro k g b r h
    rw [h]; rfl
  have fold : ∀ (f : Nat → Nat) (l : List Nat) (r : Rc8), r = { s with pair := r.pair, out := r.out } →
      ∀ q, q = l.foldl (fun x i => plkMessage k (f i) (.part (i + 1) b) x) r → q = { s with pair := q.pair, out := q.out } := by
    intro f l
    induction l with
    | nil => intro r h q e; rw [e]; exact h
    | cons i l ih => intro r h q e; exact ih _ (step k (f i) _ r h) q e
  unfold plkSend
  split
  · exact fold _ _ _ (step _ _ _ _ rfl) _ rfl
  · rfl

/-! ### recordEvent -/

@[simp] theorem recordEvent_ident (e : Ev) (s : Rc8) : (recordEvent e s).ident = s.ident := by first | rfl
@[simp] theorem recordEvent_clk (e : Ev) (s : Rc8) : (recordEvent e s).clk = s.clk := by first | rfl
@[simp] theorem recordEvent_svpReady (e : Ev) (s : Rc8) : (recordEvent e s).svpReady = s.svpReady := by first | rfl
@[simp] theorem recordEvent_hp (e : Ev) (s : Rc8) : (recordEvent e s).hp = s.hp := by first | rfl
@[simp] theorem recordEvent_execs (e : Ev) (s : Rc8) : (recordEvent e s).execs = s.execs := by first | rfl
@[simp] theorem recordEvent_nextExec (e : Ev) (s : Rc8) : (recordEvent e s).nextExec = s.nextExec := by first | rfl
@[simp] theorem recordEvent_arrivals (e : Ev) (s : Rc8) : (recordEvent e s).arrivals = s.arrivals := by first | rfl
@[simp] theorem recordEvent_limits (e : Ev) (s : Rc8) : (recordEvent e s).limits = s.limits := by first | rfl
@[simp] theorem recordEvent_bar2 (e : Ev) (s : Rc8) : (recordEvent e s).bar2 = s.bar2 := by first | rfl
@[simp] theorem recordEvent_out (e : Ev) (s : Rc8) : (recordEvent e s).out = s.out := by first | rfl
@[simp] theorem recordEvent_rnd (e : Ev) (s : Rc8) : (recordEvent e s).rnd = s.rnd := by first | rfl
@[simp] theorem recordEvent_net (e : Ev) (s : Rc8) : (recordEvent e s).net = s.net := by first | rfl
@[simp] theorem recordEvent_sch (e : Ev) (s : Rc8) : (recordEvent e s).sch = s.sch := by first | rfl
@[simp] theorem recordEvent_eng (e : Ev) (s : Rc8) : (recordEvent e s).eng = s.eng := by first | rfl
@[simp] theorem recordEvent_learn (e : Ev) (s : Rc8) : (recordEvent e s).learn = s.learn := by first | rfl
@[simp] theorem recordEvent_tablesRestored (e : Ev) (s : Rc8) : (recordEvent e s).tablesRestored = s.tablesRestored := by first | rfl
@[simp] theorem recordEvent_run (e : Ev) (s : Rc8) : (recordEvent e s).run = s.run := by first | rfl
@[simp] theorem recordEvent_chg (e : Ev) (s : Rc8) : (recordEvent e s).chg = s.chg := by first | rfl
@[simp] theorem recordEvent_pair (e : Ev) (s : Rc8) : (recordEvent e s).pair = s.pair := by first | rfl
@[simp] theorem recordEvent_saf (e : Ev) (s : Rc8) : (recordEvent e s).saf = s.saf := by first | rfl
@[simp] theorem recordEvent_itg (e : Ev) (s : Rc8) : (recordEvent e s).itg = s.itg := by first | rfl
@[simp] theorem recordEvent_tim (e : Ev) (s : Rc8) : (recordEvent e s).tim = s.tim := by first | rfl
@[simp] theorem recordEvent_eth (e : Ev) (s : Rc8) : (recordEvent e s).eth = s.eth := by first | rfl
@[simp] theorem recordEvent_peers (e : Ev) (s : Rc8) : (recordEvent e s).peers = s.peers := by first | rfl
@[simp] theorem recordEvent_can (e : Ev) (s : Rc8) : (recordEvent e s).can = s.can := by first | rfl
@[simp] theorem recordEvent_ffe (e : Ev) (s : Rc8) : (recordEvent e s).ffe = s.ffe := by first | rfl
@[simp] theorem recordEvent_pwr (e : Ev) (s : Rc8) : (recordEvent e s).pwr = s.pwr := by first | rfl
@[simp] theorem recordEvent_restartAt (e : Ev) (s : Rc8) : (recordEvent e s).restartAt = s.restartAt := by first | rfl
@[simp] theorem recordEvent_trialFrom (e : Ev) (s : Rc8) : (recordEvent e s).trialFrom = s.trialFrom := by first | rfl
@[simp] theorem recordEvent_expiryHandover (e : Ev) (s : Rc8) : (recordEvent e s).expiryHandover = s.expiryHandover := by first | rfl

/-! ### ringEvent -/

@[simp] theorem ringEvent_ident (e : Ev) (s : Rc8) : (ringEvent e s).ident = s.ident := by first | rfl
@[simp] theorem ringEvent_clk (e : Ev) (s : Rc8) : (ringEvent e s).clk = s.clk := by first | rfl
@[simp] theorem ringEvent_svpReady (e : Ev) (s : Rc8) : (ringEvent e s).svpReady = s.svpReady := by first | rfl
@[simp] theorem ringEvent_execs (e : Ev) (s : Rc8) : (ringEvent e s).execs = s.execs := by first | rfl
@[simp] theorem ringEvent_nextExec (e : Ev) (s : Rc8) : (ringEvent e s).nextExec = s.nextExec := by first | rfl
@[simp] theorem ringEvent_arrivals (e : Ev) (s : Rc8) : (ringEvent e s).arrivals = s.arrivals := by first | rfl
@[simp] theorem ringEvent_limits (e : Ev) (s : Rc8) : (ringEvent e s).limits = s.limits := by first | rfl
@[simp] theorem ringEvent_bar2 (e : Ev) (s : Rc8) : (ringEvent e s).bar2 = s.bar2 := by first | rfl
@[simp] theorem ringEvent_rcd (e : Ev) (s : Rc8) : (ringEvent e s).rcd = s.rcd := by first | rfl
@[simp] theorem ringEvent_rnd (e : Ev) (s : Rc8) : (ringEvent e s).rnd = s.rnd := by first | rfl
@[simp] theorem ringEvent_net (e : Ev) (s : Rc8) : (ringEvent e s).net = s.net := by first | rfl
@[simp] theorem ringEvent_sch (e : Ev) (s : Rc8) : (ringEvent e s).sch = s.sch := by first | rfl
@[simp] theorem ringEvent_eng (e : Ev) (s : Rc8) : (ringEvent e s).eng = s.eng := by first | rfl
@[simp] theorem ringEvent_learn (e : Ev) (s : Rc8) : (ringEvent e s).learn = s.learn := by first | rfl
@[simp] theorem ringEvent_tablesRestored (e : Ev) (s : Rc8) : (ringEvent e s).tablesRestored = s.tablesRestored := by first | rfl
@[simp] theorem ringEvent_run (e : Ev) (s : Rc8) : (ringEvent e s).run = s.run := by first | rfl
@[simp] theorem ringEvent_chg (e : Ev) (s : Rc8) : (ringEvent e s).chg = s.chg := by first | rfl
@[simp] theorem ringEvent_pair (e : Ev) (s : Rc8) : (ringEvent e s).pair = s.pair := by first | rfl
@[simp] theorem ringEvent_saf (e : Ev) (s : Rc8) : (ringEvent e s).saf = s.saf := by first | rfl
@[simp] theorem ringEvent_itg (e : Ev) (s : Rc8) : (ringEvent e s).itg = s.itg := by first | rfl
@[simp] theorem ringEvent_tim (e : Ev) (s : Rc8) : (ringEvent e s).tim = s.tim := by first | rfl
@[simp] theorem ringEvent_eth (e : Ev) (s : Rc8) : (ringEvent e s).eth = s.eth := by first | rfl
@[simp] theorem ringEvent_peers (e : Ev) (s : Rc8) : (ringEvent e s).peers = s.peers := by first | rfl
@[simp] theorem ringEvent_can (e : Ev) (s : Rc8) : (ringEvent e s).can = s.can := by first | rfl
@[simp] theorem ringEvent_ffe (e : Ev) (s : Rc8) : (ringEvent e s).ffe = s.ffe := by first | rfl
@[simp] theorem ringEvent_pwr (e : Ev) (s : Rc8) : (ringEvent e s).pwr = s.pwr := by first | rfl
@[simp] theorem ringEvent_restartAt (e : Ev) (s : Rc8) : (ringEvent e s).restartAt = s.restartAt := by first | rfl
@[simp] theorem ringEvent_trialFrom (e : Ev) (s : Rc8) : (ringEvent e s).trialFrom = s.trialFrom := by first | rfl
@[simp] theorem ringEvent_expiryHandover (e : Ev) (s : Rc8) : (ringEvent e s).expiryHandover = s.expiryHandover := by first | rfl
@[simp] theorem ringEvent_nv (e : Ev) (s : Rc8) : (ringEvent e s).nv = s.nv := by first | rfl

/-! ### raise -/

@[simp] theorem raise_ident (e : Ev) (s : Rc8) : (raise e s).ident = s.ident := by first | rfl
@[simp] theorem raise_clk (e : Ev) (s : Rc8) : (raise e s).clk = s.clk := by first | rfl
@[simp] theorem raise_svpReady (e : Ev) (s : Rc8) : (raise e s).svpReady = s.svpReady := by first | rfl
@[simp] theorem raise_execs (e : Ev) (s : Rc8) : (raise e s).execs = s.execs := by first | rfl
@[simp] theorem raise_nextExec (e : Ev) (s : Rc8) : (raise e s).nextExec = s.nextExec := by first | rfl
@[simp] theorem raise_arrivals (e : Ev) (s : Rc8) : (raise e s).arrivals = s.arrivals := by first | rfl
@[simp] theorem raise_limits (e : Ev) (s : Rc8) : (raise e s).limits = s.limits := by first | rfl
@[simp] theorem raise_bar2 (e : Ev) (s : Rc8) : (raise e s).bar2 = s.bar2 := by first | rfl
@[simp] theorem raise_rnd (e : Ev) (s : Rc8) : (raise e s).rnd = s.rnd := by first | rfl
@[simp] theorem raise_net (e : Ev) (s : Rc8) : (raise e s).net = s.net := by first | rfl
@[simp] theorem raise_sch (e : Ev) (s : Rc8) : (raise e s).sch = s.sch := by first | rfl
@[simp] theorem raise_eng (e : Ev) (s : Rc8) : (raise e s).eng = s.eng := by first | rfl
@[simp] theorem raise_learn (e : Ev) (s : Rc8) : (raise e s).learn = s.learn := by first | rfl
@[simp] theorem raise_tablesRestored (e : Ev) (s : Rc8) : (raise e s).tablesRestored = s.tablesRestored := by first | rfl
@[simp] theorem raise_run (e : Ev) (s : Rc8) : (raise e s).run = s.run := by first | rfl
@[simp] theorem raise_chg (e : Ev) (s : Rc8) : (raise e s).chg = s.chg := by first | rfl
@[simp] theorem raise_pair (e : Ev) (s : Rc8) : (raise e s).pair = s.pair := by first | rfl
@[simp] theorem raise_saf (e : Ev) (s : Rc8) : (raise e s).saf = s.saf := by first | rfl
@[simp] theorem raise_itg (e : Ev) (s : Rc8) : (raise e s).itg = s.itg := by first | rfl
@[simp] theorem raise_tim (e : Ev) (s : Rc8) : (raise e s).tim = s.tim := by first | rfl
@[simp] theorem raise_eth (e : Ev) (s : Rc8) : (raise e s).eth = s.eth := by first | rfl
@[simp] theorem raise_peers (e : Ev) (s : Rc8) : (raise e s).peers = s.peers := by first | rfl
@[simp] theorem raise_can (e : Ev) (s : Rc8) : (raise e s).can = s.can := by first | rfl
@[simp] theorem raise_ffe (e : Ev) (s : Rc8) : (raise e s).ffe = s.ffe := by first | rfl
@[simp] theorem raise_pwr (e : Ev) (s : Rc8) : (raise e s).pwr = s.pwr := by first | rfl
@[simp] theorem raise_restartAt (e : Ev) (s : Rc8) : (raise e s).restartAt = s.restartAt := by first | rfl
@[simp] theorem raise_trialFrom (e : Ev) (s : Rc8) : (raise e s).trialFrom = s.trialFrom := by first | rfl
@[simp] theorem raise_expiryHandover (e : Ev) (s : Rc8) : (raise e s).expiryHandover = s.expiryHandover := by first | rfl

/-! ### raiseOwn -/

@[simp] theorem raiseOwn_ident (p : Fin 4) (e : Ev) (s : Rc8) : (raiseOwn p e s).ident = s.ident := by first | rfl
@[simp] theorem raiseOwn_clk (p : Fin 4) (e : Ev) (s : Rc8) : (raiseOwn p e s).clk = s.clk := by first | rfl
@[simp] theorem raiseOwn_svpReady (p : Fin 4) (e : Ev) (s : Rc8) : (raiseOwn p e s).svpReady = s.svpReady := by first | rfl
@[simp] theorem raiseOwn_execs (p : Fin 4) (e : Ev) (s : Rc8) : (raiseOwn p e s).execs = s.execs := by first | rfl
@[simp] theorem raiseOwn_nextExec (p : Fin 4) (e : Ev) (s : Rc8) : (raiseOwn p e s).nextExec = s.nextExec := by first | rfl
@[simp] theorem raiseOwn_arrivals (p : Fin 4) (e : Ev) (s : Rc8) : (raiseOwn p e s).arrivals = s.arrivals := by first | rfl
@[simp] theorem raiseOwn_limits (p : Fin 4) (e : Ev) (s : Rc8) : (raiseOwn p e s).limits = s.limits := by first | rfl
@[simp] theorem raiseOwn_bar2 (p : Fin 4) (e : Ev) (s : Rc8) : (raiseOwn p e s).bar2 = s.bar2 := by first | rfl
@[simp] theorem raiseOwn_rcd (p : Fin 4) (e : Ev) (s : Rc8) : (raiseOwn p e s).rcd = s.rcd := by first | rfl
@[simp] theorem raiseOwn_rnd (p : Fin 4) (e : Ev) (s : Rc8) : (raiseOwn p e s).rnd = s.rnd := by first | rfl
@[simp] theorem raiseOwn_net (p : Fin 4) (e : Ev) (s : Rc8) : (raiseOwn p e s).net = s.net := by first | rfl
@[simp] theorem raiseOwn_sch (p : Fin 4) (e : Ev) (s : Rc8) : (raiseOwn p e s).sch = s.sch := by first | rfl
@[simp] theorem raiseOwn_eng (p : Fin 4) (e : Ev) (s : Rc8) : (raiseOwn p e s).eng = s.eng := by first | rfl
@[simp] theorem raiseOwn_learn (p : Fin 4) (e : Ev) (s : Rc8) : (raiseOwn p e s).learn = s.learn := by first | rfl
@[simp] theorem raiseOwn_tablesRestored (p : Fin 4) (e : Ev) (s : Rc8) : (raiseOwn p e s).tablesRestored = s.tablesRestored := by first | rfl
@[simp] theorem raiseOwn_run (p : Fin 4) (e : Ev) (s : Rc8) : (raiseOwn p e s).run = s.run := by first | rfl
@[simp] theorem raiseOwn_chg (p : Fin 4) (e : Ev) (s : Rc8) : (raiseOwn p e s).chg = s.chg := by first | rfl
@[simp] theorem raiseOwn_pair (p : Fin 4) (e : Ev) (s : Rc8) : (raiseOwn p e s).pair = s.pair := by first | rfl
@[simp] theorem raiseOwn_saf (p : Fin 4) (e : Ev) (s : Rc8) : (raiseOwn p e s).saf = s.saf := by first | rfl
@[simp] theorem raiseOwn_itg (p : Fin 4) (e : Ev) (s : Rc8) : (raiseOwn p e s).itg = s.itg := by first | rfl
@[simp] theorem raiseOwn_tim (p : Fin 4) (e : Ev) (s : Rc8) : (raiseOwn p e s).tim = s.tim := by first | rfl
@[simp] theorem raiseOwn_eth (p : Fin 4) (e : Ev) (s : Rc8) : (raiseOwn p e s).eth = s.eth := by first | rfl
@[simp] theorem raiseOwn_peers (p : Fin 4) (e : Ev) (s : Rc8) : (raiseOwn p e s).peers = s.peers := by first | rfl
@[simp] theorem raiseOwn_can (p : Fin 4) (e : Ev) (s : Rc8) : (raiseOwn p e s).can = s.can := by first | rfl
@[simp] theorem raiseOwn_ffe (p : Fin 4) (e : Ev) (s : Rc8) : (raiseOwn p e s).ffe = s.ffe := by first | rfl
@[simp] theorem raiseOwn_pwr (p : Fin 4) (e : Ev) (s : Rc8) : (raiseOwn p e s).pwr = s.pwr := by first | rfl
@[simp] theorem raiseOwn_restartAt (p : Fin 4) (e : Ev) (s : Rc8) : (raiseOwn p e s).restartAt = s.restartAt := by first | rfl
@[simp] theorem raiseOwn_trialFrom (p : Fin 4) (e : Ev) (s : Rc8) : (raiseOwn p e s).trialFrom = s.trialFrom := by first | rfl
@[simp] theorem raiseOwn_expiryHandover (p : Fin 4) (e : Ev) (s : Rc8) : (raiseOwn p e s).expiryHandover = s.expiryHandover := by first | rfl
@[simp] theorem raiseOwn_nv (p : Fin 4) (e : Ev) (s : Rc8) : (raiseOwn p e s).nv = s.nv := by first | rfl

/-! ### raiseWindow -/

@[simp] theorem raiseWindow_ident (w k : Nat) (pl : Option (Fin 3)) (e : Ev) (s : Rc8) : (raiseWindow w k pl e s).ident = s.ident := by
  unfold raiseWindow; dsimp only; split <;> (try split) <;> rfl
@[simp] theorem raiseWindow_clk (w k : Nat) (pl : Option (Fin 3)) (e : Ev) (s : Rc8) : (raiseWindow w k pl e s).clk = s.clk := by
  unfold raiseWindow; dsimp only; split <;> (try split) <;> rfl
@[simp] theorem raiseWindow_svpReady (w k : Nat) (pl : Option (Fin 3)) (e : Ev) (s : Rc8) : (raiseWindow w k pl e s).svpReady = s.svpReady := by
  unfold raiseWindow; dsimp only; split <;> (try split) <;> rfl
@[simp] theorem raiseWindow_execs (w k : Nat) (pl : Option (Fin 3)) (e : Ev) (s : Rc8) : (raiseWindow w k pl e s).execs = s.execs := by
  unfold raiseWindow; dsimp only; split <;> (try split) <;> rfl
@[simp] theorem raiseWindow_nextExec (w k : Nat) (pl : Option (Fin 3)) (e : Ev) (s : Rc8) : (raiseWindow w k pl e s).nextExec = s.nextExec := by
  unfold raiseWindow; dsimp only; split <;> (try split) <;> rfl
@[simp] theorem raiseWindow_arrivals (w k : Nat) (pl : Option (Fin 3)) (e : Ev) (s : Rc8) : (raiseWindow w k pl e s).arrivals = s.arrivals := by
  unfold raiseWindow; dsimp only; split <;> (try split) <;> rfl
@[simp] theorem raiseWindow_bar2 (w k : Nat) (pl : Option (Fin 3)) (e : Ev) (s : Rc8) : (raiseWindow w k pl e s).bar2 = s.bar2 := by
  unfold raiseWindow; dsimp only; split <;> (try split) <;> rfl
@[simp] theorem raiseWindow_rnd (w k : Nat) (pl : Option (Fin 3)) (e : Ev) (s : Rc8) : (raiseWindow w k pl e s).rnd = s.rnd := by
  unfold raiseWindow; dsimp only; split <;> (try split) <;> rfl
@[simp] theorem raiseWindow_net (w k : Nat) (pl : Option (Fin 3)) (e : Ev) (s : Rc8) : (raiseWindow w k pl e s).net = s.net := by
  unfold raiseWindow; dsimp only; split <;> (try split) <;> rfl
@[simp] theorem raiseWindow_sch (w k : Nat) (pl : Option (Fin 3)) (e : Ev) (s : Rc8) : (raiseWindow w k pl e s).sch = s.sch := by
  unfold raiseWindow; dsimp only; split <;> (try split) <;> rfl
@[simp] theorem raiseWindow_eng (w k : Nat) (pl : Option (Fin 3)) (e : Ev) (s : Rc8) : (raiseWindow w k pl e s).eng = s.eng := by
  unfold raiseWindow; dsimp only; split <;> (try split) <;> rfl
@[simp] theorem raiseWindow_learn (w k : Nat) (pl : Option (Fin 3)) (e : Ev) (s : Rc8) : (raiseWindow w k pl e s).learn = s.learn := by
  unfold raiseWindow; dsimp only; split <;> (try split) <;> rfl
@[simp] theorem raiseWindow_tablesRestored (w k : Nat) (pl : Option (Fin 3)) (e : Ev) (s : Rc8) : (raiseWindow w k pl e s).tablesRestored = s.tablesRestored := by
  unfold raiseWindow; dsimp only; split <;> (try split) <;> rfl
@[simp] theorem raiseWindow_run (w k : Nat) (pl : Option (Fin 3)) (e : Ev) (s : Rc8) : (raiseWindow w k pl e s).run = s.run := by
  unfold raiseWindow; dsimp only; split <;> (try split) <;> rfl
@[simp] theorem raiseWindow_chg (w k : Nat) (pl : Option (Fin 3)) (e : Ev) (s : Rc8) : (raiseWindow w k pl e s).chg = s.chg := by
  unfold raiseWindow; dsimp only; split <;> (try split) <;> rfl
@[simp] theorem raiseWindow_pair (w k : Nat) (pl : Option (Fin 3)) (e : Ev) (s : Rc8) : (raiseWindow w k pl e s).pair = s.pair := by
  unfold raiseWindow; dsimp only; split <;> (try split) <;> rfl
@[simp] theorem raiseWindow_saf (w k : Nat) (pl : Option (Fin 3)) (e : Ev) (s : Rc8) : (raiseWindow w k pl e s).saf = s.saf := by
  unfold raiseWindow; dsimp only; split <;> (try split) <;> rfl
@[simp] theorem raiseWindow_itg (w k : Nat) (pl : Option (Fin 3)) (e : Ev) (s : Rc8) : (raiseWindow w k pl e s).itg = s.itg := by
  unfold raiseWindow; dsimp only; split <;> (try split) <;> rfl
@[simp] theorem raiseWindow_tim (w k : Nat) (pl : Option (Fin 3)) (e : Ev) (s : Rc8) : (raiseWindow w k pl e s).tim = s.tim := by
  unfold raiseWindow; dsimp only; split <;> (try split) <;> rfl
@[simp] theorem raiseWindow_eth (w k : Nat) (pl : Option (Fin 3)) (e : Ev) (s : Rc8) : (raiseWindow w k pl e s).eth = s.eth := by
  unfold raiseWindow; dsimp only; split <;> (try split) <;> rfl
@[simp] theorem raiseWindow_peers (w k : Nat) (pl : Option (Fin 3)) (e : Ev) (s : Rc8) : (raiseWindow w k pl e s).peers = s.peers := by
  unfold raiseWindow; dsimp only; split <;> (try split) <;> rfl
@[simp] theorem raiseWindow_can (w k : Nat) (pl : Option (Fin 3)) (e : Ev) (s : Rc8) : (raiseWindow w k pl e s).can = s.can := by
  unfold raiseWindow; dsimp only; split <;> (try split) <;> rfl
@[simp] theorem raiseWindow_ffe (w k : Nat) (pl : Option (Fin 3)) (e : Ev) (s : Rc8) : (raiseWindow w k pl e s).ffe = s.ffe := by
  unfold raiseWindow; dsimp only; split <;> (try split) <;> rfl
@[simp] theorem raiseWindow_pwr (w k : Nat) (pl : Option (Fin 3)) (e : Ev) (s : Rc8) : (raiseWindow w k pl e s).pwr = s.pwr := by
  unfold raiseWindow; dsimp only; split <;> (try split) <;> rfl
@[simp] theorem raiseWindow_restartAt (w k : Nat) (pl : Option (Fin 3)) (e : Ev) (s : Rc8) : (raiseWindow w k pl e s).restartAt = s.restartAt := by
  unfold raiseWindow; dsimp only; split <;> (try split) <;> rfl
@[simp] theorem raiseWindow_trialFrom (w k : Nat) (pl : Option (Fin 3)) (e : Ev) (s : Rc8) : (raiseWindow w k pl e s).trialFrom = s.trialFrom := by
  unfold raiseWindow; dsimp only; split <;> (try split) <;> rfl
@[simp] theorem raiseWindow_expiryHandover (w k : Nat) (pl : Option (Fin 3)) (e : Ev) (s : Rc8) : (raiseWindow w k pl e s).expiryHandover = s.expiryHandover := by
  unfold raiseWindow; dsimp only; split <;> (try split) <;> rfl

/-! ### raiseLimited -/

@[simp] theorem raiseLimited_ident (pl : Option (Fin 3)) (e : Ev) (s : Rc8) : (raiseLimited pl e s).ident = s.ident := raiseWindow_ident _ _ _ _ _
@[simp] theorem raiseLimited_clk (pl : Option (Fin 3)) (e : Ev) (s : Rc8) : (raiseLimited pl e s).clk = s.clk := raiseWindow_clk _ _ _ _ _
@[simp] theorem raiseLimited_svpReady (pl : Option (Fin 3)) (e : Ev) (s : Rc8) : (raiseLimited pl e s).svpReady = s.svpReady := raiseWindow_svpReady _ _ _ _ _
@[simp] theorem raiseLimited_execs (pl : Option (Fin 3)) (e : Ev) (s : Rc8) : (raiseLimited pl e s).execs = s.execs := raiseWindow_execs _ _ _ _ _
@[simp] theorem raiseLimited_nextExec (pl : Option (Fin 3)) (e : Ev) (s : Rc8) : (raiseLimited pl e s).nextExec = s.nextExec := raiseWindow_nextExec _ _ _ _ _
@[simp] theorem raiseLimited_arrivals (pl : Option (Fin 3)) (e : Ev) (s : Rc8) : (raiseLimited pl e s).arrivals = s.arrivals := raiseWindow_arrivals _ _ _ _ _
@[simp] theorem raiseLimited_bar2 (pl : Option (Fin 3)) (e : Ev) (s : Rc8) : (raiseLimited pl e s).bar2 = s.bar2 := raiseWindow_bar2 _ _ _ _ _
@[simp] theorem raiseLimited_rnd (pl : Option (Fin 3)) (e : Ev) (s : Rc8) : (raiseLimited pl e s).rnd = s.rnd := raiseWindow_rnd _ _ _ _ _
@[simp] theorem raiseLimited_net (pl : Option (Fin 3)) (e : Ev) (s : Rc8) : (raiseLimited pl e s).net = s.net := raiseWindow_net _ _ _ _ _
@[simp] theorem raiseLimited_sch (pl : Option (Fin 3)) (e : Ev) (s : Rc8) : (raiseLimited pl e s).sch = s.sch := raiseWindow_sch _ _ _ _ _
@[simp] theorem raiseLimited_eng (pl : Option (Fin 3)) (e : Ev) (s : Rc8) : (raiseLimited pl e s).eng = s.eng := raiseWindow_eng _ _ _ _ _
@[simp] theorem raiseLimited_learn (pl : Option (Fin 3)) (e : Ev) (s : Rc8) : (raiseLimited pl e s).learn = s.learn := raiseWindow_learn _ _ _ _ _
@[simp] theorem raiseLimited_tablesRestored (pl : Option (Fin 3)) (e : Ev) (s : Rc8) : (raiseLimited pl e s).tablesRestored = s.tablesRestored := raiseWindow_tablesRestored _ _ _ _ _
@[simp] theorem raiseLimited_run (pl : Option (Fin 3)) (e : Ev) (s : Rc8) : (raiseLimited pl e s).run = s.run := raiseWindow_run _ _ _ _ _
@[simp] theorem raiseLimited_chg (pl : Option (Fin 3)) (e : Ev) (s : Rc8) : (raiseLimited pl e s).chg = s.chg := raiseWindow_chg _ _ _ _ _
@[simp] theorem raiseLimited_pair (pl : Option (Fin 3)) (e : Ev) (s : Rc8) : (raiseLimited pl e s).pair = s.pair := raiseWindow_pair _ _ _ _ _
@[simp] theorem raiseLimited_saf (pl : Option (Fin 3)) (e : Ev) (s : Rc8) : (raiseLimited pl e s).saf = s.saf := raiseWindow_saf _ _ _ _ _
@[simp] theorem raiseLimited_itg (pl : Option (Fin 3)) (e : Ev) (s : Rc8) : (raiseLimited pl e s).itg = s.itg := raiseWindow_itg _ _ _ _ _
@[simp] theorem raiseLimited_tim (pl : Option (Fin 3)) (e : Ev) (s : Rc8) : (raiseLimited pl e s).tim = s.tim := raiseWindow_tim _ _ _ _ _
@[simp] theorem raiseLimited_eth (pl : Option (Fin 3)) (e : Ev) (s : Rc8) : (raiseLimited pl e s).eth = s.eth := raiseWindow_eth _ _ _ _ _
@[simp] theorem raiseLimited_peers (pl : Option (Fin 3)) (e : Ev) (s : Rc8) : (raiseLimited pl e s).peers = s.peers := raiseWindow_peers _ _ _ _ _
@[simp] theorem raiseLimited_can (pl : Option (Fin 3)) (e : Ev) (s : Rc8) : (raiseLimited pl e s).can = s.can := raiseWindow_can _ _ _ _ _
@[simp] theorem raiseLimited_ffe (pl : Option (Fin 3)) (e : Ev) (s : Rc8) : (raiseLimited pl e s).ffe = s.ffe := raiseWindow_ffe _ _ _ _ _
@[simp] theorem raiseLimited_pwr (pl : Option (Fin 3)) (e : Ev) (s : Rc8) : (raiseLimited pl e s).pwr = s.pwr := raiseWindow_pwr _ _ _ _ _
@[simp] theorem raiseLimited_restartAt (pl : Option (Fin 3)) (e : Ev) (s : Rc8) : (raiseLimited pl e s).restartAt = s.restartAt := raiseWindow_restartAt _ _ _ _ _
@[simp] theorem raiseLimited_trialFrom (pl : Option (Fin 3)) (e : Ev) (s : Rc8) : (raiseLimited pl e s).trialFrom = s.trialFrom := raiseWindow_trialFrom _ _ _ _ _
@[simp] theorem raiseLimited_expiryHandover (pl : Option (Fin 3)) (e : Ev) (s : Rc8) : (raiseLimited pl e s).expiryHandover = s.expiryHandover := raiseWindow_expiryHandover _ _ _ _ _

/-! ### sendVec -/

@[simp] theorem sendVec_ident (p v : Fin 4) (s : Rc8) : (sendVec p v s).ident = s.ident := by
  unfold sendVec; split <;> rfl
@[simp] theorem sendVec_clk (p v : Fin 4) (s : Rc8) : (sendVec p v s).clk = s.clk := by
  unfold sendVec; split <;> rfl
@[simp] theorem sendVec_svpReady (p v : Fin 4) (s : Rc8) : (sendVec p v s).svpReady = s.svpReady := by
  unfold sendVec; split <;> rfl
@[simp] theorem sendVec_execs (p v : Fin 4) (s : Rc8) : (sendVec p v s).execs = s.execs := by
  unfold sendVec; split <;> rfl
@[simp] theorem sendVec_nextExec (p v : Fin 4) (s : Rc8) : (sendVec p v s).nextExec = s.nextExec := by
  unfold sendVec; split <;> rfl
@[simp] theorem sendVec_arrivals (p v : Fin 4) (s : Rc8) : (sendVec p v s).arrivals = s.arrivals := by
  unfold sendVec; split <;> rfl
@[simp] theorem sendVec_limits (p v : Fin 4) (s : Rc8) : (sendVec p v s).limits = s.limits := by
  unfold sendVec; split <;> rfl
@[simp] theorem sendVec_bar2 (p v : Fin 4) (s : Rc8) : (sendVec p v s).bar2 = s.bar2 := by
  unfold sendVec; split <;> rfl
@[simp] theorem sendVec_rcd (p v : Fin 4) (s : Rc8) : (sendVec p v s).rcd = s.rcd := by
  unfold sendVec; split <;> rfl
@[simp] theorem sendVec_rnd (p v : Fin 4) (s : Rc8) : (sendVec p v s).rnd = s.rnd := by
  unfold sendVec; split <;> rfl
@[simp] theorem sendVec_net (p v : Fin 4) (s : Rc8) : (sendVec p v s).net = s.net := by
  unfold sendVec; split <;> rfl
@[simp] theorem sendVec_sch (p v : Fin 4) (s : Rc8) : (sendVec p v s).sch = s.sch := by
  unfold sendVec; split <;> rfl
@[simp] theorem sendVec_eng (p v : Fin 4) (s : Rc8) : (sendVec p v s).eng = s.eng := by
  unfold sendVec; split <;> rfl
@[simp] theorem sendVec_learn (p v : Fin 4) (s : Rc8) : (sendVec p v s).learn = s.learn := by
  unfold sendVec; split <;> rfl
@[simp] theorem sendVec_tablesRestored (p v : Fin 4) (s : Rc8) : (sendVec p v s).tablesRestored = s.tablesRestored := by
  unfold sendVec; split <;> rfl
@[simp] theorem sendVec_run (p v : Fin 4) (s : Rc8) : (sendVec p v s).run = s.run := by
  unfold sendVec; split <;> rfl
@[simp] theorem sendVec_chg (p v : Fin 4) (s : Rc8) : (sendVec p v s).chg = s.chg := by
  unfold sendVec; split <;> rfl
@[simp] theorem sendVec_pair (p v : Fin 4) (s : Rc8) : (sendVec p v s).pair = s.pair := by
  unfold sendVec; split <;> rfl
@[simp] theorem sendVec_saf (p v : Fin 4) (s : Rc8) : (sendVec p v s).saf = s.saf := by
  unfold sendVec; split <;> rfl
@[simp] theorem sendVec_itg (p v : Fin 4) (s : Rc8) : (sendVec p v s).itg = s.itg := by
  unfold sendVec; split <;> rfl
@[simp] theorem sendVec_tim (p v : Fin 4) (s : Rc8) : (sendVec p v s).tim = s.tim := by
  unfold sendVec; split <;> rfl
@[simp] theorem sendVec_eth (p v : Fin 4) (s : Rc8) : (sendVec p v s).eth = s.eth := by
  unfold sendVec; split <;> rfl
@[simp] theorem sendVec_peers (p v : Fin 4) (s : Rc8) : (sendVec p v s).peers = s.peers := by
  unfold sendVec; split <;> rfl
@[simp] theorem sendVec_can (p v : Fin 4) (s : Rc8) : (sendVec p v s).can = s.can := by
  unfold sendVec; split <;> rfl
@[simp] theorem sendVec_ffe (p v : Fin 4) (s : Rc8) : (sendVec p v s).ffe = s.ffe := by
  unfold sendVec; split <;> rfl
@[simp] theorem sendVec_pwr (p v : Fin 4) (s : Rc8) : (sendVec p v s).pwr = s.pwr := by
  unfold sendVec; split <;> rfl
@[simp] theorem sendVec_restartAt (p v : Fin 4) (s : Rc8) : (sendVec p v s).restartAt = s.restartAt := by
  unfold sendVec; split <;> rfl
@[simp] theorem sendVec_trialFrom (p v : Fin 4) (s : Rc8) : (sendVec p v s).trialFrom = s.trialFrom := by
  unfold sendVec; split <;> rfl
@[simp] theorem sendVec_expiryHandover (p v : Fin 4) (s : Rc8) : (sendVec p v s).expiryHandover = s.expiryHandover := by
  unfold sendVec; split <;> rfl
@[simp] theorem sendVec_nv (p v : Fin 4) (s : Rc8) : (sendVec p v s).nv = s.nv := by
  unfold sendVec; split <;> rfl

/-! ### mailboxError -/

@[simp] theorem mailboxError_ident (p : Fin 4) (b : Fin 9) (c : Nat) (s : Rc8) : (mailboxError p b c s).ident = s.ident := by
  unfold mailboxError; rw [raiseWindow_ident]; split <;> simp
@[simp] theorem mailboxError_clk (p : Fin 4) (b : Fin 9) (c : Nat) (s : Rc8) : (mailboxError p b c s).clk = s.clk := by
  unfold mailboxError; rw [raiseWindow_clk]; split <;> simp
@[simp] theorem mailboxError_svpReady (p : Fin 4) (b : Fin 9) (c : Nat) (s : Rc8) : (mailboxError p b c s).svpReady = s.svpReady := by
  unfold mailboxError; rw [raiseWindow_svpReady]; split <;> simp
@[simp] theorem mailboxError_execs (p : Fin 4) (b : Fin 9) (c : Nat) (s : Rc8) : (mailboxError p b c s).execs = s.execs := by
  unfold mailboxError; rw [raiseWindow_execs]; split <;> simp
@[simp] theorem mailboxError_nextExec (p : Fin 4) (b : Fin 9) (c : Nat) (s : Rc8) : (mailboxError p b c s).nextExec = s.nextExec := by
  unfold mailboxError; rw [raiseWindow_nextExec]; split <;> simp
@[simp] theorem mailboxError_arrivals (p : Fin 4) (b : Fin 9) (c : Nat) (s : Rc8) : (mailboxError p b c s).arrivals = s.arrivals := by
  unfold mailboxError; rw [raiseWindow_arrivals]; split <;> simp
@[simp] theorem mailboxError_bar2 (p : Fin 4) (b : Fin 9) (c : Nat) (s : Rc8) : (mailboxError p b c s).bar2 = s.bar2 := by
  unfold mailboxError; rw [raiseWindow_bar2]; split <;> simp
@[simp] theorem mailboxError_rnd (p : Fin 4) (b : Fin 9) (c : Nat) (s : Rc8) : (mailboxError p b c s).rnd = s.rnd := by
  unfold mailboxError; rw [raiseWindow_rnd]; split <;> simp
@[simp] theorem mailboxError_net (p : Fin 4) (b : Fin 9) (c : Nat) (s : Rc8) : (mailboxError p b c s).net = s.net := by
  unfold mailboxError; rw [raiseWindow_net]; split <;> simp
@[simp] theorem mailboxError_sch (p : Fin 4) (b : Fin 9) (c : Nat) (s : Rc8) : (mailboxError p b c s).sch = s.sch := by
  unfold mailboxError; rw [raiseWindow_sch]; split <;> simp
@[simp] theorem mailboxError_eng (p : Fin 4) (b : Fin 9) (c : Nat) (s : Rc8) : (mailboxError p b c s).eng = s.eng := by
  unfold mailboxError; rw [raiseWindow_eng]; split <;> simp
@[simp] theorem mailboxError_learn (p : Fin 4) (b : Fin 9) (c : Nat) (s : Rc8) : (mailboxError p b c s).learn = s.learn := by
  unfold mailboxError; rw [raiseWindow_learn]; split <;> simp
@[simp] theorem mailboxError_tablesRestored (p : Fin 4) (b : Fin 9) (c : Nat) (s : Rc8) : (mailboxError p b c s).tablesRestored = s.tablesRestored := by
  unfold mailboxError; rw [raiseWindow_tablesRestored]; split <;> simp
@[simp] theorem mailboxError_run (p : Fin 4) (b : Fin 9) (c : Nat) (s : Rc8) : (mailboxError p b c s).run = s.run := by
  unfold mailboxError; rw [raiseWindow_run]; split <;> simp
@[simp] theorem mailboxError_chg (p : Fin 4) (b : Fin 9) (c : Nat) (s : Rc8) : (mailboxError p b c s).chg = s.chg := by
  unfold mailboxError; rw [raiseWindow_chg]; split <;> simp
@[simp] theorem mailboxError_pair (p : Fin 4) (b : Fin 9) (c : Nat) (s : Rc8) : (mailboxError p b c s).pair = s.pair := by
  unfold mailboxError; rw [raiseWindow_pair]; split <;> simp
@[simp] theorem mailboxError_saf (p : Fin 4) (b : Fin 9) (c : Nat) (s : Rc8) : (mailboxError p b c s).saf = s.saf := by
  unfold mailboxError; rw [raiseWindow_saf]; split <;> simp
@[simp] theorem mailboxError_itg (p : Fin 4) (b : Fin 9) (c : Nat) (s : Rc8) : (mailboxError p b c s).itg = s.itg := by
  unfold mailboxError; rw [raiseWindow_itg]; split <;> simp
@[simp] theorem mailboxError_tim (p : Fin 4) (b : Fin 9) (c : Nat) (s : Rc8) : (mailboxError p b c s).tim = s.tim := by
  unfold mailboxError; rw [raiseWindow_tim]; split <;> simp
@[simp] theorem mailboxError_eth (p : Fin 4) (b : Fin 9) (c : Nat) (s : Rc8) : (mailboxError p b c s).eth = s.eth := by
  unfold mailboxError; rw [raiseWindow_eth]; split <;> simp
@[simp] theorem mailboxError_peers (p : Fin 4) (b : Fin 9) (c : Nat) (s : Rc8) : (mailboxError p b c s).peers = s.peers := by
  unfold mailboxError; rw [raiseWindow_peers]; split <;> simp
@[simp] theorem mailboxError_can (p : Fin 4) (b : Fin 9) (c : Nat) (s : Rc8) : (mailboxError p b c s).can = s.can := by
  unfold mailboxError; rw [raiseWindow_can]; split <;> simp
@[simp] theorem mailboxError_ffe (p : Fin 4) (b : Fin 9) (c : Nat) (s : Rc8) : (mailboxError p b c s).ffe = s.ffe := by
  unfold mailboxError; rw [raiseWindow_ffe]; split <;> simp
@[simp] theorem mailboxError_pwr (p : Fin 4) (b : Fin 9) (c : Nat) (s : Rc8) : (mailboxError p b c s).pwr = s.pwr := by
  unfold mailboxError; rw [raiseWindow_pwr]; split <;> simp
@[simp] theorem mailboxError_restartAt (p : Fin 4) (b : Fin 9) (c : Nat) (s : Rc8) : (mailboxError p b c s).restartAt = s.restartAt := by
  unfold mailboxError; rw [raiseWindow_restartAt]; split <;> simp
@[simp] theorem mailboxError_trialFrom (p : Fin 4) (b : Fin 9) (c : Nat) (s : Rc8) : (mailboxError p b c s).trialFrom = s.trialFrom := by
  unfold mailboxError; rw [raiseWindow_trialFrom]; split <;> simp
@[simp] theorem mailboxError_expiryHandover (p : Fin 4) (b : Fin 9) (c : Nat) (s : Rc8) : (mailboxError p b c s).expiryHandover = s.expiryHandover := by
  unfold mailboxError; rw [raiseWindow_expiryHandover]; split <;> simp

/-! ### mailboxDone -/

@[simp] theorem mailboxDone_ident (p : Fin 4) (m : Fin 8) (q : Bool) (s : Rc8) : (mailboxDone p m q s).ident = s.ident := by
  unfold mailboxDone; split <;> simp
@[simp] theorem mailboxDone_clk (p : Fin 4) (m : Fin 8) (q : Bool) (s : Rc8) : (mailboxDone p m q s).clk = s.clk := by
  unfold mailboxDone; split <;> simp
@[simp] theorem mailboxDone_svpReady (p : Fin 4) (m : Fin 8) (q : Bool) (s : Rc8) : (mailboxDone p m q s).svpReady = s.svpReady := by
  unfold mailboxDone; split <;> simp
@[simp] theorem mailboxDone_execs (p : Fin 4) (m : Fin 8) (q : Bool) (s : Rc8) : (mailboxDone p m q s).execs = s.execs := by
  unfold mailboxDone; split <;> simp
@[simp] theorem mailboxDone_nextExec (p : Fin 4) (m : Fin 8) (q : Bool) (s : Rc8) : (mailboxDone p m q s).nextExec = s.nextExec := by
  unfold mailboxDone; split <;> simp
@[simp] theorem mailboxDone_arrivals (p : Fin 4) (m : Fin 8) (q : Bool) (s : Rc8) : (mailboxDone p m q s).arrivals = s.arrivals := by
  unfold mailboxDone; split <;> simp
@[simp] theorem mailboxDone_limits (p : Fin 4) (m : Fin 8) (q : Bool) (s : Rc8) : (mailboxDone p m q s).limits = s.limits := by
  unfold mailboxDone; split <;> simp
@[simp] theorem mailboxDone_bar2 (p : Fin 4) (m : Fin 8) (q : Bool) (s : Rc8) : (mailboxDone p m q s).bar2 = s.bar2 := by
  unfold mailboxDone; split <;> simp
@[simp] theorem mailboxDone_rcd (p : Fin 4) (m : Fin 8) (q : Bool) (s : Rc8) : (mailboxDone p m q s).rcd = s.rcd := by
  unfold mailboxDone; split <;> simp
@[simp] theorem mailboxDone_rnd (p : Fin 4) (m : Fin 8) (q : Bool) (s : Rc8) : (mailboxDone p m q s).rnd = s.rnd := by
  unfold mailboxDone; split <;> simp
@[simp] theorem mailboxDone_net (p : Fin 4) (m : Fin 8) (q : Bool) (s : Rc8) : (mailboxDone p m q s).net = s.net := by
  unfold mailboxDone; split <;> simp
@[simp] theorem mailboxDone_sch (p : Fin 4) (m : Fin 8) (q : Bool) (s : Rc8) : (mailboxDone p m q s).sch = s.sch := by
  unfold mailboxDone; split <;> simp
@[simp] theorem mailboxDone_eng (p : Fin 4) (m : Fin 8) (q : Bool) (s : Rc8) : (mailboxDone p m q s).eng = s.eng := by
  unfold mailboxDone; split <;> simp
@[simp] theorem mailboxDone_learn (p : Fin 4) (m : Fin 8) (q : Bool) (s : Rc8) : (mailboxDone p m q s).learn = s.learn := by
  unfold mailboxDone; split <;> simp
@[simp] theorem mailboxDone_tablesRestored (p : Fin 4) (m : Fin 8) (q : Bool) (s : Rc8) : (mailboxDone p m q s).tablesRestored = s.tablesRestored := by
  unfold mailboxDone; split <;> simp
@[simp] theorem mailboxDone_run (p : Fin 4) (m : Fin 8) (q : Bool) (s : Rc8) : (mailboxDone p m q s).run = s.run := by
  unfold mailboxDone; split <;> simp
@[simp] theorem mailboxDone_chg (p : Fin 4) (m : Fin 8) (q : Bool) (s : Rc8) : (mailboxDone p m q s).chg = s.chg := by
  unfold mailboxDone; split <;> simp
@[simp] theorem mailboxDone_pair (p : Fin 4) (m : Fin 8) (q : Bool) (s : Rc8) : (mailboxDone p m q s).pair = s.pair := by
  unfold mailboxDone; split <;> simp
@[simp] theorem mailboxDone_saf (p : Fin 4) (m : Fin 8) (q : Bool) (s : Rc8) : (mailboxDone p m q s).saf = s.saf := by
  unfold mailboxDone; split <;> simp
@[simp] theorem mailboxDone_itg (p : Fin 4) (m : Fin 8) (q : Bool) (s : Rc8) : (mailboxDone p m q s).itg = s.itg := by
  unfold mailboxDone; split <;> simp
@[simp] theorem mailboxDone_tim (p : Fin 4) (m : Fin 8) (q : Bool) (s : Rc8) : (mailboxDone p m q s).tim = s.tim := by
  unfold mailboxDone; split <;> simp
@[simp] theorem mailboxDone_eth (p : Fin 4) (m : Fin 8) (q : Bool) (s : Rc8) : (mailboxDone p m q s).eth = s.eth := by
  unfold mailboxDone; split <;> simp
@[simp] theorem mailboxDone_peers (p : Fin 4) (m : Fin 8) (q : Bool) (s : Rc8) : (mailboxDone p m q s).peers = s.peers := by
  unfold mailboxDone; split <;> simp
@[simp] theorem mailboxDone_can (p : Fin 4) (m : Fin 8) (q : Bool) (s : Rc8) : (mailboxDone p m q s).can = s.can := by
  unfold mailboxDone; split <;> simp
@[simp] theorem mailboxDone_ffe (p : Fin 4) (m : Fin 8) (q : Bool) (s : Rc8) : (mailboxDone p m q s).ffe = s.ffe := by
  unfold mailboxDone; split <;> simp
@[simp] theorem mailboxDone_pwr (p : Fin 4) (m : Fin 8) (q : Bool) (s : Rc8) : (mailboxDone p m q s).pwr = s.pwr := by
  unfold mailboxDone; split <;> simp
@[simp] theorem mailboxDone_restartAt (p : Fin 4) (m : Fin 8) (q : Bool) (s : Rc8) : (mailboxDone p m q s).restartAt = s.restartAt := by
  unfold mailboxDone; split <;> simp
@[simp] theorem mailboxDone_trialFrom (p : Fin 4) (m : Fin 8) (q : Bool) (s : Rc8) : (mailboxDone p m q s).trialFrom = s.trialFrom := by
  unfold mailboxDone; split <;> simp
@[simp] theorem mailboxDone_expiryHandover (p : Fin 4) (m : Fin 8) (q : Bool) (s : Rc8) : (mailboxDone p m q s).expiryHandover = s.expiryHandover := by
  unfold mailboxDone; split <;> simp
@[simp] theorem mailboxDone_nv (p : Fin 4) (m : Fin 8) (q : Bool) (s : Rc8) : (mailboxDone p m q s).nv = s.nv := by
  unfold mailboxDone; split <;> simp

/-! ### mailboxReply -/

@[simp] theorem mailboxReply_ident (p : Fin 4) (m : Fin 8) (x : Status) (l : List Byte) (s : Rc8) : (mailboxReply p m x l s).ident = s.ident := by first | rfl
@[simp] theorem mailboxReply_clk (p : Fin 4) (m : Fin 8) (x : Status) (l : List Byte) (s : Rc8) : (mailboxReply p m x l s).clk = s.clk := by first | rfl
@[simp] theorem mailboxReply_svpReady (p : Fin 4) (m : Fin 8) (x : Status) (l : List Byte) (s : Rc8) : (mailboxReply p m x l s).svpReady = s.svpReady := by first | rfl
@[simp] theorem mailboxReply_execs (p : Fin 4) (m : Fin 8) (x : Status) (l : List Byte) (s : Rc8) : (mailboxReply p m x l s).execs = s.execs := by first | rfl
@[simp] theorem mailboxReply_nextExec (p : Fin 4) (m : Fin 8) (x : Status) (l : List Byte) (s : Rc8) : (mailboxReply p m x l s).nextExec = s.nextExec := by first | rfl
@[simp] theorem mailboxReply_arrivals (p : Fin 4) (m : Fin 8) (x : Status) (l : List Byte) (s : Rc8) : (mailboxReply p m x l s).arrivals = s.arrivals := by first | rfl
@[simp] theorem mailboxReply_limits (p : Fin 4) (m : Fin 8) (x : Status) (l : List Byte) (s : Rc8) : (mailboxReply p m x l s).limits = s.limits := by first | rfl
@[simp] theorem mailboxReply_bar2 (p : Fin 4) (m : Fin 8) (x : Status) (l : List Byte) (s : Rc8) : (mailboxReply p m x l s).bar2 = s.bar2 := by first | rfl
@[simp] theorem mailboxReply_out (p : Fin 4) (m : Fin 8) (x : Status) (l : List Byte) (s : Rc8) : (mailboxReply p m x l s).out = s.out := by first | rfl
@[simp] theorem mailboxReply_rcd (p : Fin 4) (m : Fin 8) (x : Status) (l : List Byte) (s : Rc8) : (mailboxReply p m x l s).rcd = s.rcd := by first | rfl
@[simp] theorem mailboxReply_rnd (p : Fin 4) (m : Fin 8) (x : Status) (l : List Byte) (s : Rc8) : (mailboxReply p m x l s).rnd = s.rnd := by first | rfl
@[simp] theorem mailboxReply_net (p : Fin 4) (m : Fin 8) (x : Status) (l : List Byte) (s : Rc8) : (mailboxReply p m x l s).net = s.net := by first | rfl
@[simp] theorem mailboxReply_sch (p : Fin 4) (m : Fin 8) (x : Status) (l : List Byte) (s : Rc8) : (mailboxReply p m x l s).sch = s.sch := by first | rfl
@[simp] theorem mailboxReply_eng (p : Fin 4) (m : Fin 8) (x : Status) (l : List Byte) (s : Rc8) : (mailboxReply p m x l s).eng = s.eng := by first | rfl
@[simp] theorem mailboxReply_learn (p : Fin 4) (m : Fin 8) (x : Status) (l : List Byte) (s : Rc8) : (mailboxReply p m x l s).learn = s.learn := by first | rfl
@[simp] theorem mailboxReply_tablesRestored (p : Fin 4) (m : Fin 8) (x : Status) (l : List Byte) (s : Rc8) : (mailboxReply p m x l s).tablesRestored = s.tablesRestored := by first | rfl
@[simp] theorem mailboxReply_run (p : Fin 4) (m : Fin 8) (x : Status) (l : List Byte) (s : Rc8) : (mailboxReply p m x l s).run = s.run := by first | rfl
@[simp] theorem mailboxReply_chg (p : Fin 4) (m : Fin 8) (x : Status) (l : List Byte) (s : Rc8) : (mailboxReply p m x l s).chg = s.chg := by first | rfl
@[simp] theorem mailboxReply_pair (p : Fin 4) (m : Fin 8) (x : Status) (l : List Byte) (s : Rc8) : (mailboxReply p m x l s).pair = s.pair := by first | rfl
@[simp] theorem mailboxReply_saf (p : Fin 4) (m : Fin 8) (x : Status) (l : List Byte) (s : Rc8) : (mailboxReply p m x l s).saf = s.saf := by first | rfl
@[simp] theorem mailboxReply_itg (p : Fin 4) (m : Fin 8) (x : Status) (l : List Byte) (s : Rc8) : (mailboxReply p m x l s).itg = s.itg := by first | rfl
@[simp] theorem mailboxReply_tim (p : Fin 4) (m : Fin 8) (x : Status) (l : List Byte) (s : Rc8) : (mailboxReply p m x l s).tim = s.tim := by first | rfl
@[simp] theorem mailboxReply_eth (p : Fin 4) (m : Fin 8) (x : Status) (l : List Byte) (s : Rc8) : (mailboxReply p m x l s).eth = s.eth := by first | rfl
@[simp] theorem mailboxReply_peers (p : Fin 4) (m : Fin 8) (x : Status) (l : List Byte) (s : Rc8) : (mailboxReply p m x l s).peers = s.peers := by first | rfl
@[simp] theorem mailboxReply_can (p : Fin 4) (m : Fin 8) (x : Status) (l : List Byte) (s : Rc8) : (mailboxReply p m x l s).can = s.can := by first | rfl
@[simp] theorem mailboxReply_ffe (p : Fin 4) (m : Fin 8) (x : Status) (l : List Byte) (s : Rc8) : (mailboxReply p m x l s).ffe = s.ffe := by first | rfl
@[simp] theorem mailboxReply_pwr (p : Fin 4) (m : Fin 8) (x : Status) (l : List Byte) (s : Rc8) : (mailboxReply p m x l s).pwr = s.pwr := by first | rfl
@[simp] theorem mailboxReply_restartAt (p : Fin 4) (m : Fin 8) (x : Status) (l : List Byte) (s : Rc8) : (mailboxReply p m x l s).restartAt = s.restartAt := by first | rfl
@[simp] theorem mailboxReply_trialFrom (p : Fin 4) (m : Fin 8) (x : Status) (l : List Byte) (s : Rc8) : (mailboxReply p m x l s).trialFrom = s.trialFrom := by first | rfl
@[simp] theorem mailboxReply_expiryHandover (p : Fin 4) (m : Fin 8) (x : Status) (l : List Byte) (s : Rc8) : (mailboxReply p m x l s).expiryHandover = s.expiryHandover := by first | rfl
@[simp] theorem mailboxReply_nv (p : Fin 4) (m : Fin 8) (x : Status) (l : List Byte) (s : Rc8) : (mailboxReply p m x l s).nv = s.nv := by first | rfl

/-! ### endExec -/

@[simp] theorem endExec_ident (id : Nat) (x : Status) (l : List Byte) (s : Rc8) : (endExec id x l s).ident = s.ident := by first | rfl
@[simp] theorem endExec_clk (id : Nat) (x : Status) (l : List Byte) (s : Rc8) : (endExec id x l s).clk = s.clk := by first | rfl
@[simp] theorem endExec_svpReady (id : Nat) (x : Status) (l : List Byte) (s : Rc8) : (endExec id x l s).svpReady = s.svpReady := by first | rfl
@[simp] theorem endExec_hp (id : Nat) (x : Status) (l : List Byte) (s : Rc8) : (endExec id x l s).hp = s.hp := by first | rfl
@[simp] theorem endExec_nextExec (id : Nat) (x : Status) (l : List Byte) (s : Rc8) : (endExec id x l s).nextExec = s.nextExec := by first | rfl
@[simp] theorem endExec_arrivals (id : Nat) (x : Status) (l : List Byte) (s : Rc8) : (endExec id x l s).arrivals = s.arrivals := by first | rfl
@[simp] theorem endExec_limits (id : Nat) (x : Status) (l : List Byte) (s : Rc8) : (endExec id x l s).limits = s.limits := by first | rfl
@[simp] theorem endExec_bar2 (id : Nat) (x : Status) (l : List Byte) (s : Rc8) : (endExec id x l s).bar2 = s.bar2 := by first | rfl
@[simp] theorem endExec_out (id : Nat) (x : Status) (l : List Byte) (s : Rc8) : (endExec id x l s).out = s.out := by first | rfl
@[simp] theorem endExec_rcd (id : Nat) (x : Status) (l : List Byte) (s : Rc8) : (endExec id x l s).rcd = s.rcd := by first | rfl
@[simp] theorem endExec_rnd (id : Nat) (x : Status) (l : List Byte) (s : Rc8) : (endExec id x l s).rnd = s.rnd := by first | rfl
@[simp] theorem endExec_net (id : Nat) (x : Status) (l : List Byte) (s : Rc8) : (endExec id x l s).net = s.net := by first | rfl
@[simp] theorem endExec_sch (id : Nat) (x : Status) (l : List Byte) (s : Rc8) : (endExec id x l s).sch = s.sch := by first | rfl
@[simp] theorem endExec_eng (id : Nat) (x : Status) (l : List Byte) (s : Rc8) : (endExec id x l s).eng = s.eng := by first | rfl
@[simp] theorem endExec_learn (id : Nat) (x : Status) (l : List Byte) (s : Rc8) : (endExec id x l s).learn = s.learn := by first | rfl
@[simp] theorem endExec_tablesRestored (id : Nat) (x : Status) (l : List Byte) (s : Rc8) : (endExec id x l s).tablesRestored = s.tablesRestored := by first | rfl
@[simp] theorem endExec_run (id : Nat) (x : Status) (l : List Byte) (s : Rc8) : (endExec id x l s).run = s.run := by first | rfl
@[simp] theorem endExec_chg (id : Nat) (x : Status) (l : List Byte) (s : Rc8) : (endExec id x l s).chg = s.chg := by first | rfl
@[simp] theorem endExec_pair (id : Nat) (x : Status) (l : List Byte) (s : Rc8) : (endExec id x l s).pair = s.pair := by first | rfl
@[simp] theorem endExec_saf (id : Nat) (x : Status) (l : List Byte) (s : Rc8) : (endExec id x l s).saf = s.saf := by first | rfl
@[simp] theorem endExec_itg (id : Nat) (x : Status) (l : List Byte) (s : Rc8) : (endExec id x l s).itg = s.itg := by first | rfl
@[simp] theorem endExec_tim (id : Nat) (x : Status) (l : List Byte) (s : Rc8) : (endExec id x l s).tim = s.tim := by first | rfl
@[simp] theorem endExec_eth (id : Nat) (x : Status) (l : List Byte) (s : Rc8) : (endExec id x l s).eth = s.eth := by first | rfl
@[simp] theorem endExec_peers (id : Nat) (x : Status) (l : List Byte) (s : Rc8) : (endExec id x l s).peers = s.peers := by first | rfl
@[simp] theorem endExec_can (id : Nat) (x : Status) (l : List Byte) (s : Rc8) : (endExec id x l s).can = s.can := by first | rfl
@[simp] theorem endExec_ffe (id : Nat) (x : Status) (l : List Byte) (s : Rc8) : (endExec id x l s).ffe = s.ffe := by first | rfl
@[simp] theorem endExec_pwr (id : Nat) (x : Status) (l : List Byte) (s : Rc8) : (endExec id x l s).pwr = s.pwr := by first | rfl
@[simp] theorem endExec_restartAt (id : Nat) (x : Status) (l : List Byte) (s : Rc8) : (endExec id x l s).restartAt = s.restartAt := by first | rfl
@[simp] theorem endExec_trialFrom (id : Nat) (x : Status) (l : List Byte) (s : Rc8) : (endExec id x l s).trialFrom = s.trialFrom := by first | rfl
@[simp] theorem endExec_expiryHandover (id : Nat) (x : Status) (l : List Byte) (s : Rc8) : (endExec id x l s).expiryHandover = s.expiryHandover := by first | rfl
@[simp] theorem endExec_nv (id : Nat) (x : Status) (l : List Byte) (s : Rc8) : (endExec id x l s).nv = s.nv := by first | rfl

/-! ### endWith -/

@[simp] theorem endWith_ident (id : Nat) (x : Status) (s : Rc8) : (endWith id x s).ident = s.ident := by first | rfl
@[simp] theorem endWith_clk (id : Nat) (x : Status) (s : Rc8) : (endWith id x s).clk = s.clk := by first | rfl
@[simp] theorem endWith_svpReady (id : Nat) (x : Status) (s : Rc8) : (endWith id x s).svpReady = s.svpReady := by first | rfl
@[simp] theorem endWith_hp (id : Nat) (x : Status) (s : Rc8) : (endWith id x s).hp = s.hp := by first | rfl
@[simp] theorem endWith_nextExec (id : Nat) (x : Status) (s : Rc8) : (endWith id x s).nextExec = s.nextExec := by first | rfl
@[simp] theorem endWith_arrivals (id : Nat) (x : Status) (s : Rc8) : (endWith id x s).arrivals = s.arrivals := by first | rfl
@[simp] theorem endWith_limits (id : Nat) (x : Status) (s : Rc8) : (endWith id x s).limits = s.limits := by first | rfl
@[simp] theorem endWith_bar2 (id : Nat) (x : Status) (s : Rc8) : (endWith id x s).bar2 = s.bar2 := by first | rfl
@[simp] theorem endWith_out (id : Nat) (x : Status) (s : Rc8) : (endWith id x s).out = s.out := by first | rfl
@[simp] theorem endWith_rcd (id : Nat) (x : Status) (s : Rc8) : (endWith id x s).rcd = s.rcd := by first | rfl
@[simp] theorem endWith_rnd (id : Nat) (x : Status) (s : Rc8) : (endWith id x s).rnd = s.rnd := by first | rfl
@[simp] theorem endWith_net (id : Nat) (x : Status) (s : Rc8) : (endWith id x s).net = s.net := by first | rfl
@[simp] theorem endWith_sch (id : Nat) (x : Status) (s : Rc8) : (endWith id x s).sch = s.sch := by first | rfl
@[simp] theorem endWith_eng (id : Nat) (x : Status) (s : Rc8) : (endWith id x s).eng = s.eng := by first | rfl
@[simp] theorem endWith_learn (id : Nat) (x : Status) (s : Rc8) : (endWith id x s).learn = s.learn := by first | rfl
@[simp] theorem endWith_tablesRestored (id : Nat) (x : Status) (s : Rc8) : (endWith id x s).tablesRestored = s.tablesRestored := by first | rfl
@[simp] theorem endWith_run (id : Nat) (x : Status) (s : Rc8) : (endWith id x s).run = s.run := by first | rfl
@[simp] theorem endWith_chg (id : Nat) (x : Status) (s : Rc8) : (endWith id x s).chg = s.chg := by first | rfl
@[simp] theorem endWith_pair (id : Nat) (x : Status) (s : Rc8) : (endWith id x s).pair = s.pair := by first | rfl
@[simp] theorem endWith_saf (id : Nat) (x : Status) (s : Rc8) : (endWith id x s).saf = s.saf := by first | rfl
@[simp] theorem endWith_itg (id : Nat) (x : Status) (s : Rc8) : (endWith id x s).itg = s.itg := by first | rfl
@[simp] theorem endWith_tim (id : Nat) (x : Status) (s : Rc8) : (endWith id x s).tim = s.tim := by first | rfl
@[simp] theorem endWith_eth (id : Nat) (x : Status) (s : Rc8) : (endWith id x s).eth = s.eth := by first | rfl
@[simp] theorem endWith_peers (id : Nat) (x : Status) (s : Rc8) : (endWith id x s).peers = s.peers := by first | rfl
@[simp] theorem endWith_can (id : Nat) (x : Status) (s : Rc8) : (endWith id x s).can = s.can := by first | rfl
@[simp] theorem endWith_ffe (id : Nat) (x : Status) (s : Rc8) : (endWith id x s).ffe = s.ffe := by first | rfl
@[simp] theorem endWith_pwr (id : Nat) (x : Status) (s : Rc8) : (endWith id x s).pwr = s.pwr := by first | rfl
@[simp] theorem endWith_restartAt (id : Nat) (x : Status) (s : Rc8) : (endWith id x s).restartAt = s.restartAt := by first | rfl
@[simp] theorem endWith_trialFrom (id : Nat) (x : Status) (s : Rc8) : (endWith id x s).trialFrom = s.trialFrom := by first | rfl
@[simp] theorem endWith_expiryHandover (id : Nat) (x : Status) (s : Rc8) : (endWith id x s).expiryHandover = s.expiryHandover := by first | rfl
@[simp] theorem endWith_nv (id : Nat) (x : Status) (s : Rc8) : (endWith id x s).nv = s.nv := by first | rfl

/-! ### waitExec -/

@[simp] theorem waitExec_ident (id : Nat) (s : Rc8) : (waitExec id s).ident = s.ident := by first | rfl
@[simp] theorem waitExec_clk (id : Nat) (s : Rc8) : (waitExec id s).clk = s.clk := by first | rfl
@[simp] theorem waitExec_svpReady (id : Nat) (s : Rc8) : (waitExec id s).svpReady = s.svpReady := by first | rfl
@[simp] theorem waitExec_hp (id : Nat) (s : Rc8) : (waitExec id s).hp = s.hp := by first | rfl
@[simp] theorem waitExec_nextExec (id : Nat) (s : Rc8) : (waitExec id s).nextExec = s.nextExec := by first | rfl
@[simp] theorem waitExec_arrivals (id : Nat) (s : Rc8) : (waitExec id s).arrivals = s.arrivals := by first | rfl
@[simp] theorem waitExec_limits (id : Nat) (s : Rc8) : (waitExec id s).limits = s.limits := by first | rfl
@[simp] theorem waitExec_bar2 (id : Nat) (s : Rc8) : (waitExec id s).bar2 = s.bar2 := by first | rfl
@[simp] theorem waitExec_out (id : Nat) (s : Rc8) : (waitExec id s).out = s.out := by first | rfl
@[simp] theorem waitExec_rcd (id : Nat) (s : Rc8) : (waitExec id s).rcd = s.rcd := by first | rfl
@[simp] theorem waitExec_rnd (id : Nat) (s : Rc8) : (waitExec id s).rnd = s.rnd := by first | rfl
@[simp] theorem waitExec_net (id : Nat) (s : Rc8) : (waitExec id s).net = s.net := by first | rfl
@[simp] theorem waitExec_sch (id : Nat) (s : Rc8) : (waitExec id s).sch = s.sch := by first | rfl
@[simp] theorem waitExec_eng (id : Nat) (s : Rc8) : (waitExec id s).eng = s.eng := by first | rfl
@[simp] theorem waitExec_learn (id : Nat) (s : Rc8) : (waitExec id s).learn = s.learn := by first | rfl
@[simp] theorem waitExec_tablesRestored (id : Nat) (s : Rc8) : (waitExec id s).tablesRestored = s.tablesRestored := by first | rfl
@[simp] theorem waitExec_run (id : Nat) (s : Rc8) : (waitExec id s).run = s.run := by first | rfl
@[simp] theorem waitExec_chg (id : Nat) (s : Rc8) : (waitExec id s).chg = s.chg := by first | rfl
@[simp] theorem waitExec_pair (id : Nat) (s : Rc8) : (waitExec id s).pair = s.pair := by first | rfl
@[simp] theorem waitExec_saf (id : Nat) (s : Rc8) : (waitExec id s).saf = s.saf := by first | rfl
@[simp] theorem waitExec_itg (id : Nat) (s : Rc8) : (waitExec id s).itg = s.itg := by first | rfl
@[simp] theorem waitExec_tim (id : Nat) (s : Rc8) : (waitExec id s).tim = s.tim := by first | rfl
@[simp] theorem waitExec_eth (id : Nat) (s : Rc8) : (waitExec id s).eth = s.eth := by first | rfl
@[simp] theorem waitExec_peers (id : Nat) (s : Rc8) : (waitExec id s).peers = s.peers := by first | rfl
@[simp] theorem waitExec_can (id : Nat) (s : Rc8) : (waitExec id s).can = s.can := by first | rfl
@[simp] theorem waitExec_ffe (id : Nat) (s : Rc8) : (waitExec id s).ffe = s.ffe := by first | rfl
@[simp] theorem waitExec_pwr (id : Nat) (s : Rc8) : (waitExec id s).pwr = s.pwr := by first | rfl
@[simp] theorem waitExec_restartAt (id : Nat) (s : Rc8) : (waitExec id s).restartAt = s.restartAt := by first | rfl
@[simp] theorem waitExec_trialFrom (id : Nat) (s : Rc8) : (waitExec id s).trialFrom = s.trialFrom := by first | rfl
@[simp] theorem waitExec_expiryHandover (id : Nat) (s : Rc8) : (waitExec id s).expiryHandover = s.expiryHandover := by first | rfl
@[simp] theorem waitExec_nv (id : Nat) (s : Rc8) : (waitExec id s).nv = s.nv := by first | rfl

/-! ### endOpt -/

@[simp] theorem endOpt_ident (id : Option Nat) (x : Status) (s : Rc8) : (endOpt id x s).ident = s.ident := by
  cases id <;> rfl
@[simp] theorem endOpt_clk (id : Option Nat) (x : Status) (s : Rc8) : (endOpt id x s).clk = s.clk := by
  cases id <;> rfl
@[simp] theorem endOpt_svpReady (id : Option Nat) (x : Status) (s : Rc8) : (endOpt id x s).svpReady = s.svpReady := by
  cases id <;> rfl
@[simp] theorem endOpt_hp (id : Option Nat) (x : Status) (s : Rc8) : (endOpt id x s).hp = s.hp := by
  cases id <;> rfl
@[simp] theorem endOpt_nextExec (id : Option Nat) (x : Status) (s : Rc8) : (endOpt id x s).nextExec = s.nextExec := by
  cases id <;> rfl
@[simp] theorem endOpt_arrivals (id : Option Nat) (x : Status) (s : Rc8) : (endOpt id x s).arrivals = s.arrivals := by
  cases id <;> rfl
@[simp] theorem endOpt_limits (id : Option Nat) (x : Status) (s : Rc8) : (endOpt id x s).limits = s.limits := by
  cases id <;> rfl
@[simp] theorem endOpt_bar2 (id : Option Nat) (x : Status) (s : Rc8) : (endOpt id x s).bar2 = s.bar2 := by
  cases id <;> rfl
@[simp] theorem endOpt_out (id : Option Nat) (x : Status) (s : Rc8) : (endOpt id x s).out = s.out := by
  cases id <;> rfl
@[simp] theorem endOpt_rcd (id : Option Nat) (x : Status) (s : Rc8) : (endOpt id x s).rcd = s.rcd := by
  cases id <;> rfl
@[simp] theorem endOpt_rnd (id : Option Nat) (x : Status) (s : Rc8) : (endOpt id x s).rnd = s.rnd := by
  cases id <;> rfl
@[simp] theorem endOpt_net (id : Option Nat) (x : Status) (s : Rc8) : (endOpt id x s).net = s.net := by
  cases id <;> rfl
@[simp] theorem endOpt_sch (id : Option Nat) (x : Status) (s : Rc8) : (endOpt id x s).sch = s.sch := by
  cases id <;> rfl
@[simp] theorem endOpt_eng (id : Option Nat) (x : Status) (s : Rc8) : (endOpt id x s).eng = s.eng := by
  cases id <;> rfl
@[simp] theorem endOpt_learn (id : Option Nat) (x : Status) (s : Rc8) : (endOpt id x s).learn = s.learn := by
  cases id <;> rfl
@[simp] theorem endOpt_tablesRestored (id : Option Nat) (x : Status) (s : Rc8) : (endOpt id x s).tablesRestored = s.tablesRestored := by
  cases id <;> rfl
@[simp] theorem endOpt_run (id : Option Nat) (x : Status) (s : Rc8) : (endOpt id x s).run = s.run := by
  cases id <;> rfl
@[simp] theorem endOpt_chg (id : Option Nat) (x : Status) (s : Rc8) : (endOpt id x s).chg = s.chg := by
  cases id <;> rfl
@[simp] theorem endOpt_pair (id : Option Nat) (x : Status) (s : Rc8) : (endOpt id x s).pair = s.pair := by
  cases id <;> rfl
@[simp] theorem endOpt_saf (id : Option Nat) (x : Status) (s : Rc8) : (endOpt id x s).saf = s.saf := by
  cases id <;> rfl
@[simp] theorem endOpt_itg (id : Option Nat) (x : Status) (s : Rc8) : (endOpt id x s).itg = s.itg := by
  cases id <;> rfl
@[simp] theorem endOpt_tim (id : Option Nat) (x : Status) (s : Rc8) : (endOpt id x s).tim = s.tim := by
  cases id <;> rfl
@[simp] theorem endOpt_eth (id : Option Nat) (x : Status) (s : Rc8) : (endOpt id x s).eth = s.eth := by
  cases id <;> rfl
@[simp] theorem endOpt_peers (id : Option Nat) (x : Status) (s : Rc8) : (endOpt id x s).peers = s.peers := by
  cases id <;> rfl
@[simp] theorem endOpt_can (id : Option Nat) (x : Status) (s : Rc8) : (endOpt id x s).can = s.can := by
  cases id <;> rfl
@[simp] theorem endOpt_ffe (id : Option Nat) (x : Status) (s : Rc8) : (endOpt id x s).ffe = s.ffe := by
  cases id <;> rfl
@[simp] theorem endOpt_pwr (id : Option Nat) (x : Status) (s : Rc8) : (endOpt id x s).pwr = s.pwr := by
  cases id <;> rfl
@[simp] theorem endOpt_restartAt (id : Option Nat) (x : Status) (s : Rc8) : (endOpt id x s).restartAt = s.restartAt := by
  cases id <;> rfl
@[simp] theorem endOpt_trialFrom (id : Option Nat) (x : Status) (s : Rc8) : (endOpt id x s).trialFrom = s.trialFrom := by
  cases id <;> rfl
@[simp] theorem endOpt_expiryHandover (id : Option Nat) (x : Status) (s : Rc8) : (endOpt id x s).expiryHandover = s.expiryHandover := by
  cases id <;> rfl
@[simp] theorem endOpt_nv (id : Option Nat) (x : Status) (s : Rc8) : (endOpt id x s).nv = s.nv := by
  cases id <;> rfl

/-! ### pendNow -/

@[simp] theorem pendNow_ident (e : Exec) (s : Rc8) : (pendNow e s).ident = s.ident := by
  unfold pendNow; dsimp only; split <;> simp
@[simp] theorem pendNow_clk (e : Exec) (s : Rc8) : (pendNow e s).clk = s.clk := by
  unfold pendNow; dsimp only; split <;> simp
@[simp] theorem pendNow_svpReady (e : Exec) (s : Rc8) : (pendNow e s).svpReady = s.svpReady := by
  unfold pendNow; dsimp only; split <;> simp
@[simp] theorem pendNow_nextExec (e : Exec) (s : Rc8) : (pendNow e s).nextExec = s.nextExec := by
  unfold pendNow; dsimp only; split <;> simp
@[simp] theorem pendNow_arrivals (e : Exec) (s : Rc8) : (pendNow e s).arrivals = s.arrivals := by
  unfold pendNow; dsimp only; split <;> simp
@[simp] theorem pendNow_limits (e : Exec) (s : Rc8) : (pendNow e s).limits = s.limits := by
  unfold pendNow; dsimp only; split <;> simp
@[simp] theorem pendNow_bar2 (e : Exec) (s : Rc8) : (pendNow e s).bar2 = s.bar2 := by
  unfold pendNow; dsimp only; split <;> simp
@[simp] theorem pendNow_rcd (e : Exec) (s : Rc8) : (pendNow e s).rcd = s.rcd := by
  unfold pendNow; dsimp only; split <;> simp
@[simp] theorem pendNow_rnd (e : Exec) (s : Rc8) : (pendNow e s).rnd = s.rnd := by
  unfold pendNow; dsimp only; split <;> simp
@[simp] theorem pendNow_net (e : Exec) (s : Rc8) : (pendNow e s).net = s.net := by
  unfold pendNow; dsimp only; split <;> simp
@[simp] theorem pendNow_sch (e : Exec) (s : Rc8) : (pendNow e s).sch = s.sch := by
  unfold pendNow; dsimp only; split <;> simp
@[simp] theorem pendNow_eng (e : Exec) (s : Rc8) : (pendNow e s).eng = s.eng := by
  unfold pendNow; dsimp only; split <;> simp
@[simp] theorem pendNow_learn (e : Exec) (s : Rc8) : (pendNow e s).learn = s.learn := by
  unfold pendNow; dsimp only; split <;> simp
@[simp] theorem pendNow_tablesRestored (e : Exec) (s : Rc8) : (pendNow e s).tablesRestored = s.tablesRestored := by
  unfold pendNow; dsimp only; split <;> simp
@[simp] theorem pendNow_run (e : Exec) (s : Rc8) : (pendNow e s).run = s.run := by
  unfold pendNow; dsimp only; split <;> simp
@[simp] theorem pendNow_chg (e : Exec) (s : Rc8) : (pendNow e s).chg = s.chg := by
  unfold pendNow; dsimp only; split <;> simp
@[simp] theorem pendNow_pair (e : Exec) (s : Rc8) : (pendNow e s).pair = s.pair := by
  unfold pendNow; dsimp only; split <;> simp
@[simp] theorem pendNow_saf (e : Exec) (s : Rc8) : (pendNow e s).saf = s.saf := by
  unfold pendNow; dsimp only; split <;> simp
@[simp] theorem pendNow_itg (e : Exec) (s : Rc8) : (pendNow e s).itg = s.itg := by
  unfold pendNow; dsimp only; split <;> simp
@[simp] theorem pendNow_tim (e : Exec) (s : Rc8) : (pendNow e s).tim = s.tim := by
  unfold pendNow; dsimp only; split <;> simp
@[simp] theorem pendNow_eth (e : Exec) (s : Rc8) : (pendNow e s).eth = s.eth := by
  unfold pendNow; dsimp only; split <;> simp
@[simp] theorem pendNow_peers (e : Exec) (s : Rc8) : (pendNow e s).peers = s.peers := by
  unfold pendNow; dsimp only; split <;> simp
@[simp] theorem pendNow_can (e : Exec) (s : Rc8) : (pendNow e s).can = s.can := by
  unfold pendNow; dsimp only; split <;> simp
@[simp] theorem pendNow_ffe (e : Exec) (s : Rc8) : (pendNow e s).ffe = s.ffe := by
  unfold pendNow; dsimp only; split <;> simp
@[simp] theorem pendNow_pwr (e : Exec) (s : Rc8) : (pendNow e s).pwr = s.pwr := by
  unfold pendNow; dsimp only; split <;> simp
@[simp] theorem pendNow_restartAt (e : Exec) (s : Rc8) : (pendNow e s).restartAt = s.restartAt := by
  unfold pendNow; dsimp only; split <;> simp
@[simp] theorem pendNow_trialFrom (e : Exec) (s : Rc8) : (pendNow e s).trialFrom = s.trialFrom := by
  unfold pendNow; dsimp only; split <;> simp
@[simp] theorem pendNow_expiryHandover (e : Exec) (s : Rc8) : (pendNow e s).expiryHandover = s.expiryHandover := by
  unfold pendNow; dsimp only; split <;> simp
@[simp] theorem pendNow_nv (e : Exec) (s : Rc8) : (pendNow e s).nv = s.nv := by
  unfold pendNow; dsimp only; split <;> simp

/-! ### atRefosc -/

@[simp] theorem atRefosc_ident (t : Nat) (s : Rc8) : (atRefosc t s).ident = s.ident := by first | rfl
@[simp] theorem atRefosc_svpReady (t : Nat) (s : Rc8) : (atRefosc t s).svpReady = s.svpReady := by first | rfl
@[simp] theorem atRefosc_hp (t : Nat) (s : Rc8) : (atRefosc t s).hp = s.hp := by first | rfl
@[simp] theorem atRefosc_execs (t : Nat) (s : Rc8) : (atRefosc t s).execs = s.execs := by first | rfl
@[simp] theorem atRefosc_nextExec (t : Nat) (s : Rc8) : (atRefosc t s).nextExec = s.nextExec := by first | rfl
@[simp] theorem atRefosc_arrivals (t : Nat) (s : Rc8) : (atRefosc t s).arrivals = s.arrivals := by first | rfl
@[simp] theorem atRefosc_limits (t : Nat) (s : Rc8) : (atRefosc t s).limits = s.limits := by first | rfl
@[simp] theorem atRefosc_bar2 (t : Nat) (s : Rc8) : (atRefosc t s).bar2 = s.bar2 := by first | rfl
@[simp] theorem atRefosc_out (t : Nat) (s : Rc8) : (atRefosc t s).out = s.out := by first | rfl
@[simp] theorem atRefosc_rcd (t : Nat) (s : Rc8) : (atRefosc t s).rcd = s.rcd := by first | rfl
@[simp] theorem atRefosc_rnd (t : Nat) (s : Rc8) : (atRefosc t s).rnd = s.rnd := by first | rfl
@[simp] theorem atRefosc_net (t : Nat) (s : Rc8) : (atRefosc t s).net = s.net := by first | rfl
@[simp] theorem atRefosc_sch (t : Nat) (s : Rc8) : (atRefosc t s).sch = s.sch := by first | rfl
@[simp] theorem atRefosc_eng (t : Nat) (s : Rc8) : (atRefosc t s).eng = s.eng := by first | rfl
@[simp] theorem atRefosc_learn (t : Nat) (s : Rc8) : (atRefosc t s).learn = s.learn := by first | rfl
@[simp] theorem atRefosc_tablesRestored (t : Nat) (s : Rc8) : (atRefosc t s).tablesRestored = s.tablesRestored := by first | rfl
@[simp] theorem atRefosc_run (t : Nat) (s : Rc8) : (atRefosc t s).run = s.run := by first | rfl
@[simp] theorem atRefosc_chg (t : Nat) (s : Rc8) : (atRefosc t s).chg = s.chg := by first | rfl
@[simp] theorem atRefosc_pair (t : Nat) (s : Rc8) : (atRefosc t s).pair = s.pair := by first | rfl
@[simp] theorem atRefosc_saf (t : Nat) (s : Rc8) : (atRefosc t s).saf = s.saf := by first | rfl
@[simp] theorem atRefosc_itg (t : Nat) (s : Rc8) : (atRefosc t s).itg = s.itg := by first | rfl
@[simp] theorem atRefosc_tim (t : Nat) (s : Rc8) : (atRefosc t s).tim = s.tim := by first | rfl
@[simp] theorem atRefosc_eth (t : Nat) (s : Rc8) : (atRefosc t s).eth = s.eth := by first | rfl
@[simp] theorem atRefosc_peers (t : Nat) (s : Rc8) : (atRefosc t s).peers = s.peers := by first | rfl
@[simp] theorem atRefosc_can (t : Nat) (s : Rc8) : (atRefosc t s).can = s.can := by first | rfl
@[simp] theorem atRefosc_ffe (t : Nat) (s : Rc8) : (atRefosc t s).ffe = s.ffe := by first | rfl
@[simp] theorem atRefosc_pwr (t : Nat) (s : Rc8) : (atRefosc t s).pwr = s.pwr := by first | rfl
@[simp] theorem atRefosc_restartAt (t : Nat) (s : Rc8) : (atRefosc t s).restartAt = s.restartAt := by first | rfl
@[simp] theorem atRefosc_trialFrom (t : Nat) (s : Rc8) : (atRefosc t s).trialFrom = s.trialFrom := by first | rfl
@[simp] theorem atRefosc_expiryHandover (t : Nat) (s : Rc8) : (atRefosc t s).expiryHandover = s.expiryHandover := by first | rfl
@[simp] theorem atRefosc_nv (t : Nat) (s : Rc8) : (atRefosc t s).nv = s.nv := by first | rfl

/-! ### atPtu -/

@[simp] theorem atPtu_ident (t : Nat) (s : Rc8) : (atPtu t s).ident = s.ident := by first | rfl
@[simp] theorem atPtu_svpReady (t : Nat) (s : Rc8) : (atPtu t s).svpReady = s.svpReady := by first | rfl
@[simp] theorem atPtu_hp (t : Nat) (s : Rc8) : (atPtu t s).hp = s.hp := by first | rfl
@[simp] theorem atPtu_execs (t : Nat) (s : Rc8) : (atPtu t s).execs = s.execs := by first | rfl
@[simp] theorem atPtu_nextExec (t : Nat) (s : Rc8) : (atPtu t s).nextExec = s.nextExec := by first | rfl
@[simp] theorem atPtu_arrivals (t : Nat) (s : Rc8) : (atPtu t s).arrivals = s.arrivals := by first | rfl
@[simp] theorem atPtu_limits (t : Nat) (s : Rc8) : (atPtu t s).limits = s.limits := by first | rfl
@[simp] theorem atPtu_bar2 (t : Nat) (s : Rc8) : (atPtu t s).bar2 = s.bar2 := by first | rfl
@[simp] theorem atPtu_out (t : Nat) (s : Rc8) : (atPtu t s).out = s.out := by first | rfl
@[simp] theorem atPtu_rcd (t : Nat) (s : Rc8) : (atPtu t s).rcd = s.rcd := by first | rfl
@[simp] theorem atPtu_rnd (t : Nat) (s : Rc8) : (atPtu t s).rnd = s.rnd := by first | rfl
@[simp] theorem atPtu_net (t : Nat) (s : Rc8) : (atPtu t s).net = s.net := by first | rfl
@[simp] theorem atPtu_sch (t : Nat) (s : Rc8) : (atPtu t s).sch = s.sch := by first | rfl
@[simp] theorem atPtu_eng (t : Nat) (s : Rc8) : (atPtu t s).eng = s.eng := by first | rfl
@[simp] theorem atPtu_learn (t : Nat) (s : Rc8) : (atPtu t s).learn = s.learn := by first | rfl
@[simp] theorem atPtu_tablesRestored (t : Nat) (s : Rc8) : (atPtu t s).tablesRestored = s.tablesRestored := by first | rfl
@[simp] theorem atPtu_run (t : Nat) (s : Rc8) : (atPtu t s).run = s.run := by first | rfl
@[simp] theorem atPtu_chg (t : Nat) (s : Rc8) : (atPtu t s).chg = s.chg := by first | rfl
@[simp] theorem atPtu_pair (t : Nat) (s : Rc8) : (atPtu t s).pair = s.pair := by first | rfl
@[simp] theorem atPtu_saf (t : Nat) (s : Rc8) : (atPtu t s).saf = s.saf := by first | rfl
@[simp] theorem atPtu_itg (t : Nat) (s : Rc8) : (atPtu t s).itg = s.itg := by first | rfl
@[simp] theorem atPtu_tim (t : Nat) (s : Rc8) : (atPtu t s).tim = s.tim := by first | rfl
@[simp] theorem atPtu_eth (t : Nat) (s : Rc8) : (atPtu t s).eth = s.eth := by first | rfl
@[simp] theorem atPtu_peers (t : Nat) (s : Rc8) : (atPtu t s).peers = s.peers := by first | rfl
@[simp] theorem atPtu_can (t : Nat) (s : Rc8) : (atPtu t s).can = s.can := by first | rfl
@[simp] theorem atPtu_ffe (t : Nat) (s : Rc8) : (atPtu t s).ffe = s.ffe := by first | rfl
@[simp] theorem atPtu_pwr (t : Nat) (s : Rc8) : (atPtu t s).pwr = s.pwr := by first | rfl
@[simp] theorem atPtu_restartAt (t : Nat) (s : Rc8) : (atPtu t s).restartAt = s.restartAt := by first | rfl
@[simp] theorem atPtu_trialFrom (t : Nat) (s : Rc8) : (atPtu t s).trialFrom = s.trialFrom := by first | rfl
@[simp] theorem atPtu_expiryHandover (t : Nat) (s : Rc8) : (atPtu t s).expiryHandover = s.expiryHandover := by first | rfl
@[simp] theorem atPtu_nv (t : Nat) (s : Rc8) : (atPtu t s).nv = s.nv := by first | rfl

/-! ### bar2Publish -/

@[simp] theorem bar2Publish_ident (c : Fin 5) (r t : Nat) (d : List Byte) (s : Rc8) : (bar2Publish c r t d s).ident = s.ident := by first | rfl
@[simp] theorem bar2Publish_clk (c : Fin 5) (r t : Nat) (d : List Byte) (s : Rc8) : (bar2Publish c r t d s).clk = s.clk := by first | rfl
@[simp] theorem bar2Publish_svpReady (c : Fin 5) (r t : Nat) (d : List Byte) (s : Rc8) : (bar2Publish c r t d s).svpReady = s.svpReady := by first | rfl
@[simp] theorem bar2Publish_hp (c : Fin 5) (r t : Nat) (d : List Byte) (s : Rc8) : (bar2Publish c r t d s).hp = s.hp := by first | rfl
@[simp] theorem bar2Publish_execs (c : Fin 5) (r t : Nat) (d : List Byte) (s : Rc8) : (bar2Publish c r t d s).execs = s.execs := by first | rfl
@[simp] theorem bar2Publish_nextExec (c : Fin 5) (r t : Nat) (d : List Byte) (s : Rc8) : (bar2Publish c r t d s).nextExec = s.nextExec := by first | rfl
@[simp] theorem bar2Publish_arrivals (c : Fin 5) (r t : Nat) (d : List Byte) (s : Rc8) : (bar2Publish c r t d s).arrivals = s.arrivals := by first | rfl
@[simp] theorem bar2Publish_limits (c : Fin 5) (r t : Nat) (d : List Byte) (s : Rc8) : (bar2Publish c r t d s).limits = s.limits := by first | rfl
@[simp] theorem bar2Publish_out (c : Fin 5) (r t : Nat) (d : List Byte) (s : Rc8) : (bar2Publish c r t d s).out = s.out := by first | rfl
@[simp] theorem bar2Publish_rcd (c : Fin 5) (r t : Nat) (d : List Byte) (s : Rc8) : (bar2Publish c r t d s).rcd = s.rcd := by first | rfl
@[simp] theorem bar2Publish_rnd (c : Fin 5) (r t : Nat) (d : List Byte) (s : Rc8) : (bar2Publish c r t d s).rnd = s.rnd := by first | rfl
@[simp] theorem bar2Publish_net (c : Fin 5) (r t : Nat) (d : List Byte) (s : Rc8) : (bar2Publish c r t d s).net = s.net := by first | rfl
@[simp] theorem bar2Publish_sch (c : Fin 5) (r t : Nat) (d : List Byte) (s : Rc8) : (bar2Publish c r t d s).sch = s.sch := by first | rfl
@[simp] theorem bar2Publish_eng (c : Fin 5) (r t : Nat) (d : List Byte) (s : Rc8) : (bar2Publish c r t d s).eng = s.eng := by first | rfl
@[simp] theorem bar2Publish_learn (c : Fin 5) (r t : Nat) (d : List Byte) (s : Rc8) : (bar2Publish c r t d s).learn = s.learn := by first | rfl
@[simp] theorem bar2Publish_tablesRestored (c : Fin 5) (r t : Nat) (d : List Byte) (s : Rc8) : (bar2Publish c r t d s).tablesRestored = s.tablesRestored := by first | rfl
@[simp] theorem bar2Publish_run (c : Fin 5) (r t : Nat) (d : List Byte) (s : Rc8) : (bar2Publish c r t d s).run = s.run := by first | rfl
@[simp] theorem bar2Publish_chg (c : Fin 5) (r t : Nat) (d : List Byte) (s : Rc8) : (bar2Publish c r t d s).chg = s.chg := by first | rfl
@[simp] theorem bar2Publish_pair (c : Fin 5) (r t : Nat) (d : List Byte) (s : Rc8) : (bar2Publish c r t d s).pair = s.pair := by first | rfl
@[simp] theorem bar2Publish_saf (c : Fin 5) (r t : Nat) (d : List Byte) (s : Rc8) : (bar2Publish c r t d s).saf = s.saf := by first | rfl
@[simp] theorem bar2Publish_itg (c : Fin 5) (r t : Nat) (d : List Byte) (s : Rc8) : (bar2Publish c r t d s).itg = s.itg := by first | rfl
@[simp] theorem bar2Publish_tim (c : Fin 5) (r t : Nat) (d : List Byte) (s : Rc8) : (bar2Publish c r t d s).tim = s.tim := by first | rfl
@[simp] theorem bar2Publish_eth (c : Fin 5) (r t : Nat) (d : List Byte) (s : Rc8) : (bar2Publish c r t d s).eth = s.eth := by first | rfl
@[simp] theorem bar2Publish_peers (c : Fin 5) (r t : Nat) (d : List Byte) (s : Rc8) : (bar2Publish c r t d s).peers = s.peers := by first | rfl
@[simp] theorem bar2Publish_can (c : Fin 5) (r t : Nat) (d : List Byte) (s : Rc8) : (bar2Publish c r t d s).can = s.can := by first | rfl
@[simp] theorem bar2Publish_ffe (c : Fin 5) (r t : Nat) (d : List Byte) (s : Rc8) : (bar2Publish c r t d s).ffe = s.ffe := by first | rfl
@[simp] theorem bar2Publish_pwr (c : Fin 5) (r t : Nat) (d : List Byte) (s : Rc8) : (bar2Publish c r t d s).pwr = s.pwr := by first | rfl
@[simp] theorem bar2Publish_restartAt (c : Fin 5) (r t : Nat) (d : List Byte) (s : Rc8) : (bar2Publish c r t d s).restartAt = s.restartAt := by first | rfl
@[simp] theorem bar2Publish_trialFrom (c : Fin 5) (r t : Nat) (d : List Byte) (s : Rc8) : (bar2Publish c r t d s).trialFrom = s.trialFrom := by first | rfl
@[simp] theorem bar2Publish_expiryHandover (c : Fin 5) (r t : Nat) (d : List Byte) (s : Rc8) : (bar2Publish c r t d s).expiryHandover = s.expiryHandover := by first | rfl
@[simp] theorem bar2Publish_nv (c : Fin 5) (r t : Nat) (d : List Byte) (s : Rc8) : (bar2Publish c r t d s).nv = s.nv := by first | rfl

/-! ### logCompletion -/

@[simp] theorem logCompletion_ident (e : Exec) (x : Status) (s : Rc8) : (logCompletion e x s).ident = s.ident := by first | rfl
@[simp] theorem logCompletion_clk (e : Exec) (x : Status) (s : Rc8) : (logCompletion e x s).clk = s.clk := by first | rfl
@[simp] theorem logCompletion_svpReady (e : Exec) (x : Status) (s : Rc8) : (logCompletion e x s).svpReady = s.svpReady := by first | rfl
@[simp] theorem logCompletion_execs (e : Exec) (x : Status) (s : Rc8) : (logCompletion e x s).execs = s.execs := by first | rfl
@[simp] theorem logCompletion_nextExec (e : Exec) (x : Status) (s : Rc8) : (logCompletion e x s).nextExec = s.nextExec := by first | rfl
@[simp] theorem logCompletion_arrivals (e : Exec) (x : Status) (s : Rc8) : (logCompletion e x s).arrivals = s.arrivals := by first | rfl
@[simp] theorem logCompletion_limits (e : Exec) (x : Status) (s : Rc8) : (logCompletion e x s).limits = s.limits := by first | rfl
@[simp] theorem logCompletion_bar2 (e : Exec) (x : Status) (s : Rc8) : (logCompletion e x s).bar2 = s.bar2 := by first | rfl
@[simp] theorem logCompletion_out (e : Exec) (x : Status) (s : Rc8) : (logCompletion e x s).out = s.out := by first | rfl
@[simp] theorem logCompletion_rcd (e : Exec) (x : Status) (s : Rc8) : (logCompletion e x s).rcd = s.rcd := by first | rfl
@[simp] theorem logCompletion_rnd (e : Exec) (x : Status) (s : Rc8) : (logCompletion e x s).rnd = s.rnd := by first | rfl
@[simp] theorem logCompletion_net (e : Exec) (x : Status) (s : Rc8) : (logCompletion e x s).net = s.net := by first | rfl
@[simp] theorem logCompletion_sch (e : Exec) (x : Status) (s : Rc8) : (logCompletion e x s).sch = s.sch := by first | rfl
@[simp] theorem logCompletion_eng (e : Exec) (x : Status) (s : Rc8) : (logCompletion e x s).eng = s.eng := by first | rfl
@[simp] theorem logCompletion_learn (e : Exec) (x : Status) (s : Rc8) : (logCompletion e x s).learn = s.learn := by first | rfl
@[simp] theorem logCompletion_tablesRestored (e : Exec) (x : Status) (s : Rc8) : (logCompletion e x s).tablesRestored = s.tablesRestored := by first | rfl
@[simp] theorem logCompletion_run (e : Exec) (x : Status) (s : Rc8) : (logCompletion e x s).run = s.run := by first | rfl
@[simp] theorem logCompletion_chg (e : Exec) (x : Status) (s : Rc8) : (logCompletion e x s).chg = s.chg := by first | rfl
@[simp] theorem logCompletion_pair (e : Exec) (x : Status) (s : Rc8) : (logCompletion e x s).pair = s.pair := by first | rfl
@[simp] theorem logCompletion_saf (e : Exec) (x : Status) (s : Rc8) : (logCompletion e x s).saf = s.saf := by first | rfl
@[simp] theorem logCompletion_itg (e : Exec) (x : Status) (s : Rc8) : (logCompletion e x s).itg = s.itg := by first | rfl
@[simp] theorem logCompletion_tim (e : Exec) (x : Status) (s : Rc8) : (logCompletion e x s).tim = s.tim := by first | rfl
@[simp] theorem logCompletion_eth (e : Exec) (x : Status) (s : Rc8) : (logCompletion e x s).eth = s.eth := by first | rfl
@[simp] theorem logCompletion_peers (e : Exec) (x : Status) (s : Rc8) : (logCompletion e x s).peers = s.peers := by first | rfl
@[simp] theorem logCompletion_can (e : Exec) (x : Status) (s : Rc8) : (logCompletion e x s).can = s.can := by first | rfl
@[simp] theorem logCompletion_ffe (e : Exec) (x : Status) (s : Rc8) : (logCompletion e x s).ffe = s.ffe := by first | rfl
@[simp] theorem logCompletion_pwr (e : Exec) (x : Status) (s : Rc8) : (logCompletion e x s).pwr = s.pwr := by first | rfl
@[simp] theorem logCompletion_restartAt (e : Exec) (x : Status) (s : Rc8) : (logCompletion e x s).restartAt = s.restartAt := by first | rfl
@[simp] theorem logCompletion_trialFrom (e : Exec) (x : Status) (s : Rc8) : (logCompletion e x s).trialFrom = s.trialFrom := by first | rfl
@[simp] theorem logCompletion_expiryHandover (e : Exec) (x : Status) (s : Rc8) : (logCompletion e x s).expiryHandover = s.expiryHandover := by first | rfl
@[simp] theorem logCompletion_nv (e : Exec) (x : Status) (s : Rc8) : (logCompletion e x s).nv = s.nv := by first | rfl

/-! ### plkSend -/

@[simp] theorem plkSend_ident (k g : Nat) (b : PlkBody) (s : Rc8) : (plkSend k g b s).ident = s.ident := by
  rw [plkSend_frame]
@[simp] theorem plkSend_clk (k g : Nat) (b : PlkBody) (s : Rc8) : (plkSend k g b s).clk = s.clk := by
  rw [plkSend_frame]
@[simp] theorem plkSend_svpReady (k g : Nat) (b : PlkBody) (s : Rc8) : (plkSend k g b s).svpReady = s.svpReady := by
  rw [plkSend_frame]
@[simp] theorem plkSend_hp (k g : Nat) (b : PlkBody) (s : Rc8) : (plkSend k g b s).hp = s.hp := by
  rw [plkSend_frame]
@[simp] theorem plkSend_execs (k g : Nat) (b : PlkBody) (s : Rc8) : (plkSend k g b s).execs = s.execs := by
  rw [plkSend_frame]
@[simp] theorem plkSend_nextExec (k g : Nat) (b : PlkBody) (s : Rc8) : (plkSend k g b s).nextExec = s.nextExec := by
  rw [plkSend_frame]
@[simp] theorem plkSend_arrivals (k g : Nat) (b : PlkBody) (s : Rc8) : (plkSend k g b s).arrivals = s.arrivals := by
  rw [plkSend_frame]
@[simp] theorem plkSend_limits (k g : Nat) (b : PlkBody) (s : Rc8) : (plkSend k g b s).limits = s.limits := by
  rw [plkSend_frame]
@[simp] theorem plkSend_bar2 (k g : Nat) (b : PlkBody) (s : Rc8) : (plkSend k g b s).bar2 = s.bar2 := by
  rw [plkSend_frame]
@[simp] theorem plkSend_rcd (k g : Nat) (b : PlkBody) (s : Rc8) : (plkSend k g b s).rcd = s.rcd := by
  rw [plkSend_frame]
@[simp] theorem plkSend_rnd (k g : Nat) (b : PlkBody) (s : Rc8) : (plkSend k g b s).rnd = s.rnd := by
  rw [plkSend_frame]
@[simp] theorem plkSend_net (k g : Nat) (b : PlkBody) (s : Rc8) : (plkSend k g b s).net = s.net := by
  rw [plkSend_frame]
@[simp] theorem plkSend_sch (k g : Nat) (b : PlkBody) (s : Rc8) : (plkSend k g b s).sch = s.sch := by
  rw [plkSend_frame]
@[simp] theorem plkSend_eng (k g : Nat) (b : PlkBody) (s : Rc8) : (plkSend k g b s).eng = s.eng := by
  rw [plkSend_frame]
@[simp] theorem plkSend_learn (k g : Nat) (b : PlkBody) (s : Rc8) : (plkSend k g b s).learn = s.learn := by
  rw [plkSend_frame]
@[simp] theorem plkSend_tablesRestored (k g : Nat) (b : PlkBody) (s : Rc8) : (plkSend k g b s).tablesRestored = s.tablesRestored := by
  rw [plkSend_frame]
@[simp] theorem plkSend_run (k g : Nat) (b : PlkBody) (s : Rc8) : (plkSend k g b s).run = s.run := by
  rw [plkSend_frame]
@[simp] theorem plkSend_chg (k g : Nat) (b : PlkBody) (s : Rc8) : (plkSend k g b s).chg = s.chg := by
  rw [plkSend_frame]
@[simp] theorem plkSend_saf (k g : Nat) (b : PlkBody) (s : Rc8) : (plkSend k g b s).saf = s.saf := by
  rw [plkSend_frame]
@[simp] theorem plkSend_itg (k g : Nat) (b : PlkBody) (s : Rc8) : (plkSend k g b s).itg = s.itg := by
  rw [plkSend_frame]
@[simp] theorem plkSend_tim (k g : Nat) (b : PlkBody) (s : Rc8) : (plkSend k g b s).tim = s.tim := by
  rw [plkSend_frame]
@[simp] theorem plkSend_eth (k g : Nat) (b : PlkBody) (s : Rc8) : (plkSend k g b s).eth = s.eth := by
  rw [plkSend_frame]
@[simp] theorem plkSend_peers (k g : Nat) (b : PlkBody) (s : Rc8) : (plkSend k g b s).peers = s.peers := by
  rw [plkSend_frame]
@[simp] theorem plkSend_can (k g : Nat) (b : PlkBody) (s : Rc8) : (plkSend k g b s).can = s.can := by
  rw [plkSend_frame]
@[simp] theorem plkSend_ffe (k g : Nat) (b : PlkBody) (s : Rc8) : (plkSend k g b s).ffe = s.ffe := by
  rw [plkSend_frame]
@[simp] theorem plkSend_pwr (k g : Nat) (b : PlkBody) (s : Rc8) : (plkSend k g b s).pwr = s.pwr := by
  rw [plkSend_frame]
@[simp] theorem plkSend_restartAt (k g : Nat) (b : PlkBody) (s : Rc8) : (plkSend k g b s).restartAt = s.restartAt := by
  rw [plkSend_frame]
@[simp] theorem plkSend_trialFrom (k g : Nat) (b : PlkBody) (s : Rc8) : (plkSend k g b s).trialFrom = s.trialFrom := by
  rw [plkSend_frame]
@[simp] theorem plkSend_expiryHandover (k g : Nat) (b : PlkBody) (s : Rc8) : (plkSend k g b s).expiryHandover = s.expiryHandover := by
  rw [plkSend_frame]
@[simp] theorem plkSend_nv (k g : Nat) (b : PlkBody) (s : Rc8) : (plkSend k g b s).nv = s.nv := by
  rw [plkSend_frame]

/-! ### serviceResult -/

@[simp] theorem serviceResult_ident (t : Fin 8) (l : List Byte) (s : Rc8) : (serviceResult t l s).ident = s.ident := by
  unfold serviceResult; dsimp only; split
  · rw [plkSend_ident]
  · rfl
@[simp] theorem serviceResult_clk (t : Fin 8) (l : List Byte) (s : Rc8) : (serviceResult t l s).clk = s.clk := by
  unfold serviceResult; dsimp only; split
  · rw [plkSend_clk]
  · rfl
@[simp] theorem serviceResult_svpReady (t : Fin 8) (l : List Byte) (s : Rc8) : (serviceResult t l s).svpReady = s.svpReady := by
  unfold serviceResult; dsimp only; split
  · rw [plkSend_svpReady]
  · rfl
@[simp] theorem serviceResult_hp (t : Fin 8) (l : List Byte) (s : Rc8) : (serviceResult t l s).hp = s.hp := by
  unfold serviceResult; dsimp only; split
  · rw [plkSend_hp]
  · rfl
@[simp] theorem serviceResult_execs (t : Fin 8) (l : List Byte) (s : Rc8) : (serviceResult t l s).execs = s.execs := by
  unfold serviceResult; dsimp only; split
  · rw [plkSend_execs]
  · rfl
@[simp] theorem serviceResult_nextExec (t : Fin 8) (l : List Byte) (s : Rc8) : (serviceResult t l s).nextExec = s.nextExec := by
  unfold serviceResult; dsimp only; split
  · rw [plkSend_nextExec]
  · rfl
@[simp] theorem serviceResult_arrivals (t : Fin 8) (l : List Byte) (s : Rc8) : (serviceResult t l s).arrivals = s.arrivals := by
  unfold serviceResult; dsimp only; split
  · rw [plkSend_arrivals]
  · rfl
@[simp] theorem serviceResult_limits (t : Fin 8) (l : List Byte) (s : Rc8) : (serviceResult t l s).limits = s.limits := by
  unfold serviceResult; dsimp only; split
  · rw [plkSend_limits]
  · rfl
@[simp] theorem serviceResult_bar2 (t : Fin 8) (l : List Byte) (s : Rc8) : (serviceResult t l s).bar2 = s.bar2 := by
  unfold serviceResult; dsimp only; split
  · rw [plkSend_bar2]
  · rfl
@[simp] theorem serviceResult_rcd (t : Fin 8) (l : List Byte) (s : Rc8) : (serviceResult t l s).rcd = s.rcd := by
  unfold serviceResult; dsimp only; split
  · rw [plkSend_rcd]
  · rfl
@[simp] theorem serviceResult_rnd (t : Fin 8) (l : List Byte) (s : Rc8) : (serviceResult t l s).rnd = s.rnd := by
  unfold serviceResult; dsimp only; split
  · rw [plkSend_rnd]
  · rfl
@[simp] theorem serviceResult_net (t : Fin 8) (l : List Byte) (s : Rc8) : (serviceResult t l s).net = s.net := by
  unfold serviceResult; dsimp only; split
  · rw [plkSend_net]
  · rfl
@[simp] theorem serviceResult_sch (t : Fin 8) (l : List Byte) (s : Rc8) : (serviceResult t l s).sch = s.sch := by
  unfold serviceResult; dsimp only; split
  · rw [plkSend_sch]
  · rfl
@[simp] theorem serviceResult_eng (t : Fin 8) (l : List Byte) (s : Rc8) : (serviceResult t l s).eng = s.eng := by
  unfold serviceResult; dsimp only; split
  · rw [plkSend_eng]
  · rfl
@[simp] theorem serviceResult_learn (t : Fin 8) (l : List Byte) (s : Rc8) : (serviceResult t l s).learn = s.learn := by
  unfold serviceResult; dsimp only; split
  · rw [plkSend_learn]
  · rfl
@[simp] theorem serviceResult_tablesRestored (t : Fin 8) (l : List Byte) (s : Rc8) : (serviceResult t l s).tablesRestored = s.tablesRestored := by
  unfold serviceResult; dsimp only; split
  · rw [plkSend_tablesRestored]
  · rfl
@[simp] theorem serviceResult_chg (t : Fin 8) (l : List Byte) (s : Rc8) : (serviceResult t l s).chg = s.chg := by
  unfold serviceResult; dsimp only; split
  · rw [plkSend_chg]
  · rfl
@[simp] theorem serviceResult_saf (t : Fin 8) (l : List Byte) (s : Rc8) : (serviceResult t l s).saf = s.saf := by
  unfold serviceResult; dsimp only; split
  · rw [plkSend_saf]
  · rfl
@[simp] theorem serviceResult_itg (t : Fin 8) (l : List Byte) (s : Rc8) : (serviceResult t l s).itg = s.itg := by
  unfold serviceResult; dsimp only; split
  · rw [plkSend_itg]
  · rfl
@[simp] theorem serviceResult_tim (t : Fin 8) (l : List Byte) (s : Rc8) : (serviceResult t l s).tim = s.tim := by
  unfold serviceResult; dsimp only; split
  · rw [plkSend_tim]
  · rfl
@[simp] theorem serviceResult_eth (t : Fin 8) (l : List Byte) (s : Rc8) : (serviceResult t l s).eth = s.eth := by
  unfold serviceResult; dsimp only; split
  · rw [plkSend_eth]
  · rfl
@[simp] theorem serviceResult_peers (t : Fin 8) (l : List Byte) (s : Rc8) : (serviceResult t l s).peers = s.peers := by
  unfold serviceResult; dsimp only; split
  · rw [plkSend_peers]
  · rfl
@[simp] theorem serviceResult_can (t : Fin 8) (l : List Byte) (s : Rc8) : (serviceResult t l s).can = s.can := by
  unfold serviceResult; dsimp only; split
  · rw [plkSend_can]
  · rfl
@[simp] theorem serviceResult_ffe (t : Fin 8) (l : List Byte) (s : Rc8) : (serviceResult t l s).ffe = s.ffe := by
  unfold serviceResult; dsimp only; split
  · rw [plkSend_ffe]
  · rfl
@[simp] theorem serviceResult_pwr (t : Fin 8) (l : List Byte) (s : Rc8) : (serviceResult t l s).pwr = s.pwr := by
  unfold serviceResult; dsimp only; split
  · rw [plkSend_pwr]
  · rfl
@[simp] theorem serviceResult_restartAt (t : Fin 8) (l : List Byte) (s : Rc8) : (serviceResult t l s).restartAt = s.restartAt := by
  unfold serviceResult; dsimp only; split
  · rw [plkSend_restartAt]
  · rfl
@[simp] theorem serviceResult_trialFrom (t : Fin 8) (l : List Byte) (s : Rc8) : (serviceResult t l s).trialFrom = s.trialFrom := by
  unfold serviceResult; dsimp only; split
  · rw [plkSend_trialFrom]
  · rfl
@[simp] theorem serviceResult_expiryHandover (t : Fin 8) (l : List Byte) (s : Rc8) : (serviceResult t l s).expiryHandover = s.expiryHandover := by
  unfold serviceResult; dsimp only; split
  · rw [plkSend_expiryHandover]
  · rfl
@[simp] theorem serviceResult_nv (t : Fin 8) (l : List Byte) (s : Rc8) : (serviceResult t l s).nv = s.nv := by
  unfold serviceResult; dsimp only; split
  · rw [plkSend_nv]
  · rfl

/-! ### deliver -/

@[simp] theorem deliver_ident (e : Exec) (x : Status) (l : List Byte) (s : Rc8) : (deliver e x l s).ident = s.ident := by
  unfold deliver; split
  · simp
  · split
    · dsimp only; split <;> simp
    · split <;> simp
@[simp] theorem deliver_clk (e : Exec) (x : Status) (l : List Byte) (s : Rc8) : (deliver e x l s).clk = s.clk := by
  unfold deliver; split
  · simp
  · split
    · dsimp only; split <;> simp
    · split <;> simp
@[simp] theorem deliver_svpReady (e : Exec) (x : Status) (l : List Byte) (s : Rc8) : (deliver e x l s).svpReady = s.svpReady := by
  unfold deliver; split
  · simp
  · split
    · dsimp only; split <;> simp
    · split <;> simp
@[simp] theorem deliver_execs (e : Exec) (x : Status) (l : List Byte) (s : Rc8) : (deliver e x l s).execs = s.execs := by
  unfold deliver; split
  · simp
  · split
    · dsimp only; split <;> simp
    · split <;> simp
@[simp] theorem deliver_nextExec (e : Exec) (x : Status) (l : List Byte) (s : Rc8) : (deliver e x l s).nextExec = s.nextExec := by
  unfold deliver; split
  · simp
  · split
    · dsimp only; split <;> simp
    · split <;> simp
@[simp] theorem deliver_arrivals (e : Exec) (x : Status) (l : List Byte) (s : Rc8) : (deliver e x l s).arrivals = s.arrivals := by
  unfold deliver; split
  · simp
  · split
    · dsimp only; split <;> simp
    · split <;> simp
@[simp] theorem deliver_limits (e : Exec) (x : Status) (l : List Byte) (s : Rc8) : (deliver e x l s).limits = s.limits := by
  unfold deliver; split
  · simp
  · split
    · dsimp only; split <;> simp
    · split <;> simp
@[simp] theorem deliver_bar2 (e : Exec) (x : Status) (l : List Byte) (s : Rc8) : (deliver e x l s).bar2 = s.bar2 := by
  unfold deliver; split
  · simp
  · split
    · dsimp only; split <;> simp
    · split <;> simp
@[simp] theorem deliver_rcd (e : Exec) (x : Status) (l : List Byte) (s : Rc8) : (deliver e x l s).rcd = s.rcd := by
  unfold deliver; split
  · simp
  · split
    · dsimp only; split <;> simp
    · split <;> simp
@[simp] theorem deliver_rnd (e : Exec) (x : Status) (l : List Byte) (s : Rc8) : (deliver e x l s).rnd = s.rnd := by
  unfold deliver; split
  · simp
  · split
    · dsimp only; split <;> simp
    · split <;> simp
@[simp] theorem deliver_net (e : Exec) (x : Status) (l : List Byte) (s : Rc8) : (deliver e x l s).net = s.net := by
  unfold deliver; split
  · simp
  · split
    · dsimp only; split <;> simp
    · split <;> simp
@[simp] theorem deliver_sch (e : Exec) (x : Status) (l : List Byte) (s : Rc8) : (deliver e x l s).sch = s.sch := by
  unfold deliver; split
  · simp
  · split
    · dsimp only; split <;> simp
    · split <;> simp
@[simp] theorem deliver_eng (e : Exec) (x : Status) (l : List Byte) (s : Rc8) : (deliver e x l s).eng = s.eng := by
  unfold deliver; split
  · simp
  · split
    · dsimp only; split <;> simp
    · split <;> simp
@[simp] theorem deliver_learn (e : Exec) (x : Status) (l : List Byte) (s : Rc8) : (deliver e x l s).learn = s.learn := by
  unfold deliver; split
  · simp
  · split
    · dsimp only; split <;> simp
    · split <;> simp
@[simp] theorem deliver_tablesRestored (e : Exec) (x : Status) (l : List Byte) (s : Rc8) : (deliver e x l s).tablesRestored = s.tablesRestored := by
  unfold deliver; split
  · simp
  · split
    · dsimp only; split <;> simp
    · split <;> simp
@[simp] theorem deliver_chg (e : Exec) (x : Status) (l : List Byte) (s : Rc8) : (deliver e x l s).chg = s.chg := by
  unfold deliver; split
  · simp
  · split
    · dsimp only; split <;> simp
    · split <;> simp
@[simp] theorem deliver_saf (e : Exec) (x : Status) (l : List Byte) (s : Rc8) : (deliver e x l s).saf = s.saf := by
  unfold deliver; split
  · simp
  · split
    · dsimp only; split <;> simp
    · split <;> simp
@[simp] theorem deliver_itg (e : Exec) (x : Status) (l : List Byte) (s : Rc8) : (deliver e x l s).itg = s.itg := by
  unfold deliver; split
  · simp
  · split
    · dsimp only; split <;> simp
    · split <;> simp
@[simp] theorem deliver_tim (e : Exec) (x : Status) (l : List Byte) (s : Rc8) : (deliver e x l s).tim = s.tim := by
  unfold deliver; split
  · simp
  · split
    · dsimp only; split <;> simp
    · split <;> simp
@[simp] theorem deliver_eth (e : Exec) (x : Status) (l : List Byte) (s : Rc8) : (deliver e x l s).eth = s.eth := by
  unfold deliver; split
  · simp
  · split
    · dsimp only; split <;> simp
    · split <;> simp
@[simp] theorem deliver_peers (e : Exec) (x : Status) (l : List Byte) (s : Rc8) : (deliver e x l s).peers = s.peers := by
  unfold deliver; split
  · simp
  · split
    · dsimp only; split <;> simp
    · split <;> simp
@[simp] theorem deliver_can (e : Exec) (x : Status) (l : List Byte) (s : Rc8) : (deliver e x l s).can = s.can := by
  unfold deliver; split
  · simp
  · split
    · dsimp only; split <;> simp
    · split <;> simp
@[simp] theorem deliver_ffe (e : Exec) (x : Status) (l : List Byte) (s : Rc8) : (deliver e x l s).ffe = s.ffe := by
  unfold deliver; split
  · simp
  · split
    · dsimp only; split <;> simp
    · split <;> simp
@[simp] theorem deliver_pwr (e : Exec) (x : Status) (l : List Byte) (s : Rc8) : (deliver e x l s).pwr = s.pwr := by
  unfold deliver; split
  · simp
  · split
    · dsimp only; split <;> simp
    · split <;> simp
@[simp] theorem deliver_restartAt (e : Exec) (x : Status) (l : List Byte) (s : Rc8) : (deliver e x l s).restartAt = s.restartAt := by
  unfold deliver; split
  · simp
  · split
    · dsimp only; split <;> simp
    · split <;> simp
@[simp] theorem deliver_trialFrom (e : Exec) (x : Status) (l : List Byte) (s : Rc8) : (deliver e x l s).trialFrom = s.trialFrom := by
  unfold deliver; split
  · simp
  · split
    · dsimp only; split <;> simp
    · split <;> simp
@[simp] theorem deliver_expiryHandover (e : Exec) (x : Status) (l : List Byte) (s : Rc8) : (deliver e x l s).expiryHandover = s.expiryHandover := by
  unfold deliver; split
  · simp
  · split
    · dsimp only; split <;> simp
    · split <;> simp
@[simp] theorem deliver_nv (e : Exec) (x : Status) (l : List Byte) (s : Rc8) : (deliver e x l s).nv = s.nv := by
  unfold deliver; split
  · simp
  · split
    · dsimp only; split <;> simp
    · split <;> simp

/-! ### endSession -/

@[simp] theorem endSession_ident (p : Fin 4) (c : Nat) (s : Rc8) : (endSession p c s).ident = s.ident := by
  unfold endSession; split <;> rfl
@[simp] theorem endSession_clk (p : Fin 4) (c : Nat) (s : Rc8) : (endSession p c s).clk = s.clk := by
  unfold endSession; split <;> rfl
@[simp] theorem endSession_svpReady (p : Fin 4) (c : Nat) (s : Rc8) : (endSession p c s).svpReady = s.svpReady := by
  unfold endSession; split <;> rfl
@[simp] theorem endSession_execs (p : Fin 4) (c : Nat) (s : Rc8) : (endSession p c s).execs = s.execs := by
  unfold endSession; split <;> rfl
@[simp] theorem endSession_nextExec (p : Fin 4) (c : Nat) (s : Rc8) : (endSession p c s).nextExec = s.nextExec := by
  unfold endSession; split <;> rfl
@[simp] theorem endSession_arrivals (p : Fin 4) (c : Nat) (s : Rc8) : (endSession p c s).arrivals = s.arrivals := by
  unfold endSession; split <;> rfl
@[simp] theorem endSession_limits (p : Fin 4) (c : Nat) (s : Rc8) : (endSession p c s).limits = s.limits := by
  unfold endSession; split <;> rfl
@[simp] theorem endSession_bar2 (p : Fin 4) (c : Nat) (s : Rc8) : (endSession p c s).bar2 = s.bar2 := by
  unfold endSession; split <;> rfl
@[simp] theorem endSession_rnd (p : Fin 4) (c : Nat) (s : Rc8) : (endSession p c s).rnd = s.rnd := by
  unfold endSession; split <;> rfl
@[simp] theorem endSession_net (p : Fin 4) (c : Nat) (s : Rc8) : (endSession p c s).net = s.net := by
  unfold endSession; split <;> rfl
@[simp] theorem endSession_sch (p : Fin 4) (c : Nat) (s : Rc8) : (endSession p c s).sch = s.sch := by
  unfold endSession; split <;> rfl
@[simp] theorem endSession_eng (p : Fin 4) (c : Nat) (s : Rc8) : (endSession p c s).eng = s.eng := by
  unfold endSession; split <;> rfl
@[simp] theorem endSession_learn (p : Fin 4) (c : Nat) (s : Rc8) : (endSession p c s).learn = s.learn := by
  unfold endSession; split <;> rfl
@[simp] theorem endSession_tablesRestored (p : Fin 4) (c : Nat) (s : Rc8) : (endSession p c s).tablesRestored = s.tablesRestored := by
  unfold endSession; split <;> rfl
@[simp] theorem endSession_run (p : Fin 4) (c : Nat) (s : Rc8) : (endSession p c s).run = s.run := by
  unfold endSession; split <;> rfl
@[simp] theorem endSession_chg (p : Fin 4) (c : Nat) (s : Rc8) : (endSession p c s).chg = s.chg := by
  unfold endSession; split <;> rfl
@[simp] theorem endSession_pair (p : Fin 4) (c : Nat) (s : Rc8) : (endSession p c s).pair = s.pair := by
  unfold endSession; split <;> rfl
@[simp] theorem endSession_itg (p : Fin 4) (c : Nat) (s : Rc8) : (endSession p c s).itg = s.itg := by
  unfold endSession; split <;> rfl
@[simp] theorem endSession_tim (p : Fin 4) (c : Nat) (s : Rc8) : (endSession p c s).tim = s.tim := by
  unfold endSession; split <;> rfl
@[simp] theorem endSession_eth (p : Fin 4) (c : Nat) (s : Rc8) : (endSession p c s).eth = s.eth := by
  unfold endSession; split <;> rfl
@[simp] theorem endSession_peers (p : Fin 4) (c : Nat) (s : Rc8) : (endSession p c s).peers = s.peers := by
  unfold endSession; split <;> rfl
@[simp] theorem endSession_can (p : Fin 4) (c : Nat) (s : Rc8) : (endSession p c s).can = s.can := by
  unfold endSession; split <;> rfl
@[simp] theorem endSession_ffe (p : Fin 4) (c : Nat) (s : Rc8) : (endSession p c s).ffe = s.ffe := by
  unfold endSession; split <;> rfl
@[simp] theorem endSession_pwr (p : Fin 4) (c : Nat) (s : Rc8) : (endSession p c s).pwr = s.pwr := by
  unfold endSession; split <;> rfl
@[simp] theorem endSession_restartAt (p : Fin 4) (c : Nat) (s : Rc8) : (endSession p c s).restartAt = s.restartAt := by
  unfold endSession; split <;> rfl
@[simp] theorem endSession_trialFrom (p : Fin 4) (c : Nat) (s : Rc8) : (endSession p c s).trialFrom = s.trialFrom := by
  unfold endSession; split <;> rfl
@[simp] theorem endSession_expiryHandover (p : Fin 4) (c : Nat) (s : Rc8) : (endSession p c s).expiryHandover = s.expiryHandover := by
  unfold endSession; split <;> rfl

/-! ### touchSession -/

@[simp] theorem touchSession_ident (p : Fin 4) (s : Rc8) : (touchSession p s).ident = s.ident := by first | rfl
@[simp] theorem touchSession_clk (p : Fin 4) (s : Rc8) : (touchSession p s).clk = s.clk := by first | rfl
@[simp] theorem touchSession_svpReady (p : Fin 4) (s : Rc8) : (touchSession p s).svpReady = s.svpReady := by first | rfl
@[simp] theorem touchSession_hp (p : Fin 4) (s : Rc8) : (touchSession p s).hp = s.hp := by first | rfl
@[simp] theorem touchSession_execs (p : Fin 4) (s : Rc8) : (touchSession p s).execs = s.execs := by first | rfl
@[simp] theorem touchSession_nextExec (p : Fin 4) (s : Rc8) : (touchSession p s).nextExec = s.nextExec := by first | rfl
@[simp] theorem touchSession_arrivals (p : Fin 4) (s : Rc8) : (touchSession p s).arrivals = s.arrivals := by first | rfl
@[simp] theorem touchSession_limits (p : Fin 4) (s : Rc8) : (touchSession p s).limits = s.limits := by first | rfl
@[simp] theorem touchSession_bar2 (p : Fin 4) (s : Rc8) : (touchSession p s).bar2 = s.bar2 := by first | rfl
@[simp] theorem touchSession_out (p : Fin 4) (s : Rc8) : (touchSession p s).out = s.out := by first | rfl
@[simp] theorem touchSession_rcd (p : Fin 4) (s : Rc8) : (touchSession p s).rcd = s.rcd := by first | rfl
@[simp] theorem touchSession_rnd (p : Fin 4) (s : Rc8) : (touchSession p s).rnd = s.rnd := by first | rfl
@[simp] theorem touchSession_net (p : Fin 4) (s : Rc8) : (touchSession p s).net = s.net := by first | rfl
@[simp] theorem touchSession_sch (p : Fin 4) (s : Rc8) : (touchSession p s).sch = s.sch := by first | rfl
@[simp] theorem touchSession_eng (p : Fin 4) (s : Rc8) : (touchSession p s).eng = s.eng := by first | rfl
@[simp] theorem touchSession_learn (p : Fin 4) (s : Rc8) : (touchSession p s).learn = s.learn := by first | rfl
@[simp] theorem touchSession_tablesRestored (p : Fin 4) (s : Rc8) : (touchSession p s).tablesRestored = s.tablesRestored := by first | rfl
@[simp] theorem touchSession_run (p : Fin 4) (s : Rc8) : (touchSession p s).run = s.run := by first | rfl
@[simp] theorem touchSession_chg (p : Fin 4) (s : Rc8) : (touchSession p s).chg = s.chg := by first | rfl
@[simp] theorem touchSession_pair (p : Fin 4) (s : Rc8) : (touchSession p s).pair = s.pair := by first | rfl
@[simp] theorem touchSession_itg (p : Fin 4) (s : Rc8) : (touchSession p s).itg = s.itg := by first | rfl
@[simp] theorem touchSession_tim (p : Fin 4) (s : Rc8) : (touchSession p s).tim = s.tim := by first | rfl
@[simp] theorem touchSession_eth (p : Fin 4) (s : Rc8) : (touchSession p s).eth = s.eth := by first | rfl
@[simp] theorem touchSession_peers (p : Fin 4) (s : Rc8) : (touchSession p s).peers = s.peers := by first | rfl
@[simp] theorem touchSession_can (p : Fin 4) (s : Rc8) : (touchSession p s).can = s.can := by first | rfl
@[simp] theorem touchSession_ffe (p : Fin 4) (s : Rc8) : (touchSession p s).ffe = s.ffe := by first | rfl
@[simp] theorem touchSession_pwr (p : Fin 4) (s : Rc8) : (touchSession p s).pwr = s.pwr := by first | rfl
@[simp] theorem touchSession_restartAt (p : Fin 4) (s : Rc8) : (touchSession p s).restartAt = s.restartAt := by first | rfl
@[simp] theorem touchSession_trialFrom (p : Fin 4) (s : Rc8) : (touchSession p s).trialFrom = s.trialFrom := by first | rfl
@[simp] theorem touchSession_expiryHandover (p : Fin 4) (s : Rc8) : (touchSession p s).expiryHandover = s.expiryHandover := by first | rfl
@[simp] theorem touchSession_nv (p : Fin 4) (s : Rc8) : (touchSession p s).nv = s.nv := by first | rfl

/-! ### What an event writes -/

/-- Sending a vector's message changes at most the pending bit of that vector. -/
theorem sendVector_frame (p v : Fin 4) (h : HostPort) :
    (sendVector p v h).1 = { h with msix := (sendVector p v h).1.msix } ∧
    (sendVector p v h).1.msix = h.msix.set v { h.msix[v] with pend := ((sendVector p v h).1.msix[v]).pend } := by
  unfold sendVector
  dsimp only
  split
  · refine ⟨rfl, ?_⟩
    simp [vmod]
  · refine ⟨rfl, ?_⟩
    apply Vector.ext
    intro i hi
    rw [Vector.getElem_set]
    split
    · rename_i h'
      subst h'
      rfl
    · rfl

/-- A ring's write changes what events may write at the port, and nothing else. -/
theorem ringWrite_frame (p : Fin 4) (c : Clock) (e : Ev) (q : Nat) (h : HostPort) :
    (ringWrite p c e q h).1 = h.withEvents (ringWrite p c e q h).1 := by
  have key : ∀ k : HostPort, k = h.withEvents k → (sendVector p 0 k).1 = h.withEvents (sendVector p 0 k).1 := by
    intro k hk
    obtain ⟨h1, h2⟩ := sendVector_frame p 0 k
    rw [h1, h2]
    generalize ((sendVector p 0 k).1.msix[(0 : Fin 4)]).pend = b
    rw [hk]
    simp [HostPort.withEvents]
  have kEq : ∀ q' : Evq, q' = { h.evq with head := q'.head, phase := q'.phase, seq := q'.seq, lost := q'.lost, lossCount := q'.lossCount, lossFirst := q'.lossFirst, lossLast := q'.lossLast, uninterrupted := q'.uninterrupted, oldest := q'.oldest } →
      ({ h with evq := q' } : HostPort) = h.withEvents { h with evq := q' } := by
    intro q' hq
    simp only [HostPort.withEvents]
    rw [← hq]
    have hs : h.msix.set 0 h.msix[0] = h.msix := by simp
    exact congrArg (fun v => ({ h with evq := q', msix := v } : HostPort)) hs.symm
  unfold ringWrite
  dsimp only
  split
  · exact key _ (kEq _ rfl)
  · exact kEq _ rfl

/-- Taking events twice is taking the later ones. -/
@[simp] theorem HostPort.withEvents_twice (h a b : HostPort) : (h.withEvents a).withEvents b = h.withEvents b := by
  simp [HostPort.withEvents]

/-- A port that takes its own events stays. -/
@[simp] theorem HostPort.withEvents_self (h : HostPort) : h.withEvents h = h := by
  have hs : h.msix.set 0 h.msix[0] = h.msix := by simp
  exact congrArg (fun v => ({ h with msix := v } : HostPort)) hs

/-- An event at a port writes what events may write, and nothing else. -/
theorem portTake_frame (p : Fin 4) (own frozen : Bool) (c : Clock) (e : Ev) (h : HostPort) :
    (portTake p own frozen c e h).1 = h.withEvents (portTake p own frozen c e h).1 := by
  have hs : h.msix.set 0 h.msix[0] = h.msix := by simp
  have trans : ∀ k : HostPort, k = h.withEvents k → ∀ x, x = k.withEvents x → x = h.withEvents x := by
    intro k hk x hx
    have hh : k.withEvents x = h.withEvents x := by rw [hk]; simp
    rw [← hh]; exact hx
  have base : ∀ q' : Evq, ∀ sv, q' = { h.evq with head := q'.head, phase := q'.phase, seq := q'.seq, lost := q'.lost, lossCount := q'.lossCount, lossFirst := q'.lossFirst, lossLast := q'.lossLast, uninterrupted := q'.uninterrupted, oldest := q'.oldest } →
      ({ h with highest := sv, evq := q' } : HostPort) = h.withEvents { h with highest := sv, evq := q' } := by
    intro q' sv hq
    simp only [HostPort.withEvents]
    rw [← hq]
    exact congrArg (fun v => ({ h with highest := sv, evq := q', msix := v } : HostPort)) hs.symm
  unfold portTake
  dsimp only
  split
  · unfold ringTake
    dsimp only
    split
    · exact base _ _ rfl
    · exact trans _ (base { h.evq with seq := (h.evq.seq + 1) % 2 ^ 32 } _ rfl) _ (ringWrite_frame _ _ _ _ _)
  · exact base _ _ rfl

/-- What an event leaves at each port. -/
theorem raise_hp_get (e : Ev) (s : Rc8) (k : Nat) (hk : k < 4) :
    ((raise e s).hp[k]) = (s.hp[k]).withEvents ((raise e s).hp[k]) := by
  have h : k = 0 ∨ k = 1 ∨ k = 2 ∨ k = 3 := by omega
  rcases h with rfl | rfl | rfl | rfl
  · exact portTake_frame 0 _ _ _ _ _
  · exact portTake_frame 1 _ _ _ _ _
  · exact portTake_frame 2 _ _ _ _ _
  · exact portTake_frame 3 _ _ _ _ _

/-- What an event of one port alone leaves at each port. -/
theorem raiseOwn_hp_get (p : Fin 4) (e : Ev) (s : Rc8) (k : Nat) (hk : k < 4) :
    ((raiseOwn p e s).hp[k]) = (s.hp[k]).withEvents ((raiseOwn p e s).hp[k]) := by
  unfold raiseOwn
  dsimp only
  rw [Vector.getElem_set]
  split
  · rename_i h'
    subst h'
    exact portTake_frame p _ _ _ _ _
  · simp

/-- What an event under a rate limit leaves at each port. -/
theorem raiseWindow_hp_get (w c : Nat) (pl : Option (Fin 3)) (e : Ev) (s : Rc8) (k : Nat) (hk : k < 4) :
    ((raiseWindow w c pl e s).hp[k]) = (s.hp[k]).withEvents ((raiseWindow w c pl e s).hp[k]) := by
  unfold raiseWindow
  dsimp only
  split <;> (try split)
  all_goals first
    | exact raise_hp_get _ _ k hk
    | simp

/-- An event changes nothing but what events may write. -/
theorem raise_frame (e : Ev) (s : Rc8) : raise e s = s.withEvents (raise e s) := by
  have hp : (raise e s).hp = (s.withEvents (raise e s)).hp := by
    apply Vector.ext
    intro k hk
    have h := raise_hp_get e s k hk
    have h4 : k = 0 ∨ k = 1 ∨ k = 2 ∨ k = 3 := by omega
    rcases h4 with rfl | rfl | rfl | rfl <;> exact h
  have e1 : s.withEvents (raise e s) = { s with hp := (s.withEvents (raise e s)).hp, out := (raise e s).out, rcd := (raise e s).rcd,
                                                nv := { s.nv with recLog := (raise e s).nv.recLog } } := by first | rfl
  rw [e1, ← hp]
  rfl

/-- What is put out only grows with an event. -/
theorem raise_out_grows (e : Ev) (s : Rc8) : ∃ l, (raise e s).out = s.out ++ l := ⟨_, rfl⟩

@[simp] theorem raise_nv (e : Ev) (s : Rc8) :
    (raise e s).nv = { s.nv with recLog := (recAdd e.code e.p0 e.p1 s.clk.ptu s.rcd s.nv.recLog).2 } := by first | rfl

@[simp] theorem raise_hp_link (e : Ev) (s : Rc8) (k : Nat) (hk : k < 4) : ((raise e s).hp[k]).link = (s.hp[k]).link := by
  rw [raise_hp_get]; rfl
@[simp] theorem raise_hp_speed (e : Ev) (s : Rc8) (k : Nat) (hk : k < 4) : ((raise e s).hp[k]).speed = (s.hp[k]).speed := by
  rw [raise_hp_get]; rfl
@[simp] theorem raise_hp_width (e : Ev) (s : Rc8) (k : Nat) (hk : k < 4) : ((raise e s).hp[k]).width = (s.hp[k]).width := by
  rw [raise_hp_get]; rfl
@[simp] theorem raise_hp_scratch (e : Ev) (s : Rc8) (k : Nat) (hk : k < 4) : ((raise e s).hp[k]).scratch = (s.hp[k]).scratch := by
  rw [raise_hp_get]; rfl
@[simp] theorem raise_hp_mbxDone (e : Ev) (s : Rc8) (k : Nat) (hk : k < 4) : ((raise e s).hp[k]).mbxDone = (s.hp[k]).mbxDone := by
  rw [raise_hp_get]; rfl
@[simp] theorem raise_hp_mbxError (e : Ev) (s : Rc8) (k : Nat) (hk : k < 4) : ((raise e s).hp[k]).mbxError = (s.hp[k]).mbxError := by
  rw [raise_hp_get]; rfl
@[simp] theorem raise_hp_mbxErrorCount (e : Ev) (s : Rc8) (k : Nat) (hk : k < 4) : ((raise e s).hp[k]).mbxErrorCount = (s.hp[k]).mbxErrorCount := by
  rw [raise_hp_get]; rfl
@[simp] theorem raise_hp_tickRound (e : Ev) (s : Rc8) (k : Nat) (hk : k < 4) : ((raise e s).hp[k]).tickRound = (s.hp[k]).tickRound := by
  rw [raise_hp_get]; rfl
@[simp] theorem raise_hp_latchBase (e : Ev) (s : Rc8) (k : Nat) (hk : k < 4) : ((raise e s).hp[k]).latchBase = (s.hp[k]).latchBase := by
  rw [raise_hp_get]; rfl
@[simp] theorem raise_hp_latchHead (e : Ev) (s : Rc8) (k : Nat) (hk : k < 4) : ((raise e s).hp[k]).latchHead = (s.hp[k]).latchHead := by
  rw [raise_hp_get]; rfl
@[simp] theorem raise_hp_latchTick (e : Ev) (s : Rc8) (k : Nat) (hk : k < 4) : ((raise e s).hp[k]).latchTick = (s.hp[k]).latchTick := by
  rw [raise_hp_get]; rfl
@[simp] theorem raise_hp_mbx (e : Ev) (s : Rc8) (k : Nat) (hk : k < 4) : ((raise e s).hp[k]).mbx = (s.hp[k]).mbx := by
  rw [raise_hp_get]; rfl
@[simp] theorem raise_hp_log (e : Ev) (s : Rc8) (k : Nat) (hk : k < 4) : ((raise e s).hp[k]).log = (s.hp[k]).log := by
  rw [raise_hp_get]; rfl
@[simp] theorem raise_hp_logTotal (e : Ev) (s : Rc8) (k : Nat) (hk : k < 4) : ((raise e s).hp[k]).logTotal = (s.hp[k]).logTotal := by
  rw [raise_hp_get]; rfl
@[simp] theorem raiseOwn_hp_link (p : Fin 4) (e : Ev) (s : Rc8) (k : Nat) (hk : k < 4) : ((raiseOwn p e s).hp[k]).link = (s.hp[k]).link := by
  rw [raiseOwn_hp_get]; rfl
@[simp] theorem raiseOwn_hp_speed (p : Fin 4) (e : Ev) (s : Rc8) (k : Nat) (hk : k < 4) : ((raiseOwn p e s).hp[k]).speed = (s.hp[k]).speed := by
  rw [raiseOwn_hp_get]; rfl
@[simp] theorem raiseOwn_hp_width (p : Fin 4) (e : Ev) (s : Rc8) (k : Nat) (hk : k < 4) : ((raiseOwn p e s).hp[k]).width = (s.hp[k]).width := by
  rw [raiseOwn_hp_get]; rfl
@[simp] theorem raiseOwn_hp_scratch (p : Fin 4) (e : Ev) (s : Rc8) (k : Nat) (hk : k < 4) : ((raiseOwn p e s).hp[k]).scratch = (s.hp[k]).scratch := by
  rw [raiseOwn_hp_get]; rfl
@[simp] theorem raiseOwn_hp_mbxDone (p : Fin 4) (e : Ev) (s : Rc8) (k : Nat) (hk : k < 4) : ((raiseOwn p e s).hp[k]).mbxDone = (s.hp[k]).mbxDone := by
  rw [raiseOwn_hp_get]; rfl
@[simp] theorem raiseOwn_hp_mbxError (p : Fin 4) (e : Ev) (s : Rc8) (k : Nat) (hk : k < 4) : ((raiseOwn p e s).hp[k]).mbxError = (s.hp[k]).mbxError := by
  rw [raiseOwn_hp_get]; rfl
@[simp] theorem raiseOwn_hp_mbxErrorCount (p : Fin 4) (e : Ev) (s : Rc8) (k : Nat) (hk : k < 4) : ((raiseOwn p e s).hp[k]).mbxErrorCount = (s.hp[k]).mbxErrorCount := by
  rw [raiseOwn_hp_get]; rfl
@[simp] theorem raiseOwn_hp_tickRound (p : Fin 4) (e : Ev) (s : Rc8) (k : Nat) (hk : k < 4) : ((raiseOwn p e s).hp[k]).tickRound = (s.hp[k]).tickRound := by
  rw [raiseOwn_hp_get]; rfl
@[simp] theorem raiseOwn_hp_latchBase (p : Fin 4) (e : Ev) (s : Rc8) (k : Nat) (hk : k < 4) : ((raiseOwn p e s).hp[k]).latchBase = (s.hp[k]).latchBase := by
  rw [raiseOwn_hp_get]; rfl
@[simp] theorem raiseOwn_hp_latchHead (p : Fin 4) (e : Ev) (s : Rc8) (k : Nat) (hk : k < 4) : ((raiseOwn p e s).hp[k]).latchHead = (s.hp[k]).latchHead := by
  rw [raiseOwn_hp_get]; rfl
@[simp] theorem raiseOwn_hp_latchTick (p : Fin 4) (e : Ev) (s : Rc8) (k : Nat) (hk : k < 4) : ((raiseOwn p e s).hp[k]).latchTick = (s.hp[k]).latchTick := by
  rw [raiseOwn_hp_get]; rfl
@[simp] theorem raiseOwn_hp_mbx (p : Fin 4) (e : Ev) (s : Rc8) (k : Nat) (hk : k < 4) : ((raiseOwn p e s).hp[k]).mbx = (s.hp[k]).mbx := by
  rw [raiseOwn_hp_get]; rfl
@[simp] theorem raiseOwn_hp_log (p : Fin 4) (e : Ev) (s : Rc8) (k : Nat) (hk : k < 4) : ((raiseOwn p e s).hp[k]).log = (s.hp[k]).log := by
  rw [raiseOwn_hp_get]; rfl
@[simp] theorem raiseOwn_hp_logTotal (p : Fin 4) (e : Ev) (s : Rc8) (k : Nat) (hk : k < 4) : ((raiseOwn p e s).hp[k]).logTotal = (s.hp[k]).logTotal := by
  rw [raiseOwn_hp_get]; rfl
@[simp] theorem raiseWindow_hp_link (w c : Nat) (pl : Option (Fin 3)) (e : Ev) (s : Rc8) (k : Nat) (hk : k < 4) : ((raiseWindow w c pl e s).hp[k]).link = (s.hp[k]).link := by
  rw [raiseWindow_hp_get]; rfl
@[simp] theorem raiseWindow_hp_speed (w c : Nat) (pl : Option (Fin 3)) (e : Ev) (s : Rc8) (k : Nat) (hk : k < 4) : ((raiseWindow w c pl e s).hp[k]).speed = (s.hp[k]).speed := by
  rw [raiseWindow_hp_get]; rfl
@[simp] theorem raiseWindow_hp_width (w c : Nat) (pl : Option (Fin 3)) (e : Ev) (s : Rc8) (k : Nat) (hk : k < 4) : ((raiseWindow w c pl e s).hp[k]).width = (s.hp[k]).width := by
  rw [raiseWindow_hp_get]; rfl
@[simp] theorem raiseWindow_hp_scratch (w c : Nat) (pl : Option (Fin 3)) (e : Ev) (s : Rc8) (k : Nat) (hk : k < 4) : ((raiseWindow w c pl e s).hp[k]).scratch = (s.hp[k]).scratch := by
  rw [raiseWindow_hp_get]; rfl
@[simp] theorem raiseWindow_hp_mbxDone (w c : Nat) (pl : Option (Fin 3)) (e : Ev) (s : Rc8) (k : Nat) (hk : k < 4) : ((raiseWindow w c pl e s).hp[k]).mbxDone = (s.hp[k]).mbxDone := by
  rw [raiseWindow_hp_get]; rfl
@[simp] theorem raiseWindow_hp_mbxError (w c : Nat) (pl : Option (Fin 3)) (e : Ev) (s : Rc8) (k : Nat) (hk : k < 4) : ((raiseWindow w c pl e s).hp[k]).mbxError = (s.hp[k]).mbxError := by
  rw [raiseWindow_hp_get]; rfl
@[simp] theorem raiseWindow_hp_mbxErrorCount (w c : Nat) (pl : Option (Fin 3)) (e : Ev) (s : Rc8) (k : Nat) (hk : k < 4) : ((raiseWindow w c pl e s).hp[k]).mbxErrorCount = (s.hp[k]).mbxErrorCount := by
  rw [raiseWindow_hp_get]; rfl
@[simp] theorem raiseWindow_hp_tickRound (w c : Nat) (pl : Option (Fin 3)) (e : Ev) (s : Rc8) (k : Nat) (hk : k < 4) : ((raiseWindow w c pl e s).hp[k]).tickRound = (s.hp[k]).tickRound := by
  rw [raiseWindow_hp_get]; rfl
@[simp] theorem raiseWindow_hp_latchBase (w c : Nat) (pl : Option (Fin 3)) (e : Ev) (s : Rc8) (k : Nat) (hk : k < 4) : ((raiseWindow w c pl e s).hp[k]).latchBase = (s.hp[k]).latchBase := by
  rw [raiseWindow_hp_get]; rfl
@[simp] theorem raiseWindow_hp_latchHead (w c : Nat) (pl : Option (Fin 3)) (e : Ev) (s : Rc8) (k : Nat) (hk : k < 4) : ((raiseWindow w c pl e s).hp[k]).latchHead = (s.hp[k]).latchHead := by
  rw [raiseWindow_hp_get]; rfl
@[simp] theorem raiseWindow_hp_latchTick (w c : Nat) (pl : Option (Fin 3)) (e : Ev) (s : Rc8) (k : Nat) (hk : k < 4) : ((raiseWindow w c pl e s).hp[k]).latchTick = (s.hp[k]).latchTick := by
  rw [raiseWindow_hp_get]; rfl
@[simp] theorem raiseWindow_hp_mbx (w c : Nat) (pl : Option (Fin 3)) (e : Ev) (s : Rc8) (k : Nat) (hk : k < 4) : ((raiseWindow w c pl e s).hp[k]).mbx = (s.hp[k]).mbx := by
  rw [raiseWindow_hp_get]; rfl
@[simp] theorem raiseWindow_hp_log (w c : Nat) (pl : Option (Fin 3)) (e : Ev) (s : Rc8) (k : Nat) (hk : k < 4) : ((raiseWindow w c pl e s).hp[k]).log = (s.hp[k]).log := by
  rw [raiseWindow_hp_get]; rfl
@[simp] theorem raiseWindow_hp_logTotal (w c : Nat) (pl : Option (Fin 3)) (e : Ev) (s : Rc8) (k : Nat) (hk : k < 4) : ((raiseWindow w c pl e s).hp[k]).logTotal = (s.hp[k]).logTotal := by
  rw [raiseWindow_hp_get]; rfl
@[simp] theorem raise_evq_base (e : Ev) (s : Rc8) (k : Nat) (hk : k < 4) : ((raise e s).hp[k]).evq.base = (s.hp[k]).evq.base := by
  rw [raise_hp_get]; rfl
@[simp] theorem raise_evq_size (e : Ev) (s : Rc8) (k : Nat) (hk : k < 4) : ((raise e s).hp[k]).evq.size = (s.hp[k]).evq.size := by
  rw [raise_hp_get]; rfl
@[simp] theorem raise_evq_enable (e : Ev) (s : Rc8) (k : Nat) (hk : k < 4) : ((raise e s).hp[k]).evq.enable = (s.hp[k]).evq.enable := by
  rw [raise_hp_get]; rfl
@[simp] theorem raise_evq_headAddr (e : Ev) (s : Rc8) (k : Nat) (hk : k < 4) : ((raise e s).hp[k]).evq.headAddr = (s.hp[k]).evq.headAddr := by
  rw [raise_hp_get]; rfl
@[simp] theorem raise_evq_tail (e : Ev) (s : Rc8) (k : Nat) (hk : k < 4) : ((raise e s).hp[k]).evq.tail = (s.hp[k]).evq.tail := by
  rw [raise_hp_get]; rfl
@[simp] theorem raise_evq_mask (e : Ev) (s : Rc8) (k : Nat) (hk : k < 4) : ((raise e s).hp[k]).evq.mask = (s.hp[k]).evq.mask := by
  rw [raise_hp_get]; rfl
@[simp] theorem raise_evq_coalTime (e : Ev) (s : Rc8) (k : Nat) (hk : k < 4) : ((raise e s).hp[k]).evq.coalTime = (s.hp[k]).evq.coalTime := by
  rw [raise_hp_get]; rfl
@[simp] theorem raise_evq_coalCount (e : Ev) (s : Rc8) (k : Nat) (hk : k < 4) : ((raise e s).hp[k]).evq.coalCount = (s.hp[k]).evq.coalCount := by
  rw [raise_hp_get]; rfl
@[simp] theorem raise_evq_configError (e : Ev) (s : Rc8) (k : Nat) (hk : k < 4) : ((raise e s).hp[k]).evq.configError = (s.hp[k]).evq.configError := by
  rw [raise_hp_get]; rfl
@[simp] theorem raise_evq_tailError (e : Ev) (s : Rc8) (k : Nat) (hk : k < 4) : ((raise e s).hp[k]).evq.tailError = (s.hp[k]).evq.tailError := by
  rw [raise_hp_get]; rfl
@[simp] theorem raise_evq_dmaError (e : Ev) (s : Rc8) (k : Nat) (hk : k < 4) : ((raise e s).hp[k]).evq.dmaError = (s.hp[k]).evq.dmaError := by
  rw [raise_hp_get]; rfl
@[simp] theorem raiseOwn_evq_base (p : Fin 4) (e : Ev) (s : Rc8) (k : Nat) (hk : k < 4) : ((raiseOwn p e s).hp[k]).evq.base = (s.hp[k]).evq.base := by
  rw [raiseOwn_hp_get]; rfl
@[simp] theorem raiseOwn_evq_size (p : Fin 4) (e : Ev) (s : Rc8) (k : Nat) (hk : k < 4) : ((raiseOwn p e s).hp[k]).evq.size = (s.hp[k]).evq.size := by
  rw [raiseOwn_hp_get]; rfl
@[simp] theorem raiseOwn_evq_enable (p : Fin 4) (e : Ev) (s : Rc8) (k : Nat) (hk : k < 4) : ((raiseOwn p e s).hp[k]).evq.enable = (s.hp[k]).evq.enable := by
  rw [raiseOwn_hp_get]; rfl
@[simp] theorem raiseOwn_evq_headAddr (p : Fin 4) (e : Ev) (s : Rc8) (k : Nat) (hk : k < 4) : ((raiseOwn p e s).hp[k]).evq.headAddr = (s.hp[k]).evq.headAddr := by
  rw [raiseOwn_hp_get]; rfl
@[simp] theorem raiseOwn_evq_tail (p : Fin 4) (e : Ev) (s : Rc8) (k : Nat) (hk : k < 4) : ((raiseOwn p e s).hp[k]).evq.tail = (s.hp[k]).evq.tail := by
  rw [raiseOwn_hp_get]; rfl
@[simp] theorem raiseOwn_evq_mask (p : Fin 4) (e : Ev) (s : Rc8) (k : Nat) (hk : k < 4) : ((raiseOwn p e s).hp[k]).evq.mask = (s.hp[k]).evq.mask := by
  rw [raiseOwn_hp_get]; rfl
@[simp] theorem raiseOwn_evq_coalTime (p : Fin 4) (e : Ev) (s : Rc8) (k : Nat) (hk : k < 4) : ((raiseOwn p e s).hp[k]).evq.coalTime = (s.hp[k]).evq.coalTime := by
  rw [raiseOwn_hp_get]; rfl
@[simp] theorem raiseOwn_evq_coalCount (p : Fin 4) (e : Ev) (s : Rc8) (k : Nat) (hk : k < 4) : ((raiseOwn p e s).hp[k]).evq.coalCount = (s.hp[k]).evq.coalCount := by
  rw [raiseOwn_hp_get]; rfl
@[simp] theorem raiseOwn_evq_configError (p : Fin 4) (e : Ev) (s : Rc8) (k : Nat) (hk : k < 4) : ((raiseOwn p e s).hp[k]).evq.configError = (s.hp[k]).evq.configError := by
  rw [raiseOwn_hp_get]; rfl
@[simp] theorem raiseOwn_evq_tailError (p : Fin 4) (e : Ev) (s : Rc8) (k : Nat) (hk : k < 4) : ((raiseOwn p e s).hp[k]).evq.tailError = (s.hp[k]).evq.tailError := by
  rw [raiseOwn_hp_get]; rfl
@[simp] theorem raiseOwn_evq_dmaError (p : Fin 4) (e : Ev) (s : Rc8) (k : Nat) (hk : k < 4) : ((raiseOwn p e s).hp[k]).evq.dmaError = (s.hp[k]).evq.dmaError := by
  rw [raiseOwn_hp_get]; rfl
@[simp] theorem raiseWindow_evq_base (w c : Nat) (pl : Option (Fin 3)) (e : Ev) (s : Rc8) (k : Nat) (hk : k < 4) : ((raiseWindow w c pl e s).hp[k]).evq.base = (s.hp[k]).evq.base := by
  rw [raiseWindow_hp_get]; rfl
@[simp] theorem raiseWindow_evq_size (w c : Nat) (pl : Option (Fin 3)) (e : Ev) (s : Rc8) (k : Nat) (hk : k < 4) : ((raiseWindow w c pl e s).hp[k]).evq.size = (s.hp[k]).evq.size := by
  rw [raiseWindow_hp_get]; rfl
@[simp] theorem raiseWindow_evq_enable (w c : Nat) (pl : Option (Fin 3)) (e : Ev) (s : Rc8) (k : Nat) (hk : k < 4) : ((raiseWindow w c pl e s).hp[k]).evq.enable = (s.hp[k]).evq.enable := by
  rw [raiseWindow_hp_get]; rfl
@[simp] theorem raiseWindow_evq_headAddr (w c : Nat) (pl : Option (Fin 3)) (e : Ev) (s : Rc8) (k : Nat) (hk : k < 4) : ((raiseWindow w c pl e s).hp[k]).evq.headAddr = (s.hp[k]).evq.headAddr := by
  rw [raiseWindow_hp_get]; rfl
@[simp] theorem raiseWindow_evq_tail (w c : Nat) (pl : Option (Fin 3)) (e : Ev) (s : Rc8) (k : Nat) (hk : k < 4) : ((raiseWindow w c pl e s).hp[k]).evq.tail = (s.hp[k]).evq.tail := by
  rw [raiseWindow_hp_get]; rfl
@[simp] theorem raiseWindow_evq_mask (w c : Nat) (pl : Option (Fin 3)) (e : Ev) (s : Rc8) (k : Nat) (hk : k < 4) : ((raiseWindow w c pl e s).hp[k]).evq.mask = (s.hp[k]).evq.mask := by
  rw [raiseWindow_hp_get]; rfl
@[simp] theorem raiseWindow_evq_coalTime (w c : Nat) (pl : Option (Fin 3)) (e : Ev) (s : Rc8) (k : Nat) (hk : k < 4) : ((raiseWindow w c pl e s).hp[k]).evq.coalTime = (s.hp[k]).evq.coalTime := by
  rw [raiseWindow_hp_get]; rfl
@[simp] theorem raiseWindow_evq_coalCount (w c : Nat) (pl : Option (Fin 3)) (e : Ev) (s : Rc8) (k : Nat) (hk : k < 4) : ((raiseWindow w c pl e s).hp[k]).evq.coalCount = (s.hp[k]).evq.coalCount := by
  rw [raiseWindow_hp_get]; rfl
@[simp] theorem raiseWindow_evq_configError (w c : Nat) (pl : Option (Fin 3)) (e : Ev) (s : Rc8) (k : Nat) (hk : k < 4) : ((raiseWindow w c pl e s).hp[k]).evq.configError = (s.hp[k]).evq.configError := by
  rw [raiseWindow_hp_get]; rfl
@[simp] theorem raiseWindow_evq_tailError (w c : Nat) (pl : Option (Fin 3)) (e : Ev) (s : Rc8) (k : Nat) (hk : k < 4) : ((raiseWindow w c pl e s).hp[k]).evq.tailError = (s.hp[k]).evq.tailError := by
  rw [raiseWindow_hp_get]; rfl
@[simp] theorem raiseWindow_evq_dmaError (w c : Nat) (pl : Option (Fin 3)) (e : Ev) (s : Rc8) (k : Nat) (hk : k < 4) : ((raiseWindow w c pl e s).hp[k]).evq.dmaError = (s.hp[k]).evq.dmaError := by
  rw [raiseWindow_hp_get]; rfl

end Sys2Proof.Machine
end

