-- ==== Sys2Proof/Laws/Commands.lean ====
section
/-! SUPPORT. The life of a mailbox command: which command a row acts on, what ending it leaves, and how a command that
acts is shown to lead somewhere. -/

namespace Sys2Proof.Machine

open Sys2Proof

/-- The command a row acts on is acknowledged, no task's, of this code, on this mailbox, and checked (02 R58, R59). -/
theorem findChecked_spec {s : Rc8} {code : Nat} {p : Fin 4} {m : Fin 8} {e : Exec} (h : findChecked s code p m = some e) :
    e ∈ s.execs ∧ e.task = none ∧ e.code = code ∧ e.port = p ∧ e.mbx = m ∧ e.phase = .checked := by
  have hp := List.find?_some h
  have hm := List.mem_of_find?_eq_some h
  simp only [Bool.and_eq_true, beq_iff_eq, Option.isNone_iff_eq_none] at hp
  exact ⟨hm, hp.1.1.1.1, hp.1.1.1.2, hp.1.1.2, hp.1.2, hp.2⟩

/-- A row with its command acts on it. -/
theorem runCmd_found {s : Rc8} {code : Nat} {p : Fin 4} {m : Fin 8} {e : Exec} (h : findChecked s code p m = some e)
    (body : Exec → Rc8 → Rc8) : runCmd code p m body s = body e s := by simp [runCmd, h]

/-- A row without its command changes nothing. -/
theorem runCmd_missing {s : Rc8} {code : Nat} {p : Fin 4} {m : Fin 8} (h : findChecked s code p m = none)
    (body : Exec → Rc8 → Rc8) : runCmd code p m body s = s := by simp [runCmd, h]

/-- A row does nothing, or what its body does. -/
theorem runCmd_cases (code : Nat) (p : Fin 4) (m : Fin 8) (body : Exec → Rc8 → Rc8) (s : Rc8) :
    (findChecked s code p m = none ∧ runCmd code p m body s = s) ∨
      ∃ e, findChecked s code p m = some e ∧ runCmd code p m body s = body e s := by
  cases h : findChecked s code p m with
  | none => exact .inl ⟨rfl, runCmd_missing h body⟩
  | some e => exact .inr ⟨e, rfl, runCmd_found h body⟩

/-- A command that only answers ends with DONE and its response. -/
theorem answer_found {s : Rc8} {code : Nat} {p : Fin 4} {m : Fin 8} {e : Exec} (h : findChecked s code p m = some e)
    (resp : Exec → Rc8 → List Byte) : answer code p m resp s = endExec e.id .done (resp e s) s :=
  runCmd_found h _

/-- Ending a command changes its phase and nothing else. -/
theorem endExec_eq (id : Nat) (st : Status) (resp : List Byte) (s : Rc8) :
    endExec id st resp s = { s with execs := s.marked id (.ended st (if st = .done then resp else [])) } := by
  simp [endExec, modExec, Rc8.marked]

/-- Ending a command with DONE keeps the response. -/
theorem endExec_done (id : Nat) (resp : List Byte) (s : Rc8) : endExec id .done resp s = s.ended id .done resp := by
  simp [endExec_eq, Rc8.ended]

/-- Ending a command otherwise leaves no response (02 R80). -/
theorem endWith_eq (id : Nat) (st : Status) (s : Rc8) : endWith id st s = s.ended id st [] := by
  simp [endWith, endExec_eq, Rc8.ended]

/-- A command that has acted waits, and nothing else changes. -/
theorem waitExec_eq (id : Nat) (s : Rc8) : waitExec id s = { s with execs := s.marked id .waiting } := by
  simp [waitExec, modExec, Rc8.marked]

/-- A command whose meaning acts leads to what its action leaves. -/
theorem leadsTo_of_act {c : Instr} {s : State} {f : Rc8 → Rc8} {r : Rc8} (h : exec c s = act f s)
    (hr : f s.toRc8 = r.withEvents (f s.toRc8)) : LeadsTo c s r :=
  ⟨s.after f, by rw [h, act_eq], rfl, hr⟩

/-- A command whose meaning acts has every property of what its action leaves. -/
theorem leads_of_act {c : Instr} {s : State} {f : Rc8 → Rc8} {P : State → Prop} (h : exec c s = act f s)
    (hp : P (s.after f)) : Leads c s P :=
  ⟨s.after f, by rw [h, act_eq], rfl, hp⟩

/-- Two actions that agree on this module leave the same block. -/
theorem after_congr {s : State} {f g : Rc8 → Rc8} (h : f s.toRc8 = g s.toRc8) : s.after f = s.after g := by
  simp [State.after, h]

end Sys2Proof.Machine
end

