-- ==== Sys2Proof/Laws/Mem.lean ====
section
/-! SUPPORT. The byte store: every operation keeps its canonical form, and reads give back what was written. -/

namespace Sys2Proof.Machine

open Sys2Proof

/-- A store in canonical form from a bound is in canonical form from every lower bound. -/
theorem memWfFrom_mono {lo hi : Nat} (m : Mem) (h : lo ≤ hi) (w : memWfFrom hi m = true) : memWfFrom lo m = true := by
  cases m with
  | nil => rfl
  | cons x m =>
    obtain ⟨k, v⟩ := x
    simp only [memWfFrom, Bool.and_eq_true, decide_eq_true_eq, bne_iff_ne] at w ⊢
    exact ⟨⟨Nat.le_trans h w.1.1, w.1.2⟩, w.2⟩

/-- Below its bound a canonical store lists nothing. -/
theorem memRead_below {lo a : Nat} (m : Mem) (w : memWfFrom lo m = true) (h : a < lo) : memRead m a = 0 := by
  cases m with
  | nil => rfl
  | cons x m =>
    obtain ⟨k, v⟩ := x
    simp only [memWfFrom, Bool.and_eq_true, decide_eq_true_eq] at w
    simp only [memRead]
    rw [if_neg (by omega), if_pos (by omega)]

/-- A write keeps the canonical form above any bound it respects. -/
theorem memWfFrom_memWrite {lo a : Nat} (b : Byte) (m : Mem) (w : memWfFrom lo m = true) (h : lo ≤ a) :
    memWfFrom lo (memWrite m a b) = true := by
  induction m generalizing lo with
  | nil =>
    simp only [memWrite]
    split
    · rfl
    · rename_i hb
      simp only [memWfFrom, Bool.and_eq_true, decide_eq_true_eq, bne_iff_ne]
      exact ⟨⟨h, hb⟩, trivial⟩
  | cons x m ih =>
    obtain ⟨k, v⟩ := x
    have w' := w
    simp only [memWfFrom, Bool.and_eq_true, decide_eq_true_eq, bne_iff_ne] at w
    obtain ⟨⟨hk, hv⟩, hm⟩ := w
    simp only [memWrite]
    split
    · rename_i hka
      subst hka
      split
      · exact memWfFrom_mono m (by omega) hm
      · rename_i hb
        simp only [memWfFrom, Bool.and_eq_true, decide_eq_true_eq, bne_iff_ne]
        exact ⟨⟨hk, hb⟩, hm⟩
    · split
      · split
        · exact w'
        · rename_i hka hlt hb
          simp only [memWfFrom, Bool.and_eq_true, decide_eq_true_eq, bne_iff_ne]
          exact ⟨⟨h, hb⟩, ⟨⟨by omega, hv⟩, hm⟩⟩
      · rename_i hka hlt
        simp only [memWfFrom, Bool.and_eq_true, decide_eq_true_eq, bne_iff_ne]
        exact ⟨⟨hk, hv⟩, ih hm (by omega)⟩

/-- A write keeps the canonical form. -/
theorem memWrite_wf (m : Mem) (a : Nat) (b : Byte) (w : Mem.wf m = true) : Mem.wf (memWrite m a b) = true :=
  memWfFrom_memWrite b m w (Nat.zero_le a)

/-- A run of bytes keeps the canonical form. -/
theorem memWriteN_wf (m : Mem) (a : Nat) (l : List Byte) (w : Mem.wf m = true) : Mem.wf (memWriteN m a l) = true := by
  induction l generalizing m a with
  | nil => exact w
  | cons b l ih => exact ih _ _ (memWrite_wf m a b w)

/-- A read gives back the byte written there, and every other byte stays. -/
theorem memRead_memWriteFrom {lo : Nat} (m : Mem) (a c : Nat) (b : Byte) (w : memWfFrom lo m = true) (h : lo ≤ a) :
    memRead (memWrite m a b) c = if c = a then b else memRead m c := by
  induction m generalizing lo with
  | nil =>
    simp only [memWrite]
    split
    · rename_i hb
      simp [memRead, hb]
    · simp only [memRead]
      by_cases hc : c = a
      · simp [hc]
      · have hac : ¬ a = c := fun e => hc e.symm
        rw [if_neg hac, if_neg hc]; split <;> rfl
  | cons x m ih =>
    obtain ⟨k, v⟩ := x
    simp only [memWfFrom, Bool.and_eq_true, decide_eq_true_eq, bne_iff_ne] at w
    obtain ⟨⟨hk, hv⟩, hm⟩ := w
    simp only [memWrite]
    split
    · rename_i hka
      subst hka
      split
      · rename_i hb
        subst hb
        by_cases hc : c = k
        · subst hc; rw [if_pos rfl]; exact memRead_below m hm (by omega)
        · rw [if_neg hc]
          simp only [memRead]
          have hkc : ¬ k = c := fun e => hc e.symm
          rw [if_neg hkc]
          split
          · exact memRead_below m hm (by omega)
          · rfl
      · simp only [memRead]
        by_cases hc : c = k
        · subst hc; simp
        · have hkc : ¬ k = c := fun e => hc e.symm
          rw [if_neg hkc, if_neg hc, if_neg hkc]
    · split
      · rename_i hka hlt
        split
        · rename_i hb
          subst hb
          by_cases hc : c = a
          · subst hc; rw [if_pos rfl]; simp only [memRead]; rw [if_neg hka, if_pos hlt]
          · rw [if_neg hc]
        · simp only [memRead]
          by_cases hc : c = a
          · subst hc; simp
          · have hac : ¬ a = c := fun e => hc e.symm
            rw [if_neg hac, if_neg hc]
            by_cases hca : c < a
            · rw [if_pos hca, if_neg (by omega), if_pos (by omega)]
            · rw [if_neg hca]
      · rename_i hka hlt
        simp only [memRead]
        by_cases hkc : k = c
        · subst hkc; simp [hka]
        · rw [if_neg hkc, if_neg hkc]
          by_cases hck : c < k
          · rw [if_pos hck, if_pos hck, if_neg (by omega)]
          · rw [if_neg hck, if_neg hck]; exact ih hm (by omega)

/-- A read gives back the byte written there, and every other byte stays. -/
theorem memRead_memWrite (m : Mem) (a c : Nat) (b : Byte) (w : Mem.wf m = true) :
    memRead (memWrite m a b) c = if c = a then b else memRead m c :=
  memRead_memWriteFrom m a c b w (Nat.zero_le a)

/-- After a run of bytes is written, each of them reads back and every byte outside the run stays. -/
theorem memRead_memWriteN (m : Mem) (a c : Nat) (l : List Byte) (w : Mem.wf m = true) :
    memRead (memWriteN m a l) c = if a ≤ c then (l[c - a]?).getD (memRead m c) else memRead m c := by
  induction l generalizing m a with
  | nil => simp [memWriteN]
  | cons b l ih =>
    simp only [memWriteN]
    rw [ih _ _ (memWrite_wf m a b w), memRead_memWrite m a c b w]
    by_cases h : a ≤ c
    · rw [if_pos h]
      by_cases hc : c = a
      · subst hc; simp
      · obtain ⟨d, rfl⟩ : ∃ d, c = a + 1 + d := ⟨c - a - 1, by omega⟩
        have e : a + 1 + d - a = d + 1 := by omega
        rw [if_neg hc]
        simp [e]
    · rw [if_neg h, if_neg (by omega), if_neg (by omega)]

/-- A run of bytes that was written reads back whole. -/
theorem memReadN_memWriteN (m : Mem) (a : Nat) (l : List Byte) (w : Mem.wf m = true) : memReadN (memWriteN m a l) a l.length = l := by
  have key : ∀ (n i : Nat), i + n = l.length → memReadN (memWriteN m a l) (a + i) n = l.drop i := by
    intro n
    induction n with
    | zero => intro i hi; simp [memReadN, List.drop_eq_nil_of_le (by omega : l.length ≤ i)]
    | succ n ih =>
      intro i hi
      simp only [memReadN]
      rw [Nat.add_assoc, ih (i + 1) (by omega), memRead_memWriteN m a (a + i) l w, if_pos (by omega),
        List.drop_eq_getElem_cons (by omega : i < l.length)]
      simp [List.getElem?_eq_getElem (by omega : i < l.length)]
  simpa using key l.length 0 (by omega)

/-- A run written elsewhere leaves a range as it was. -/
theorem memReadN_memWriteN_apart (m : Mem) (a c n : Nat) (l : List Byte) (w : Mem.wf m = true) (h : c + n ≤ a ∨ a + l.length ≤ c) :
    memReadN (memWriteN m a l) c n = memReadN m c n := by
  induction n generalizing c with
  | zero => rfl
  | succ n ih =>
    simp only [memReadN]
    rw [ih (c + 1) (by omega), memRead_memWriteN m a c l w]
    congr 1
    by_cases hc : a ≤ c
    · rw [if_pos hc, List.getElem?_eq_none (by omega)]; rfl
    · rw [if_neg hc]

/-- A stored host write keeps the canonical form. -/
theorem storeHost_wf (mem : Mem) (o : Nat) (data : List (Option Byte)) (w : Mem.wf mem = true) : Mem.wf (storeHost mem o data) = true := by
  induction data generalizing mem o with
  | nil => exact w
  | cons x l ih =>
    simp only [storeHost]
    apply ih
    cases x with
    | none => exact w
    | some b => dsimp only; split
                · exact w
                · exact memWrite_wf _ _ _ w

/-- The canonical form is the same data for the same bytes. -/
theorem memWf_reset : Mem.wf [] = true := rfl

end Sys2Proof.Machine
end

