-- ==== Sys2Proof/Tests/Slice0.lean ====
section
/-! SUPPORT. Tests of the model: commands no sender can send, the spec's worked examples, and for each statement with
hypotheses a state and operands that meet them. -/

open Sys2Proof Sys2Proof.Machine

namespace Sys2Proof.Tests

set_option maxRecDepth 100000
set_option Elab.async false

/-! ### Commands that no sender can send -/

/-- An ordinary bus read, varied by each smoke test. -/
def aRead : Transaction := { master := 0, level := 0, kind := 1, addr := 0, len := 4 }
/-- A pair link header, varied by no test. -/
def aHeader : PlkHdr := { crcOk := true, ack := false, last := true, seq := 1, round := 0 }
/-- A start report, varied by each smoke test. -/
def aReport : StartReport :=
  { key := .run, selfTest := true, checks := [], migrated := 0, oldFormat := 1, newFormat := 1, migrationOk := true, retainOk := true,
    steps := Vector.replicate 3 0 }
/-- A PTP message, varied by each smoke test. -/
def aPtp : PtpMsg := { messageType := 0, domain := 0, seq := 0, body := [] }
/-- A received CAN frame, varied by each smoke test. -/
def aCan : CanRx := { ext := false, id := 1, fd := false, brs := false, esi := false, rtr := false, dlc := 0, data := [], sinceStart := 0 }
/-- A byte store out of order. -/
def unsorted : Mem := [(5, 1), (4, 1)]

theorem test_wf_admits : Instr.wf (.accessViolation aRead) = true ∧ Instr.wf (.moduleStart aReport) = true ∧
    Instr.wf (.ptpMessageReceived 0 aPtp) = true ∧ Instr.wf (.canFrameReceived 0 aCan) = true := by decide
theorem test_wf_refuses_mailboxWrite : Instr.wf (.mailboxWrite 0 0 []) = false ∧
    Instr.wf (.mailboxWrite 0 0 (List.replicate 257 none)) = false := by decide +kernel
theorem test_wf_refuses_registerWrite : Instr.wf (.registerWrite 0 0 0 0) = false ∧ Instr.wf (.registerWrite 0 0x1000 8 0) = false := by decide
theorem test_wf_refuses_registerLoRead : Instr.wf (.registerLoRead 0 0x1C 0) = false ∧ Instr.wf (.registerLoRead 0 0x1C 513) = false := by decide
theorem test_wf_refuses_stateCopyMessage : Instr.wf (.stateCopyMessage aHeader [.retained 0 unsorted [] [] []] true) = false := by decide
theorem test_wf_refuses_smlLoadPage : Instr.wf (.smlLoadPage 0 (zeros 1009)) = false ∧ Instr.wf (.smlLoadPage (2 ^ 32) []) = false := by decide +kernel
theorem test_wf_refuses_safetyPassword : Instr.wf (.safetyPassword 0 0 true (zeros 15)) = false := by decide
theorem test_wf_refuses_debugPortRequest : Instr.wf (.debugPortRequest (.access { aRead with len := 0 })) = false := by decide
theorem test_wf_refuses_memoryCorrected : Instr.wf (.memoryCorrected 4 0 1) = false := by decide
theorem test_wf_refuses_memoryUncorrectable : Instr.wf (.memoryUncorrectable 9 0 ⟨7, 0⟩ .program) = false := by decide
theorem test_wf_refuses_accessViolation : Instr.wf (.accessViolation { aRead with len := 257 }) = false ∧
    Instr.wf (.accessViolation { aRead with kind := 0 }) = false ∧ Instr.wf (.accessViolation { aRead with addr := 2 ^ 32 }) = false := by decide
theorem test_wf_refuses_ruleEpochLate : Instr.wf (.ruleEpochLate 2000) = false := by decide
theorem test_wf_refuses_ptpMessageReceived : Instr.wf (.ptpMessageReceived 0 { aPtp with messageType := 16 }) = false ∧
    Instr.wf (.ptpMessageReceived 0 { aPtp with domain := 256 }) = false := by decide
theorem test_wf_refuses_ptpOffsetMeasurement : Instr.wf (.ptpOffsetMeasurement 0 (-(2 ^ 63)) 0) = false ∧
    Instr.wf (.ptpOffsetMeasurement 0 0 (2 ^ 32)) = false := by decide
theorem test_wf_refuses_canFrameReceived : Instr.wf (.canFrameReceived 0 { aCan with id := 2048 }) = false ∧
    Instr.wf (.canFrameReceived 0 { aCan with ext := true, id := 2 ^ 29 }) = false := by decide
theorem test_wf_refuses_fieldSupplyChanged : Instr.wf (.fieldSupplyChanged 0 65536) = false := by decide
theorem test_wf_refuses_feedChanged : Instr.wf (.feedChanged 0 65536) = false := by decide
theorem test_wf_refuses_feedLoss : Instr.wf (.feedLoss 65536) = false := by decide
theorem test_wf_refuses_powerFailFlushed : Instr.wf (.powerFailFlushed 2 1) = false ∧ Instr.wf (.powerFailFlushed 0 (2 ^ 32)) = false := by decide
theorem test_wf_refuses_feedReturn : Instr.wf (.feedReturn (2 ^ 32) 0 0) = false ∧ Instr.wf (.feedReturn 0 65536 0) = false := by decide
theorem test_wf_refuses_holdupReady : Instr.wf (.holdupReady 65536 0 0) = false ∧ Instr.wf (.holdupReady 0 0 (2 ^ 32)) = false := by decide
theorem test_wf_refuses_holdupTopup : Instr.wf (.holdupTopup 0 65536) = false := by decide
theorem test_wf_refuses_moduleStart : Instr.wf (.moduleStart { aReport with oldFormat := 65536 }) = false := by decide

/-! ### The spec's own examples and published check values -/

/-- The published check value of the CRC-32C of R154 over the digits 1 to 9. -/
theorem test_crc32c : crc32c (ascii "123456789") = 0xE3069283 := by decide +kernel

/-- The SHA-256 of "abc" starts as FIPS 180-4 publishes it. -/
theorem test_sha256 : (sha256 (ascii "abc")).take 4 = [0xBA, 0x78, 0x16, 0xBF] := by decide +kernel

/-- 06, worked example of the exponent rule: the sum 1,252 x 2^55 at exponent -55 beside the output 2,292. -/
def exponentRule : List Fl := [{ m := 1252 * 2 ^ 55, e := -55 }, { m := 2292, e := 0 }]

/-- The example's new exponent and stored integrator. -/
theorem test_exponent_rule : (stageEnd exponentRule (-18) (-128) 127).exp = -18 ∧
    ((stageEnd exponentRule (-18) (-128) 127).put { m := 1252 * 2 ^ 55, e := -55 }).m = 328204288 := by decide +kernel

/-- The example with e_max at -19: clamped, clipped and both flags set. -/
theorem test_exponent_rule_clamped : (stageEnd exponentRule (-18) (-128) (-19)).exp = -19 ∧
    (stageEnd exponentRule (-18) (-128) (-19)).range = true ∧ (stageEnd exponentRule (-18) (-128) (-19)).sat = true ∧
    ((stageEnd exponentRule (-18) (-128) (-19)).put { m := 2292, e := 0 }).m = 2 ^ 30 - 1 := by decide +kernel

/-- 03, worked example of the gather budget: a ring of eight drives of 16 axes, three gather frames, links of 10 m. -/
def ringExample : Schedule :=
  { format := 1, id := 1, net := 0, topo := 0, period := 125, motionLost := 3, stationLost := 2, gatherLaunch := 2000, gatherDone := 42000,
    engineStart := 42000, commit := 48000, commandLaunch := 50000, delay := 50, axes := [], image := [],
    windows := (List.range 128).map fun a =>
      { node := 1 + a / 16, station := false, down := false, port2 := false, frame := a / 53, off := 28 * (a % 53), len := 28,
        period := 1, phase := 0, hold := 4, slot := 0 } }

/-- The example's U of 3,746 wire bytes and G of 36.728 µs. -/
theorem test_gather_budget : ringExample.upstream = 3746 ∧
    gatherTime ringExample { side1 := [], side2 := [], map := [], arm1 := false, arm2 := false, self := 62 } = 36728 := by decide +kernel

/-- An empty queue leaves the block as it is. -/
theorem test_idle : step State.reset = .next State.reset := rfl

/-! ### States and operands that meet the statements' hypotheses -/

/-! States and operands that several tests share: a running holder (wRun), a command in execution (wCmd), schedules, images
and the safety set that they build on. -/

def wExec (code : Nat) (req : List Byte) : Exec :=
  { id := 7, port := 0, mbx := 0, code := code, tag := 0, noIrq := false, req := req, cap := 4032, cls := .safety, phase := .checked, start := 0, pendingSent := false, portReset := false, rules := none, rights := none, task := none }
def wCmd (code : Nat) (req : List Byte) (f : Rc8 → Rc8) : State := State.reset.after fun s => { f s with execs := [wExec code req] }
def wWin (down : Bool) (off : Nat) : Window := { node := 1, station := false, down := down, port2 := false, frame := 0, off := off, len := 24, period := 1, phase := 0, hold := 3, slot := 0 }
def wSch (id : Nat) : Schedule := { format := 1, id := id, net := 0, topo := 0, period := 125, motionLost := 3, stationLost := 8, gatherLaunch := 5000, gatherDone := 40000, engineStart := 45000, commit := 80000, commandLaunch := 90000, delay := 10, windows := [wWin false 0, wWin true 0], axes := [{ axis := 0, node := 1, pos := 0 }], image := [] }
def wRun (s : Rc8) : Rc8 :=
  { s with
    svpReady := true
    pwr := { s.pwr with domains := 0xFFF#12 }
    clk := { s.clk with refosc := 20000000000, ptu := 8 * 125000 * 65536 }
    rnd := { s.rnd with round := 8 }
    sch := s.sch.set 0 ((s.sch[0]).put (wSch 3))
    net := s.net.set 0 { s.net[0] with state := .master, guard := { lease := true, closed := false, good := 0, cuts := 5, faults := 6 }, ports := Vector.replicate 4 { NetPort.reset with link := true, ups := 2 } }
    pair := { s.pair with token := .holder, pulse := true, epoch := 4, leaseEnd := 20000100000 } }
def wRunS : State := State.reset.after wRun
def wSby : State := wRunS.after fun s => { s with pair := { s.pair with token := .standby, pulse := false, synced := true, plk := { s.pair.plk with up := true, lanes := 2, awaiting := [] , lastTx := 5, lastRx := 6 }, partner := { s.pair.partner with present := true } } }
def wImg0 (id : Nat) : List Byte := le 2 1 ++ le 2 id ++ le 1 0 ++ le 1 0 ++ le 2 2 ++ le 4 125000 ++ le 2 1 ++ le 1 3 ++ le 1 8 ++ le 4 5000 ++ le 4 40000 ++ le 4 45000 ++ le 4 80000 ++ le 4 90000 ++ zeros 4 ++ le 2 10 ++ zeros 22 ++
  (le 1 1 ++ le 1 0 ++ le 1 0 ++ zeros 1 ++ le 2 0 ++ le 2 28 ++ le 2 1 ++ le 2 0 ++ le 2 0 ++ le 2 0) ++ (le 1 1 ++ le 1 2 ++ le 1 0 ++ zeros 1 ++ le 2 0 ++ le 2 28 ++ le 2 1 ++ le 2 0 ++ le 2 4 ++ le 2 0) ++ (le 1 0 ++ le 1 1 ++ zeros 2)
def wImg (id : Nat) : List Byte := (wImg0 id).take 36 ++ le 4 (crcWithout (wImg0 id) 36) ++ (wImg0 id).drop 40
def wC (code : Nat) (req : List Byte) : State := wCmd code req wRun
def wCF (code : Nat) (req : List Byte) (f : Rc8 → Rc8) : State := wCmd code req fun s => f (wRun s)
/-- The record of an axis without a function. -/
def wIdle : List Byte := [0, 0, 1, 0] ++ le 4 0 ++ le 4 0 ++ le 4 0 ++ le 4 1 ++ le 4 0 ++ le 4 1 ++ le 2 0 ++ le 2 0
/-- A safety set up to its axis record 3. -/
def wSetHead : List Byte :=
  le 4 0x31534653 ++ le 2 1 ++ le 2 3 ++ le 4 8512 ++ le 4 1050931657 ++ [0, 3, 5, 0] ++ le 4 600 ++ le 2 100 ++ zeros 38 ++ (wIdle ++ wIdle ++ wIdle) ++
  ([1, 2, 4, 0] ++ le 4 1000 ++ le 4 500 ++ le 4 0 ++ le 4 1000 ++ le 4 100 ++ le 4 900 ++ le 2 0 ++ le 2 0)
/-- The set after its axis records. -/
def wSetTail : List Byte :=
  (List.replicate 16 ([1, 0, 0, 0] ++ le 4 0)).flatten ++ (le 2 4 ++ [7, 0] ++ le 2 200 ++ le 2 10 ++ zeros 8) ++ (le 2 4 ++ [1, 0] ++ le 2 200 ++ le 2 10 ++ zeros 8) ++
  (List.replicate 6 (le 2 0 ++ [0, 0] ++ le 2 100 ++ le 2 1 ++ zeros 8)).flatten
def wSet : List Byte := wSetHead ++ ((List.replicate 252 wIdle).flatten ++ wSetTail)
def wSafe (s : Rc8) : Rc8 := { s with nv := { s.nv with safeActive := some wSet } }
def wHdr (id : Nat) (body : List Byte) : List Byte :=
  le 4 0x31475250 ++ le 2 1 ++ le 2 1 ++ le 8 id ++ le 4 16 ++ le 4 0 ++ le 4 64 ++ le 4 64 ++ [1, 4, 0, 1, 0, 0, 0, 0] ++ le 4 (512 + body.length) ++ le 4 0 ++
    sha256 body ++ ([0, 1] ++ le 2 1 ++ le 2 0 ++ le 2 0 ++ le 4 100000 ++ le 4 0) ++ zeros (512 - 96)
def wImgB (id : Nat) : List Byte := let b := wHdr id (zeros 64) ++ zeros 64; b.take 44 ++ le 4 (crcWithout b 44) ++ b.drop 48
def wEntry : TaskEntry := { core := 0, images := 1, period := 1, phase := 0, offset := 100000, entry := 0 }
def wTask (st : TaskSt) : Task := { Task.reset with cfg := some wEntry, st := st, seq := 4 }
def wTk (m : Mode) (f : Task → Task) (s : Rc8) : Rc8 := { s with run := { s.run with started := true, mode := m, mono := 1000, motionOut := [1,2], motionPrev := [0], setGen := 9, motionIn := [4,5], tasks := s.run.tasks.set 0 (f (wTask .waiting)) } }
def wTkS (m : Mode) (f : Task → Task) : State := wRunS.after (wTk m f)
def wRel : Milestone := { kind := 8, source := 1, param := 0, off := 100000, div := 1, phase := 0, enabled := true }
def wPkg (id : Nat) (marked : Nat) : Package := { id := 77, base := 5, newId := id, timeout := 1000, marked := marked, strict := false, image := parseImage (wImgB id), engine := [(3, le 2 1 ++ zeros 766)], learn := [], scheds := #v[none, none], check := 5 }
def wBlk (last : Byte) (d : List Byte) : List Byte := [last, 0, 0, 0] ++ le 4 d.length ++ le 4 0 ++ le 4 (crc32c d) ++ d
def wIm (b : Nat) (s : Rc8) : Rc8 := { wTk .stop id s with nv := { s.nv with active := some (parseImage (wImgB b)) } }
def wOut : CycleOut := { ns := 5000, motion := [7,8,9], station := [], data := [], granules := [(64, [1,2,3])], requests := [], calls := [], timers := [], edges := [] }
def wRn : State := wTkS .run fun t => { t with st := .running }

/-- A sequence that stands in no entry has not come with any type. -/
theorem notReceived {l : List (Nat × Nat)} {q : Nat} (h : (l.all fun x => x.2 != q) = true) (ty : Nat) : (ty, q) ∉ l := by
  intro m
  have := List.all_eq_true.mp h _ m
  simp at this

/-- No task of the module is within a cycle. -/
theorem noneRunning {s : Rc8} (h : ∀ t : Fin 8, ((s.run.tasks[t]).st == .running || (s.run.tasks[t]).st == .breakpoint) = false) :
    runningAffected s = [] := by
  unfold runningAffected
  split
  · rfl
  · exact List.filter_eq_nil_iff.mpr fun t _ => by rw [Bool.not_eq_true]; exact h t

theorem inAllTasks : ∀ t : Fin 8, t ∈ allTasks := by decide

/-- A running task that the package marks is affected. -/
theorem someRunning {s : Rc8} {k : Package} {old : Image} (t : Fin 8) (hp : s.nv.package = some k) (ha : s.nv.active = some old)
    (hm : k.marked.testBit t.val = true) (hc : ((old.task t.val).period != 0) = true) (hr : (s.run.tasks[t]).st = .running) :
    runningAffected s ≠ [] := by
  have h : t ∈ runningAffected s := by
    unfold runningAffected
    rw [hp]
    refine List.mem_filter.mpr ⟨?_, by rw [hr]; rfl⟩
    unfold affectedTasks
    rw [ha]
    refine List.mem_filter.mpr ⟨inAllTasks t, ?_⟩
    rw [hc, Bool.and_true]
    simp only [bitAt, affectedMask, Nat.testBit_or, hm, Bool.true_or]
  exact List.ne_nil_of_mem h

/-- A tail value that no count of entries between tail and head reaches. -/
theorem otherTail {v tail size head : Nat} (h : ∀ d < 2 ^ size, ∀ k < d + 1, v = (tail + k) % 2 ^ size → head ≠ (tail + d) % 2 ^ size) :
    ¬∃ k d, v = (tail + k) % 2 ^ size ∧ d < 2 ^ size ∧ k ≤ d ∧ head = (tail + d) % 2 ^ size := by
  rintro ⟨k, d, h1, h2, h3, h4⟩
  exact h d h2 k (by omega) h1 h4

/-- A function of a number that is computed first. -/
def strictly (f : Nat → Nat) : Nat → Nat
  | 0 => f 0
  | n + 1 => f (n + 1)

theorem strictly_eq (f : Nat → Nat) (n : Nat) : strictly f n = f n := by cases n <;> rfl

/-- The CRC's bytes one after another, each state computed before the next. -/
def crcRun : List Byte → Nat → Nat
  | [], c => c
  | b :: l, c => strictly (crcRun l) (crcByte c b)

theorem crcRun_eq (l : List Byte) (c : Nat) : crcRun l c = l.foldl crcByte c := by
  induction l generalizing c with
  | nil => rfl
  | cons b l ih => rw [crcRun, strictly_eq, ih, List.foldl_cons]

theorem wSet_crc : setCrcOk wSet = true := by
  have h : crcWithout wSet 12 = setCrc wSet := by
    unfold crcWithout crc32c
    rw [← crcRun_eq]
    decide +kernel
  unfold setCrcOk
  rw [h, beq_self_eq_true, Bool.and_true]
  decide +kernel

theorem setCrcOk_of {b : List Byte} (h : b = wSet) : setCrcOk b = true := h ▸ wSet_crc

/-- The set of the tests is active wherever it is stored. -/
theorem activeSet_of {s : Rc8} (h : s.nv.safeActive = some wSet) : activeSet s = some wSet := by
  unfold activeSet
  rw [h, Option.filter_some, if_pos wSet_crc]

/-- A filter that takes nothing. -/
theorem filterNone {f : Fin 8 → Bool} (l : List (Fin 8)) (h : ∀ j, f j = false) : l.filter f = [] :=
  List.filter_eq_nil_iff.mpr fun j _ => by rw [h j]; exact Bool.false_ne_true

theorem wCmd_found (code : Nat) (req : List Byte) (f : Rc8 → Rc8) : findChecked (wCmd code req f).toRc8 code 0 0 = some (wExec code req) := by
  simp [findChecked, wCmd, wExec, State.after]

/-- A record among equal ones. -/
theorem slice_records (A B r : List Byte) (h : r.length = 32) : ∀ n i, i < n → slice (A ++ ((List.replicate n r).flatten ++ B)) (A.length + 32 * i) 32 = r := by
  intro n
  induction n with
  | zero => intro i hi; omega
  | succ n ih =>
    intro i hi
    have hd : List.drop (A.length + 32 * i) (A ++ ((List.replicate (n + 1) r).flatten ++ B)) = List.drop (32 * i) ((List.replicate (n + 1) r).flatten ++ B) := by
      rw [List.drop_append, List.drop_eq_nil_of_le (by omega), List.nil_append, Nat.add_sub_cancel_left]
    cases i with
    | zero =>
      unfold slice padTo
      rw [hd, Nat.mul_zero, List.drop_zero, List.replicate_succ, List.flatten_cons, List.append_assoc, List.append_assoc, List.take_left' h]
    | succ i =>
      have := ih i (by omega)
      unfold slice at this ⊢
      rw [hd, List.replicate_succ, List.flatten_cons, List.append_assoc, show 32 * (i + 1) = r.length + 32 * i by omega, List.drop_append,
        List.drop_eq_nil_of_le (by omega), List.nil_append, Nat.add_sub_cancel_left]
      rwa [List.drop_append, List.drop_eq_nil_of_le (by omega), List.nil_append, Nat.add_sub_cancel_left] at this

/-- Every axis but axis 3 has the record without a function. -/
theorem wSet_axis (a : Nat) (h : a < 256) : a = 3 ∨ safeAxis wSet a = safeAxis wSet 0 := by
  by_cases h4 : a < 4
  · have : ∀ a : Fin 4, a.val = 3 ∨ safeAxis wSet a.val = safeAxis wSet 0 := by decide +kernel
    exact this ⟨a, h4⟩
  · right
    have hl : wSetHead.length = 192 := by decide +kernel
    have hs : slice wSet (64 + 32 * a) 32 = slice wSet (64 + 32 * 0) 32 := by
      rw [show 64 + 32 * a = wSetHead.length + 32 * (a - 4) by omega]
      unfold wSet
      rw [slice_records _ _ _ (by decide +kernel) _ _ (by omega)]
      decide +kernel
    unfold safeAxis
    rw [hs]

theorem wSet_tail : wSetTail = wSet.drop 8256 := by decide +kernel

theorem u8At_tail (i : Nat) : u8At wSet (8256 + i) = u8At wSetTail i := by
  unfold u8At
  rw [wSet_tail, List.getD_eq_getElem?_getD, List.getD_eq_getElem?_getD, List.getElem?_drop]

theorem u16At_tail (i : Nat) : u16At wSet (8256 + i) = u16At wSetTail i := by
  unfold u16At
  rw [u8At_tail, Nat.add_assoc, u8At_tail]

theorem u32At_tail (i : Nat) : u32At wSet (8256 + i) = u32At wSetTail i := by
  unfold u32At
  rw [u16At_tail, Nat.add_assoc, u16At_tail]

theorem groupKind_tail (g : Nat) : groupKind wSet g = u8At wSetTail (8 * g) := u8At_tail _

theorem groupTime_tail (g : Nat) : groupTime wSet g = u32At wSetTail (4 + 8 * g) := by
  unfold groupTime
  rw [show 8260 + 8 * g = 8256 + (4 + 8 * g) from Nat.add_assoc 8256 4 (8 * g), u32At_tail]

theorem outWidth_tail (j : Nat) : outWidth wSet j = u16At wSetTail (132 + 16 * j) := by
  unfold outWidth
  rw [show 8388 + 16 * j = 8256 + (132 + 16 * j) from Nat.add_assoc 8256 132 (16 * j), u16At_tail]

theorem outInterval_tail (j : Nat) : outInterval wSet j = u16At wSetTail (134 + 16 * j) := by
  unfold outInterval
  rw [show 8390 + 16 * j = 8256 + (134 + 16 * j) from Nat.add_assoc 8256 134 (16 * j), u16At_tail]

theorem setFieldsOk_of {b : List Byte}
    (h : (u32At b 0 == 0x31534653 && u16At b 4 == 1 && decide (1 ≤ setVersion b) && u32At b 8 == 8512 &&
      decide (1 ≤ crossLimit b ∧ crossLimit b ≤ 8 ∧ 3 ≤ lossLimit b ∧ lossLimit b ≤ 16 ∧ 1 ≤ detourTime b ∧ detourTime b ≤ 28800 ∧
        transitionTime b ≤ 2000)) = true)
    (ha : ∀ a < 256, safeAxisOk (safeAxis b a) = true) (hk : ∀ g : Fin 16, safeGroupOk b g.val = true)
    (ho : (List.range 8).all (safeOutOk b) = true) : setFieldsOk b = true := by
  have h1 : ((List.range 256).all fun a => safeAxisOk (safeAxis b a)) = true := List.all_eq_true.mpr fun a m => ha a (List.mem_range.mp m)
  have h2 : (List.range 16).all (safeGroupOk b) = true := List.all_eq_true.mpr fun g m => hk ⟨g, List.mem_range.mp m⟩
  unfold setFieldsOk
  rw [h, h1, h2, ho]
  rfl

theorem wSet_head_ok : (u32At wSet 0 == 0x31534653 && u16At wSet 4 == 1 && decide (1 ≤ setVersion wSet) && u32At wSet 8 == 8512 &&
    decide (1 ≤ crossLimit wSet ∧ crossLimit wSet ≤ 8 ∧ 3 ≤ lossLimit wSet ∧ lossLimit wSet ≤ 16 ∧ 1 ≤ detourTime wSet ∧
      detourTime wSet ≤ 28800 ∧ transitionTime wSet ≤ 2000)) = true := by decide +kernel

theorem wSet_axes_ok (a : Nat) (h : a < 256) : safeAxisOk (safeAxis wSet a) = true := by
  have h3 : safeAxisOk (safeAxis wSet 3) = true := by decide +kernel
  have h0 : safeAxisOk (safeAxis wSet 0) = true := by decide +kernel
  rcases wSet_axis a h with e | e
  · rw [e, h3]
  · rw [e, h0]

theorem wSet_kinds_ok : ∀ g : Fin 16, safeGroupOk wSet g.val = true := by
  simp only [safeGroupOk, groupKind_tail, groupTime_tail]
  decide +kernel

theorem wSet_outs_ok : (List.range 8).all (safeOutOk wSet) = true := by
  have h : ∀ j, safeOutOk wSet j = decide (100 ≤ u16At wSetTail (132 + 16 * j) ∧ u16At wSetTail (132 + 16 * j) ≤ 500 ∧
      1 ≤ u16At wSetTail (134 + 16 * j) ∧ u16At wSetTail (134 + 16 * j) ≤ 3600) := fun j => by
    unfold safeOutOk
    rw [outWidth_tail, outInterval_tail]
  rw [funext h]
  decide +kernel

theorem wSet_fields : setFieldsOk wSet = true := setFieldsOk_of wSet_head_ok wSet_axes_ok wSet_kinds_ok wSet_outs_ok

/-- The set of the tests as the one block that brings it. -/
def wBlkS : List Byte := [1, 0, 0, 0] ++ le 4 8512 ++ le 4 0 ++ zeros 4 ++ wSet

theorem wSet_block (l : Option BlockLoad) : (blockTake l (wExec 0x802 wBlkS)).data = wSet := rfl

theorem setFieldsOk_eq {b : List Byte} (h : b = wSet) : setFieldsOk b = true := h ▸ wSet_fields

namespace W0

/-- A module on its way whose queue holds one command. -/
def queued : State := State.reset.withPending [.roundBoundary]
/-- HP0 with its ring enabled. -/
def ringOn : State := State.reset.after fun s => { s with hp := s.hp.set 0 { s.hp[0] with evq := { s.hp[0].evq with enable := true } } }
/-- A configuration event. -/
def anEvent : Ev := { src := 96, reason := 4, sev := .info, p0 := 1, p1 := 2, p2 := 0 }
/-- The recorder's buffer ends with that event. -/
def repeated : Rc8 := raise anEvent State.reset.toRc8
/-- The recorder's buffer is full. -/
def full : Rc8 := { State.reset.toRc8 with rcd := { State.reset.rcd with waiting := 4096 } }

theorem test_stepRunsTheFrontCommand_met : queued.pending = .roundBoundary :: [] := rfl
theorem test_emptyQueueIdles_met : State.reset.pending = [] := rfl
theorem test_stepKeepsConfigurable_met : queued.configurable = true ∧ ∃ t : State, step queued = .next t :=
  ⟨by decide +kernel, _, rfl⟩
theorem test_rightsTableOnlyByItsCommand_met : (∀ p m stored, Instr.roundBoundary ≠ .setHostRights p m stored) ∧
    ∃ t : State, exec .roundBoundary State.reset = .next t :=
  ⟨fun _ _ _ => Instr.noConfusion, _, rfl⟩
theorem test_everySendableCommandCompletes_met : Instr.wf .roundBoundary = true ∧ Instr.wf (.mailboxWrite 0 0 []) = false := by decide
theorem test_sendableQueueRunsOn_met : queued.queueWf = true := by decide
theorem test_eventsAreRecordedAndChangeNothingElse_met : (State.reset.hp[1]).evq.enable = false ∧
    recMatches repeated.rcd anEvent.code anEvent.p0 anEvent.p1 = true ∧
    (recMatches full.rcd anEvent.code anEvent.p0 anEvent.p1 = false ∧ 4096 ≤ full.rcd.waiting) ∧
    (recMatches State.reset.rcd anEvent.code anEvent.p0 anEvent.p1 = false ∧ State.reset.rcd.waiting < 4096) := by decide +kernel
theorem test_ringWriteFailed_met : (ringOn.hp[0]).evq.enable = true ∧ (ringOn.hp[0]).evq.head < 2 ^ (ringOn.hp[0]).evq.size := by
  decide +kernel

end W0

/-! States (s1_…) and operands (w…) for RingCountsItsLosses, RingTailWrite, RingEnable. -/

namespace W1

def rev : Ev := { src := 120, reason := 2, sev := .info, p0 := 5, p1 := 6, p2 := 7 }
def sRing (size head tail lc : Nat) : State := State.reset.after fun s => modPort 1 (fun h => { h with link := true, evq := { h.evq with enable := true, base := 0x1000, headAddr := 0x2000, size := size, head := head, tail := tail, lossCount := lc, lossFirst := 3, lossLast := 4, lost := 1 } }) s
def s1_1 : State := sRing 6 3 4 0
def s1_4 : State := sRing 6 63 3 0
def s1_5 : State := sRing 6 10 11 2
def s1_6 : State := sRing 6 63 0 2
def s1_7 : State := sRing 6 10 5 0
def s1_8 : State := sRing 6 2 60 3
def s1_9 : State := sRing 6 4 5 0
def sOff (size base : Nat) : State := (sRing size 1 1 1).after (modPort 1 fun h => { h with evq := { h.evq with enable := false, base := base } })
def s1_10 : State := sOff 6 0
def s1_11 : State := sOff 5 9
def s1_12 : State := sOff 6 9
def s1_13 : State := sOff 17 9

theorem test_ringCountsItsLosses_met :
  ((s1_1.hp[1].evq.enable = true) ∧ (s1_1.hp[1].evq.selects rev.src = true) ∧ (portFrozen 1 s1_1.toRc8 = false)) ∧
  ((s1_4.hp[1].evq.enable = true) ∧ (s1_4.hp[1].evq.selects rev.src = true) ∧ (portFrozen 1 s1_4.toRc8 = false)) ∧
  ((s1_5.hp[1].link = true) ∧ (portFrozen 1 s1_5.toRc8 = false) ∧ (s1_5.hp[1].evq.tailValid ((15#32).toNat % 65536) = true)) ∧
  ((s1_6.hp[1].link = true) ∧ (portFrozen 1 s1_6.toRc8 = false) ∧ (s1_6.hp[1].evq.tailValid ((15#32).toNat % 65536) = true)) ∧
  ((s1_7.hp[1].link = true) ∧ (portFrozen 1 s1_7.toRc8 = false) ∧ (s1_7.hp[1].evq.tailValid ((7#32).toNat % 65536) = true)) := by and_intros <;> decide +kernel

theorem test_ringTailWrite_met :
  ((s1_7.hp[1].link = true) ∧ (portFrozen 1 s1_7.toRc8 = false) ∧ (s1_7.hp[1].evq.tail < 2 ^ s1_7.hp[1].evq.size) ∧ (s1_7.hp[1].evq.head < 2 ^ s1_7.hp[1].evq.size) ∧ ((10#32).toNat % 65536 = (s1_7.hp[1].evq.tail + 5) % 2 ^ s1_7.hp[1].evq.size) ∧ (5 < 2 ^ s1_7.hp[1].evq.size) ∧ (5 ≤ 5) ∧ (s1_7.hp[1].evq.head = (s1_7.hp[1].evq.tail + 5) % 2 ^ s1_7.hp[1].evq.size)) ∧
  ((s1_7.hp[1].link = true) ∧ (portFrozen 1 s1_7.toRc8 = false) ∧ (s1_7.hp[1].evq.tail < 2 ^ s1_7.hp[1].evq.size) ∧ (s1_7.hp[1].evq.head < 2 ^ s1_7.hp[1].evq.size) ∧ ((5#32).toNat % 65536 = (s1_7.hp[1].evq.tail + 0) % 2 ^ s1_7.hp[1].evq.size) ∧ (5 < 2 ^ s1_7.hp[1].evq.size) ∧ (0 ≤ 5) ∧ (s1_7.hp[1].evq.head = (s1_7.hp[1].evq.tail + 5) % 2 ^ s1_7.hp[1].evq.size)) ∧
  ((s1_8.hp[1].link = true) ∧ (portFrozen 1 s1_8.toRc8 = false) ∧ (s1_8.hp[1].evq.tail < 2 ^ s1_8.hp[1].evq.size) ∧ (s1_8.hp[1].evq.head < 2 ^ s1_8.hp[1].evq.size) ∧ ((0#32).toNat % 65536 = (s1_8.hp[1].evq.tail + 4) % 2 ^ s1_8.hp[1].evq.size) ∧ (6 < 2 ^ s1_8.hp[1].evq.size) ∧ (4 ≤ 6) ∧ (s1_8.hp[1].evq.head = (s1_8.hp[1].evq.tail + 6) % 2 ^ s1_8.hp[1].evq.size)) ∧
  ((s1_7.hp[1].link = true) ∧ (portFrozen 1 s1_7.toRc8 = false) ∧ (s1_7.hp[1].evq.tail < 2 ^ s1_7.hp[1].evq.size) ∧ (s1_7.hp[1].evq.head < 2 ^ s1_7.hp[1].evq.size) ∧ (¬∃ k d, (11#32).toNat % 65536 = (s1_7.hp[1].evq.tail + k) % 2 ^ s1_7.hp[1].evq.size ∧ d < 2 ^ s1_7.hp[1].evq.size ∧ k ≤ d ∧ s1_7.hp[1].evq.head = (s1_7.hp[1].evq.tail + d) % 2 ^ s1_7.hp[1].evq.size)) ∧
  ((s1_7.hp[1].link = true) ∧ (portFrozen 1 s1_7.toRc8 = false) ∧ (s1_7.hp[1].evq.tail < 2 ^ s1_7.hp[1].evq.size) ∧ (s1_7.hp[1].evq.head < 2 ^ s1_7.hp[1].evq.size) ∧ (¬∃ k d, (70#32).toNat % 65536 = (s1_7.hp[1].evq.tail + k) % 2 ^ s1_7.hp[1].evq.size ∧ d < 2 ^ s1_7.hp[1].evq.size ∧ k ≤ d ∧ s1_7.hp[1].evq.head = (s1_7.hp[1].evq.tail + d) % 2 ^ s1_7.hp[1].evq.size)) ∧
  ((s1_7.hp[1].link = true) ∧ (portFrozen 1 s1_7.toRc8 = false) ∧ (s1_7.hp[1].evq.tail < 2 ^ s1_7.hp[1].evq.size) ∧ (s1_7.hp[1].evq.head < 2 ^ s1_7.hp[1].evq.size) ∧ (¬∃ k d, (4#32).toNat % 65536 = (s1_7.hp[1].evq.tail + k) % 2 ^ s1_7.hp[1].evq.size ∧ d < 2 ^ s1_7.hp[1].evq.size ∧ k ≤ d ∧ s1_7.hp[1].evq.head = (s1_7.hp[1].evq.tail + d) % 2 ^ s1_7.hp[1].evq.size)) := ⟨by decide +kernel,
    by decide +kernel,
    by decide +kernel,
    ⟨by decide +kernel, by decide +kernel, by decide +kernel, by decide +kernel, otherTail (by decide +kernel)⟩,
    ⟨by decide +kernel, by decide +kernel, by decide +kernel, by decide +kernel, otherTail (by decide +kernel)⟩,
    ⟨by decide +kernel, by decide +kernel, by decide +kernel, by decide +kernel, otherTail (by decide +kernel)⟩⟩

theorem test_ringEnable_met :
  ((s1_9.hp[1].link = true) ∧ (portFrozen 1 s1_9.toRc8 = false)) ∧
  ((s1_10.hp[1].link = true) ∧ (portFrozen 1 s1_10.toRc8 = false)) ∧
  ((s1_11.hp[1].link = true) ∧ (portFrozen 1 s1_11.toRc8 = false)) ∧
  ((s1_12.hp[1].link = true) ∧ (portFrozen 1 s1_12.toRc8 = false)) ∧
  ((s1_13.hp[1].link = true) ∧ (portFrozen 1 s1_13.toRc8 = false)) := by and_intros <;> decide +kernel

end W1

/-! States (s2_…) and operands (w…) for MailboxWrites, DoorbellsAndMailboxErrors, RegistersAndVectors, PortResetsAreLocal, TimedMessages. -/

namespace W2

def sPort (f : HostPort → HostPort) : State := State.reset.after fun s => modPort 2 (fun h => f { h with link := true }) s
def sMbx (st : MbxState) (mem : Mem) (ls : Option Nat) : State := sPort fun h => { h with mbx := h.mbx.set 3 { state := st, mem := mem, lastSeq := ls, order := 0 } }
def s2_1 : State := sMbx .free [] none
def s2_2 : State := sMbx .done [] none
def s2_3 : State := sMbx .busy [] none
def s2_4 : State := sMbx .posted [] none
def s2_5 : State := sMbx .free [] (some 0)
def s2_6 : State := sMbx .free [(17, 3), (19, 8)] none
def sReg : State := sPort fun h => { h with mbxDone := 0x5A, mbxError := 0x1FF, mbxErrorCount := 7, tickRound := 0x123456789AB, latchBase := some 5, scratch := 77, evq := { h.evq with base := 0xABCDEF0000, lost := 8, configError := true, tailError := true, dmaError := true } }
def sRegOn : State := sReg.after (modPort 2 fun h => { h with evq := { h.evq with enable := true } })
def sPend : State := sReg.after (modPort 2 fun h => { h with msix := h.msix.set 1 { addr := 5, data := 6, masked := true, pend := true } })
def sPR : State := { sRegOn with execs := [{ wExec 1 [] with port := 2 }, wExec 2 []] , saf := { sRegOn.saf with sess := Vector.replicate 4 (some { operator := [], last := 0, first := false }) } }
def sOn : State := State.reset.after fun s => { s with pwr := { s.pwr with powered := true } }
def sTm : State := sReg.after (modPort 2 fun h => { h with evq := { h.evq with enable := true, uninterrupted := 3 } })
def sTm2 : State := sTm.after (modPort 2 fun h => { h with msix := Vector.replicate 4 { addr := 5, data := 6, masked := false, pend := false } })

theorem test_mailboxWrites_met :
  ((s2_1.hp[2].link = true) ∧ (portFrozen 2 s2_1.toRc8 = false) ∧ (1 ≤ [some 1, some 2, some 3, none, some 4].length) ∧ ([some 1, some 2, some 3, none, some 4].length ≤ 256) ∧ (16 + [some 1, some 2, some 3, none, some 4].length ≤ 4096)) ∧
  ((s2_2.hp[2].link = true) ∧ (portFrozen 2 s2_2.toRc8 = false) ∧ (1 ≤ [some 1, some 2, some 0, none, some 4].length) ∧ ([some 1, some 2, some 0, none, some 4].length ≤ 256) ∧ (16 + [some 1, some 2, some 0, none, some 4].length ≤ 4096)) ∧
  ((s2_2.hp[2].link = true) ∧ (portFrozen 2 s2_2.toRc8 = false) ∧ (1 ≤ [some 1, some 2, some 1, none, some 4].length) ∧ ([some 1, some 2, some 1, none, some 4].length ≤ 256) ∧ (16 + [some 1, some 2, some 1, none, some 4].length ≤ 4096)) ∧
  ((s2_2.hp[2].link = true) ∧ (portFrozen 2 s2_2.toRc8 = false) ∧ (1 ≤ [some 0].length) ∧ ([some 0].length ≤ 256) ∧ (18 + [some 0].length ≤ 4096)) ∧
  ((s2_3.hp[2].link = true) ∧ (portFrozen 2 s2_3.toRc8 = false) ∧ (1 ≤ [some 0].length) ∧ ([some 0].length ≤ 256) ∧ (18 + [some 0].length ≤ 4096)) ∧
  ((s2_4.hp[2].link = true) ∧ (portFrozen 2 s2_4.toRc8 = false) ∧ (1 ≤ [some 0].length) ∧ ([some 0].length ≤ 256) ∧ (4095 + [some 0].length ≤ 4096)) :=
  by and_intros <;> decide +kernel

theorem test_doorbellsAndMailboxErrors_met :
  ((s2_1.hp[2].link = true) ∧ (portFrozen 2 s2_1.toRc8 = false) ∧ ((3#32).toNat % 8 = 3) ∧ (s2_1.hp[2].mbx[3].state = MbxState.free) ∧ (s2_1.hp[2].mbx[3].lastSeq ≠ some s2_1.hp[2].mbx[3].headerSeq) ∧ (s2_1.hp[2].mbx[3].headerSeq % 2 ^ 24 = (3#32).toNat / 256)) ∧
  ((s2_5.hp[2].link = true) ∧ (portFrozen 2 s2_5.toRc8 = false) ∧ ((4294967051#32).toNat % 8 = 3) ∧ (s2_5.hp[2].mbx[3].state = MbxState.free) ∧ (s2_5.hp[2].mbx[3].lastSeq = some s2_5.hp[2].mbx[3].headerSeq)) ∧
  ((s2_6.hp[2].link = true) ∧ (portFrozen 2 s2_6.toRc8 = false) ∧ ((259#32).toNat % 8 = 3) ∧ (s2_6.hp[2].mbx[3].state = MbxState.free) ∧ (s2_6.hp[2].mbx[3].lastSeq ≠ some s2_6.hp[2].mbx[3].headerSeq) ∧ (s2_6.hp[2].mbx[3].headerSeq % 2 ^ 24 ≠ (259#32).toNat / 256) ∧ (Mem.wf s2_6.hp[2].mbx[3].mem = true)) ∧
  ((s2_3.hp[2].link = true) ∧ (portFrozen 2 s2_3.toRc8 = false) ∧ ((3#32).toNat % 8 = 3) ∧ (s2_3.hp[2].mbx[3].state ≠ MbxState.free)) :=
  by and_intros <;> decide +kernel

theorem test_registersAndVectors_met :
  ((sReg.hp[2].link = true) ∧ (portFrozen 2 sReg.toRc8 = false) ∧ (sReg.hp[2].latchBase = some 5)) ∧
  ((sRegOn.hp[2].link = true) ∧ (portFrozen 2 sRegOn.toRc8 = false) ∧ (1 ≤ 2) ∧ (2 ≤ 256) ∧ (2 ≠ 4 ∨ 144 % 4 ≠ 0) ∧ (144 < 4096)) ∧
  ((sRegOn.hp[2].link = true) ∧ (portFrozen 2 sRegOn.toRc8 = false) ∧ (1 ≤ 4) ∧ (4 ≤ 256) ∧ (4 ≠ 4 ∨ 145 % 4 ≠ 0) ∧ (145 < 4096)) ∧
  ((sRegOn.hp[2].link = true) ∧ (portFrozen 2 sRegOn.toRc8 = false) ∧ (1 ≤ 256) ∧ (256 ≤ 256) ∧ (256 ≠ 4 ∨ 4095 % 4 ≠ 0) ∧ (4095 < 4096)) ∧
  ((State.reset.hp[2].link = false) ∧ (144 < 4096)) ∧
  ((sPend.hp[2].link = true) ∧ (portFrozen 2 sPend.toRc8 = false)) :=
  by and_intros <;> decide +kernel

theorem test_portResetsAreLocal_met :
  ((sPR.hp[2].link = true) ∧ (portFrozen 2 sPR.toRc8 = false)) ∧
  (State.reset.hp[1].link = false) ∧
  (sPR.hp[2].link = true ∨ sPR.pwr.powered = false) ∧
  ((sOn.hp[1].link = false) ∧ (sOn.pwr.powered = true)) :=
  by and_intros <;> decide +kernel

theorem test_timedMessages_met :
  (portFrozen 2 sRegOn.toRc8 = false) ∧
  ((portFrozen 2 sTm.toRc8 = false) ∧ (0 < sTm.hp[2].evq.uninterrupted)) ∧
  ((portFrozen 2 sTm2.toRc8 = false) ∧ (0 < sTm2.hp[2].evq.uninterrupted)) :=
  by and_intros <;> decide +kernel

end W2

/-! States (s3_…) and operands (w…) for CommandLife. -/

namespace W3

def hdr (code len : Nat) (req : List Byte) : Mem := memWriteN (memWriteN (memWriteN (memWriteN [] 0 (le 2 code)) 8 (le 4 len)) 12 (le 4 4032)) 64 req
def sPosted (p : Fin 4) (m : Fin 8) (code len : Nat) (req : List Byte) : State := State.reset.after fun s =>
  { modPort p (fun h => { h with link := true, mbx := (h.mbx.set m { state := .posted, mem := hdr code len req, lastSeq := none, order := 3 }).set 5 { state := .posted, mem := [], lastSeq := none, order := 4 } }) s with svpReady := true }
def s3_1 : State := sPosted 2 3 0x7777 0 []
def s3_2 : State := sPosted 2 0 0x7777 0 []
def s3_3 : State := sPosted 2 3 0x0101 4 [1,0,0,0]
def sEng (p : Fin 4) (m : Fin 8) (code len : Nat) (req : List Byte) : State := (sPosted p m code len req).after fun s => { s with nv := { s.nv with rights := s.nv.rights.set 0 { s.nv.rights[0] with cls := .engineer } } }
def s3_4 : State := sPosted 0 3 0x0001 0 []
def sMW : State := sEng 0 3 0x0A41 8 (le 4 0 ++ le 2 0 ++ zeros 2)
def sEnd (st : Status) (resp : List Byte) (ps pr : Bool) : State := State.reset.after fun s => { s with execs := [{ wExec 1 [] with phase := .ended st resp, pendingSent := ps, portReset := pr }, { wExec 1 [] with id := 8 }] }
def eEnd (st : Status) (resp : List Byte) (ps pr : Bool) : Exec := { wExec 1 [] with phase := .ended st resp, pendingSent := ps, portReset := pr }
def s3_5 : State := sEnd .done [1,2,3] false false
def s3_6 : State := sEnd .done (zeros 4032) false false
def s3_7 : State := sEnd .done [1,2,3] true false
def s3_8 : State := sEnd .done [1,2,3] false true
def eRul : Exec := { wExec 1 [] with phase := .ended .done [], rules := some 6 }
def sRul : State := State.reset.after fun s => { s with execs := [eRul], itg := { s.itg with waiting := [(6, 5, false)] } }
def sWait (code : Nat) : State := State.reset.after fun s => { s with execs := [{ wExec code [] with phase := .waiting }] }
def s3_9 : State := sWait 0x103
def x3_10 := { wExec 0x103 [] with phase := .waiting }
def s3_11 : State := sWait 0x404
def x3_12 := { wExec 0x404 [] with phase := .waiting }

theorem test_commandLife_met :
  ((specOf (commandOf 2 3 s3_3.toRc8).code = some specSetMode) ∧ (s3_3.svpReady = true) ∧ (svpRuns s3_3.toRc8 = true) ∧ (nextMailbox s3_3.toRc8 = some (2, 3)) ∧ (checkForm specSetMode s3_3.hp[2].mbx[3].reqLen (commandOf 2 3 s3_3.toRc8) = none) ∧ ((rightsInForce 2 s3_3.toRc8).cls.code < specSetMode.cls.code) ∧ (Mem.wf s3_3.hp[2].mbx[3].mem = true)) ∧
  ((specOf (commandOf 0 3 s3_4.toRc8).code = some specIdentify) ∧ (s3_4.svpReady = true) ∧ (svpRuns s3_4.toRc8 = true) ∧ (nextMailbox s3_4.toRc8 = some (0, 3)) ∧ (specIdentify.session = false) ∧ (checkCommand specIdentify s3_4.hp[0].mbx[3].reqLen (commandOf 0 3 s3_4.toRc8) (have __src := modMbx 0 3 (fun b => { state := MbxState.busy, mem := b.mem, lastSeq := b.lastSeq, order := b.order }) s3_4.toRc8; { ident := __src.ident, clk := __src.clk, svpReady := __src.svpReady, hp := __src.hp, execs := __src.execs, nextExec := s3_4.nextExec + 1, arrivals := __src.arrivals, limits := __src.limits, bar2 := __src.bar2, out := __src.out, rcd := __src.rcd, rnd := __src.rnd, net := __src.net, sch := __src.sch, eng := __src.eng, learn := __src.learn, tablesRestored := __src.tablesRestored, run := __src.run, chg := __src.chg, pair := __src.pair, saf := __src.saf, itg := __src.itg, tim := __src.tim, eth := __src.eth, peers := __src.peers, can := __src.can, ffe := __src.ffe, pwr := __src.pwr, restartAt := __src.restartAt, trialFrom := __src.trialFrom, expiryHandover := __src.expiryHandover, nv := __src.nv }) = none) ∧ (specIdentify.busy (have __src := modMbx 0 3 (fun b => { state := MbxState.busy, mem := b.mem, lastSeq := b.lastSeq, order := b.order }) s3_4.toRc8; { ident := __src.ident, clk := __src.clk, svpReady := __src.svpReady, hp := __src.hp, execs := __src.execs, nextExec := s3_4.nextExec + 1, arrivals := __src.arrivals, limits := __src.limits, bar2 := __src.bar2, out := __src.out, rcd := __src.rcd, rnd := __src.rnd, net := __src.net, sch := __src.sch, eng := __src.eng, learn := __src.learn, tablesRestored := __src.tablesRestored, run := __src.run, chg := __src.chg, pair := __src.pair, saf := __src.saf, itg := __src.itg, tim := __src.tim, eth := __src.eth, peers := __src.peers, can := __src.can, ffe := __src.ffe, pwr := __src.pwr, restartAt := __src.restartAt, trialFrom := __src.trialFrom, expiryHandover := __src.expiryHandover, nv := __src.nv }) = false) ∧ ((commandOf 0 3 s3_4.toRc8).code ≠ 2625)) ∧
  ((specOf (commandOf 0 3 sMW.toRc8).code = some specMilestoneWrite) ∧ (sMW.svpReady = true) ∧ (svpRuns sMW.toRc8 = true) ∧ (nextMailbox sMW.toRc8 = some (0, 3)) ∧ (specMilestoneWrite.session = false) ∧ (checkCommand specMilestoneWrite sMW.hp[0].mbx[3].reqLen (commandOf 0 3 sMW.toRc8) (have __src := modMbx 0 3 (fun b => { state := MbxState.busy, mem := b.mem, lastSeq := b.lastSeq, order := b.order }) sMW.toRc8; { ident := __src.ident, clk := __src.clk, svpReady := __src.svpReady, hp := __src.hp, execs := __src.execs, nextExec := sMW.nextExec + 1, arrivals := __src.arrivals, limits := __src.limits, bar2 := __src.bar2, out := __src.out, rcd := __src.rcd, rnd := __src.rnd, net := __src.net, sch := __src.sch, eng := __src.eng, learn := __src.learn, tablesRestored := __src.tablesRestored, run := __src.run, chg := __src.chg, pair := __src.pair, saf := __src.saf, itg := __src.itg, tim := __src.tim, eth := __src.eth, peers := __src.peers, can := __src.can, ffe := __src.ffe, pwr := __src.pwr, restartAt := __src.restartAt, trialFrom := __src.trialFrom, expiryHandover := __src.expiryHandover, nv := __src.nv }) = none) ∧ (specMilestoneWrite.busy (have __src := modMbx 0 3 (fun b => { state := MbxState.busy, mem := b.mem, lastSeq := b.lastSeq, order := b.order }) sMW.toRc8; { ident := __src.ident, clk := __src.clk, svpReady := __src.svpReady, hp := __src.hp, execs := __src.execs, nextExec := sMW.nextExec + 1, arrivals := __src.arrivals, limits := __src.limits, bar2 := __src.bar2, out := __src.out, rcd := __src.rcd, rnd := __src.rnd, net := __src.net, sch := __src.sch, eng := __src.eng, learn := __src.learn, tablesRestored := __src.tablesRestored, run := __src.run, chg := __src.chg, pair := __src.pair, saf := __src.saf, itg := __src.itg, tim := __src.tim, eth := __src.eth, peers := __src.peers, can := __src.can, ffe := __src.ffe, pwr := __src.pwr, restartAt := __src.restartAt, trialFrom := __src.trialFrom, expiryHandover := __src.expiryHandover, nv := __src.nv }) = false) ∧ ((commandOf 0 3 sMW.toRc8).code = 2625)) ∧
  ((s3_2.svpReady = true) ∧ (svpRuns s3_2.toRc8 = true) ∧ (nextMailbox s3_2.toRc8 = some (2, 0))) ∧
  ((s3_1.svpReady = true) ∧ (svpRuns s3_1.toRc8 = true) ∧ (nextMailbox s3_1.toRc8 = some (2, 3)) ∧ (specOf (commandOf 2 3 s3_1.toRc8).code = none) ∧ (Mem.wf s3_1.hp[2].mbx[3].mem = true)) ∧
  ((List.find? (fun x => x.id == (eEnd Status.done [1, 2, 3] false false).id) s3_5.execs = some (eEnd Status.done [1, 2, 3] false false)) ∧ ((eEnd Status.done [1, 2, 3] false false).phase = Phase.ended Status.done [1, 2, 3]) ∧ ((eEnd Status.done [1, 2, 3] false false).task = none) ∧ ((eEnd Status.done [1, 2, 3] false false).rulesMet s3_5.toRc8 = true) ∧ ((eEnd Status.done [1, 2, 3] false false).portReset = false) ∧ ((eEnd Status.done [1, 2, 3] false false).pendingSent = false) ∧ ([1, 2, 3].length ≤ 4032) ∧ (Mem.wf s3_5.hp[(eEnd Status.done [1, 2, 3] false false).port].mbx[(eEnd Status.done [1, 2, 3] false false).mbx].mem = true)) ∧
  ((List.find? (fun x => x.id == (eEnd Status.done (zeros 4032) false false).id) s3_6.execs = some (eEnd Status.done (zeros 4032) false false)) ∧ ((eEnd Status.done (zeros 4032) false false).phase = Phase.ended Status.done (zeros 4032)) ∧ ((eEnd Status.done (zeros 4032) false false).task = none) ∧ ((eEnd Status.done (zeros 4032) false false).rulesMet s3_6.toRc8 = true) ∧ ((eEnd Status.done (zeros 4032) false false).portReset = false) ∧ ((eEnd Status.done (zeros 4032) false false).pendingSent = false) ∧ ((zeros 4032).length ≤ 4032) ∧ (Mem.wf s3_6.hp[(eEnd Status.done (zeros 4032) false false).port].mbx[(eEnd Status.done (zeros 4032) false false).mbx].mem = true)) ∧
  ((List.find? (fun x => x.id == (eEnd Status.done [1, 2, 3] true false).id) s3_7.execs = some (eEnd Status.done [1, 2, 3] true false)) ∧ ((eEnd Status.done [1, 2, 3] true false).phase = Phase.ended Status.done [1, 2, 3]) ∧ ((eEnd Status.done [1, 2, 3] true false).task = none) ∧ ((eEnd Status.done [1, 2, 3] true false).rulesMet s3_7.toRc8 = true) ∧ ((eEnd Status.done [1, 2, 3] true false).portReset = false) ∧ ((eEnd Status.done [1, 2, 3] true false).pendingSent = true)) ∧
  ((List.find? (fun x => x.id == (eEnd Status.done [1, 2, 3] false true).id) s3_8.execs = some (eEnd Status.done [1, 2, 3] false true)) ∧ ((eEnd Status.done [1, 2, 3] false true).phase = Phase.ended Status.done [1, 2, 3]) ∧ ((eEnd Status.done [1, 2, 3] false true).task = none) ∧ ((eEnd Status.done [1, 2, 3] false true).rulesMet s3_8.toRc8 = true) ∧ ((eEnd Status.done [1, 2, 3] false true).portReset = true) ∧ ((eEnd Status.done [1, 2, 3] false true).pendingSent = false)) ∧
  ((List.find? (fun x => x.id == eRul.id) sRul.execs = some eRul) ∧ (eRul.phase = Phase.ended Status.done []) ∧ (eRul.task = none) ∧ (eRul.rulesMet sRul.toRc8 = false)) ∧
  ((List.find? (fun x => x.id == x3_10.id) s3_9.execs = some x3_10) ∧ (x3_10.phase = Phase.waiting) ∧ (x3_10.pendingSent = false) ∧ (x3_10.portReset = false) ∧ (Mem.wf s3_9.hp[x3_10.port].mbx[x3_10.mbx].mem = true) ∧ (x3_10.task = none) ∧ (neverPends x3_10.code = false)) ∧
  ((List.find? (fun x => x.id == x3_12.id) s3_11.execs = some x3_12) ∧ (x3_12.phase = Phase.waiting) ∧ (x3_12.pendingSent = false) ∧ (x3_12.portReset = false) ∧ (Mem.wf s3_11.hp[x3_12.port].mbx[x3_12.mbx].mem = true) ∧ (x3_12.task = none) ∧ (neverPends x3_12.code = true)) :=
  ⟨⟨rfl, by and_intros <;> decide +kernel⟩,
    ⟨rfl, by and_intros <;> decide +kernel⟩,
    ⟨rfl, by and_intros <;> decide +kernel⟩,
    by and_intros <;> decide +kernel⟩

end W3

/-! States and operands for ReadCommandsAnswer, ReadsAnswerTheState. -/

namespace W4

def rq : List Byte := [1,2,3,0,5,0,7,8,9,10,11,12,13,14,15,16]
def rq0 : List Byte := zeros 16
def st (c : Nat) : State := wCmd c rq id
def st0 (c : Nat) : State := wCmd c rq0 id
def s4_73 : State := st 0x0E07
def sDat : State := wCmd 0x0E07 rq fun s => { s with run := { s.run with data := [(0x30203, 7)] } }
def sDab : State := wCmd 0x0E07 rq fun s => { s with run := { s.run with tasks := s.run.tasks.set 0 { s.run.tasks[0] with st := .running } } }
def s4_74 : State := st0 0x0503
/-- The codes of the commands that read and answer. -/
def readCodes : List Nat :=
  [0x0001, 0x0003, 0x0004, 0x0011, 0x0102, 0x0105, 0x0204, 0x0303, 0x0401, 0x0402,
   0x0403, 0x0410, 0x0414, 0x0415, 0x0501, 0x0702, 0x0805, 0x0806, 0x0902, 0x0903,
   0x0904, 0x0905, 0x0A02, 0x0A11, 0x0A21, 0x0A40, 0x0A43, 0x0B02, 0x0B07, 0x0C03,
   0x0D06, 0x0E03, 0x0F01, 0x0508, 0x0601, 0x0604, 0x0301, 0x0804]

theorem test_readCommandsAnswer_met :
  (∀ c ∈ readCodes, findChecked (st c).toRc8 c 0 0 = some (wExec c rq) ∧ findChecked (st0 c).toRc8 c 0 0 = some (wExec c rq0)) ∧
  ((findChecked s4_73.toRc8 3591 0 0 = some (wExec 3591 rq)) ∧ (dataStill s4_73.toRc8 = true)) ∧
  ((findChecked sDat.toRc8 3591 0 0 = some (wExec 3591 rq)) ∧ (dataStill sDat.toRc8 = true)) ∧
  ((findChecked sDab.toRc8 3591 0 0 = some (wExec 3591 rq)) ∧ (dataStill sDab.toRc8 = false) ∧ (u16At (wExec 3591 rq).req 4 ≤ [1, 2, 3, 4, 5, 6].length)) ∧
  ((findChecked s4_74.toRc8 1283 0 0 = some (wExec 1283 rq0)) ∧ (u8At (wExec 1283 rq0).req 2 = 0)) :=
  ⟨fun c _ => ⟨wCmd_found c rq id, wCmd_found c rq0 id⟩, by and_intros <;> decide +kernel⟩

theorem test_readsAnswerTheState_met :
  ∀ c ∈ [0x0102, 0x0003, 0x0011, 0x0A43, 0x0002, 0x0B04], findChecked (st c).toRc8 c 0 0 = some (wExec c rq) :=
  fun c _ => wCmd_found c rq id

end W4

/-! States (s5_…) and operands (w…) for SetHostRightsOutcomes, MilestonesOfTheRound, LaunchesAndTheirFrames. -/

namespace W5

def sR (req : List Byte) : State := wCmd 0x10 req id
def s5_1 : State := sR [2,0,1]
def s5_2 : State := sR [0,1,1]
def s5_3 : State := sR [2,3,31]
def s5_4 : State := sR [0,2,30]
def eRt (old : Rights) (n : Option Nat) : Exec := { wExec 0x10 [] with phase := .ended .done [], rules := n, rights := some (2, old) }
def sRt (old : Rights) : State := State.reset.after fun s => { s with execs := [eRt old (some 4)], saf := { s.saf with sess := Vector.replicate 4 (some { operator := [], last := 6, first := true }) } }
def oldA : Rights := { cls := .safety, grants := 3 }
def oldB : Rights := { State.reset.nv.rights[2] with grants := 3 }
def s5_5 : State := sRt oldA
def s5_6 : State := sRt oldB
def me (k p o : Nat) : Milestone := schedEntry k p o
def x5_8 := { wRunS with eng := { wRunS.eng with st := .failed } }
def x5_9 := { wRunS with eng := { wRunS.eng with started := true } }
def wSvp : State := wRunS.after fun s => { s with itg := { s.itg with pairs := s.itg.pairs.set 2 { s.itg.pairs[2] with st := .halted } } }
def wRen : State := wRunS.after fun s => { s with rnd := { s.rnd with renumbered := some 8 } }
def wStar : State := wRunS.after fun s => { s with net := s.net.set 0 { s.net[0] with media := { s.net[0].media with topo := .star } } }
def wCl : State := wRunS.after fun s => { s with net := s.net.set 0 { s.net[0] with guard := { s.net[0].guard with closed := true } } }

theorem test_setHostRightsOutcomes_met :
  ((findChecked s5_1.toRc8 16 0 0 = some (wExec 16 [2, 0, 1])) ∧ (u8At (wExec 16 [2, 0, 1]).req 0 = 2) ∧ (u8At (wExec 16 [2, 0, 1]).req 1 ≤ 3) ∧ (u8At (wExec 16 [2, 0, 1]).req 2 < 32) ∧ (s5_1.nv.password = none) ∧ (Cls.ofCode (u8At (wExec 16 [2, 0, 1]).req 1) = s5_1.nv.rights[2].cls ∧ BitVec.ofNat 5 (u8At (wExec 16 [2, 0, 1]).req 2) = s5_1.nv.rights[2].grants)) ∧
  ((findChecked s5_2.toRc8 16 0 0 = some (wExec 16 [0, 1, 1])) ∧ (u8At (wExec 16 [0, 1, 1]).req 0 = 0) ∧ (u8At (wExec 16 [0, 1, 1]).req 1 ≤ 3) ∧ (u8At (wExec 16 [0, 1, 1]).req 2 < 32) ∧ (s5_2.nv.password = none) ∧ (¬(Cls.ofCode (u8At (wExec 16 [0, 1, 1]).req 1) = s5_2.nv.rights[0].cls ∧ BitVec.ofNat 5 (u8At (wExec 16 [0, 1, 1]).req 2) = s5_2.nv.rights[0].grants)) ∧ (∀ (k : Fin 4), (if k = 0 then Cls.ofCode (u8At (wExec 16 [0, 1, 1]).req 1) else s5_2.nv.rights[k].cls) ∈ [Cls.observe, Cls.operate])) ∧
  ((findChecked s5_3.toRc8 16 0 0 = some (wExec 16 [2, 3, 31])) ∧ (u8At (wExec 16 [2, 3, 31]).req 0 = 2) ∧ (u8At (wExec 16 [2, 3, 31]).req 1 ≤ 3) ∧ (u8At (wExec 16 [2, 3, 31]).req 2 < 32) ∧ (s5_3.nv.password = none) ∧ (¬(Cls.ofCode (u8At (wExec 16 [2, 3, 31]).req 1) = s5_3.nv.rights[2].cls ∧ BitVec.ofNat 5 (u8At (wExec 16 [2, 3, 31]).req 2) = s5_3.nv.rights[2].grants)) ∧ ((if 2 = 2 then Cls.ofCode (u8At (wExec 16 [2, 3, 31]).req 1) else s5_3.nv.rights[2].cls) ∈ [Cls.engineer, Cls.safety]) ∧ (false = false)) ∧
  ((findChecked s5_3.toRc8 16 0 0 = some (wExec 16 [2, 3, 31])) ∧ (u8At (wExec 16 [2, 3, 31]).req 0 = 2) ∧ (u8At (wExec 16 [2, 3, 31]).req 1 ≤ 3) ∧ (u8At (wExec 16 [2, 3, 31]).req 2 < 32) ∧ (s5_3.nv.password = none) ∧ (¬(Cls.ofCode (u8At (wExec 16 [2, 3, 31]).req 1) = s5_3.nv.rights[2].cls ∧ BitVec.ofNat 5 (u8At (wExec 16 [2, 3, 31]).req 2) = s5_3.nv.rights[2].grants)) ∧ ((if 2 = 2 then Cls.ofCode (u8At (wExec 16 [2, 3, 31]).req 1) else s5_3.nv.rights[2].cls) ∈ [Cls.engineer, Cls.safety]) ∧ (true = true)) ∧
  ((findChecked s5_4.toRc8 16 0 0 = some (wExec 16 [0, 2, 30])) ∧ (u8At (wExec 16 [0, 2, 30]).req 0 = 0) ∧ (u8At (wExec 16 [0, 2, 30]).req 1 ≤ 3) ∧ (u8At (wExec 16 [0, 2, 30]).req 2 < 32) ∧ (s5_4.nv.password = none) ∧ (¬(Cls.ofCode (u8At (wExec 16 [0, 2, 30]).req 1) = s5_4.nv.rights[0].cls ∧ BitVec.ofNat 5 (u8At (wExec 16 [0, 2, 30]).req 2) = s5_4.nv.rights[0].grants)) ∧ ((if 0 = 0 then Cls.ofCode (u8At (wExec 16 [0, 2, 30]).req 1) else s5_4.nv.rights[0].cls) ∈ [Cls.engineer, Cls.safety]) ∧ (true = true)) ∧
  ((List.find? (fun x => x.id == (eRt oldA (some 4)).id) s5_5.execs = some (eRt oldA (some 4))) ∧ ((eRt oldA (some 4)).phase = Phase.ended Status.done []) ∧ ((eRt oldA (some 4)).rights = some (2, oldA)) ∧ (∀ x ∈ s5_5.execs, x.id ≠ (eRt oldA (some 4)).id → x.rights = none) ∧ ((eRt oldA (some 4)).rulesMet s5_5.toRc8 = true) ∧ (∀ x ∈ s5_5.execs, x.id = (eRt oldA (some 4)).id → x = eRt oldA (some 4))) ∧
  ((List.find? (fun x => x.id == (eRt oldB (some 4)).id) s5_6.execs = some (eRt oldB (some 4))) ∧ ((eRt oldB (some 4)).phase = Phase.ended Status.done []) ∧ ((eRt oldB (some 4)).rights = some (2, oldB)) ∧ (∀ x ∈ s5_6.execs, x.id ≠ (eRt oldB (some 4)).id → x.rights = none) ∧ ((eRt oldB (some 4)).rulesMet s5_6.toRc8 = true) ∧ (∀ x ∈ s5_6.execs, x.id = (eRt oldB (some 4)).id → x = eRt oldB (some 4))) :=
  by and_intros <;> decide +kernel

theorem test_milestonesOfTheRound_met :
  (dueEntry 3 (0) wRunS.toRc8 = some (me 3 0 40000)) ∧
  ((dueEntry 4 0 wRunS.toRc8 = some (me 4 0 45000)) ∧ (isStandby wRunS.toRc8 = false) ∧ (dmaStopped 5 wRunS.toRc8 = false) ∧ (engineCode wRunS.toRc8 = 0)) ∧
  ((dueEntry 4 0 x5_8.toRc8 = some (me 4 0 45000)) ∧ (isStandby x5_8.toRc8 = false) ∧ (dmaStopped 5 x5_8.toRc8 = false) ∧ (engineCode x5_8.toRc8 ≠ 0)) ∧
  ((x5_9.eng.started = true) ∧ (x5_9.eng.done = false) ∧ (isStandby x5_9.toRc8 = false) ∧ (dmaStopped 5 x5_9.toRc8 = false)) ∧
  (dueEntry 5 0 wRunS.toRc8 = some (me 5 0 80000)) ∧
  (dueEntry 5 0 x5_9.toRc8 = some (me 5 0 80000)) ∧
  (dueEntry 12 (0) wRunS.toRc8 = some (me 12 0 121000)) ∧
  (dueEntry 12 (0) wSby.toRc8 = some (me 12 0 121000)) ∧
  ((isStandby wSby.toRc8 = true) ∧ (dueEntry 4 0 wSby.toRc8 = some (me 4 0 45000))) ∧
  ((isStandby wSby.toRc8 = true) ∧ (wSby.pair.synced = true) ∧ (dmaStopped 5 wSby.toRc8 = false) ∧ (engineCode wSby.toRc8 = 0) ∧ (wSby.sch[0].inForce.isSome = true)) ∧
  (dueEntry 12 (0) wSvp.toRc8 = some (me 12 0 121000)) :=
  by and_intros <;> decide +kernel

theorem test_launchesAndTheirFrames_met :
  ((wRen.sch[0].inForce = some (wSch 3)) ∧ (dueEntry 7 (0) wRen.toRc8 = some (me 7 0 5000))) ∧
  ((wRunS.sch[0].inForce = some (wSch 3)) ∧ (dueEntry 7 (0) wRunS.toRc8 = some (me 7 0 5000))) ∧
  ((wRunS.sch[0].inForce = some (wSch 3)) ∧ (dueEntry 6 (0) wRunS.toRc8 = some (me 6 0 90000))) ∧
  ((wSby.sch[0].inForce = some (wSch 3)) ∧ (dueEntry 6 (0) wSby.toRc8 = some (me 6 0 90000))) ∧
  ((wStar.sch[0].inForce = some (wSch 3)) ∧ (dueEntry 6 (0) wStar.toRc8 = some (me 6 0 90000))) ∧
  ((wStar.sch[0].inForce = some (wSch 3)) ∧ (dueEntry 7 (0) wStar.toRc8 = some (me 7 0 5000))) ∧
  ((wCl.sch[0].inForce = some (wSch 3)) ∧ (dueEntry 6 (0) wCl.toRc8 = some (me 6 0 90000))) ∧
  ((wCl.sch[0].inForce = some (wSch 3)) ∧ (dueEntry 7 (0) wCl.toRc8 = some (me 7 0 5000))) :=
  by and_intros <;> decide +kernel

end W5

/-! States (s6_…) and operands (w…) for ConfigurationCommands, LinksOfANetwork, NetworkStateMachine. -/

namespace W6

def PP (s : State) : State := s.after fun s => { s with pair := { s.pair with partner := { s.pair.partner with present := true } } }
def s6_1 : State := wC 0xA42 (le 4 250000)
def s6_2 : State := wC 0x404 [0,1,3,0,0,0,0,0]
def s6_3 : State := wC 0xA41 [1,2,3,4,5]
def sPP : State := PP (wC 0xA42 (le 4 250000))
def rqq : List Byte := [0,1,3,4,5,6,7,8,1,2,1,2,3,4,5,6,7,8,9,1,2,3,4,5,6,7,8,9,1,2,3]
def s6_4 : State := wC 0xA03 rqq
def s6_5 : State := wC 0xA10 rqq
def s6_6 : State := wC 0xA20 rqq
def s6_7 : State := wC 0xB01 rqq
def s6_8 : State := wC 0xC01 rqq
def s6_9 : State := wC 0xC02 rqq
def s6_10 : State := wC 0xB03 rqq
def du (op : Nat) (r : List Byte) : Rc8 := { wRunS.toRc8 with pair := { wRunS.pair with pend := [PendOp.own 9 (.command op r) (some 7) [] false] } }
def duL (op : Nat) (r : List Byte) : Rc8 := { wRunS.toRc8 with pair := { wRunS.pair with pend := [PendOp.own 9 (.command op r) (some 7) [] true] }, execs := [{ wExec op r with phase := .waiting }] }
def rpin : List Byte := [1,0,0,0,0,0,0,0,31,4,3,0,5,0,0,0]
def wMapS : State := wRunS.after fun s => { s with net := s.net.set 0 { s.net[0] with ringMap := [{ node := selfNode wRunS.toRc8, side := 0, nbr := 7, delay := 3 }, { node := 7, side := 1, nbr := selfNode wRunS.toRc8, delay := 3 }, { node := 7, side := 0, nbr := 9, delay := 3 }], ports := s.net[0].ports.set 0 NetPort.reset } }
def wN (st : NetState) (f : Net → Net) : State := wRunS.after fun s => { s with net := s.net.set 0 (f { s.net[0] with state := st }) }
def wNL (heard pulse : Bool) : State := (wN .listen fun n => { n with listenFrom := some 5, heard := heard }).after fun s => { s with pair := { s.pair with pulse := pulse } }
def wNL0 : State := (wNL false true).after fun s => { s with nv := { s.nv with media := s.nv.media.map fun m => { m with chans := 0 } } }
def wNL2 : State := wNL0.after fun s => { s with net := s.net.set 1 { s.net[1] with state := .master } }
def s6_11 : State := wNL true true
def s6_12 : State := wNL false false
def s6_13 : State := wNL false true
def s6_14 : State := wN .syncing fun n => { n with conv := 16 }
def s6_15 : State := s6_14.after fun s => { s with pair := { s.pair with pulse := false } }
def s6_16 : State := wN .syncing fun n => { n with lossRounds := 8 }
def s6_17 : State := wN .joined fun n => { n with lossRounds := 8, conv := 4 }

theorem test_configurationCommands_met :
  ((findChecked s6_1.toRc8 2626 0 0 = some (wExec 2626 (le 4 250000))) ∧ (s6_1.pair.partner.present = false) ∧ (roundAfter 1000000 s6_1.toRc8 ≠ 0)) ∧
  ((findChecked s6_2.toRc8 1028 0 0 = some (wExec 1028 [0, 1, 3, 0, 0, 0, 0, 0])) ∧ (s6_2.pair.partner.present = false) ∧ (u8At (wExec 1028 [0, 1, 3, 0, 0, 0, 0, 0]).req 0 = 0)) ∧
  ((findChecked s6_3.toRc8 2625 0 0 = some (wExec 2625 [1, 2, 3, 4, 5])) ∧ (s6_3.pair.partner.present = false) ∧ (otherWaiting s6_3.toRc8 2625 (wExec 2625 [1, 2, 3, 4, 5]).id = false) ∧ (opWaits 2625 s6_3.toRc8 = false) ∧ (∀ (k : Fin 2), loadRuns k s6_3.toRc8 = false) ∧ (changeArmed s6_3.toRc8 = false) ∧ (roundAfter 1000000 s6_3.toRc8 ≠ 0)) ∧
  ((findChecked sPP.toRc8 2626 0 0 = some (wExec 2626 (le 4 250000))) ∧ (sPP.pair.partner.present = true) ∧ (sPP.pair.plk.up = false)) ∧
  ((findChecked s6_4.toRc8 2563 0 0 = some (wExec 2563 rqq)) ∧ (s6_4.pair.partner.present = false) ∧ (roundAfter 1000000 s6_4.toRc8 ≠ 0)) ∧
  ((findChecked s6_5.toRc8 2576 0 0 = some (wExec 2576 rqq)) ∧ (s6_5.pair.partner.present = false) ∧ (roundAfter 1000000 s6_5.toRc8 ≠ 0)) ∧
  ((findChecked s6_6.toRc8 2592 0 0 = some (wExec 2592 rqq)) ∧ (s6_6.pair.partner.present = false) ∧ (roundAfter 1000000 s6_6.toRc8 ≠ 0)) ∧
  ((findChecked s6_7.toRc8 2817 0 0 = some (wExec 2817 rqq)) ∧ (s6_7.pair.partner.present = false) ∧ (roundAfter 1000000 s6_7.toRc8 ≠ 0)) ∧
  ((findChecked s6_8.toRc8 3073 0 0 = some (wExec 3073 rqq)) ∧ (s6_8.pair.partner.present = false) ∧ (roundAfter 1000000 s6_8.toRc8 ≠ 0)) ∧
  ((findChecked s6_9.toRc8 3074 0 0 = some (wExec 3074 rqq)) ∧ (s6_9.pair.partner.present = false) ∧ (roundAfter 1000000 s6_9.toRc8 ≠ 0)) ∧
  ((findChecked s6_10.toRc8 2819 0 0 = some (wExec 2819 rqq)) ∧ (s6_10.pair.partner.present = false) ∧ (u8At (wExec 2819 rqq).req 0 = 0)) ∧
  ((9 ≠ 0) ∧ (9 ≤ 9) ∧ ((duL 2626 (le 4 250000)).pair.pend = [PendOp.own 9 (PairOp.command 2626 (le 4 250000)) (some 7) [] true])) ∧
  ((9 ≠ 0) ∧ (9 ≤ 9) ∧ ((du 2563 rqq).pair.pend = [PendOp.own 9 (PairOp.command 2563 rqq) (some 7) [] false])) ∧
  ((9 ≠ 0) ∧ (9 ≤ 9) ∧ (u8At rqq 0 = 0) ∧ ((du 2576 rqq).pair.pend = [PendOp.own 9 (PairOp.command 2576 rqq) (some 7) [] false])) ∧
  ((9 ≠ 0) ∧ (9 ≤ 9) ∧ (u8At rqq 0 = 0) ∧ ((du 2592 rqq).pair.pend = [PendOp.own 9 (PairOp.command 2592 rqq) (some 7) [] false])) ∧
  ((9 ≠ 0) ∧ (9 ≤ 12) ∧ (u8At rqq 0 = 0) ∧ ((du 2817 rqq).pair.pend = [PendOp.own 9 (PairOp.command 2817 rqq) (some 7) [] false])) ∧
  ((9 ≠ 0) ∧ (9 ≤ 9) ∧ (u8At rqq 0 = 0) ∧ ((du 3074 rqq).pair.pend = [PendOp.own 9 (PairOp.command 3074 rqq) (some 7) [] false])) ∧
  ((9 ≠ 0) ∧ (9 ≤ 9) ∧ (u8At rpin 0 = 1) ∧ (u8At rpin 8 = 31) ∧ ((du 3073 rpin).pair.pend = [PendOp.own 9 (PairOp.command 3073 rpin) (some 7) [] false])) :=
  by and_intros <;> decide +kernel

theorem test_linksOfANetwork_met :
  ((configured 1 State.reset.toRc8 = true) ∧ (State.reset.net[1].ports[3].link = false)) ∧
  ((configured 0 State.reset.toRc8 = true) ∧ (State.reset.net[0].ports[0].link = false)) ∧
  (wRunS.net[0].ports[2].link = true) ∧
  (wMapS.net[0].ports[2].link = true) :=
  by and_intros <;> decide +kernel

theorem test_networkStateMachine_met :
  ((s6_11.net[0].state = NetState.listen) ∧ (s6_11.net[0].listenFrom = some 5) ∧ (s6_11.net[0].heard = true)) ∧
  ((s6_12.net[0].state = NetState.listen) ∧ (s6_12.net[0].listenFrom = some 5) ∧ (s6_12.net[0].heard = false) ∧ (leaseValid s6_12.toRc8 = false)) ∧
  ((wNL0.net[0].state = NetState.listen) ∧ (wNL0.net[0].listenFrom = some 5) ∧ (wNL0.net[0].heard = false) ∧ (leaseValid wNL0.toRc8 = true) ∧ (otherLive 0 wNL0.toRc8 = false) ∧ (wNL0.nv.media[0].chans = 0)) ∧
  ((s6_13.net[0].state = NetState.listen) ∧ (s6_13.net[0].listenFrom = some 5) ∧ (s6_13.net[0].heard = false) ∧ (leaseValid s6_13.toRc8 = true) ∧ (s6_13.nv.media[0].chans ≠ 0)) ∧
  ((wNL2.net[0].state = NetState.listen) ∧ (wNL2.net[0].listenFrom = some 5) ∧ (wNL2.net[0].heard = false) ∧ (leaseValid wNL2.toRc8 = true) ∧ (otherLive 0 wNL2.toRc8 = true)) ∧
  ((16 ≤ s6_14.net[0].conv) ∧ (s6_14.net[0].state = NetState.syncing)) ∧
  ((16 ≤ s6_15.net[0].conv) ∧ (s6_15.net[0].state = NetState.syncing)) ∧
  ((8 ≤ s6_16.net[0].lossRounds) ∧ (s6_16.net[0].state = NetState.joined ∨ s6_16.net[0].state = NetState.syncing)) ∧
  ((8 ≤ s6_17.net[0].lossRounds) ∧ (s6_17.net[0].state = NetState.joined ∨ s6_17.net[0].state = NetState.syncing)) :=
  by and_intros <;> decide +kernel

end W6

/-! States (s7_…) and operands (w…) for GuardianEpisodesAndHolds, Schedules, CopiesAreSorted. -/

namespace W7

def wD : State := wRunS.after fun s => { s with net := s.net.set 0 { s.net[0] with down := #v[0,3,4] } }
def wSil : State := wRunS.after fun s => { s with sch := s.sch.set 0 { s.sch[0] with count := Vector.replicate 2 { corrupt := 0, late := 0, valid := 0, mismatching := 0, missing := 0, silent := 0, run := 8, episode := false, calm := 0 } } }
def x7_1 := { wSil with sch := wSil.sch.set 0 { wSil.sch[0] with count := wSil.sch[0].count.set 1 { wSil.sch[0].count[1] with episode := true } } }
def q0 : HoldSeq := { step := .waitRelease, start := 1, since := 2, exec := some 7, by_ := 0 }
def s7_2 : State := wC 0x406 [3]
def hold (h : Nat) (s : Rc8) : Rc8 := { s with net := s.net.map fun n => { n with holds := h } }
def s7_3 : State := wCF 0x405 [3,1] (hold 3)
def s7_4 : State := wCF 0x405 [3,1] (hold 1)
def s7_5 : State := wCF 0x405 [3,0] (hold 3)
def wQ' (q : HoldSeq) (h : Nat) : State := wRunS.after fun s => { s with net := s.net.set 1 { s.net[1] with seq := some q, holds := h }, execs := [{ wExec 0x406 [3] with phase := .waiting }] }
def x7_6 := { q0 with step := .waitA }
def x7_7 := { q0 with step := .waitStartB }
def x7_8 := { q0 with step := .waitB }
def rL (last : Byte) : List Byte := [0, last] ++ le 2 9 ++ le 4 (wImg 9).length ++ le 4 0 ++ le 4 0 ++ wImg 9
def s7_9 : State := wC 0x411 (rL 0)
def nos (s : Rc8) : Rc8 := { s with sch := s.sch.set 0 Sched.reset }
def s7_10 : State := wCF 0x411 (rL 1) nos
def st9 (s : Rc8) : Rc8 := { s with nv := { s.nv with schedules := s.nv.schedules.set 0 [parseSchedule (wImg 9)] } }
def s7_11 : State := wCF 0x413 [0,0,9,0] st9
def s7_12 : State := wCF 0x416 [1,2,5] st9
def s7_13 : State := wCF 0x416 [3,2,5] st9
def rSw : List Byte := [1,0,9,0,0,0,0,0] ++ zeros 8
def s7_14 : State := wCF 0x412 rSw st9
def wSw : SchedSwitch := { id := 9, round := none, asked := 0, since := 5, exec := some 7 }
def wSwS : State := wRunS.after fun s => { s with sch := s.sch.set 0 { s.sch[0] with pending := some wSw } }
def bc : BudanCopy := { tagged := false, etherType := 0x88B5, fcsOk := true, src := 0x123, version := 1, kind := 2, net := 0, chan := 0, round := 8, schedId := 3, flags := 0, data := zeros 60, timeErr := 0, tick := 0, delay := 0, hops := 0, period := 125000 }
def x7_15 := { bc with tagged := true }
def x7_16 := { bc with etherType := 5 }
def x7_17 := { bc with fcsOk := false }
def wGO : State := wRunS.after fun s => { s with sch := s.sch.set 0 { s.sch[0] with gatherOpen := true } }
def wGS : State := wGO.after fun s => { s with net := s.net.set 0 { s.net[0] with state := .syncing } }
def wCO : State := wGS.after fun s => { s with sch := s.sch.set 0 { s.sch[0] with commandOpen := true, mgmtOpen := some 8, mgmtLast := some (8, 3) } }
def x7_18 := { bc with kind := 1 }
def x7_19 := { bc with kind := 4, data := zeros 200 }

theorem test_guardianEpisodesAndHolds_met :
  ((downCause wD.net[0] = some 2) ∧ (wD.net[0].state = NetState.master) ∧ (wD.net[0].downEpisode = false)) ∧
  ((8 ≤ wSil.sch[0].count[1].run) ∧ (wSil.sch[0].count[1].episode = false)) ∧
  (x7_1.sch[0].count[1].episode = true) ∧
  ((findChecked s7_2.toRc8 1030 0 0 = some (wExec 1030 [3])) ∧ (0 ∈ maskNets (wExec 1030 [3]))) ∧
  ((findChecked s7_2.toRc8 1030 0 0 = some (wExec 1030 [3])) ∧ (1 ∈ maskNets (wExec 1030 [3]))) ∧
  ((findChecked s7_3.toRc8 1029 0 0 = some (wExec 1029 [3, 1])) ∧ (1 ∈ maskNets (wExec 1029 [3, 1])) ∧ (s7_3.net[1].holds ≤ 3) ∧ (bitAt (u8At (wExec 1029 [3, 1]).req 1) 0 = true)) ∧
  ((findChecked s7_4.toRc8 1029 0 0 = some (wExec 1029 [3, 1])) ∧ (0 ∈ maskNets (wExec 1029 [3, 1])) ∧ (s7_4.net[0].holds ≤ 3) ∧ (bitAt (u8At (wExec 1029 [3, 1]).req 1) 0 = true)) ∧
  ((findChecked s7_5.toRc8 1029 0 0 = some (wExec 1029 [3, 0])) ∧ (0 ∈ maskNets (wExec 1029 [3, 0])) ∧ (s7_5.net[0].holds ≤ 3) ∧ (bitAt (u8At (wExec 1029 [3, 0]).req 1) 0 = false) ∧ (s7_5.net[0].holds = 3)) ∧
  (((wQ' x7_6 3).net[1].seq = some x7_6) ∧ (x7_6.step = HoldStep.waitA)) ∧
  (((wQ' q0 2).net[1].seq = some q0) ∧ (q0.step = HoldStep.waitRelease) ∧ ((wQ' q0 2).net[1].holds = 2)) ∧
  (((wQ' x7_7 2).net[1].seq = some x7_7) ∧ (x7_7.step = HoldStep.waitStartB)) ∧
  (((wQ' x7_8 3).net[1].seq = some x7_8) ∧ (x7_8.step = HoldStep.waitB)) ∧
  (((wQ' x7_8 1).net[1].seq = some x7_8) ∧ (x7_8.step = HoldStep.waitB)) :=
  by and_intros <;> decide +kernel

theorem test_schedules_met :
  ((findChecked s7_9.toRc8 1041 0 0 = some (wExec 1041 (rL 0))) ∧ (netAt (wExec 1041 (rL 0)) 0 = 0) ∧ (schedLoadBlocked (wExec 1041 (rL 0)) s7_9.toRc8 = none) ∧ (u32At (wExec 1041 (rL 0)).req 8 = 0) ∧ (bitAt (u8At (wExec 1041 (rL 0)).req 1) 0 = false)) ∧
  ((findChecked s7_10.toRc8 1041 0 0 = some (wExec 1041 (rL 1))) ∧ (netAt (wExec 1041 (rL 1)) 0 = 0) ∧ (schedLoadBlocked (wExec 1041 (rL 1)) s7_10.toRc8 = none) ∧ (u32At (wExec 1041 (rL 1)).req 8 = 0) ∧ (bitAt (u8At (wExec 1041 (rL 1)).req 1) 0 = true) ∧ (schedCrcOk (List.drop 16 (wExec 1041 (rL 1)).req) = true) ∧ (schedCond1 (List.drop 16 (wExec 1041 (rL 1)).req) s7_10.net[0].media s7_10.rnd.period (u32At (wExec 1041 (rL 1)).req 4) (u16At (wExec 1041 (rL 1)).req 2) 0 = true) ∧ (schedRefusal 0 (parseSchedule (List.drop 16 (wExec 1041 (rL 1)).req)) (otherSched 0 s7_10.toRc8) s7_10.toRc8 = none) ∧ (s7_10.pair.partner.present = false)) ∧
  ((findChecked s7_11.toRc8 1043 0 0 = some (wExec 1043 [0, 0, 9, 0])) ∧ (netAt (wExec 1043 [0, 0, 9, 0]) 0 = 0) ∧ (u8At (wExec 1043 [0, 0, 9, 0]).req 0 ≤ 1)) ∧
  ((findChecked s7_12.toRc8 1046 0 0 = some (wExec 1046 [1, 2, 5])) ∧ (∀ k ∈ maskNets (wExec 1046 [1, 2, 5]), s7_12.sch[k].stops.length < 16)) ∧
  ((findChecked s7_13.toRc8 1046 0 0 = some (wExec 1046 [3, 2, 5])) ∧ (∀ k ∈ maskNets (wExec 1046 [3, 2, 5]), s7_13.sch[k].stops.length < 16)) ∧
  ((findChecked s7_14.toRc8 1042 0 0 = some (wExec 1042 rSw)) ∧ (changeArmed s7_14.toRc8 = false) ∧ (switchRuns s7_14.toRc8 = false) ∧ (u64At (wExec 1042 rSw).req 8 = 0) ∧ (∀ n ∈ maskNets (wExec 1042 rSw), storedSched n (switchId (wExec 1042 rSw) n) s7_14.toRc8 = some (parseSchedule (wImg 9)) ∧ schedCrcOk (parseSchedule (wImg 9)).image = true ∧ schedCond1 (parseSchedule (wImg 9)).image s7_14.net[n].media s7_14.rnd.period (parseSchedule (wImg 9)).image.length (parseSchedule (wImg 9)).id n.val = true ∧ schedRefusal n (parseSchedule (wImg 9)) (afterSwitch (wExec 1042 rSw) (if n = 0 then 1 else 0) s7_14.toRc8) s7_14.toRc8 = none)) ∧
  (List.findSome? (fun n => Option.filter (fun w => w.round.isNone) wSwS.sch[n].pending) bothNets = some wSw) :=
  by and_intros <;> decide +kernel

theorem test_copiesAreSorted_met :
  ((configured 0 wRunS.toRc8 = true) ∧ (wRunS.net[0].ports[0].link = true) ∧ (x7_15.tagged = true ∨ x7_15.etherType ≠ wRunS.net[0].media.etherType)) ∧
  ((configured 0 wRunS.toRc8 = true) ∧ (wRunS.net[0].ports[0].link = true) ∧ (x7_16.tagged = true ∨ x7_16.etherType ≠ wRunS.net[0].media.etherType)) ∧
  ((configured 0 wRunS.toRc8 = true) ∧ (wRunS.net[0].ports[0].link = true) ∧ (x7_17.tagged = false) ∧ (x7_17.etherType = wRunS.net[0].media.etherType) ∧ (x7_17.fcsOk = false)) ∧
  ((configured 0 wRunS.toRc8 = true) ∧ (wRunS.net[0].ports[0].link = true) ∧ (bc.tagged = false) ∧ (bc.etherType = wRunS.net[0].media.etherType) ∧ (bc.fcsOk = true) ∧ (¬(bc.kind = 4 ∧ bitAt bc.flags 3 = true)) ∧ (wRunS.net[0].state ≠ NetState.listen) ∧ (checkShape 0 0 bc wRunS.toRc8 = true) ∧ (checkRound 0 bc wRunS.toRc8 = true) ∧ (checkId 0 bc wRunS.toRc8 = true) ∧ (checkWindow 0 bc wRunS.toRc8 = false)) ∧
  ((configured 0 wGO.toRc8 = true) ∧ (wGO.net[0].ports[0].link = true) ∧ (bc.tagged = false) ∧ (bc.etherType = wGO.net[0].media.etherType) ∧ (bc.fcsOk = true) ∧ (¬(bc.kind = 4 ∧ bitAt bc.flags 3 = true)) ∧ (wGO.net[0].state ≠ NetState.listen) ∧ (checkShape 0 0 bc wGO.toRc8 = true) ∧ (checkRound 0 bc wGO.toRc8 = true) ∧ (checkId 0 bc wGO.toRc8 = true) ∧ (checkWindow 0 bc wGO.toRc8 = true)) ∧
  ((configured 0 wGS.toRc8 = true) ∧ (wGS.net[0].ports[0].link = true) ∧ (bc.tagged = false) ∧ (bc.etherType = wGS.net[0].media.etherType) ∧ (bc.fcsOk = true) ∧ (¬(bc.kind = 4 ∧ bitAt bc.flags 3 = true)) ∧ (wGS.net[0].state ≠ NetState.listen) ∧ (checkShape 0 0 bc wGS.toRc8 = true) ∧ (checkRound 0 bc wGS.toRc8 = true) ∧ (checkId 0 bc wGS.toRc8 = true) ∧ (checkWindow 0 bc wGS.toRc8 = true)) ∧
  ((configured 0 wCO.toRc8 = true) ∧ (wCO.net[0].ports[1].link = true) ∧ (x7_18.tagged = false) ∧ (x7_18.etherType = wCO.net[0].media.etherType) ∧ (x7_18.fcsOk = true) ∧ (¬(x7_18.kind = 4 ∧ bitAt x7_18.flags 3 = true)) ∧ (wCO.net[0].state ≠ NetState.listen) ∧ (checkShape 0 1 x7_18 wCO.toRc8 = true) ∧ (checkRound 0 x7_18 wCO.toRc8 = true) ∧ (checkId 0 x7_18 wCO.toRc8 = true) ∧ (checkWindow 0 x7_18 wCO.toRc8 = true)) ∧
  ((configured 0 wCO.toRc8 = true) ∧ (wCO.net[0].ports[1].link = true) ∧ (x7_19.tagged = false) ∧ (x7_19.etherType = wCO.net[0].media.etherType) ∧ (x7_19.fcsOk = true) ∧ (¬(x7_19.kind = 4 ∧ bitAt x7_19.flags 3 = true)) ∧ (wCO.net[0].state ≠ NetState.listen) ∧ (checkShape 0 1 x7_19 wCO.toRc8 = true) ∧ (checkRound 0 x7_19 wCO.toRc8 = true) ∧ (checkId 0 x7_19 wCO.toRc8 = true) ∧ (checkWindow 0 x7_19 wCO.toRc8 = true)) :=
  by and_intros <;> decide +kernel

end W7

/-! States (s8_…) and operands (w…) for EngineBanksAndSelfTest, EffectiveRoundCommands, TablesSnapshotsRestores. -/

namespace W8

/-- engine -/
def wBank (k : Nat) : Bank := { blocks := [(3, le 2 k ++ zeros 766), (7, le 2 1 ++ zeros 766)], generation := 0xFFFFFFFF }
def wEng (s : Rc8) : Rc8 := { s with nv := { s.nv with banks := #v[wBank 1, wBank 2] } }
def wPB : List Byte := le 2 3 ++ zeros 6 ++ le 2 9 ++ zeros 766
def s8_1 : State := wCF 0x502 wPB wEng
def s8_2 : State := wCF 0x504 [] wEng
def s8_3 : State := wC 0x505 (zeros 8)
def s8_4 : State := wC 0x505 (le 8 16)
def wAx (m : AxisMode) : Axis := { Axis.reset with st := m }
def wRec : State := wRunS.after fun s => { wEng s with eng := { s.eng with st := .recover, started := true, axes := [(3, wAx .active), (7, wAx .idle), (9, wAx .active)] } }
def wM : List Byte := [0x88] ++ zeros 31
def wEff (code : Nat) : State := wCF code wM wEng
def s8_5 : State := wEff 0x506
def s8_6 : State := wEff 0x507
def s8_7 : State := wEff 0x603
def s8_8 : State := wEff 0x605
def s8_9 : State := wEff 0x608
def wLC : List Byte := le 2 3 ++ zeros 2 ++ [8] ++ zeros 63
def wLC2 : List Byte := le 2 3 ++ zeros 2 ++ [9] ++ zeros 63
def wLCs (r : List Byte) : State := wCF 0x602 r fun s => { wEng s with learn := [(3, { Learn.reset with cfg := { parseLearn (wLC.drop 4) with k := 8 } })] }
def s8_10 : State := wLCs wLC
def s8_11 : State := wLCs wLC2
def wLearn (f : Learn → Learn) (s : Rc8) : Rc8 := { s with learn := [(3, f { Learn.reset with table := [5,6,7] }), (7, Learn.reset)], eng := { s.eng with started := false, gap := some 7, moved := 40 }, sch := s.sch.set 0 { s.sch[0] with txClosed := true } }
def s8_12 : State := wCF 0x606 wM (wLearn id)
def wSlot0 (g : Nat) : SnapSlot := { k := 8, exp := 0, generation := g, round := g, time := 2, kind := 0, master := 0, cycle := 0, check := 0, written := true, entries := [9, 8] }
def wSlot (a g : Nat) : SnapSlot := { wSlot0 g with check := (wSlot0 g).checkOf a }
def wSnaps (s : Rc8) : Rc8 := { wLearn id s with nv := { s.nv with snaps := [(3, #v[some (wSlot 3 4), none]), (7, #v[some (wSlot 7 4), some (wSlot 7 5)])] } }
def s8_13 : State := wCF 0x607 wM wSnaps
def s8_14 : State := wCF 0x607 wM (wLearn id)
def wMv (why : Nat) : TableMove := { why := why, round := 8, cfg := { LearnCfg.reset with k := 9 }, table := [1,2,3], exec := some 7 }
def wMvS (why : Nat) : State := wRunS.after (wLearn fun l => { l with move := some (wMv why) })
def wDue (op : Nat) : Rc8 := (wRunS.after fun s => { wSnaps s with pair := { s.pair with pend := [PendOp.own 9 (.command op wM) (some 7) [] true] } }).toRc8
def wDueN : Rc8 := { wDue 0x607 with nv := { (wDue 0x607).nv with snaps := [] } }
def s8_15 : State := wMvS 1
def s8_16 : State := wMvS 2
def s8_17 : State := wMvS 4
def wM5 (r : Nat) : TableMove := { wMv 5 with round := r }
def wM5S (r : Nat) : State := wRunS.after (wLearn fun l => { l with move := some (wM5 r), skip := true })
def s8_18 : State := wM5S 6
def s8_19 : State := wM5S 8
def wGap (s : State) : State := s.after fun s => { s with eng := { s.eng with gap := none } }
def s8_20 : State := wGap (wMvS 4)
def wSnS (a : Nat) (f : SnapFor) : State := wRunS.after fun s => wSnaps (wLearn id s) |> fun s => { s with learn := [(a, { Learn.reset with table := [5,6,7], snapFor := some f })] }
def s8_21 : State := wSnS 3 (.own 7)
def s8_22 : State := wSnS 7 (.own 7)
def s8_23 : State := wSnS 9 (.own 7)
def s8_24 : State := wGap (wSnS 9 (.own 7))

theorem test_engineBanksAndSelfTest_met :
  ((findChecked s8_1.toRc8 1282 0 0 = some (wExec 1282 wPB)) ∧ (engineBusy (wExec 1282 wPB) s8_1.toRc8 = false) ∧ (s8_1.pair.partner.present = false)) ∧
  ((findChecked s8_2.toRc8 1284 0 0 = some (wExec 1284 [])) ∧ (engineBusy (wExec 1284 []) s8_2.toRc8 = false) ∧ (s8_2.pair.partner.present = false)) ∧
  ((findChecked s8_3.toRc8 1285 0 0 = some (wExec 1285 (zeros 8))) ∧ (changeArmed s8_3.toRc8 = false) ∧ (u64At (wExec 1285 (zeros 8)).req 0 = 0 ∨ roundAfter 1000000 s8_3.toRc8 ≤ u64At (wExec 1285 (zeros 8)).req 0)) ∧
  ((findChecked s8_4.toRc8 1285 0 0 = some (wExec 1285 (le 8 16))) ∧ (changeArmed s8_4.toRc8 = false) ∧ (u64At (wExec 1285 (le 8 16)).req 0 = 0 ∨ roundAfter 1000000 s8_4.toRc8 ≤ u64At (wExec 1285 (le 8 16)).req 0)) ∧
  (wRec.eng.st = EngSt.recover) :=
  by and_intros <;> decide +kernel

theorem test_effectiveRoundCommands_met :
  ((s8_5.pair.partner.present = false) ∧ (findChecked s8_5.toRc8 1286 0 0 = some (wExec 1286 wM))) ∧
  ((s8_6.pair.partner.present = false) ∧ (findChecked s8_6.toRc8 1287 0 0 = some (wExec 1287 wM))) ∧
  ((s8_7.pair.partner.present = false) ∧ (findChecked s8_7.toRc8 1539 0 0 = some (wExec 1539 wM)) ∧ (learnBusy (maskAxes (wExec 1539 wM).req 0) s8_7.toRc8 = false)) ∧
  ((s8_8.pair.partner.present = false) ∧ (findChecked s8_8.toRc8 1541 0 0 = some (wExec 1541 wM)) ∧ (learnBusy [u16At (wExec 1541 wM).req 0] s8_8.toRc8 = false)) ∧
  ((s8_9.pair.partner.present = false) ∧ (findChecked s8_9.toRc8 1544 0 0 = some (wExec 1544 wM)) ∧ (learnBusy (maskAxes (wExec 1544 wM).req 0) s8_9.toRc8 = false)) ∧
  ((s8_10.pair.partner.present = false) ∧ (findChecked s8_10.toRc8 1538 0 0 = some (wExec 1538 wLC)) ∧ (learnBusy [u16At (wExec 1538 wLC).req 0] s8_10.toRc8 = false) ∧ (learnResamples (wExec 1538 wLC).req s8_10.toRc8 = false)) ∧
  ((s8_11.pair.partner.present = false) ∧ (findChecked s8_11.toRc8 1538 0 0 = some (wExec 1538 wLC2)) ∧ (learnBusy [u16At (wExec 1538 wLC2).req 0] s8_11.toRc8 = false) ∧ (learnResamples (wExec 1538 wLC2).req s8_11.toRc8 = true)) :=
  by and_intros <;> decide +kernel

theorem test_tablesSnapshotsRestores_met :
  ((findChecked s8_12.toRc8 1542 0 0 = some (wExec 1542 wM)) ∧ (learnBusy (maskAxes (wExec 1542 wM).req 0) s8_12.toRc8 = false)) ∧
  ((findChecked s8_13.toRc8 1543 0 0 = some (wExec 1543 wM)) ∧ (learnBusy (maskAxes (wExec 1543 wM).req 0) s8_13.toRc8 = false) ∧ (∀ a ∈ maskAxes (wExec 1543 wM).req 0, (restoreSlot a s8_13.toRc8).isSome = true)) ∧
  ((findChecked s8_14.toRc8 1543 0 0 = some (wExec 1543 wM)) ∧ (learnBusy (maskAxes (wExec 1543 wM).req 0) s8_14.toRc8 = false) ∧ (3 ∈ maskAxes (wExec 1543 wM).req 0) ∧ (restoreSlot 3 s8_14.toRc8 = none)) ∧
  ((9 ≠ 0) ∧ (9 ≤ 9) ∧ ((wDue 1542).pair.pend = [PendOp.own 9 (PairOp.command 1542 wM) (some 7) [] true])) ∧
  ((9 ≠ 0) ∧ (9 ≤ 9) ∧ ((wDue 1543).pair.pend = [PendOp.own 9 (PairOp.command 1543 wM) (some 7) [] true]) ∧ (∀ a ∈ maskAxes wM 0, (restoreSlot a (wDue 1543)).isSome = true)) ∧
  ((9 ≠ 0) ∧ (9 ≤ 9) ∧ (wDueN.pair.pend = [PendOp.own 9 (PairOp.command 1543 wM) (some 7) [] true]) ∧ (3 ∈ maskAxes wM 0) ∧ (restoreSlot 3 wDueN = none)) ∧
  (((learnOf (3) s8_15.toRc8).move = some (wMv 1)) ∧ ((wMv 1).why ≠ 3) ∧ ((wMv 1).why ≠ 5) ∧ (tablesHeld s8_15.toRc8 = true) ∧ (moveWindow (wMv 1).cfg.n s8_15.toRc8 = true)) ∧
  (((learnOf (3) s8_16.toRc8).move = some (wMv 2)) ∧ ((wMv 2).why ≠ 3) ∧ ((wMv 2).why ≠ 5) ∧ (tablesHeld s8_16.toRc8 = true) ∧ (moveWindow (wMv 2).cfg.n s8_16.toRc8 = true)) ∧
  (((learnOf (3) s8_17.toRc8).move = some (wMv 4)) ∧ ((wMv 4).why ≠ 3) ∧ ((wMv 4).why ≠ 5) ∧ (tablesHeld s8_17.toRc8 = true) ∧ (moveWindow (wMv 4).cfg.n s8_17.toRc8 = true)) ∧
  (((learnOf (3) s8_18.toRc8).move = some (wM5 6)) ∧ ((wM5 6).why = 5) ∧ ((wM5 6).round < gapRound s8_18.toRc8) ∧ (moveWindow (wM5 6).cfg.n s8_18.toRc8 = true)) ∧
  (((learnOf (3) s8_19.toRc8).move = some (wM5 8)) ∧ ((wM5 8).why = 5) ∧ (gapRound s8_19.toRc8 ≤ (wM5 8).round)) ∧
  (((learnOf (3) s8_20.toRc8).move = some (wMv 4)) ∧ ((wMv 4).why ≠ 3) ∧ ((wMv 4).why ≠ 5) ∧ (tablesHeld s8_20.toRc8 = true) ∧ (moveWindow (wMv 4).cfg.n s8_20.toRc8 = false)) ∧
  (((learnOf (3) s8_21.toRc8).move = none) ∧ ((learnOf (3) s8_21.toRc8).snapFor = some (SnapFor.own 7)) ∧ (moveWindow (learnOf (3) s8_21.toRc8).cfg.n s8_21.toRc8 = true) ∧ (true = true)) ∧
  (((learnOf (7) s8_22.toRc8).move = none) ∧ ((learnOf (7) s8_22.toRc8).snapFor = some (SnapFor.own 7)) ∧ (moveWindow (learnOf (7) s8_22.toRc8).cfg.n s8_22.toRc8 = true) ∧ (true = true)) ∧
  (((learnOf (9) s8_23.toRc8).move = none) ∧ ((learnOf (9) s8_23.toRc8).snapFor = some (SnapFor.own 7)) ∧ (moveWindow (learnOf (9) s8_23.toRc8).cfg.n s8_23.toRc8 = true) ∧ (true = true)) ∧
  (((learnOf (9) s8_23.toRc8).move = none) ∧ ((learnOf (9) s8_23.toRc8).snapFor = some (SnapFor.own 7)) ∧ (SnapFor.own 7 = SnapFor.own 7) ∧ (moveWindow (learnOf (9) s8_23.toRc8).cfg.n s8_23.toRc8 = true) ∧ (false = false)) ∧
  (((learnOf (9) s8_24.toRc8).move = none) ∧ ((learnOf (9) s8_24.toRc8).snapFor = some (SnapFor.own 7)) ∧ (moveWindow (learnOf (9) s8_24.toRc8).cfg.n s8_24.toRc8 = false)) ∧
  (((learnOf (9) wRunS.toRc8).move = none) ∧ ((learnOf (9) wRunS.toRc8).snapFor = none)) :=
  by and_intros <;> decide +kernel

end W8

/-! States (s9_…) and operands (w…) for TasksAndRetainedData, OperatingModes. -/

namespace W9

def s9_1 : State := wTkS .run id
def wCW : State := wTkS .run id |>.after fun s => { s with itg := { s.itg with codeEpoch := some 3, waiting := [(3, 5, false)] } }
def s9_2 : State := wTkS .layby fun t => { t with st := .halted, wanted := 2 }
def s9_3 : State := wTkS .run fun t => { t with st := .running }
def s9_4 : State := wTkS .run fun t => { t with st := .running, consec := 255, overruns := 0xFFFFFFFF }
def s9_5 : State := wTkS .stop id
def wRnO : State := wTkS .run fun t => { t with st := .running, overran := true }
def wJ (k : Nat) (c : Bool) : JournalRec := { task := 0, seq := k, granules := [(0, [1,2]), (64, [3])], committed := c, switch := none, crc := 5 }
def wBef : State := wRn.after fun s => { s with run := { s.run with commits := [wJ 3 false] }, nv := { s.nv with journal := [wJ 3 false] } }
def wJS (c : Bool) : State := wRn.after fun s => { s with run := { s.run with commits := [wJ 4 c, wJ 5 false] }, nv := { s.nv with journal := [wJ 2 true, wJ 4 c] } }
def s9_6 : State := wJS false
def s9_7 : State := wJS true
def s9_8 : State := wCF 0x101 [1,0,0,0] (wTk .stop id)
def s9_9 : State := wCF 0x101 [0,0,0,0] (wTk .run id)
def s9_10 : State := wCF 0x101 [1,0,0,0] (wTk .run id)
def wKey : State := wRn.after fun s => { s with run := { s.run with key := .remote }, saf := { s.saf with sess := Vector.replicate 4 (some { operator := [], last := 0, first := false }) } }
def wKm : State := wRn.after fun s => { s with run := { s.run with keysDiffer := some 77 } }
def wMP (target cause : Nat) : PendOp := PendOp.own 9 (.mode target cause) none [] true
def wMd (m : Mode) (target cause : Nat) : State := (wTkS m fun t => { t with st := if m = .run then .running else .waiting }).after fun s => { s with pair := { s.pair with pend := [wMP target cause] }, nv := { s.nv with active := if target = 1 ∧ cause = 3 then none else some (parseImage (wImgB 5)) } }
def s9_11 : State := wMd .run 0 4
def s9_12 : State := wMd .layby 0 4
def s9_13 : State := wMd .run 2 4
def s9_14 : State := wMd .stop 1 3
def wOk : State := (wMd .stop 1 3).after fun s => wSafe { s with nv := { s.nv with active := some (parseImage (wImgB 5)) } }

theorem test_tasksAndRetainedData_met :
  ((dueEntry 8 (0) s9_1.toRc8 = some wRel) ∧ (coreRuns 0 s9_1.toRc8 = true) ∧ (isStandby s9_1.toRc8 = false) ∧ (s9_1.run.mode = Mode.run) ∧ (s9_1.run.tasks[0].st = TaskSt.waiting) ∧ (codeWaits s9_1.toRc8 = false)) ∧
  ((dueEntry 8 (0) wCW.toRc8 = some wRel) ∧ (coreRuns 0 wCW.toRc8 = true) ∧ (isStandby wCW.toRc8 = false) ∧ (wCW.run.mode = Mode.run) ∧ (wCW.run.tasks[0].st = TaskSt.waiting) ∧ (codeWaits wCW.toRc8 = true)) ∧
  ((dueEntry 8 (0) s9_2.toRc8 = some wRel) ∧ (coreRuns 0 s9_2.toRc8 = true) ∧ (isStandby s9_2.toRc8 = false) ∧ (s9_2.run.mode = Mode.layby) ∧ (s9_2.run.tasks[0].st = TaskSt.halted) ∧ (s9_2.run.tasks[0].wanted ≠ 0) ∧ (codeWaits s9_2.toRc8 = false)) ∧
  ((dueEntry 8 (0) s9_3.toRc8 = some wRel) ∧ (coreRuns 0 s9_3.toRc8 = true) ∧ (isStandby s9_3.toRc8 = false) ∧ (s9_3.run.mode = Mode.run) ∧ (s9_3.run.tasks[0].st = TaskSt.running)) ∧
  ((dueEntry 8 (0) s9_4.toRc8 = some wRel) ∧ (coreRuns 0 s9_4.toRc8 = true) ∧ (isStandby s9_4.toRc8 = false) ∧ (s9_4.run.mode = Mode.run) ∧ (s9_4.run.tasks[0].st = TaskSt.running)) ∧
  ((dueEntry 8 (0) s9_5.toRc8 = some wRel) ∧ (coreRuns 0 s9_5.toRc8 = true) ∧ (isStandby s9_5.toRc8 = false) ∧ (s9_5.run.mode = Mode.stop)) ∧
  (executes 0 s9_1.toRc8 = false) ∧
  ((wOut.calls = []) ∧ (executes 0 wBef.toRc8 = true) ∧ (isStandby wBef.toRc8 = false) ∧ (wBef.run.mode = Mode.run) ∧ (commitBefore 0 wBef.toRc8 = true)) ∧
  ((wOut.calls = []) ∧ (executes 0 wRn.toRc8 = true) ∧ (isStandby wRn.toRc8 = false) ∧ (wRn.run.mode = Mode.run) ∧ (commitBefore 0 wRn.toRc8 = false)) ∧
  ((wOut.calls = []) ∧ (executes 0 wRn.toRc8 = true) ∧ (isStandby wRn.toRc8 = false) ∧ (wRn.run.mode = Mode.run) ∧ (0 = 0) ∧ (wRn.run.tasks[0].overran = false) ∧ (wRn.run.tasks[0].debug = false)) ∧
  ((wOut.calls = []) ∧ (executes 0 wRnO.toRc8 = true) ∧ (isStandby wRnO.toRc8 = false) ∧ (wRnO.run.mode = Mode.run) ∧ (wRnO.run.tasks[0].overran = true)) ∧
  ((s9_7.run.commits = [wJ 4 true, wJ 5 false]) ∧ (s9_7.nv.journal = [wJ 2 true] ++ [wJ 4 true]) ∧ ((wJ 4 true).committed = true) ∧ (changeArmed s9_7.toRc8 = false)) ∧
  ((s9_6.run.commits = [wJ 4 false, wJ 5 false]) ∧ (s9_6.nv.journal = [wJ 2 true] ++ [wJ 4 false]) ∧ ((wJ 4 false).committed = false)) := by and_intros <;> decide +kernel

theorem test_operatingModes_met :
  ((findChecked s9_8.toRc8 257 0 0 = some (wExec 257 [1, 0, 0, 0])) ∧ (Mode.ofCode (u8At (wExec 257 [1, 0, 0, 0]).req 0) ≠ targetMode s9_8.toRc8)) ∧
  ((findChecked s9_9.toRc8 257 0 0 = some (wExec 257 [0, 0, 0, 0])) ∧ (Mode.ofCode (u8At (wExec 257 [0, 0, 0, 0]).req 0) ≠ targetMode s9_9.toRc8)) ∧
  ((findChecked s9_10.toRc8 257 0 0 = some (wExec 257 [1, 0, 0, 0])) ∧ (Mode.ofCode (u8At (wExec 257 [1, 0, 0, 0]).req 0) = s9_10.run.mode) ∧ (targetMode s9_10.toRc8 = s9_10.run.mode)) ∧
  ((executes 0 wRn.toRc8 = true) ∧ (isStandby wRn.toRc8 = false) ∧ (targetMode wRn.toRc8 ≠ Mode.stop)) ∧
  ((Key.run ≠ wRn.run.key) ∧ (svpRuns wRn.toRc8 = true)) ∧
  ((Key.stop ≠ wKey.run.key) ∧ (svpRuns wKey.toRc8 = true)) ∧
  ((wKm.run.keysDiffer = some 77) ∧ (holdsToken wKm.toRc8 = true) ∧ (wKm.run.keyWarned = false)) ∧
  ((s9_11.pair.pend = [wMP 0 4]) ∧ ((wMP 0 4).op = PairOp.mode 0 4) ∧ (0 = 0) ∧ (s9_11.run.mode ≠ Mode.stop)) ∧
  ((s9_12.pair.pend = [wMP 0 4]) ∧ ((wMP 0 4).op = PairOp.mode 0 4) ∧ (0 = 0) ∧ (s9_12.run.mode ≠ Mode.stop)) ∧
  ((s9_13.pair.pend = [wMP 2 4]) ∧ ((wMP 2 4).op = PairOp.mode 2 4) ∧ (2 = 2) ∧ (s9_13.run.mode = Mode.run)) ∧
  ((s9_14.pair.pend = [wMP 1 3]) ∧ ((wMP 1 3).op = PairOp.mode 1 3) ∧ (1 = 1) ∧ (s9_14.run.mode = Mode.stop) ∧ (s9_14.nv.active = none)) ∧
  ((wOk.pair.pend = [wMP 1 3]) ∧ ((wMP 1 3).op = PairOp.mode 1 3) ∧ (1 = 1) ∧ (wOk.run.mode = Mode.stop) ∧ (runRefusal { wOk.toRc8 with clk := wOk.clk.toPtu ((wMP 1 3).round * wOk.rnd.period * fracPerNs), pair := { wOk.pair with pend := [] } } = none)) := by and_intros <;> decide +kernel

end W9

/-! States (s10_…) and operands (w…) for TaskServices, ProgramLoadAndActivate. -/

namespace W10

def wRnQ : State := wRn.after fun s => { s with run := { s.run with channel := [{ task := 1, call := .event 1 2 3 4 5 }] } }
def wRnSb : State := wSby.after (wTk .run fun t => { t with st := .running })
def wRnF : State := wTkS .run fun t => { t with st := .running, results := List.replicate 16 [0, 0] }
def s10_1 : State := wCF 0x103 (wBlk 0 [1,2,3]) (wIm 5)
def s10_2 : State := wCF 0x103 (wBlk 1 [1,2,3]) (wIm 5)
def s10_3 : State := wCF 0x103 (wBlk 1 (wImgB 6)) (wIm 5)
def wAct (s : Rc8) : Rc8 := { wIm 5 s with nv := { (wIm 5 s).nv with loaded := some (parseImage (wImgB 6)) } }
def s10_4 : State := wCF 0x104 [2,0,0,0] wAct

theorem test_taskServices_met :
  ((executes 0 wRn.toRc8 = true) ∧ (outstanding 0 wRn.toRc8 < 16) ∧ (isStandby wRn.toRc8 = false) ∧ (channelFree wRn.toRc8 = true) ∧ (1 ≤ 1) ∧ (1 ≤ 255) ∧ (0 ≤ 4)) ∧
  ((executes 0 wRn.toRc8 = true) ∧ (outstanding 0 wRn.toRc8 < 16) ∧ (isStandby wRn.toRc8 = false) ∧ (channelFree wRn.toRc8 = true) ∧ (1 ≤ 255) ∧ (255 ≤ 255) ∧ (4 ≤ 4)) ∧
  ((executes 0 wRnQ.toRc8 = true) ∧ (outstanding 0 wRnQ.toRc8 < 16) ∧ (isStandby wRnQ.toRc8 = false) ∧ (channelFree wRnQ.toRc8 = false)) ∧
  ((executes 0 wRnSb.toRc8 = true) ∧ (outstanding 0 wRnSb.toRc8 < 16) ∧ (isStandby wRnSb.toRc8 = true)) ∧
  ((executes 0 wRn.toRc8 = true) ∧ (outstanding 0 wRn.toRc8 < 16) ∧ (isStandby wRn.toRc8 = false) ∧ (channelFree wRn.toRc8 = true) ∧ ((19 * 256 + 3) / 256 = 19)) ∧
  ((executes 0 wRn.toRc8 = true) ∧ (outstanding 0 wRn.toRc8 < 16) ∧ (isStandby wRn.toRc8 = false) ∧ (channelFree wRn.toRc8 = true) ∧ ((19 * 256 + 255) / 256 = 19)) ∧
  ((executes 0 wRnF.toRc8 = true) ∧ (16 ≤ outstanding 0 wRnF.toRc8)) := by and_intros <;> decide +kernel

theorem test_programLoadAndActivate_met :
  ((findChecked s10_1.toRc8 259 0 0 = some (wExec 259 (wBlk 0 [1, 2, 3]))) ∧ (s10_1.chg.load = none) ∧ (changeArmed s10_1.toRc8 = false) ∧ (s10_1.run.activating = none) ∧ (BlockLoad.runs s10_1.run.load s10_1.toRc8 = false) ∧ (u32At (wExec 259 (wBlk 0 [1, 2, 3])).req 8 = 0) ∧ (bitAt (u8At (wExec 259 (wBlk 0 [1, 2, 3])).req 0) 0 = false)) ∧
  ((findChecked s10_2.toRc8 259 0 0 = some (wExec 259 (wBlk 1 [1, 2, 3]))) ∧ (s10_2.chg.load = none) ∧ (changeArmed s10_2.toRc8 = false) ∧ (s10_2.run.activating = none) ∧ (BlockLoad.runs s10_2.run.load s10_2.toRc8 = false) ∧ (u32At (wExec 259 (wBlk 1 [1, 2, 3])).req 8 = 0) ∧ (bitAt (u8At (wExec 259 (wBlk 1 [1, 2, 3])).req 0) 0 = true) ∧ (imageIntact (List.drop 16 (wExec 259 (wBlk 1 [1, 2, 3])).req) = false)) ∧
  ((findChecked s10_3.toRc8 259 0 0 = some (wExec 259 (wBlk 1 (wImgB 6)))) ∧ (s10_3.chg.load = none) ∧ (changeArmed s10_3.toRc8 = false) ∧ (s10_3.run.activating = none) ∧ (BlockLoad.runs s10_3.run.load s10_3.toRc8 = false) ∧ (u32At (wExec 259 (wBlk 1 (wImgB 6))).req 8 = 0) ∧ (bitAt (u8At (wExec 259 (wBlk 1 (wImgB 6))).req 0) 0 = true) ∧ (imageIntact (List.drop 16 (wExec 259 (wBlk 1 (wImgB 6))).req) = true) ∧ (imageFieldsOk (List.drop 16 (wExec 259 (wBlk 1 (wImgB 6))).req) s10_3.toRc8 = true) ∧ (s10_3.pair.partner.present = false)) ∧
  ((findChecked s10_4.toRc8 260 0 0 = some (wExec 260 [2, 0, 0, 0])) ∧ (s10_4.chg.load = none) ∧ (s10_4.chg.st = ChgSt.idle) ∧ (s10_4.nv.loaded = some (parseImage (wImgB 6))) ∧ (s10_4.pair.partner.present = false) ∧ (imagePlanFails (parseImage (wImgB 6)) s10_4.toRc8 = false) ∧ (coresPresent (parseImage (wImgB 6)) (imageDomains (parseImage (wImgB 6)) s10_4.toRc8) = true) ∧ ((activateRetained (u8At (wExec 260 [2, 0, 0, 0]).req 0) (parseImage (wImgB 6)) s10_4.toRc8).isSome = true)) := by and_intros <;> decide +kernel

end W10

/-! States (s11_…) and operands (w…) for OnlineChange. -/

namespace W11

def s11_1 : State := wCF 0x201 (wBlk 0 [1,2,3]) (wIm 5)
def wPk (m : Nat) (s : Rc8) : Rc8 := { wIm 5 s with nv := { (wIm 5 s).nv with package := some (wPkg 6 m) }, chg := { s.chg with st := .loaded } }
def wArmR (k : Nat) : List Byte := zeros 8 ++ le 4 k ++ zeros 4 ++ le 8 20
def s11_2 : State := wCF 0x202 (wArmR 0) (wPk 1)
def s11_3 : State := wCF 0x202 (wArmR 1) (wPk 1)
def wPrep (f : Option (Nat × Nat)) : State := wRunS.after fun s => { wPk 255 s with nv := { (wPk 255 s).nv with active := none }, chg := { s.chg with st := .preparing, exec := some 7, deadline := some 99, failed := f } }
def s11_4 : State := wPrep none
def s11_5 : State := wPrep (some (3,1))
def wArmed (st : TaskSt) : State := wRunS.after fun s => { wPk 255 s with run := { (wTk .run (fun t => { t with st := st }) s).run with }, chg := { s.chg with st := .armed, exec := some 7, deadline := some 99, candidate := some 12 } }
def s11_6 : State := wArmed .waiting
def wSbyP : State := wSby.after fun s => { wPk 255 s with chg := { s.chg with st := .preparing, candidate := some 12 } }
def s11_7 : State := wCF 0x203 [] (wPk 1)
def s11_8 : State := wCF 0x203 [] fun s => { wPk 1 s with chg := { s.chg with st := .preparing, deadline := some 4 } }
def s11_9 : State := wCF 0x203 [] fun s => { wPk 1 s with chg := { s.chg with st := .armed, fixed := true, deadline := some 4 } }
def wAb (w : Nat) (st : Nat) : State := wCmd 0x203 [] fun s => { wPk 1 (wRun s) with chg := { s.chg with st := .armed, fixed := false, candidate := some w } }
def s11_10 : State := wAb 8 0
def eAb : Exec := { wExec 0x203 [] with start := 20000000000 }
def wAb2 (w : Nat) : State := (wAb w 0).after fun s => { s with execs := [eAb] }
def s11_11 : State := wAb2 8
def s11_12 : State := wAb2 9
def s11_13 : State := wAb2 10
def s11_14 : State := wArmed .running
def wArmA : State := (wArmed .running).after fun s => { s with chg := { s.chg with exec := none, aborts := [7] }, execs := [{ wExec 0x203 [] with phase := .waiting }] }

theorem test_onlineChange_met :
  ((runningAffected s11_6.toRc8 = []) ∧ (s11_6.chg.candidate = some 12) ∧ (s11_6.nv.package = some (wPkg 6 255)) ∧ (s11_6.nv.active = some (parseImage (wImgB 5))) ∧ (isStandby s11_6.toRc8 = false) ∧ (s11_6.chg.fixed = false) ∧ (s11_6.pair.partner.present = false) ∧ (conversionFails none s11_6.toRc8 = false)) ∧
  ((runningAffected s11_6.toRc8 = []) ∧ (s11_6.chg.candidate = some 12) ∧ (s11_6.nv.package = some (wPkg 6 255)) ∧ (s11_6.nv.active = some (parseImage (wImgB 5))) ∧ (isStandby s11_6.toRc8 = false) ∧ (s11_6.chg.fixed = false) ∧ (s11_6.pair.partner.present = false) ∧ (conversionFails (some 3) s11_6.toRc8 = true)) ∧
  ((runningAffected s11_14.toRc8 ≠ []) ∧ (s11_14.chg.candidate = some 12) ∧ (s11_14.chg.fixed = false) ∧ (isStandby s11_14.toRc8 = false) ∧ (s11_14.chg.aborts = [])) ∧
  ((runningAffected wArmA.toRc8 ≠ []) ∧ (wArmA.chg.candidate = some 12) ∧ (wArmA.chg.fixed = false) ∧ (isStandby wArmA.toRc8 = false) ∧ (wArmA.chg.aborts = [7]) ∧ (wArmA.chg.exec = none)) ∧
  ((findChecked s11_1.toRc8 513 0 0 = some (wExec 513 (wBlk 0 [1, 2, 3]))) ∧ (changeArmed s11_1.toRc8 = false) ∧ (BlockLoad.runs s11_1.run.load s11_1.toRc8 = false) ∧ (s11_1.run.activating = none) ∧ (BlockLoad.runs s11_1.chg.load s11_1.toRc8 = false) ∧ (u32At (wExec 513 (wBlk 0 [1, 2, 3])).req 8 = 0) ∧ (bitAt (u8At (wExec 513 (wBlk 0 [1, 2, 3])).req 0) 0 = false)) ∧
  ((findChecked s11_2.toRc8 514 0 0 = some (wExec 514 (wArmR 0))) ∧ (s11_2.nv.package = some (wPkg 6 1)) ∧ (s11_2.chg.st = ChgSt.loaded) ∧ (changeBlocked s11_2.toRc8 = false)) ∧
  ((findChecked s11_3.toRc8 514 0 0 = some (wExec 514 (wArmR 1))) ∧ (s11_3.nv.package = some (wPkg 6 1)) ∧ (s11_3.chg.st = ChgSt.loaded) ∧ (changeBlocked s11_3.toRc8 = false)) ∧
  ((s11_4.nv.package = some (wPkg 6 255)) ∧ (s11_4.chg.st = ChgSt.preparing) ∧ (changeUnconfirmed s11_4.toRc8 = false) ∧ (isStandby s11_4.toRc8 = false) ∧ (s11_4.chg.failed = none)) ∧
  ((s11_5.nv.package = some (wPkg 6 255)) ∧ (s11_5.chg.st = ChgSt.preparing) ∧ (changeUnconfirmed s11_5.toRc8 = false) ∧ (isStandby s11_5.toRc8 = false) ∧ (s11_5.chg.failed = some (3, 1))) ∧
  (isStandby wSbyP.toRc8 = true) ∧
  ((findChecked s11_7.toRc8 515 0 0 = some (wExec 515 [])) ∧ (s11_7.chg.st = ChgSt.loaded)) ∧
  ((findChecked s11_8.toRc8 515 0 0 = some (wExec 515 [])) ∧ (s11_8.chg.st = ChgSt.preparing)) ∧
  ((findChecked s11_9.toRc8 515 0 0 = some (wExec 515 [])) ∧ (s11_9.chg.st = ChgSt.armed) ∧ (s11_9.chg.fixed = true)) ∧
  ((findChecked s11_10.toRc8 515 0 0 = some (wExec 515 [])) ∧ (s11_10.chg.st = ChgSt.armed) ∧ (s11_10.chg.fixed = false) ∧ (s11_10.chg.candidate = some 8) ∧ (s11_10.clk.ptu + 250000 * fracPerNs ≤ 8 * s11_10.rnd.period * fracPerNs + (s11_10.clk.refosc - (wExec 515 []).start) * fracPerNs)) ∧
  ((findChecked s11_11.toRc8 515 0 0 = some eAb) ∧ (s11_11.chg.st = ChgSt.armed) ∧ (s11_11.chg.fixed = false) ∧ (s11_11.chg.candidate = some 8) ∧ (8 * s11_11.rnd.period * fracPerNs + (s11_11.clk.refosc - eAb.start) * fracPerNs < s11_11.clk.ptu + 250000 * fracPerNs)) ∧
  ((findChecked s11_12.toRc8 515 0 0 = some eAb) ∧ (s11_12.chg.st = ChgSt.armed) ∧ (s11_12.chg.fixed = false) ∧ (s11_12.chg.candidate = some 9) ∧ (9 * s11_12.rnd.period * fracPerNs + (s11_12.clk.refosc - eAb.start) * fracPerNs < s11_12.clk.ptu + 250000 * fracPerNs)) ∧
  ((findChecked s11_13.toRc8 515 0 0 = some eAb) ∧ (s11_13.chg.st = ChgSt.armed) ∧ (s11_13.chg.fixed = false) ∧ (s11_13.chg.candidate = some 10) ∧ (s11_13.clk.ptu + 250000 * fracPerNs ≤ 10 * s11_13.rnd.period * fracPerNs + (s11_13.clk.refosc - eAb.start) * fracPerNs)) ∧
  ((s11_6.chg.deadline = some 99) ∧ (s11_6.chg.fixed = false)) :=
  ⟨⟨noneRunning (by decide +kernel), by and_intros <;> decide +kernel⟩,
    ⟨noneRunning (by decide +kernel), by and_intros <;> decide +kernel⟩,
    ⟨someRunning 0 rfl rfl (by decide +kernel) (by decide +kernel) (by decide +kernel), by and_intros <;> decide +kernel⟩,
    ⟨someRunning 0 rfl rfl (by decide +kernel) (by decide +kernel) (by decide +kernel), by and_intros <;> decide +kernel⟩,
    by and_intros <;> decide +kernel⟩

end W11

/-! States (s12_…) and operands (w…) for PairMessages. -/

namespace W12

def wH (crc : Bool) (seq : Nat) : PlkHdr := { crcOk := crc, ack := false, last := true, seq := seq, round := 8 }
def wRM (rel : Bool) : RelMsg := { task := 0, released := rel, time := 5, mono := 6, gens := [1] }
def wCM : CycMsg := { task := 0, seq := 4, published := true }
def wSbyR : State := wSby.after fun s => { s with pair := { s.pair with plk := { s.pair.plk with rx := [(0x12, 5), (0x20, 5)] } } }
def wSbyT : State := wSby.after (wTk .run fun t => { t with st := .running, lastRound := 7 })
def wSbyOw : State := wSby.after fun s => { s with pair := { s.pair with sourceKnown := true, ownRound := true } }
def wImg1 : List Byte := le 8 8 ++ zeros 40
def wSbyH : State := wSby.after fun s => { wTk .run (fun t => { t with held := [(5, 6, 8)] }) s with pair := { s.pair with fwdDone := true } } |> fun s => { s with run := { s.run with motionIn := wImg1 } }
def wRG : RelMsg := { wRM true with gens := [imageGen wImg1] }
def wSbyK : State := wSby.after fun s => wTk .run (fun t => { t with st := .running, ending := true, parked := some wOut }) s
def x12_1 := { wCM with published := false }
def wSbyC : State := wSby.after fun s => { wTk .run id s with pair := { s.pair with synced := false, resync := { s.pair.resync with running := true, requested := false, finalDue := true } } }
def wAw (k : Nat) : PlkAwait := { type := 0x20, flags := 0, seq := 4, round := 8, body := .none, tries := k, since := 100 }
def wSbyA (k : Nat) : State := wSby.after fun s => { s with pair := { s.pair with plk := { s.pair.plk with awaiting := [wAw k, wAw 0] } } }
def s12_2 : State := wSbyA 0
def s12_3 : State := wSbyA 2
def s12_4 : State := wSbyA 3

theorem test_pairMessages_met :
  ((∀ (ty : ℕ), (ty, (wH true 5).seq) ∉ wSby.pair.plk.rx) ∧ (wSby.pair.plk.up = true) ∧ ((wH true 5).crcOk = true) ∧ ((wH true 5).ack = false) ∧ (isStandby wSby.toRc8 = true) ∧ (dmaStopped 14 wSby.toRc8 = false) ∧ ((wH true 5).round = wSby.rnd.round)) ∧
  ((∀ (ty : ℕ), (ty, (wH true 5).seq) ∉ wSbyOw.pair.plk.rx) ∧ (wSbyOw.pair.plk.up = true) ∧ ((wH true 5).crcOk = true) ∧ ((wH true 5).ack = false) ∧ (isStandby wSbyOw.toRc8 = true) ∧ (dmaStopped 14 wSbyOw.toRc8 = false) ∧ (ownDecides wSbyOw.toRc8 = true)) ∧
  ((∀ (ty : ℕ), (ty, (wH true 5).seq) ∉ wSby.pair.plk.rx) ∧ (wSby.pair.plk.up = true) ∧ ((wH true 5).crcOk = true) ∧ ((wH true 5).ack = false) ∧ (isStandby wSby.toRc8 = true) ∧ (dmaStopped 14 wSby.toRc8 = false) ∧ (wSby.pair.synced = true) ∧ (ownDecides wSby.toRc8 = false) ∧ (wSby.run.mode ≠ Mode.layby) ∧ (∀ (k : Fin 8), wSby.run.tasks[k].parked = none) ∧ (∀ (k : Fin 8), wSby.run.tasks[k].held = [])) ∧
  ((∀ (ty : ℕ), (ty, (wH true 5).seq) ∉ wSbyT.pair.plk.rx) ∧ (wSbyT.pair.plk.up = true) ∧ ((wH true 5).crcOk = true) ∧ ((wH true 5).ack = false) ∧ (isStandby wSbyT.toRc8 = true) ∧ (dmaStopped 14 wSbyT.toRc8 = false) ∧ (wSbyT.pair.synced = true) ∧ (ownDecides wSbyT.toRc8 = false) ∧ (wSbyT.run.mode ≠ Mode.layby) ∧ (∀ (k : Fin 8), wSbyT.run.tasks[k].parked = none) ∧ (∀ (k : Fin 8), wSbyT.run.tasks[k].held = [])) ∧
  ((∀ (ty : ℕ), (ty, (wH true 5).seq) ∉ wSbyH.pair.plk.rx) ∧ (wSbyH.pair.plk.up = true) ∧ ((wH true 5).crcOk = true) ∧ ((wH true 5).ack = false) ∧ (isStandby wSbyH.toRc8 = true) ∧ (dmaStopped 14 wSbyH.toRc8 = false) ∧ (wSbyH.pair.synced = true) ∧ (ownDecides wSbyH.toRc8 = false) ∧ (wSbyH.run.mode ≠ Mode.layby) ∧ (∀ (k : Fin 8), wSbyH.run.tasks[k].parked = none) ∧ ((wRM false).task = 0) ∧ (wSbyH.run.tasks[0].held = [(5, 6, 8)]) ∧ (∀ (j : Fin 8), j ≠ 0 → wSbyH.run.tasks[j].held = []) ∧ (wSbyH.pair.releases = [])) ∧
  ((∀ (ty : ℕ), (ty, (wH true 5).seq) ∉ wSbyH.pair.plk.rx) ∧ (wSbyH.pair.plk.up = true) ∧ ((wH true 5).crcOk = true) ∧ ((wH true 5).ack = false) ∧ (isStandby wSbyH.toRc8 = true) ∧ (dmaStopped 14 wSbyH.toRc8 = false) ∧ (wSbyH.pair.synced = true) ∧ (ownDecides wSbyH.toRc8 = false) ∧ (wSbyH.run.mode ≠ Mode.layby) ∧ (∀ (k : Fin 8), wSbyH.run.tasks[k].parked = none) ∧ (wRG.task = 0) ∧ (wSbyH.run.tasks[0].held = [(5, 6, 8)]) ∧ (∀ (j : Fin 8), j ≠ 0 → wSbyH.run.tasks[j].held = []) ∧ (wSbyH.pair.releases = [])) ∧
  ((∀ (ty : ℕ), (ty, (wH true 5).seq) ∉ wSbyK.pair.plk.rx) ∧ (wSbyK.pair.plk.up = true) ∧ ((wH true 5).crcOk = true) ∧ ((wH true 5).ack = false) ∧ (isStandby wSbyK.toRc8 = true) ∧ (dmaStopped 14 wSbyK.toRc8 = false) ∧ (∀ (k : Fin 8), wSbyK.run.tasks[k].held = []) ∧ (wSbyK.run.tasks[0].parked = some wOut) ∧ (∀ (j : Fin 8), j ≠ 0 → wSbyK.run.tasks[j].parked = none) ∧ (wCM.task = 0) ∧ (wCM.seq = wSbyK.run.tasks[0].seq) ∧ (wSbyK.pair.cycles = []) ∧ (ownDecides wSbyK.toRc8 = false)) ∧
  ((∀ (ty : ℕ), (ty, (wH true 5).seq) ∉ wSbyK.pair.plk.rx) ∧ (wSbyK.pair.plk.up = true) ∧ ((wH true 5).crcOk = true) ∧ ((wH true 5).ack = false) ∧ (isStandby wSbyK.toRc8 = true) ∧ (dmaStopped 14 wSbyK.toRc8 = false) ∧ (∀ (k : Fin 8), wSbyK.run.tasks[k].held = []) ∧ (wSbyK.run.tasks[0].parked = some wOut) ∧ (∀ (j : Fin 8), j ≠ 0 → wSbyK.run.tasks[j].parked = none) ∧ (x12_1.task = 0) ∧ (x12_1.seq = wSbyK.run.tasks[0].seq) ∧ (wSbyK.pair.cycles = []) ∧ (ownDecides wSbyK.toRc8 = false)) ∧
  ((∀ (ty : ℕ), (ty, (wH true 5).seq) ∉ wSby.pair.plk.rx) ∧ (wSby.pair.plk.up = true) ∧ ((wH true 5).crcOk = true) ∧ ((wH true 5).ack = false) ∧ (isStandby wSby.toRc8 = true) ∧ (dmaStopped 14 wSby.toRc8 = false) ∧ (7 < 8)) ∧
  ((∀ (ty : ℕ), (ty, (wH true 5).seq) ∉ wSbyC.pair.plk.rx) ∧ (wSbyC.pair.plk.up = true) ∧ ((wH true 5).crcOk = true) ∧ ((wH true 5).ack = false) ∧ (isStandby wSbyC.toRc8 = true) ∧ (dmaStopped 14 wSbyC.toRc8 = false)) ∧
  ((wRunS.pair.plk.up = false) ∧ (([] : List DigestRec).length ≤ 64)) ∧
  ((wSby.pair.plk.up = true) ∧ ((wH false 5).crcOk = false) ∧ (([] : List DigestRec).length ≤ 64)) ∧
  ((wSbyR.pair.plk.up = true) ∧ ((wH true 5).crcOk = true) ∧ ((wH true 5).ack = false)) ∧
  ((wRunS.pair.plk.up = false) ∧ (2 ≠ 0)) ∧
  ((wRunS.pair.plk.up = false) ∧ (1 ≠ 0)) ∧
  ((State.reset.pair.plk.up = false) ∧ (1 ≠ 0)) ∧
  ((s12_2.pair.plk.up = true) ∧ (s12_2.pair.plk.awaiting = [wAw 0, wAw 0]) ∧ ((wAw 0).tries < 3)) ∧
  ((s12_3.pair.plk.up = true) ∧ (s12_3.pair.plk.awaiting = [wAw 2, wAw 0]) ∧ ((wAw 2).tries < 3)) ∧
  ((s12_4.pair.plk.up = true) ∧ (s12_4.pair.plk.awaiting = [wAw 3, wAw 0]) ∧ (3 ≤ (wAw 3).tries)) :=
  ⟨⟨notReceived (by decide +kernel), by and_intros <;> decide +kernel⟩,
    ⟨notReceived (by decide +kernel), by and_intros <;> decide +kernel⟩,
    ⟨notReceived (by decide +kernel), by and_intros <;> decide +kernel⟩,
    ⟨notReceived (by decide +kernel), by and_intros <;> decide +kernel⟩,
    ⟨notReceived (by decide +kernel), by and_intros <;> decide +kernel⟩,
    ⟨notReceived (by decide +kernel), by and_intros <;> decide +kernel⟩,
    ⟨notReceived (by decide +kernel), by and_intros <;> decide +kernel⟩,
    ⟨notReceived (by decide +kernel), by and_intros <;> decide +kernel⟩,
    ⟨notReceived (by decide +kernel), by and_intros <;> decide +kernel⟩,
    ⟨notReceived (by decide +kernel), by and_intros <;> decide +kernel⟩,
    by and_intros <;> decide +kernel⟩

end W12

/-! States (s13_…) and operands (w…) for LeaseMessages, DigestsAndConfirmation, TokenMoves, CrossoverHomeResync. -/

namespace W13

def wH (crc : Bool) (seq : Nat) : PlkHdr := { crcOk := crc, ack := false, last := true, seq := seq, round := 8 }
def wLR : LeaseRec := { epoch := 4, kind := .renew, position := 1, round := 8, mark := 0, key := 1, mode := 2, prio := 3 }
def wHd (r : Option Nat) : Handover := { by_ := .command 7, notBefore := 0, waitEnd := 20000200000, round := r, confirmed := false, committed := false }
def wHand (r : Option Nat) : State := wRunS.after fun s => { s with pair := { s.pair with hand := some (wHd r), partner := { s.pair.partner with present := true } }, execs := [{ wExec 0x701 [] with phase := .waiting }] }
def s13_1 : State := wHand (some 40)
def wSvpH : State := wRunS.after fun s => { s with itg := { s.itg with pairs := s.itg.pairs.set 2 { s.itg.pairs[2] with st := .halted } } }
def wDR (chain seq : Nat) : DigestRec := { chain := chain, seq := seq, kind := 8, own := false }
def wHis : State := wSby.after fun s => { s with pair := { s.pair with history := s.pair.history.set 8 [wDR 55 6, wDR 44 5] } }
def wHr : State := wSby.after fun s => { s with pair := { s.pair with token := .holder, pulse := true, resync := { s.pair.resync with running := true, exec := some 7 } }, chg := { s.chg with st := .armed, candidate := some 80 }, execs := [{ wExec 0x704 [] with phase := .waiting }] }
def wPO (op : PairOp) : PendOp := { seq := some 3, round := 9, op := op, exec := none, confirmed := false, resp := [], late := false, fromPartner := false }
def wHp (op : PairOp) : State := wHr.after fun s => { s with pair := { s.pair with pend := [wPO op] } }
def s13_2 : State := wHp (.command 0xA42 [])
def s13_3 : State := wHp (.mode 1 2)
def wTok (t : Token) : State := wSby.after fun s => { s with pair := { s.pair with token := t } }
def s13_4 : State := wTok .standbyReady
def wUn : State := wRunS.after fun s => { s with pair := { s.pair with token := .unclaimed, selfTest := true }, nv := { s.nv with highestEpoch := 65535 }, net := s.net.map fun n => { n with state := .listen, metSilence := true } }
def wAbs (h : Option Nat) : State := wRunS.after fun s => { s with rnd := { s.rnd with round := 40 }, pair := { s.pair with partner := { s.pair.partner with present := true, heard := h } } }
def s13_5 : State := wAbs none
def s13_6 : State := wAbs (some 31)
def s13_7 : State := wC 0x704 []
def wX (k : Nat) : List Byte := zeros 8 ++ le 4 k ++ zeros 4
def s13_8 : State := wC 0x701 (wX 0)
def s13_9 : State := wHand none
def s13_10 : State := wC 0x703 [2,0,0,0]
def s13_11 : State := wC 0x703 [1,0,1,2]
def wStl : State := wSby.after fun s => { s with pair := { s.pair with token := .standbyReady, settleFrom := some 4 } }
def wIns (st : Nat) : State := wSby.after fun s => { s with pair := { s.pair with step := st, stepFrom := 7, synced := false } }
def s13_12 : State := wIns 4
def s13_13 : State := wIns 7
def wTrn : State := wSby.after fun s => { s with pair := { s.pair with step := 0, training := some 9 } }

theorem test_leaseMessages_met :
  ((svpRuns wSby.toRc8 = true) ∧ (isStandby wSby.toRc8 = true) ∧ (wLR.kind = LeaseKind.renew) ∧ (wLR.epoch = wSby.pair.epoch) ∧ (PairPath.window = PairPath.window ∨ wSby.pair.plk.up = true ∧ (wH true 5).crcOk = true ∧ (wH true 5).ack = false)) ∧
  ((svpRuns wSby.toRc8 = true) ∧ (isStandby wSby.toRc8 = true) ∧ (wLR.kind = LeaseKind.renew) ∧ (wLR.epoch = wSby.pair.epoch) ∧ (PairPath.pairLink = PairPath.window ∨ wSby.pair.plk.up = true ∧ (wH true 5).crcOk = true ∧ (wH true 5).ack = false)) ∧
  ((svpRuns s13_1.toRc8 = true) ∧ (s13_1.pair.token = Token.holder)) ∧
  (svpRuns wSvpH.toRc8 = false) :=
  by and_intros <;> decide +kernel

theorem test_digestsAndConfirmation_met :
  ((∀ (ty : ℕ), (ty, (wH true 5).seq) ∉ wSby.pair.plk.rx) ∧ (wSby.pair.plk.up = true) ∧ ((wH true 5).crcOk = true) ∧ ((wH true 5).ack = false) ∧ (isStandby wSby.toRc8 = true) ∧ (2626 ≠ 1042) ∧ (wSby.rnd.round < 9)) ∧
  ((∀ (ty : ℕ), (ty, (wH true 5).seq) ∉ wHr.pair.plk.rx) ∧ (wHr.pair.plk.up = true) ∧ ((wH true 5).crcOk = true) ∧ ((wH true 5).ack = false) ∧ (holdsToken wHr.toRc8 = true)) ∧
  ((∀ (ty : ℕ), (ty, (wH true 5).seq) ∉ wHr.pair.plk.rx) ∧ (wHr.pair.plk.up = true) ∧ ((wH true 5).crcOk = true) ∧ ((wH true 5).ack = false) ∧ (wHr.clk.ptu ≤ confirmBy 80 wHr.toRc8)) ∧
  ((∀ (ty : ℕ), (ty, (wH true 5).seq) ∉ wHr.pair.plk.rx) ∧ (wHr.pair.plk.up = true) ∧ ((wH true 5).crcOk = true) ∧ ((wH true 5).ack = false) ∧ (confirmBy 1 wHr.toRc8 < wHr.clk.ptu)) ∧
  ((∀ (ty : ℕ), (ty, (wH true 5).seq) ∉ wHr.pair.plk.rx) ∧ (wHr.pair.plk.up = true) ∧ ((wH true 5).crcOk = true) ∧ ((wH true 5).ack = false) ∧ (false = false)) ∧
  ((∀ (ty : ℕ), (ty, (wH true 5).seq) ∉ s13_2.pair.plk.rx) ∧ (s13_2.pair.plk.up = true) ∧ ((wH true 5).crcOk = true) ∧ ((wH true 5).ack = false) ∧ (s13_2.pair.pend = [wPO (PairOp.command 2626 [])]) ∧ ((wPO (PairOp.command 2626 [])).seq = some 3) ∧ ((wPO (PairOp.command 2626 [])).confirmed = false) ∧ ((wPO (PairOp.command 2626 [])).fromPartner = false) ∧ ((wPO (PairOp.command 2626 [])).op.twoWay = false) ∧ ((wPO (PairOp.command 2626 [])).round ≠ 0)) ∧
  ((∀ (ty : ℕ), (ty, (wH true 5).seq) ∉ s13_3.pair.plk.rx) ∧ (s13_3.pair.plk.up = true) ∧ ((wH true 5).crcOk = true) ∧ ((wH true 5).ack = false) ∧ (s13_3.pair.pend = [wPO (PairOp.mode 1 2)]) ∧ ((wPO (PairOp.mode 1 2)).seq = some 3) ∧ ((wPO (PairOp.mode 1 2)).confirmed = false) ∧ ((wPO (PairOp.mode 1 2)).fromPartner = false) ∧ ((wPO (PairOp.mode 1 2)).op.twoWay = false) ∧ ((wPO (PairOp.mode 1 2)).round ≠ 0)) ∧
  ((wHis.pair.plk.up = true) ∧ ((wH true 5).crcOk = true) ∧ ((wH true 5).ack = false) ∧ (isStandby wHis.toRc8 = true) ∧ (wHis.pair.synced = true) ∧ ((wDR 55 7).own = false) ∧ ((wDR 55 7).kind = 8) ∧ (∀ x ∈ wHis.pair.history[8], x.seq ≠ (wDR 55 7).seq)) ∧
  ((wHis.pair.plk.up = true) ∧ ((wH true 5).crcOk = true) ∧ ((wH true 5).ack = false) ∧ (isStandby wHis.toRc8 = true) ∧ (wHis.pair.synced = true) ∧ ((wDR 55 6).own = false) ∧ ((wDR 55 6).kind = 8) ∧ (List.find? (fun x => x.seq == (wDR 55 6).seq) wHis.pair.history[8] = some (wDR 55 6)) ∧ ((wDR 55 6).own = false) ∧ ((wDR 55 6).chain = (wDR 55 6).chain)) ∧
  ((wHis.pair.plk.up = true) ∧ ((wH true 5).crcOk = true) ∧ ((wH true 5).ack = false) ∧ (isStandby wHis.toRc8 = true) ∧ (wHis.pair.synced = true) ∧ ((wDR 56 6).own = false) ∧ ((wDR 56 6).kind = 8) ∧ (List.find? (fun x => x.seq == (wDR 56 6).seq) wHis.pair.history[8] = some (wDR 55 6)) ∧ ((wDR 55 6).own = false) ∧ ((wDR 55 6).chain ≠ (wDR 56 6).chain)) :=
  ⟨⟨notReceived (by decide +kernel), by and_intros <;> decide +kernel⟩,
    ⟨notReceived (by decide +kernel), by and_intros <;> decide +kernel⟩,
    ⟨notReceived (by decide +kernel), by and_intros <;> decide +kernel⟩,
    ⟨notReceived (by decide +kernel), by and_intros <;> decide +kernel⟩,
    ⟨notReceived (by decide +kernel), by and_intros <;> decide +kernel⟩,
    ⟨notReceived (by decide +kernel), by and_intros <;> decide +kernel⟩,
    ⟨notReceived (by decide +kernel), by and_intros <;> decide +kernel⟩,
    by and_intros <;> decide +kernel⟩

theorem test_tokenMoves_met :
  ((svpRuns wRunS.toRc8 = true) ∧ (wRunS.pair.token = Token.holder ∨ wRunS.pair.token = Token.handover) ∧ (wRunS.pair.pulse = true)) ∧
  ((svpRuns s13_4.toRc8 = true) ∧ (s13_4.pair.token = Token.standbyReady)) ∧
  ((svpRuns wSby.toRc8 = true) ∧ (wSby.pair.token = Token.standby)) ∧
  ((svpRuns wUn.toRc8 = true) ∧ (mayClaim wUn.toRc8 = true)) ∧
  ((svpRuns s13_5.toRc8 = true) ∧ (s13_5.pair.plk.up = false) ∧ (s13_5.pair.partner.present = true) ∧ (∀ (r : ℕ), s13_5.pair.partner.heard = some r → r + 8 < s13_5.rnd.round)) ∧
  ((svpRuns s13_6.toRc8 = true) ∧ (s13_6.pair.plk.up = false) ∧ (s13_6.pair.partner.present = true) ∧ (∀ (r : ℕ), s13_6.pair.partner.heard = some r → r + 8 < s13_6.rnd.round)) :=
  by and_intros <;> decide +kernel

theorem test_crossoverHomeResync_met :
  ((findChecked s13_7.toRc8 1796 0 0 = some (wExec 1796 [])) ∧ (s13_7.pair.resync.running = false)) ∧
  ((findChecked s13_8.toRc8 1793 0 0 = some (wExec 1793 (wX 0))) ∧ (s13_8.pair.hand = none)) ∧
  ((s13_9.pair.hand = some (wHd none)) ∧ ((wHd none).round = none) ∧ ((wHd none).by_ = HandBy.command 7)) ∧
  ((findChecked s13_10.toRc8 1795 0 0 = some (wExec 1795 [2, 0, 0, 0])) ∧ (s13_10.pair.partner.present = false)) ∧
  ((findChecked s13_11.toRc8 1795 0 0 = some (wExec 1795 [1, 0, 1, 2])) ∧ (s13_11.pair.partner.present = false)) ∧
  ((wStl.pair.settleFrom = some 4) ∧ (wStl.pair.token = Token.standbyReady)) ∧
  ((wHr.pair.resync.running = true) ∧ (holdsToken wHr.toRc8 = true)) ∧
  ((isStandby s13_12.toRc8 = true) ∧ (s13_12.pair.training = none) ∧ (s13_12.pair.step = 4) ∧ (0 ∈ nets s13_12.toRc8 ∧ s13_12.net[0].state ≠ NetState.joined)) ∧
  ((isStandby s13_13.toRc8 = true) ∧ (s13_13.pair.training = none) ∧ (s13_13.pair.step = 7) ∧ (s13_13.pair.synced = false) ∧ (s13_13.pair.stepFailed &&& 1 = 0)) ∧
  ((isStandby wTrn.toRc8 = true) ∧ (wTrn.pair.training = some 9) ∧ (wTrn.pair.step = 0) ∧ (wTrn.pair.stepFailed &&& 2 ^ 10 = 0)) :=
  by and_intros <;> decide +kernel

end W13

/-! States (s14_…) and operands (w…) for SafetySessions, SafetySetsAndResets, TestPulses, SafetyChannels. -/

namespace W14

def wLg (n : Byte) : List Byte := [n, 0, 0, 0] ++ padTo 32 (List.replicate n.toNat 0x41) ++ zeros 15 ++ [5]
def wLS (n : Byte) (f : Safety → Safety) : State := wCF 0x801 (wLg n) fun s => { s with saf := f s.saf }
def wSess4 (s : Safety) : Safety := { s with sess := Vector.replicate 4 (some { operator := [], last := 6, first := true }) }
def s14_1 : State := wLS 0 id
def s14_2 : State := wLS 8 id
def s14_3 : State := wLS 32 fun x => { x with fails := 3, lockUntil := some 20000000000 }
def s14_4 : State := wLS 32 fun x => { x with fails := 4, lockUntil := some 20000000000 }
def s14_5 : State := wLS 7 id
def s14_6 : State := wLS 1 id
def s14_7 : State := wLS 33 id
def s14_8 : State := wCF 0x807 [] fun s => { s with saf := wSess4 s.saf }
def wSe : State := wRunS.after fun s => { s with saf := wSess4 s.saf }
def wPwR : List Byte := [8, 0, 0, 0] ++ padTo 32 (List.replicate 8 0x42)
def s14_9 : State := wCF 0x808 wPwR fun s => { s with saf := wSess4 s.saf }
def s14_10 : State := wC 0x802 (wBlk 0 [1,2])
def s14_11 : State := wC 0x802 (wBlk 1 [1,2])
def s14_12 : State := wCF 0x802 wBlkS fun s => { wSafe s with nv := { (wSafe s).nv with safeActive := none } }
def wSA : List Byte := le 4 3 ++ le 4 1050931657 ++ le 8 0
def wPn (s : Rc8) : Rc8 := { s with nv := { s.nv with safePending := some wSet } }
def s14_13 : State := wCF 0x803 wSA wPn
def wPnP (s : Rc8) : Rc8 := { wPn s with pair := { (wPn s).pair with partner := { (wPn s).pair.partner with present := true }, plk := { (wPn s).pair.plk with up := false } } }
def s14_14 : State := wCF 0x803 wSA wPnP
def wSA2 : List Byte := le 4 3 ++ le 4 1050931657 ++ le 8 400
def s14_15 : State := wCF 0x803 wSA2 fun s => wSafe (wPn s)
def s14_16 : State := wC 0x809 [4,0,0,0]
def s14_17 : State := wC 0x809 [4,0,1,0]
def wLat : State := wCF 0x809 [4,0,1,0] fun s => { wSafe s with saf := { s.saf with ch := s.saf.ch.map fun c => { c with latched := 4, axes := [(3, { ChAxis.reset with fail := 1 })] } } }
def wPul (f : Safety → Safety) : State := wRunS.after fun s => { wSafe s with saf := f s.saf }
def wClo (v : BitVec 8) (x : Safety) : Safety := { x with ch := x.ch.map fun c => { c with closed := v } }
def wPulS (f : Safety → Safety) : State := (wPul f).after fun s => { s with pair := { s.pair with token := .standby, pulse := false, synced := true, ownRound := false, plk := { s.pair.plk with up := true } } , ffe := { s.ffe with holder := zeros 262 ++ [1] ++ zeros 100 } }
def s14_18 : State := wPulS (wClo 0)
def s14_19 : State := wPul (wClo 3)
def s14_20 : State := wPul (wClo 2)
def s14_21 : State := wPul (wClo 0)
def wQ2 (d : Bool) (side : Fin 2) : Pulse := { out := 0, dark := d, side := side, start := 5, exec := none }
def wPq (d : Bool) (side : Fin 2) : State := wPul fun x => { wClo (if d then 3 else 0) x with pulse := some (wQ2 d side) }
def s14_22 : State := wPq true 0
def s14_23 : State := wPq false 1
def wCk : Milestone := schedEntry 5 0 80000
def s14_24 : State := wPul id
def wDet : State := wPul fun x => { x with det := { x.det with entry := some 4, axes := [(3, 0, 1)], endAt := 30000000000 } }
def bcB : BudanCopy := { tagged := false, etherType := 0x88B5, fcsOk := true, src := 0x123, version := 1, kind := 2, net := 0, chan := 1, round := 8, schedId := 3, flags := 0, data := zeros 60, timeErr := 0, tick := 0, delay := 0, hops := 0, period := 125000 }
def wSml : State := wPul fun x => { x with sml := { x.sml with maps := #v[3, 0] } }
def x14_25 := { bcB with chan := 0 }
def x14_26 := { bcB with flags := 1, schedId := 0 }

theorem test_safetySessions_met :
  ((findChecked s14_1.toRc8 2049 0 0 = some (wExec 2049 (wLg 0))) ∧ (s14_1.saf.lockUntil = none ∨ ∃ t0, s14_1.saf.lockUntil = some t0 ∧ t0 ≤ s14_1.clk.refosc) ∧ (8 ≤ u8At (wExec 2049 (wLg 0)).req 0 ∧ u8At (wExec 2049 (wLg 0)).req 0 ≤ 32 ∨ u8At (wExec 2049 (wLg 0)).req 0 = 0 ∧ s14_1.nv.password = none) ∧ (passwordChars (slice (wExec 2049 (wLg 0)).req 4 (u8At (wExec 2049 (wLg 0)).req 0)) = true) ∧ (passwordRight (wExec 2049 (wLg 0)).req s14_1.toRc8 = true)) ∧
  ((findChecked s14_2.toRc8 2049 0 0 = some (wExec 2049 (wLg 8))) ∧ (s14_2.saf.lockUntil = none ∨ ∃ t0, s14_2.saf.lockUntil = some t0 ∧ t0 ≤ s14_2.clk.refosc) ∧ (8 ≤ u8At (wExec 2049 (wLg 8)).req 0 ∧ u8At (wExec 2049 (wLg 8)).req 0 ≤ 32 ∨ u8At (wExec 2049 (wLg 8)).req 0 = 0 ∧ s14_2.nv.password = none) ∧ (passwordChars (slice (wExec 2049 (wLg 8)).req 4 (u8At (wExec 2049 (wLg 8)).req 0)) = true) ∧ (passwordRight (wExec 2049 (wLg 8)).req s14_2.toRc8 = false) ∧ (s14_2.saf.fails < 4)) ∧
  ((findChecked s14_3.toRc8 2049 0 0 = some (wExec 2049 (wLg 32))) ∧ (s14_3.saf.lockUntil = none ∨ ∃ t0, s14_3.saf.lockUntil = some t0 ∧ t0 ≤ s14_3.clk.refosc) ∧ (8 ≤ u8At (wExec 2049 (wLg 32)).req 0 ∧ u8At (wExec 2049 (wLg 32)).req 0 ≤ 32 ∨ u8At (wExec 2049 (wLg 32)).req 0 = 0 ∧ s14_3.nv.password = none) ∧ (passwordChars (slice (wExec 2049 (wLg 32)).req 4 (u8At (wExec 2049 (wLg 32)).req 0)) = true) ∧ (passwordRight (wExec 2049 (wLg 32)).req s14_3.toRc8 = false) ∧ (s14_3.saf.fails < 4)) ∧
  ((findChecked s14_4.toRc8 2049 0 0 = some (wExec 2049 (wLg 32))) ∧ (s14_4.saf.lockUntil = none ∨ ∃ t0, s14_4.saf.lockUntil = some t0 ∧ t0 ≤ s14_4.clk.refosc) ∧ (8 ≤ u8At (wExec 2049 (wLg 32)).req 0 ∧ u8At (wExec 2049 (wLg 32)).req 0 ≤ 32 ∨ u8At (wExec 2049 (wLg 32)).req 0 = 0 ∧ s14_4.nv.password = none) ∧ (passwordChars (slice (wExec 2049 (wLg 32)).req 4 (u8At (wExec 2049 (wLg 32)).req 0)) = true) ∧ (passwordRight (wExec 2049 (wLg 32)).req s14_4.toRc8 = false) ∧ (4 ≤ s14_4.saf.fails)) ∧
  ((findChecked s14_5.toRc8 2049 0 0 = some (wExec 2049 (wLg 7))) ∧ (1 ≤ u8At (wExec 2049 (wLg 7)).req 0 ∧ u8At (wExec 2049 (wLg 7)).req 0 < 8 ∨ 32 < u8At (wExec 2049 (wLg 7)).req 0)) ∧
  ((findChecked s14_6.toRc8 2049 0 0 = some (wExec 2049 (wLg 1))) ∧ (1 ≤ u8At (wExec 2049 (wLg 1)).req 0 ∧ u8At (wExec 2049 (wLg 1)).req 0 < 8 ∨ 32 < u8At (wExec 2049 (wLg 1)).req 0)) ∧
  ((findChecked s14_7.toRc8 2049 0 0 = some (wExec 2049 (wLg 33))) ∧ (1 ≤ u8At (wExec 2049 (wLg 33)).req 0 ∧ u8At (wExec 2049 (wLg 33)).req 0 < 8 ∨ 32 < u8At (wExec 2049 (wLg 33)).req 0)) ∧
  (findChecked s14_8.toRc8 2055 0 0 = some (wExec 2055 [])) ∧
  (wSe.saf.sess[2] = some { operator := [], last := 6, first := true }) ∧
  ((findChecked s14_9.toRc8 2056 0 0 = some (wExec 2056 wPwR)) ∧ ((zeros 16).length = 16) ∧ (s14_9.pair.partner.present = false)) :=
  by and_intros <;> decide +kernel

theorem test_safetySetsAndResets_met :
  ((findChecked s14_12.toRc8 2050 0 0 = some (wExec 2050 wBlkS)) ∧ (setCrcOk (blockTake s14_12.saf.load (wExec 2050 wBlkS)).data = true) ∧ (setFieldsOk (blockTake s14_12.saf.load (wExec 2050 wBlkS)).data = true) ∧ (BlockLoad.runs s14_12.saf.load s14_12.toRc8 = false) ∧ (bitAt (u8At (wExec 2050 wBlkS).req 0) 0 = true) ∧ (s14_12.pair.partner.present = false)) ∧
  ((findChecked s14_10.toRc8 2050 0 0 = some (wExec 2050 (wBlk 0 [1, 2]))) ∧ (BlockLoad.runs s14_10.saf.load s14_10.toRc8 = false) ∧ (bitAt (u8At (wExec 2050 (wBlk 0 [1, 2])).req 0) 0 = false)) ∧
  ((findChecked s14_11.toRc8 2050 0 0 = some (wExec 2050 (wBlk 1 [1, 2]))) ∧ (BlockLoad.runs s14_11.saf.load s14_11.toRc8 = false) ∧ (bitAt (u8At (wExec 2050 (wBlk 1 [1, 2])).req 0) 0 = true) ∧ (setCrcOk (blockTake s14_11.saf.load (wExec 2050 (wBlk 1 [1, 2]))).data = false)) ∧
  ((findChecked s14_13.toRc8 2051 0 0 = some (wExec 2051 wSA)) ∧ (s14_13.pair.hand = none) ∧ (s14_13.pair.resync.running = false) ∧ (s14_13.pair.partner.present = false ∨ s14_13.pair.plk.up = true)) ∧
  ((findChecked s14_14.toRc8 2051 0 0 = some (wExec 2051 wSA)) ∧ (s14_14.pair.hand = none) ∧ (s14_14.pair.resync.running = false) ∧ (s14_14.pair.partner.present = true) ∧ (s14_14.pair.plk.up = false)) ∧
  ((findChecked s14_15.toRc8 2051 0 0 = some (wExec 2051 wSA2)) ∧ (s14_15.pair.hand = none) ∧ (s14_15.pair.resync.running = false) ∧ (s14_15.pair.partner.present = false ∨ s14_15.pair.plk.up = true)) ∧
  ((findChecked s14_16.toRc8 2057 0 0 = some (wExec 2057 [4, 0, 0, 0])) ∧ (resetTestsOf (u8At (wExec 2057 [4, 0, 0, 0]).req 2) s14_16.toRc8 = []) ∧ (resetAllowed (u16At (wExec 2057 [4, 0, 0, 0]).req 0) s14_16.toRc8 = true)) ∧
  ((findChecked s14_17.toRc8 2057 0 0 = some (wExec 2057 [4, 0, 1, 0])) ∧ (resetTestsOf (u8At (wExec 2057 [4, 0, 1, 0]).req 2) s14_17.toRc8 ≠ []) ∧ (resetAllowed (u16At (wExec 2057 [4, 0, 1, 0]).req 0) s14_17.toRc8 = true)) ∧
  ((findChecked wLat.toRc8 2057 0 0 = some (wExec 2057 [4, 0, 1, 0])) ∧ (resetAllowed (u16At (wExec 2057 [4, 0, 1, 0]).req 0) wLat.toRc8 = false)) :=
  ⟨⟨wCmd_found _ _ _, setCrcOk_of (wSet_block _), setFieldsOk_eq (wSet_block _), by and_intros <;> decide +kernel⟩,
    by and_intros <;> decide +kernel⟩

theorem test_testPulses_met :
  ((activeSet s14_18.toRc8 = some wSet) ∧ (s14_18.saf.pulse = none) ∧ (s14_18.saf.resetTests = []) ∧ (bitAt (outMode wSet 0) 0 = true) ∧ (isStandby s14_18.toRc8 = true) ∧ (true = true) ∧ (commandKnown s14_18.toRc8 = true) ∧ (bitAt (u8At s14_18.ffe.holder 262) 0 = true) ∧ ((commandedLow s14_18.toRc8).getLsbD 0 = false) ∧ ((commandedHigh s14_18.toRc8).getLsbD 0 = false) ∧ (bitAt (outMode wSet 0) 2 = true)) ∧
  ((activeSet s14_18.toRc8 = some wSet) ∧ (s14_18.saf.pulse = none) ∧ (s14_18.saf.resetTests = []) ∧ (bitAt (outMode wSet 0) 0 = true) ∧ (isStandby s14_18.toRc8 = true) ∧ (false = false ∨ bitAt (u8At s14_18.ffe.holder 262) 0 = false)) ∧
  ((activeSet s14_18.toRc8 = some wSet) ∧ (s14_18.saf.pulse = none) ∧ (s14_18.saf.resetTests = []) ∧ (bitAt (outMode wSet 1) 0 = true) ∧ (isStandby s14_18.toRc8 = true) ∧ (true = false ∨ bitAt (u8At s14_18.ffe.holder 262) 1 = false)) ∧
  ((activeSet s14_19.toRc8 = some wSet) ∧ (s14_19.saf.pulse = none) ∧ (s14_19.saf.resetTests = []) ∧ (bitAt (outMode wSet 0) 0 = true) ∧ (isStandby s14_19.toRc8 = false) ∧ (s14_19.saf.ch[0].closed.getLsbD 0 = true) ∧ (s14_19.saf.ch[1].closed.getLsbD 0 = true) ∧ (bitAt (outMode wSet 0) 1 = true)) ∧
  ((activeSet s14_20.toRc8 = some wSet) ∧ (s14_20.saf.pulse = none) ∧ (s14_20.saf.resetTests = []) ∧ (bitAt (outMode wSet 0) 0 = true) ∧ (isStandby s14_20.toRc8 = false) ∧ (s14_20.saf.ch[0].closed.getLsbD 0 = false) ∧ (s14_20.saf.ch[1].closed.getLsbD 0 = false) ∧ (bitAt (outMode wSet 0) 2 = true)) ∧
  ((activeSet s14_21.toRc8 = some wSet) ∧ (s14_21.saf.pulse = none) ∧ (s14_21.saf.resetTests = []) ∧ (bitAt (outMode wSet 0) 0 = true) ∧ (isStandby s14_21.toRc8 = false) ∧ (s14_21.saf.ch[0].closed.getLsbD 0 = false) ∧ (s14_21.saf.ch[1].closed.getLsbD 0 = false) ∧ (bitAt (outMode wSet 0) 2 = true)) ∧
  ((activeSet s14_19.toRc8 = some wSet) ∧ (s14_19.saf.pulse = none) ∧ (s14_19.saf.resetTests = []) ∧ (bitAt (outMode wSet 1) 0 = true) ∧ (isStandby s14_19.toRc8 = false) ∧ (s14_19.saf.ch[0].closed.getLsbD 1 = true) ∧ (s14_19.saf.ch[1].closed.getLsbD 1 = true) ∧ (bitAt (outMode wSet 1) 1 = false)) ∧
  ((List.filter (followsPulse (wQ2 true 0) (commandedLow s14_22.toRc8) (commandedHigh s14_22.toRc8) 3 2) allOutputs = []) ∧ (s14_22.saf.pulse = some (wQ2 true 0)) ∧ ((wQ2 true 0).exec = none) ∧ (pulseFollows (wQ2 true 0) 3 2 = true)) ∧
  ((List.filter (followsPulse (wQ2 false 1) (commandedLow s14_23.toRc8) (commandedHigh s14_23.toRc8) 1 0) allOutputs = []) ∧ (s14_23.saf.pulse = some (wQ2 false 1)) ∧ ((wQ2 false 1).exec = none) ∧ (pulseFollows (wQ2 false 1) 1 0 = true)) ∧
  ((s14_22.saf.pulse = some (wQ2 true 0)) ∧ ((wQ2 true 0).exec = none) ∧ (pulseFollows (wQ2 true 0) 3 3 = false)) :=
  ⟨⟨activeSet_of rfl, by and_intros <;> decide +kernel⟩,
    ⟨activeSet_of rfl, by and_intros <;> decide +kernel⟩,
    ⟨activeSet_of rfl, by and_intros <;> decide +kernel⟩,
    ⟨activeSet_of rfl, by and_intros <;> decide +kernel⟩,
    ⟨activeSet_of rfl, by and_intros <;> decide +kernel⟩,
    ⟨activeSet_of rfl, by and_intros <;> decide +kernel⟩,
    ⟨activeSet_of rfl, by and_intros <;> decide +kernel⟩,
    ⟨filterNone _ (by decide +kernel), by and_intros <;> decide +kernel⟩,
    ⟨filterNone _ (by decide +kernel), by and_intros <;> decide +kernel⟩,
    by and_intros <;> decide +kernel⟩

theorem test_safetyChannels_met :
  ((activeSet wDet.toRc8 = some wSet) ∧ (wDet.saf.det.entry.isSome = true) ∧ (wDet.saf.det.expired = false) ∧ (wDet.saf.det.axes = [(3, 0, 1)])) ∧
  (dueEntry 5 0 s14_24.toRc8 = some wCk) ∧
  (dueEntry 5 0 wRunS.toRc8 = some wCk) ∧
  (dueEntry 5 0 State.reset.toRc8 = none) ∧
  ((smlAccepts 0 bcB wSml.toRc8 = true) ∧ (wSml.net[0].ports[tapPort 1].link = true) ∧ (wSml.pwr.domains.getLsbD (7 + 0) = true)) ∧
  (smlAccepts 0 x14_25 wSml.toRc8 = false ∨ wSml.net[0].ports[tapPort 1].link = false ∨ wSml.pwr.domains.getLsbD (7 + 0) = false) ∧
  (smlAccepts 1 bcB wSml.toRc8 = false ∨ wSml.net[1].ports[tapPort 1].link = false ∨ wSml.pwr.domains.getLsbD (7 + 1) = false) ∧
  (smlAccepts 0 x14_26 wSml.toRc8 = false ∨ wSml.net[0].ports[tapPort 1].link = false ∨ wSml.pwr.domains.getLsbD (7 + 0) = false) ∧
  (((zeros 1008).length ≤ 1008) ∧ (1 < 2 ^ 32)) ∧
  (([1].length ≤ 1008) ∧ (2 < 2 ^ 32)) ∧
  (strobeOff 7 wSml.toRc8 = false) ∧
  (strobeOff 100000 wSml.toRc8 = true) ∧
  (strobeOff (-1251) wSml.toRc8 = true) :=
  ⟨⟨activeSet_of rfl, by and_intros <;> decide +kernel⟩,
    by and_intros <;> decide +kernel⟩

end W14

/-! States (s15_…) and operands (w…) for LockstepAndMemory, AccessControl, Debugging. -/

namespace W15

def wPr (k : Nat) (f : LsPair → LsPair) : State := wSby.after fun s => { s with itg := { s.itg with pairs := vmap f s.itg.pairs, restores := 0xFFFFFFFF }, nv := { s.nv with pd0Mismatch := none } , svpReady := (k == 0) }
def wSus : State := wPr 0 fun p => { p with st := .suspended, endedAt := some 77 }
def wJr : State := wRunS.after fun s => { s with nv := { s.nv with journal := [{ task := 0, seq := 1, granules := [], committed := true, crc := 0, switch := none }, { task := 1, seq := 2, granules := [], committed := true, crc := 0, switch := none }], snaps := [(3, #v[some { k := 8, exp := 0, generation := 4, round := 1, time := 2, kind := 0, master := 0, cycle := 0, check := 0, written := true, entries := [9, 8] }, none])] } }
def bitsE (l : List Nat) : BitVec 80 := l.foldl (fun m k => m ||| (1#80 <<< k)) 0
def bitsF (l : List Nat) : BitVec 29 := l.foldl (fun m k => m ||| (1#29 <<< k)) 0
def wPsn (a k : Nat) : State := wRunS.after fun s => { s with itg := { s.itg with poisoned := [(a, 0, k)] } }
def s15_1 : State := wPsn 12 5
def wSaS : State := wRunS.after fun s => { s with nv := { s.nv with safeActive := some [1,2,3], safePending := some [4] } }
def s15_2 : State := wPsn 10 77
def wScr (k : Nat) : State := wRunS.after fun s => { s with itg := { s.itg with scrubAt := k } }
def s15_3 : State := wScr 33554430
def s15_4 : State := wScr 33554431
def wTr (m : Fin 16) (k : Fin 4) (a : Nat) (l : Nat) : Transaction := { master := m, level := 0, kind := k, addr := a, len := l }
def wReg : Region := { base := 0x1000, sizeCode := 12, enabled := true, perms := 511 }
def wAcc : State := wRunS.after fun s => { s with itg := { s.itg with regions := Vector.replicate 16 [wReg], asv := List.replicate 16 (asvEntry (wTr 8 1 0 1) 4 s), epoch := 0xFFFFFFFF, waiting := [(4, 77, false), (5, 88, false)], frozen := 0x300, complete := 3 } }
def wHp0 : Transaction := { master := 10, level := 0, kind := 1, addr := bar2Base 0 + 0x50000, len := 8 }
def wBar : State := wRunS.after fun s => { s with pwr := { s.pwr with powered := true }, hp := s.hp.set 0 { s.hp[0] with link := true }, itg := { s.itg with regions := rulesFor s } }
def wBarP : State := wBar.after fun s => poisonBar2 (bar2Base 0 + 0x50000) s
def s15_5 : State := wRunS.after fun s => { s with itg := { s.itg with waiting := [(4, 77, false)] } }
def wHdR : State := wTkS .run id |>.after fun s => { s with run := { s.run with heldReleases := [(0, 1, 2)] }, itg := { s.itg with codeEpoch := some 3, waiting := [(3, 5, false)] } }
def wFz (b : Byte) : State := wCF 0x901 [b] fun s => { s with itg := wAcc.itg }
def s15_6 : State := wFz 15
def wSs : DebugSess := { port := 1, scope := 5, endAt := 90000000000 }
def wDb (f : Rc8 → Rc8) : State := wRunS.after fun s => f { s with itg := { s.itg with sess := some wSs, breaks := #v[[1], List.replicate 16 5, [], [7]] } }
def s15_7 : State := wDb id
def s15_8 : State := wDb (wTk .run id)
def wNs : State := wRunS
def wSw (y : Option DebugSess) : SessWait := { epoch := 3, sess := y, arg := 2, by_ := 1, exec := some 7 }
def wSwS (y : Option DebugSess) : State := (wDb id).after fun s => { s with execs := [{ wExec 0xE01 [] with phase := .waiting }], itg := { s.itg with sessWaits := [wSw y], waiting := [(3, 5, false)] } }
def s15_9 : State := wSwS none
def s15_10 : State := wSwS (some wSs)
def wDu (code : Nat) (r : List Byte) (port : Fin 4) : State := wCF code r fun s => { (wDb (wTk .layby fun t => { t with st := .breakpoint })).toRc8 with itg := { (wDb id).itg with sess := some { wSs with port := port } }, ident := s.ident }
def wUl : List Byte := [3, 0] ++ le 2 60
def wUs : List Byte := [4, 0] ++ le 2 1
def s15_11 : State := wDu 0xE01 wUl 0
def s15_12 : State := wDu 0xE01 wUs 0
def s15_13 : State := wC 0xE01 wUs
def s15_14 : State := wDu 0xE01 wUs 1
def s15_15 : State := wDu 0xE02 [] 0
def s15_16 : State := wDu 0xE02 [] 1
def s15_17 : State := wDu 0xE04 [3,0,0,0] 1
def wBp (a c : Byte) (o : Nat) : List Byte := [a, c, 0, 0] ++ le 4 o
def s15_18 : State := wDu 0xE05 (wBp 1 0 5) 0
def s15_19 : State := wDu 0xE05 (wBp 1 1 6) 0
def s15_20 : State := wDu 0xE05 (wBp 3 3 6) 0
def s15_21 : State := wDu 0xE06 [0,1] 0
def s15_22 : State := wDu 0xE06 [0,2] 0
def wBk : State := wDb (wTk .layby fun t => { t with st := .running })

theorem test_lockstepAndMemory_met :
  ((wRunS.itg.pairs[0].st = LsSt.lockstep) ∧ (0 ≠ 2)) ∧
  ((wRunS.itg.pairs[1].st = LsSt.lockstep) ∧ (1 ≠ 2)) ∧
  ((wRunS.itg.pairs[2].st = LsSt.lockstep) ∧ (2 = 2)) ∧
  ((wSby.itg.pairs[2].st = LsSt.lockstep) ∧ (2 = 2)) ∧
  (wSus.itg.pairs[0].st ≠ LsSt.lockstep) ∧
  ((1 = 1) ∧ (wSus.itg.pairs[1].st = LsSt.suspended) ∧ (wSus.itg.pairs[1].endedAt.isSome = true) ∧ (pairIdle 1 wSus.toRc8 = true) ∧ (releaseNear 1 wSus.toRc8 = false) ∧ (1 = 0 → checksRun wSus.toRc8 = false ∧ checksNear wSus.toRc8 = false)) ∧
  ((0 = 0) ∧ (wSus.itg.pairs[0].st = LsSt.suspended) ∧ (wSus.itg.pairs[0].endedAt.isSome = true) ∧ (pairIdle 0 wSus.toRc8 = true) ∧ (releaseNear 0 wSus.toRc8 = false) ∧ (0 = 0 → checksRun wSus.toRc8 = false ∧ checksNear wSus.toRc8 = false)) ∧
  ((1 = 1) ∧ (wSus.itg.pairs[1].endedAt = some 77)) ∧
  ((onesIn ((0 : BitVec 29).getLsbD) 29 = 0) ∧ (onesIn (bitsE [0]).getLsbD 80 = 1 ∨ onesIn (bitsE [0]).getLsbD 80 = 2)) ∧
  ((onesIn ((0 : BitVec 29).getLsbD) 29 = 0) ∧ (onesIn (bitsE [79]).getLsbD 80 = 1 ∨ onesIn (bitsE [79]).getLsbD 80 = 2)) ∧
  ((onesIn ((0 : BitVec 29).getLsbD) 29 = 0) ∧ (onesIn (bitsE [3, 70]).getLsbD 80 = 1 ∨ onesIn (bitsE [3, 70]).getLsbD 80 = 2)) ∧
  ((onesIn ((0 : BitVec 29).getLsbD) 29 = 0) ∧ (onesIn (bitsE [0, 1, 2]).getLsbD 80 = 3)) ∧
  ((onesIn ((0 : BitVec 29).getLsbD) 29 = 0) ∧ (onesIn (bitsE [5, 40, 79]).getLsbD 80 = 3)) ∧
  (onesIn (bitsF [0]).getLsbD 29 = 1 ∨ onesIn (bitsF [0]).getLsbD 29 = 2) ∧
  (onesIn (bitsF [28]).getLsbD 29 = 1 ∨ onesIn (bitsF [28]).getLsbD 29 = 2) ∧
  (onesIn (bitsF [3, 20]).getLsbD 29 = 1 ∨ onesIn (bitsF [3, 20]).getLsbD 29 = 2) ∧
  (onesIn (bitsF [7]).getLsbD 29 = 1 ∨ onesIn (bitsF [7]).getLsbD 29 = 2) ∧
  ((6 ≤ 6) ∧ (5 < 2 ^ 32) ∧ (codeRead (bitsE [7]) 0 = CodeResult.corrected false) ∧ (isPoisoned (6) 5 wRunS.toRc8 = false)) ∧
  ((6 ≤ 12) ∧ (2 ^ 32 - 1 < 2 ^ 32) ∧ (codeRead (bitsE [7, 9]) 0 = CodeResult.corrected true) ∧ (isPoisoned (12) (2 ^ 32 - 1) wRunS.toRc8 = false)) ∧
  ((6 ≤ 12) ∧ (5 < 2 ^ 32) ∧ (codeRead (bitsE [7, 9]) 0 = CodeResult.corrected true) ∧ (isPoisoned (12) 5 s15_1.toRc8 = true)) ∧
  ((5 < 2 ^ 32) ∧ (codeRead (bitsE [7]) 0 = CodeResult.corrected false) ∧ (isPoisoned 5 5 wRunS.toRc8 = false)) ∧
  ((2 ^ 32 - 1 < 2 ^ 32) ∧ (codeRead (bitsE [7, 79]) 0 = CodeResult.corrected true) ∧ (isPoisoned 5 (2 ^ 32 - 1) wRunS.toRc8 = false)) ∧
  ((2 ^ 32 - 1 < 2 ^ 32) ∧ (codeRead (bitsE [0, 1]) 0 = CodeResult.corrected true) ∧ (isPoisoned 5 (2 ^ 32 - 1) wRunS.toRc8 = false)) ∧
  ((regionIn (6) MemRegion.clean = true) ∧ (5 < 2 ^ 32) ∧ (readResult (6) 5 (bitsE [1]) 0 MemRegion.clean wRunS.toRc8 ≠ CodeResult.data) ∧ (readResult (6) 5 (bitsE [1]) 0 MemRegion.clean wRunS.toRc8 ≠ CodeResult.address)) ∧
  ((regionIn (5) (MemRegion.l1 true) = true) ∧ (5 < 2 ^ 32) ∧ (readResult (5) 5 (bitsE [1, 2]) 0 (MemRegion.l1 true) wRunS.toRc8 ≠ CodeResult.data) ∧ (readResult (5) 5 (bitsE [1, 2]) 0 (MemRegion.l1 true) wRunS.toRc8 ≠ CodeResult.address)) ∧
  ((regionIn (5) (MemRegion.l1 false) = true) ∧ (5 < 2 ^ 32) ∧ (readResult (5) 5 (bitsE [1]) 0 (MemRegion.l1 false) wRunS.toRc8 ≠ CodeResult.data) ∧ (readResult (5) 5 (bitsE [1]) 0 (MemRegion.l1 false) wRunS.toRc8 ≠ CodeResult.address)) ∧
  ((regionIn (11) (MemRegion.object StoredObj.safeActive 0) = true) ∧ (5 < 2 ^ 32) ∧ (readResult (11) 5 (bitsE [0, 1, 2]) 0 (MemRegion.object StoredObj.safeActive 0) wSaS.toRc8 = CodeResult.data ∨ readResult (11) 5 (bitsE [0, 1, 2]) 0 (MemRegion.object StoredObj.safeActive 0) wSaS.toRc8 = CodeResult.address) ∧ (MemRegion.object StoredObj.safeActive 0 = MemRegion.object StoredObj.safeActive 0)) ∧
  ((regionIn (11) (MemRegion.object StoredObj.safeActive 1) = true) ∧ (5 < 2 ^ 32) ∧ (readResult (11) 5 (bitsE [0, 1, 2]) 0 (MemRegion.object StoredObj.safeActive 1) wSaS.toRc8 = CodeResult.data ∨ readResult (11) 5 (bitsE [0, 1, 2]) 0 (MemRegion.object StoredObj.safeActive 1) wSaS.toRc8 = CodeResult.address) ∧ (MemRegion.object StoredObj.safeActive 1 = MemRegion.object StoredObj.safeActive 1)) ∧
  ((regionIn (11) (MemRegion.object StoredObj.safePending 1) = true) ∧ (5 < 2 ^ 32) ∧ (readResult (11) 5 (bitsE [0, 1, 2]) 0 (MemRegion.object StoredObj.safePending 1) wSaS.toRc8 = CodeResult.data ∨ readResult (11) 5 (bitsE [0, 1, 2]) 0 (MemRegion.object StoredObj.safePending 1) wSaS.toRc8 = CodeResult.address) ∧ (MemRegion.object StoredObj.safePending 1 = MemRegion.object StoredObj.safePending 1)) ∧
  ((regionIn (11) (MemRegion.object StoredObj.other 0) = true) ∧ (5 < 2 ^ 32) ∧ (readResult (11) 5 (bitsE [0, 1, 2]) 0 (MemRegion.object StoredObj.other 0) wSaS.toRc8 = CodeResult.data ∨ readResult (11) 5 (bitsE [0, 1, 2]) 0 (MemRegion.object StoredObj.other 0) wSaS.toRc8 = CodeResult.address) ∧ (MemRegion.object StoredObj.other 0 = MemRegion.object StoredObj.other 0)) ∧
  ((regionIn (5) MemRegion.bar2 = true) ∧ (bar2Base 0 + 327680 < 2 ^ 32) ∧ (readResult (5) (bar2Base 0 + 327680) (bitsE [0, 1, 2]) 0 MemRegion.bar2 wRunS.toRc8 = CodeResult.data ∨ readResult (5) (bar2Base 0 + 327680) (bitsE [0, 1, 2]) 0 MemRegion.bar2 wRunS.toRc8 = CodeResult.address) ∧ (MemRegion.bar2 = MemRegion.bar2)) ∧
  ((regionIn (7) MemRegion.bar2 = true) ∧ (bar2Base 0 + 327680 < 2 ^ 32) ∧ (readResult (7) (bar2Base 0 + 327680) 0 (bitsF [4]) MemRegion.bar2 wRunS.toRc8 = CodeResult.data ∨ readResult (7) (bar2Base 0 + 327680) 0 (bitsF [4]) MemRegion.bar2 wRunS.toRc8 = CodeResult.address) ∧ (MemRegion.bar2 = MemRegion.bar2)) ∧
  ((regionIn (7) MemRegion.clean = true) ∧ (77 < 2 ^ 32) ∧ (readResult (7) 77 (bitsE [0, 1, 2]) 0 MemRegion.clean wRunS.toRc8 = CodeResult.data ∨ readResult (7) 77 (bitsE [0, 1, 2]) 0 MemRegion.clean wRunS.toRc8 = CodeResult.address) ∧ (MemRegion.clean = MemRegion.clean)) ∧
  ((regionIn (11) (MemRegion.journal 1) = true) ∧ (77 < 2 ^ 32) ∧ (readResult (11) 77 (bitsE [0, 1, 2]) 0 (MemRegion.journal 1) wJr.toRc8 = CodeResult.data ∨ readResult (11) 77 (bitsE [0, 1, 2]) 0 (MemRegion.journal 1) wJr.toRc8 = CodeResult.address) ∧ (MemRegion.journal 1 = MemRegion.journal 1)) ∧
  ((regionIn (11) (MemRegion.retained false) = true) ∧ (77 < 2 ^ 32) ∧ (readResult (11) 77 (bitsE [0, 1, 2]) 0 (MemRegion.retained false) wJr.toRc8 = CodeResult.data ∨ readResult (11) 77 (bitsE [0, 1, 2]) 0 (MemRegion.retained false) wJr.toRc8 = CodeResult.address) ∧ (MemRegion.retained false = MemRegion.retained false)) ∧
  ((regionIn (10) (MemRegion.engine 3) = true) ∧ (77 < 2 ^ 32) ∧ (readResult (10) 77 (bitsE [0, 1, 2]) 0 (MemRegion.engine 3) wJr.toRc8 = CodeResult.data ∨ readResult (10) 77 (bitsE [0, 1, 2]) 0 (MemRegion.engine 3) wJr.toRc8 = CodeResult.address) ∧ (MemRegion.engine 3 = MemRegion.engine 3)) ∧
  ((regionIn (10) (MemRegion.engine 255) = true) ∧ (77 < 2 ^ 32) ∧ (readResult (10) 77 0 0 (MemRegion.engine 255) s15_2.toRc8 = CodeResult.data ∨ readResult (10) 77 0 0 (MemRegion.engine 255) s15_2.toRc8 = CodeResult.address) ∧ (MemRegion.engine 255 = MemRegion.engine 255)) ∧
  ((regionIn (11) (MemRegion.snapshot 3 0) = true) ∧ (77 < 2 ^ 32) ∧ (readResult (11) 77 0 (bitsF [1, 2]) (MemRegion.snapshot 3 0) wJr.toRc8 = CodeResult.data ∨ readResult (11) 77 0 (bitsF [1, 2]) (MemRegion.snapshot 3 0) wJr.toRc8 = CodeResult.address) ∧ (MemRegion.snapshot 3 0 = MemRegion.snapshot 3 0)) ∧
  ((5 ≤ 5) ∧ (s15_3.itg.scrubAt + 1 ≠ 33554432)) ∧
  ((0 ≤ 5) ∧ (s15_4.itg.scrubAt + 1 = 33554432)) :=
  by and_intros <;> decide +kernel

theorem test_accessControl_met :
  ((1 ≤ ↑(wTr 5 1 4096 4).kind) ∧ (1 ≤ (wTr 5 1 4096 4).len) ∧ ((wTr 5 1 4096 4).len ≤ 256) ∧ ((wTr 5 1 4096 4).addr < 2 ^ 32) ∧ (issues (wTr 5 1 4096 4).master wAcc.toRc8 = true) ∧ (accessCause (wTr 5 1 4096 4) wAcc.toRc8 = 0) ∧ (↑(wTr 5 1 4096 4).master < 10)) ∧
  ((1 ≤ ↑wHp0.kind) ∧ (1 ≤ wHp0.len) ∧ (wHp0.len ≤ 256) ∧ (wHp0.addr < 2 ^ 32) ∧ (issues wHp0.master wBar.toRc8 = true) ∧ (accessCause wHp0 wBar.toRc8 = 0) ∧ (↑wHp0.master = 10 + 0) ∧ (wBar.hp[0].link = true) ∧ (↑wHp0.kind = 1) ∧ (inBar2 (0) wHp0.addr = true) ∧ (poisoned wHp0.addr wHp0.len wBar.toRc8 = false)) ∧
  ((1 ≤ ↑wHp0.kind) ∧ (1 ≤ wHp0.len) ∧ (wHp0.len ≤ 256) ∧ (wHp0.addr < 2 ^ 32) ∧ (issues wHp0.master wBarP.toRc8 = true) ∧ (accessCause wHp0 wBarP.toRc8 = 0) ∧ (↑wHp0.master = 10 + 0) ∧ (wBarP.hp[0].link = true) ∧ (↑wHp0.kind = 1) ∧ (inBar2 (0) wHp0.addr = true) ∧ (poisoned wHp0.addr wHp0.len wBarP.toRc8 = true)) ∧
  ((1 ≤ ↑(wTr 4 1 (2 ^ 32 - 1) 1).kind) ∧ (1 ≤ (wTr 4 1 (2 ^ 32 - 1) 1).len) ∧ ((wTr 4 1 (2 ^ 32 - 1) 1).len ≤ 256) ∧ ((wTr 4 1 (2 ^ 32 - 1) 1).addr < 2 ^ 32) ∧ (issues (wTr 4 1 (2 ^ 32 - 1) 1).master wAcc.toRc8 = true) ∧ (accessCause (wTr 4 1 (2 ^ 32 - 1) 1) wAcc.toRc8 ≠ 0)) ∧
  ((2000 < 2001) ∧ (s15_5.itg.waiting = [(4, 77, false)])) ∧
  ((wAcc.itg.waiting = [(4, 77, false)] ++ [(5, 88, false)]) ∧ (∀ y ∈ [(4, 77, false)], y.1 ≠ 5) ∧ (wAcc.itg.sessWaits = []) ∧ (wAcc.run.heldReleases = [])) ∧
  (∀ y ∈ wAcc.itg.waiting, y.1 ≠ 9) ∧
  ((wHdR.itg.waiting = [(3, 5, false)]) ∧ (wHdR.itg.sessWaits = []) ∧ (wHdR.run.heldReleases = [(0, 1, 2)]) ∧ (wHdR.run.mode = Mode.run) ∧ (wHdR.run.tasks[0].st = TaskSt.waiting) ∧ (isStandby wHdR.toRc8 = false)) ∧
  ((findChecked s15_6.toRc8 2305 0 0 = some (wExec 2305 [15])) ∧ (u8At (wExec 2305 [15]).req 0 ≤ 15)) :=
  by and_intros <;> decide +kernel

theorem test_debugging_met :
  ((dmaStopped 15 wRunS.toRc8 = false) ∧ (wRunS.itg.sess = none ∨ wRunS.run.mode = Mode.run)) ∧
  ((dmaStopped 15 s15_8.toRc8 = false) ∧ (s15_8.itg.sess = none ∨ s15_8.run.mode = Mode.run)) ∧
  ((dmaStopped 15 wNs.toRc8 = false) ∧ (1 ≤ ↑(wTr 15 1 5 4).kind) ∧ (1 ≤ (wTr 15 1 5 4).len) ∧ ((wTr 15 1 5 4).len ≤ 256) ∧ ((wTr 15 1 5 4).addr < 2 ^ 32) ∧ (wNs.itg.sess = none)) ∧
  ((dmaStopped 15 s15_7.toRc8 = false) ∧ (s15_7.itg.sess = some wSs) ∧ (0 < 2) ∧ (bitAt wSs.scope 0 = true) ∧ (s15_7.run.mode ≠ Mode.run) ∧ (s15_7.itg.pairs[0].st = LsSt.lockstep)) ∧
  ((s15_7.itg.sess = some wSs) ∧ (s15_7.itg.sessWaits = [])) ∧
  ((s15_9.itg.sessWaits = [wSw none]) ∧ (s15_9.itg.waiting = [((wSw none).epoch, 5, false)]) ∧ (s15_9.run.heldReleases = []) ∧ ((wSw none).sess = none) ∧ (s15_9.itg.sess.isSome = true)) ∧
  ((s15_10.itg.sessWaits = [wSw (some wSs)]) ∧ (s15_10.itg.waiting = [((wSw (some wSs)).epoch, 5, false)]) ∧ (s15_10.run.heldReleases = []) ∧ ((wSw (some wSs)).sess = some wSs)) ∧
  ((findChecked s15_11.toRc8 3585 0 0 = some (wExec 3585 wUl)) ∧ (∀ (x : DebugSess), s15_11.itg.sess = some x → x.port = (wExec 3585 wUl).port) ∧ (∀ (x : DebugSess), comingSession s15_11.toRc8 = some x → x.port = (wExec 3585 wUl).port)) ∧
  ((findChecked s15_12.toRc8 3585 0 0 = some (wExec 3585 wUs)) ∧ (∀ (x : DebugSess), s15_12.itg.sess = some x → x.port = (wExec 3585 wUs).port) ∧ (∀ (x : DebugSess), comingSession s15_12.toRc8 = some x → x.port = (wExec 3585 wUs).port)) ∧
  ((findChecked s15_13.toRc8 3585 0 0 = some (wExec 3585 wUs)) ∧ (∀ (x : DebugSess), s15_13.itg.sess = some x → x.port = (wExec 3585 wUs).port) ∧ (∀ (x : DebugSess), comingSession s15_13.toRc8 = some x → x.port = (wExec 3585 wUs).port)) ∧
  ((findChecked s15_14.toRc8 3585 0 0 = some (wExec 3585 wUs)) ∧ (∃ x, s15_14.itg.sess = some x ∧ x.port ≠ (wExec 3585 wUs).port)) ∧
  ((findChecked s15_15.toRc8 3586 0 0 = some (wExec 3586 [])) ∧ (∃ x, comingSession s15_15.toRc8 = some x ∧ x.port = (wExec 3586 []).port)) ∧
  ((findChecked s15_16.toRc8 3586 0 0 = some (wExec 3586 [])) ∧ (∀ (x : DebugSess), comingSession s15_16.toRc8 = some x → x.port ≠ (wExec 3586 []).port)) ∧
  (findChecked s15_17.toRc8 3588 0 0 = some (wExec 3588 [3, 0, 0, 0])) ∧
  ((findChecked s15_18.toRc8 3589 0 0 = some (wExec 3589 (wBp 1 0 5))) ∧ (u8At (wExec 3589 (wBp 1 0 5)).req 1 = 0) ∧ (u8At (wExec 3589 (wBp 1 0 5)).req 0 = 1) ∧ (s15_18.itg.breaks[0].contains (u32At (wExec 3589 (wBp 1 0 5)).req 4) = false) ∧ (s15_18.itg.breaks[0].length < 16)) ∧
  ((findChecked s15_19.toRc8 3589 0 0 = some (wExec 3589 (wBp 1 1 6))) ∧ (u8At (wExec 3589 (wBp 1 1 6)).req 1 = 1) ∧ (u8At (wExec 3589 (wBp 1 1 6)).req 0 = 1) ∧ (s15_19.itg.breaks[1].contains (u32At (wExec 3589 (wBp 1 1 6)).req 4) = false) ∧ (16 ≤ s15_19.itg.breaks[1].length)) ∧
  ((findChecked s15_20.toRc8 3589 0 0 = some (wExec 3589 (wBp 3 3 6))) ∧ (u8At (wExec 3589 (wBp 3 3 6)).req 1 = 3) ∧ (u8At (wExec 3589 (wBp 3 3 6)).req 0 = 3)) ∧
  ((findChecked s15_21.toRc8 3590 0 0 = some (wExec 3590 [0, 1])) ∧ (u8At (wExec 3590 [0, 1]).req 0 = 0) ∧ (u8At (wExec 3590 [0, 1]).req 1 = 1)) ∧
  ((findChecked s15_22.toRc8 3590 0 0 = some (wExec 3590 [0, 2])) ∧ (u8At (wExec 3590 [0, 2]).req 0 = 0) ∧ (u8At (wExec 3590 [0, 2]).req 1 = 2)) ∧
  ((wBk.run.mode = Mode.layby) ∧ (isStandby wBk.toRc8 = false) ∧ (executes 0 wBk.toRc8 = true) ∧ (true = true ∨ breaksOf ((Option.map (fun x => x.core) wBk.run.tasks[0].cfg).getD 0) wBk.toRc8 ≠ [])) ∧
  ((wBk.run.mode = Mode.layby) ∧ (isStandby wBk.toRc8 = false) ∧ (executes 0 wBk.toRc8 = true) ∧ (false = true ∨ breaksOf ((Option.map (fun x => x.core) wBk.run.tasks[0].cfg).getD 0) wBk.toRc8 ≠ [])) :=
  by and_intros <;> decide +kernel

end W15

/-! States (s16_…) and operands (w…) for PlantTimeAndPtp, PlantEthernet. -/

namespace W16

def wPtp (pr : Nat) (st : Nat) (f : Rc8 → Rc8) : State := wRunS.after fun s => f { s with
  nv := { s.nv with ptp := { s.nv.ptp with mask := 3, profile := pr, flags := 6 }, ethCfg := s.nv.ethCfg.map fun c => { c with enabled := true } }
  eth := s.eth.map fun x => { x with link := true, speed := 1, sending := some { queue := 7, launch := some 5, payload := .ptp 0 1 } }
  pwr := { s.pwr with domains := 0xFFF }
  tim := { s.tim with ports := Vector.replicate 2 { st := st, seq := Vector.replicate 4 65535 } } }
def s16_1 : State := wPtp 1 9 id
def wRecent (st : TimeSt) (s : Rc8) : Rc8 := { s with tim := { s.tim with st := st, recent := [2000*65536, 2010*65536] } }
def s16_2 : State := wPtp 1 9 (wRecent .locked)
def s16_3 : State := wPtp 1 9 (wRecent .holdover)
def s16_4 : State := wPtp 1 9 (wRecent .freeRunning)
def s16_5 : State := wPtp 1 9 (wRecent .stepPending)
def s16_6 : State := wPtp 1 9 fun s => { (wRecent .holdover s) with tim := { s.tim with st := .holdover, holdAt := some 66 } }
def wTs (r : Nat) : List Byte := le 8 7 ++ le 8 r
def wTSt (r : Nat) (f : Rc8 → Rc8) : State := wCF 0xA01 (wTs r) fun s => f { s with tim := { s.tim with st := .holdover, refusal := 3, offset := 500000 } }
def s16_7 : State := wTSt 0 id
def s16_8 : State := wTSt 50 id
def s16_9 : State := wTSt 50 fun s => { s with chg := { s.chg with fixed := true } }
def wStep (o : Int) : State := wRunS.after fun s => { s with tim := { s.tim with st := .stepPending, stepAt := some 9, offset := o } }
def s16_10 : State := wStep 500000
def s16_11 : State := wStep (-500001)
def s16_12 : State := wStep 1
def wPm (ty d sq : Nat) : PtpMsg := { messageType := ty, domain := d, seq := sq, body := [] }
def wPs : State := wPtp 2 6 id
def s16_13 : State := wPtp 1 6 id
def wPsM : State := wPs.after fun s => { s with nv := { s.nv with ptp := { s.nv.ptp with flags := 3 } } }
def wPsN : State := wPs.after fun s => { s with nv := { s.nv with ptp := { s.nv.ptp with flags := 2 } } }
def s16_14 : State := wPtp 2 6 id
def wRx (ok : Bool) (size : Nat) (b : Nat) (c : EthContent) : EthRx := { fcsOk := ok, size := size, pcp := 3, buffers := b, content := c }
def wPeer (f : Rc8 → Rc8) : State := wRunS.after fun s => f { s with
  nv := { s.nv with ethCfg := s.nv.ethCfg.map fun c => { c with enabled := true }, peerCfg := s.nv.peerCfg.set 5 { (s.nv.peerCfg[5]) with flags := 7, port := 1, udp := 500, len := 4, loss := 3, pcp := 7, delay := 5000 } }
  eth := s.eth.map fun x => { x with link := true, speed := 1 }
  peers := s.peers.set 5 { s.peers[5] with st := 1, rx := [1,2], rxSeq := some 7, rxRound := 5 }
  pwr := { s.pwr with domains := 0xFFF } }
def wPeS : State := wPeer id
def wPay (q : Nat) : List Byte := [1, 5] ++ zeros 2 ++ le 4 q ++ zeros 8 ++ [9,8,7,6]
def wEf (l : Option Nat) (q : Nat) : EthFrame := { queue := q, launch := l, payload := .peer 5 3 1 8 [1,2] }
def wEq (s1 : Option EthFrame) (qs : List EthFrame) : State := wPeS.after fun s => { s with eth := s.eth.set 1 { s.eth[1] with queue := qs, sending := s1 } }
def s16_15 : State := wEq none [wEf (some 99) 7]
def s16_16 : State := wEq (some (wEf none 3)) [wEf (some 99) 7]
def s16_17 : State := wEq (some (wEf (some 99) 7)) []
def wEd (l : Bool) : State := wEq none [] |>.after fun s => { s with eth := s.eth.set 1 { s.eth[1] with link := l } }
def s16_18 : State := wEd false
def wEd1 : State := (wEd false).after fun s => { s with nv := { s.nv with ethCfg := s.nv.ethCfg.map fun c => { c with speed := 2 } } }
def s16_19 : State := wEq (some (wEf none 3)) []
def wLe : Milestone := { kind := 11, source := 2, param := 261, off := 100, div := 1, phase := 0, enabled := true }
def wPeL : State := wPeS.after fun s => { s with rnd := { s.rnd with host := [wLe] } }
def wPl (r : Nat) : State := wPeS.after fun s => { s with rnd := { s.rnd with round := r } }
def s16_20 : State := wPl 8
def s16_21 : State := wPl 7
def wPt (n : Nat) : State := wPeS.after fun s => { (wTk .run (fun t => { t with st := .running }) s) with eth := s.eth.map fun x => { x with ts := [{ id := 4, correction := 5, time := 6 }, { id := 5, correction := 5, time := 6 }], tsDropped := 9, queue := List.replicate n (wEf none 3) } }
def s16_22 : State := wPt 0
def s16_23 : State := wPt 64

theorem test_plantTimeAndPtp_met :
  ((Int.natAbs 5 < 2 ^ 63) ∧ (6 < 2 ^ 32) ∧ (isStandby wSby.toRc8 = true ∨ wSby.tim.ports[0].st ≠ 9)) ∧
  (((2 ^ 63 - 1 : Int).natAbs < 2 ^ 63) ∧ (2 ^ 32 - 1 < 2 ^ 32) ∧ (isStandby wRunS.toRc8 = true ∨ wRunS.tim.ports[1].st ≠ 9)) ∧
  (((2 ^ 63 - 1 : Int).natAbs < 2 ^ 63) ∧ (2 ^ 32 - 1 < 2 ^ 32) ∧ (isStandby s16_1.toRc8 = false) ∧ (s16_1.tim.ports[1].st = 9) ∧ (ptpRuns 1 s16_1.toRc8 = true)) ∧
  (((-(2 ^ 63 - 1)).natAbs < 2 ^ 63) ∧ (2 ^ 32 - 1 < 2 ^ 32) ∧ (isStandby s16_1.toRc8 = false) ∧ (s16_1.tim.ports[0].st = 9) ∧ (ptpRuns 0 s16_1.toRc8 = true)) ∧
  ((Int.natAbs 2005 < 2 ^ 63) ∧ (2 ^ 32 - 1 < 2 ^ 32) ∧ (isStandby s16_2.toRc8 = false) ∧ (s16_2.tim.ports[0].st = 9) ∧ (ptpRuns 0 s16_2.toRc8 = true)) ∧
  ((Int.natAbs 2005 < 2 ^ 63) ∧ (2 ^ 32 - 1 < 2 ^ 32) ∧ (isStandby s16_3.toRc8 = false) ∧ (s16_3.tim.ports[0].st = 9) ∧ (ptpRuns 0 s16_3.toRc8 = true)) ∧
  ((Int.natAbs 2005 < 2 ^ 63) ∧ (2 ^ 32 - 1 < 2 ^ 32) ∧ (isStandby s16_4.toRc8 = false) ∧ (s16_4.tim.ports[0].st = 9) ∧ (ptpRuns 0 s16_4.toRc8 = true)) ∧
  ((Int.natAbs 2005 < 2 ^ 63) ∧ (2 ^ 32 - 1 < 2 ^ 32) ∧ (isStandby s16_5.toRc8 = false) ∧ (s16_5.tim.ports[0].st = 9) ∧ (ptpRuns 0 s16_5.toRc8 = true)) ∧
  ((Int.natAbs 5 < 2 ^ 63) ∧ (2 ^ 32 - 1 < 2 ^ 32) ∧ (isStandby s16_4.toRc8 = false) ∧ (s16_4.tim.ports[0].st = 9) ∧ (ptpRuns 0 s16_4.toRc8 = true)) ∧
  ((isStandby s16_2.toRc8 = false) ∧ (s16_2.tim.st = TimeSt.locked)) ∧
  ((isStandby s16_5.toRc8 = false) ∧ (s16_5.tim.st = TimeSt.stepPending)) ∧
  ((isStandby s16_3.toRc8 = false) ∧ (s16_3.tim.st = TimeSt.freeRunning ∨ s16_3.tim.st = TimeSt.holdover)) ∧
  ((s16_6.tim.holdAt = some 66) ∧ (s16_6.tim.st = TimeSt.holdover)) ∧
  ((findChecked s16_7.toRc8 2561 0 0 = some (wExec 2561 (wTs 0))) ∧ (s16_7.sch[0].pending = none) ∧ (s16_7.sch[1].pending = none) ∧ (s16_7.chg.fixed = false)) ∧
  ((findChecked s16_8.toRc8 2561 0 0 = some (wExec 2561 (wTs 50))) ∧ (s16_8.sch[0].pending = none) ∧ (s16_8.sch[1].pending = none) ∧ (s16_8.chg.fixed = false)) ∧
  ((findChecked s16_9.toRc8 2561 0 0 = some (wExec 2561 (wTs 50))) ∧ (s16_9.sch[0].pending.isSome = true ∨ s16_9.sch[1].pending.isSome = true ∨ s16_9.chg.fixed = true)) ∧
  ((isStandby s16_10.toRc8 = false) ∧ (s16_10.tim.st = TimeSt.stepPending) ∧ (s16_10.tim.stepAt = some 9) ∧ (4 = roundDivAway (s16_10.tim.offset * 65536) (s16_10.rnd.period * fracPerNs))) ∧
  ((isStandby s16_11.toRc8 = false) ∧ (s16_11.tim.st = TimeSt.stepPending) ∧ (s16_11.tim.stepAt = some 9) ∧ (-4 = roundDivAway (s16_11.tim.offset * 65536) (s16_11.rnd.period * fracPerNs))) ∧
  ((isStandby s16_12.toRc8 = false) ∧ (s16_12.tim.st = TimeSt.stepPending) ∧ (s16_12.tim.stepAt = some 9) ∧ (0 = roundDivAway (s16_12.tim.offset * 65536) (s16_12.rnd.period * fracPerNs))) ∧
  (((wPm 2 255 65535).messageType < 16) ∧ ((wPm 2 255 65535).domain < 256) ∧ ((wPm 2 255 65535).seq < 65536) ∧ (ptpRuns 1 wPs.toRc8 = true) ∧ (dmaStopped 8 wPs.toRc8 = false) ∧ ((wPm 2 255 65535).domain ≠ wPs.nv.ptp.domain)) ∧
  (((wPm 2 0 65535).messageType < 16) ∧ ((wPm 2 0 65535).domain < 256) ∧ ((wPm 2 0 65535).seq < 65536) ∧ (ptpRuns 1 s16_13.toRc8 = true) ∧ (dmaStopped 8 s16_13.toRc8 = false) ∧ ((wPm 2 0 65535).domain = s16_13.nv.ptp.domain) ∧ ((wPm 2 0 65535).messageType = 2) ∧ (s16_13.nv.ptp.profile ≠ 2)) ∧
  (((wPm 2 0 65535).messageType < 16) ∧ ((wPm 2 0 65535).domain < 256) ∧ ((wPm 2 0 65535).seq < 65536) ∧ (ptpRuns 1 wPs.toRc8 = true) ∧ (dmaStopped 8 wPs.toRc8 = false) ∧ ((wPm 2 0 65535).domain = wPs.nv.ptp.domain) ∧ ((wPm 2 0 65535).messageType = 2) ∧ (wPs.nv.ptp.profile = 2) ∧ (bitAt wPs.nv.ptp.flags 1 = true) ∧ (wPs.eth[1].sending.isSome = true) ∧ (txFull wPs.eth[1] 6 = false)) ∧
  (((wPm 13 0 65535).messageType < 16) ∧ ((wPm 13 0 65535).domain < 256) ∧ ((wPm 13 0 65535).seq < 65536) ∧ (ptpRuns 1 wPs.toRc8 = true) ∧ (dmaStopped 8 wPs.toRc8 = false) ∧ ((wPm 13 0 65535).messageType ≠ 2) ∧ (isStandby wPs.toRc8 = true ∨ (wPm 13 0 65535).messageType = 13)) ∧
  (((wPm 11 0 65535).messageType < 16) ∧ ((wPm 11 0 65535).domain < 256) ∧ ((wPm 11 0 65535).seq < 65536) ∧ (ptpRuns 1 wPsM.toRc8 = true) ∧ (dmaStopped 8 wPsM.toRc8 = false) ∧ ((wPm 11 0 65535).domain = wPsM.nv.ptp.domain) ∧ ((wPm 11 0 65535).messageType = 11) ∧ (isStandby wPsM.toRc8 = false) ∧ (bitAt wPsM.nv.ptp.mask 0 = true) ∧ (bitAt wPsM.nv.ptp.mask 1 = true) ∧ (mayMaster wPsM.toRc8 = true)) ∧
  (((wPm 11 0 65535).messageType < 16) ∧ ((wPm 11 0 65535).domain < 256) ∧ ((wPm 11 0 65535).seq < 65536) ∧ (ptpRuns 1 wPsN.toRc8 = true) ∧ (dmaStopped 8 wPsN.toRc8 = false) ∧ ((wPm 11 0 65535).domain = wPsN.nv.ptp.domain) ∧ ((wPm 11 0 65535).messageType = 11) ∧ (isStandby wPsN.toRc8 = false) ∧ (bitAt wPsN.nv.ptp.mask 0 = true) ∧ (bitAt wPsN.nv.ptp.mask 1 = true) ∧ (mayMaster wPsN.toRc8 = false)) ∧
  (((wPm 11 0 65535).messageType < 16) ∧ ((wPm 11 0 65535).domain < 256) ∧ ((wPm 11 0 65535).seq < 65536) ∧ (ptpRuns 1 s16_14.toRc8 = true) ∧ (dmaStopped 8 s16_14.toRc8 = false) ∧ (s16_14.nv.ptp.profile = 2)) ∧
  (((wPm 11 0 65535).messageType < 16) ∧ ((wPm 11 0 65535).domain < 256) ∧ ((wPm 11 0 65535).seq < 65536) ∧ (ptpRuns 1 wPs.toRc8 = true) ∧ (dmaStopped 8 wPs.toRc8 = false) ∧ (wPs.tim.ports[1].st = 6) ∧ (holdsToken wPs.toRc8 = true)) := by and_intros <;> decide +kernel

theorem test_plantEthernet_met :
  ((wPeS.eth[1].link = true) ∧ (wPeS.nv.ethCfg[1].enabled = true) ∧ (dmaStopped 8 wPeS.toRc8 = false) ∧ ((wRx false 9999 5 EthContent.other).fcsOk = false)) ∧
  ((wPeS.eth[1].link = true) ∧ (wPeS.nv.ethCfg[1].enabled = true) ∧ (dmaStopped 8 wPeS.toRc8 = false) ∧ ((wRx true 1523 30 EthContent.other).fcsOk = true) ∧ ((wRx true 1523 30 EthContent.other).buffers < 31) ∧ ((wRx true 1523 30 EthContent.other).size < 64 ∨ 1522 < (wRx true 1523 30 EthContent.other).size)) ∧
  ((wPeS.eth[1].link = true) ∧ (wPeS.nv.ethCfg[1].enabled = true) ∧ (dmaStopped 8 wPeS.toRc8 = false) ∧ ((wRx true 63 0 EthContent.other).fcsOk = true) ∧ ((wRx true 63 0 EthContent.other).buffers < 31) ∧ ((wRx true 63 0 EthContent.other).size < 64 ∨ 1522 < (wRx true 63 0 EthContent.other).size)) ∧
  ((wPeS.eth[1].link = true) ∧ (wPeS.nv.ethCfg[1].enabled = true) ∧ (dmaStopped 8 wPeS.toRc8 = false) ∧ ((wRx true 64 30 EthContent.pause).fcsOk = true) ∧ ((wRx true 64 30 EthContent.pause).buffers < 31) ∧ (64 ≤ (wRx true 64 30 EthContent.pause).size) ∧ ((wRx true 64 30 EthContent.pause).size ≤ 1522) ∧ ((wRx true 64 30 EthContent.pause).content = EthContent.pause)) ∧
  ((wPeS.eth[1].link = true) ∧ (wPeS.nv.ethCfg[1].enabled = true) ∧ (dmaStopped 8 wPeS.toRc8 = false) ∧ ((wRx true 1522 30 (EthContent.udp 77 500 (wPay 8))).fcsOk = true) ∧ ((wRx true 1522 30 (EthContent.udp 77 500 (wPay 8))).buffers < 31) ∧ (64 ≤ (wRx true 1522 30 (EthContent.udp 77 500 (wPay 8))).size) ∧ ((wRx true 1522 30 (EthContent.udp 77 500 (wPay 8))).size ≤ 1522) ∧ ((wRx true 1522 30 (EthContent.udp 77 500 (wPay 8))).content = EthContent.udp 77 500 (wPay 8)) ∧ (List.find? (peerAccepts 1 77 500 (wPay 8) wPeS.toRc8) allPeers = some 5)) ∧
  ((dmaStopped 8 s16_15.toRc8 = false) ∧ (s16_15.eth[1].queue = [wEf (some 99) 7]) ∧ ((wEf (some 99) 7).launch = some 99) ∧ (s16_15.eth[1].sending = none) ∧ (s16_15.eth[1].link = true) ∧ (s16_15.eth[1].speed ≠ 3)) ∧
  ((dmaStopped 8 s16_16.toRc8 = false) ∧ (s16_16.eth[1].queue = [wEf (some 99) 7]) ∧ ((wEf (some 99) 7).launch = some 99) ∧ (s16_16.eth[1].sending.isSome = true)) ∧
  ((s16_17.eth[1].queue = []) ∧ (s16_17.eth[1].sending = some (wEf (some 99) 7))) ∧
  ((s16_18.eth[1].link = false) ∧ (s16_18.nv.ethCfg[1].enabled = true) ∧ (s16_18.eth[1].queue = []) ∧ (s16_18.nv.ethCfg[1].speed = 0 ∨ s16_18.nv.ethCfg[1].speed = ethSpeedCode EthSpeed.mbit1000)) ∧
  ((wEd1.eth[1].link = false) ∧ (wEd1.nv.ethCfg[1].enabled = true) ∧ (wEd1.eth[1].queue = []) ∧ (wEd1.nv.ethCfg[1].speed ≠ 0) ∧ (wEd1.nv.ethCfg[1].speed ≠ ethSpeedCode EthSpeed.mbit1000)) ∧
  (s16_19.eth[1].link = true) ∧
  ((dueEntry 11 (256 * 1 + 5) wPeL.toRc8 = some wLe) ∧ (holdsToken wPeL.toRc8 = true) ∧ (peerUses wPeL.nv.peerCfg[5] 1 = true) ∧ (wPeL.nv.peerCfg[5].port = 1) ∧ (txFull wPeL.eth[1] wPeL.nv.peerCfg[5].pcp = false)) ∧
  ((peerUses s16_20.nv.peerCfg[5] 2 = true) ∧ (s16_20.peers[5].st = 1) ∧ (s16_20.peers[5].rxRound + s16_20.nv.peerCfg[5].loss ≤ s16_20.rnd.round)) ∧
  ((peerUses s16_21.nv.peerCfg[5] 2 = true) ∧ (s16_21.peers[5].st = 1) ∧ (s16_21.rnd.round < s16_21.peers[5].rxRound + s16_21.nv.peerCfg[5].loss)) ∧
  ((executes 0 s16_22.toRc8 = true) ∧ (isStandby s16_22.toRc8 = false) ∧ (s16_22.pair.partner.present = false) ∧ (s16_22.eth[1].tsOver = false)) ∧
  ((executes 0 s16_22.toRc8 = true) ∧ (isStandby s16_22.toRc8 = false) ∧ (s16_22.pair.partner.present = false) ∧ (s16_22.nv.peerCfg[5].port = 1) ∧ (txFull s16_22.eth[1] s16_22.nv.peerCfg[5].pcp = false)) ∧
  ((executes 0 s16_23.toRc8 = true) ∧ (isStandby s16_23.toRc8 = false) ∧ (s16_23.pair.partner.present = false) ∧ (s16_23.nv.peerCfg[5].port = 1) ∧ (txFull s16_23.eth[1] s16_23.nv.peerCfg[5].pcp = true)) := by and_intros <;> decide +kernel

end W16

/-! States (s17_…) and operands (w…) for CanTransmission, CanReceptionAndCommands. -/

namespace W17

def wObj (st : TxSt) (id : Nat) (one : Bool) : TxObj := { st := st, ext := false, fd := false, brs := false, oneShot := one, dlc := 2, id := id, data := padTo 64 [1,2,3] }
def wCan (f : CanPort → CanPort) : State := wRunS.after fun s => { s with
  nv := { s.nv with canCfg := s.nv.canCfg.map fun c => { c with flags := 1, repeats := 3, ref := 0x200 } }
  can := s.can.set 1 (f s.can[1])
  pwr := { s.pwr with domains := 0xFFF } }
def wCn2 : State := wCan fun x => { x with tx := (x.tx.set 5 (wObj .pending 0x300 false)).set 6 (wObj .pending 0x2FF true), stop := wObj .pending 0x301 false, tec := 4 }
def s17_1 : State := wCan id
def wSel (one : Bool) : State := wCan fun x => { x with tx := x.tx.set 63 (wObj .selected 0x300 one), tec := 4, sentCount := 0xFFFFFFFF }
def s17_2 : State := wSel true
def s17_3 : State := wSel false
def wStp (n : Nat) : State := wCan fun x => { x with stop := wObj .selected 0 false, stopLeft := n }
def s17_4 : State := wStp 0
def s17_5 : State := wStp 2
def wBo (fl : Nat) : State := wCan (fun x => { x with tec := 256, tx := ((x.tx.set 5 (wObj .pending 0x300 false)).set 6 (wObj .selected 0x2FF true)).set 7 (wObj .sent 0x2FF true) }) |>.after fun s => { s with nv := { s.nv with canCfg := s.nv.canCfg.map fun c => { c with flags := fl } } }
def s17_6 : State := wBo 1
def s17_7 : State := wBo 17
def wTec : State := wCan fun x => { x with tec := 255 }
def wRcv : State := wCan fun x => { x with err := .recovering, tec := 255, stop := wObj .held 0 false, tx := ((x.tx.set 5 (wObj .held 0x300 false)).set 6 (wObj .pending 0x2FF true)) }
def wRe (r t : Nat) : State := wCan fun x => { x with rec_ := r, tec := t }
def s17_8 : State := wRe 120 3
def wFr (id : Nat) (ext rtr : Bool) : CanRx := { ext := ext, id := id, fd := false, brs := false, esi := false, rtr := rtr, dlc := 3, data := [1,2,3], sinceStart := 77 }
def wRxC (f : CanPort → CanPort) : State := (wCan f).after fun s => { s with nv := { s.nv with canRx := s.nv.canRx.set 1 [{ obj := 0x123, enabled := true, ext := none }, { obj := 0x50, enabled := true, ext := some (2^29-1) }] } }
def s17_9 : State := wRxC id
def wOld : RxObj := { ext := false, id := 4, dlc := 1, flags := 0, isNew := true, lost := false, generation := 65534, time := 5, overwrites := 3, data := zeros 64 }
def wRxO : State := wRxC fun x => { x with rx := [(0x123, wOld), (7, wOld)] }
def wRf : Milestone := { kind := 10, source := 2, param := 1, off := 100, div := 1, phase := 0, enabled := true }
def wRef (st : TxSt) : State := (wCan fun x => { x with ref := wObj st 5 false, refSeq := 0xFFFFFFFF }).after fun s => { s with rnd := { s.rnd with host := [wRf] } }
def s17_10 : State := wRef .sent
def s17_11 : State := wRef .pending
def s17_12 : State := wRef .selected
def s17_13 : State := wRef .held
def wTw : List Byte := [1, 63, 4, 8] ++ le 4 0x123 ++ padTo 64 [9,9]
def wCc (code : Nat) (r : List Byte) (st : TxSt) : State := wCF code r fun s => { s with can := s.can.set 1 { s.can[1] with tx := s.can[1].tx.set 63 (wObj st 4 false), stop := wObj st 4 false } }
def s17_14 : State := wCc 0xB05 wTw .sent
def s17_15 : State := wCc 0xB05 wTw .held
def s17_16 : State := wCc 0xB06 [1,63] .held
def s17_17 : State := wCc 0xB06 [1,63] .selected
def s17_18 : State := wCc 0xB06 [1,63] .empty
def s17_19 : State := wCc 0xB08 [1,0] .empty
def wCs : List Byte := [10, 0, 0, 0] ++ zeros 12
def s17_20 : State := wCc 0xB09 wCs .empty
def s17_21 : State := wCc 0xB09 wCs .selected
def wCs2 : List Byte := [2, 1, 0, 0] ++ zeros 12
def s17_22 : State := wCc 0xB09 wCs2 .selected

theorem test_canTransmission_met :
  ((canSends 1 wCn2.toRc8 = true) ∧ (canSelected wCn2.can[1] = none) ∧ (dmaStopped 9 wCn2.toRc8 = false) ∧ (canWinner wCn2.can[1] = some (6, wObj TxSt.pending 767 true))) ∧
  ((canSends 1 s17_1.toRc8 = true) ∧ (canSelected s17_1.can[1] = none) ∧ (dmaStopped 9 s17_1.toRc8 = false) ∧ (canWinner s17_1.can[1] = none)) ∧
  ((canSends 1 s17_2.toRc8 = true) ∧ (canSelected s17_2.can[1] = some (↑63, wObj TxSt.selected 768 true)) ∧ ((wObj TxSt.selected 768 true).oneShot = true)) ∧
  ((canSends 1 s17_3.toRc8 = true) ∧ (canSelected s17_3.can[1] = some (↑63, wObj TxSt.selected 768 false)) ∧ ((wObj TxSt.selected 768 false).oneShot = false)) ∧
  ((canSends 1 s17_4.toRc8 = true) ∧ (canSelected s17_4.can[1] = some (-2, wObj TxSt.selected 0 false)) ∧ (s17_4.can[1].stopNext = none)) ∧
  ((canSends 1 s17_5.toRc8 = true) ∧ (canSelected s17_5.can[1] = some (-2, wObj TxSt.selected 0 false)) ∧ (s17_5.can[1].stopNext = none)) ∧
  ((256 ≤ s17_6.can[1].tec) ∧ (s17_6.can[1].err ≠ CanErr.busOff) ∧ (s17_6.can[1].err ≠ CanErr.recovering)) ∧
  ((256 ≤ s17_7.can[1].tec) ∧ (s17_7.can[1].err ≠ CanErr.busOff) ∧ (s17_7.can[1].err ≠ CanErr.recovering)) ∧
  (wTec.can[1].tec < 256) ∧
  (wRcv.can[1].err = CanErr.recovering) ∧
  (canSends 1 s17_8.toRc8 = true) ∧
  (canSends 1 wRcv.toRc8 = false) := by and_intros <;> decide +kernel

theorem test_canReceptionAndCommands_met :
  (((wFr 2047 false false).id < if (wFr 2047 false false).ext = true then 2 ^ 29 else 2048) ∧ (bitAt s17_9.nv.canCfg[1].flags 0 = true) ∧ (s17_9.pwr.domains.getLsbD 9 = true) ∧ (s17_9.can[1].err ≠ CanErr.busOff) ∧ (s17_9.can[1].err ≠ CanErr.recovering) ∧ (dmaStopped 9 s17_9.toRc8 = false) ∧ (rxObjectOf s17_9.nv.canRx[1] (wFr 2047 false false).ext (wFr 2047 false false).id = none)) ∧
  (((wFr (2 ^ 29 - 1) true false).id < if (wFr (2 ^ 29 - 1) true false).ext = true then 2 ^ 29 else 2048) ∧ (bitAt wRxO.nv.canCfg[1].flags 0 = true) ∧ (wRxO.pwr.domains.getLsbD 9 = true) ∧ (wRxO.can[1].err ≠ CanErr.busOff) ∧ (wRxO.can[1].err ≠ CanErr.recovering) ∧ (dmaStopped 9 wRxO.toRc8 = false) ∧ (rxObjectOf wRxO.nv.canRx[1] (wFr (2 ^ 29 - 1) true false).ext (wFr (2 ^ 29 - 1) true false).id = some 80)) ∧
  ((dueEntry 10 (1) s17_10.toRc8 = some wRf) ∧ (holdsToken s17_10.toRc8 = true) ∧ (bitAt s17_10.nv.canCfg[1].flags 0 = true) ∧ (s17_10.nv.canCfg[1].ref ≠ 0)) ∧
  ((dueEntry 10 (1) s17_11.toRc8 = some wRf) ∧ (holdsToken s17_11.toRc8 = true) ∧ (bitAt s17_11.nv.canCfg[1].flags 0 = true) ∧ (s17_11.nv.canCfg[1].ref ≠ 0)) ∧
  ((dueEntry 10 (1) s17_12.toRc8 = some wRf) ∧ (holdsToken s17_12.toRc8 = true) ∧ (bitAt s17_12.nv.canCfg[1].flags 0 = true) ∧ (s17_12.nv.canCfg[1].ref ≠ 0)) ∧
  ((dueEntry 10 (1) s17_13.toRc8 = some wRf) ∧ (holdsToken s17_13.toRc8 = true) ∧ (bitAt s17_13.nv.canCfg[1].flags 0 = true) ∧ (s17_13.nv.canCfg[1].ref ≠ 0)) ∧
  ((s17_14.pair.partner.present = false) ∧ (findChecked s17_14.toRc8 2821 0 0 = some (wExec 2821 wTw)) ∧ (u8At (wExec 2821 wTw).req 0 = 1) ∧ (u8At (wExec 2821 wTw).req 1 = 63) ∧ (s17_14.can[1].tx[63].st ≠ TxSt.pending) ∧ (s17_14.can[1].tx[63].st ≠ TxSt.selected) ∧ (s17_14.can[1].tx[63].st ≠ TxSt.held)) ∧
  ((s17_15.pair.partner.present = false) ∧ (findChecked s17_15.toRc8 2821 0 0 = some (wExec 2821 wTw)) ∧ (u8At (wExec 2821 wTw).req 0 = 1) ∧ (u8At (wExec 2821 wTw).req 1 = 63) ∧ (s17_15.can[1].tx[63].st = TxSt.pending ∨ s17_15.can[1].tx[63].st = TxSt.selected ∨ s17_15.can[1].tx[63].st = TxSt.held)) ∧
  ((s17_16.pair.partner.present = false) ∧ (findChecked s17_16.toRc8 2822 0 0 = some (wExec 2822 [1, 63])) ∧ (u8At (wExec 2822 [1, 63]).req 0 = 1) ∧ (u8At (wExec 2822 [1, 63]).req 1 = 63) ∧ (s17_16.can[1].tx[63].st = TxSt.pending ∨ s17_16.can[1].tx[63].st = TxSt.held)) ∧
  ((s17_17.pair.partner.present = false) ∧ (findChecked s17_17.toRc8 2822 0 0 = some (wExec 2822 [1, 63])) ∧ (u8At (wExec 2822 [1, 63]).req 0 = 1) ∧ (u8At (wExec 2822 [1, 63]).req 1 = 63) ∧ (s17_17.can[1].tx[63].st = TxSt.selected)) ∧
  ((s17_18.pair.partner.present = false) ∧ (findChecked s17_18.toRc8 2822 0 0 = some (wExec 2822 [1, 63])) ∧ (u8At (wExec 2822 [1, 63]).req 0 = 1) ∧ (u8At (wExec 2822 [1, 63]).req 1 = 63) ∧ (s17_18.can[1].tx[63].st ∈ [TxSt.empty, TxSt.sent, TxSt.failed, TxSt.cancelled])) ∧
  ((s17_19.pair.partner.present = false) ∧ (findChecked s17_19.toRc8 2824 0 0 = some (wExec 2824 [1, 0])) ∧ (u8At (wExec 2824 [1, 0]).req 0 = 1)) ∧
  ((s17_20.pair.partner.present = false) ∧ (findChecked s17_20.toRc8 2825 0 0 = some (wExec 2825 wCs))) ∧
  ((s17_21.pair.partner.present = false) ∧ (findChecked s17_21.toRc8 2825 0 0 = some (wExec 2825 wCs))) ∧
  ((s17_22.pair.partner.present = false) ∧ (findChecked s17_22.toRc8 2825 0 0 = some (wExec 2825 wCs2))) := by and_intros <;> decide +kernel

end W17

/-! States (s18_…) and operands (w…) for FieldPinsAndRound, LoopsAndTrims. -/

namespace W18

def wOutSet (a : Nat) (b : Nat) : List Byte := le 4 a ++ zeros 4 ++ le 4 b ++ zeros 244
def wFf (fl : Nat) (g : FieldFront → FieldFront) (f : Rc8 → Rc8) : State := wRunS.after fun s => f { s with
  nv := { s.nv with pinCfg := vgen 32 fun i => { mode := if i < 4 then 3 else if i < 8 then 1 else 0, flags := fl, filter := 1 } }
  ffe := g { s.ffe with supply := Vector.replicate 2 (.ok, 2400), pins := s.ffe.pins.map fun p => { p with changes := 5, on := true } }
  pair := { s.pair with leaseEnd := 30000000000 }
  pwr := { s.pwr with domains := 0xFFF } }
def wLt : Milestone := schedEntry 1 0 0
def wFl : State := wFf 1 (fun x => { x with fresh := true, next := wOutSet 5 2, applied := wOutSet 0 2, missed := 1, pins := x.pins.set 2 { x.pins[2] with fault := 2 } }) id
def s18_1 : State := wFl.after fun s => { s with pair := { s.pair with token := .standby } }
def wSm : Milestone := schedEntry 2 0 0
def wFlS : State := wFl.after fun s => { s with rnd := { s.rnd with fired := [wLt] } }
def s18_2 : State := wFf 1 (fun x => { x with missed := 2 }) id
def s18_3 : State := wFf 1 (fun x => { x with offAt := some 50 }) id
def wF0 : State := wFf 3 id id
def wFoff : State := wFf 3 (fun x => { x with pins := x.pins.map fun p => { p with on := false, switched := 19999000000 } }) id
def wTh (b : BitVec 5) : State := wFf 3 (fun x => { x with applied := wOutSet 9 0, pins := x.pins.map fun p => { p with on := false, fault := b } }) id
def s18_4 : State := wTh 18
def s18_5 : State := wTh 2
def s18_6 : State := wC 0xC05 [8,0,0,0]
def wRst : Rc8 := { (wTh 31).toRc8 with execs := [{ wExec 0xC05 [9,0,0,0] with phase := .waiting }], pair := { (wTh 31).pair with pend := [PendOp.own 9 (.command 0x0C05 [9,0,0,0]) (some 7) [] true] } }
def wLp (m : Nat) (f : FieldFront → FieldFront) : State := wFf 1 f fun s => { s with nv := { s.nv with loopCfg := s.nv.loopCfg.set 2 { mode := m, vtmin := 1200, rw := 50, vsrc := 2400 } } }
def s18_7 : State := wLp 1 id
def s18_8 : State := wLp 2 id
def wLo (f : Loop → Loop) : State := wLp 1 fun x => { x with loops := x.loops.set 2 (f { x.loops[2] with hold := true }) }
def s18_11 : State := wLo fun l => { l with limitFrom := some 55 }
def s18_12 : State := wLo fun l => { l with hold := false, retryAt := some 55 }
def s18_13 : State := wLo fun l => { l with settleEnd := some 55 }
def wTm (sp : Bool) (cap : Option (List Int)) : TrimMode := { chan := 2, span := sp, z := 7, capture := cap, press := 19000000000 }
def wTmS (sp : Bool) (cap : Option (List Int)) : State := wLp 1 fun x => { x with trim := some (wTm sp cap) }
def s18_14 : State := wTmS false none
def s18_15 : State := wTmS true none
def wCap (k : Int) : List Int := List.replicate 64 k
def s18_16 : State := wTmS false (some (wCap 7000))
def s18_17 : State := wTmS false (some (wCap 9000))
def s18_18 : State := wTmS false (some (wCap 6999))
def s18_19 : State := wTmS true (some (wCap 40100))
def wLtR (a : Byte) : List Byte := [2, a] ++ leS 2 (-5) ++ leS 2 300 ++ [0,0]
def wLtS (a : Byte) (f : FieldFront → FieldFront) : State := wCF 0xC04 (wLtR a) fun s => { (wLp 1 f).toRc8 with ident := s.ident }
def s18_20 : State := wLtS 3 id
def s18_21 : State := wLtS 1 fun x => { x with trim := some (wTm true none) }
def s18_22 : State := wLtS 1 id
def s18_23 : State := wLtS 2 id

theorem test_fieldPinsAndRound_met :
  ((dueEntry 1 0 wFl.toRc8 = some wLt) ∧ (latchSet wFl.toRc8 = some (wOutSet 5 2)) ∧ (wordOf (wOutSet 5 2) 8 &&& ~~~wordOf wFl.ffe.applied 8 = 0) ∧ (wFl.ffe.from_ ≤ wFl.rnd.round)) ∧
  ((dueEntry 1 0 s18_1.toRc8 = some wLt) ∧ (latchSet s18_1.toRc8 = some (wOutSet 5 2)) ∧ (wordOf (wOutSet 5 2) 8 &&& ~~~wordOf s18_1.ffe.applied 8 = 0) ∧ (s18_1.ffe.from_ ≤ s18_1.rnd.round)) ∧
  (dueEntry 2 0 wFlS.toRc8 = some wSm) ∧
  (2 ≤ s18_2.ffe.missed) ∧
  (wFl.ffe.missed < 2) ∧
  (s18_3.ffe.offAt = some 50) ∧
  (wF0.nv.pinCfg[31].mode = 0) ∧
  (wF0.nv.pinCfg[4].mode ≠ 0) ∧
  (isOutput 4 wF0.toRc8 = false) ∧
  ((isOutput 3 wF0.toRc8 = true) ∧ (wF0.ffe.pins[3].on = true) ∧ (supplyMissing 3 wF0.toRc8 = false)) ∧
  ((isOutput 3 wFoff.toRc8 = true) ∧ (wFoff.ffe.pins[3].on = false) ∧ (bitAt wFoff.nv.pinCfg[3].flags 1 = true) ∧ (wFoff.ffe.pins[3].switched + 1000000 ≤ wFoff.clk.refosc) ∧ (holdsToken wFoff.toRc8 = true) ∧ (supplyMissing 3 wFoff.toRc8 = false)) ∧
  (wF0.ffe.pins[3].fault.getLsbD 1 = false) ∧
  ((s18_4.ffe.pins[3].fault.getLsbD 1 = true) ∧ (s18_4.ffe.pins[3].fault.getLsbD 4 = true)) ∧
  ((s18_5.ffe.pins[3].fault.getLsbD 1 = true) ∧ (s18_5.ffe.pins[3].fault.getLsbD 4 = false)) ∧
  (999 < 65536) ∧
  (65535 < 65536) ∧
  ((findChecked s18_6.toRc8 3077 0 0 = some (wExec 3077 [8, 0, 0, 0])) ∧ (s18_6.pair.partner.present = false)) ∧
  ((9 ≠ 0) ∧ (9 ≤ 9) ∧ (wRst.pair.pend = [PendOp.own 9 (PairOp.command 3077 [9, 0, 0, 0]) (some 7) [] true])) := by and_intros <;> decide +kernel

theorem test_loopsAndTrims_met :
  (s18_7.nv.loopCfg[3].mode = 0) ∧
  ((s18_7.nv.loopCfg[2].mode ≠ 0) ∧ (s18_7.pwr.domains.getLsbD 11 = true)) ∧
  ((s18_8.nv.loopCfg[2].mode ≠ 0) ∧ (s18_8.pwr.domains.getLsbD 11 = true)) ∧
  ((s18_11.ffe.loops[2].limitFrom = some 55) ∧ (s18_11.nv.loopCfg[2].mode = 1) ∧ (s18_11.ffe.loops[2].hold = true)) ∧
  ((s18_12.ffe.loops[2].retryAt = some 55) ∧ (s18_12.itg.test = false)) ∧
  (s18_13.ffe.loops[2].settleEnd = some 55) ∧
  (((s18_7.execs.any fun e => e.code == 3076) = false) ∧ (s18_7.ffe.trim = none) ∧ (3000 ≤ 3000) ∧ (usedLoops s18_7.toRc8 = [2]) ∧ (s18_7.run.key = Key.stop)) ∧
  (((s18_14.execs.any fun e => e.code == 3076) = false) ∧ (s18_14.ffe.trim = some (wTm false none)) ∧ (3000 ≤ 3000)) ∧
  (((s18_14.execs.any fun e => e.code == 3076) = false) ∧ (s18_14.ffe.trim = some (wTm false none)) ∧ (999 < 1000) ∧ ((wTm false none).span = false)) ∧
  ((s18_14.ffe.trim = some (wTm false none)) ∧ ((wTm false none).capture = none)) ∧
  ((s18_15.ffe.trim = some (wTm true none)) ∧ ((wTm true none).capture = none)) ∧
  ((s18_16.ffe.trim = some (wTm false (some (wCap 7000)))) ∧ ((wTm false (some (wCap 7000))).capture = some (wCap 7000)) ∧ ((wTm false (some (wCap 7000))).chan = 2) ∧ (64 ≤ (wCap 7000).length) ∧ ((wTm false (some (wCap 7000))).span = false) ∧ (64 * 7000 ≤ (wCap 7000).sum) ∧ ((wCap 7000).sum ≤ 64 * 9000)) ∧
  ((s18_17.ffe.trim = some (wTm false (some (wCap 9000)))) ∧ ((wTm false (some (wCap 9000))).capture = some (wCap 9000)) ∧ ((wTm false (some (wCap 9000))).chan = 2) ∧ (64 ≤ (wCap 9000).length) ∧ ((wTm false (some (wCap 9000))).span = false) ∧ (64 * 7000 ≤ (wCap 9000).sum) ∧ ((wCap 9000).sum ≤ 64 * 9000)) ∧
  ((s18_18.ffe.trim = some (wTm false (some (wCap 6999)))) ∧ ((wTm false (some (wCap 6999))).capture = some (wCap 6999)) ∧ ((wTm false (some (wCap 6999))).chan = 2) ∧ (64 ≤ (wCap 6999).length) ∧ ((wTm false (some (wCap 6999))).span = false) ∧ ((wCap 6999).sum < 64 * 7000 ∨ 64 * 9000 < (wCap 6999).sum)) ∧
  ((s18_19.ffe.trim = some (wTm true (some (wCap 40100)))) ∧ ((wTm true (some (wCap 40100))).capture = some (wCap 40100)) ∧ ((wTm true (some (wCap 40100))).chan = 2) ∧ (64 ≤ (wCap 40100).length) ∧ ((wTm true (some (wCap 40100))).span = true) ∧ (64 * 38000 ≤ (wCap 40100).sum) ∧ ((wCap 40100).sum ≤ 64 * 42000) ∧ (0 < (wCap 40100).sum - 64 * (8000 + (wTm true (some (wCap 40100))).z)) ∧ (-190 = roundDivAway ((64 * 32000 - ((wCap 40100).sum - 64 * (8000 + (wTm true (some (wCap 40100))).z))) * 65536) ((wCap 40100).sum - 64 * (8000 + (wTm true (some (wCap 40100))).z)).toNat) ∧ (-3277 ≤ -190) ∧ (-190 ≤ 3277)) ∧
  ((findChecked s18_20.toRc8 3076 0 0 = some (wExec 3076 (wLtR 3))) ∧ (u8At (wExec 3076 (wLtR 3)).req 0 = 2) ∧ (u8At (wExec 3076 (wLtR 3)).req 1 = 3)) ∧
  ((findChecked s18_21.toRc8 3076 0 0 = some (wExec 3076 (wLtR 1))) ∧ (u8At (wExec 3076 (wLtR 1)).req 0 = 2) ∧ (u8At (wExec 3076 (wLtR 1)).req 1 ≠ 3) ∧ (s18_21.ffe.trim.isSome = true)) ∧
  ((findChecked s18_22.toRc8 3076 0 0 = some (wExec 3076 (wLtR 1))) ∧ (u8At (wExec 3076 (wLtR 1)).req 0 = 2) ∧ (u8At (wExec 3076 (wLtR 1)).req 1 ≠ 3) ∧ (s18_22.ffe.trim = none)) ∧
  ((findChecked s18_22.toRc8 3076 0 0 = some (wExec 3076 (wLtR 1))) ∧ (u8At (wExec 3076 (wLtR 1)).req 0 = 2) ∧ (s18_22.ffe.trim = none) ∧ (u8At (wExec 3076 (wLtR 1)).req 1 = 1 ∧ ({ z := -5, s := 300, source := 1 } : Trim) = { z := s16At (wExec 3076 (wLtR 1)).req 2, s := s16At (wExec 3076 (wLtR 1)).req 4, source := 1 } ∨ u8At (wExec 3076 (wLtR 1)).req 1 = 2 ∧ ({ z := -5, s := 300, source := 1 } : Trim) = { z := 0, s := 0, source := 1 })) ∧
  ((findChecked s18_23.toRc8 3076 0 0 = some (wExec 3076 (wLtR 2))) ∧ (u8At (wExec 3076 (wLtR 2)).req 0 = 2) ∧ (s18_23.ffe.trim = none) ∧ (u8At (wExec 3076 (wLtR 2)).req 1 = 1 ∧ ({ z := 0, s := 0, source := 1 } : Trim) = { z := s16At (wExec 3076 (wLtR 2)).req 2, s := s16At (wExec 3076 (wLtR 2)).req 4, source := 1 } ∨ u8At (wExec 3076 (wLtR 2)).req 1 = 2 ∧ ({ z := 0, s := 0, source := 1 } : Trim) = { z := 0, s := 0, source := 1 })) := by and_intros <;> decide +kernel

end W18

/-! States (s19_…) and operands (w…) for RecorderAndPower, ResetAndStart, FirmwareUpdate, LedMeanings. -/

namespace W19

def wRec0 : Record := { code := 0x0802, rep := 1, seq := 5, time := 6, lastOff := 0, p0 := 1, p1 := 2 }
def wRcS (sealed loss : Bool) : State := wRunS.after fun s => { s with
  rcd := { s.rcd with buf := [{ wRec0 with seq := 7 }, { wRec0 with seq := 8 }], waiting := 1, isOpen := true, openDirty := true },
  nv := { s.nv with recLog := { s.nv.recLog with log := [{ wRec0 with seq := 6 }, { wRec0 with seq := 7, rep := 3 }], sealed := sealed, nextSeq := 9 } }, pwr := { s.pwr with loss := loss } }
def s19_1 : State := wRcS true true
def s19_2 : State := wRcS false true
def s19_3 : State := wRcS true false
def wClr (x : List Exec) : State := (wRcS false false).after fun s => { s with execs := wExec 0x302 [1, 0, 0, 0] :: x }
def wOther : Exec := { wExec 0x302 [] with id := 8, phase := .waiting }
def s19_4 : State := wClr [wOther]
def s19_5 : State := wClr []
def wPw (f : Power → Power) : State := wRunS.after fun s => { s with pwr := f s.pwr, nv := { s.nv with longestLoss := 5, lossesSurvived := 0xFFFFFFFF } }
def s19_7 : State := wPw fun q => { q with loss := true }
def s19_8 : State := wPw fun q => { q with loss := false }
def s19_9 : State := wPw fun q => { q with loss := true, flushing := true, lossAt := 20000000000 }
def s19_10 : State := wPw fun q => { q with loss := true, lossAt := 20000000000 }
def s19_11 : State := wPw fun q => { q with holdup := .charging, chargeFrom := 20000000000 }
def s19_12 : State := wPw fun q => { q with holdup := .ready }
def wArmC : State := wRunS.after fun s => { wIm 5 s with nv := { (wIm 5 s).nv with package := some (wPkg 6 1), upd := { s.nv.upd with st := .trial, trial := 1, window := 9 } }, chg := { s.chg with st := .armed }, trialFrom := some 4 }
def s19_13 : State := wArmC.after fun s => { s with restartAt := some 5 }
def wSr : StartReport := { key := .remote, selfTest := true, checks := [], migrated := 3, oldFormat := 1, newFormat := 2, migrationOk := true, retainOk := true, steps := #v[1, 2, 3] }
def wOff (f : Rc8 → Rc8) : State := State.reset.after f
def s19_14 : State := wOff id
def wMan : ManEntry := { part := 2, off := 0, len := 0, digest := [], sig := [], image := { version := 9, security := 4, provides := [], needs := [] } }
def s19_15 : State := wOff fun s => { s with nv := { s.nv with upd := { s.nv.upd with st := .armed, manifest := [wMan], revert := [1] }, armedAtReset := true, pd0Mismatch := some 3 } }
def s19_16 : State := wOff fun s => { s with nv := { s.nv with upd := { s.nv.upd with st := .trial, trial := 3, manifest := [wMan] } } }
def wUb : List Byte := le 4 400 ++ zeros 4 ++ zeros 32 ++ zeros 8
def wUp (f : Update → Update) (s : Rc8) : Rc8 := { s with nv := { s.nv with upd := f s.nv.upd } }
def wUpR : Update → Update := fun u => { u with st := .receiving, session := 4, lastSession := 4, length := 400, hash := zeros 32, held := [(0, zeros 64), (3, zeros 64)] }
def s19_17 : State := wCF 0xD01 wUb (wUp wUpR)
def s19_18 : State := wCF 0xD01 wUb (wUp fun u => { wUpR u with st := .verified, lastSession := 0xFFFFFFFF })
def wUk (bad : Bool) : List Byte := let d := zeros 128; le 4 4 ++ le 4 192 ++ le 4 128 ++ le 4 (if bad then 5 else crc32c d) ++ zeros 48 ++ d
def s19_19 : State := wCF 0xD02 (wUk false) (wUp wUpR)
def s19_20 : State := wCF 0xD02 (wUk true) (wUp wUpR)
def s19_21 : State := wCF 0xD03 (le 4 4) (wUp wUpR)
def wAm (a fl : Byte) (w : Nat) : List Byte := [a, fl] ++ le 2 w ++ le 8 0 ++ zeros 4
def s19_22 : State := wCF 0xD04 (wAm 1 1 0) (wUp fun u => { u with st := .verified })
def s19_23 : State := wCF 0xD04 (wAm 2 1 7) (wUp fun u => { u with st := .armed })
def wCfm : Rc8 → Rc8 := fun s => { wUp (fun u => { u with st := .trial, manifest := [wMan], key := 2, revoke := true }) s with trialFrom := some 7 }
def s19_24 : State := wCF 0xD05 (le 8 0) wCfm
def wExp (f : Pair → Pair) : State := (wRunS.after wCfm).after fun s => { s with pair := f s.pair }
def s19_25 : State := wExp fun q => { q with token := .standby }
def wRdy : Pair → Pair := fun q => { q with plk := { q.plk with up := true, lanes := 2 }, partner := { q.partner with present := true, role := 3, inelig := 0, level := 0, heard := some 8 } }
def s19_26 : State := wExp wRdy
def s19_27 : State := wExp id
def wLd (f : Rc8 → Rc8) : State := wRunS.after fun s => f { s with pwr := { s.pwr with powered := true } }
def s19_28 : State := wLd fun s => { s with itg := { s.itg with test := true } }
def s19_29 : State := wLd fun s => { s with clk := { s.clk with refosc := 5 } }
def s19_30 : State := wLd id
def s19_31 : State := wLd fun s => { s with svpReady := false }
def s19_32 : State := wLd fun s => { s with run := { s.run with mode := .layby } }
def s19_33 : State := wLd fun s => { s with run := { s.run with mode := .run } }
def s19_34 : State := wLd fun s => { s with pair := { s.pair with token := .handover } }
def s19_35 : State := wLd fun s => { s with pair := { s.pair with token := .standbyReady } }
def s19_36 : State := wLd fun s => { s with pair := { s.pair with token := .standby } }
def s19_37 : State := wLd fun s => { s with pair := { s.pair with token := .unclaimed } }
def wLl : Rc8 → Rc8 := fun s => { wSafe s with saf := { s.saf with ch := s.saf.ch.map fun c => { c with latched := 4 } } }
def s19_38 : State := wLd wLl
def s19_39 : State := wLd wSafe
def s19_40 : State := wLd fun s => { s with saf := { s.saf with faults := 4 } }
def s19_41 : State := wLd fun s => { s with eng := { s.eng with st := .failed } }
def s19_42 : State := wLd fun s => { s with rcd := { s.rcd with alarm := some 5000000000 } }
def s19_43 : State := wLd fun s => { s with net := s.net.set 1 { s.net[1] with state := .notConfigured } }
def wOldC : StoredCfg := { Nv.reset.configs with media := Vector.replicate 2 { topo := .star, chans := 1, enforce := false, arm1 := false, arm2 := false, etherType := 0x88B5 }, storedPeriod := 250000 }
def s19_45 : State := s19_15.after fun s => { s with nv := { s.nv with oldFormat := some wOldC, upd := { s.nv.upd with st := .idle } } }
def s19_46 : State := s19_16.after fun s => { s with nv := { s.nv with oldFormat := some wOldC } }
def s19_44 : State := wLd fun s => { s with pair := { s.pair with partner := { s.pair.partner with present := true } } }

theorem test_recorderAndPower_met :
  (s19_1.nv.recLog.sealed = true ∧ s19_1.pwr.loss = true) ∧
  ((s19_2.nv.recLog.sealed = false ∨ s19_2.pwr.loss = false) ∧ (s19_2.rcd.dropped = 0)) ∧
  ((s19_3.nv.recLog.sealed = false ∨ s19_3.pwr.loss = false) ∧ (s19_3.rcd.dropped = 0)) ∧
  ((s19_3.nv.recLog.sealed = false ∨ s19_3.pwr.loss = false) ∧ (FlushResult.recordFailed = FlushResult.recordFailed ∨ FlushResult.recordFailed = FlushResult.headerFailed)) ∧
  ((s19_3.nv.recLog.sealed = false ∨ s19_3.pwr.loss = false) ∧ (FlushResult.headerFailed = FlushResult.recordFailed ∨ FlushResult.headerFailed = FlushResult.headerFailed)) ∧
  ((findChecked s19_4.toRc8 770 0 0 = some (wExec 770 [1, 0, 0, 0])) ∧ (otherWaiting s19_4.toRc8 770 (wExec 770 [1, 0, 0, 0]).id = true)) ∧
  ((findChecked s19_5.toRc8 770 0 0 = some (wExec 770 [1, 0, 0, 0])) ∧ (otherWaiting s19_5.toRc8 770 (wExec 770 [1, 0, 0, 0]).id = false)) ∧
  (1199 < 65536) ∧
  (1970 < 65536) ∧
  ((65535 < 65536) ∧ (s19_7.pwr.loss = true)) ∧
  ((3 ≤ 2 ^ 32 - 1) ∧ (2 ^ 32 - 1 < 2 ^ 32) ∧ (s19_9.pwr.flushing = true)) ∧
  ((77 < 2 ^ 32) ∧ (65535 < 65536) ∧ (s19_10.pwr.loss = true)) ∧
  ((77 < 2 ^ 32) ∧ (65535 < 65536) ∧ (s19_8.pwr.loss = false)) ∧
  ((65535 < 65536) ∧ (1759 < 65536) ∧ (77 < 2 ^ 32) ∧ (s19_11.pwr.holdup = HoldSt.charging)) ∧
  ((65535 < 65536) ∧ (1760 < 65536) ∧ (s19_12.pwr.holdup = HoldSt.ready)) := by and_intros <;> decide +kernel

theorem test_resetAndStart_met :
  (wRunS.restartAt = none) ∧
  (s19_13.restartAt.isSome = true) ∧
  ((wSr.migrated < 2 ^ 32) ∧ (wSr.oldFormat < 65536) ∧ (wSr.newFormat < 65536) ∧ (wRunS.svpReady = true ∨ svpRuns wRunS.toRc8 = false)) ∧
  ((wSr.migrated < 2 ^ 32) ∧ (wSr.oldFormat < 65536) ∧ (wSr.newFormat < 65536) ∧ (s19_14.svpReady = false) ∧ (svpRuns s19_14.toRc8 = true)) ∧
  ((wSr.migrated < 2 ^ 32) ∧ (wSr.oldFormat < 65536) ∧ (wSr.newFormat < 65536) ∧ (s19_15.svpReady = false) ∧ (svpRuns s19_15.toRc8 = true)) ∧
  ((wSr.migrated < 2 ^ 32) ∧ (wSr.oldFormat < 65536) ∧ (wSr.newFormat < 65536) ∧ (s19_16.svpReady = false) ∧ (svpRuns s19_16.toRc8 = true)) ∧
  ((s19_45.svpReady = false) ∧ (svpRuns s19_45.toRc8 = true) ∧ (s19_45.nv.oldFormat = some wOldC) ∧ (s19_45.nv.upd.revert ≠ []) ∧ (s19_45.nv.upd.st ≠ .armed)) ∧
  ((s19_46.svpReady = false) ∧ (svpRuns s19_46.toRc8 = true) ∧ (s19_46.nv.oldFormat = some wOldC) ∧ (s19_46.nv.upd.st = .trial) ∧ (3 ≤ s19_46.nv.upd.trial)) := by and_intros <;> decide +kernel

theorem test_firmwareUpdate_met :
  ((findChecked s19_17.toRc8 3329 0 0 = some (wExec 3329 wUb)) ∧ (s19_17.nv.upd.st = UpdSt.receiving) ∧ (s19_17.nv.upd.length = u32At (wExec 3329 wUb).req 0) ∧ (s19_17.nv.upd.hash = slice (wExec 3329 wUb).req 8 32)) ∧
  ((findChecked s19_18.toRc8 3329 0 0 = some (wExec 3329 wUb)) ∧ (s19_18.nv.upd.st ≠ UpdSt.receiving)) ∧
  ((findChecked s19_19.toRc8 3330 0 0 = some (wExec 3330 (wUk false))) ∧ (crc32c (List.drop 64 (wExec 3330 (wUk false)).req) = u32At (wExec 3330 (wUk false)).req 12)) ∧
  ((findChecked s19_20.toRc8 3330 0 0 = some (wExec 3330 (wUk true))) ∧ (crc32c (List.drop 64 (wExec 3330 (wUk true)).req) ≠ u32At (wExec 3330 (wUk true)).req 12)) ∧
  ((findChecked s19_19.toRc8 3330 0 0 = some (wExec 3330 (wUk false))) ∧ (false = false)) ∧
  (findChecked s19_21.toRc8 3331 0 0 = some (wExec 3331 (le 4 4))) ∧
  ((findChecked s19_22.toRc8 3332 0 0 = some (wExec 3332 (wAm 1 1 0))) ∧ (u8At (wExec 3332 (wAm 1 1 0)).req 0 = 1)) ∧
  ((findChecked s19_23.toRc8 3332 0 0 = some (wExec 3332 (wAm 2 1 7))) ∧ (u8At (wExec 3332 (wAm 2 1 7)).req 0 = 2)) ∧
  (findChecked s19_24.toRc8 3333 0 0 = some (wExec 3333 (le 8 0))) ∧
  ((s19_25.trialFrom = some 7) ∧ (s19_25.nv.upd.st = UpdSt.trial) ∧ (holdsToken s19_25.toRc8 = false)) ∧
  ((s19_26.trialFrom = some 7) ∧ (s19_26.nv.upd.st = UpdSt.trial) ∧ (holdsToken s19_26.toRc8 = true) ∧ (partnerReady s19_26.toRc8 = true) ∧ (s19_26.pair.hand = none)) ∧
  ((s19_27.trialFrom = some 7) ∧ (s19_27.nv.upd.st = UpdSt.trial) ∧ (holdsToken s19_27.toRc8 = true) ∧ (partnerReady s19_27.toRc8 = false)) ∧
  (wRunS.nv.upd.st ≠ UpdSt.trial) := by and_intros <;> decide +kernel

theorem test_ledMeanings_met :
  ((s19_28.pwr.powered = true) ∧ (s19_28.itg.test = true)) ∧
  ((s19_29.pwr.powered = true) ∧ (s19_29.itg.test = false) ∧ (s19_29.clk.refosc < 1000000000)) ∧
  ((s19_31.pwr.powered = true) ∧ (s19_31.itg.test = false) ∧ (1000000000 ≤ s19_31.clk.refosc)) ∧
  ((s19_32.pwr.powered = true) ∧ (s19_32.itg.test = false) ∧ (1000000000 ≤ s19_32.clk.refosc)) ∧
  ((s19_33.pwr.powered = true) ∧ (s19_33.itg.test = false) ∧ (1000000000 ≤ s19_33.clk.refosc)) ∧
  ((s19_30.pwr.powered = true) ∧ (s19_30.itg.test = false) ∧ (1000000000 ≤ s19_30.clk.refosc) ∧ (s19_30.pair.token = Token.holder)) ∧
  ((s19_34.pwr.powered = true) ∧ (s19_34.itg.test = false) ∧ (1000000000 ≤ s19_34.clk.refosc) ∧ (s19_34.pair.token = Token.handover)) ∧
  ((s19_35.pwr.powered = true) ∧ (s19_35.itg.test = false) ∧ (1000000000 ≤ s19_35.clk.refosc) ∧ (s19_35.pair.token = Token.standbyReady)) ∧
  ((s19_36.pwr.powered = true) ∧ (s19_36.itg.test = false) ∧ (1000000000 ≤ s19_36.clk.refosc) ∧ (s19_36.pair.token = Token.standby)) ∧
  ((s19_37.pwr.powered = true) ∧ (s19_37.itg.test = false) ∧ (1000000000 ≤ s19_37.clk.refosc) ∧ (s19_37.pair.token = Token.unclaimed)) ∧
  ((s19_38.pwr.powered = true) ∧ (s19_38.itg.test = false) ∧ (1000000000 ≤ s19_38.clk.refosc) ∧ (latchedGroups s19_38.toRc8 ≠ 0)) ∧
  ((s19_39.pwr.powered = true) ∧ (s19_39.itg.test = false) ∧ (1000000000 ≤ s19_39.clk.refosc) ∧ (latchedGroups s19_39.toRc8 = 0)) ∧
  ((s19_30.pwr.powered = true) ∧ (s19_30.itg.test = false) ∧ (1000000000 ≤ s19_30.clk.refosc) ∧ (latchedGroups s19_30.toRc8 = 0)) ∧
  ((s19_40.pwr.powered = true) ∧ (s19_40.itg.test = false) ∧ (1000000000 ≤ s19_40.clk.refosc) ∧ (latchedGroups s19_40.toRc8 = 0)) ∧
  ((s19_41.pwr.powered = true) ∧ (s19_41.itg.test = false) ∧ (1000000000 ≤ s19_41.clk.refosc) ∧ (s19_41.ffe.flashes = none) ∧ (faultStands s19_41.toRc8 = true)) ∧
  ((s19_30.pwr.powered = true) ∧ (s19_30.itg.test = false) ∧ (1000000000 ≤ s19_30.clk.refosc) ∧ (s19_30.ffe.flashes = none) ∧ (faultStands s19_30.toRc8 = false) ∧ (s19_30.rcd.alarm = none)) ∧
  ((s19_42.pwr.powered = true) ∧ (s19_42.itg.test = false) ∧ (1000000000 ≤ s19_42.clk.refosc) ∧ (s19_42.ffe.flashes = none) ∧ (faultStands s19_42.toRc8 = false) ∧ (s19_42.rcd.alarm = some 5000000000)) ∧
  ((s19_43.pwr.powered = true) ∧ (s19_43.itg.test = false) ∧ (1000000000 ≤ s19_43.clk.refosc) ∧ (s19_43.ffe.trim = none) ∧ (s19_43.net[1].state = NetState.notConfigured)) ∧
  ((s19_44.pwr.powered = true) ∧ (s19_44.itg.test = false) ∧ (1000000000 ≤ s19_44.clk.refosc) ∧ (s19_44.pair.partner.present = true)) := by and_intros <;> decide +kernel

end W19

end Sys2Proof.Tests
end

section
/-! SUPPORT. Host accesses to the registers and vectors of a port, and the statement about them (02 R44 to R47, R52). -/

namespace Sys2Proof.Machine

open Sys2Proof

/-! ### Which accesses a port takes (02 R43; 12 R403) -/

/-- An action that leaves the module as it is leaves the block as it is. -/
theorem after_unchanged {s : State} {f : Rc8 → Rc8} (h : f s.toRc8 = s.toRc8) : s.after f = s := by
  simp [State.after, h]

/-- A port that is linked and not frozen takes the access. -/
theorem whileUp_open {s : Rc8} {p : Fin 4} (hl : (s.hp[p]).link = true) (hf : portFrozen p s = false) (f : Rc8 → Rc8) :
    whileUp p f s = f s := if_pos (by rw [hl, hf]; rfl)

/-- A port without link discards the access. -/
theorem whileUp_linkDown {s : Rc8} {p : Fin 4} (hl : (s.hp[p]).link = false) (f : Rc8 → Rc8) : whileUp p f s = s :=
  if_neg (by rw [hl]; exact Bool.false_ne_true)

/-- A row that acts through a linked port that is not frozen leaves what the access leaves. -/
theorem act_whileUp_open {s : State} {p : Fin 4} (hl : (s.hp[p]).link = true) (hf : portFrozen p s.toRc8 = false)
    {f g : Rc8 → Rc8} (h : f s.toRc8 = g s.toRc8) : act (whileUp p f) s = .next (s.after g) := by
  rw [act_eq, after_congr ((whileUp_open hl hf f).trans h)]

/-- A row that acts through a port without link changes nothing. -/
theorem act_whileUp_linkDown {s : State} {p : Fin 4} (hl : (s.hp[p]).link = false) (f : Rc8 → Rc8) :
    act (whileUp p f) s = .next s := by
  rw [act_eq, after_unchanged (whileUp_linkDown hl f)]

/-! ### Writes to BAR0 (02 R44 to R46) -/

/-- A register write that a bus can carry acts through its port. -/
theorem exec_registerWrite {off width : Nat} (h1 : 1 ≤ width) (h2 : width ≤ 256)
    (h3 : width ≤ 4 ∨ off < 0x1000 ∨ 0x9000 ≤ off) (p : Fin 4) (v : U32) (s : State) :
    exec (.registerWrite p off width v) s = act (whileUp p (bar0Write p off width v)) s :=
  actIf_eq (decide_eq_true ⟨h1, h2, h3⟩) _ _ s

/-- A register write that a linked port that is not frozen takes leaves what BAR0 makes of it. -/
theorem exec_registerWrite_open {s : State} {p : Fin 4} (hl : (s.hp[p]).link = true) (hf : portFrozen p s.toRc8 = false)
    {off : Nat} {v : U32} {g : Rc8 → Rc8} (h : bar0Write p off 4 v s.toRc8 = g s.toRc8) :
    exec (.registerWrite p off 4 v) s = .next (s.after g) := by
  rw [exec_registerWrite (by decide) (by decide) (.inl (Nat.le_refl 4)), act_whileUp_open hl hf h]

/-- A register write that BAR0 discards changes nothing. -/
theorem exec_registerWrite_discarded {s : State} {p : Fin 4} (hl : (s.hp[p]).link = true) (hf : portFrozen p s.toRc8 = false)
    {off width : Nat} {v : U32} (h1 : 1 ≤ width) (h2 : width ≤ 256) (h3 : width ≤ 4 ∨ off < 0x1000 ∨ 0x9000 ≤ off)
    (h : bar0Write p off width v s.toRc8 = s.toRc8) : exec (.registerWrite p off width v) s = .next s := by
  rw [exec_registerWrite h1 h2 h3, act_whileUp_open (g := id) hl hf h, after_unchanged rfl]

/-- A port without link discards every 32-bit register write. -/
theorem exec_registerWrite_linkDown {s : State} {p : Fin 4} (hl : (s.hp[p]).link = false) (off : Nat) (v : U32) :
    exec (.registerWrite p off 4 v) s = .next s := by
  rw [exec_registerWrite (by decide) (by decide) (.inl (Nat.le_refl 4)), act_whileUp_linkDown hl]

/-- An aligned 32-bit write below 0x100 is a write to a port register. -/
theorem bar0Write_register {off : Nat} (hoff : off < 0x100) (ha : off % 4 = 0) (p : Fin 4) (v : U32) (s : Rc8) :
    bar0Write p off 4 v s = portRegWrite p off v s := by
  have hm : ¬ (0x1000 ≤ off ∧ off < 0x9000) := by omega
  simp [bar0Write, hm, ha, hoff]

/-- Registers are written 32 bits wide and aligned; the rest of their range discards what it is given. -/
theorem bar0Write_misfit {off width : Nat} (hoff : off < 0x1000) (h : width ≠ 4 ∨ off % 4 ≠ 0) (p : Fin 4) (v : U32) (s : Rc8) :
    bar0Write p off width v s = s := by
  have hm : ¬ (0x1000 ≤ off ∧ off < 0x9000) := by omega
  simp only [bar0Write, if_neg hm, if_pos h]

/-- A write between the registers and the mailboxes, or past the MSI-X table, is discarded (02 R44). -/
theorem bar0Write_reserved {off : Nat} (h : (0x100 ≤ off ∧ off < 0x1000) ∨ 0x9040 ≤ off) (p : Fin 4) (v : U32) (s : Rc8) :
    bar0Write p off 4 v s = s := by
  have hm : ¬ (0x1000 ≤ off ∧ off < 0x9000) := by omega
  have hr : ¬ off < 0x100 := by omega
  have hx : ¬ (0x9000 ≤ off ∧ off < 0x9040) := by omega
  simp only [bar0Write, if_neg hm, if_neg hr, if_neg hx, ite_self]

/-- The configuration of an enabled ring takes no write (02 R46). -/
theorem bar0Write_ringEnabled {s : Rc8} {p : Fin 4} (he : (s.hp[p]).evq.enable = true) {off : Nat}
    (hoff : off ∈ [0x40, 0x44, 0x48, 0x50, 0x54]) (v : U32) : bar0Write p off 4 v s = s := by
  obtain ⟨hlt, ha⟩ := (by decide : ∀ o ∈ [0x40, 0x44, 0x48, 0x50, 0x54], o < 0x100 ∧ o % 4 = 0) off hoff
  rw [bar0Write_register hlt ha]
  simp only [List.mem_cons, List.not_mem_nil, or_false] at hoff
  rcases hoff with rfl | rfl | rfl | rfl | rfl <;> exact if_pos he

/-- The size of a ring that is not enabled takes the low five bits of a write. -/
theorem portRegWrite_size {s : Rc8} {p : Fin 4} (he : (s.hp[p]).evq.enable = false) (v : U32) :
    portRegWrite p 0x48 v s = modPort p (fun h => { h with evq := { h.evq with size := v.toNat % 32 } }) s :=
  if_neg (by rw [he]; exact Bool.false_ne_true)

/-- Read-only and reserved offsets take no write. -/
theorem bar0Write_noRegister {off : Nat}
    (hoff : off ∈ [0x00, 0x04, 0x08, 0x14, 0x20, 0x5C, 0x74, 0x80, 0x84, 0xFC, 0x100, 0xFFC, 0x9040])
    (p : Fin 4) (v : U32) (s : Rc8) : bar0Write p off 4 v s = s := by
  rcases (List.mem_append (s := [0x00, 0x04, 0x08, 0x14, 0x20, 0x5C, 0x74, 0x80, 0x84, 0xFC])
    (t := [0x100, 0xFFC, 0x9040])).1 hoff with h | h
  · obtain ⟨hlt, ha⟩ := (by decide : ∀ o ∈ [0x00, 0x04, 0x08, 0x14, 0x20, 0x5C, 0x74, 0x80, 0x84, 0xFC],
      o < 0x100 ∧ o % 4 = 0) off h
    rw [bar0Write_register hlt ha]
    simp only [List.mem_cons, List.not_mem_nil, or_false] at h
    rcases h with rfl | rfl | rfl | rfl | rfl | rfl | rfl | rfl | rfl | rfl <;> rfl
  · exact bar0Write_reserved
      ((by decide : ∀ o ∈ [0x100, 0xFFC, 0x9040], (0x100 ≤ o ∧ o < 0x1000) ∨ 0x9040 ≤ o) off h) p v s

/-! ### Reads of BAR0 (02 R45; 00 R17) -/

/-- A port that is replaced by itself leaves the module as it is. -/
@[simp] theorem modPort_id (p : Fin 4) (s : Rc8) : modPort p (fun h => h) s = s := by simp [modPort, vmod]

/-- A read of a port register answers its value and has the read's effect on the port. -/
theorem bar0Read_register {off : Nat} (hoff : off < 0x100) (ha : off % 4 = 0) (p : Fin 4) (s : Rc8) :
    bar0Read p off 4 s =
      { modPort p (portRegReadEffect off) s with out := s.out ++ [.readData p (le 4 (portRegValue p off s))] } := by
  have hm : ¬ (0x1000 ≤ off ∧ off < 0x9000) := by omega
  simp [bar0Read, hm, ha, hoff]

/-- A register read that a linked port that is not frozen takes leaves the answer and the read's effect. -/
theorem exec_registerRead_open {s : State} {p : Fin 4} (hl : (s.hp[p]).link = true) (hf : portFrozen p s.toRc8 = false)
    {off : Nat} (hoff : off < 0x100) (ha : off % 4 = 0) {g : Rc8 → Rc8}
    (h : { modPort p (portRegReadEffect off) s.toRc8 with
      out := s.out ++ [.readData p (le 4 (portRegValue p off s.toRc8))] } = g s.toRc8) :
    exec (.registerLoRead p off 4) s = .next (s.after g) :=
  act_whileUp_open hl hf ((bar0Read_register hoff ha p s.toRc8).trans h)

/-- While a latch is set, a read of the ring base's upper half answers the latch. -/
theorem portRegValue_baseHi {s : Rc8} {p : Fin 4} {x : Nat} (h : (s.hp[p]).latchBase = some x) : portRegValue p 0x44 s = x :=
  congrArg (fun l => l.getD ((s.hp[p]).evq.base / 2 ^ 32)) h

/-- A read of HP_SCRATCH has no effect on the module. -/
theorem portRegReadEffect_scratch (p : Fin 4) (s : Rc8) : modPort p (portRegReadEffect 0x90) s = s := modPort_id p s

/-! ### MSI-X vectors (02 R47) -/

/-- Unmasking a vector clears its mask and its pending bit and sends the message that was pending, if any. -/
theorem unmaskVector_eq (p v : Fin 4) (s : Rc8) :
    unmaskVector p v s =
      { modPort p (fun h => { h with msix := vmod h.msix v fun x => { x with masked := false, pend := false } }) s with
        out := s.out ++ (if ((s.hp[p]).msix[v]).pend then [.msix p v ((s.hp[p]).msix[v]).addr ((s.hp[p]).msix[v]).data] else []) } := by
  cases hp : ((s.hp[p]).msix[v]).pend with
  | false =>
    simp only [unmaskVector, hp, Bool.false_eq_true, if_false, List.append_nil]
    rfl
  | true => simp only [unmaskVector, hp, if_true, modPort_out]

/-! ### The statement -/

/-- Settles O15: each row acts through `whileUp`, so an access that the port takes is what BAR0 or the vector makes of it. -/
theorem registersAndVectors : Obligations.RegistersAndVectors := by
  refine ⟨fun s p v hl hf => ?writeOneToClear, fun s p hl hf => ?reads,
    fun s p v => ⟨fun hl hf => ?registerWrites, fun hl => ?linkDown⟩, fun s p v hl hf => ?unmask⟩
  case writeOneToClear =>
    exact ⟨act_whileUp_open hl hf rfl, act_whileUp_open hl hf rfl, act_whileUp_open hl hf rfl⟩
  case reads =>
    refine ⟨act_whileUp_open hl hf rfl, act_whileUp_open hl hf rfl, ?baseLo, fun x hx => ?baseHi, ?tickLo, ?scratch⟩
    case baseLo => exact exec_registerRead_open hl hf (by decide) (by decide) rfl
    case baseHi => exact exec_registerRead_open hl hf (by decide) (by decide) (by rw [portRegValue_baseHi hx]; rfl)
    case tickLo => exact exec_registerRead_open hl hf (by decide) (by decide) rfl
    case scratch => exact exec_registerRead_open hl hf (by decide) (by decide) (by rw [portRegReadEffect_scratch]; rfl)
  case registerWrites =>
    refine ⟨?scratch, fun he => ?size, fun he off hoff => ?locked, fun off hoff => ?noRegister,
      fun off width h1 h2 h hoff => ?misfit, ?bar2⟩
    case scratch => exact exec_registerWrite_open hl hf (bar0Write_register (by decide) (by decide) p v _)
    case size =>
      exact exec_registerWrite_open hl hf
        ((bar0Write_register (by decide) (by decide) p v _).trans (portRegWrite_size he v))
    case locked =>
      exact exec_registerWrite_discarded hl hf (by decide) (by decide) (.inl (Nat.le_refl 4)) (bar0Write_ringEnabled he hoff v)
    case noRegister =>
      exact exec_registerWrite_discarded hl hf (by decide) (by decide) (.inl (Nat.le_refl 4)) (bar0Write_noRegister hoff p v _)
    case misfit =>
      exact exec_registerWrite_discarded hl hf h1 h2 (.inr (.inl hoff)) (bar0Write_misfit hoff h p v _)
    case bar2 => exact act_whileUp_open hl hf rfl
  case linkDown =>
    exact ⟨fun off _ => exec_registerWrite_linkDown hl off v, act_whileUp_linkDown hl _⟩
  case unmask =>
    refine ⟨s.after (unmaskVector p v), act_whileUp_open hl hf rfl, ?masked, ?pend,
      congrArg Rc8.out (unmaskVector_eq p v s.toRc8), after_congr ?rest⟩
    case masked => simp [unmaskVector_eq]
    case pend => simp [unmaskVector_eq]
    case rest => rw [State.after_toRc8, unmaskVector_eq]

end Sys2Proof.Machine
end

section
/-! SUPPORT. The queue of the block, and the statements about it (log 1). -/

namespace Sys2Proof.Machine

open Sys2Proof

/-- A step on a queue with a command at its front runs it with the queue's rest. -/
theorem step_of_pending_cons {s : State} {c : Instr} {rest : List Instr} (h : s.pending = c :: rest) :
    step s = exec c (s.withPending rest) := by
  rw [step, h]

/-- A step on an empty queue idles. -/
theorem step_of_pending_nil {s : State} (h : s.pending = []) : step s = .next s := by
  rw [step, h]

/-- No word spells a command. -/
theorem decodeTableWord_eq_none (nbits w : Nat) : decodeTableWord nbits w = none := rfl

/-- A fetched word puts nothing into the queue. -/
theorem withFetchWord_eq_self (s : State) (nbits w : Nat) : s.withFetchWord nbits w = s := by
  rw [State.withFetchWord, decodeTableWord_eq_none]

/-- Settles O1: the queue's two shapes are the two branches of `step`. -/
theorem stepRunsTheFrontCommand : Obligations.StepRunsTheFrontCommand :=
  fun _ _ _ h => step_of_pending_cons h

/-- Settles O2. -/
theorem emptyQueueIdles : Obligations.EmptyQueueIdles :=
  ⟨fun _ h => step_of_pending_nil h, fun nbits w s => ⟨decodeTableWord_eq_none nbits w, withFetchWord_eq_self s nbits w⟩⟩

end Sys2Proof.Machine
end

section
/-! SUPPORT. The services that a running task calls, and the statement about them (08 R270; 10 R321; 16 R511). -/

namespace Sys2Proof.Machine

open Sys2Proof

/-! ### Who may call, and where a request goes -/

/-- A row of a task whose code executes leaves what the service leaves. -/
theorem act_whileRunning {s : State} {t : Fin 8} (hx : executes t s.toRc8 = true) (f : Rc8 → Rc8) :
    act (whileRunning t f) s = .next (s.after f) := by
  rw [act_eq, after_congr (show whileRunning t f s.toRc8 = f s.toRc8 from if_pos hx)]

/-- A row of a task whose code executes leads to what holds after its service. -/
theorem leads_whileRunning {c : Instr} {s : State} {t : Fin 8} {f : Rc8 → Rc8} {P : State → Prop}
    (hc : exec c s = act (whileRunning t f) s) (hx : executes t s.toRc8 = true) (hp : P (s.after f)) : Leads c s P :=
  ⟨s.after f, hc.trans (act_whileRunning hx f), rfl, hp⟩

section requests
variable {t : Fin 8} {c : SvcCall} {own : List Byte} {serve : Rc8 → Rc8} {s : Rc8}

/-- With 16 requests outstanding a further one is refused with BUSY. -/
theorem serviceRequest_busy (h : 16 ≤ outstanding t s) :
    serviceRequest t c own serve s = { s with out := s.out ++ [.serviceStatus t .busy []] } := if_pos h

/-- A standby keeps the place of the result, and counts a request with effects outside the module. -/
theorem serviceRequest_standby (h : outstanding t s < 16) (hs : isStandby s = true) :
    serviceRequest t c own serve s =
      modRun (fun r => { r with notExecuted := if c.outside then inc32 r.notExecuted else r.notExecuted })
        (modTask t (fun y => { y with results := y.results ++ [own] }) s) :=
  (if_neg (Nat.not_le.2 h)).trans (if_pos hs)

/-- A request that nothing stands before is served at once. -/
theorem serviceRequest_served (h : outstanding t s < 16) (hs : isStandby s = false) (hf : channelFree s = true) :
    serviceRequest t c own serve s = serve s := by
  simp [serviceRequest, Nat.not_le.2 h, hs, hf]

/-- A request that something stands before joins the service channels. -/
theorem serviceRequest_queued (h : outstanding t s < 16) (hs : isStandby s = false) (hf : channelFree s = false) :
    serviceRequest t c own serve s = modRun (fun r => { r with channel := r.channel ++ [{ task := t, call := c }] }) s := by
  simp [serviceRequest, Nat.not_le.2 h, hs, hf]

end requests

/-! ### What serving a request leaves -/

/-- A delivered result joins those that wait for the task's next snapshot, whether or not it is forwarded too. -/
theorem serviceResult_results (t : Fin 8) (l : List Byte) (s : Rc8) :
    ((serviceResult t l s).run.tasks[t]).results = (s.run.tasks[t]).results ++ [l] := by
  unfold serviceResult
  dsimp only
  split <;> simp

/-- The result of a request that ended with DONE and no response. -/
theorem serviceBytes_done_nil : serviceBytes .done [] = le 2 0 := rfl

/-- An event whose fields are in range is raised, and its task gets DONE. -/
theorem serveEvent_inRange {t : Fin 8} {reason sev p0 p1 p2 : Nat} (h1 : 1 ≤ reason) (h2 : reason ≤ 255) (h3 : sev ≤ 4) (s : Rc8) :
    serveEvent t reason sev p0 p1 p2 s = serviceResult t (le 2 0)
      (raise { src := 19, reason := reason, sev := Sev.ofCode sev, p0 := lo32 p0, p1 := lo32 p1, p2 := lo32 p2 } s) :=
  if_neg (by omega)

/-- A record with a code of source 19 is written, and its task gets DONE. -/
theorem serveRecord_source {t : Fin 8} {code p0 p1 : Nat} (h : code / 256 = 19) (s : Rc8) :
    serveRecord t code p0 p1 s = serviceResult t (le 2 0)
      (recordEvent { src := 19, reason := code % 256, sev := .info, p0 := lo32 p0, p1 := lo32 p1, p2 := 0 } s) :=
  if_neg (not_not_intro h)

/-! ### The statement -/

/-- Settles O36: each service is where `serviceRequest` sends its request, and what serving it leaves. -/
theorem taskServices : Obligations.TaskServices := by
  intro s t hx
  refine ⟨act_whileRunning hx _, act_whileRunning hx _, fun reason sev p0 p1 p2 hn hs hf h1 h2 h3 => ?eventServed,
    fun reason sev p0 p1 p2 hn hs hf => ?eventQueued, fun reason sev p0 p1 p2 hn hs => ?eventStandby,
    fun code p0 p1 hn hs hf hc => ?recordServed, fun reason sev p0 p1 p2 hn => ?busy⟩
  case eventServed =>
    apply leads_whileRunning rfl hx
    rw [State.after_toRc8, raiseEvent, serviceRequest_served hn hs hf, serveEvent_inRange h1 h2 h3]
    exact ⟨by rw [serviceResult_results, raise_run], by simp, by simp⟩
  case eventQueued =>
    apply leads_whileRunning rfl hx
    rw [State.after_toRc8, raiseEvent, serviceRequest_queued hn hs hf]
    rfl
  case eventStandby =>
    apply leads_whileRunning rfl hx
    rw [State.after_toRc8, raiseEvent, serviceRequest_standby hn hs]
    exact ⟨by simp, rfl, rfl⟩
  case recordServed =>
    apply leads_whileRunning rfl hx
    rw [State.after_toRc8, recordRequest, serviceRequest_served hn hs hf, serveRecord_source hc]
    exact ⟨by rw [serviceResult_results, recordEvent_run], by simp, by simp⟩
  case busy =>
    rw [← after_congr (serviceRequest_busy hn)]
    exact act_whileRunning hx _

end Sys2Proof.Machine
end

section
/-! SUPPORT. The life of a mailbox command from its acknowledgement to its delivery, and the statement about it (01 R31; 02 R54,
R58, R59, R62, R66, R87; 12 R409). -/

namespace Sys2Proof.Machine

open Sys2Proof

/-- Two actions that agree on this module answer the same. -/
theorem act_eq_of_eq {s : State} {f g : Rc8 → Rc8} (h : f s.toRc8 = g s.toRc8) : act f s = .next (s.after g) := by
  rw [act_eq, after_congr h]

/-! ### Which mailbox the SVP takes next (01 R31; 02 R56) -/

/-- A mailbox stands among a port's POSTED ones exactly if it is POSTED. -/
theorem mem_postedOf {s : Rc8} {p q : Fin 4} {k : Fin 8} :
    (q, k) ∈ postedOf p s ↔ p = q ∧ ((s.hp[q]).mbx[k]).state = .posted := by
  have all : ∀ m : Fin 8, m ∈ ([0, 1, 2, 3, 4, 5, 6, 7] : List (Fin 8)) := by decide
  simp only [postedOf, List.mem_map, List.mem_filter, all, true_and, beq_iff_eq, Prod.mk.injEq]
  constructor
  · rintro ⟨m, hm, rfl, rfl⟩
    exact ⟨rfl, hm⟩
  · rintro ⟨rfl, hk⟩
    exact ⟨k, hk, rfl, rfl⟩

/-- Every POSTED mailbox is considered, and no other one. -/
theorem mem_postedAll {s : Rc8} {q : Fin 4} {k : Fin 8} : (q, k) ∈ postedAll s ↔ ((s.hp[q]).mbx[k]).state = .posted := by
  have port : (0 : Fin 4) = q ∨ 1 = q ∨ 2 = q ∨ 3 = q := by revert q; decide
  simp only [postedAll, List.mem_append, mem_postedOf]
  tauto

/-- Only an empty list has no earliest arrival. -/
theorem earliest_eq_none {s : Rc8} {l : List (Fin 4 × Fin 8)} (h : earliest s l = none) : l = [] := by
  cases l with
  | nil => rfl
  | cons x l =>
    simp only [earliest] at h
    split at h
    · cases h
    · split at h <;> cases h

/-- The earliest arrival stands in the list, and none in it arrived before. -/
theorem earliest_eq_some {s : Rc8} {l : List (Fin 4 × Fin 8)} {x : Fin 4 × Fin 8} (h : earliest s l = some x) :
    x ∈ l ∧ ∀ y ∈ l, ((s.hp[x.1]).mbx[x.2]).order ≤ ((s.hp[y.1]).mbx[y.2]).order := by
  induction l generalizing x with
  | nil => cases h
  | cons a l ih =>
    simp only [earliest] at h
    split at h
    · next hn =>
      cases h
      simp [earliest_eq_none hn]
    · next y hy =>
      obtain ⟨hmem, hle⟩ := ih hy
      split at h
      · next hay =>
        cases h
        exact ⟨List.mem_cons_self, List.forall_mem_cons.2 ⟨Nat.le_refl _, fun z hz => Nat.le_trans hay (hle z hz)⟩⟩
      · next hay =>
        cases h
        exact ⟨List.mem_cons_of_mem a hmem, List.forall_mem_cons.2 ⟨Nat.le_of_not_le hay, hle⟩⟩

/-- Without a next urgent mailbox no mailbox 0 is POSTED. -/
theorem ne_zero_of_nextUrgent_none {s : Rc8} (h : nextUrgent s = none) {q : Fin 4} {k : Fin 8}
    (hk : ((s.hp[q]).mbx[k]).state = .posted) : k ≠ 0 := by
  have none_left := List.filter_eq_nil_iff.1 (earliest_eq_none h) (q, k) (mem_postedAll.2 hk)
  simpa using none_left

/-- The next mailbox is the first urgent one, or, with none urgent and no request in the service channels, the first other one. -/
theorem nextMailbox_cases {s : Rc8} {x : Fin 4 × Fin 8} (h : nextMailbox s = some x) :
    nextUrgent s = some x ∨ (nextUrgent s = none ∧ servedChannel s = [] ∧ nextOther s = some x) := by
  unfold nextMailbox at h
  cases hu : nextUrgent s with
  | some y => simpa [hu] using h
  | none =>
    by_cases hc : servedChannel s = []
    · simpa [hu, hc] using h
    · simp [hu, hc] at h

/-- The next mailbox is POSTED; no urgent one stands before it, and none of its group arrived before it. -/
theorem nextMailbox_first {s : Rc8} {p : Fin 4} {m : Fin 8} (h : nextMailbox s = some (p, m)) :
    ((s.hp[p]).mbx[m]).state = .posted ∧
    ∀ (q : Fin 4) (k : Fin 8), ((s.hp[q]).mbx[k]).state = .posted →
      (m = 0 ∨ k ≠ 0) ∧ ((m = 0 ↔ k = 0) → ((s.hp[p]).mbx[m]).order ≤ ((s.hp[q]).mbx[k]).order) := by
  rcases nextMailbox_cases h with hu | ⟨hn, -, ho⟩
  · obtain ⟨hmem, hle⟩ := earliest_eq_some hu
    obtain ⟨hp, hm⟩ := List.mem_filter.1 hmem
    have m0 : m = 0 := by simpa using hm
    exact ⟨mem_postedAll.1 hp, fun q k hk => ⟨.inl m0, fun hg =>
      hle (q, k) (List.mem_filter.2 ⟨mem_postedAll.2 hk, by simpa using hg.1 m0⟩)⟩⟩
  · obtain ⟨hmem, hle⟩ := earliest_eq_some ho
    have posted := mem_postedAll.1 (List.mem_filter.1 hmem).1
    exact ⟨posted, fun q k hk => ⟨.inr (ne_zero_of_nextUrgent_none hn hk), fun _ =>
      hle (q, k) (List.mem_filter.2 ⟨mem_postedAll.2 hk, by simpa using ne_zero_of_nextUrgent_none hn hk⟩)⟩⟩

/-- While the service firmware serves, MAILBOX_ACKNOWLEDGE takes the next mailbox. -/
theorem mailboxAcknowledge_next {s : Rc8} {p : Fin 4} {m : Fin 8} (hr : s.svpReady = true) (hv : svpRuns s = true)
    (h : nextMailbox s = some (p, m)) : mailboxAcknowledge s = acknowledge p m s := by
  rcases nextMailbox_cases h with hu | ⟨hn, hc, ho⟩
  · simp [mailboxAcknowledge, hr, hv, hu]
  · simp [mailboxAcknowledge, hr, hv, hn, hc, ho]

/-! ### What the checks lead to (02 R58, R62) -/

/-- A command whose code no chapter defines is refused. -/
theorem judge_undefined {n : Nat} {e : Exec} {s : Rc8} (h : specOf e.code = none) :
    judge n e s = refuseCommand e .badCommand s := by
  simp only [judge, h]

/-- A command of the right form from a port with too low a class is refused, whatever else its chapter checks. -/
theorem judge_classTooLow {n : Nat} {e : Exec} {c : CmdSpec} {s : Rc8} (h : specOf e.code = some c) (hf : checkForm c n e = none)
    (hc : e.cls.code < c.cls.code) : judge n e s = refuseCommand e .noAuthority s := by
  have access : checkAccess c n e s = some .noAuthority := by simp [checkAccess, hf, checkClass, hc]
  have command : checkCommand c n e s = some .noAuthority := by simp [checkCommand, access]
  simp [judge, h, access, command]

/-- A command that passes its checks, needs no session and conflicts with none begins to execute; with MILESTONE_WRITE the
round-plan check has run. -/
theorem judge_passes {n : Nat} {e : Exec} {c : CmdSpec} {s : Rc8} (h : specOf e.code = some c) (hs : c.session = false)
    (hc : checkCommand c n e s = none) (hb : c.busy s = false) :
    judge n e s = beginExec false e (if e.code = 0x0A41 then (runPlanCheck s).1 else s) := by
  have access : checkAccess c n e s = none := ((Option.orElse_eq_none _ _).1 hc).1
  simp [judge, h, hs, hc, hb, access]

/-! ### A mailbox that is answered (02 R53, R54) -/

/-- The bytes of a mailbox with response length, status and response written into them. -/
def repliedMem (mem : Mem) (st : Status) (resp : List Byte) : Mem :=
  memWriteN (memWriteN (memWriteN mem 12 (le 4 resp.length)) 16 (le 2 st.code)) 64 resp

section mem
variable {mem : Mem} (w : Mem.wf mem = true) (st : Status) (resp : List Byte)
include w

/-- The status field holds the status. -/
theorem repliedMem_status : memReadN (repliedMem mem st resp) 16 2 = le 2 st.code := by
  have w1 := memWriteN_wf _ 12 (le 4 resp.length) w
  rw [repliedMem, memReadN_memWriteN_apart _ _ _ _ _ (memWriteN_wf _ _ _ w1) (.inl (by decide))]
  exact (le_length 2 st.code) ▸ memReadN_memWriteN _ 16 (le 2 st.code) w1

/-- The length field holds the length of the response. -/
theorem repliedMem_length : memReadN (repliedMem mem st resp) 12 4 = le 4 resp.length := by
  have w1 := memWriteN_wf _ 12 (le 4 resp.length) w
  rw [repliedMem, memReadN_memWriteN_apart _ _ _ _ _ (memWriteN_wf _ _ _ w1) (.inl (by decide)),
    memReadN_memWriteN_apart _ _ _ _ _ w1 (.inl (by decide))]
  exact (le_length 4 resp.length) ▸ memReadN_memWriteN _ 12 (le 4 resp.length) w

/-- The response field holds the response. -/
theorem repliedMem_response : memReadN (repliedMem mem st resp) 64 resp.length = resp :=
  memReadN_memWriteN _ 64 resp (memWriteN_wf _ _ _ (memWriteN_wf _ _ _ w))

end mem

/-- A vector's message leaves every port as it was, but for its vectors. -/
theorem sendVec_hp_get (p v : Fin 4) (s : Rc8) (k : Nat) (hk : k < 4) :
    (sendVec p v s).hp[k] = { s.hp[k] with msix := ((sendVec p v s).hp[k]).msix } := by
  unfold sendVec
  split
  · rfl
  · simp only [Vector.getElem_set]
    split
    · next hp =>
      subst hp
      exact (sendVector_frame p v s.hp[p]).1
    · rfl

@[simp] theorem sendVec_hp_mbx (p v : Fin 4) (s : Rc8) (k : Nat) (hk : k < 4) : ((sendVec p v s).hp[k]).mbx = (s.hp[k]).mbx := by
  rw [sendVec_hp_get]

@[simp] theorem sendVec_hp_mbxDone (p v : Fin 4) (s : Rc8) (k : Nat) (hk : k < 4) :
    ((sendVec p v s).hp[k]).mbxDone = (s.hp[k]).mbxDone := by
  rw [sendVec_hp_get]

/-- A mailbox that is answered holds the reply and is DONE, and its flag is set. -/
theorem mailboxDone_reply (p : Fin 4) (m : Fin 8) (noIrq : Bool) (st : Status) (resp : List Byte) (s : Rc8) :
    ((mailboxDone p m noIrq (mailboxReply p m st resp s)).hp[p]).mbx[m] =
      { (s.hp[p]).mbx[m] with state := .done, mem := repliedMem ((s.hp[p]).mbx[m]).mem st resp } ∧
    ((mailboxDone p m noIrq (mailboxReply p m st resp s)).hp[p]).mbxDone = (s.hp[p]).mbxDone ||| (1#8 <<< m.val) := by
  unfold mailboxDone
  dsimp only
  split <;> simp [mailboxReply, repliedMem]

/-- A mailbox holds a status, the length of a response and the response, and is DONE, as a host finds it at its port. -/
structure HostPort.Answered (h : HostPort) (m : Fin 8) (st : Status) (resp : List Byte) : Prop where
  state : (h.mbx[m]).state = .done
  status : memReadN (h.mbx[m]).mem 16 2 = le 2 st.code
  length : memReadN (h.mbx[m]).mem 12 4 = le 4 resp.length
  response : memReadN (h.mbx[m]).mem 64 resp.length = resp

/-- A mailbox that is answered holds its answer. -/
theorem mailboxDone_answered {p : Fin 4} {m : Fin 8} {s : Rc8} (w : Mem.wf ((s.hp[p]).mbx[m]).mem = true) (noIrq : Bool)
    (st : Status) (resp : List Byte) :
    ((mailboxDone p m noIrq (mailboxReply p m st resp s)).hp[p]).Answered m st resp := by
  obtain ⟨box, -⟩ := mailboxDone_reply p m noIrq st resp s
  constructor <;> rw [box]
  · exact repliedMem_status w st resp
  · exact repliedMem_length w st resp
  · exact repliedMem_response w st resp

/-! ### Acknowledgement (02 R58, R62, R66) -/

/-- The module with a mailbox BUSY and a command's number taken. -/
def Rc8.taken (s : Rc8) (p : Fin 4) (m : Fin 8) : Rc8 :=
  { modMbx p m (fun b => { b with state := .busy }) s with nextExec := s.nextExec + 1 }

/-- While the service firmware serves, MAILBOX_ACKNOWLEDGE judges the command of the next mailbox. -/
theorem exec_mailboxAcknowledge {s : State} {p : Fin 4} {m : Fin 8} (hr : s.svpReady = true) (hv : svpRuns s.toRc8 = true)
    (h : nextMailbox s.toRc8 = some (p, m)) :
    exec .mailboxAcknowledge s =
      .next (s.after fun r => judge ((r.hp[p]).mbx[m]).reqLen (commandOf p m r) (r.taken p m)) :=
  act_eq_of_eq (mailboxAcknowledge_next hr hv h)

/-- A refused command's mailbox holds the status, and no command executes for it. -/
theorem refuse_taken {s : Rc8} {p : Fin 4} {m : Fin 8} (w : Mem.wf ((s.hp[p]).mbx[m]).mem = true) (st : Status) :
    ((refuseCommand (commandOf p m s) st (s.taken p m)).hp[p]).Answered m st [] ∧
    (refuseCommand (commandOf p m s) st (s.taken p m)).execs = s.execs :=
  ⟨mailboxDone_answered (p := p) (m := m) (s := s.taken p m) (by simpa [Rc8.taken] using w) _ st [], deliver_execs _ _ _ _⟩

/-- The break margins are computed without a change to the commands. -/
theorem updateMargins_execs (n : Fin 2) (s : Rc8) : (updateMargins n s).execs = s.execs := by
  unfold updateMargins
  split
  · rfl
  · dsimp only
    split
    · rfl
    · split <;> rfl

/-- The round-plan check leaves the commands. -/
theorem runPlanCheck_execs (s : Rc8) : (runPlanCheck s).1.execs = s.execs :=
  (updateMargins_execs 1 _).trans (updateMargins_execs 0 s)

/-! ### The end of a command (02 R54, R59, R66, R87; 12 R409) -/

/-- The module without a command that has ended, its entry of the host rights table, if any, in force. -/
def Rc8.released (s : Rc8) (e : Exec) : Rc8 := rightsComplete e { s with execs := s.execs.filter fun x => x.id != e.id }

/-- COMMAND_EXECUTION_END of a command that has ended: it is delivered once what it waits for has come. -/
theorem exec_commandExecutionEnd {s : State} {e : Exec} {st : Status} {resp : List Byte}
    (he : s.execs.find? (fun x => x.id == e.id) = some e) (hp : e.phase = .ended st resp) {g : Rc8 → Rc8}
    (hg : (if e.rulesMet s.toRc8 then deliver e st resp (s.released e) else s.toRc8) = g s.toRc8) :
    exec (.commandExecutionEnd e.id) s = .next (s.after g) := by
  show execCommandExecutionEnd e.id s = _
  refine act_eq_of_eq (Eq.trans ?_ hg)
  simp only [he, hp, Rc8.released]

@[simp] theorem endSession_hp_mbx (p : Fin 4) (cause : Nat) (s : Rc8) (k : Nat) (hk : k < 4) :
    ((endSession p cause s).hp[k]).mbx = (s.hp[k]).mbx := by
  unfold endSession; split <;> simp

@[simp] theorem endSession_hp_mbxDone (p : Fin 4) (cause : Nat) (s : Rc8) (k : Nat) (hk : k < 4) :
    ((endSession p cause s).hp[k]).mbxDone = (s.hp[k]).mbxDone := by
  unfold endSession; split <;> simp

/-- A change of the rights table that comes into force leaves the mailboxes. -/
@[simp] theorem rightsComplete_hp_mbx (e : Exec) (s : Rc8) (k : Nat) (hk : k < 4) :
    ((rightsComplete e s).hp[k]).mbx = (s.hp[k]).mbx := by
  unfold rightsComplete
  split
  · rfl
  · dsimp only
    split <;> simp

/-- A change of the rights table that comes into force leaves the flags of the mailboxes. -/
@[simp] theorem rightsComplete_hp_mbxDone (e : Exec) (s : Rc8) (k : Nat) (hk : k < 4) :
    ((rightsComplete e s).hp[k]).mbxDone = (s.hp[k]).mbxDone := by
  unfold rightsComplete
  split
  · rfl
  · dsimp only
    split <;> simp

/-- A change of the rights table that comes into force leaves the commands. -/
@[simp] theorem rightsComplete_execs (e : Exec) (s : Rc8) : (rightsComplete e s).execs = s.execs := by
  unfold rightsComplete
  split
  · rfl
  · dsimp only
    split <;> simp

section delivery
variable {e : Exec} (ht : e.task = none) (st : Status) (resp : List Byte) (s : Rc8)
include ht

/-- A command that runs for a mailbox is delivered into it. -/
theorem deliver_mailbox (hr : e.portReset = false) (hp : e.pendingSent = false) :
    deliver e st resp s = mailboxDone e.port e.mbx e.noIrq (mailboxReply e.port e.mbx st resp s) := by
  simp [deliver, ht, hr, hp]

/-- After a reset of its port a command writes nothing. -/
theorem deliver_portReset (hr : e.portReset = true) (hp : e.pendingSent = false) : deliver e st resp s = s := by
  simp [deliver, ht, hr, hp]

/-- A command that answered PENDING is logged, and its end is told to its port. -/
theorem deliver_afterPending (hr : e.portReset = false) (hp : e.pendingSent = true) :
    deliver e st resp s = raiseOwn e.port (commandComplete e st) (logCompletion e st s) := by
  simp [deliver, ht, hr, hp]

end delivery

/-! ### PENDING (02 R59) -/

/-- A module brought forward to a REFOSC time stands at or past it. -/
theorem le_atRefosc (target : Nat) (s : Rc8) : target ≤ (atRefosc target s).clk.refosc := by
  have reached : (atRefosc target s).clk.refosc = s.clk.refosc + 4 * ((target - s.clk.refosc + 4 - 1) / 4) := rfl
  omega

/-- PENDING_COMPLETION acts on a mailbox command that still runs, unless its chapter says that it never answers PENDING. -/
theorem exec_pendingCompletion {s : State} {e : Exec} (he : s.execs.find? (fun x => x.id == e.id) = some e)
    (hw : e.phase = .waiting) (hp : e.pendingSent = false) (ht : e.task = none) :
    exec (.pendingCompletion e.id) s = .next (s.after fun r =>
      if neverPends e.code then r else pendNow e (atRefosc (e.start + 100000000) r)) := by
  show execPendingCompletion e.id s = _
  refine act_eq_of_eq ?_
  cases hn : neverPends e.code <;> simp [he, hw, hp, ht, hn]

/-- A command whose port was not reset answers PENDING, with no response, into its mailbox at an instant of REFOSC, and waits on. -/
theorem pendNow_atRefosc {e : Exec} {s : Rc8} (hr : e.portReset = false) (ht : e.task = none)
    (w : Mem.wf ((s.hp[e.port]).mbx[e.mbx]).mem = true) (target : Nat) :
    ((pendNow e (atRefosc target s)).hp[e.port]).Answered e.mbx .pending [] ∧
    target ≤ (pendNow e (atRefosc target s)).clk.refosc ∧
    (pendNow e (atRefosc target s)).execs = s.markedLong e.id .waiting := by
  have replied : pendNow e (atRefosc target s) = mailboxDone e.port e.mbx e.noIrq (mailboxReply e.port e.mbx .pending []
      (modExec e.id (fun x => { x with pendingSent := true, phase := .waiting }) (atRefosc target s))) := by
    simp [pendNow, hr, ht]
  refine ⟨?_, by rw [pendNow_clk]; exact le_atRefosc target s, ?_⟩
  · rw [replied]
    exact mailboxDone_answered (by simpa using w) _ _ _
  · rw [replied]
    simp [modExec, Rc8.markedLong]

/-! ### The statement -/

/-- A command that its checks refuse completes its mailbox with their status, and no command executes for it. -/
theorem exec_mailboxAcknowledge_refused {s : State} {p : Fin 4} {m : Fin 8} (hr : s.svpReady = true) (hv : svpRuns s.toRc8 = true)
    (h : nextMailbox s.toRc8 = some (p, m)) (w : Mem.wf ((s.hp[p]).mbx[m]).mem = true) {st : Status}
    (hj : judge ((s.hp[p]).mbx[m]).reqLen (commandOf p m s.toRc8) (s.taken p m) =
      refuseCommand (commandOf p m s.toRc8) st (s.taken p m)) :
    ∃ t : State, exec .mailboxAcknowledge s = .next t ∧ ((t.hp[p]).mbx[m]).state = .done ∧
      memReadN ((t.hp[p]).mbx[m]).mem 16 2 = le 2 st.code ∧ t.execs = s.execs := by
  obtain ⟨answered, execs⟩ := refuse_taken w st
  refine ⟨_, exec_mailboxAcknowledge hr hv h, ?_⟩
  rw [State.after_toRc8, hj]
  exact ⟨answered.state, answered.status, execs⟩

/-- A command that its checks pass begins to execute, with the round-plan check where it is MILESTONE_WRITE. -/
theorem exec_mailboxAcknowledge_passed {s : State} {p : Fin 4} {m : Fin 8} {c : CmdSpec} (hr : s.svpReady = true)
    (hv : svpRuns s.toRc8 = true) (h : nextMailbox s.toRc8 = some (p, m)) (hc : specOf (commandOf p m s.toRc8).code = some c)
    (hs : c.session = false) (hk : checkCommand c ((s.hp[p]).mbx[m]).reqLen (commandOf p m s.toRc8) (s.taken p m) = none)
    (hb : c.busy (s.taken p m) = false) {g : Rc8 → Rc8}
    (hg : beginExec false (commandOf p m s.toRc8)
      (if (commandOf p m s.toRc8).code = 0x0A41 then (runPlanCheck (s.taken p m)).1 else s.taken p m) = g s.toRc8) :
    exec .mailboxAcknowledge s = .next (s.after g) := by
  rw [exec_mailboxAcknowledge hr hv h, after_congr ((judge_passes hc hs hk hb).trans hg)]

/-- Settles O17: the next mailbox is judged, and the two rows that end or suspend a command act through `deliver` and `pendNow`. -/
theorem commandLife : Obligations.CommandLife := by
  refine ⟨fun s p m hr hv h => ?taken, fun s p m c hr hv h hc hs hk hb => ?begins, fun s e st resp he hp ht => ?ends,
    fun s e he hw hp hr w ht => ?pending⟩
  case taken =>
    obtain ⟨posted, first⟩ := nextMailbox_first h
    exact ⟨posted, first, fun hc w => exec_mailboxAcknowledge_refused hr hv h w (judge_undefined hc),
      fun c hc hf hl w => exec_mailboxAcknowledge_refused hr hv h w (judge_classTooLow hc hf hl)⟩
  case begins =>
    constructor <;> intro code <;> refine exec_mailboxAcknowledge_passed hr hv h hc hs hk hb ?_
    · rw [if_neg code]
      rfl
    · rw [if_pos code, beginExec, runPlanCheck_execs]
      rfl
  case ends =>
    refine ⟨fun hm => ?waits, fun hm hr hs _ w => ?mailbox, fun hm hr hs => ?portReset, fun hm hr hs => ?afterPending⟩
    case waits =>
      rw [exec_commandExecutionEnd (g := id) he hp (if_neg (by rw [hm]; exact Bool.false_ne_true)), after_unchanged rfl]
    case mailbox =>
      refine ⟨s.after fun r => deliver e st resp (r.released e), exec_commandExecutionEnd he hp (if_pos hm), ?_⟩
      rw [State.after_toRc8, deliver_mailbox ht _ _ _ hr hs]
      obtain ⟨state, status, length, response⟩ := mailboxDone_answered (p := e.port) (m := e.mbx) (s := s.released e)
        (by simpa [Rc8.released] using w) e.noIrq st resp
      exact ⟨state, status, length, response, by rw [(mailboxDone_reply _ _ _ _ _ _).2]; simp [Rc8.released],
        by simp [Rc8.released]⟩
    case portReset => exact exec_commandExecutionEnd he hp ((if_pos hm).trans (deliver_portReset ht _ _ _ hr hs))
    case afterPending => exact exec_commandExecutionEnd he hp ((if_pos hm).trans (deliver_afterPending ht _ _ _ hr hs))
  case pending =>
    have row := exec_pendingCompletion he hw hp ht
    refine ⟨fun hn => ?never, fun hn => ⟨_, row, ?_⟩⟩
    case never => rw [row, after_unchanged (by simp [hn])]
    rw [State.after_toRc8, if_neg (by rw [hn]; exact Bool.false_ne_true)]
    obtain ⟨answered, late, execs⟩ := pendNow_atRefosc hr ht w (e.start + 100000000)
    exact ⟨answered.state, answered.status, answered.length, late, execs⟩

end Sys2Proof.Machine
end

section
/-! SUPPORT. When ENGINE_START begins a computation, and the statement about the milestones (01 R38, R39; 06 R188; 07 R240). -/

namespace Sys2Proof.Machine

open Sys2Proof

/-! ### A computation that has begun goes on (06 R188) -/

/-- A fold leaves the engine's computation begun or not where every step does. -/
theorem foldl_started {α : Type} {g : Rc8 → α → Rc8} (h : ∀ s x, (g s x).eng.started = s.eng.started) (l : List α) (s : Rc8) :
    (l.foldl g s).eng.started = s.eng.started := by
  induction l generalizing s with
  | nil => rfl
  | cons x l ih => rw [List.foldl_cons, ih, h]

/-- A choice between states has begun a computation where the chosen one has. -/
theorem ite_started (c : Prop) [Decidable c] (a b : Rc8) :
    (if c then a else b).eng.started = if c then a.eng.started else b.eng.started := by split <;> rfl

/-- What learning makes of an axis's round leaves the computation begun or not. -/
theorem learnUpdate_started (a : Nat) (li : LearnIn) (epPrev ep : Rat) (s : Rc8) :
    (learnUpdate a li epPrev ep s).eng.started = s.eng.started := by
  unfold learnUpdate
  split
  · rfl
  · extract_lets r s1 ratio
    have saturated : s1.eng.started = s.eng.started :=
      foldl_started (fun s j => congrArg Engine.started (raiseLimited_eng _ _ s)) r.2 (putLearn a r.1 s)
    rw [ite_started, raise_eng, ite_self, saturated]

/-- The events of an axis's round leave the computation begun or not. -/
theorem axisEvents_started (a : Nat) (b : List Byte) (o : AxisOut) (fb : Feedback) (s : Rc8) :
    (axisEvents a b o fb s).eng.started = s.eng.started := by
  unfold axisEvents
  extract_lets s1 s2 s3
  have faults : s1.eng.started = s.eng.started := by
    unfold s1
    split <;> simp
  have extrapolated : s2.eng.started = s1.eng.started := by
    unfold s2
    split <;> simp
  have limited : s3.eng.started = s2.eng.started := by
    unfold s3
    split <;> rfl
  rw [ite_started, raiseLimited_eng, ite_self, limited, extrapolated, faults]

/-- A configured axis leaves the computation begun or not. -/
theorem engineAxis_started (set : List Byte) (fb : List (Nat × Feedback)) (prev : List (Nat × Axis)) (a : Nat) (s : Rc8) :
    (engineAxis set fb prev a s).eng.started = s.eng.started := by
  unfold engineAxis
  split
  · rfl
  · extract_lets _ _ _ _ _ _ _ _ _ _ _ s1
    have kept : s1.eng.started = s.eng.started := rfl
    rw [axisEvents_started, learnUpdate_started, kept]

/-- An axis with law NONE leaves the computation begun or not. -/
theorem engineNone_started (set : List Byte) (fb : List (Nat × Feedback)) (a : Nat) (s : Rc8) :
    (engineNone set fb a s).eng.started = s.eng.started := by
  unfold engineNone
  split
  · rfl
  · extract_lets _ _ _ _ _ _ _ _ _ _ s1 s2
    have learned : s1.eng.started = s.eng.started := by
      unfold s1
      split <;> rfl
    have recorded : s2.eng.started = s1.eng.started := by
      unfold s2
      split <;> rfl
    exact recorded.trans learned

/-- The slot sequence over all axes is a computation that has begun. -/
theorem engineCompute_started (set : List Byte) (s : Rc8) : (engineCompute set s).eng.started = true := by
  unfold engineCompute
  extract_lets sel prev fb s1
  have begun : s1.eng.started = true := rfl
  clear_value s1
  generalize List.range 256 = l
  refine (foldl_started (fun s a => ?_) l s1).trans begun
  rw [ite_started, engineNone_started, engineAxis_started, ite_self]

/-- With PD4 on and the engine in RUN a computation begins. -/
theorem engineStart_started {s : Rc8} (h : engineCode s = 0) (set : List Byte) (gen : Nat) :
    (engineStart set gen s).eng.started = true := by
  simp only [engineStart, if_pos h, ite_started, engineCompute_started, modEng_eng, ite_self]

/-- Whether the engine computes depends on its domain and its state alone. -/
theorem engineCode_congr {s t : Rc8} (hp : s.pwr = t.pwr) (he : s.eng = t.eng) : engineCode s = engineCode t := by
  unfold engineCode
  rw [hp, he]

/-- The digest of the round leaves the engine. -/
theorem engineDigest_eng (s : Rc8) : (engineDigest s).eng = s.eng := by
  unfold engineDigest chainStep
  exact plkSend_eng _ _ _ _

/-- The set that is read for the field front leaves whether the engine computes. -/
theorem engineCode_readOutputs (set : List Byte) (s : Rc8) : engineCode (readOutputs set s) = engineCode s := by
  unfold readOutputs
  split <;> exact engineCode_congr rfl rfl

/-- The inputs that are forwarded leave whether the engine computes. -/
theorem engineCode_forwardInputs (s : Rc8) : engineCode (forwardInputs s) = engineCode s := by
  unfold forwardInputs
  split
  · exact engineCode_congr (plkSend_pwr _ _ _ _) (plkSend_eng _ _ _ _)
  · rfl

/-- ENGINE_START begins a computation where PD4 is on and the engine in RUN once the operations due there have acted. -/
theorem engineRow_started {s : Rc8} (hs : isStandby s = false) (h : engineCode (engineDue s) = 0) :
    (engineRow s).eng.started = true := by
  unfold engineRow
  rw [if_neg (by rw [hs]; exact Bool.false_ne_true)]
  extract_lets due set s0
  rw [engineDigest_eng]
  apply engineStart_started
  have read : engineCode s0 = 0 := (engineCode_readOutputs _ _).trans h
  split
  · exact read
  · rw [engineCode_forwardInputs, read]

/-- A milestone that is due acts at its instant. -/
theorem atMilestone_due {kind param : Nat} {e : Milestone} {s : Rc8} (h : dueEntry kind param s = some e) (f : Rc8 → Rc8) :
    atMilestone kind param f s = f (fireEntry e s) := by
  rw [atMilestone, h]

/-! ### An engine that is switched on at ENGINE_START (01 R39; 07 R235, R240) -/

/-- A schedule without windows, with its instants. -/
def bareSchedule : Schedule :=
  { format := 1, id := 1, net := 0, topo := 0, period := 125, motionLost := 3, stationLost := 8, gatherLaunch := 5000,
    gatherDone := 40000, engineStart := 45000, commit := 80000, commandLaunch := 90000, delay := 10, windows := [], axes := [],
    image := [] }

/-- The request of a LEARN_CONFIGURE that R235 accepts for axis 0 and that changes neither N nor e_T of its reset configuration. -/
def configureRequest : List Byte :=
  le 4 0 ++ [8, 0, 0, 0] ++ zeros 12 ++ le 4 256 ++ le 4 1 ++ le 4 1 ++ le 4 0 ++ [0, 8] ++ le 2 5120 ++ zeros 28

/-- A module in round 1 with PD4 off, as it is after reset, a schedule in force, and a LEARN_CONFIGURE whose effective round has
come. The own row of a LEARN_CONFIGURE that resamples nothing leaves such an entry and PD4 off: only its effect switches PD4 on. -/
def switchedOnAtEngineStart : State := State.reset.after fun s =>
  { s with
    rnd := { s.rnd with round := 1 }
    sch := s.sch.set 0 { s.sch[0] with inForce := some bareSchedule }
    pair := { s.pair with pend := [PendOp.own 1 (.command 0x0602 configureRequest) none [] false] } }

/-- Its ENGINE_START is due. -/
theorem switchedOn_due : dueEntry 4 0 switchedOnAtEngineStart.toRc8 = some (schedEntry 4 0 45000) := by decide +kernel

/-- PD4 is off before ENGINE_START. -/
theorem switchedOn_before : engineCode switchedOnAtEngineStart.toRc8 = 3 := by decide

/-- The LEARN_CONFIGURE that acts at ENGINE_START switches PD4 on. -/
theorem switchedOn_within :
    engineCode (engineDue (fireEntry (schedEntry 4 0 45000) switchedOnAtEngineStart.toRc8)) = 0 := by decide +kernel

/-- So a computation begins at that ENGINE_START. -/
theorem switchedOn_starts : (atMilestone 4 0 engineRow switchedOnAtEngineStart.toRc8).eng.started = true := by
  rw [atMilestone_due switchedOn_due]
  exact engineRow_started (by decide) switchedOn_within

/-! ### The statement -/

/-- Refutes O23: where PD4 is off before ENGINE_START the statement has no computation begin, but the operations that are due at
ENGINE_START act first, and a LEARN_CONFIGURE among them switches PD4 on, so that a computation begins (R39 has the domain switched
on before the command executes). -/
theorem not_milestonesOfTheRound : ¬ Obligations.MilestonesOfTheRound := by
  rintro ⟨-, h⟩
  obtain ⟨-, engineStart, -⟩ := h switchedOnAtEngineStart 0 (schedEntry 4 0 45000) 0
  obtain ⟨-, off⟩ := engineStart switchedOn_due (by decide) (by decide)
  obtain ⟨t, ht, -, stays, -⟩ := off (by rw [switchedOn_before]; decide)
  rw [act_next ht, State.after_toRc8, switchedOn_starts] at stays
  exact Bool.noConfusion stays

end Sys2Proof.Machine
end

section
/-! SUPPORT. Which commands leave the host rights table alone, and that some port stays ENGINEER or SAFETY (02 R43, R65, R85). -/

namespace Sys2Proof.Machine

open Sys2Proof

/-! ### Meanings that leave the table alone -/

/-- A meaning that leaves the host rights table as it was wherever it answers. -/
def KeepsRights (meaning : State → Answer) : Prop := ∀ s t : State, meaning s = .next t → t.nv.rights = s.nv.rights

/-- A meaning that acts keeps the table where its action does. -/
theorem keepsRights_act {f : Rc8 → Rc8} (hf : ∀ r, (f r).nv.rights = r.nv.rights) : KeepsRights (act f) := by
  intro s t h
  rw [act_next h]
  exact hf _

/-- A guarded meaning keeps the table where its action does. -/
theorem keepsRights_actIf {ok : Bool} {name : String} {f : Rc8 → Rc8} (hf : ∀ r, (f r).nv.rights = r.nv.rights) :
    KeepsRights (actIf ok name f) := by
  intro s t h
  rw [actIf_next h]
  exact hf _

/-! ### The rows whose action is written out in the row -/

theorem keepsRights_linkUp (p : Fin 4) (speed : LinkSpeed) (width : LinkWidth) : KeepsRights (execLinkUp p speed width) :=
  keepsRights_act fun r => by rw [ite_rights, raise_rights, modPort_rights, ite_self]

/-- The end of a command delivers it, or leaves it. -/
theorem keepsRights_commandExecutionEnd (id : Nat) : KeepsRights (execCommandExecutionEnd id) := by
  refine keepsRights_act fun r => ?_
  split
  · rfl
  · split
    · rw [ite_rights, deliver_rights, rightsComplete_rights, ite_self]
    · rfl

theorem keepsRights_pendingCompletion (id : Nat) : KeepsRights (execPendingCompletion id) := by
  refine keepsRights_act fun r => ?_
  split
  · rfl
  · rw [ite_rights, pendNow_rights, atRefosc_rights, ite_self]

theorem keepsRights_evqCoalesceTimeout (p : Fin 4) : KeepsRights (execEvqCoalesceTimeout p) :=
  keepsRights_act fun r => by rw [ite_rights, sendVec_rights, modPort_rights, atRefosc_rights, ite_self]

theorem keepsRights_evqWriteFailed (p : Fin 4) : KeepsRights (execEvqWriteFailed p) :=
  keepsRights_act fun r => by
    dsimp only
    rw [ite_rights, modPort_rights, ite_self]

theorem keepsRights_smlCopyReceived (n port : Fin 2) (f : BudanCopy) : KeepsRights (execSmlCopyReceived n port f) :=
  keepsRights_act fun r => by rw [ite_rights, smlCopy_rights, ite_self]

theorem keepsRights_portLinkUp (n : Fin 2) (port : Fin 4) : KeepsRights (execPortLinkUp n port) :=
  keepsRights_act fun r => by rw [ite_rights, finishAttach_rights, mapChanged_rights, portUp_rights, ite_self]

theorem keepsRights_portLinkDown (n : Fin 2) (port : Fin 4) : KeepsRights (execPortLinkDown n port) :=
  keepsRights_act fun r => by rw [ite_rights, mapChanged_rights, portDown_rights, ite_self]

theorem keepsRights_listenSilence (n : Fin 2) : KeepsRights (execListenSilence n) := by
  refine keepsRights_act fun r => ?_
  split
  · rfl
  · dsimp only
    rw [ite_rights, ite_rights, startListen_rights, silenceMet_rights, atRefosc_rights, ite_self, ite_self]

theorem keepsRights_timeConverged (n : Fin 2) : KeepsRights (execTimeConverged n) :=
  keepsRights_act fun r => by rw [ite_rights, netEvent_rights, ite_self]

theorem keepsRights_networkLost (n : Fin 2) : KeepsRights (execNetworkLost n) :=
  keepsRights_act fun r => by
    dsimp only
    rw [ite_rights, netEvent_rights, ite_rights, raise_rights, ite_self, ite_self]

theorem keepsRights_channelSilent (n ch : Fin 2) : KeepsRights (execChannelSilent n ch) :=
  keepsRights_act fun r => by
    dsimp only
    rw [ite_rights, raise_rights, modChan_rights, ite_self]

theorem keepsRights_linkDelayMeasured (n : Fin 2) (port : Fin 4) (ns : Nat) (nbr : Fin 64) :
    KeepsRights (execLinkDelayMeasured n port ns nbr) :=
  keepsRights_act fun r => by
    dsimp only
    rw [ite_rights, mapChanged_rights, ite_rights, raise_rights, ite_self, ownLink_rights, modNetPort_rights, ite_self]

theorem keepsRights_guardianCut (n : Fin 2) (port : Fin 4) (window : CutWindow) : KeepsRights (execGuardianCut n port window) :=
  keepsRights_act fun r => by rw [raiseLimited_rights, modNet_rights, modNetPort_rights]

theorem keepsRights_guardianResyncFault (n : Fin 2) (deviation : Option Int) : KeepsRights (execGuardianResyncFault n deviation) :=
  keepsRights_act fun r => by rw [raise_rights, modNet_rights]

theorem keepsRights_leasePulseLoss (n : Fin 2) : KeepsRights (execLeasePulseLoss n) := by
  refine keepsRights_act fun r => ?_
  split
  · rfl
  · rw [pinsOff_rights, modNet_rights]

theorem keepsRights_scheduleSwitchTimeout : KeepsRights execScheduleSwitchTimeout := by
  refine keepsRights_act fun r => ?_
  split
  · rfl
  · rw [failSwitch_rights, atRefosc_rights]

theorem keepsRights_windowsMessage (h : PlkHdr) (n : Fin 2) (l : List (Nat × List Byte)) : KeepsRights (execWindowsMessage h n l) :=
  keepsRights_act fun _ => plkReceive_rights _ _ _ _ fun _ => forwarded_rights _ _ _ fun r => modPair_rights _ r

/-! ### Every row -/

/-- Every command but SET_HOST_RIGHTS keeps the table. -/
theorem exec_keepsRights (c : Instr) (hc : ∀ p m stored, c ≠ .setHostRights p m stored) : KeepsRights (exec c) := by
  cases c with
  | setHostRights p m stored => exact absurd rfl (hc p m stored)
  | linkUp => exact keepsRights_linkUp _ _ _
  | commandExecutionEnd => exact keepsRights_commandExecutionEnd _
  | pendingCompletion => exact keepsRights_pendingCompletion _
  | evqCoalesceTimeout => exact keepsRights_evqCoalesceTimeout _
  | evqWriteFailed => exact keepsRights_evqWriteFailed _
  | smlCopyReceived => exact keepsRights_smlCopyReceived _ _ _
  | portLinkUp => exact keepsRights_portLinkUp _ _
  | portLinkDown => exact keepsRights_portLinkDown _ _
  | listenSilence => exact keepsRights_listenSilence _
  | timeConverged => exact keepsRights_timeConverged _
  | networkLost => exact keepsRights_networkLost _
  | channelSilent => exact keepsRights_channelSilent _ _
  | linkDelayMeasured => exact keepsRights_linkDelayMeasured _ _ _ _
  | guardianCut => exact keepsRights_guardianCut _ _ _
  | guardianResyncFault => exact keepsRights_guardianResyncFault _ _
  | leasePulseLoss => exact keepsRights_leasePulseLoss _
  | scheduleSwitchTimeout => exact keepsRights_scheduleSwitchTimeout
  | windowsMessage => exact keepsRights_windowsMessage _ _ _
  | mailboxWrite | registerWrite | registerLoRead | digestMessage | stateCopyMessage | smlLoadPage | safetyPassword
  | debugPortRequest | memoryCorrected | memoryUncorrectable | accessViolation | ruleEpochLate | ptpMessageReceived
  | ptpOffsetMeasurement | canFrameReceived | fieldSupplyChanged | feedChanged | feedLoss | powerFailFlushed | feedReturn
  | holdupReady | holdupTopup | moduleStart => exact keepsRights_actIf fun _ => by simp
  | _ => exact keepsRights_act fun _ => by simp

/-- Settles O5: each row's action keeps the table, by the lemma of the operation it runs. -/
theorem rightsTableOnlyByItsCommand : Obligations.RightsTableOnlyByItsCommand :=
  fun c s t hc h => exec_keepsRights c hc s t h

/-! ### A port that can configure the module (02 R85) -/

/-- Whether the module can be configured depends on the host rights table alone. -/
theorem configurable_congr {s t : Rc8} (h : t.nv.rights = s.nv.rights) : t.configurable = s.configurable := by
  rw [Rc8.configurable, h, Rc8.configurable]

/-- The entry that a request asks for. -/
def askedRights (r : List Byte) : Rights := { cls := Cls.ofCode (u8At r 1), grants := BitVec.ofNat 5 (u8At r 2) }

/-- The table asked for holds the entry asked for at its target, and every other entry as it is. -/
theorem rightsAfter_target {r : List Byte} {p : Fin 4} (h : rightsTarget r = some p) (s : Rc8) :
    rightsAfter r s = s.nv.rights.set p (askedRights r) := by
  rw [rightsAfter, h, askedRights]

/-- A stored entry stands in the table. -/
theorem storeRights_rights (id : Nat) (p : Fin 4) (new : Rights) (s : Rc8) :
    (storeRights id p new s).nv.rights = s.nv.rights.set p new := rfl

/-- The table asked for passes its check exactly if some port stays ENGINEER or SAFETY. -/
theorem checkRightsState_eq_none {e : Exec} {s : Rc8} :
    checkRightsState e s = none ↔ (vlist (rightsAfter e.req s)).any (fun x => x.cls.configures) = true := by
  unfold checkRightsState
  split <;> simp_all

/-- SET_HOST_RIGHTS leaves the table, or stores the entry asked for in one that keeps some port ENGINEER or SAFETY. -/
theorem setHostRights_table (stored : Bool) (e : Exec) (s : Rc8) :
    (setHostRights stored e s).nv.rights = s.nv.rights ∨
    ((setHostRights stored e s).nv.rights = rightsAfter e.req s ∧ checkRightsState e s = none) := by
  unfold setHostRights
  cases target : rightsTarget e.req with
  | none => exact .inl (endWith_rights _ _ _)
  | some p =>
    dsimp only
    split
    · exact .inl (by simp)
    split
    · exact .inl (by simp)
    next passed =>
    split
    · exact .inl (by simp)
    refine .inr ⟨?_, by simpa using passed⟩
    rw [awaitRules_rights, commitRules_rights, endWith_rights, rightsAfter_target target, storeRights_rights]
    simp

/-- SET_HOST_RIGHTS keeps some port ENGINEER or SAFETY. -/
theorem setHostRights_configurable (stored : Bool) (e : Exec) (s : Rc8) (h : s.configurable = true) :
    (setHostRights stored e s).configurable = true := by
  rcases setHostRights_table stored e s with kept | ⟨asked, passed⟩
  · rw [configurable_congr kept, h]
  · rw [Rc8.configurable, asked]
    exact checkRightsState_eq_none.1 passed

/-- Every command keeps some port ENGINEER or SAFETY. -/
theorem exec_configurable (c : Instr) {s t : State} (hs : s.configurable = true) (h : exec c s = .next t) :
    t.configurable = true := by
  by_cases hc : ∃ p m stored, c = .setHostRights p m stored
  · obtain ⟨p, m, stored, rfl⟩ := hc
    rw [act_next h, State.after_toRc8]
    rcases runCmd_cases 0x0010 p m (setHostRights stored) s.toRc8 with ⟨-, unchanged⟩ | ⟨e, -, acts⟩
    · rw [unchanged, hs]
    · rw [acts, setHostRights_configurable stored e _ hs]
  · rw [configurable_congr (exec_keepsRights c (fun p m stored e => hc ⟨p, m, stored, e⟩) s t h), hs]

/-- Settles O4: a step runs a command or idles, and SET_HOST_RIGHTS judges the table that it leaves. -/
theorem stepKeepsConfigurable : Obligations.StepKeepsConfigurable := by
  intro s t hs h
  cases hp : s.pending with
  | nil =>
    rw [step_of_pending_nil hp] at h
    cases h
    exact hs
  | cons c rest =>
    rw [step_of_pending_cons hp] at h
    exact exec_configurable c (s := s.withPending rest) hs h

end Sys2Proof.Machine
end

section
/-! SUPPORT. A pair message that passes for one that can be sent and stops the block all the same (10 R309; log 49). -/

namespace Sys2Proof.Machine

open Sys2Proof

/-- DIGEST with one record more than the 64 of a message. -/
def oversizedDigest : Instr :=
  .digestMessage { crcOk := true, ack := false, last := true, seq := 0, round := 0 }
    (List.replicate 65 { chain := 0, seq := 0, kind := 0, own := true })

/-- It counts among the commands that a sender can send. -/
theorem oversizedDigest_wf : oversizedDigest.wf = true := rfl

/-- DIGEST stops the block by name where it carries more than 64 records. -/
theorem exec_digestMessage_long {l : List DigestRec} (hl : 64 < l.length) (h : PlkHdr) (s : State) :
    exec (.digestMessage h l) s = .fault (.illFormed "DIGEST") := by
  show execDigestMessage h l s = _
  exact actIf_fault (decide_eq_false (Nat.not_le.2 hl)) _ _ s

/-- So it stops the block, in every state. -/
theorem exec_oversizedDigest (s : State) : exec oversizedDigest s = .fault (.illFormed "DIGEST") :=
  exec_digestMessage_long (by decide) _ s

/-- Refutes O6: `Instr.wf` has no arm for DIGEST, whose meaning stops on more than 64 records. -/
theorem not_everySendableCommandCompletes : ¬ Obligations.EverySendableCommandCompletes := by
  intro h
  obtain ⟨t, completes, -⟩ := (h oversizedDigest State.reset).1 oversizedDigest_wf
  rw [exec_oversizedDigest] at completes
  cases completes

/-- Refutes O7: with such a DIGEST at the front of the queue the block does not take its first step. -/
theorem not_sendableQueueRunsOn : ¬ Obligations.SendableQueueRunsOn := by
  intro h
  obtain ⟨-, u, runs, -⟩ := h (State.reset.withPending [oversizedDigest]) rfl 1
  rw [step_of_pending_cons rfl, exec_oversizedDigest] at runs
  cases runs

end Sys2Proof.Machine
end

section
/-! SUPPORT. The event ring of a host port: what it makes of an event and of a write to its registers, and the statements about it
(02 R67 to R74). -/

namespace Sys2Proof.Machine

open Sys2Proof

/-! ### An event at one ring (02 R69, R70, R72) -/

/-- A vector's message leaves the ring. -/
theorem sendVector_evq (p v : Fin 4) (h : HostPort) : (sendVector p v h).1.evq = h.evq := by
  rw [(sendVector_frame p v h).1]

/-- A ring that takes one entry on: the head one on, the write phase inverted where it wraps, and the next sequence; the
coalescing count and its start are free. -/
def Evq.wrote (q : Evq) (uninterrupted oldest : Nat) : Evq :=
  { q.advance with seq := (q.seq + 1) % 2 ^ 32, uninterrupted := uninterrupted, oldest := oldest }

/-- An entry is written at the head with the write phase and its sequence, and the ring goes one on. -/
theorem ringTake_free {p : Fin 4} {c : Clock} {e : Ev} {h : HostPort} (hf : h.evq.full = false) :
    (∃ u o, (ringTake p false c e h).1.evq = h.evq.wrote u o) ∧
    .hostWrite p (h.evq.base + 32 * h.evq.head) (e.entry h.evq.phase h.evq.seq c.ptu) ∈ (ringTake p false c e h).2 := by
  simp only [ringTake, hf, Bool.or_self, Bool.false_eq_true, if_false, ringWrite]
  split
  · exact ⟨⟨_, _, by rw [sendVector_evq]; rfl⟩, by simp⟩
  · exact ⟨⟨_, _, rfl⟩, by simp⟩

/-- A full ring takes the sequence, and drops and counts the event. -/
theorem ringTake_full {p : Fin 4} {frozen : Bool} {c : Clock} {e : Ev} {h : HostPort} (hf : h.evq.full = true) :
    (ringTake p frozen c e h).1.evq =
      { h.evq with seq := (h.evq.seq + 1) % 2 ^ 32, lost := inc32 h.evq.lost, lossCount := inc32 h.evq.lossCount,
                   lossFirst := if h.evq.lossCount = 0 then h.evq.seq else h.evq.lossFirst, lossLast := h.evq.seq } := by
  simp [ringTake, hf]

/-- A ring is full exactly if the entry after the head is the tail. -/
theorem Evq.full_iff (q : Evq) : q.full = true ↔ (q.head + 1) % 2 ^ q.size = q.tail := by
  simp [Evq.full, Evq.entries]

/-- An enabled ring that the event concerns takes it. -/
theorem portTake_taken {h : HostPort} {own : Bool} {e : Ev} (he : h.evq.enable = true) (hs : own = true ∨ h.evq.selects e.src = true)
    (p : Fin 4) (frozen : Bool) (c : Clock) :
    portTake p own frozen c e h = ringTake p frozen c e { h with highest := Sev.higher h.highest e.sev } := by
  simp [portTake, he, hs]

/-- A ring that is not enabled takes no event. -/
theorem portTake_disabled {h : HostPort} (he : h.evq.enable = false) (p : Fin 4) (own frozen : Bool) (c : Clock) (e : Ev) :
    portTake p own frozen c e h = ({ h with highest := Sev.higher h.highest e.sev }, []) := by
  simp [portTake, he]

/-- What an event that is raised does at one port, and what it puts out there. -/
theorem raise_at (e : Ev) (s : Rc8) (p : Fin 4) :
    (raise e s).hp[p] = (portTake p false (portFrozen p s) s.clk e s.hp[p]).1 ∧
    ∀ o ∈ (portTake p false (portFrozen p s) s.clk e s.hp[p]).2, o ∈ (raise e s).out := by
  have ports : ∀ q : Fin 4, q = 0 ∨ q = 1 ∨ q = 2 ∨ q = 3 := by decide
  rcases ports p with rfl | rfl | rfl | rfl <;>
    exact ⟨rfl, fun o ho => List.mem_append_right _ (by simp only [List.mem_append]; tauto)⟩

/-- An event that is raised for one port alone does at that port what `portTake` does, and puts it out. -/
theorem raiseOwn_at (p : Fin 4) (e : Ev) (s : Rc8) :
    (raiseOwn p e s).hp[p] = (portTake p true (portFrozen p s) s.clk e s.hp[p]).1 ∧
    ∀ o ∈ (portTake p true (portFrozen p s) s.clk e s.hp[p]).2, o ∈ (raiseOwn p e s).out :=
  ⟨by simp [raiseOwn], fun _ ho => List.mem_append_right _ ho⟩

/-- A ring that is not enabled stays as it is, whatever event is raised. -/
theorem raise_evq_disabled {s : Rc8} {p : Fin 4} (he : (s.hp[p]).evq.enable = false) (e : Ev) :
    ((raise e s).hp[p]).evq = (s.hp[p]).evq := by
  rw [(raise_at e s p).1, portTake_disabled he]

/-- An enabled ring that selects an event drops and counts it while it is full. -/
theorem raise_full {s : Rc8} {p : Fin 4} {e : Ev} (he : (s.hp[p]).evq.enable = true) (hs : (s.hp[p]).evq.selects e.src = true)
    (hf : (s.hp[p]).evq.full = true) :
    ((raise e s).hp[p]).evq = { (s.hp[p]).evq with
      seq := ((s.hp[p]).evq.seq + 1) % 2 ^ 32, lost := inc32 (s.hp[p]).evq.lost, lossCount := inc32 (s.hp[p]).evq.lossCount,
      lossFirst := if (s.hp[p]).evq.lossCount = 0 then (s.hp[p]).evq.seq else (s.hp[p]).evq.lossFirst,
      lossLast := (s.hp[p]).evq.seq } := by
  rw [(raise_at e s p).1, portTake_taken he (.inr hs)]
  exact ringTake_full hf

/-- An enabled ring that selects an event writes it into free space. -/
theorem raise_free {s : Rc8} {p : Fin 4} {e : Ev} (he : (s.hp[p]).evq.enable = true) (hs : (s.hp[p]).evq.selects e.src = true)
    (hz : portFrozen p s = false) (hf : (s.hp[p]).evq.full = false) :
    (∃ u o, ((raise e s).hp[p]).evq = (s.hp[p]).evq.wrote u o) ∧
    .hostWrite p ((s.hp[p]).evq.base + 32 * (s.hp[p]).evq.head) (e.entry (s.hp[p]).evq.phase (s.hp[p]).evq.seq s.clk.ptu) ∈
      (raise e s).out := by
  obtain ⟨port, out⟩ := raise_at e s p
  rw [portTake_taken he (.inr hs), hz] at port out
  obtain ⟨ring, entry⟩ := ringTake_free (p := p) (c := s.clk) (e := e)
    (h := { s.hp[p] with highest := Sev.higher (s.hp[p]).highest e.sev }) hf
  exact ⟨port ▸ ring, out _ entry⟩

/-- An event of a port's own is written into free space of its ring, whatever the ring's mask. -/
theorem raiseOwn_free {s : Rc8} {p : Fin 4} {e : Ev} (he : (s.hp[p]).evq.enable = true) (hz : portFrozen p s = false)
    (hf : (s.hp[p]).evq.full = false) :
    (∃ u o, ((raiseOwn p e s).hp[p]).evq = (s.hp[p]).evq.wrote u o) ∧
    .hostWrite p ((s.hp[p]).evq.base + 32 * (s.hp[p]).evq.head) (e.entry (s.hp[p]).evq.phase (s.hp[p]).evq.seq s.clk.ptu) ∈
      (raiseOwn p e s).out := by
  obtain ⟨port, out⟩ := raiseOwn_at p e s
  rw [portTake_taken he (.inl rfl), hz] at port out
  obtain ⟨ring, entry⟩ := ringTake_free (p := p) (c := s.clk) (e := e)
    (h := { s.hp[p] with highest := Sev.higher (s.hp[p]).highest e.sev }) hf
  exact ⟨port ▸ ring, out _ entry⟩

/-! ### Writes to EVQ_TAIL (02 R71, R72) -/

/-- A port that is changed is what the change makes of it. -/
theorem modPort_at (p : Fin 4) (f : HostPort → HostPort) (s : Rc8) : (modPort p f s).hp[p] = f s.hp[p] := by
  simp [modPort, vmod]

/-- Two changes of one port are one. -/
theorem modPort_modPort (p : Fin 4) (f g : HostPort → HostPort) (s : Rc8) :
    modPort p f (modPort p g s) = modPort p (fun h => f (g h)) s := by
  simp [modPort, vmod]

/-- A ring with its tail moved. -/
def Evq.withTail (q : Evq) (t : Nat) : Evq := { q with tail := t }

/-- A ring that reports its losses once its tail is moved: enabled, with a loss pending, and not full any longer. -/
def Evq.reports (q : Evq) (t : Nat) : Bool := q.enable && decide (0 < q.lossCount) && !(q.withTail t).full

section tail
variable {s : Rc8} {p : Fin 4} {v : U32}

/-- A tail out of range is discarded and flagged. -/
theorem evqTailWrite_invalid (h : (s.hp[p]).evq.tailValid (v.toNat % 65536) = false) :
    evqTailWrite p v s = modPort p (fun h => { h with evq := { h.evq with tailError := true } }) s :=
  if_neg (by rw [h]; exact Bool.false_ne_true)

/-- A tail in range moves the tail, and EVENTS_LOST follows where the ring reports its losses. -/
theorem evqTailWrite_valid (h : (s.hp[p]).evq.tailValid (v.toNat % 65536) = true) :
    evqTailWrite p v s =
      if (s.hp[p]).evq.reports (v.toNat % 65536) then
        raiseOwn p (eventsLost p (s.hp[p]).evq)
          (modPort p (fun h => { h with evq := { h.evq.withTail (v.toNat % 65536) with lossCount := 0 } }) s)
      else modPort p (fun h => { h with evq := h.evq.withTail (v.toNat % 65536) }) s := by
  unfold evqTailWrite
  rw [if_pos h]
  simp only [modPort_at, modPort_modPort]
  rfl

/-- Whatever a tail in range reports, the ring holds it, and keeps its error flag. -/
theorem evqTailWrite_tail (h : (s.hp[p]).evq.tailValid (v.toNat % 65536) = true) :
    ((evqTailWrite p v s).hp[p]).evq.tail = v.toNat % 65536 ∧
    ((evqTailWrite p v s).hp[p]).evq.tailError = (s.hp[p]).evq.tailError := by
  rw [evqTailWrite_valid h]
  split
  · simp [Evq.withTail]
  · simp [Evq.withTail]

/-- A ring that reports its losses writes EVENTS_LOST into the space that the tail frees. -/
theorem evqTailWrite_reports (h : (s.hp[p]).evq.tailValid (v.toNat % 65536) = true)
    (hr : (s.hp[p]).evq.reports (v.toNat % 65536) = true) (hz : portFrozen p s = false) :
    (∃ u o, ((evqTailWrite p v s).hp[p]).evq =
      ({ (s.hp[p]).evq.withTail (v.toNat % 65536) with lossCount := 0 } : Evq).wrote u o) ∧
    .hostWrite p ((s.hp[p]).evq.base + 32 * (s.hp[p]).evq.head)
      ((eventsLost p (s.hp[p]).evq).entry (s.hp[p]).evq.phase (s.hp[p]).evq.seq s.clk.ptu) ∈ (evqTailWrite p v s).out := by
  rw [evqTailWrite_valid h, if_pos hr]
  have moved := modPort_at p (fun h => { h with evq := { h.evq.withTail (v.toNat % 65536) with lossCount := 0 } }) s
  simp only [Evq.reports, Bool.and_eq_true, Bool.not_eq_true'] at hr
  obtain ⟨⟨enabled, -⟩, space⟩ := hr
  have written := raiseOwn_free (e := eventsLost p (s.hp[p]).evq) (by rw [moved]; exact enabled)
    (show portFrozen p (modPort p _ s) = false from hz) (by rw [moved]; exact space)
  rw [moved] at written
  exact written

end tail

/-! ### Which tails are in range (02 R71) -/

/-- How far one place of a ring of n entries lies ahead of another. -/
def ringDistance (n a b : Nat) : Nat := (b + n - a % n) % n

/-- The place k ahead of another lies k ahead of it. -/
theorem ringDistance_ahead {n a k : Nat} (ha : a < n) (hk : k < n) : ringDistance n a ((a + k) % n) = k := by
  rw [ringDistance, Nat.mod_eq_of_lt ha]
  rcases Nat.lt_or_ge (a + k) n with h | h
  · rw [Nat.mod_eq_of_lt h, show a + k + n - a = k + n by omega, Nat.add_mod_right, Nat.mod_eq_of_lt hk]
  · rw [Nat.mod_eq_sub_mod h, Nat.mod_eq_of_lt (show a + k - n < n by omega), show a + k - n + n - a = k by omega,
      Nat.mod_eq_of_lt hk]

/-- Going the distance to a place leads to it. -/
theorem add_ringDistance {n a b : Nat} (ha : a < n) (hb : b < n) : (a + ringDistance n a b) % n = b := by
  rw [ringDistance, Nat.mod_eq_of_lt ha, Nat.add_mod_mod, show a + (b + n - a) = b + n by omega, Nat.add_mod_right,
    Nat.mod_eq_of_lt hb]

/-- A tail is in range exactly if it is reached from the old tail on the way to the head. -/
theorem Evq.tailValid_iff {q : Evq} (ht : q.tail < 2 ^ q.size) (hh : q.head < 2 ^ q.size) (t : Nat) :
    q.tailValid t = true ↔
      ∃ k d : Nat, t = (q.tail + k) % 2 ^ q.size ∧ d < 2 ^ q.size ∧ k ≤ d ∧ q.head = (q.tail + d) % 2 ^ q.size := by
  have valid : q.tailValid t = true ↔
      t < 2 ^ q.size ∧ ringDistance (2 ^ q.size) q.tail t ≤ ringDistance (2 ^ q.size) q.tail q.head := by
    rw [Evq.tailValid, Bool.and_eq_true, decide_eq_true_eq, decide_eq_true_eq]
    rfl
  rw [valid]
  constructor
  · rintro ⟨lt, le⟩
    exact ⟨_, _, (add_ringDistance ht lt).symm, Nat.mod_lt _ (by omega), le, (add_ringDistance ht hh).symm⟩
  · rintro ⟨k, d, rfl, hd, hkd, head⟩
    refine ⟨Nat.mod_lt _ (by omega), ?_⟩
    rw [head, ringDistance_ahead ht (by omega), ringDistance_ahead ht hd]
    exact hkd

/-! ### The statements -/

/-- A count that saturates at 0xFFFF_FFFF. -/
theorem inc32_eq (x : Nat) : inc32 x = min 0xFFFFFFFF (x + 1) := rfl

/-- Settles O9: an event at a ring is `raise_full` or `raise_free`, a tail write `evqTailWrite_valid` or `evqTailWrite_reports`. -/
theorem ringCountsItsLosses : Obligations.RingCountsItsLosses := by
  refine ⟨fun e s p he hs hz => ?event, fun s p v hl hz hv => ⟨fun hc => ?noLoss, fun he hc hf => ?reports⟩⟩
  case event =>
    have full := (s.hp[p]).evq.full_iff
    cases hf : (s.hp[p]).evq.full with
    | true =>
      have dropped := raise_full he hs hf
      rw [dropped]
      exact ⟨rfl, fun _ => ⟨rfl, rfl, rfl⟩, fun space => absurd (full.1 hf) space⟩
    | false =>
      obtain ⟨⟨u, o, written⟩, entry⟩ := raise_free he hs hz hf
      rw [written]
      exact ⟨rfl, fun noSpace => absurd (full.2 noSpace) (by rw [hf]; exact Bool.false_ne_true), fun _ => ⟨rfl, rfl, rfl, entry⟩⟩
  case noLoss =>
    refine act_whileUp_open hl hz ((evqTailWrite_valid hv).trans (if_neg ?_))
    simp only [Evq.reports, hc]
    simp
  case reports =>
    have space : ((s.hp[p]).evq.withTail (v.toNat % 65536)).full = false := by
      rw [← Bool.not_eq_true, Evq.full_iff]
      exact hf
    obtain ⟨⟨u, o, written⟩, entry⟩ := evqTailWrite_reports hv (by simp only [Evq.reports, he, space, hc]; rfl) hz
    refine ⟨s.after (evqTailWrite p v), act_whileUp_open hl hz rfl, ?_⟩
    rw [State.after_toRc8, written]
    exact ⟨rfl, rfl, rfl, entry⟩

/-- Settles O10: the range of `Evq.tailValid` is the way from the tail to the head. -/
theorem ringTailWrite : Obligations.RingTailWrite := by
  intro s p v hl hz ht hh
  constructor
  · intro reached
    have valid := (Evq.tailValid_iff ht hh _).2 reached
    exact ⟨s.after (evqTailWrite p v), act_whileUp_open hl hz rfl, evqTailWrite_tail valid⟩
  · intro missed
    refine act_whileUp_open hl hz (evqTailWrite_invalid ?_)
    rw [← Bool.not_eq_true, Evq.tailValid_iff ht hh]
    exact missed

/-- A ring whose write into host memory failed: disabled, the head back on the event, which is lost. -/
def Evq.writeFailed (q : Evq) : Evq :=
  { q with enable := false, dmaError := true, lost := inc32 q.lost, head := (q.head + q.entries - 1) % q.entries,
           phase := if q.head = 0 then !q.phase else q.phase }

/-- A failed write stops an enabled ring. -/
theorem exec_evqWriteFailed {s : State} {p : Fin 4} (he : (s.hp[p]).evq.enable = true) :
    exec (.evqWriteFailed p) s = .next (s.after (modPort p fun h => { h with evq := (s.hp[p]).evq.writeFailed })) := by
  show execEvqWriteFailed p s = _
  refine act_eq_of_eq ((if_pos he).trans ?_)
  simp [modPort, vmod, Evq.writeFailed]

/-- The head that steps back stands one entry before. -/
theorem step_back {n h : Nat} (hn : h < n) : ((h + n - 1) % n + 1) % n = h := by
  rw [Nat.mod_add_mod, show h + n - 1 + 1 = h + n by omega, Nat.add_mod_right, Nat.mod_eq_of_lt hn]

/-- Settles O11: `Evq.writeFailed` field by field; a disabled ring takes no event. -/
theorem ringWriteFailed : Obligations.RingWriteFailed := by
  intro s p he hh
  refine ⟨_, exec_evqWriteFailed he, ?_⟩
  simp only [State.after_toRc8, modPort_at]
  refine ⟨rfl, rfl, step_back hh, Nat.mod_lt _ (Nat.two_pow_pos _), rfl, rfl, rfl, rfl, fun e => ?_⟩
  rw [raise_evq_disabled (by rw [modPort_at]; rfl), modPort_at]

section control
variable {v : U32} {q : Evq}

/-- A write of 0 disables the ring. -/
theorem evqControl_off (h : v.getLsbD 0 = false) : evqControl v q = { q with enable := false } := by
  simp only [evqControl, h, Bool.false_eq_true, if_false]

/-- A write of 1 leaves an enabled ring. -/
theorem evqControl_enabled (h : v.getLsbD 0 = true) (he : q.enable = true) : evqControl v q = q := by
  simp only [evqControl, h, he, if_true]

/-- A write of 1 flags a ring out of its configuration. -/
theorem evqControl_unconfigured (h : v.getLsbD 0 = true) (he : q.enable = false)
    (bad : q.size < 6 ∨ 16 < q.size ∨ q.base = 0 ∨ q.headAddr = 0) : evqControl v q = { q with configError := true } := by
  simp only [evqControl, h, he, if_true, if_pos bad, Bool.false_eq_true, if_false]

/-- A write of 1 enables a configured ring from zero. -/
theorem evqControl_enables (h : v.getLsbD 0 = true) (he : q.enable = false)
    (good : ¬ (q.size < 6 ∨ 16 < q.size ∨ q.base = 0 ∨ q.headAddr = 0)) :
    evqControl v q =
      { q with enable := true, head := 0, tail := 0, phase := true, seq := 0, lossCount := 0, uninterrupted := 0 } := by
  simp only [evqControl, h, he, if_true, if_neg good, Bool.false_eq_true, if_false]

end control

/-- A write to EVQ_CTRL leaves what `evqControl` makes of the ring. -/
theorem exec_evqCtrl {s : State} {p : Fin 4} (hl : (s.hp[p]).link = true) (hz : portFrozen p s.toRc8 = false) {v : U32}
    {f : Evq → Evq} (h : evqControl v (s.hp[p]).evq = f (s.hp[p]).evq) :
    exec (.evqCtrl p v) s = .next (s.after (modPort p fun h => { h with evq := f h.evq })) :=
  act_whileUp_open hl hz (show modPort p _ s.toRc8 = _ by simp only [modPort, vmod, h])

/-- Settles O12: the branches of `evqControl`. -/
theorem ringEnable : Obligations.RingEnable := by
  intro s p v hl hz
  refine ⟨fun off => ?disable, fun on he => ?enabled, fun on he bad => ?unconfigured, fun on he h1 h2 h3 h4 => ?enables⟩
  case disable => exact exec_evqCtrl (f := fun q => { q with enable := false }) hl hz (evqControl_off off)
  case enabled =>
    rw [exec_evqCtrl (f := id) hl hz (evqControl_enabled on he)]
    exact congrArg _ (after_unchanged (modPort_id p _))
  case unconfigured =>
    exact exec_evqCtrl (f := fun q => { q with configError := true }) hl hz (evqControl_unconfigured on he bad)
  case enables =>
    exact exec_evqCtrl
      (f := fun q => { q with enable := true, head := 0, tail := 0, phase := true, seq := 0, lossCount := 0, uninterrupted := 0 })
      hl hz (evqControl_enables on he (by omega))

end Sys2Proof.Machine
end

section
/-! SUPPORT. The state after reset at the host ports, and the statement about it (02 R45, R54, R65, R85). -/

namespace Sys2Proof.Machine

open Sys2Proof

/-- Every port after reset has its registers, ring and mailboxes at their reset values. -/
theorem reset_hp (p : Fin 4) : State.reset.hp[p] = HostPort.reset :=
  Vector.getElem_replicate p.isLt

/-- Every mailbox after reset is FREE. -/
theorem reset_mbx_free (m : Fin 8) : ((HostPort.reset).mbx[m]).state = .free :=
  congrArg Mailbox.state (Vector.getElem_replicate m.isLt)

/-- Every word of a ring's mask after reset selects all of its sources. -/
theorem reset_mask (k : Fin 4) : Evq.reset.mask[k] = 0xFFFFFFFF :=
  Vector.getElem_replicate k.isLt

/-- Settles O3: the ports from their reset values, the rights table as delivered, with port 0 ENGINEER. -/
theorem resetState : Obligations.ResetState := by
  refine ⟨⟨fun p => ?port, rfl, rfl, rfl, by decide, rfl⟩, rfl⟩
  case port =>
    rw [reset_hp p]
    exact ⟨rfl, rfl, rfl, rfl, rfl, reset_mbx_free, rfl, rfl, rfl, rfl, rfl, rfl, rfl, reset_mask, rfl, rfl, rfl, rfl, rfl, rfl⟩

end Sys2Proof.Machine
end

section
/-! SUPPORT. Host writes into a mailbox, doorbells and mailbox errors, and the statements about them (02 R44, R47, R54, R55, R89). -/

namespace Sys2Proof.Machine

open Sys2Proof

/-! ### Host writes into a mailbox (02 R44, R54, R55) -/

section write
variable {s : Rc8} {p : Fin 4} {m : Fin 8} {o : Nat} {data : List (Option Byte)}

/-- A FREE mailbox stores a host write. -/
theorem mailboxHostWrite_free (h : ((s.hp[p]).mbx[m]).state = .free) :
    mailboxHostWrite p m o data s = modMbx p m (fun b => { b with mem := storeHost b.mem o data }) s := by
  rw [mailboxHostWrite, h]

/-- A DONE mailbox becomes FREE by a write that carries 0 into its state byte. -/
theorem mailboxHostWrite_frees (h : ((s.hp[p]).mbx[m]).state = .done) (hc : carried o data 18 = some 0) :
    mailboxHostWrite p m o data s = modMbx p m (fun b => { b with state := .free }) s := by
  rw [mailboxHostWrite, h]
  exact if_pos hc

/-- A DONE mailbox takes no other write. -/
theorem mailboxHostWrite_doneError (h : ((s.hp[p]).mbx[m]).state = .done) (hc : carried o data 18 ≠ some 0) :
    mailboxHostWrite p m o data s = mailboxError p (m.castLE (by decide)) 3 s := by
  rw [mailboxHostWrite, h]
  exact if_neg hc

/-- A POSTED or BUSY mailbox takes no write. -/
theorem mailboxHostWrite_taken (h : ((s.hp[p]).mbx[m]).state = .posted ∨ ((s.hp[p]).mbx[m]).state = .busy) :
    mailboxHostWrite p m o data s = mailboxError p (m.castLE (by decide)) 3 s := by
  rcases h with h | h <;> rw [mailboxHostWrite, h]

/-- A write within one mailbox's range goes to that mailbox. -/
theorem mailboxRangeWrite_within (h1 : 1 ≤ data.length) (hd : o + data.length ≤ 0x1000) :
    mailboxRangeWrite p (0x1000 + 0x1000 * m.val + o) data s = mailboxHostWrite p m o data s := by
  have index : (0x1000 + 0x1000 * m.val + o - 0x1000) / 0x1000 = m.val := by omega
  have offset : (0x1000 + 0x1000 * m.val + o - 0x1000) % 0x1000 = o := by omega
  have within : 0x1000 ≤ 0x1000 + 0x1000 * m.val + o ∧ m.val < 8 ∧ o + data.length ≤ 0x1000 := ⟨by omega, m.isLt, hd⟩
  simp only [mailboxRangeWrite, index, offset, dif_pos within]

end write

section writeRow
variable {s : State} {p : Fin 4} {m : Fin 8}

/-- A host write within one mailbox leaves what the mailbox makes of it. -/
theorem exec_mailboxWrite {o : Nat} {data : List (Option Byte)} (hl : (s.hp[p]).link = true)
    (hz : portFrozen p s.toRc8 = false) (h1 : 1 ≤ data.length) (h2 : data.length ≤ 256) (hd : o + data.length ≤ 0x1000)
    {g : Rc8 → Rc8} (h : mailboxHostWrite p m o data s.toRc8 = g s.toRc8) :
    exec (.mailboxWrite p (0x1000 + 0x1000 * m.val + o) data) s = .next (s.after g) := by
  show execMailboxWrite p _ data s = _
  rw [execMailboxWrite, actIf_eq (decide_eq_true ⟨h1, h2⟩), after_congr
    ((whileUp_open hl hz _).trans ((mailboxRangeWrite_within h1 hd).trans h))]

/-- MAILBOX_FREE is a write of 0 into the state byte. -/
theorem exec_mailboxFree (hl : (s.hp[p]).link = true) (hz : portFrozen p s.toRc8 = false) {g : Rc8 → Rc8}
    (h : mailboxHostWrite p m 18 [some 0] s.toRc8 = g s.toRc8) : exec (.mailboxFree p m) s = .next (s.after g) :=
  act_whileUp_open hl hz h

end writeRow

/-- The byte that a write carries into an offset is its first, or one that the rest carries from the next offset on. -/
theorem carried_cons (o a : Nat) (x : Option Byte) (data : List (Option Byte)) :
    carried o (x :: data) a = if a = o then x else carried (o + 1) data a := by
  unfold carried
  by_cases h : a = o
  · subst h
    simp
  · rw [if_neg h]
    by_cases hle : o ≤ a
    · rw [if_pos hle, if_pos (by omega), show a - o = (a - (o + 1)) + 1 by omega, List.getElem?_cons_succ]
    · rw [if_neg hle, if_neg (by omega)]

/-- After a stored host write each enabled byte stands at its offset; the state byte and every other byte stay. -/
theorem memRead_storeHost {mem : Mem} (w : Mem.wf mem = true) (o : Nat) (data : List (Option Byte)) (a : Nat) :
    memRead (storeHost mem o data) a = if a = 18 then memRead mem a else (carried o data a).getD (memRead mem a) := by
  induction data generalizing mem o with
  | nil => simp [storeHost, carried]
  | cons x data ih =>
    have rest : carried (o + 1) data o = none := if_neg (by omega)
    rw [carried_cons]
    cases x with
    | none =>
      simp only [storeHost]
      rw [ih w]
      by_cases ha : a = o
      · simp [ha, rest]
      · simp [ha]
    | some b =>
      simp only [storeHost]
      by_cases ho : o = 18
      · rw [if_pos ho, ih w]
        by_cases ha : a = o
        · simp [ha, ho]
        · simp [ha]
      · rw [if_neg ho, ih (memWrite_wf mem o b w), memRead_memWrite mem o a b w]
        by_cases ha : a = o
        · simp [ha, ho, rest]
        · simp [ha]

/-- Settles O13: a write within one mailbox goes to `mailboxHostWrite`, and what a FREE one stores is `storeHost`. -/
theorem mailboxWrites : Obligations.MailboxWrites := by
  refine ⟨fun s p m o data hl hz h1 h2 hd => ⟨fun free => ?free, fun done hc => ?frees, fun done hc => ?doneError,
    fun taken => ?taken⟩, fun mem o data w => ⟨storeHost_wf mem o data w, memRead_storeHost w o data⟩⟩
  case free => exact exec_mailboxWrite hl hz h1 h2 hd (mailboxHostWrite_free free)
  case frees =>
    exact ⟨exec_mailboxWrite hl hz h1 h2 hd (mailboxHostWrite_frees done hc),
      exec_mailboxFree hl hz (mailboxHostWrite_frees done rfl)⟩
  case doneError => exact exec_mailboxWrite hl hz h1 h2 hd (mailboxHostWrite_doneError done hc)
  case taken =>
    exact ⟨exec_mailboxWrite hl hz h1 h2 hd (mailboxHostWrite_taken taken), exec_mailboxFree hl hz (mailboxHostWrite_taken taken)⟩

/-! ### Mailbox errors (02 R47, R89) -/

/-- A port on which an error has set its bit and brought the count to a number. -/
def HostPort.flagged (h : HostPort) (bit : Fin 9) (count : Nat) : HostPort :=
  { h with mbxError := h.mbxError ||| (1#9 <<< bit.val), mbxErrorCount := count }

/-- The module with a port flagged and its errors counted by one. -/
def Rc8.flagged (s : Rc8) (p : Fin 4) (bit : Fin 9) : Rc8 := modPort p (·.flagged bit (inc16 (s.hp[p]).mbxErrorCount)) s

/-- A mailbox error flags its port; beside that it leaves at each port what its message and its event may write there. -/
theorem mailboxError_hp (p : Fin 4) (bit : Fin 9) (cause : Nat) (s : Rc8) (q : Fin 4) :
    ∃ msix events, (mailboxError p bit cause s).hp[q] =
      ({ (s.flagged p bit).hp[q] with msix := msix } : HostPort).withEvents events := by
  unfold mailboxError
  dsimp only
  split
  · exact ⟨_, _, raiseWindow_hp_get _ _ _ _ _ q.val q.isLt⟩
  · exact ⟨_, _, (raiseWindow_hp_get _ _ _ _ _ q.val q.isLt).trans
      (congrArg (HostPort.withEvents · _) (sendVec_hp_get p 1 (s.flagged p bit) q.val q.isLt))⟩

/-- The flag and the count of a mailbox error, at its port. -/
theorem mailboxError_flag (p : Fin 4) (bit : Fin 9) (cause : Nat) (s : Rc8) :
    ((mailboxError p bit cause s).hp[p]).mbxError = (s.hp[p]).mbxError ||| (1#9 <<< bit.val) ∧
    ((mailboxError p bit cause s).hp[p]).mbxErrorCount = min 65535 ((s.hp[p]).mbxErrorCount + 1) ∧
    ((mailboxError p bit cause s).hp[p]).mbx = (s.hp[p]).mbx ∧ ((mailboxError p bit cause s).hp[p]).mbxDone = (s.hp[p]).mbxDone := by
  obtain ⟨msix, events, port⟩ := mailboxError_hp p bit cause s p
  rw [port, Rc8.flagged, modPort_at]
  exact ⟨rfl, rfl, rfl, rfl⟩

/-- Another port than the one that is changed stays. -/
theorem modPort_other {p q : Fin 4} (h : q ≠ p) (f : HostPort → HostPort) (s : Rc8) : (modPort p f s).hp[q] = s.hp[q] := by
  have hv : ¬ p.val = q.val := fun e => h (Fin.ext e.symm)
  simp [hv]

/-- The other ports' errors stay. -/
theorem mailboxError_other {p q : Fin 4} (h : q ≠ p) (bit : Fin 9) (cause : Nat) (s : Rc8) :
    ((mailboxError p bit cause s).hp[q]).mbxError = (s.hp[q]).mbxError ∧
    ((mailboxError p bit cause s).hp[q]).mbxErrorCount = (s.hp[q]).mbxErrorCount := by
  obtain ⟨msix, events, port⟩ := mailboxError_hp p bit cause s q
  rw [port, Rc8.flagged, modPort_other h]
  exact ⟨rfl, rfl⟩

/-! ### Doorbells (02 R54) -/

section doorbell
variable {s : Rc8} {p : Fin 4} {m : Fin 8} {v : U32} (hm : v.toNat % 8 = m.val)
include hm

/-- A doorbell on a mailbox that is not FREE is an error of cause 1. -/
theorem doorbell_taken (h : ((s.hp[p]).mbx[m]).state ≠ .free) :
    doorbell p v s = mailboxError p (m.castLE (by decide)) 1 s := by
  obtain rfl : m = ⟨v.toNat % 8, Nat.mod_lt _ (by decide)⟩ := Fin.ext hm.symm
  exact if_neg h

variable (free : ((s.hp[p]).mbx[m]).state = .free)
include free

/-- A repeated header sequence is an error of cause 2. -/
theorem doorbell_repeated (h : ((s.hp[p]).mbx[m]).lastSeq = some ((s.hp[p]).mbx[m]).headerSeq) :
    doorbell p v s = mailboxError p (m.castLE (by decide)) 2 s := by
  obtain rfl : m = ⟨v.toNat % 8, Nat.mod_lt _ (by decide)⟩ := Fin.ext hm.symm
  exact (if_pos free).trans (if_pos h)

variable (new : ((s.hp[p]).mbx[m]).lastSeq ≠ some ((s.hp[p]).mbx[m]).headerSeq)
include new

/-- A doorbell that carries the header's sequence posts the mailbox. -/
theorem doorbell_posts (h : ((s.hp[p]).mbx[m]).headerSeq % 2 ^ 24 = v.toNat / 256) :
    doorbell p v s =
      { modMbx p m (fun b => { b with state := .posted, lastSeq := some b.headerSeq, order := s.arrivals }) s with
        arrivals := s.arrivals + 1 } := by
  obtain rfl : m = ⟨v.toNat % 8, Nat.mod_lt _ (by decide)⟩ := Fin.ext hm.symm
  exact (if_pos free).trans ((if_neg new).trans (if_pos h))

/-- A doorbell that carries another sequence completes the mailbox with BAD_FIELD. -/
theorem doorbell_mismatch (h : ((s.hp[p]).mbx[m]).headerSeq % 2 ^ 24 ≠ v.toNat / 256) :
    doorbell p v s = mailboxDone p m ((s.hp[p]).mbx[m]).noIrq (mailboxReply p m .badField [] s) := by
  obtain rfl : m = ⟨v.toNat % 8, Nat.mod_lt _ (by decide)⟩ := Fin.ext hm.symm
  exact (if_pos free).trans ((if_neg new).trans (if_neg h))

end doorbell

/-- Settles O14: the branches of `doorbell`; a mailbox error leaves `Rc8.flagged`, but for its message and its event. -/
theorem doorbellsAndMailboxErrors : Obligations.DoorbellsAndMailboxErrors := by
  refine ⟨fun s p m v hl hz hm => ⟨fun free new match_ => ?posts, fun free rep => ?repeated,
    fun free new differs w => ?mismatch, fun taken => ?taken⟩, fun s p bit cause => ?error⟩
  case posts => exact act_whileUp_open hl hz (doorbell_posts hm free new match_)
  case repeated => exact act_whileUp_open hl hz (doorbell_repeated hm free rep)
  case mismatch =>
    refine ⟨s.after (doorbell p v), act_whileUp_open hl hz rfl, ?_⟩
    rw [State.after_toRc8, doorbell_mismatch hm free new differs]
    obtain ⟨state, status, length, -⟩ := mailboxDone_answered w ((s.hp[p]).mbx[m]).noIrq .badField []
    obtain ⟨box, flags⟩ := mailboxDone_reply p m ((s.hp[p]).mbx[m]).noIrq .badField [] s.toRc8
    exact ⟨state, status, length, by rw [box], flags, by simp, by simp⟩
  case taken => exact act_whileUp_open hl hz (doorbell_taken hm taken)
  case error =>
    obtain ⟨flag, count, boxes, flags⟩ := mailboxError_flag p bit cause s
    exact ⟨flag, count, boxes, flags, fun q hq => mailboxError_other hq bit cause s, by simp, by simp⟩

end Sys2Proof.Machine
end

section
/-! SUPPORT. Link-downs and resets of one host port, the messages that time brings, and the statements about them (02 R43, R48, R64,
R73, R88; 08 R270; 19 R560). -/

namespace Sys2Proof.Machine

open Sys2Proof

/-! ### A port's session ends (11 R369) -/

/-- A session that ends leaves its port without one, and every other port's as it is. -/
theorem endSession_sess (p : Fin 4) (cause : Nat) (s : Rc8) : (endSession p cause s).saf.sess = s.saf.sess.set p none := by
  unfold endSession
  split
  · rw [raise_saf, modSaf_saf]
  · next closed =>
    have none_open : s.saf.sess[p.val] = none := by simpa [sessionOpen] using closed
    rw [← none_open, Vector.set_getElem_self]

/-- The end of a session leaves at each port what its event may write there. -/
theorem endSession_hp (p : Fin 4) (cause : Nat) (s : Rc8) (q : Fin 4) :
    ∃ events, (endSession p cause s).hp[q] = (s.hp[q]).withEvents events := by
  unfold endSession
  split
  · exact ⟨_, raise_hp_get _ _ q.val q.isLt⟩
  · exact ⟨_, (HostPort.withEvents_self _).symm⟩

/-! ### Resets of one port (02 R43) -/

/-- A reset of a port leaves at each port what its events may write there, over the port's reset values. -/
theorem portReset_hp (p : Fin 4) (link : Bool) (s : Rc8) (q : Fin 4) :
    ∃ events, (portReset p link s).hp[q] = ((modPort p (·.afterReset link) s).hp[q]).withEvents events := by
  unfold portReset
  dsimp only
  obtain ⟨events, port⟩ := endSession_hp p 5 (modPort p (·.afterReset link)
    { s with execs := s.execs.map fun e => if e.port == p && e.task.isNone then { e with portReset := true } else e }) q
  exact ⟨_, (raise_hp_get _ _ q.val q.isLt).trans ((congrArg (HostPort.withEvents · _) port).trans (HostPort.withEvents_twice _ _ _))⟩

/-- A reset of a port marks the port's commands. -/
theorem portReset_execs (p : Fin 4) (link : Bool) (s : Rc8) :
    (portReset p link s).execs = s.execs.map (fun e => if e.port = p ∧ e.task = none then { e with portReset := true } else e) := by
  unfold portReset
  simp

/-- What is set for one port leaves what the others have. -/
theorem vector_set_other {α : Type} {p q : Fin 4} (h : q ≠ p) (v : Vector α 4) (x : α) : (v.set p x)[q] = v[q] :=
  Vector.getElem_set_ne p.isLt q.isLt fun e => h (Fin.ext e.symm)

/-- A reset of a port resets that port alone. -/
theorem portReset_portWasReset (p : Fin 4) (link : Bool) (s : Rc8) : s.portWasReset p (portReset p link s) := by
  obtain ⟨events, port⟩ := portReset_hp p link s p
  rw [modPort_at] at port
  have sess : (portReset p link s).saf.sess = s.saf.sess.set p none := by
    unfold portReset
    simp [endSession_sess]
  refine ⟨fun m => ?boxes, ?ring, ?flags, ?errors, ?errorCount, ?scratch, ?tick, ?session, fun q hq => ?others, ?rights, ?clk, ?net,
    ?sch, ?run, ?pair, portReset_execs p link s⟩
  case boxes =>
    rw [port]
    simp [HostPort.withEvents, HostPort.afterReset]
  case ring | flags | errors | errorCount | scratch | tick =>
    rw [port]
    rfl
  case session => simp [sess]
  case others =>
    obtain ⟨events, other⟩ := portReset_hp p link s q
    rw [modPort_other hq] at other
    rw [other, sess, vector_set_other hq]
    exact ⟨rfl, rfl, rfl, rfl⟩
  case rights => exact portReset_rights p link s
  case clk | net | sch | run | pair => simp [portReset]

/-- A port whose link is up takes what acts on linked ports. -/
theorem act_whileLinked_up {s : State} {p : Fin 4} (hl : (s.hp[p]).link = true) (f : Rc8 → Rc8) :
    act (whileLinked p f) s = .next (s.after f) := by
  rw [act_eq, after_congr (show whileLinked p f s.toRc8 = f s.toRc8 from if_pos hl)]

/-- A port without link takes nothing. -/
theorem act_whileLinked_down {s : State} {p : Fin 4} (hl : (s.hp[p]).link = false) (f : Rc8 → Rc8) :
    act (whileLinked p f) s = .next s := by
  rw [act_eq, after_unchanged (show whileLinked p f s.toRc8 = s.toRc8 from if_neg (by rw [hl]; exact Bool.false_ne_true))]

/-- A link comes up on a powered module without it, and is told. -/
theorem exec_linkUp {s : State} {p : Fin 4} (hl : (s.hp[p]).link = false) (hp : s.pwr.powered = true) (speed : LinkSpeed)
    (width : LinkWidth) :
    exec (.linkUp p speed width) s = .next (s.after fun r =>
      raise { src := 120 + p.val, reason := 3, sev := .notice, p0 := speedCode speed, p1 := widthCode width, p2 := 0 }
        (modPort p (fun h => { h with link := true, speed := speedCode speed, width := widthCode width }) r)) := by
  show execLinkUp p speed width s = _
  exact act_eq_of_eq (if_neg (by rw [hl, hp]; exact Bool.false_ne_true))

/-- No link comes up where one is up already or the module has no power. -/
theorem exec_linkUp_ignored {s : State} {p : Fin 4} (h : (s.hp[p]).link = true ∨ s.pwr.powered = false) (speed : LinkSpeed)
    (width : LinkWidth) : exec (.linkUp p speed width) s = .next s := by
  show execLinkUp p speed width s = _
  have ignored : ((s.hp[p]).link || !s.pwr.powered) = true := by
    rcases h with h | h
    · rw [h, Bool.true_or]
    · rw [h, Bool.not_false, Bool.or_true]
  rw [execLinkUp, act_eq]
  exact congrArg _ (after_unchanged (if_pos ignored))

/-- Settles O16: each reset of a linked port is `portReset`. -/
theorem portResetsAreLocal : Obligations.PortResetsAreLocal := by
  intro s p
  refine ⟨fun hl => ?linkDown, fun hl => ?conventional, fun hl hz => ?functionLevel, fun hl => ?withoutLink,
    fun speed width h => exec_linkUp_ignored h speed width, fun speed width hl hp => exec_linkUp hl hp speed width⟩
  case linkDown | conventional => exact ⟨_, act_whileLinked_up hl _, rfl, portReset_portWasReset p false _⟩
  case functionLevel => exact ⟨s.after (portReset p true), act_whileUp_open hl hz rfl, rfl, portReset_portWasReset p true _⟩
  case withoutLink => exact ⟨act_whileLinked_down hl _, act_whileLinked_down hl _, act_whileUp_linkDown hl _⟩

/-! ### Messages of a vector (02 R47, R48, R73) -/

/-- A vector's message is put out, or stands pending while the vector is masked. -/
theorem sendVector_cases (p v : Fin 4) (h : HostPort) :
    ((h.msix[v]).masked = false → sendVector p v h = (h, [.msix p v (h.msix[v]).addr (h.msix[v]).data])) ∧
    ((h.msix[v]).masked = true → sendVector p v h = ({ h with msix := vmod h.msix v fun x => { x with pend := true } }, [])) := by
  constructor <;> intro masked <;> simp only [sendVector, masked, if_true, Bool.false_eq_true, if_false]

/-- A port that is not frozen puts a vector's message out, or marks it as pending while the vector is masked. -/
theorem sendVec_sends {s : Rc8} {p v : Fin 4} (hz : portFrozen p s = false) :
    (((s.hp[p]).msix[v]).masked = false → (sendVec p v s).out = s.out ++ [.msix p v ((s.hp[p]).msix[v]).addr ((s.hp[p]).msix[v]).data]) ∧
    (((s.hp[p]).msix[v]).masked = true → (sendVec p v s).out = s.out ∧ (((sendVec p v s).hp[p]).msix[v]).pend = true) := by
  have open_ : sendVec p v s = { s with hp := s.hp.set p (sendVector p v s.hp[p]).1, out := s.out ++ (sendVector p v s.hp[p]).2 } :=
    if_neg (by rw [hz]; exact Bool.false_ne_true)
  obtain ⟨sent, kept⟩ := sendVector_cases p v s.hp[p]
  rw [open_]
  refine ⟨fun masked => ?_, fun masked => ?_⟩
  · rw [sent masked]
  · rw [kept masked]
    simp

/-- A vector's message leaves the rings, the last round told and the rounds. -/
theorem sendVec_rest (p v : Fin 4) (s : Rc8) (q : Fin 4) :
    ((sendVec p v s).hp[q]).evq = (s.hp[q]).evq ∧ ((sendVec p v s).hp[q]).tickRound = (s.hp[q]).tickRound ∧
    (sendVec p v s).rnd = s.rnd := by
  have port := sendVec_hp_get p v s q.val q.isLt
  exact ⟨(congrArg HostPort.evq port).trans rfl, (congrArg HostPort.tickRound port).trans rfl, sendVec_rnd p v s⟩

/-- A module at the coalescing time of a ring, whose count starts anew. -/
def Rc8.coalesced (s : Rc8) (p : Fin 4) : Rc8 :=
  modPort p (fun h => { h with evq := { h.evq with uninterrupted := 0 } })
    (atRefosc ((s.hp[p]).evq.oldest + (s.hp[p]).evq.coalTime * 1000) s)

/-- At the end of the coalescing time vector 0 is due where entries wait. -/
theorem exec_evqCoalesceTimeout {s : State} {p : Fin 4} (h : 0 < (s.hp[p]).evq.uninterrupted) :
    exec (.evqCoalesceTimeout p) s = .next (s.after fun r => sendVec p 0 (r.coalesced p)) := by
  show execEvqCoalesceTimeout p s = _
  exact act_eq_of_eq (if_neg (Nat.ne_of_gt h))

/-- A module that has written its round at a port. -/
def Rc8.ticked (s : Rc8) (p : Fin 4) : Rc8 := modPort p (fun h => { h with tickRound := s.rnd.round }) s

/-- HOST_TICK writes the round first and then sends vector 3. -/
theorem hostTick_eq (p : Fin 4) (s : Rc8) : hostTick p s = sendVec p 3 (s.ticked p) := rfl

/-- A HOST_TICK that is due fires at its instant. -/
theorem exec_hostTick {s : State} {p : Fin 4} {x : Milestone} (due : dueEntry 9 p.val s.toRc8 = some x) :
    exec (.hostTick p) s = .next (s.after fun r => hostTick p (fireEntry x r)) := by
  show execHostTick p s = _
  refine act_eq_of_eq ?_
  rw [atNext, due]

/-- Settles O18: each timer's row ends with a message of the port. -/
theorem timedMessages : Obligations.TimedMessages := by
  intro s p hz
  refine ⟨fun waiting => ⟨_, exec_evqCoalesceTimeout waiting, ?coalesce⟩, fun x due => ⟨_, exec_hostTick due, ?tick⟩⟩
  case coalesce =>
    have vectors : ((s.coalesced p).hp[p]).msix = (s.hp[p]).msix := by
      rw [Rc8.coalesced, modPort_at]
      rfl
    have message := sendVec_sends (s := s.coalesced p) (p := p) (v := 0) hz
    rw [vectors] at message
    refine ⟨?_, message⟩
    rw [State.after_toRc8, (sendVec_rest p 0 _ p).1, Rc8.coalesced, modPort_at]
  case tick =>
    have vectors : (((fireEntry x s.toRc8).ticked p).hp[p]).msix = (s.hp[p]).msix := by
      rw [Rc8.ticked, modPort_at]
      rfl
    have message := sendVec_sends (s := (fireEntry x s.toRc8).ticked p) (p := p) (v := 3) hz
    rw [vectors] at message
    obtain ⟨-, tick, rounds⟩ := sendVec_rest p 3 ((fireEntry x s.toRc8).ticked p) p
    refine ⟨?_, message⟩
    rw [State.after_toRc8, hostTick_eq, tick, rounds, Rc8.ticked, modPort_at]
    rfl

end Sys2Proof.Machine
end

section
/-! SUPPORT. The read commands: the length of each response, and the statements about what they answer and leave (02 R80 to R87;
03 R117; 06 R218, R222; 07 R242; 11 R378; 12 R412, R413; 13 R443; 14 R469, R473; 15 R499; 16 R513, R515; 17 R531; 18 R554). -/

namespace Sys2Proof.Machine

open Sys2Proof

/-! ### Entries of one length -/

/-- As many entries of one length as there are numbers below a bound. -/
theorem length_flatMap_range {f : Nat → List Byte} {n : Nat} (h : ∀ i, (f i).length = n) (k : Nat) :
    ((List.range k).flatMap f).length = n * k := by
  rw [flatMap_length_const f n h, List.length_range, Nat.mul_comm]

theorem nodeEntry_length (n : Fin 2) (s : Rc8) (i : Nat) : (nodeEntry n s i).length = 16 := by
  unfold nodeEntry
  split
  · simp
  · split
    · split <;> simp
    · split
      · split <;> simp
      · simp

theorem netStatusBlock_length (n : Fin 2) (s : Rc8) : (netStatusBlock n s).length = 32 := by simp [netStatusBlock]
theorem portBlock_length (x : NetPort) : (portBlock x).length = 32 := by simp [portBlock]
theorem chanBlock_length (x : ChanCount) : (chanBlock x).length = 32 := by simp [chanBlock]
theorem rightsEntry_length (p : Fin 4) (s : Rc8) : (rightsEntry p s).length = 8 := by simp [rightsEntry]
theorem unmappedMask_length (s : Rc8) : (unmappedMask s).length = 32 := by simp [unmappedMask]
theorem memAreaBytes_length (x : MemArea) : x.bytes.length = 16 := by simp [MemArea.bytes]
theorem learnRecord_length (a : Nat) (s : Rc8) : (learnRecord a s).length = 32 := by simp [learnRecord]
theorem recordBytes_length (r : Record) : r.bytes.length = 32 := by simp [Record.bytes]
theorem safeLogEntryBytes_length (x : SafeLogEntry) : x.bytes.length = 64 := by simp [SafeLogEntry.bytes]

theorem statusOf_length (a : Nat) (s : Rc8) : (statusOf a s).length = 64 := by
  unfold statusOf
  dsimp only
  split <;> simp

/-! ### Responses of fixed length -/

section responses
variable (e : Exec) (s : Rc8)

theorem identifyResponse_length : (identifyResponse e s).length = 64 := by simp [identifyResponse]
theorem readPlantTimeResponse_length : (readPlantTimeResponse e s).length = 32 := by simp [readPlantTimeResponse]
theorem commandResultsResponse_length : (commandResultsResponse e s).length = 528 := padTo_length _ _
theorem hostRightsResponse_length : (hostRightsResponse e s).length = 32 := by simp [hostRightsResponse, rightsEntry_length]
theorem getStatusResponse_length : (getStatusResponse e s).length = 40 := by simp [getStatusResponse, statusBytes]
theorem getModeResponse_length : (getModeResponse e s).length = 32 := by simp [getModeResponse]
theorem taskStatusResponse_length : (taskStatusResponse e s).length = 272 := by
  simp [taskStatusResponse, taskStatusEntry]
theorem changeStatusResponse_length : (changeStatusResponse e s).length = 64 := by simp [changeStatusResponse]
theorem recorderStatusResponse_length : (recorderStatusResponse e s).length = 32 := by simp [recorderStatusResponse]
theorem nodeListResponse_length : (nodeListResponse e s).length = 1040 := by
  simp only [nodeListResponse, List.length_append, le_length, zeros_length, length_flatMap_range (nodeEntry_length _ s)]
theorem schedStatusResponse_length : (schedStatusResponse e s).length = 64 := by simp [schedStatusResponse]
theorem windowStatusResponse_length : (windowStatusResponse e s).length = 2056 := padTo_length _ _
theorem engineStatusResponse_length : (engineStatusResponse e s).length = 64 := by simp [engineStatusResponse]
theorem pairStatusResponse_length : (pairStatusResponse e s).length = 64 := by
  unfold pairStatusResponse
  extract_lets q
  simp only [List.length_append, le_length, zeros_length]
theorem detourStatusResponse_length : (detourStatusResponse e s).length = 32 := by simp [detourStatusResponse]
theorem safetyStatusResponse_length : (safetyStatusResponse e s).length = 1096 := by
  simp only [safetyStatusResponse, List.length_append, le_length, zeros_length, unmappedMask_length]
  rw [length_flatMap_range (n := 4) fun a => by simp only [List.length_append, le_length]]
theorem acuLogResponse_length : (acuLogResponse e s).length = 528 := by simp [acuLogResponse]
theorem acuStatusResponse_length : (acuStatusResponse e s).length = 32 := by simp [acuStatusResponse]
theorem acuRulesResponse_length : (acuRulesResponse e s).length = 136 := by simp [acuRulesResponse]
theorem memoryStatusResponse_length : (memoryStatusResponse e s).length = 224 := by
  simp [memoryStatusResponse, flatMap_length_const _ 16 memAreaBytes_length]
theorem timeStatusResponse_length : (timeStatusResponse e s).length = 64 := by simp [timeStatusResponse]
theorem ethStatusResponse_length : (ethStatusResponse e s).length = 64 := by simp [ethStatusResponse]
theorem peerStatusResponse_length : (peerStatusResponse e s).length = 256 := by
  rw [peerStatusResponse, flatMap_length_const _ 16 fun ch => by simp only [List.length_append, le_length, zeros_length]]
  rfl
theorem milestoneReadResponse_length : (milestoneReadResponse e s).length = 1040 := by simp [milestoneReadResponse]
theorem roundStatusResponse_length : (roundStatusResponse e s).length = 64 := by simp [roundStatusResponse]
theorem canStatusResponse_length : (canStatusResponse e s).length = 48 := by simp [canStatusResponse]
theorem txStatusResponse_length : (txStatusResponse e s).length = 64 := by simp [txStatusResponse]
theorem ffeStatusResponse_length : (ffeStatusResponse e s).length = 128 := by simp [ffeStatusResponse]
theorem updateStatusResponse_length : (updateStatusResponse e s).length = 64 := by simp [updateStatusResponse]
theorem lockstepStatusResponse_length : (lockstepStatusResponse e s).length = 32 := by simp [lockstepStatusResponse]
theorem powerStatusResponse_length (x : PowerReading) : (powerStatusResponse x e s).length = 64 := by
  unfold powerStatusResponse
  extract_lets q
  simp only [List.length_append, le_length, zeros_length]

end responses

/-! ### Responses whose length follows a count of the request -/

section counted
variable (e : Exec) (s : Rc8)

theorem axisStatusResponse_length : (axisStatusResponse e s).length = 64 * u16At e.req 2 :=
  length_flatMap_range (fun _ => statusOf_length _ s) _
theorem learnStatusResponse_length : (learnStatusResponse e s).length = 32 * u16At e.req 2 :=
  length_flatMap_range (fun _ => learnRecord_length _ s) _
theorem tableReadResponse_length : (tableReadResponse e s).length = 8 + 4 * u16At e.req 4 := by
  simp only [tableReadResponse, List.length_append, le_length, leS_length, zeros_length, length_flatMap_range fun i => leS_length 4 _]

theorem recorderReadResponse_length :
    ∃ k, k ≤ u16At e.req 4 ∧ (recorderReadResponse e s).length = 16 + 32 * k := by
  unfold recorderReadResponse
  extract_lets first all gone from_ l
  refine ⟨l.length, List.length_take_le _ _, ?_⟩
  simp only [List.length_append, le_length, zeros_length, flatMap_length_const _ 32 recordBytes_length]
  omega
theorem logReadResponse_length : ∃ k, k ≤ u16At e.req 4 ∧ (logReadResponse e s).length = 16 + 64 * k := by
  unfold logReadResponse
  extract_lets first l
  refine ⟨l.length, List.length_take_le _ _, ?_⟩
  simp only [List.length_append, le_length, zeros_length, flatMap_length_const _ 64 safeLogEntryBytes_length]
  omega

end counted

/-! ### A read ends its command with DONE and its response -/

section answers
variable {s : State} {p : Fin 4} {m : Fin 8} {e : Exec} {code : Nat} (h : findChecked s.toRc8 code p m = some e)
include h

/-- A row that only answers ends its command with DONE and the response computed. -/
theorem act_answer (f : Exec → Rc8 → List Byte) :
    act (answer code p m f) s = .next (s.after (endExec e.id .done (f e s.toRc8))) :=
  act_eq_of_eq (answer_found h f)

/-- The response is of the length that the response's own lemma gives. -/
theorem act_answer_length {f : Exec → Rc8 → List Byte} {n : Nat} (hl : (f e s.toRc8).length = n) :
    ∃ resp : List Byte, resp.length = n ∧ act (answer code p m f) s = .next (s.after (endExec e.id .done resp)) :=
  ⟨_, hl, act_answer h f⟩

/-- The response has so many records of one size as its own lemma gives, and no more than asked for. -/
theorem act_answer_count {f : Exec → Rc8 → List Byte} {most base size : Nat}
    (hl : ∃ k, k ≤ most ∧ (f e s.toRc8).length = base + size * k) :
    ∃ k, k ≤ most ∧ ∃ resp : List Byte, resp.length = base + size * k ∧
      act (answer code p m f) s = .next (s.after (endExec e.id .done resp)) := by
  obtain ⟨k, hk, length⟩ := hl
  exact ⟨k, hk, act_answer_length h length⟩

/-- A row that does not only answer leaves what its body makes of the command found. -/
theorem act_runCmd {body : Exec → Rc8 → Rc8} {g : Rc8 → Rc8} (hb : body e s.toRc8 = g s.toRc8) :
    act (runCmd code p m body) s = .next (s.after g) :=
  act_eq_of_eq ((runCmd_found h body).trans hb)

end answers

/-- NET_STATUS answers both networks' blocks. -/
theorem netStatus_length (s : Rc8) : (netStatusBlock 0 s ++ netStatusBlock 1 s).length = 64 := by
  rw [List.length_append, netStatusBlock_length, netStatusBlock_length]

/-- NET_PORT_COUNTERS answers a block for each of a network's four ports. -/
theorem netPortCounters_length (k : Net) : ((vlist k.ports).flatMap portBlock).length = 128 := by
  rw [flatMap_length_const _ 32 portBlock_length, vlist_length]

/-- SCHED_CHANNEL_COUNTERS answers a block for each of a network's two channels. -/
theorem schedChannelCounters_length (k : Sched) : ((vlist k.count).flatMap chanBlock).length = 64 := by
  rw [flatMap_length_const _ 32 chanBlock_length, vlist_length]

/-- Bytes that are cut to a length they have stay. -/
theorem padTo_take {n : Nat} {data : List Byte} (h : n ≤ data.length) : padTo n (data.take n) = data.take n := by
  rw [padTo, List.take_append_of_le_length (by rw [List.length_take_of_le h]), List.take_take, Nat.min_self]

/-- DEBUG_READ of memory that stands still answers what is there. -/
theorem debugRead_still {s : Rc8} {e : Exec} {data : List Byte} (h : dataStill s = true) :
    debugRead data e s = endExec e.id .done (memReadN s.run.data (u32At e.req 0) (u16At e.req 4)) s := by
  rw [debugRead, if_pos h]

/-- DEBUG_READ during a cycle answers the bytes of its operand (log 90). -/
theorem debugRead_moving {s : Rc8} {e : Exec} {data : List Byte} (h : dataStill s = false) (long : u16At e.req 4 ≤ data.length) :
    debugRead data e s = endExec e.id .done (data.take (u16At e.req 4)) s := by
  rw [debugRead, if_neg (by rw [h]; exact Bool.false_ne_true), padTo_take long]

/-- ENGINE_PARAM_READ of the bank in force answers its generation, its number and the block. -/
theorem paramReadResponse_inForce {e : Exec} {s : Rc8} (h : u8At e.req 2 = 0) :
    paramReadResponse e s = le 4 (s.nv.banks[s.nv.bankActive]).generation ++ le 1 s.nv.bankActive.val ++ zeros 3 ++
      (s.nv.banks[s.nv.bankActive]).block (u16At e.req 0) := by
  simp only [paramReadResponse, if_pos h]

/-- Settles O19: each row is `answer` with its response, whose length is the response's own lemma. -/
theorem readCommandsAnswer : Obligations.ReadCommandsAnswer := by
  refine ⟨fun s p m e => ⟨
    fun h => act_answer_length h (identifyResponse_length e _),
    fun h => act_answer_length h (readPlantTimeResponse_length e _),
    fun h => act_answer_length h (commandResultsResponse_length e _),
    fun h => act_answer_length h (hostRightsResponse_length e _),
    fun h => act_answer_length h (getModeResponse_length e _),
    fun h => act_answer_length h (taskStatusResponse_length e _),
    fun h => act_answer_length h (changeStatusResponse_length e _),
    fun h => act_answer_length h (recorderStatusResponse_length e _),
    fun h => act_answer_length h (netStatus_length _),
    fun h => act_answer_length h (netPortCounters_length _),
    fun h => act_answer_length h (nodeListResponse_length e _),
    fun h => act_answer_length h (schedStatusResponse_length e _),
    fun h => act_answer_length h (schedChannelCounters_length _),
    fun h => act_answer_length h (windowStatusResponse_length e _),
    fun h => act_answer_length h (engineStatusResponse_length e _),
    fun h => act_answer_length h (pairStatusResponse_length e _),
    fun h => act_answer_length h (detourStatusResponse_length e _),
    fun h => act_answer_length h (safetyStatusResponse_length e _),
    fun h => act_answer_length h (acuLogResponse_length e _),
    fun h => act_answer_length h (acuStatusResponse_length e _),
    fun h => act_answer_length h (acuRulesResponse_length e _),
    fun h => act_answer_length h (memoryStatusResponse_length e _),
    fun h => act_answer_length h (timeStatusResponse_length e _),
    fun h => act_answer_length h (ethStatusResponse_length e _),
    fun h => act_answer_length h (peerStatusResponse_length e _),
    fun h => act_answer_length h (milestoneReadResponse_length e _),
    fun h => act_answer_length h (roundStatusResponse_length e _),
    fun h => act_answer_length h (canStatusResponse_length e _),
    fun h => act_answer_length h (txStatusResponse_length e _),
    fun h => act_answer_length h (ffeStatusResponse_length e _),
    fun h => act_answer_length h (updateStatusResponse_length e _),
    fun h => act_answer_length h (lockstepStatusResponse_length e _),
    fun x h => act_answer_length h (powerStatusResponse_length e _ x)⟩,
    fun s p m e => ⟨fun h => act_answer_length h (axisStatusResponse_length e _),
      fun h => act_answer_length h (learnStatusResponse_length e _), fun h => act_answer_length h (tableReadResponse_length e _),
      fun h => act_answer_count h (recorderReadResponse_length e _), fun h => act_answer_count h (logReadResponse_length e _),
      fun data h still => ?still, fun data h moving long => ?moving, fun h bank => ?param⟩⟩
  case still => exact act_runCmd h (debugRead_still still)
  case moving => exact act_runCmd h (debugRead_moving moving long)
  case param =>
    rw [← paramReadResponse_inForce bank]
    exact act_answer h paramReadResponse

/-! ### What some reads answer (02 R83, R84, R86; 03 R117; 08 R273; 14 R469) -/

/-- A response that begins with a run of bytes begins with it in the command's end. -/
theorem act_answer_begins {s : State} {p : Fin 4} {m : Fin 8} {e : Exec} {code : Nat} {f : Exec → Rc8 → List Byte} {front : List Byte}
    (h : findChecked s.toRc8 code p m = some e) (hf : ∃ rest, f e s.toRc8 = front ++ rest) :
    ∃ rest, act (answer code p m f) s = .next (s.after (endExec e.id .done (front ++ rest))) := by
  obtain ⟨rest, response⟩ := hf
  exact ⟨rest, response ▸ act_answer h f⟩

section fields
variable (e : Exec) (s : Rc8)

theorem getModeResponse_begins : ∃ rest, getModeResponse e s = le 1 s.run.mode.code ++ le 1 s.run.key.code ++
    le 1 (if s.pair.partner.present then s.pair.partner.key else 0xFF) ++ le 1 s.run.lastCause ++ rest := by
  simp only [getModeResponse, List.append_assoc, List.append_cancel_left_eq, exists_eq']

theorem readPlantTimeResponse_begins : ∃ rest, readPlantTimeResponse e s = le 8 (s.clk.ptu / (65536 * 1000000000) % 2 ^ 64) ++
    le 4 (s.clk.ptu % (65536 * 1000000000) / 65536) ++ le 2 (s.clk.ptu % 65536) ++ le 1 s.tim.st.code ++ zeros 1 ++ le 8 s.rnd.round ++
    rest := ⟨le 4 s.rnd.period ++ zeros 4, by rw [readPlantTimeResponse, List.append_assoc _ (le 4 s.rnd.period)]; rfl⟩

theorem roundStatusResponse_begins : ∃ rest, roundStatusResponse e s = le 8 s.rnd.round ++ le 4 s.rnd.period ++
    le 4 s.nv.storedPeriod ++ le 2 s.rnd.generation ++ rest := by
  simp only [roundStatusResponse, List.append_assoc, List.append_cancel_left_eq, exists_eq']

/-- Each port's entry begins with its class and grants in force, its link and its session. -/
theorem hostRightsResponse_entry (k : Fin 4) :
    slice (hostRightsResponse e s) (8 * k.val) 4 = le 1 (rightsInForce k s).cls.code ++ le 1 (rightsInForce k s).grants.toNat ++
      le 1 (b2n (s.hp[k]).link) ++ le 1 (b2n (s.saf.sess[k]).isSome) := by
  match k with
  | 0 | 1 | 2 | 3 => rfl

theorem getStatusResponse_begins : (getStatusResponse e s).take 2 = le 1 s.run.mode.code ++ le 1 s.run.key.code := rfl

/-- CAN_RX_READ answers 96 bytes for each object it names. -/
theorem rxBytes_length (x : RxObj) : x.bytes.length = 96 := by simp [RxObj.bytes]

end fields

/-- Settles O20: the fields that each response begins with, and the bodies of the two reads that clear. -/
theorem readsAnswerTheState : Obligations.ReadsAnswerTheState := by
  refine ⟨fun s p m e => ⟨fun h => ?mode, fun h => ?plantTime, fun h => ?rights, fun h => ?rounds⟩,
    fun s p m e => ⟨fun h => ?status, fun h => ?can⟩⟩
  case mode => exact act_answer_begins h (getModeResponse_begins e _)
  case plantTime => exact act_answer_begins h (readPlantTimeResponse_begins e _)
  case rights => exact ⟨_, act_answer h _, hostRightsResponse_entry e _⟩
  case rounds => exact act_answer_begins h (roundStatusResponse_begins e _)
  case status => exact ⟨_, getStatusResponse_length e _, getStatusResponse_begins e _, act_runCmd h rfl⟩
  case can => exact ⟨_, length_flatMap_range (fun _ => rxBytes_length _) _, act_runCmd h rfl⟩

end Sys2Proof.Machine
end

section
namespace Sys2Proof.Machine
/-! ### SET_HOST_RIGHTS: two records under one number -/

/-- A command record under number 0 that has ended and holds back the old entry of port `target`. -/
def endedRightsExec (target : Fin 4) (old : Rights) : Exec where
  id := 0
  port := 0
  mbx := 0
  code := 0x0010
  tag := 0
  noIrq := false
  req := []
  cap := 0
  cls := .engineer
  phase := .ended .done []
  start := 0
  pendingSent := false
  portReset := false
  rules := none
  rights := some (target, old)
  task := none

/-- The reset state with two records under the one number 0, each of which holds back the entry of another port. -/
def twoRightsExecs : State :=
  State.reset.after fun r => { r with execs :=
    [endedRightsExec 0 { cls := .observe, grants := 0 }, endedRightsExec 1 { cls := .safety, grants := 0 }] }

/-- Refutes O21: its second part says of every other port that the table's entry is in force, and asks only that no record
under another number holds an entry back. A second record under the same number holds back the entry of port 1. -/
theorem not_setHostRightsOutcomes : ¬ Obligations.SetHostRightsOutcomes := by
  unfold Obligations.SetHostRightsOutcomes
  rintro ⟨-, inForce⟩
  have others := (inForce twoRightsExecs (endedRightsExec 0 { cls := .observe, grants := 0 }) 0
    { cls := .observe, grants := 0 } .done [] (by decide) rfl rfl (by decide)).2.1
  exact absurd (others 1 (by decide)) (by decide)
end Sys2Proof.Machine
end

section
/-! SUPPORT. What a pair fault and a program fault leave alone: the integrity state (12 R385, R398, R403). -/

namespace Sys2Proof.Machine

open Sys2Proof

/-- A fold whose steps keep the integrity state keeps it. -/
theorem foldl_itg {α : Type} {f : Rc8 → α → Rc8} (hf : ∀ s a, (f s a).itg = s.itg) (l : List α) (s : Rc8) : (l.foldl f s).itg = s.itg := by
  induction l generalizing s with
  | nil => rfl
  | cons a l ih => rw [List.foldl_cons, ih, hf]

/-! ### Mode requests and the change package -/

@[simp] theorem pairTell_itg (id : Option Nat) (op : PairOp) (round : Nat) (resp : List Byte) (late : Bool) (s : Rc8) :
    (pairTell id op round resp late s).itg = s.itg := by
  unfold pairTell
  rw [modPair_itg]
  split
  · exact plkSend_itg ..
  · rfl

@[simp] theorem requestMode_itg (target : Mode) (cause : Nat) (exec : Option Nat) (s : Rc8) : (requestMode target cause exec s).itg = s.itg := by
  simp [requestMode]

@[simp] theorem programFault_itg (s : Rc8) : (programFault s).itg = s.itg := by
  unfold programFault faultStop
  repeat' split
  all_goals simp

@[simp] theorem tellPartner_itg (op : PairOp) (s : Rc8) : (tellPartner op s).itg = s.itg := by
  unfold tellPartner
  split <;> simp

@[simp] theorem endAborts_itg (st : Status) (s : Rc8) : (endAborts st s).itg = s.itg := foldl_itg (fun _ _ => endWith_itg ..) _ _

@[simp] theorem secondCode_itg (b : List Byte) (s : Rc8) : (secondCode b s).itg = s.itg := modRun_itg ..

@[simp] theorem undoChange_itg (skip : Bool) (s : Rc8) : (undoChange skip s).itg = s.itg := by
  unfold undoChange
  rw [modChg_itg, secondCode_itg, foldl_itg]
  intro r n
  repeat' split
  all_goals simp

@[simp] theorem abandon_itg (cause cond : Nat) (s : Rc8) : (abandon cause cond s).itg = s.itg := by
  unfold abandon
  simp only [raise_itg, modChg_itg, undoChange_itg, endOpt_itg, endAborts_itg]
  split <;> simp

@[simp] theorem changeInterrupted_itg (s : Rc8) : (changeInterrupted s).itg = s.itg := by
  unfold changeInterrupted
  split <;> simp

/-! ### Outputs -/

@[simp] theorem openSafety_itg (s : Rc8) : (openSafety s).itg = s.itg := modSaf_itg ..

@[simp] theorem pinsOff_itg (s : Rc8) : (pinsOff s).itg = s.itg := by
  unfold pinsOff
  rw [modFfe_itg, foldl_itg]
  exact fun r i => modFfe_itg _ r

/-! ### A holder that becomes standby -/

@[simp] theorem setPtpPort_itg (e : Fin 2) (st : Nat) (s : Rc8) : (setPtpPort e st s).itg = s.itg := by
  unfold setPtpPort
  dsimp only
  split <;> simp

@[simp] theorem setGrandmaster_itg (e : Fin 2) (gm : Nat) (s : Rc8) : (setGrandmaster e gm s).itg = s.itg := by
  unfold setGrandmaster
  split <;> simp

@[simp] theorem ptpDecide_itg (e : Fin 2) (kind : Nat) (content : List Byte) (s : Rc8) : (ptpDecide e kind content s).itg = s.itg := by
  unfold ptpDecide
  rw [setGrandmaster_itg]
  repeat' split
  all_goals simp

@[simp] theorem ptpRestart_itg (s : Rc8) : (ptpRestart s).itg = s.itg := by
  have off : ∀ r, (([0, 1] : List (Fin 2)).foldl (fun s e => if bitAt s.nv.ptp.mask e.val then s else setPtpPort e 0 s) r).itg = r.itg :=
    foldl_itg (fun r e => by split <;> simp) _
  unfold ptpRestart
  split
  · exact (foldl_itg (fun r e => by split <;> simp) _ _).trans (off s)
  · split
    · exact off s
    · exact (ptpDecide_itg ..).trans (off s)

@[simp] theorem timeBecomeStandby_itg (s : Rc8) : (timeBecomeStandby s).itg = s.itg := by
  simp [timeBecomeStandby, cancelStep]

@[simp] theorem startListen_itg (n : Fin 2) (s : Rc8) : (startListen n s).itg = s.itg := modNet_itg ..

@[simp] theorem netGoto_itg (n : Fin 2) (dest : NetState) (ev : NetEv) (s : Rc8) : (netGoto n dest ev s).itg = s.itg := by
  unfold netGoto
  dsimp only
  split
  · rfl
  · rw [raise_itg]
    split <;> simp [tableChanged]

@[simp] theorem netEvent_itg (n : Fin 2) (ev : NetEv) (s : Rc8) : (netEvent n ev s).itg = s.itg := by
  unfold netEvent
  cases ev <;> cases (s.net[n]).state <;> simp
  split <;> simp

@[simp] theorem netLease_itg (gained : Bool) (s : Rc8) : (netLease gained s).itg = s.itg := foldl_itg (fun _ _ => netEvent_itg ..) _ _

/-! ### The resync of a standby -/

@[simp] theorem sendItems_itg (l : List CopyItem) (s : Rc8) : (sendItems l s).itg = s.itg := foldl_itg (fun _ _ => plkSend_itg ..) _ _

@[simp] theorem firstPass_itg (s : Rc8) : (firstPass s).itg = s.itg := by
  unfold firstPass copyPass sendTransfer
  repeat' split
  all_goals simp

@[simp] theorem startResync_itg (cause : Nat) (s : Rc8) : (startResync cause s).itg = s.itg := by
  unfold startResync
  repeat' split
  all_goals simp

@[simp] theorem becomeStandby_itg (s : Rc8) : (becomeStandby s).itg = s.itg := by
  unfold becomeStandby canBecomeStandby
  simp

/-! ### The token -/

@[simp] theorem endHand_itg (h : Handover) (st : Status) (s : Rc8) : (endHand h st s).itg = s.itg := by
  unfold endHand
  repeat' split
  all_goals simp

@[simp] theorem abandonHand_itg (cause : Nat) (st : Status) (s : Rc8) : (abandonHand cause st s).itg = s.itg := by
  unfold abandonHand
  split <;> simp

@[simp] theorem releaseToken_itg (cause : Nat) (s : Rc8) : (releaseToken cause s).itg = s.itg := by
  unfold releaseToken
  rw [becomeStandby_itg, raise_itg]
  repeat' split
  all_goals simp

@[simp] theorem loseReady_itg (s : Rc8) : (loseReady s).itg = s.itg := by simp [loseReady, settle]

@[simp] theorem tokenFault_itg (s : Rc8) : (tokenFault s).itg = s.itg := by
  unfold tokenFault
  repeat' split
  all_goals simp

@[simp] theorem stepEnds_itg (k : Nat) (s : Rc8) : (stepEnds k s).itg = s.itg := by
  unfold stepEnds
  split <;> simp

@[simp] theorem stepsAdvance_itg (s : Rc8) : (stepsAdvance s).itg = s.itg := by
  have ends : ∀ (k : Nat) (c : Prop) [Decidable c] (r : Rc8), (if c then stepEnds k r else r).itg = r.itg := fun k c _ r => by
    split <;> simp
  unfold stepsAdvance
  exact (ends ..).trans ((ends ..).trans (ends ..))

@[simp] theorem gainReady_itg (s : Rc8) : (gainReady s).itg = s.itg := by simp [gainReady, settle]

@[simp] theorem updateReady_itg (s : Rc8) : (updateReady s).itg = s.itg := by
  unfold updateReady
  dsimp only
  repeat' split
  all_goals simp

/-- A pair fault changes nothing of the integrity state but the mark that the data are loaded anew. -/
theorem pairFault_itg (s : Rc8) : (pairFault s).itg = s.itg ∨ (pairFault s).itg = { s.itg with reload := true } := by
  unfold pairFault
  split
  · exact .inl (by simp)
  · split
    · exact .inl (by simp)
    · exact .inr (by simp)

end Sys2Proof.Machine
end

section
/-! SUPPORT. Access control: transactions, refusals, rule epochs and ACU_RELEASE (02 R49, R52; 12 R397, R399 to R411). -/

namespace Sys2Proof.Machine

open Sys2Proof

/-! ### The ASV's log and the frozen masters -/

@[simp] theorem pairFault_violations (s : Rc8) : (pairFault s).itg.violations = s.itg.violations := by
  rcases pairFault_itg s with h | h <;> rw [h]

@[simp] theorem pairFault_asv (s : Rc8) : (pairFault s).itg.asv = s.itg.asv := by
  rcases pairFault_itg s with h | h <;> rw [h]

@[simp] theorem pairFault_frozen (s : Rc8) : (pairFault s).itg.frozen = s.itg.frozen := by
  rcases pairFault_itg s with h | h <;> rw [h]

@[simp] theorem raiseViolation_itg (x : AsvEntry) (s : Rc8) : (raiseViolation x s).itg = s.itg := by
  unfold raiseViolation
  dsimp only
  split <;> exact raise_itg (violationEvent x) s

/-- What a refusal does to its master keeps the log. -/
theorem offender_violations (x : AsvEntry) (s : Rc8) : (offender x s).itg.violations = s.itg.violations := by
  unfold offender
  dsimp only
  repeat' split
  all_goals simp [masterReleased, freeze, svpStops, modChannel, modLs]

theorem offender_asv (x : AsvEntry) (s : Rc8) : (offender x s).itg.asv = s.itg.asv := by
  unfold offender
  dsimp only
  repeat' split
  all_goals simp [masterReleased, freeze, svpStops, modChannel, modLs]

/-- A refusal freezes its master, except a core. -/
theorem offender_frozen (x : AsvEntry) (s : Rc8) :
    (offender x s).itg.frozen = if x.master.val < 4 then s.itg.frozen else s.itg.frozen ||| (1#16 <<< x.master.val) := by
  unfold offender
  dsimp only
  repeat' split
  all_goals simp_all [masterReleased, freeze, svpStops, modChannel, modLs]

/-- A refusal of the SVP keeps its entry in the persistent record and stops the SVP (R405). -/
theorem offender_svp {x : AsvEntry} (h : x.master.val = 4) (s : Rc8) :
    (offender x s).nv.pd0Violation = some x ∧ (offender x s).svpReady = false := by
  unfold offender
  dsimp only
  rw [if_neg (by omega), if_pos h]
  exact ⟨rfl, rfl⟩

/-- A bit of a mask with the bit of one master set. -/
theorem getLsbD_or_master (v : BitVec 16) (m : Nat) {j : Nat} (hj : j < 16) :
    (v ||| (1#16 <<< m)).getLsbD j = (v.getLsbD j || decide (j = m)) := by
  have one : (1#16).getLsbD (j - m) = decide (j - m = 0) := by
    rw [BitVec.getLsbD_one]
    simp
  rw [BitVec.getLsbD_or, BitVec.getLsbD_shiftLeft, one]
  congr 1
  rw [← decide_not, ← Bool.decide_and, ← Bool.decide_and, decide_eq_decide]
  omega

/-- A bit of a mask with the bit of one master cleared. -/
theorem getLsbD_clear_master (v : BitVec 16) (m : Nat) {j : Nat} (hj : j < 16) :
    (v &&& ~~~(1#16 <<< m)).getLsbD j = (v.getLsbD j && decide (j ≠ m)) := by
  have set := getLsbD_or_master 0#16 m hj
  rw [BitVec.zero_or, BitVec.getLsbD_zero, Bool.false_or] at set
  rw [BitVec.getLsbD_and, BitVec.getLsbD_not, set]
  simp [hj]

/-! ### A transaction at the ACU -/

/-- A transaction that can be sent is checked. -/
theorem accessViolation_next {x : Transaction} (s : State) (hk : 1 ≤ x.kind.val) (hl : 1 ≤ x.len) (hm : x.len ≤ 256) (ha : x.addr < 2 ^ 32) :
    exec (.accessViolation x) s = .next (s.after (accessCheck x)) :=
  actIf_eq (decide_eq_true ⟨hk, hl, hm, ha⟩) "ACCESS_VIOLATION" (accessCheck x) s

section transaction
variable {x : Transaction} {s : Rc8}

/-- An allowed transaction is answered or changes nothing. -/
theorem accessCheck_allowed (hi : issues x.master s = true) (hc : accessCause x s = 0) : accessCheck x s = allowed x s := by
  simp [accessCheck, hi, hc]

/-- A refused transaction is logged and answered to its master. -/
theorem accessCheck_refused (hi : issues x.master s = true) (hc : accessCause x s ≠ 0) :
    accessCheck x s = offender (asvEntry x (accessCause x s) s) (logViolation (asvEntry x (accessCause x s) s) s) := by
  unfold accessCheck
  rw [if_pos hi]
  split
  · contradiction
  · rfl

/-- A master that is no host port asks for nothing by an allowed transaction. -/
theorem allowed_module (h : x.master.val < 10 ∨ 14 ≤ x.master.val) : allowed x s = s := by
  have none_port : hostOf x.master = none := if_neg (by omega)
  unfold allowed
  rw [none_port]

/-- A host port's allowed read of its BAR2 is answered, poisoned where a word is uncorrectable. -/
theorem allowed_bar2 {p : Fin 4} (h : x.master.val = 10 + p.val) (hk : x.kind.val = 1) (hb : inBar2 p.val x.addr = true) :
    allowed x s = { s with out := s.out ++ [if poisoned x.addr x.len s then .readPoisoned p
      else .readData p ((List.range x.len).map fun i => bar2Byte p (x.addr - bar2Base p.val + i) s)] } := by
  have port : hostOf x.master = some p := (if_pos (by omega)).trans (congrArg some (Fin.ext (by simp only; omega)))
  unfold allowed
  rw [port]
  simp [hk, hb]

/-- What a refusal leaves in the log, of the frozen masters and of the SVP. -/
theorem accessCheck_log (hi : issues x.master s = true) (hc : accessCause x s ≠ 0) :
    (accessCheck x s).itg.violations = inc32 s.itg.violations ∧
    (accessCheck x s).itg.asv.getLast? = some (asvEntry x (accessCause x s) s) ∧
    (s.itg.asv.length ≤ 16 → (accessCheck x s).itg.asv.length = min 16 (s.itg.asv.length + 1)) ∧
    (∀ j : Nat, j < 16 → (accessCheck x s).itg.frozen.getLsbD j = (s.itg.frozen.getLsbD j || (decide (j = x.master.val) && decide (4 ≤ j)))) ∧
    (x.master.val = 4 →
      (accessCheck x s).nv.pd0Violation = some (asvEntry x (accessCause x s) s) ∧ (accessCheck x s).svpReady = false) := by
  rw [accessCheck_refused hi hc]
  refine ⟨offender_violations .., ?last, ?length, fun j hj => ?frozen, fun h => offender_svp h _⟩
  case last => rw [offender_asv]; exact List.getLast?_concat ..
  case length =>
    intro h
    rw [offender_asv]
    simp only [logViolation, modItg_itg, List.length_append, List.length_singleton]
    split
    · rw [List.length_drop]; omega
    · omega
  case frozen =>
    rw [offender_frozen]
    show BitVec.getLsbD (if x.master.val < 4 then s.itg.frozen else s.itg.frozen ||| (1#16 <<< x.master.val)) j = _
    by_cases core : x.master.val < 4
    · rw [if_pos core]
      have other : (decide (j = x.master.val) && decide (4 ≤ j)) = false := by
        rw [← Bool.decide_and, decide_eq_false_iff_not]; omega
      rw [other, Bool.or_false]
    · rw [if_neg core]
      have same : (decide (j = x.master.val) && decide (4 ≤ j)) = decide (j = x.master.val) := by
        rw [← Bool.decide_and, decide_eq_decide]; omega
      rw [getLsbD_or_master _ _ hj, same]

end transaction

/-! ### Rule epochs -/

/-- A host port's regions are its mailboxes, the directory page and the slots granted. -/
theorem rulesFor_host (s : Rc8) (p : Fin 4) : (rulesFor s)[10 + p.val] = hostRules p.val (s.nv.rights[p]).grants := by
  have short : (hostRules p.val (s.nv.rights[p]).grants).length ≤ 16 := by
    have kept := List.length_filter_le (fun k => (s.nv.rights[p]).grants.getLsbD k) (List.range 5)
    rw [List.length_range] at kept
    simp only [hostRules, List.length_cons, List.length_map]
    omega
  have rules : rulesOf (10 + p.val) s = hostRules p.val (s.nv.rights[p]).grants := by
    match p with
    | 0 | 1 | 2 | 3 => rfl
  calc (rulesFor s)[10 + p.val] = (rulesOf (10 + p.val) s).take 16 := by simp [rulesFor, vgen]
    _ = hostRules p.val (s.nv.rights[p]).grants := by rw [rules, List.take_of_length_le short]

/-- The oldest epoch is reported late and marked. -/
theorem ruleLate_eq {s : Rc8} {ep since : Nat} (h : s.itg.waiting = [(ep, since, false)]) (ns : Nat) :
    ruleLate ns s = raise { src := 81, reason := 0x01, sev := .error, p0 := ep, p1 := ns, p2 := 0 }
      { atRefosc (since + ns) s with itg := { s.itg with lateEpochs := inc32 s.itg.lateEpochs, waiting := [(ep, since, true)] } } := by
  simp [ruleLate, modItg, h]

/-- With no session waiting, a completed epoch lets the held releases begin unless the code's rules wait still. -/
theorem rulesMet_noSession {s : Rc8} (h : s.itg.sessWaits = []) :
    rulesMet s = if codeWaits s then s
      else s.run.heldReleases.foldl (fun s x => decideRelease x.1 x.2.1 x.2.2 s) (modRun (fun r => { r with heldReleases := [] }) s) := by
  have same : modItg (fun x => { x with sessWaits := x.sessWaits.dropWhile fun w => ruleDone w.epoch s }) s = s := by
    have itg : { s.itg with sessWaits := ([] : List SessWait) } = s.itg := by rw [← h]
    simp [modItg, h, itg]
  unfold rulesMet
  rw [same, h]
  rfl

/-- With no session waiting and no release held, a completed epoch lets nothing begin. -/
theorem rulesMet_idle {s : Rc8} (h : s.itg.sessWaits = []) (hr : s.run.heldReleases = []) : rulesMet s = s := by
  have run : { s.run with heldReleases := [] } = s.run := by rw [← hr]
  rw [rulesMet_noSession h, hr]
  simp [modRun, run]

/-- The report of a waiting epoch takes it and every older one. -/
theorem ruleComplete_eq {s : Rc8} {ep : Nat} {before after : List (Nat × Nat × Bool)} {x : Nat × Bool}
    (h : s.itg.waiting = before ++ (ep, x) :: after) (older : ∀ y ∈ before, y.1 ≠ ep) :
    ruleComplete ep s = rulesMet (modItg (fun i => { i with complete := ep, waiting := after }) s) := by
  have waits : (s.itg.waiting.any fun y => y.1 == ep) = true := by simp [h]
  have rest : ((s.itg.waiting.dropWhile fun y => y.1 != ep).drop 1) = after := by
    rw [h, List.dropWhile_append_of_pos (by simpa using older)]
    simp
  unfold ruleComplete
  rw [if_pos waits]
  simp only [modItg, rest]

/-- The report of an epoch that does not wait changes nothing. -/
theorem ruleComplete_unknown {s : Rc8} {ep : Nat} (h : ∀ y ∈ s.itg.waiting, y.1 ≠ ep) : ruleComplete ep s = s := by
  have none_waits : (s.itg.waiting.any fun y => y.1 == ep) = false := by simpa using h
  unfold ruleComplete
  simp [none_waits]

/-- No rules of new code wait where no epoch waits. -/
theorem codeWaits_of_waiting_nil {s : Rc8} (h : s.itg.waiting = []) : codeWaits s = false := by
  unfold codeWaits
  split
  · rfl
  · simp [ruleDone, h]

/-! ### A release that begins -/

@[simp] theorem tellRelease_run (t : Fin 8) (released : Bool) (time mono : Nat) (s : Rc8) : (tellRelease t released time mono s).run = s.run := by
  unfold tellRelease
  split <;> simp

/-- A cycle that begins runs its task on a snapshot of its time, and keeps the held releases. -/
theorem beginCycle_run (t : Fin 8) (debug : Bool) (time mono : Nat) (s : Rc8) :
    ((beginCycle t debug time mono s).run.tasks[t]).st = .running ∧ ((beginCycle t debug time mono s).run.tasks[t]).snap.time = time ∧
    (beginCycle t debug time mono s).run.heldReleases = s.run.heldReleases := by
  unfold beginCycle beginWith
  refine ⟨?st, ?time, ?held⟩
  case st => simp
  case time => simp
  case held =>
    simp only [modTask, modRun_run, modPair_run]
    repeat' split
    all_goals rfl

/-- A release of a waiting task in RUN begins its cycle, once no rules of new code wait. -/
theorem decideRelease_begins {s : Rc8} {t : Fin 8} (hs : isStandby s = false) (hm : s.run.mode = .run) (ht : (s.run.tasks[t]).st = .waiting)
    (hw : codeWaits s = false) (time mono : Nat) :
    decideRelease t time mono s = tellRelease t true time mono (beginCycle t false time mono s) := by
  unfold decideRelease ownRelease
  rw [hs, if_neg Bool.false_ne_true, hm]
  simp only [ht, hw]
  rfl

/-- The one release that is held begins where no session and no epoch waits. -/
theorem rulesMet_begins {s : Rc8} {k : Fin 8} {time mono : Nat} (sess : s.itg.sessWaits = []) (epochs : s.itg.waiting = [])
    (held : s.run.heldReleases = [(k, time, mono)]) (mode : s.run.mode = .run) (task : (s.run.tasks[k]).st = .waiting)
    (standby : isStandby s = false) :
    rulesMet s = tellRelease k true time mono (beginCycle k false time mono (modRun (fun r => { r with heldReleases := [] }) s)) := by
  rw [rulesMet_noSession sess, codeWaits_of_waiting_nil epochs, if_neg Bool.false_ne_true, held]
  exact decideRelease_begins (s := modRun (fun r => { r with heldReleases := [] }) s) standby mode task (codeWaits_of_waiting_nil epochs) time mono

/-! ### ACU_RELEASE -/

/-- ACU_RELEASE clears the bit of its master, closes the master's open log entries, and ends its command. -/
theorem acuRelease_released (e : Exec) (s : Rc8) :
    (∀ j : Nat, j < 16 → (acuRelease e s).itg.frozen.getLsbD j = (s.itg.frozen.getLsbD j && decide (j ≠ u8At e.req 0))) ∧
    (∀ y ∈ (acuRelease e s).itg.asv, y.master.val = u8At e.req 0 → y.st ≠ 0) ∧
    (acuRelease e s).execs = s.marked e.id (.ended .done []) := by
  have itg : (acuRelease e s).itg = { s.itg with
      frozen := s.itg.frozen &&& ~~~(1#16 <<< u8At e.req 0)
      asv := s.itg.asv.map fun y => if y.master.val = u8At e.req 0 ∧ y.st = 0 then { y with st := 2 } else y } := by
    simp [acuRelease, masterReleased]
  rw [itg]
  refine ⟨fun j hj => getLsbD_clear_master _ _ hj, fun y hy hm => ?_, ?_⟩
  · obtain ⟨z, -, rfl⟩ := List.mem_map.mp hy
    by_cases opened : z.master.val = u8At e.req 0 ∧ z.st = 0
    · rw [if_pos opened]
      exact Nat.succ_ne_zero 1
    · rw [if_neg opened] at hm ⊢
      exact fun st => opened ⟨hm, st⟩
  · unfold acuRelease masterReleased
    rw [endWith_eq]
    rfl

/-- Settles O49: one lemma per clause. -/
theorem accessControl : Obligations.AccessControl := by
  unfold Obligations.AccessControl
  refine ⟨fun s x hk hl hm ha hi => ?transactions, fun s p => rulesFor_host s.toRc8 p, fun s source => rfl, fun s ns ep since hns hw => ?late,
    fun s ep before after x hw older hs hr => ?complete, fun s ep hw => act_eq_of_eq (g := id) (ruleComplete_unknown hw),
    fun s ep time mono x k hw hs hr mode task standby => ?release, fun s p m e he _ => ?acu⟩
  case transactions =>
    have checked := accessViolation_next s hk hl hm ha
    refine ⟨fun hc other => ?_, fun p hc port link kind bar2 => ?_, fun hc => ⟨_, checked, rfl, accessCheck_log hi hc⟩⟩
    · rw [checked, after_congr (g := id) ((accessCheck_allowed hi hc).trans (allowed_module other))]
      rfl
    · have answered := (accessCheck_allowed hi hc).trans (allowed_bar2 port kind bar2)
      refine ⟨fun clean => checked.trans (congrArg _ (after_congr ?_)), fun marked => checked.trans (congrArg _ (after_congr ?_))⟩
      · rw [answered, clean]; rfl
      · rw [answered, marked]; rfl
  case late =>
    refine ⟨_, actIf_eq (decide_eq_true hns) "RULE_EPOCH_LATE" (ruleLate ns) s, rfl, ?_⟩
    rw [State.after_toRc8, ruleLate_eq hw]
    exact raise_frame ..
  case complete =>
    refine act_eq_of_eq ((ruleComplete_eq hw older).trans ?_)
    exact rulesMet_idle hs hr
  case release =>
    refine leads_of_act rfl ?_
    have begins : ruleComplete ep s.toRc8 = tellRelease k true time mono (beginCycle k false time mono
        (modRun (fun r => { r with heldReleases := [] }) (modItg (fun i => { i with complete := ep, waiting := [] }) s.toRc8))) := by
      refine (ruleComplete_eq (before := []) hw (by simp)).trans (rulesMet_begins ?_ ?_ ?_ ?_ ?_ ?_)
      exacts [hs, rfl, hr, mode, task, standby]
    rw [State.after_toRc8, begins, tellRelease_run]
    exact beginCycle_run ..
  case acu =>
    have released : (s.after (runCmd 0x0901 p m acuRelease)).toRc8 = acuRelease e s.toRc8 := runCmd_found he acuRelease
    refine leads_of_act rfl ?_
    rw [released]
    exact acuRelease_released e s.toRc8

end Sys2Proof.Machine
end

section
/-! SUPPORT. Plant time: what its state machine, a step and a PTP message leave, and the statement about them (03 R94, R95; 13 R424 to
R431, R436, R441). -/

namespace Sys2Proof.Machine

open Sys2Proof

/-! ### The time state (13 R424 to R427) -/

/-- Telling the partner of the time changes what the pair link changes, and nothing else. -/
theorem tellTime_frame (op : PairOp) (round : Nat) (s : Rc8) :
    tellTime op round s = { s with pair := (tellTime op round s).pair, out := (tellTime op round s).out } := by
  unfold tellTime
  split
  · exact plkSend_frame _ _ _ s
  · rfl

@[simp] theorem tellTime_clk (op : PairOp) (round : Nat) (s : Rc8) : (tellTime op round s).clk = s.clk := by
  rw [tellTime_frame]
@[simp] theorem tellTime_rnd (op : PairOp) (round : Nat) (s : Rc8) : (tellTime op round s).rnd = s.rnd := by
  rw [tellTime_frame]
@[simp] theorem tellTime_run (op : PairOp) (round : Nat) (s : Rc8) : (tellTime op round s).run = s.run := by
  rw [tellTime_frame]
@[simp] theorem tellTime_tim (op : PairOp) (round : Nat) (s : Rc8) : (tellTime op round s).tim = s.tim := by
  rw [tellTime_frame]
@[simp] theorem tellTime_execs (op : PairOp) (round : Nat) (s : Rc8) : (tellTime op round s).execs = s.execs := by
  rw [tellTime_frame]

/-- A change of the time state sets it and starts or ends the hour of HOLDOVER; the same state changes nothing. -/
theorem timeGoto_tim (st : TimeSt) (s : Rc8) :
    (timeGoto st s).tim = if s.tim.st = st then s.tim else
      { s.tim with st := st, holdFrom := if st = .holdover then secOf s.clk.ptu else 0,
                   holdAt := if st = .holdover then some s.clk.refosc else none } := by
  unfold timeGoto
  dsimp only
  split <;> simp

theorem timeGoto_stepAt (st : TimeSt) (s : Rc8) : (timeGoto st s).tim.stepAt = s.tim.stepAt := by
  rw [timeGoto_tim]; split <;> rfl
theorem timeGoto_steps (st : TimeSt) (s : Rc8) : (timeGoto st s).tim.steps = s.tim.steps := by
  rw [timeGoto_tim]; split <;> rfl
@[simp] theorem timeGoto_clk (st : TimeSt) (s : Rc8) : (timeGoto st s).clk = s.clk := by
  unfold timeGoto; dsimp only; split <;> simp
@[simp] theorem timeGoto_rnd (st : TimeSt) (s : Rc8) : (timeGoto st s).rnd = s.rnd := by
  unfold timeGoto; dsimp only; split <;> simp
@[simp] theorem timeGoto_run (st : TimeSt) (s : Rc8) : (timeGoto st s).run = s.run := by
  unfold timeGoto; dsimp only; split <;> simp
@[simp] theorem timeGoto_execs (st : TimeSt) (s : Rc8) : (timeGoto st s).execs = s.execs := by
  unfold timeGoto; dsimp only; split <;> simp

/-- After a change of the time state that state is in force. -/
theorem timeGoto_st (st : TimeSt) (s : Rc8) : (timeGoto st s).tim.st = st := by
  rw [timeGoto_tim]
  split
  · assumption
  · rfl


/-- Disciplining changes the clock's increment alone. -/
@[simp] theorem discipline_tim (off : Int) (s : Rc8) : (discipline off s).tim = s.tim := rfl
@[simp] theorem discipline_rnd (off : Int) (s : Rc8) : (discipline off s).rnd = s.rnd := rfl
@[simp] theorem discipline_run (off : Int) (s : Rc8) : (discipline off s).run = s.run := rfl

/-- A refusal takes the next number and keeps the offset it refused. -/
@[simp] theorem refuseJump_tim (off : Int) (s : Rc8) :
    (refuseJump off s).tim = { s.tim with refSeq := (s.tim.refSeq + 1) % 2 ^ 32, refusal := (s.tim.refSeq + 1) % 2 ^ 32,
                                          offset := off, refusals := inc32 s.tim.refusals } := rfl
@[simp] theorem refuseJump_rnd (off : Int) (s : Rc8) : (refuseJump off s).rnd = s.rnd := rfl
@[simp] theorem refuseJump_run (off : Int) (s : Rc8) : (refuseJump off s).run = s.run := rfl

/-- The newest offset of a step that waits is kept. -/
@[simp] theorem recordOffset_tim (off : Int) (s : Rc8) : (recordOffset off s).tim = { s.tim with offset := off } := by
  unfold recordOffset; dsimp only; split <;> simp
@[simp] theorem recordOffset_rnd (off : Int) (s : Rc8) : (recordOffset off s).rnd = s.rnd := by
  unfold recordOffset; dsimp only; split <;> simp
@[simp] theorem recordOffset_run (off : Int) (s : Rc8) : (recordOffset off s).run = s.run := by
  unfold recordOffset; dsimp only; split <;> simp

/-- A step that is fixed keeps its round and its command, answers the refusal and is pending. -/
theorem fixStep_tim (b : Nat) (exec : Option Nat) (s : Rc8) :
    (fixStep b exec s).tim.stepAt = some b ∧ (fixStep b exec s).tim.st = .stepPending ∧
    (fixStep b exec s).tim.refusal = 0 ∧ (fixStep b exec s).tim.exec = exec := by
  rw [fixStep, tellTime_tim]
  refine ⟨?_, timeGoto_st _ _, ?_, ?_⟩ <;> rw [timeGoto_tim] <;> split <;> rfl
@[simp] theorem fixStep_rnd (b : Nat) (exec : Option Nat) (s : Rc8) : (fixStep b exec s).rnd = s.rnd := by simp [fixStep]
@[simp] theorem fixStep_run (b : Nat) (exec : Option Nat) (s : Rc8) : (fixStep b exec s).run = s.run := by simp [fixStep]
@[simp] theorem fixStep_execs (b : Nat) (exec : Option Nat) (s : Rc8) : (fixStep b exec s).execs = s.execs := by simp [fixStep]

/-- What plant time keeps of a measurement: the offset, the mean path delay and the last three offsets (13 R424). -/
def PlantTime.measured (t : PlantTime) : Int × Nat × List Int := (t.last, t.delay, t.recent)

theorem timeGoto_measured (st : TimeSt) (s : Rc8) : (timeGoto st s).tim.measured = s.tim.measured := by
  rw [timeGoto_tim]
  split <;> rfl

theorem fixStep_measured (b : Nat) (exec : Option Nat) (s : Rc8) : (fixStep b exec s).tim.measured = s.tim.measured := by
  rw [fixStep, tellTime_tim, timeGoto_measured]
  rfl

/-- The state machine keeps the measurement that drives it. -/
theorem timeOffset_measured (jump : Bool) (off : Int) (s : Rc8) : (timeOffset jump off s).tim.measured = s.tim.measured := by
  have recorded : (recordOffset off s).tim.measured = s.tim.measured := by rw [recordOffset_tim]; rfl
  unfold timeOffset
  split
  case h_1 => exact timeGoto_measured _ _
  case h_2 =>
    split
    · exact fixStep_measured _ _ _
    · exact timeGoto_measured _ _
  case h_3 => rfl
  case h_4 => exact timeGoto_measured _ _
  case h_5 => exact timeGoto_measured _ _
  case h_6 =>
    split
    · rfl
    · exact recorded
  case h_7 => exact recorded

/-- The time state after a measurement: a step that waits stays, an offset within the threshold locks, and a jump leads to HOLDOVER
or, at the first lock of a stopped module that may, to a step (R426). -/
theorem timeOffset_st (jump : Bool) (off : Int) (s : Rc8) :
    (timeOffset jump off s).tim.st =
      if s.tim.st = .stepPending then .stepPending
      else if jump = false then .locked
      else if s.tim.st = .freeRunning ∧ bitAt s.nv.ptp.flags 2 = true ∧ s.run.mode = .stop then .stepPending
      else .holdover := by
  unfold timeOffset
  split
  case h_1 hst => simp [timeGoto_st, hst]
  case h_2 hst =>
    split
    next first => simp [(fixStep_tim _ _ _).2.1, hst, first]
    next first => rw [timeGoto_st]; simp [hst, first]
  case h_3 hst => simp [hst]
  case h_4 hst => simp [timeGoto_st, hst]
  case h_5 hst => simp [timeGoto_st, hst]
  case h_6 hst =>
    split
    · simp [hst]
    · simp [hst]
  case h_7 hst => simp [hst]

/-- A measurement leaves the rounds. -/
theorem timeOffset_rnd (jump : Bool) (off : Int) (s : Rc8) : (timeOffset jump off s).rnd = s.rnd := by
  unfold timeOffset
  split
  case h_2 | h_6 => split <;> simp
  all_goals simp

/-- A measurement leaves the runtime. -/
theorem timeOffset_run (jump : Bool) (off : Int) (s : Rc8) : (timeOffset jump off s).run = s.run := by
  unfold timeOffset
  split
  case h_2 | h_6 => split <;> simp
  all_goals simp

/-- A measurement counts where this module disciplines its clock by the port (R424). -/
theorem offsetMeasured_taken {e : Fin 2} {s : Rc8} (hs : isStandby s = false) (hp : (s.tim.ports[e]).st = 9)
    (hr : ptpRuns e s = true) (off : Int) (delay : Nat) :
    offsetMeasured e off delay s =
      timeOffset (beyond s.nv.ptp.threshold (((off * 65536 - s.clk.residual) :: s.tim.recent).take 3)) off
        (modTim (fun t => { t with last := off, delay := delay, recent := ((off * 65536 - s.clk.residual) :: s.tim.recent).take 3 }) s) :=
  if_neg (by simpa [hs, hr] using hp)

/-- It does not count on a standby, nor on a port that is not SLAVE. -/
theorem offsetMeasured_ignored {e : Fin 2} {s : Rc8} (h : isStandby s = true ∨ (s.tim.ports[e]).st ≠ 9) (off : Int) (delay : Nat) :
    offsetMeasured e off delay s = s :=
  if_pos (h.imp_right .inl)

/-! ### Lost sources and long holdover (13 R426, R427) -/

/-- A step that is cancelled leaves the rounds, the clock and the time state. -/
theorem cancelStep_kept (s : Rc8) :
    (cancelStep s).tim = { s.tim with stepAt := none, exec := none } ∧ (cancelStep s).rnd = s.rnd ∧ (cancelStep s).clk = s.clk := by
  simp [cancelStep]

/-- HOLDOVER is entered from another state with the clock's time as its start. -/
theorem timeGoto_holdover {s : Rc8} (h : s.tim.st ≠ .holdover) :
    (timeGoto .holdover s).tim = { s.tim with st := .holdover, holdFrom := secOf s.clk.ptu, holdAt := some s.clk.refosc } := by
  rw [timeGoto_tim, if_neg h]
  rfl

/-- A lost source does nothing while no source is followed. -/
theorem timeLost_idle {s : Rc8} (hs : isStandby s = false) (h : s.tim.st = .freeRunning ∨ s.tim.st = .holdover) : timeLost s = s := by
  rcases h with h | h <;> simp [timeLost, hs, h]

/-- A lost source leads from LOCKED to HOLDOVER. -/
theorem timeLost_locked {s : Rc8} (hs : isStandby s = false) (h : s.tim.st = .locked) : timeLost s = timeGoto .holdover s := by
  simp [timeLost, hs, h]

/-- A lost source cancels the step that waits and leads to HOLDOVER. -/
theorem timeLost_stepPending {s : Rc8} (hs : isStandby s = false) (h : s.tim.st = .stepPending) :
    timeLost s = timeGoto .holdover (cancelStep s) := by
  simp [timeLost, hs, h]

/-- Plant time changes at an instant of REFOSC as it changes before it. -/
theorem modTim_atRefosc (f : PlantTime → PlantTime) (target : Nat) (s : Rc8) :
    modTim f (atRefosc target s) = { atRefosc target s with tim := f s.tim } := rfl

/-- HOLDOVER_LONG names the hour's end once. -/
theorem holdoverLong_eq {s : Rc8} {t0 : Nat} (hat : s.tim.holdAt = some t0) (h : s.tim.st = .holdover) :
    holdoverLong s = raise { src := 88, reason := 0x04, sev := .warning, p0 := lo32 s.tim.holdFrom, p1 := 0, p2 := 0 }
      { atRefosc (t0 + 3600000000000) s with tim := { s.tim with holdAt := none } } := by
  unfold holdoverLong
  simp only [hat]
  rw [if_pos h, modTim_atRefosc]

/-! ### Steps (03 R94, R95; 13 R428, R441) -/

/-- A step is accepted where no other change of the numbering waits. -/
theorem acceptStep_fixed {e : Exec} {s : Rc8} (h0 : (s.sch[0]).pending = none) (h1 : (s.sch[1]).pending = none) (hc : s.chg.fixed = false) :
    acceptStep e s = fixStep (max (roundAfter 1000000 s) (u64At e.req 8)) (some e.id) (pendNow e s) :=
  if_neg (by simp [h0, h1, hc])

/-- A command that answers PENDING waits on. -/
theorem pendNow_execs (e : Exec) (s : Rc8) : (pendNow e s).execs = s.markedLong e.id .waiting := by
  unfold pendNow
  dsimp only
  split <;> simp [modExec, Rc8.markedLong]

/-- What a step of plant time is about: the clock, the rounds, and the state of plant time. -/
def Rc8.timing (s : Rc8) : Clock × Rounds × PlantTime := (s.clk, s.rnd, s.tim)

/-- A fold keeps what every step keeps. -/
theorem foldl_keeps {α β : Type} (part : Rc8 → β) (g : Rc8 → α → Rc8) (h : ∀ s x, part (g s x) = part s) (l : List α) (s : Rc8) :
    part (l.foldl g s) = part s := by
  induction l generalizing s with
  | nil => rfl
  | cons x l ih => rw [List.foldl_cons, ih, h]

/-- An event leaves the time. -/
theorem raise_timing (e : Ev) (s : Rc8) : (raise e s).timing = s.timing := by simp [Rc8.timing]

/-- A LATE frame leaves the time. -/
theorem dropLate_timing (e : Fin 2) (f : EthFrame) (s : Rc8) : (dropLate e f s).timing = s.timing := by
  unfold dropLate Rc8.timing
  dsimp only
  split <;> simp [ethCount]

/-- The frames that a step skips leave the time. -/
theorem dropSkipped_timing (e : Fin 2) (s : Rc8) : (dropSkipped e s).timing = s.timing :=
  foldl_keeps Rc8.timing _ (fun s f => dropLate_timing e f s) _ _

/-- Messages on the pair link leave the time. -/
theorem plkSend_timing (k g : Nat) (b : PlkBody) (s : Rc8) : (plkSend k g b s).timing = s.timing := by
  rw [plkSend_frame]
  rfl

/-- The candidates of a waymark leave the time. -/
theorem offerCandidate_timing (w : Nat) (s : Rc8) : (offerCandidate w s).timing = s.timing := by
  have told : ∀ l : List Nat, (l.foldl (fun s x => plkSend 0x20 0 (.apply .waymark x) s) s).timing = s.timing :=
    fun l => foldl_keeps Rc8.timing _ (fun s x => plkSend_timing _ _ _ s) l s
  unfold offerCandidate
  dsimp only
  split
  · exact told _
  · rfl

/-- The waymark's new number leaves the time. -/
theorem renumberCandidate_timing (b : Nat) (k : Int) (s : Rc8) : (renumberCandidate b k s).timing = s.timing := by
  unfold renumberCandidate
  split
  · rfl
  · split
    · rfl
    · split
      · rfl
      · exact offerCandidate_timing _ _

/-- A module whose clock steps by k whole periods and slews the rest out, and whose LATE frames are gone (03 R94; 13 R436). -/
def Rc8.jumped (k delta : Int) (s : Rc8) : Rc8 :=
  dropSkipped 1 (dropSkipped 0 { s with
    clk := { s.clk with ptu := ((s.clk.ptu : Int) + k * ((s.rnd.period * fracPerNs : Nat) : Int)).toNat,
                        residual := delta - k * ((s.rnd.period * fracPerNs : Nat) : Int) } })

/-- The clock steps, and the rounds and the state of plant time stay. -/
theorem jumped_timing (k delta : Int) (s : Rc8) :
    (s.jumped k delta).timing =
      ({ s.clk with ptu := ((s.clk.ptu : Int) + k * ((s.rnd.period * fracPerNs : Nat) : Int)).toNat,
                    residual := delta - k * ((s.rnd.period * fracPerNs : Nat) : Int) }, s.rnd, s.tim) :=
  (dropSkipped_timing 1 _).trans (dropSkipped_timing 0 _)

/-- A step moves the clock, and only where it skips whole periods the rounds take new numbers (03 R95). -/
theorem applyStep_timing (b : Nat) (delta : Int) (s : Rc8) {k : Int} (hk : k = roundDivAway delta (s.rnd.period * fracPerNs)) :
    (applyStep b delta s).clk = (s.jumped k delta).clk ∧
    (applyStep b delta s).rnd.round = (if k = 0 then s.rnd.round else ((s.rnd.round : Int) + k).toNat) ∧
    (applyStep b delta s).tim = s.tim := by
  have jumps := jumped_timing k delta s
  have rnd : (s.jumped k delta).rnd = s.rnd := congrArg (·.2.1) jumps
  have tim : (s.jumped k delta).tim = s.tim := congrArg (·.2.2) jumps
  subst hk
  unfold applyStep
  extract_lets unit k r clk s1 first s2 rounds s3
  have jumped : s1 = s.jumped k delta := rfl
  clear_value s1
  subst jumped
  split
  · exact ⟨rfl, congrArg Rounds.round rnd, tim⟩
  · have renumbers : _ = s3.timing := (renumberCandidate_timing b k _).trans (raise_timing
      { src := 91, reason := 0x02, sev := .warning, p0 := s32Param k, p1 := lo32 first, p2 := s32Param (roundDivAway r fracPerNs) } s3)
    refine ⟨congrArg (·.1) renumbers, (congrArg (·.2.1.round) renumbers).trans ?_, (congrArg (·.2.2) renumbers).trans tim⟩
    exact congrArg (fun x : Rounds => ((x.round : Int) + k).toNat) rnd

/-- At its boundary a step that waits takes effect, its command ends with DONE and the time is LOCKED. -/
theorem stepBoundary_eq {s : Rc8} {b : Nat} (hs : isStandby s = false) (hst : s.tim.st = .stepPending) (hat : s.tim.stepAt = some b) :
    stepBoundary s = endOpt s.tim.exec .done (timeGoto .locked (timeStepped s.rnd.period (s.tim.offset * 65536)
      (applyStep b (s.tim.offset * 65536)
        (modTim (fun t => { t with stepAt := none, exec := none, steps := inc32 t.steps }) (atPtu (b * s.rnd.period * fracPerNs) s))))) := by
  simp [stepBoundary, hs, hst, hat]

/-- TIME_STEPPED leaves the time. -/
theorem timeStepped_timing (period : Nat) (delta : Int) (s : Rc8) : (timeStepped period delta s).timing = s.timing :=
  raise_timing _ s

/-- What a step leaves at its boundary: the clock and the round number as it moves them, and the time LOCKED with no step waiting. -/
theorem stepBoundary_timing {s : Rc8} {b : Nat} {k : Int} (hs : isStandby s = false) (hst : s.tim.st = .stepPending)
    (hat : s.tim.stepAt = some b) (hk : k = roundDivAway (s.tim.offset * 65536) (s.rnd.period * fracPerNs)) :
    (stepBoundary s).tim.st = .locked ∧ (stepBoundary s).tim.stepAt = none ∧ (stepBoundary s).tim.steps = inc32 s.tim.steps ∧
    (stepBoundary s).rnd.round = (if k = 0 then s.rnd.round else ((s.rnd.round : Int) + k).toNat) ∧
    (stepBoundary s).clk.residual = s.tim.offset * 65536 - k * ((s.rnd.period * fracPerNs : Nat) : Int) ∧
    (stepBoundary s).clk.ptu =
      (((s.clk.toPtu (b * s.rnd.period * fracPerNs)).ptu : Int) + k * ((s.rnd.period * fracPerNs : Nat) : Int)).toNat := by
  rw [stepBoundary_eq hs hst hat]
  generalize hb : b * s.rnd.period * fracPerNs = at_
  obtain ⟨clk, round, tim⟩ := applyStep_timing b (s.tim.offset * 65536)
    (modTim (fun t => { t with stepAt := none, exec := none, steps := inc32 t.steps }) (atPtu at_ s)) hk
  generalize applyStep b (s.tim.offset * 65536) _ = u at clk round tim
  have stepped := timeStepped_timing s.rnd.period (s.tim.offset * 65536) u
  have clk' := (congrArg (·.1) stepped).trans (clk.trans (congrArg (·.1) (jumped_timing _ _ _)))
  have tim' := (congrArg (·.2.2) stepped).trans tim
  generalize timeStepped s.rnd.period (s.tim.offset * 65536) u = v at stepped clk' tim'
  simp only [endOpt_tim, endOpt_rnd, endOpt_clk, timeGoto_rnd, timeGoto_clk]
  refine ⟨timeGoto_st _ _, ?_, ?_, ?_, congrArg Clock.residual clk', congrArg Clock.ptu clk'⟩
  · rw [timeGoto_stepAt]
    exact congrArg PlantTime.stepAt tim'
  · rw [timeGoto_steps]
    exact congrArg PlantTime.steps tim'
  · exact (congrArg (·.2.1.round) stepped).trans round

/-! ### PTP messages (13 R430, R431) -/

/-- A frame that joins a queue leaves plant time. -/
theorem startFrame_tim (e : Fin 2) (s : Rc8) : (startFrame e s).tim = s.tim := by
  unfold startFrame
  dsimp only
  split
  · rfl
  · split
    · rfl
    · split <;> rfl

theorem queueFrame_tim (e : Fin 2) (f : EthFrame) (s : Rc8) : (queueFrame e f s).tim = s.tim := by
  unfold queueFrame
  dsimp only
  split
  · rfl
  · split
    · exact congrArg (·.2.2) (dropLate_timing e f s)
    · exact startFrame_tim e _

/-- Sending PTP messages leaves plant time. -/
theorem ptpSend_tim (e : Fin 2) (messageType seq : Nat) (s : Rc8) : (ptpSend e messageType seq s).tim = s.tim :=
  queueFrame_tim e _ s

theorem ptpSendTwo_tim (e : Fin 2) (first second seq : Nat) (s : Rc8) : (ptpSendTwo e first second seq s).tim = s.tim := by
  unfold ptpSendTwo
  dsimp only
  split
  · exact ptpSend_tim ..
  · exact (ptpSend_tim ..).trans (ptpSend_tim ..)

/-- A frame without a launch time waits in its queue while its port is sending. -/
theorem queueFrame_waits {e : Fin 2} {f : EthFrame} {s : Rc8} (hf : f.launch = none) (full : txFull s.eth[e] f.queue = false)
    (busy : (s.eth[e]).sending.isSome = true) :
    queueFrame e f s = { s with eth := s.eth.set e { s.eth[e] with queue := (s.eth[e]).queue ++ [f] } } := by
  have started : startFrame e (modEth e (fun x => { x with queue := x.queue ++ [f] }) s) = modEth e (fun x => { x with queue := x.queue ++ [f] }) s :=
    if_pos (by simpa using .inl busy)
  rw [queueFrame, full]
  simp only [lateAtOnce, hf]
  exact started

/-- A port that takes a state has it, and the other port, the sequences and the grandmaster stay. -/
theorem setPtpPort_st (e : Fin 2) (st : Nat) (s : Rc8) (k : Fin 2) :
    ((setPtpPort e st s).tim.ports[k]).st = if e = k then st else (s.tim.ports[k]).st := by
  unfold setPtpPort
  dsimp only
  split
  next same =>
    split
    next ek => subst ek; exact same
    next => rfl
  next => 
    simp [Fin.ext_iff]
    split <;> rfl

theorem setPtpPort_seq (e : Fin 2) (st : Nat) (s : Rc8) (k : Fin 2) :
    ((setPtpPort e st s).tim.ports[k]).seq = (s.tim.ports[k]).seq := by
  unfold setPtpPort
  dsimp only
  split
  · rfl
  · simp
    split
    next ek => simp [← ek]
    next => rfl

theorem setPtpPort_gm (e : Fin 2) (st : Nat) (s : Rc8) : (setPtpPort e st s).tim.gm = s.tim.gm := by
  unfold setPtpPort; dsimp only; split <;> simp
theorem setPtpPort_eth (e : Fin 2) (st : Nat) (s : Rc8) : (setPtpPort e st s).eth = s.eth := by
  unfold setPtpPort; dsimp only; split <;> simp

theorem setGrandmaster_gm (e : Fin 2) (gm : Nat) (s : Rc8) : (setGrandmaster e gm s).tim.gm = gm := by
  unfold setGrandmaster
  split
  · assumption
  · simp
theorem setGrandmaster_ports (e : Fin 2) (gm : Nat) (s : Rc8) : (setGrandmaster e gm s).tim.ports = s.tim.ports := by
  unfold setGrandmaster; split <;> simp
theorem setGrandmaster_eth (e : Fin 2) (gm : Nat) (s : Rc8) : (setGrandmaster e gm s).eth = s.eth := by
  unfold setGrandmaster; split <;> simp

/-- The state that a port takes of a decision: LISTENING for MASTER on a module that may not be grandmaster, where no port is SLAVE
(R431; log 98). -/
def Rc8.portTakes (s : Rc8) (d : Nat × Nat × Nat) (x : Nat) : Nat :=
  if x = 6 ∧ (d.1 % 10 == 9 || d.2.1 % 10 == 9) = false ∧ mayMaster s = false then 4 else x

/-- The best master clock algorithm decides the sequences of no port, and no frame of plant Ethernet. -/
theorem ptpDecide_seq (e : Fin 2) (kind : Nat) (content : List Byte) (s : Rc8) (k : Fin 2) :
    ((ptpDecide e kind content s).tim.ports[k]).seq = (s.tim.ports[k]).seq := by
  unfold ptpDecide
  extract_lets d slave st s1 s2
  have first : (s1.tim.ports[k]).seq = (s.tim.ports[k]).seq := by
    unfold s1
    split
    · exact setPtpPort_seq ..
    · rfl
  have second : (s2.tim.ports[k]).seq = (s1.tim.ports[k]).seq := by
    unfold s2
    split
    · exact setPtpPort_seq ..
    · rfl
  rw [setGrandmaster_ports, second, first]

/-- With PTP on both ports each takes its state of the decision, and the grandmaster is the one selected. -/
theorem ptpDecide_both {s : Rc8} (h0 : bitAt s.nv.ptp.mask 0 = true) (h1 : bitAt s.nv.ptp.mask 1 = true)
    (e : Fin 2) (kind : Nat) (content : List Byte) {d : Nat × Nat × Nat}
    (hd : Config.ptpDecision s.nv.ptp ((s.tim.ports[0]).st, (s.tim.ports[1]).st) s.tim.gm e.val kind content = d) :
    ((ptpDecide e kind content s).tim.ports[0]).st = s.portTakes d (d.1 % 10) ∧
    ((ptpDecide e kind content s).tim.ports[1]).st = s.portTakes d (d.2.1 % 10) ∧
    (ptpDecide e kind content s).tim.gm = d.2.2 % 2 ^ 64 ∧ (ptpDecide e kind content s).eth = s.eth := by
  have both : ptpDecide e kind content s = setGrandmaster e (d.2.2 % 2 ^ 64)
      (setPtpPort 1 (s.portTakes d (d.2.1 % 10)) (setPtpPort 0 (s.portTakes d (d.1 % 10)) s)) := by
    unfold ptpDecide
    simp only [hd, if_pos h0, if_pos h1]
    rfl
  rw [both, setGrandmaster_ports, setGrandmaster_gm, setGrandmaster_eth, setPtpPort_eth, setPtpPort_eth]
  refine ⟨?_, setPtpPort_st 1 _ _ 1, rfl, rfl⟩
  exact (setPtpPort_st 1 _ _ 0).trans (setPtpPort_st 0 _ s 0)

/-- A module that may be grandmaster takes the decision as it is. -/
theorem portTakes_mayMaster {s : Rc8} (h : mayMaster s = true) (d : Nat × Nat × Nat) (x : Nat) : s.portTakes d x = x :=
  if_neg (by simp [h])

/-- A module that may not be grandmaster has a SLAVE port, or no MASTER port. -/
theorem portTakes_notMaster {s : Rc8} (h : mayMaster s = false) (d : Nat × Nat × Nat) :
    s.portTakes d (d.1 % 10) = 9 ∨ s.portTakes d (d.2.1 % 10) = 9 ∨
      (s.portTakes d (d.1 % 10) ≠ 6 ∧ s.portTakes d (d.2.1 % 10) ≠ 6) := by
  by_cases first : d.1 % 10 = 9
  · exact .inl (by simp [Rc8.portTakes, first])
  · by_cases second : d.2.1 % 10 = 9
    · exact .inr (.inl (by simp [Rc8.portTakes, second]))
    · have noMaster : ∀ x, s.portTakes d x ≠ 6 := by
        intro x taken
        unfold Rc8.portTakes at taken
        by_cases six : x = 6
        · rw [if_pos ⟨six, by simp [first, second], h⟩] at taken
          exact absurd taken (by decide)
        · rw [if_neg (fun c => six c.1)] at taken
          exact six taken
      exact .inr (.inr ⟨noMaster _, noMaster _⟩)

/-- The numbering of a kind of message goes one on, modulo 2^16. -/
theorem ptpNext_seq (e : Fin 2) (kind : Fin 4) (s : Rc8) :
    (((ptpNext e kind s).2.tim.ports[e]).seq)[kind] = ((s.tim.ports[e]).seq[kind] + 1) % 65536 := by
  simp [ptpNext]

/-- A message of another domain does nothing. -/
theorem ptpMessage_otherDomain {f : PtpMsg} {s : Rc8} (h : f.domain ≠ s.nv.ptp.domain) (e : Fin 2) : ptpMessage e f s = s :=
  if_pos (by simp [h])

/-- A peer delay request is answered in the peer-to-peer profile, and by no other. -/
theorem ptpMessage_peerDelay {e : Fin 2} {f : PtpMsg} {s : Rc8} (hr : ptpRuns e s = true) (hd : dmaStopped 8 s = false)
    (hdom : f.domain = s.nv.ptp.domain) (ht : f.messageType = 2) :
    ptpMessage e f s = if s.nv.ptp.profile = 2 then ptpSendTwo e 3 10 f.seq s else s := by
  simp [ptpMessage, hr, hd, hdom, ht]

/-- The standby and management messages do nothing more. -/
theorem ptpMessage_passive {f : PtpMsg} {s : Rc8} (ht : f.messageType ≠ 2) (h : isStandby s = true ∨ f.messageType = 13) (e : Fin 2) :
    ptpMessage e f s = s := by
  unfold ptpMessage
  rw [if_neg ht, if_pos h, ite_self]

/-- An Announce on the holder or a module alone goes to the best master clock algorithm. -/
theorem ptpMessage_announce {e : Fin 2} {f : PtpMsg} {s : Rc8} (hr : ptpRuns e s = true) (hd : dmaStopped 8 s = false)
    (hdom : f.domain = s.nv.ptp.domain) (ht : f.messageType = 11) (hs : isStandby s = false) :
    ptpMessage e f s = ptpDecide e 11 f.body s := by
  simp [ptpMessage, hr, hd, hdom, ht, hs]

/-- In one step a message goes out alone. -/
theorem ptpSendTwo_oneStep {s : Rc8} (h : bitAt s.nv.ptp.flags 1 = true) (e : Fin 2) (first second seq : Nat) :
    ptpSendTwo e first second seq s = ptpSend e first seq s := by
  simp [ptpSendTwo, h]

/-- The decision that a message's interval makes first. -/
def intervalDecides (e : Fin 2) (s : Rc8) : Rc8 := if isStandby s then s else ptpDecide e 256 [] s

theorem intervalDecides_seq (e : Fin 2) (s : Rc8) (k : Fin 2) :
    ((intervalDecides e s).tim.ports[k]).seq = (s.tim.ports[k]).seq := by
  unfold intervalDecides
  split
  · rfl
  · exact ptpDecide_seq ..

/-- A message of a kind sent after the interval's decision takes the next sequence of its kind. -/
theorem interval_seq {e : Fin 2} {kind : Fin 4} {s t : Rc8} (h : t.tim = (ptpNext e kind (intervalDecides e s)).2.tim) :
    (t.tim.ports[e]).seq[kind] = ((s.tim.ports[e]).seq[kind] + 1) % 65536 := by
  rw [h, ptpNext_seq, intervalDecides_seq]

/-! ### The statement -/

/-- Settles O51: the time state machine row by row, a step by the clock and the rounds it leaves, and PTP by what a port takes of the
best master clock algorithm's decision and what it sends. -/
theorem plantTimeAndPtp : Obligations.PlantTimeAndPtp := by
  refine ⟨⟨fun s e off delay hoff hdelay => ?measurement, fun s hs => ?lost, fun s t0 hat hst => ?longHoldover,
    fun s p m e he => ?acceptStep, fun s b k hs hst hat hk => ?stepBoundary⟩,
    fun s e f hty hdom hseq hr hd => ?messages⟩
  case measurement =>
    have row : exec (.ptpOffsetMeasurement e off delay) s = act (offsetMeasured e off delay) s :=
      actIf_eq (decide_eq_true ⟨hoff, hdelay⟩) _ _ s
    refine ⟨fun h => ?ignored, fun hs hp hr => leads_of_act row ?taken⟩
    case ignored =>
      rw [row, act_eq, after_unchanged (offsetMeasured_ignored h off delay)]
    case taken =>
      rw [State.after_toRc8, offsetMeasured_taken hs hp hr]
      generalize hl : ((off * 65536 - s.clk.residual) :: s.tim.recent).take 3 = l
      have measured := timeOffset_measured (beyond s.nv.ptp.threshold l) off
        (modTim (fun t => { t with last := off, delay := delay, recent := l }) s.toRc8)
      simp only [PlantTime.measured, Prod.mk.injEq] at measured
      obtain ⟨last, delay', recent⟩ := measured
      refine ⟨last, delay', recent, timeOffset_rnd _ _ _, timeOffset_run _ _ _, ?_⟩
      rw [timeOffset_st, recent]
      rfl
  case lost =>
    refine ⟨fun h => leads_of_act rfl ?locked, fun h => leads_of_act rfl ?stepPending, fun h => ?idle⟩
    case locked =>
      rw [State.after_toRc8, timeLost_locked hs h, timeGoto_holdover (by rw [h]; decide)]
      exact ⟨rfl, rfl, rfl⟩
    case stepPending =>
      obtain ⟨tim, rnd, -⟩ := cancelStep_kept s.toRc8
      rw [State.after_toRc8, timeLost_stepPending hs h, timeGoto_stepAt, timeGoto_rnd, rnd, tim]
      exact ⟨timeGoto_st _ _, rfl, rfl⟩
    case idle => exact (act_eq _ s).trans (by rw [after_unchanged (timeLost_idle hs h)])
  case longHoldover =>
    refine leadsTo_of_act rfl ?_
    rw [holdoverLong_eq hat hst]
    exact raise_frame ..
  case acceptStep =>
    refine ⟨fun h0 h1 hc => leads_of_act rfl ?fixed, fun h => ?busy⟩
    case fixed =>
      obtain ⟨stepAt, st, refusal, exec⟩ := fixStep_tim (max (roundAfter 1000000 s.toRc8) (u64At e.req 8)) (some e.id) (pendNow e s.toRc8)
      rw [State.after_toRc8, runCmd_found he, acceptStep_fixed h0 h1 hc]
      exact ⟨stepAt, st, refusal, exec, (fixStep_execs ..).trans (pendNow_execs e _)⟩
    case busy => exact act_eq_of_eq ((runCmd_found he _).trans (if_pos h))
  case stepBoundary =>
    exact leads_of_act rfl (stepBoundary_timing hs hst hat hk)
  case messages =>
    have row : exec (.ptpMessageReceived e f) s = act (ptpMessage e f) s := actIf_eq (decide_eq_true ⟨hty, hdom, hseq⟩) _ _ s
    have stays : ∀ h : ptpMessage e f s.toRc8 = s.toRc8, exec (.ptpMessageReceived e f) s = .next s := fun h => by
      rw [row, act_eq, after_unchanged h]
    refine ⟨fun h => stays (ptpMessage_otherDomain h e), fun h2 h3 h4 => stays ?otherProfile, fun h2 h3 h4 h5 busy full => ?peerDelay,
      fun h2 h => stays (ptpMessage_passive h2 h e), fun h2 h3 hs h0 h1 may => leads_of_act row ?mayMaster,
      fun h2 h3 hs h0 h1 may => leads_of_act row ?mayNot, fun hp => leads_of_act rfl ?peerRequest, fun hst hold => ⟨leads_of_act rfl ?announce, leads_of_act rfl ?sync⟩⟩
    case otherProfile => rw [ptpMessage_peerDelay hr hd h2 h3, if_neg h4]
    case peerDelay =>
      rw [row]
      refine act_eq_of_eq ?_
      rw [ptpMessage_peerDelay hr hd h2 h3, if_pos h4, ptpSendTwo_oneStep h5]
      exact queueFrame_waits rfl full busy
    case mayMaster =>
      rw [State.after_toRc8, ptpMessage_announce hr hd h2 h3 hs, h3]
      obtain ⟨first, second, gm, eth⟩ := ptpDecide_both h0 h1 e 11 f.body rfl
      rw [first, second, gm, portTakes_mayMaster may, portTakes_mayMaster may]
      exact ⟨rfl, eth⟩
    case mayNot =>
      rw [State.after_toRc8, ptpMessage_announce hr hd h2 h3 hs]
      obtain ⟨first, second, -, -⟩ := ptpDecide_both h0 h1 e 11 f.body rfl
      rw [first, second]
      exact portTakes_notMaster may _
    case peerRequest =>
      rw [State.after_toRc8]
      refine interval_seq (kind := 3) ?_
      simp only [ptpInterval, hr, hp]
      exact ptpSend_tim ..
    case announce =>
      rw [State.after_toRc8]
      refine interval_seq (kind := 0) ?_
      simp only [ptpInterval, hr, hst, hold]
      exact ptpSend_tim ..
    case sync =>
      rw [State.after_toRc8]
      refine interval_seq (kind := 1) ?_
      simp only [ptpInterval, hr, hst, hold]
      exact ptpSendTwo_tim ..

end Sys2Proof.Machine
end

section
/-! SUPPORT. Operating modes: what asks for a change and what the change leaves at its boundary, and the statement about them (08 R261
to R269, R272; 11 R369). -/

namespace Sys2Proof.Machine

open Sys2Proof

/-! ### Requests (08 R264, R267, R272) -/

/-- Messages on the pair link leave the operations that wait. -/
theorem plkMessage_pend (k g : Nat) (b : PlkBody) (s : Rc8) : (plkMessage k g b s).pair.pend = s.pair.pend := rfl
@[simp] theorem plkSend_pend (k g : Nat) (b : PlkBody) (s : Rc8) : (plkSend k g b s).pair.pend = s.pair.pend := by
  unfold plkSend
  split
  · exact foldl_keeps (fun r => r.pair.pend) _ (fun r _ => plkMessage_pend _ _ _ r) _ _
  · rfl

/-- An operation that both modules take joins those that wait. -/
@[simp] theorem pairTell_pend (id : Option Nat) (op : PairOp) (round : Nat) (resp : List Byte) (late : Bool) (s : Rc8) :
    (pairTell id op round resp late s).pair.pend = s.pair.pend ++ [PendOp.own round op id resp late] := by
  unfold pairTell
  split
  · exact congrArg (· ++ _) (plkSend_pend _ _ _ s)
  · rfl

@[simp] theorem pairTell_run (id : Option Nat) (op : PairOp) (round : Nat) (resp : List Byte) (late : Bool) (s : Rc8) :
    (pairTell id op round resp late s).run = s.run := by
  unfold pairTell; split <;> simp
@[simp] theorem pairTell_saf (id : Option Nat) (op : PairOp) (round : Nat) (resp : List Byte) (late : Bool) (s : Rc8) :
    (pairTell id op round resp late s).saf = s.saf := by
  unfold pairTell; split <;> simp
@[simp] theorem pairTell_execs (id : Option Nat) (op : PairOp) (round : Nat) (resp : List Byte) (late : Bool) (s : Rc8) :
    (pairTell id op round resp late s).execs = s.execs := by
  unfold pairTell; split <;> simp

/-- A requested mode waits for the first boundary at least 250 µs ahead. -/
@[simp] theorem requestMode_pend (target : Mode) (cause : Nat) (exec : Option Nat) (s : Rc8) :
    (requestMode target cause exec s).pair.pend =
      s.pair.pend ++ [PendOp.own (roundAfter 250000 s) (.mode target.code cause) exec [] true] := pairTell_pend ..
@[simp] theorem requestMode_run (target : Mode) (cause : Nat) (exec : Option Nat) (s : Rc8) :
    (requestMode target cause exec s).run = s.run := pairTell_run ..
@[simp] theorem requestMode_saf (target : Mode) (cause : Nat) (exec : Option Nat) (s : Rc8) :
    (requestMode target cause exec s).saf = s.saf := pairTell_saf ..
@[simp] theorem requestMode_execs (target : Mode) (cause : Nat) (exec : Option Nat) (s : Rc8) :
    (requestMode target cause exec s).execs = s.execs := pairTell_execs ..

/-- SET_MODE asks for a mode that is not on its way yet. -/
theorem setMode_requests {e : Exec} {s : Rc8} (h : Mode.ofCode (u8At e.req 0) ≠ targetMode s) :
    setMode e s = requestMode (Mode.ofCode (u8At e.req 0)) 2 (some e.id) (waitExec e.id s) := if_neg h

/-- SET_MODE is DONE at once where its mode is in force and no other is on its way. -/
theorem setMode_inForce {e : Exec} {s : Rc8} (h : Mode.ofCode (u8At e.req 0) = s.run.mode) (ht : targetMode s = s.run.mode) :
    setMode e s = endWith e.id .done s := (if_pos (h.trans ht.symm)).trans (if_pos h)

/-- A program fault asks for STOP where the module is not on its way there. -/
theorem programFault_requests {s : Rc8} (hs : isStandby s = false) (ht : targetMode s ≠ .stop) :
    programFault s = requestMode .stop 4 none s := by
  simp [programFault, faultStop, hs, ht]

/-! ### The key (08 R262, R269; 11 R369) -/

/-- A key at STOP asks for STOP where the module is not on its way there. -/
theorem keyMode_stop {s : Rc8} (hs : isStandby s = false) (ht : targetMode s ≠ .stop) : keyMode .stop s = requestMode .stop 1 none s := by
  unfold keyMode
  rw [hs]
  cases h : targetMode s
  case stop => exact absurd h ht
  case run => rfl
  case layby => rfl

/-- What the key asks for leaves the runtime and the sessions. -/
theorem keyMode_run (k : Key) (s : Rc8) : (keyMode k s).run = s.run := by
  unfold keyMode
  repeat' split
  all_goals simp
theorem keyMode_saf (k : Key) (s : Rc8) : (keyMode k s).saf = s.saf := by
  unfold keyMode
  repeat' split
  all_goals simp

/-- Comparing the keys changes what the runtime keeps of them. -/
theorem compareKeys_kept (s : Rc8) :
    (compareKeys s).run.key = s.run.key ∧ (compareKeys s).run.mode = s.run.mode ∧ (compareKeys s).saf = s.saf ∧ (compareKeys s).pair = s.pair := by
  unfold compareKeys
  dsimp only
  split
  · split
    · simp
    · split <;> simp
  · simp

/-- What the turn of a key is about: the runtime, the sessions and the operations that wait. -/
def Rc8.keyParts (s : Rc8) : Runtime × Safety × List PendOp := (s.run, s.saf, s.pair.pend)

/-- Whether the module is ready for the token leaves the runtime, the sessions and the operations that wait. -/
theorem updateReady_keyParts (s : Rc8) : (updateReady s).keyParts = s.keyParts := by
  have ends : ∀ (k : Nat) (r : Rc8), (stepEnds k r).keyParts = r.keyParts := fun k r => by
    unfold stepEnds
    split <;> rfl
  have endsIf : ∀ (k : Nat) (c : Prop) [Decidable c] (r : Rc8), (if c then stepEnds k r else r).keyParts = r.keyParts := fun k c _ r => by
    split
    · exact ends k r
    · rfl
  have advances : (stepsAdvance s).keyParts = s.keyParts := (endsIf ..).trans ((endsIf ..).trans (endsIf ..))
  unfold updateReady
  extract_lets r
  have advanced : r.keyParts = s.keyParts := by
    unfold r
    split
    · exact advances
    · rfl
  have gained : (gainReady r).keyParts = r.keyParts := ends 8 _
  have lost : (loseReady r).keyParts = r.keyParts := rfl
  rw [← advanced]
  split
  · split
    · exact gained
    · rfl
  · split
    · exact lost
    · rfl
  · rfl

/-- What a turned key's mode is judged by: the runtime, the sessions, the pair, the clock and the rounds. -/
def Rc8.turning (s : Rc8) : Runtime × Vector (Option SafeSess) 4 × Pair × Clock × Rounds := (s.run, s.saf.sess, s.pair, s.clk, s.rnd)

/-- A turn of the key ends the session of every port. -/
theorem endSessions_turning (cause : Nat) (s : Rc8) :
    (endSessions cause s).turning = (s.run, Vector.replicate 4 none, s.pair, s.clk, s.rnd) := by
  have ended : (endSessions cause s).saf.sess = Vector.replicate 4 none := by
    unfold endSessions
    simp only [endSession_sess]
    apply Vector.ext
    intro k hk
    have ports : k = 0 ∨ k = 1 ∨ k = 2 ∨ k = 3 := by omega
    rcases ports with rfl | rfl | rfl | rfl <;> simp
  rw [Rc8.turning, ended]
  simp [endSessions]

/-- The end of the debug session leaves them. -/
theorem closeSession_turning (cause by_ : Nat) (exec : Option Nat) (s : Rc8) : (closeSession cause by_ exec s).turning = s.turning := by
  unfold closeSession
  split <;> rfl

/-- The end of trim mode leaves them. -/
theorem leaveTrim_turning (cause : Nat) (s : Rc8) : (leaveTrim cause s).turning = s.turning := by
  unfold leaveTrim
  split <;> rfl

/-- What a turn of the key on a running module leaves: the key, no session, the mode in force, and the mode it asks for. -/
theorem keyChanged_kept {k : Key} {s : Rc8} (hk : k ≠ s.run.key) (hr : svpRuns s = true) :
    (keyChanged k s).run.key = k ∧ (keyChanged k s).saf.sess = Vector.replicate 4 none ∧ (keyChanged k s).run.mode = s.run.mode ∧
    (isStandby s = false → k = .stop → targetMode s ≠ .stop →
      PendOp.own (roundAfter 250000 s) (.mode 0 1) none [] true ∈ (keyChanged k s).pair.pend) := by
  unfold keyChanged
  rw [if_neg (by simp [hk, hr])]
  extract_lets s1 s2 s3 s4
  have locked : s3.turning = s2.turning := by
    unfold s3
    split
    · exact closeSession_turning ..
    · rfl
  have turned : s4.turning = s3.turning := by
    unfold s4
    split
    · exact leaveTrim_turning ..
    · rfl
  have turning : s4.turning = ({ s.run with key := k }, Vector.replicate 4 none, s.pair, s.clk, s.rnd) :=
    turned.trans (locked.trans (endSessions_turning 3 s1))
  clear_value s4
  simp only [Rc8.turning, Prod.mk.injEq] at turning
  obtain ⟨run, sess, pair, clk, rnd⟩ := turning
  have ready := updateReady_keyParts (compareKeys (keyMode k s4))
  simp only [Rc8.keyParts, Prod.mk.injEq] at ready
  obtain ⟨readyRun, readySaf, readyPend⟩ := ready
  obtain ⟨key, mode, saf, asked⟩ := compareKeys_kept (keyMode k s4)
  rw [readyRun, readySaf, readyPend, key, mode, saf, asked, keyMode_run, keyMode_saf, run]
  refine ⟨rfl, sess, rfl, fun hs hstop ht => ?_⟩
  have standby : isStandby s4 = false := by rw [isStandby, pair]; exact hs
  have target : targetMode s4 = targetMode s := by rw [targetMode, pair, run, targetMode]
  have round : roundAfter 250000 s4 = roundAfter 250000 s := by rw [roundAfter, clk, rnd, roundAfter]
  subst hstop
  rw [keyMode_stop standby (by rwa [target]), requestMode_pend, round]
  exact List.mem_append_right _ (List.mem_singleton.2 rfl)

/-! ### The change at its boundary (08 R261, R263, R264, R266) -/

/-- A module at the boundary of the one mode change that waits, which waits no longer. -/
def Rc8.atModeBoundary (x : PendOp) (s : Rc8) : Rc8 :=
  { s with clk := s.clk.toPtu (x.round * s.rnd.period * fracPerNs), pair := { s.pair with pend := [] } }

/-- The one mode change that waits takes effect at its boundary. -/
theorem modeChangeEffect_single {s : Rc8} {x : PendOp} {target cause : Nat} (hp : s.pair.pend = [x]) (hx : x.op = .mode target cause) :
    modeChangeEffect s = applyMode (Mode.ofCode target) cause x.round x.exec (s.atModeBoundary x) := by
  have isMode : x.modeTarget.isSome = true := by simp [PendOp.modeTarget, hx]
  have first : s.pair.pend.find? (fun y => y.modeTarget.isSome) = some x := by simp [hp, isMode]
  have taken : ({ atPtu (x.round * s.rnd.period * fracPerNs) s with pair := { s.pair with
      pend := s.pair.pend.filter fun y => !(y.modeTarget.isSome && decide (y.round ≤ x.round)) } } : Rc8) = s.atModeBoundary x := by
    simp only [hp, List.filter_cons, isMode, le_refl, decide_true, Bool.and_self, Bool.not_true, List.filter_nil, Rc8.atModeBoundary]
    rfl
  unfold modeChangeEffect
  rw [first]
  simp only [applyModes, modPair, atPtu_pair, taken]
  simp only [hp, List.filter_cons, isMode, le_refl, decide_true, Bool.and_self, List.filter_nil, List.foldl_cons,
    List.foldl_nil, hx, if_true]

/-- Leaving LAYBY changes the integrity state alone. -/
theorem endTaskDebug_frame (s : Rc8) : endTaskDebug s = { s with itg := (endTaskDebug s).itg } := by
  have ends : ∀ (k : Fin 3) (r : Rc8), endSuspension k r = { r with itg := (endSuspension k r).itg } := fun k r => by
    unfold endSuspension
    dsimp only
    split <;> rfl
  unfold endTaskDebug
  dsimp only
  rw [ends 1, ends 0]
  rfl

/-- An aborted cycle leaves its task waiting; an unused task stays so. -/
theorem abortCycles_st (s : Rc8) (k : Fin 8) :
    ((abortCycles s).run.tasks[k]).st = .waiting ∨ ((abortCycles s).run.tasks[k]).st = .unused := by
  unfold abortCycles
  simp only [modRun_run, Fin.getElem_fin, vmap_getElem]
  split
  · right; assumption
  · left; rfl

theorem abortCycles_pair (s : Rc8) : (abortCycles s).pair = s.pair := rfl

/-- Publishing the stop images leaves the state of every task. -/
theorem publishStops_st (s : Rc8) (k : Fin 8) : ((publishStops s).run.tasks[k]).st = (s.run.tasks[k]).st := by
  unfold publishStops
  split
  · rfl
  · simp [publishMotion]

theorem publishStops_pair (s : Rc8) : (publishStops s).pair = s.pair := by
  unfold publishStops
  split <;> rfl

/-- Entering STOP, every task stands still with its mode, cause and round in force, and nothing more waits. -/
theorem applyMode_stop {s : Rc8} (h : s.run.mode ≠ .stop) (cause round : Nat) (exec : Option Nat) :
    (applyMode .stop cause round exec s).run.mode = .stop ∧ (applyMode .stop cause round exec s).run.lastCause = cause ∧
    (applyMode .stop cause round exec s).run.modeRound = round ∧
    (∀ k : Fin 8, ((applyMode .stop cause round exec s).run.tasks[k]).st = .waiting ∨
      ((applyMode .stop cause round exec s).run.tasks[k]).st = .unused) ∧
    (applyMode .stop cause round exec s).pair.pend = s.pair.pend := by
  have stops : applyMode .stop cause round exec s = endOpt exec .done (endOpt s.run.laybyExec .done
      (modRun (fun r => { r with laybyExec := none }) (enterStop cause round s))) := if_neg (Ne.symm h)
  rw [stops, endOpt_run, endOpt_run, endOpt_pair, endOpt_pair]
  refine ⟨rfl, rfl, rfl, fun k => ?_, ?_⟩
  · have still := abortCycles_st (endTaskDebug s) k
    rwa [← publishStops_st] at still
  · rw [modRun_pair, enterStop, modeChanged, raise_pair, modRun_pair, publishStops_pair, abortCycles_pair, endTaskDebug_frame]

/-- A task that waits halts as LAYBY begins (08 R266). -/
def haltWaiting (s : Rc8) (t : Fin 8) : Rc8 :=
  if (s.run.tasks[t]).st = .waiting then taskHalted t 1 (modTask t (fun x => { x with st := .halted }) s) else s

theorem haltWaiting_mode (s : Rc8) (t : Fin 8) : (haltWaiting s t).run.mode = s.run.mode := by
  unfold haltWaiting
  split <;> rfl

theorem haltWaiting_st (s : Rc8) (t k : Fin 8) :
    ((haltWaiting s t).run.tasks[k]).st =
      if t = k ∧ (s.run.tasks[k]).st = .waiting then .halted else (s.run.tasks[k]).st := by
  unfold haltWaiting
  by_cases waits : (s.run.tasks[t]).st = .waiting
  · rw [if_pos waits]
    by_cases same : t = k
    · subst same
      rw [if_pos ⟨rfl, waits⟩]
      simp [taskHalted]
    · rw [if_neg (fun c => same c.1)]
      simp [taskHalted, Fin.val_ne_of_ne same]
  · rw [if_neg waits, if_neg]
    rintro ⟨rfl, w⟩
    exact waits w

/-- One after another, every task of a list that waits halts, and the others go on. -/
theorem haltWaiting_all (l : List (Fin 8)) (s : Rc8) (k : Fin 8) :
    ((l.foldl haltWaiting s).run.tasks[k]).st =
      if k ∈ l ∧ (s.run.tasks[k]).st = .waiting then .halted else (s.run.tasks[k]).st := by
  induction l generalizing s with
  | nil => simp
  | cons t l ih =>
    rw [List.foldl_cons, ih, haltWaiting_st]
    generalize (s.run.tasks[k]).st = w
    by_cases same : t = k
    · by_cases waits : w = .waiting <;> simp [same, waits]
    · simp [same, Ne.symm same]

/-- The end of a SET_MODE LAYBY leaves the mode and the tasks. -/
theorem finishLayby_run (s : Rc8) : (finishLayby s).run.mode = s.run.mode ∧ (finishLayby s).run.tasks = s.run.tasks := by
  unfold finishLayby
  split
  · rw [endOpt_run]
    exact ⟨rfl, rfl⟩
  · exact ⟨rfl, rfl⟩

/-- Entering LAYBY, the tasks between two cycles halt and the running ones go on. -/
theorem applyMode_layby {s : Rc8} (h : s.run.mode = .run) (cause round : Nat) (exec : Option Nat) :
    (applyMode .layby cause round exec s).run.mode = .layby ∧
    ∀ k : Fin 8, ((applyMode .layby cause round exec s).run.tasks[k]).st =
      if (s.run.tasks[k]).st = .waiting then .halted else (s.run.tasks[k]).st := by
  have enters : applyMode .layby cause round exec s = finishLayby
      (allTasks.foldl haltWaiting (modeChanged .layby cause round (modRun (fun r => { r with laybyExec := exec }) s))) :=
    (if_neg (by rw [h]; decide)).trans (if_pos h)
  obtain ⟨mode, tasks⟩ := finishLayby_run
    (allTasks.foldl haltWaiting (modeChanged .layby cause round (modRun (fun r => { r with laybyExec := exec }) s)))
  rw [enters, mode, tasks]
  refine ⟨foldl_keeps (fun r => r.run.mode) _ haltWaiting_mode _ _, fun k => ?_⟩
  have every : k ∈ allTasks := by revert k; decide
  rw [haltWaiting_all]
  simp only [every, true_and]
  rfl

/-- A refused RUN leaves the module in STOP and its last cause as it was. -/
theorem applyMode_run_refused {s : Rc8} (h : s.run.mode = .stop) {c : Nat × Nat} (hc : runRefusal s = some c) (cause round : Nat)
    (exec : Option Nat) : (applyMode .run cause round exec s).run = s.run := by
  have refused : applyMode .run cause round exec s = endOpt exec .tooLate (runRefused c s) := by
    simp [applyMode, h, hc]
  rw [refused, endOpt_run]
  exact raise_run _ s

/-- RUN that no condition refuses is entered with its cause and round. -/
theorem applyMode_run_entered {s : Rc8} (h : s.run.mode = .stop) (hc : runRefusal s = none) (cause round : Nat) (exec : Option Nat) :
    (applyMode .run cause round exec s).run.mode = .run ∧ (applyMode .run cause round exec s).run.lastCause = cause ∧
    (applyMode .run cause round exec s).run.modeRound = round := by
  have entered : applyMode .run cause round exec s =
      endOpt exec .done (endOpt s.run.laybyExec .done (modRun (fun r => { r with laybyExec := none }) (enterRun cause round s))) := by
    simp [applyMode, h, hc]
  rw [entered, endOpt_run, endOpt_run]
  exact ⟨rfl, rfl, rfl⟩

/-- Without an active image RUN is refused. -/
theorem runRefusal_noImage {s : Rc8} (h : s.nv.active = none) : runRefusal s = some (1, 0) := by
  rw [runRefusal, h]

/-! ### The statement -/

/-- Settles O35: each cause of a change is the request it makes, and each change is what `applyMode` makes of the module at its
boundary. -/
theorem operatingModes : Obligations.OperatingModes := by
  refine ⟨fun s p m e t k => ⟨fun he ht => ?setMode, fun he hm ht => ?inForce, fun hx hs ht => ?programFault, fun hk hr => ?keyTurn,
    fun t0 hd hold warned => ?keyMismatch⟩, fun s x target cause hp hx =>
    ⟨fun h0 hm => ?stop, fun h2 hm => ?layby, fun h1 hm ha => ?refused, fun h1 hm hc => ?run⟩⟩
  case setMode =>
    refine leads_of_act rfl ?_
    rw [State.after_toRc8, runCmd_found he, setMode_requests ht, requestMode_pend, requestMode_run, requestMode_execs, waitExec_eq]
    exact ⟨rfl, rfl, rfl⟩
  case inForce => exact act_eq_of_eq ((runCmd_found he _).trans (setMode_inForce hm ht))
  case programFault =>
    refine leads_whileRunning rfl hx ?_
    rw [State.after_toRc8, programFault_requests hs ht, requestMode_pend, requestMode_run]
    exact ⟨List.mem_append_right _ (List.mem_singleton.2 rfl), rfl⟩
  case keyTurn => exact leads_of_act rfl (keyChanged_kept hk hr)
  case keyMismatch =>
    refine leads_of_act rfl ?_
    have warns : keyMismatch s.toRc8 = raise { src := 16, reason := 0x03, sev := .warning, p0 := s.run.key.code, p1 := s.pair.partner.key, p2 := 0 }
        (modRun (fun r => { r with keyWarned := true }) (atRefosc (t0 + 5000000000) s.toRc8)) := by
      unfold keyMismatch
      simp only [hd]
      rw [if_pos ⟨hold, warned⟩]
    rw [State.after_toRc8, warns, raise_run, raise_clk, modRun_run, modRun_clk, atRefosc_run]
    exact ⟨rfl, le_atRefosc _ _⟩
  case stop =>
    subst h0
    refine leads_of_act rfl ?_
    rw [State.after_toRc8, modeChangeEffect_single hp hx]
    obtain ⟨mode, lastCause, modeRound, tasks, pend⟩ := applyMode_stop (s := s.atModeBoundary x) hm cause x.round x.exec
    exact ⟨mode, lastCause, modeRound, tasks, pend⟩
  case layby =>
    subst h2
    refine leads_of_act rfl ?_
    rw [State.after_toRc8, modeChangeEffect_single hp hx]
    obtain ⟨mode, tasks⟩ := applyMode_layby (s := s.atModeBoundary x) hm cause x.round x.exec
    refine ⟨mode, fun k waits => (tasks k).trans (if_pos waits), fun k runs => ?_⟩
    exact (tasks k).trans ((if_neg (by rw [show ((s.atModeBoundary x).run.tasks[k]).st = .running from runs]; decide)).trans runs)
  case refused =>
    subst h1
    refine leads_of_act rfl ?_
    rw [State.after_toRc8, modeChangeEffect_single hp hx]
    have refused := applyMode_run_refused (s := s.atModeBoundary x) hm (runRefusal_noImage ha) cause x.round x.exec
    exact ⟨(congrArg Runtime.mode refused).trans hm, congrArg Runtime.lastCause refused⟩
  case run =>
    subst h1
    refine leads_of_act rfl ?_
    rw [State.after_toRc8, modeChangeEffect_single hp hx]
    exact applyMode_run_entered (s := s.atModeBoundary x) hm hc cause x.round x.exec

end Sys2Proof.Machine
end

section
/-! SUPPORT. Configuration commands: what their own rows store and what their boundary puts in force, and the statement about them (03
R112, R115, R116; 04 R149; 13 R440 to R446; 14 R467, R468; 15 R496 to R498). -/

namespace Sys2Proof.Machine

open Sys2Proof

/-! ### Operations that both modules confirm (03 R112; 10 R309, R334) -/

section store
variable {id : Nat} {op : PairOp} {round : Nat} {resp : List Byte} {eff : Rc8 → Rc8} {s : Rc8}

/-- A module alone acts at once on an operation without a round. -/
theorem pairStore_now (hp : s.pair.partner.present = false) (late : Bool) :
    pairStore id op 0 resp late eff s = (eff s).ended id .done resp := by
  simp [pairStore, hp, endExec_done]

/-- A module alone fixes an operation for its round, and its command ends with DONE. -/
theorem pairStore_later (hp : s.pair.partner.present = false) (hr : round ≠ 0) :
    pairStore id op round resp false eff s =
      { s with pair := { s.pair with pend := s.pair.pend ++ [PendOp.own round op (some id) resp false] },
               execs := s.marked id (.ended .done resp) } := by
  simp [pairStore, hp, hr, endExec_eq, modPair, PendOp.own, Rc8.marked]

/-- A module alone fixes an operation for its round, and its command waits for it. -/
theorem pairStore_late (hp : s.pair.partner.present = false) (hr : round ≠ 0) :
    pairStore id op round resp true eff s =
      { s with pair := { s.pair with pend := s.pair.pend ++ [PendOp.own round op (some id) resp true] },
               execs := s.marked id .waiting } := by
  simp [pairStore, hp, hr, waitExec_eq, modPair, PendOp.own, Rc8.marked]

/-- With a partner that cannot be reached the command ends with INTEGRITY_FAIL. -/
theorem pairStore_unreachable (hp : s.pair.partner.present = true) (hl : s.pair.plk.up = false) (late : Bool) :
    pairStore id op round resp late eff s = endWith id .integrityFail s := by
  simp [pairStore, hp, hl]

end store

/-- A configuration command that reads back as written is fixed for the first boundary at least 1 ms ahead. -/
theorem configureBoth_fixed {e : Exec} {s : Rc8} (hp : s.pair.partner.present = false) (hr : roundAfter 1000000 s ≠ 0) :
    configureBoth true e s = s.fixedAhead e :=
  (if_pos rfl).trans (pairStore_later hp hr)

/-- A row that runs `configureBoth` refuses a failed read-back, and else fixes its operation. -/
theorem configureRow {c : Bool → Instr} {s : State} {code : Nat} {p : Fin 4} {m : Fin 8} {e : Exec}
    (row : ∀ stored, exec (c stored) s = act (runCmd code p m (configureBoth stored)) s) (he : findChecked s.toRc8 code p m = some e) :
    exec (c false) s = .next (s.after (endWith e.id .integrityFail)) ∧
    (s.pair.partner.present = false → roundAfter 1000000 s.toRc8 ≠ 0 → exec (c true) s = .next (s.after fun r => r.fixedAhead e)) := by
  refine ⟨(row false).trans (act_eq_of_eq (runCmd_found he _)), fun hp hr => (row true).trans (act_eq_of_eq ?_)⟩
  rw [runCmd_found he, configureBoth_fixed hp hr]

/-- An entry by a number in range is replaced. -/
theorem vput_eq_set {α : Type} {n k : Nat} {i : Fin n} (h : k = i.val) (v : Vector α n) (f : α → α) : vput v k f = v.set i (f v[i]) := by
  subst h
  simp [vput]
theorem vput_const {α : Type} {n k : Nat} {i : Fin n} (h : k = i.val) (v : Vector α n) (a : α) : vput v k (fun _ => a) = v.set i a :=
  vput_eq_set h v _

/-- Every condition that refuses a MILESTONE_WRITE with BUSY is absent. -/
theorem milestoneWrite_accepted {e : Exec} {s : Rc8} (hp : s.pair.partner.present = false) (hw : otherWaiting s 0x0A41 e.id = false)
    (ho : opWaits 0x0A41 s = false) (hl : ∀ k : Fin 2, loadRuns k s = false) (hc : changeArmed s = false) (hr : roundAfter 1000000 s ≠ 0) :
    milestoneWrite true e s =
      { s with nv := { s.nv with hostMilestones := hostEntries e.req },
               pair := { s.pair with pend := s.pair.pend ++ [PendOp.own (roundAfter 1000000 s) (.command e.code e.req) (some e.id)
                 (le 8 (roundAfter 1000000 s) ++ le 2 ((s.rnd.generation + 1) % 65536) ++ zeros 6) false] },
               execs := s.marked e.id (.ended .done (le 8 (roundAfter 1000000 s) ++ le 2 ((s.rnd.generation + 1) % 65536) ++ zeros 6)) } := by
  unfold milestoneWrite
  rw [if_neg (by simp [hw, ho, hl, hc]), if_neg (by simp), hp]
  exact pairStore_later (s := storeMilestones e.req s) hp hr

/-- NET_SET_MEDIA stores the setting of its network and leaves the networks as they are. -/
theorem effSetMedia_stored {r : List Byte} {n : Fin 2} (h : u8At r 0 = n.val) (s : Rc8) :
    (effSetMedia r s).nv = { s.nv with media := s.nv.media.set n (mediaOf r) } ∧ (effSetMedia r s).net = s.net ∧
    (effSetMedia r s).execs = s.execs := by
  unfold effSetMedia
  dsimp only
  rw [vput_eq_set h]
  split <;> exact ⟨rfl, rfl, rfl⟩

/-- CAN_RX_CONFIGURE stores its entries in its port's table. -/
theorem effRxConfigure_stored {r : List Byte} {c : Fin 4} (h : u8At r 0 = c.val) (s : Rc8) :
    effRxConfigure r s = { s with nv := { s.nv with canRx := s.nv.canRx.set c (putRxCfgs s.nv.canRx[c] (rxCfgs r)) } } := by
  rw [effRxConfigure, vput_eq_set h]

/-! ### The boundary (03 R112) -/

/-- What a boundary's operation is judged by: what is stored but the recorder's log, the rounds, the commands, the pair, the peer
channels and the field front. -/
def Rc8.parts (l : RecLog) (s : Rc8) : Nv × Rounds × List Exec × Pair × Vector Peer 16 × FieldFront :=
  ({ s.nv with recLog := l }, s.rnd, s.execs, s.pair, s.peers, s.ffe)

/-- A learning state that a command puts in force leaves them. -/
theorem learnGoto_parts (l : RecLog) (a : Nat) (new : LearnSt) (cause : Nat) (s : Rc8) :
    (learnGoto a new cause s).parts l = s.parts l := by
  unfold learnGoto learnChanged
  dsimp only
  split <;> rfl

theorem learnControl_parts (l : RecLog) (a mode : Nat) (s : Rc8) : (learnControl a mode s).parts l = s.parts l := by
  unfold learnControl
  split
  · exact learnGoto_parts ..
  · split <;> exact learnGoto_parts ..

/-- The learning commands of a boundary leave them. -/
theorem learnControls_parts (l : RecLog) (s : Rc8) : (learnControls s).parts l = s.parts l := by
  refine foldl_keeps (Rc8.parts l) _ (fun s x => ?_) _ s
  split
  · rfl
  · exact foldl_keeps (Rc8.parts l) _ (fun s m => learnControl_parts l x.1 m s) _ _

/-- No operation waits any more. -/
def Rc8.drained (s : Rc8) : Rc8 := { s with pair := { s.pair with pend := [] } }

/-- Without operations that wait, none is taken. -/
theorem takeDue_nil {s : Rc8} (h : s.pair.pend = []) (engine : Bool) (round : Nat) : takeDue engine round s = s := by
  unfold takeDue modPair
  simp only [h, List.filter_nil, List.foldl_nil]
  rw [← h]

/-- The one operation that waits is taken at its boundary. -/
theorem takeDue_single {s : Rc8} {w n code : Nat} {r resp : List Byte} {x : Option Nat} {late : Bool} (hw : w ≠ 0) (hn : w ≤ n)
    (hc : (PairOp.command code r).atEngine = false) (hp : s.pair.pend = [PendOp.own w (.command code r) x resp late]) :
    takeDue false n s = dueOwn (PendOp.own w (.command code r) x resp late) s.drained := by
  have due : PendOp.due false n (PendOp.own w (.command code r) x resp late) = true := by
    simp [PendOp.due, PendOp.own, hw, hn, hc]
  unfold takeDue modPair
  simp only [hp, List.filter_cons, due, if_true, List.filter_nil, List.foldl_cons, List.foldl_nil, Bool.not_true]
  rfl

/-- What a boundary makes of the one operation that waits, where the operation leaves none behind. -/
theorem applyDue_single {s t : Rc8} {w n code : Nat} {r resp : List Byte} {x : Option Nat} {late : Bool} (hw : w ≠ 0) (hn : w ≤ n)
    (hc : (PairOp.command code r).atEngine = false) (hp : s.pair.pend = [PendOp.own w (.command code r) x resp late])
    (ht : dueOwn (PendOp.own w (.command code r) x resp late) s.drained = t)
    (hpend : t.pair.pend = []) (l : RecLog) : (applyDue n s).parts l = t.parts l := by
  unfold applyDue
  dsimp only
  rw [takeDue_single hw hn hc hp, ht, takeDue_nil hpend]
  split
  · exact learnControls_parts l t
  · rfl

/-- What a boundary makes of the one configuration that waits, where its effect leaves the pair. -/
theorem applyDue_configured {s : Rc8} {eff : Rc8 → Rc8} {w n code : Nat} {r : List Byte} {x : Option Nat} (hw : w ≠ 0) (hn : w ≤ n)
    (hc : (PairOp.command code r).atEngine = false) (hp : s.pair.pend = [PendOp.own w (.command code r) x [] false])
    (ht : ∀ u, dueOwn (PendOp.own w (.command code r) x [] false) u = eff u) (hpair : ∀ u, (eff u).pair = u.pair) (l : RecLog) :
    (applyDue n s).parts l = (eff s.drained).parts l :=
  applyDue_single hw hn hc hp (ht _) (congrArg Pair.pend (hpair _)) l

/-! ### Effects of the configuration commands (03 R116; 13 R442, R444; 15 R488, R496) -/

/-- ROUND_SET_PERIOD's effect on the module that took it: the stored period, and DONE. -/
theorem setPeriod_acts (id port : Nat) (r : List Byte) (u : Rc8) :
    (endExec id .done [] (ownSetPeriod port r u)).nv.storedPeriod = u32At r 0 ∧ (endExec id .done [] (ownSetPeriod port r u)).rnd = u.rnd ∧
    (endExec id .done [] (ownSetPeriod port r u)).execs = u.marked id (.ended .done []) ∧
    (endExec id .done [] (ownSetPeriod port r u)).pair = u.pair := by
  simp [endExec_done, Rc8.ended, Rc8.marked, ownSetPeriod, effSetPeriod]

/-- What is stored but the recorder's log, and the pair. -/
def Rc8.settings (l : RecLog) (s : Rc8) : Nv × Pair := ({ s.nv with recLog := l }, s.pair)

theorem raise_settings (l : RecLog) (e : Ev) (s : Rc8) : (raise e s).settings l = s.settings l := by
  simp [Rc8.settings, raise_nv]

theorem setPtpPort_settings (l : RecLog) (e : Fin 2) (st : Nat) (s : Rc8) : (setPtpPort e st s).settings l = s.settings l := by
  unfold setPtpPort
  dsimp only
  split
  · rfl
  · exact raise_settings l _ _

theorem setGrandmaster_settings (l : RecLog) (e : Fin 2) (gm : Nat) (s : Rc8) : (setGrandmaster e gm s).settings l = s.settings l := by
  unfold setGrandmaster
  split
  · rfl
  · exact raise_settings l _ _

/-- A port's turn in a choice keeps what it keeps. -/
theorem setPtpPortIf_settings (l : RecLog) (c : Prop) [Decidable c] (e : Fin 2) (st : Nat) (s : Rc8) :
    (if c then setPtpPort e st s else s).settings l = s.settings l := by
  split
  · exact setPtpPort_settings l e st s
  · rfl

/-- The best master clock algorithm and PTP's restart leave the settings. -/
theorem ptpDecide_settings (l : RecLog) (e : Fin 2) (kind : Nat) (content : List Byte) (s : Rc8) :
    (ptpDecide e kind content s).settings l = s.settings l := by
  unfold ptpDecide
  exact (setGrandmaster_settings ..).trans ((setPtpPortIf_settings ..).trans (setPtpPortIf_settings ..))
theorem ptpRestart_settings (l : RecLog) (s : Rc8) : (ptpRestart s).settings l = s.settings l := by
  unfold ptpRestart
  extract_lets off
  have offKept : off.settings l = s.settings l := foldl_keeps (Rc8.settings l) _ (fun r e => by
    split
    · rfl
    · exact setPtpPort_settings l e 0 r) _ s
  rw [← offKept]
  split
  · exact foldl_keeps (Rc8.settings l) _ (fun r e => setPtpPortIf_settings l _ e 7 r) _ off
  · split
    · rfl
    · exact ptpDecide_settings ..

theorem ptpRestartUnless_settings (l : RecLog) (c : Prop) [Decidable c] (s : Rc8) :
    (if c then s else ptpRestart s).settings l = s.settings l := by
  split
  · rfl
  · exact ptpRestart_settings l s

/-- TIME_CONFIGURE's effect: the PTP configuration it names. -/
theorem effTimeConfigure_settings (l : RecLog) (r : List Byte) (s : Rc8) :
    (effTimeConfigure r s).settings l = ({ s.nv with recLog := l, ptp := ptpOf r }, s.pair) := by
  unfold effTimeConfigure
  refine (ptpRestartUnless_settings l _ _).trans ?_
  split <;> rfl

/-- A link that goes down leaves the settings. -/
theorem ethDown_settings (l : RecLog) (e : Fin 2) (s : Rc8) : (ethDown e s).settings l = s.settings l := by
  unfold ethDown
  split
  · exact raise_settings l _ _
  · rfl

/-- ETH_CONFIGURE's effect: its port's configuration. -/
theorem effEthConfigure_settings {r : List Byte} {k : Fin 2} (h : u8At r 0 = k.val) (s : Rc8) :
    (effEthConfigure r s).nv.ethCfg = s.nv.ethCfg.set k
      { speed := u8At r 1, enabled := bitAt (u8At r 2) 0, ip := u32At r 4, weights := (List.range 7).map fun q => u8At r (8 + q) } ∧
    (effEthConfigure r s).pair = s.pair := by
  unfold effEthConfigure
  extract_lets on s0
  have down : s0.nv.ethCfg = s.nv.ethCfg ∧ s0.pair = s.pair := by
    unfold s0
    split
    · exact ⟨rfl, rfl⟩
    · have kept := ethDown_settings s.nv.recLog (if u8At r 0 = 0 then 0 else 1) s
      exact ⟨congrArg (fun q => q.1.ethCfg) kept, congrArg Prod.snd kept⟩
  obtain ⟨cfg, pair⟩ := down
  exact ⟨by rw [vput_eq_set h, cfg], pair⟩

/-- CAN_CONFIGURE's effect: its port's configuration. -/
theorem effCanConfigure_pair (r : List Byte) (s : Rc8) : (effCanConfigure r s).pair = s.pair := by
  unfold effCanConfigure
  dsimp only
  split <;> rfl
theorem effCanConfigure_canCfg {r : List Byte} {k : Fin 4} (h : u8At r 0 = k.val) (s : Rc8) :
    (effCanConfigure r s).nv.canCfg =
      s.nv.canCfg.set k { flags := u8At r 1, timing := slice r 2 10, ref := u32At r 12, repeats := u8At r 16 } := by
  unfold effCanConfigure
  dsimp only
  rw [← vput_eq_set h s.nv.canCfg fun _ => _]
  split <;> rfl

/-- The hold outputs are no settings. -/
theorem setLoopHold_settings (l : RecLog) (c : Fin 8) (on : Bool) (s : Rc8) : (setLoopHold c on s).settings l = s.settings l := rfl
theorem loopsHold_settings (l : RecLog) (s : Rc8) : (loopsHold s).settings l = s.settings l :=
  foldl_keeps (Rc8.settings l) _ (fun r c => setLoopHold_settings l c _ r) _ s

/-- FFE_LOOP_CONFIGURE's effect: its channel's configuration. -/
theorem effLoopConfigure_settings (l : RecLog) (r : List Byte) (s : Rc8) :
    (effLoopConfigure r s).settings l =
      ({ s.nv with recLog := l,
                   loopCfg := vput s.nv.loopCfg (u8At r 0) fun _ => { mode := u8At r 1, vtmin := u16At r 4, rw := u16At r 6, vsrc := u16At r 8 } },
       s.pair) := by
  unfold effLoopConfigure
  dsimp only
  split
  · rw [loopsHold_settings]
    split
    · rfl
    · exact raise_settings l _ _
  · exact loopsHold_settings l _

/-- Switching the pins that an entry takes out of use. -/
def switchTaken (x : Nat × PinCfg) (s : Rc8) : Rc8 :=
  allPins.foldl (fun s i => if i.val = x.1 ∧ x.2.mode ≠ 3 then switchPin i false s else s) s

theorem switchTaken_nv (x : Nat × PinCfg) (s : Rc8) : (switchTaken x s).nv = s.nv :=
  foldl_keeps (fun s => s.nv) _ (fun r i => by split <;> rfl) _ s
theorem switchTaken_pair (x : Nat × PinCfg) (s : Rc8) : (switchTaken x s).pair = s.pair :=
  foldl_keeps (fun s => s.pair) _ (fun r i => by split <;> rfl) _ s

/-- A switched pin is as it was switched, the others as they were. -/
theorem switchPin_on (i k : Fin 32) (on : Bool) (s : Rc8) :
    ((switchPin i on s).ffe.pins[k]).on = if i = k then on else (s.ffe.pins[k]).on := by
  unfold switchPin modPin modFfe vmod
  by_cases h : i = k
  · subst h
    simp
    split <;> simp_all
  · have hv : i.val ≠ k.val := fun hv => h (Fin.ext hv)
    simp [h, hv]

/-- Once a pin has been switched off by such switching, it stays off. -/
theorem foldl_switchOff {x : Nat × PinCfg} {k : Fin 32} (l : List (Fin 32)) (s : Rc8)
    (h : (s.ffe.pins[k]).on = false ∨ (k ∈ l ∧ k.val = x.1 ∧ x.2.mode ≠ 3)) :
    ((l.foldl (fun s i => if i.val = x.1 ∧ x.2.mode ≠ 3 then switchPin i false s else s) s).ffe.pins[k]).on = false := by
  induction l generalizing s with
  | nil => simpa using h
  | cons i l ih =>
    rw [List.foldl_cons]
    apply ih
    rcases h with off | ⟨mem, taken⟩
    · left
      split
      · rw [switchPin_on]; split <;> [rfl; exact off]
      · exact off
    · rcases List.mem_cons.1 mem with rfl | mem
      · left
        rw [if_pos taken, switchPin_on, if_pos rfl]
      · exact .inr ⟨mem, taken⟩

/-- A pin that its entry takes out of use is off. -/
theorem switchTaken_off {x : Nat × PinCfg} {k : Fin 32} (hk : k.val = x.1) (hm : x.2.mode ≠ 3) (s : Rc8) :
    ((switchTaken x s).ffe.pins[k]).on = false := by
  have all : ∀ i : Fin 32, i ∈ allPins := by decide
  exact foldl_switchOff allPins s (.inr ⟨all k, hk, hm⟩)

/-- An entry of FFE_DIO_CONFIGURE in force. -/
def takeEntry (x : Nat × PinCfg) (s : Rc8) : Rc8 :=
  { switchTaken x s with nv := { (switchTaken x s).nv with pinCfg := vput (switchTaken x s).nv.pinCfg x.1 fun _ => x.2 } }

theorem effDioConfigure_eq (r : List Byte) (s : Rc8) :
    effDioConfigure r s =
      if (pinCfgs r).any fun x => x.2.mode != 0 then fieldPower ((pinCfgs r).foldl (fun s x => takeEntry x s) s)
      else (pinCfgs r).foldl (fun s x => takeEntry x s) s := by
  unfold effDioConfigure takeEntry switchTaken
  rfl

/-- The field supply, where it comes on, leaves what is stored, the pair and the field front. -/
theorem fieldPowerIf_kept (c : Prop) [Decidable c] (s : Rc8) :
    (if c then fieldPower s else s).nv = s.nv ∧ (if c then fieldPower s else s).pair = s.pair ∧
    (if c then fieldPower s else s).ffe = s.ffe := by
  split <;> exact ⟨rfl, rfl, rfl⟩

/-- One entry in force leaves the pair, and of the field front what its switching leaves. -/
theorem effDioConfigure_single {r : List Byte} (h : u8At r 0 = 1) (s : Rc8) :
    (effDioConfigure r s).nv.pinCfg = vput s.nv.pinCfg (pinCfgAt r 0).1 (fun _ => (pinCfgAt r 0).2) ∧
    (effDioConfigure r s).ffe = (switchTaken (pinCfgAt r 0) s).ffe := by
  have one : pinCfgs r = [pinCfgAt r 0] := by simp [pinCfgs, h]
  have entered : (takeEntry (pinCfgAt r 0) s).nv.pinCfg = vput s.nv.pinCfg (pinCfgAt r 0).1 fun _ => (pinCfgAt r 0).2 := by
    simp only [takeEntry, switchTaken_nv]
  obtain ⟨nv, -, ffe⟩ := fieldPowerIf_kept (([pinCfgAt r 0].any fun x => x.2.mode != 0) = true) (takeEntry (pinCfgAt r 0) s)
  rw [effDioConfigure_eq, one, List.foldl_cons, List.foldl_nil]
  exact ⟨(congrArg Nv.pinCfg nv).trans entered, by rw [ffe, takeEntry]⟩

/-- The pins' configuration is no matter of the pair's. -/
theorem effDioConfigure_pair (r : List Byte) (s : Rc8) : (effDioConfigure r s).pair = s.pair := by
  have entry : ∀ (u : Rc8) (x : Nat × PinCfg), (takeEntry x u).pair = u.pair := fun u x => by
    rw [takeEntry, switchTaken_pair]
  obtain ⟨-, pair, -⟩ := fieldPowerIf_kept (((pinCfgs r).any fun x => x.2.mode != 0) = true) ((pinCfgs r).foldl (fun s x => takeEntry x s) s)
  rw [effDioConfigure_eq, pair]
  exact foldl_keeps (fun s => s.pair) _ entry _ s

/-! ### In force at the boundary (03 R112) -/

section boundary
variable {s : Rc8} {r : List Byte} {w n : Nat} {x : Option Nat} (hw : w ≠ 0) (hn : w ≤ n)
include hw hn

theorem applyDue_setPeriod {id : Nat} (hp : s.pair.pend = [PendOp.own w (.command 0x0A42 r) (some id) [] true]) :
    (applyDue n s).nv.storedPeriod = u32At r 0 ∧ (applyDue n s).rnd.period = s.rnd.period ∧
    (applyDue n s).execs = s.marked id (.ended .done []) := by
  obtain ⟨stored, rnd, execs, pair⟩ :=
    setPeriod_acts id (PendOp.port (PendOp.own w (.command 0x0A42 r) (some id) [] true) s.drained).val r s.drained
  have taken := applyDue_single hw hn rfl hp rfl (congrArg Pair.pend pair) s.nv.recLog
  exact ⟨(congrArg (fun q => q.1.storedPeriod) taken).trans stored, (congrArg (fun q => q.2.1.period) taken).trans (congrArg Rounds.period rnd),
    (congrArg (fun q => q.2.2.1) taken).trans execs⟩

theorem applyDue_timeConfigure (hp : s.pair.pend = [PendOp.own w (.command 0x0A03 r) x [] false]) :
    (applyDue n s).nv.ptp = ptpOf r ∧ (applyDue n s).pair.pend = [] := by
  have kept := effTimeConfigure_settings s.nv.recLog r
  have taken := applyDue_configured hw hn rfl hp (eff := effTimeConfigure r) (fun u => by cases x <;> rfl)
    (fun u => congrArg Prod.snd (kept u)) s.nv.recLog
  exact ⟨(congrArg (fun q => q.1.ptp) taken).trans (congrArg (fun q => q.1.ptp) (kept _)),
    (congrArg (fun q => q.2.2.2.1.pend) taken).trans (congrArg (fun q => q.2.pend) (kept _))⟩

theorem applyDue_ethConfigure {k : Fin 2} (hk : u8At r 0 = k.val) (hp : s.pair.pend = [PendOp.own w (.command 0x0A10 r) x [] false]) :
    (applyDue n s).nv.ethCfg = s.nv.ethCfg.set k
      { speed := u8At r 1, enabled := bitAt (u8At r 2) 0, ip := u32At r 4, weights := (List.range 7).map fun q => u8At r (8 + q) } ∧
    (applyDue n s).pair.pend = [] := by
  have kept := fun u => (effEthConfigure_settings hk u).2
  have taken := applyDue_configured hw hn rfl hp (eff := effEthConfigure r) (fun u => by cases x <;> rfl) kept s.nv.recLog
  exact ⟨(congrArg (fun q => q.1.ethCfg) taken).trans (effEthConfigure_settings hk _).1,
    (congrArg (fun q => q.2.2.2.1.pend) taken).trans (congrArg Pair.pend (kept _))⟩

theorem applyDue_peerConfigure {k : Fin 16} (hk : u8At r 0 = k.val) (hp : s.pair.pend = [PendOp.own w (.command 0x0A20 r) x [] false]) :
    (applyDue n s).nv.peerCfg = s.nv.peerCfg.set k (peerOf r) ∧
    ((applyDue n s).peers[k]).st = (if bitAt (peerOf r).flags 0 then 1 else 0) := by
  have taken := applyDue_configured hw hn rfl hp (eff := effPeerConfigure r) (fun u => by cases x <;> rfl) (fun _ => rfl) s.nv.recLog
  refine ⟨(congrArg (fun q => q.1.peerCfg) taken).trans (vput_const hk _ _),
    (congrArg (fun q => (q.2.2.2.2.1[k]).st) taken).trans ?_⟩
  simp [Rc8.parts, effPeerConfigure, vput_eq_set hk]

theorem applyDue_canConfigure {k : Fin 4} (hk : u8At r 0 = k.val) (hp : s.pair.pend = [PendOp.own w (.command 0x0B01 r) x [] false]) :
    (applyDue n s).nv.canCfg =
      s.nv.canCfg.set k { flags := u8At r 1, timing := slice r 2 10, ref := u32At r 12, repeats := u8At r 16 } := by
  have taken := applyDue_configured hw hn rfl hp (eff := effCanConfigure r) (fun u => by cases x <;> rfl) (effCanConfigure_pair r) s.nv.recLog
  exact (congrArg (fun q => q.1.canCfg) taken).trans (effCanConfigure_canCfg hk _)

theorem applyDue_loopConfigure {k : Fin 8} (hk : u8At r 0 = k.val) (hp : s.pair.pend = [PendOp.own w (.command 0x0C02 r) x [] false]) :
    (applyDue n s).nv.loopCfg = s.nv.loopCfg.set k { mode := u8At r 1, vtmin := u16At r 4, rw := u16At r 6, vsrc := u16At r 8 } := by
  have kept := effLoopConfigure_settings s.nv.recLog r
  have taken := applyDue_configured hw hn rfl hp (eff := effLoopConfigure r) (fun u => by cases x <;> rfl)
    (fun u => congrArg Prod.snd (kept u)) s.nv.recLog
  exact (congrArg (fun q => q.1.loopCfg) taken).trans ((congrArg (fun q => q.1.loopCfg) (kept _)).trans (vput_const hk _ _))

theorem applyDue_dioConfigure {k : Fin 32} (h1 : u8At r 0 = 1) (hk : u8At r 8 = k.val)
    (hp : s.pair.pend = [PendOp.own w (.command 0x0C01 r) x [] false]) :
    (applyDue n s).nv.pinCfg = s.nv.pinCfg.set k { mode := u8At r 9, flags := u8At r 10, filter := u16At r 12 } ∧
    (u8At r 9 ≠ 3 → ((applyDue n s).ffe.pins[k]).on = false) := by
  have taken := applyDue_configured hw hn rfl hp (eff := effDioConfigure r) (fun u => by cases x <;> rfl) (effDioConfigure_pair r) s.nv.recLog
  obtain ⟨cfg, front⟩ := effDioConfigure_single h1 s.drained
  have pin : (applyDue n s).ffe = _ := (congrArg (fun q => q.2.2.2.2.2) taken).trans front
  refine ⟨(congrArg (fun q => q.1.pinCfg) taken).trans (cfg.trans (vput_const hk _ _)), fun hm => ?_⟩
  rw [pin]
  exact switchTaken_off hk.symm hm _

end boundary

/-- Settles O25: a module alone fixes a configuration for its boundary as `pairStore` has it, and the boundary runs the command's effect
on its own; of the effects only what is stored, the pair, the peer channels and the pins are judged. -/
theorem configurationCommands : Obligations.ConfigurationCommands := by
  refine ⟨fun s p m e n => ⟨fun he hp hr => leads_of_act rfl ?setPeriod, fun he hp hn => leads_of_act rfl ?setMedia,
      fun he hp hw ho hl hc hr => leads_of_act rfl ?milestones, fun he => act_eq_of_eq (runCmd_found he _), fun he => act_eq_of_eq (runCmd_found he _),
      fun he hp hl => act_eq_of_eq ?unreachable⟩,
    fun s p m e => ⟨configureRow fun _ => rfl, configureRow fun _ => rfl, configureRow fun _ => rfl, configureRow fun _ => rfl,
      configureRow fun _ => rfl, configureRow fun _ => rfl⟩,
    fun s p m e he => ⟨act_eq_of_eq (runCmd_found he _), fun hp c hc => act_eq_of_eq ?rxStored⟩,
    fun s r w n x hw hn => ⟨fun id => applyDue_setPeriod hw hn, applyDue_timeConfigure hw hn, fun k => applyDue_ethConfigure hw hn,
      fun k => applyDue_peerConfigure hw hn, fun k => applyDue_canConfigure hw hn, fun k => applyDue_loopConfigure hw hn,
      fun k => applyDue_dioConfigure hw hn⟩⟩
  case setPeriod =>
    rw [State.after_toRc8, runCmd_found he]
    have fixed : roundSetPeriod true e s.toRc8 = _ := pairStore_late hp hr
    rw [fixed]
    exact ⟨rfl, rfl, rfl, rfl⟩
  case setMedia =>
    rw [State.after_toRc8, runCmd_found he]
    obtain ⟨nv, net, execs⟩ := effSetMedia_stored hn s.toRc8
    rw [if_pos rfl, pairStore_now hp]
    exact ⟨nv, net, congrArg (List.map _) execs⟩
  case milestones =>
    rw [State.after_toRc8, runCmd_found he, milestoneWrite_accepted hp hw ho hl hc hr]
    exact ⟨rfl, rfl, rfl, rfl⟩
  case unreachable =>
    rw [runCmd_found he]
    exact pairStore_unreachable hp hl true
  case rxStored =>
    rw [runCmd_found he]
    have stored : rxConfigure true e s.toRc8 = _ := pairStore_now hp false
    rw [stored, effRxConfigure_stored hc]
    rfl

end Sys2Proof.Machine
end

section
/-! SUPPORT. The round number: every operation that a round boundary runs leaves it, but the step to the next round, and the statement
about it (03 R91, R112). Each `…_round` lemma says of one function of the model that it leaves the round number. -/

namespace Sys2Proof.Machine

open Sys2Proof

/-! ### Choices and folds -/

@[simp] theorem ite_round (c : Prop) [Decidable c] (a b : Rc8) :
    (if c then a else b).rnd.round = if c then a.rnd.round else b.rnd.round := apply_ite (fun r : Rc8 => r.rnd.round) c a b
@[simp] theorem foldl_round {α : Type} (g : Rc8 → α → Rc8) (h : ∀ s x, (g s x).rnd.round = s.rnd.round) (l : List α) (s : Rc8) :
    (l.foldl g s).rnd.round = s.rnd.round := foldl_keeps (fun r => r.rnd.round) g h l s

/-! ### Services and events (02) -/

@[simp] theorem domainOn_round (d : Fin 12) (s : Rc8) : (domainOn d s).rnd.round = s.rnd.round := rfl

/-! ### Schedules as they are put in force (05) -/

@[simp] theorem lateWrite_round (n : Fin 2) (master : Nat) (s : Rc8) : (lateWrite n master s).rnd.round = s.rnd.round := by simp [lateWrite]
@[simp] theorem tableChanged_round (s : Rc8) : (tableChanged s).rnd.round = s.rnd.round := rfl
@[simp] theorem putSchedule_round (n : Fin 2) (id : Nat) (s : Rc8) : (putSchedule n id s).rnd.round = s.rnd.round := by
  unfold putSchedule
  split <;> simp
@[simp] theorem updateMargins_round (n : Fin 2) (s : Rc8) : (updateMargins n s).rnd.round = s.rnd.round := by
  unfold updateMargins
  dsimp only
  repeat' split
  all_goals simp

/-! ### Learning (07) -/

@[simp] theorem modLearn_round (a : Nat) (f : Learn → Learn) (s : Rc8) : (modLearn a f s).rnd.round = s.rnd.round := rfl
@[simp] theorem learnChanged_round (a : Nat) (old new : LearnSt) (cause : Nat) (s : Rc8) :
    (learnChanged a old new cause s).rnd.round = s.rnd.round := by simp [learnChanged]
@[simp] theorem learnGoto_round (a : Nat) (new : LearnSt) (cause : Nat) (s : Rc8) :
    (learnGoto a new cause s).rnd.round = s.rnd.round := by simp [learnGoto]
@[simp] theorem learnControl_round (a mode : Nat) (s : Rc8) : (learnControl a mode s).rnd.round = s.rnd.round := by simp [learnControl]
@[simp] theorem learnControls_round (s : Rc8) : (learnControls s).rnd.round = s.rnd.round := by simp [learnControls]

/-! ### Operations told to the partner (10) -/

@[simp] theorem pairTell_round (id : Option Nat) (op : PairOp) (round : Nat) (resp : List Byte) (late : Bool) (s : Rc8) :
    (pairTell id op round resp late s).rnd.round = s.rnd.round := by simp [pairTell]

/-! ### The engine (06) -/

@[simp] theorem putAxis_round (a : Nat) (x : Axis) (s : Rc8) : (putAxis a x s).rnd.round = s.rnd.round := rfl
@[simp] theorem countBare_round (s : Rc8) : (countBare s).rnd.round = s.rnd.round := by simp [countBare]
@[simp] theorem txWrite_round (n : Fin 2) (master win off : Nat) (b : List Byte) (s : Rc8) :
    (txWrite n master win off b s).rnd.round = s.rnd.round := by simp [txWrite]
@[simp] theorem writeRecord_round (x : Nat × CmdRec) (s : Rc8) : (writeRecord x s).rnd.round = s.rnd.round := by
  unfold writeRecord
  split <;> simp
@[simp] theorem writeRecords_round (l : List (Nat × CmdRec)) (s : Rc8) :
    (writeRecords l s).rnd.round = s.rnd.round := by simp [writeRecords]
@[simp] theorem swapBanks_round (cause : Nat) (s : Rc8) : (swapBanks cause s).rnd.round = s.rnd.round := rfl

/-! ### The engine's commands (06) -/

@[simp] theorem effParamWrite_round (r : List Byte) (s : Rc8) : (effParamWrite r s).rnd.round = s.rnd.round := rfl
@[simp] theorem ownParamWrite_round (port : Nat) (r : List Byte) (s : Rc8) : (ownParamWrite port r s).rnd.round = s.rnd.round := rfl
@[simp] theorem effBankCopy_round (s : Rc8) : (effBankCopy s).rnd.round = s.rnd.round := rfl
@[simp] theorem ownBankCopy_round (port : Nat) (s : Rc8) : (ownBankCopy port s).rnd.round = s.rnd.round := rfl
@[simp] theorem effBankSwap_round (ok : Bool) (s : Rc8) : (effBankSwap ok s).rnd.round = s.rnd.round := by simp [effBankSwap]
@[simp] theorem effAxisRequest_round (halt : Bool) (r : List Byte) (s : Rc8) :
    (effAxisRequest halt r s).rnd.round = s.rnd.round := by simp [effAxisRequest]
@[simp] theorem markRepeated_round (s : Rc8) : (markRepeated s).rnd.round = s.rnd.round := rfl
@[simp] theorem handStates_round (s : Rc8) : (handStates s).rnd.round = s.rnd.round := rfl
@[simp] theorem launchRecords_round (s : Rc8) : (launchRecords s).rnd.round = s.rnd.round := by simp [launchRecords]
@[simp] theorem engineCommit_round (s : Rc8) : (engineCommit s).rnd.round = s.rnd.round := by simp [engineCommit]

/-! ### Learning's commands (07) -/

@[simp] theorem storeLearnCfg_round (a : Nat) (c : LearnCfg) (s : Rc8) : (storeLearnCfg a c s).rnd.round = s.rnd.round := rfl
@[simp] theorem effLearnConfigure_round (r : List Byte) (s : Rc8) :
    (effLearnConfigure r s).rnd.round = s.rnd.round := by simp [effLearnConfigure]
@[simp] theorem armResample_round (why : Nat) (exec : Option Nat) (a : Nat) (c : LearnCfg) (s : Rc8) :
    (armResample why exec a c s).rnd.round = s.rnd.round := rfl
@[simp] theorem dueLearnConfigure_round (exec : Option Nat) (r : List Byte) (s : Rc8) :
    (dueLearnConfigure exec r s).rnd.round = s.rnd.round := by simp [dueLearnConfigure]
@[simp] theorem effLearnControl_round (r : List Byte) (s : Rc8) :
    (effLearnControl r s).rnd.round = s.rnd.round := foldl_round _ (fun _ _ => modLearn_round _ _ _) _ _
@[simp] theorem tableFresh_round (a : Nat) (entry : Nat → Bool) (s : Rc8) : (tableFresh a entry s).rnd.round = s.rnd.round := rfl
@[simp] theorem effTableWrite_round (r : List Byte) (s : Rc8) : (effTableWrite r s).rnd.round = s.rnd.round := by simp [effTableWrite]
@[simp] theorem effLearnClear_round (r : List Byte) (s : Rc8) : (effLearnClear r s).rnd.round = s.rnd.round := by
  unfold effLearnClear
  refine foldl_round _ (fun s a => ?_) _ s
  rfl
@[simp] theorem restoreFailed_round (a : Nat) (s : Rc8) : (restoreFailed a s).rnd.round = s.rnd.round := rfl
@[simp] theorem armRestore_round (why : Nat) (exec : Option Nat) (a : Nat) (x : SnapSlot) (s : Rc8) :
    (armRestore why exec a x s).rnd.round = s.rnd.round := rfl
@[simp] theorem dueLearnRestore_round (exec : Option Nat) (r : List Byte) (s : Rc8) :
    (dueLearnRestore exec r s).rnd.round = s.rnd.round := by
  unfold dueLearnRestore
  extract_lets axes
  split
  · cases exec with
    | none => exact restoreFailed_round _ _
    | some id => exact (congrArg Rounds.round (endWith_rnd ..)).trans (restoreFailed_round _ _)
  · refine foldl_round _ (fun s a => ?_) axes s
    split
    · exact armRestore_round _ _ _ _ _
    · rfl
@[simp] theorem dueLearnSnapshot_round (why : SnapFor) (r : List Byte) (s : Rc8) :
    (dueLearnSnapshot why r s).rnd.round = s.rnd.round := foldl_round _ (fun _ _ => modLearn_round _ _ _) _ _

/-! ### Rounds and milestones (03) -/

@[simp] theorem effMilestoneWrite_round (r : List Byte) (s : Rc8) : (effMilestoneWrite r s).rnd.round = s.rnd.round := rfl
@[simp] theorem effSetPeriod_round (r : List Byte) (s : Rc8) : (effSetPeriod r s).rnd.round = s.rnd.round := rfl
@[simp] theorem ownSetPeriod_round (port : Nat) (r : List Byte) (s : Rc8) : (ownSetPeriod port r s).rnd.round = s.rnd.round := rfl

/-! ### Digests (10) -/

@[simp] theorem chainStep_round (k : Fin 9) (seq : Nat) (content : List Byte) (s : Rc8) :
    (chainStep k seq content s).rnd.round = s.rnd.round := by simp [chainStep]

/-! ### Rules (12) -/

@[simp] theorem awaitRules_round (id : Nat) (s : Rc8) : (awaitRules id s).rnd.round = s.rnd.round := rfl
@[simp] theorem codeRules_round (s : Rc8) : (codeRules s).rnd.round = s.rnd.round := rfl

/-! ### The debug session (12) -/

@[simp] theorem modLs_round (k : Fin 3) (f : LsPair → LsPair) (s : Rc8) : (modLs k f s).rnd.round = s.rnd.round := rfl
@[simp] theorem endSuspension_round (k : Fin 3) (s : Rc8) : (endSuspension k s).rnd.round = s.rnd.round := by simp [endSuspension]
@[simp] theorem endTaskDebug_round (s : Rc8) : (endTaskDebug s).rnd.round = s.rnd.round := by simp [endTaskDebug]

/-! ### Safety sessions (11) -/

@[simp] theorem endSessions_round (cause : Nat) (s : Rc8) : (endSessions cause s).rnd.round = s.rnd.round := by simp [endSessions]
@[simp] theorem endOtherSessions_round (p : Fin 4) (cause : Nat) (s : Rc8) :
    (endOtherSessions p cause s).rnd.round = s.rnd.round := by simp [endOtherSessions]

/-! ### Safety sets (11) -/

@[simp] theorem copiesWritten_round (a b : Fin 4) (s : Rc8) : (copiesWritten a b s).rnd.round = s.rnd.round := rfl

/-! ### Programs and retained data (08) -/

@[simp] theorem takeSwitch_round (s : Rc8) : (takeSwitch s).rnd.round = s.rnd.round := by
  unfold takeSwitch
  split <;> simp
@[simp] theorem replayJournal_round (s0 : Rc8) : (replayJournal s0).rnd.round = s0.rnd.round := by simp [replayJournal]
@[simp] theorem retainReplayed_round (s : Rc8) : (retainReplayed s).rnd.round = s.rnd.round := by simp [retainReplayed]
@[simp] theorem publishMotion_round (img : List Byte) (s : Rc8) : (publishMotion img s).rnd.round = s.rnd.round := rfl
@[simp] theorem publishStation_round (t : Fin 8) (img : List Byte) (s : Rc8) : (publishStation t img s).rnd.round = s.rnd.round := rfl
@[simp] theorem publishStops_round (s : Rc8) : (publishStops s).rnd.round = s.rnd.round := by
  unfold publishStops
  split <;> simp
@[simp] theorem loadCode_round (s : Rc8) : (loadCode s).rnd.round = s.rnd.round := rfl
@[simp] theorem secondCode_round (b : List Byte) (s : Rc8) : (secondCode b s).rnd.round = s.rnd.round := rfl
@[simp] theorem startRuntime_round (s : Rc8) : (startRuntime s).rnd.round = s.rnd.round := by simp [startRuntime]
@[simp] theorem runRefused_round (c : Nat × Nat) (s : Rc8) : (runRefused c s).rnd.round = s.rnd.round := rfl
@[simp] theorem effProgramLoad_round (image : List Byte) (s : Rc8) : (effProgramLoad image s).rnd.round = s.rnd.round := rfl
@[simp] theorem tellPartner_round (op : PairOp) (s : Rc8) : (tellPartner op s).rnd.round = s.rnd.round := by simp [tellPartner]
@[simp] theorem ownProgramLoad_round (port : Nat) (image : List Byte) (s : Rc8) :
    (ownProgramLoad port image s).rnd.round = s.rnd.round := rfl
@[simp] theorem dropPackage_round (s : Rc8) : (dropPackage s).rnd.round = s.rnd.round := by simp [dropPackage]
@[simp] theorem awaitOpt_round (id : Option Nat) (s : Rc8) : (awaitOpt id s).rnd.round = s.rnd.round := by
  unfold awaitOpt
  split <;> simp
@[simp] theorem imageDomains_round (x : Image) (s : Rc8) : (imageDomains x s).rnd.round = s.rnd.round := by simp [imageDomains]
@[simp] theorem effActivate_round (kind : Nat) (s : Rc8) : (effActivate kind s).rnd.round = s.rnd.round := by
  unfold effActivate
  split <;> simp
@[simp] theorem ownActivate_round (kind : Nat) (s : Rc8) : (ownActivate kind s).rnd.round = s.rnd.round := by
  unfold ownActivate
  split <;> simp

/-! ### Operating modes (08) -/

@[simp] theorem requestMode_round (target : Mode) (cause : Nat) (exec : Option Nat) (s : Rc8) :
    (requestMode target cause exec s).rnd.round = s.rnd.round := by simp [requestMode]
@[simp] theorem faultStop_round (cause : Nat) (s : Rc8) : (faultStop cause s).rnd.round = s.rnd.round := by simp [faultStop]
@[simp] theorem programFault_round (s : Rc8) : (programFault s).rnd.round = s.rnd.round := by simp [programFault]
@[simp] theorem taskHalted_round (t : Fin 8) (why : Nat) (s : Rc8) : (taskHalted t why s).rnd.round = s.rnd.round := rfl
@[simp] theorem abortCycles_round (s0 : Rc8) : (abortCycles s0).rnd.round = s0.rnd.round := rfl
@[simp] theorem freeTasks_round (s : Rc8) : (freeTasks s).rnd.round = s.rnd.round := rfl
@[simp] theorem modeChanged_round (new : Mode) (cause round : Nat) (s : Rc8) :
    (modeChanged new cause round s).rnd.round = s.rnd.round := rfl
@[simp] theorem enterStop_round (cause round : Nat) (s : Rc8) : (enterStop cause round s).rnd.round = s.rnd.round := by simp [enterStop]
@[simp] theorem reloadProgram_round (s : Rc8) : (reloadProgram s).rnd.round = s.rnd.round := by simp [reloadProgram]
@[simp] theorem loadRetained_round (s : Rc8) : (loadRetained s).rnd.round = s.rnd.round := rfl
@[simp] theorem enterRun_round (cause round : Nat) (s : Rc8) : (enterRun cause round s).rnd.round = s.rnd.round := by simp [enterRun]
@[simp] theorem finishLayby_round (s : Rc8) : (finishLayby s).rnd.round = s.rnd.round := by simp [finishLayby]
@[simp] theorem enterLayby_round (cause round : Nat) (exec : Option Nat) (s : Rc8) :
    (enterLayby cause round exec s).rnd.round = s.rnd.round := by simp [enterLayby]
@[simp] theorem applyMode_round (target : Mode) (cause round : Nat) (exec : Option Nat) (s : Rc8) :
    (applyMode target cause round exec s).rnd.round = s.rnd.round := by
  unfold applyMode
  repeat' split
  all_goals simp
@[simp] theorem applyModes_round (round : Nat) (s : Rc8) : (applyModes round s).rnd.round = s.rnd.round := by
  unfold applyModes
  extract_lets due s1
  refine foldl_round _ (fun s x => ?_) due s1
  split
  · exact applyMode_round _ _ _ _ _
  · rfl
@[simp] theorem compareKeys_round (s : Rc8) : (compareKeys s).rnd.round = s.rnd.round := by
  unfold compareKeys
  repeat' split
  all_goals simp

/-! ### Networks (04) -/

@[simp] theorem netGoto_round (n : Fin 2) (dest : NetState) (ev : NetEv) (s : Rc8) :
    (netGoto n dest ev s).rnd.round = s.rnd.round := by simp [netGoto]
@[simp] theorem startListen_round (n : Fin 2) (s : Rc8) : (startListen n s).rnd.round = s.rnd.round := rfl
@[simp] theorem netEvent_round (n : Fin 2) (ev : NetEv) (s : Rc8) : (netEvent n ev s).rnd.round = s.rnd.round := by
  unfold netEvent
  dsimp only
  split <;> simp
@[simp] theorem netLease_round (gained : Bool) (s : Rc8) : (netLease gained s).rnd.round = s.rnd.round := by simp [netLease]
@[simp] theorem setLineMode_round (n : Fin 2) (c : Fin 2) (on : Bool) (port : Nat) (s : Rc8) :
    (setLineMode n c on port s).rnd.round = s.rnd.round := by simp [setLineMode]
@[simp] theorem reflectBoundary_round (n : Fin 2) (s : Rc8) : (reflectBoundary n s).rnd.round = s.rnd.round := by simp [reflectBoundary]
@[simp] theorem effSetMedia_round (r : List Byte) (s : Rc8) : (effSetMedia r s).rnd.round = s.rnd.round := by simp [effSetMedia]

/-! ### Schedules' commands (05) -/

@[simp] theorem effSchedStore_round (n : Nat) (image : List Byte) (s : Rc8) : (effSchedStore n image s).rnd.round = s.rnd.round := rfl
@[simp] theorem effSchedLoad_round (n : Fin 2) (port : Nat) (image : List Byte) (s : Rc8) :
    (effSchedLoad n port image s).rnd.round = s.rnd.round := rfl
@[simp] theorem switchBoundary_round (n : Fin 2) (s : Rc8) : (switchBoundary n s).rnd.round = s.rnd.round := by
  unfold switchBoundary
  split <;> simp
@[simp] theorem effSchedDelete_round (n id : Nat) (s : Rc8) : (effSchedDelete n id s).rnd.round = s.rnd.round := rfl

/-! ### Tasks and cycles (08) -/

@[simp] theorem tellRelease_round (t : Fin 8) (released : Bool) (time mono : Nat) (s : Rc8) :
    (tellRelease t released time mono s).rnd.round = s.rnd.round := by simp [tellRelease]
@[simp] theorem skipRelease_round (t : Fin 8) (s : Rc8) : (skipRelease t s).rnd.round = s.rnd.round := by simp [skipRelease]
@[simp] theorem beginWith_round (t : Fin 8) (debug : Bool) (time mono : Nat) (motion station : List Byte) (s : Rc8) :
    (beginWith t debug time mono motion station s).rnd.round = s.rnd.round := by simp [beginWith]
@[simp] theorem beginCycle_round (t : Fin 8) (debug : Bool) (time mono : Nat) (s : Rc8) :
    (beginCycle t debug time mono s).rnd.round = s.rnd.round := by simp [beginCycle]
@[simp] theorem holdRelease_round (t : Fin 8) (time mono : Nat) (s : Rc8) : (holdRelease t time mono s).rnd.round = s.rnd.round := rfl
@[simp] theorem ownRelease_round (t : Fin 8) (time mono : Nat) (s : Rc8) : (ownRelease t time mono s).rnd.round = s.rnd.round := by
  unfold ownRelease
  split <;> simp
@[simp] theorem takeRelease_round (t : Fin 8) (s : Rc8) : (takeRelease t s).2.rnd.round = s.rnd.round := rfl
@[simp] theorem shadowOne_round (t : Fin 8) (s : Rc8) : (shadowOne t s).rnd.round = s.rnd.round := by
  unfold shadowOne
  dsimp only
  repeat' split
  all_goals simp
@[simp] theorem shadowAll_round (s : Rc8) : (shadowAll s).rnd.round = s.rnd.round := by simp [shadowAll]
@[simp] theorem commitFailed_round (t cause bytes : Nat) (s : Rc8) :
    (commitFailed t cause bytes s).rnd.round = s.rnd.round := by simp [commitFailed]
@[simp] theorem queueCommit_round (t : Fin 8) (g : List (Nat × List Byte)) (s : Rc8) :
    (queueCommit t g s).rnd.round = s.rnd.round := by simp [queueCommit]
@[simp] theorem tellCycle_round (t : Fin 8) (published : Bool) (s : Rc8) :
    (tellCycle t published s).rnd.round = s.rnd.round := by simp [tellCycle]
@[simp] theorem publishCycle_round (t : Fin 8) (o : CycleOut) (s : Rc8) :
    (publishCycle t o s).rnd.round = s.rnd.round := by simp [publishCycle]
@[simp] theorem cycleDigest_round (t : Fin 8) (o : CycleOut) (published : Bool) (s : Rc8) :
    (cycleDigest t o published s).rnd.round = s.rnd.round := by simp [cycleDigest]
@[simp] theorem closeCycle_round (t : Fin 8) (us : Nat) (s : Rc8) : (closeCycle t us s).rnd.round = s.rnd.round := by simp [closeCycle]
@[simp] theorem handOver_round (t : Fin 8) (o : CycleOut) (s : Rc8) : (handOver t o s).rnd.round = s.rnd.round := by simp [handOver]
@[simp] theorem endParked_round (t : Fin 8) (s : Rc8) : (endParked t s).rnd.round = s.rnd.round := by
  unfold endParked
  split <;> simp
@[simp] theorem shadowOn_round (s : Rc8) : (shadowOn s).rnd.round = s.rnd.round := by simp [shadowOn]
@[simp] theorem fillOther_round (s : Rc8) : (fillOther s).rnd.round = s.rnd.round := by
  unfold fillOther
  split <;> simp

/-! ### Changes (09) -/

@[simp] theorem effChangeLoad_round (b : List Byte) (s : Rc8) : (effChangeLoad b s).rnd.round = s.rnd.round := by simp [effChangeLoad]
@[simp] theorem ownChangeLoad_round (port : Nat) (b : List Byte) (s : Rc8) :
    (ownChangeLoad port b s).rnd.round = s.rnd.round := by simp [ownChangeLoad]
@[simp] theorem undoChange_round (skip : Bool) (s : Rc8) : (undoChange skip s).rnd.round = s.rnd.round := by
  unfold undoChange
  extract_lets s1 s2
  have kept : s2.rnd.round = s1.rnd.round := by
    refine foldl_round _ (fun s n => ?_) bothNets s1
    split
    · split <;> rfl
    · rfl
  exact kept
@[simp] theorem endAborts_round (st : Status) (s : Rc8) : (endAborts st s).rnd.round = s.rnd.round := by simp [endAborts]
@[simp] theorem abandon_round (cause cond : Nat) (s : Rc8) : (abandon cause cond s).rnd.round = s.rnd.round := by simp [abandon]
@[simp] theorem changeInterrupted_round (s : Rc8) : (changeInterrupted s).rnd.round = s.rnd.round := by simp [changeInterrupted]
@[simp] theorem prepareProgram_round (k : Package) (s : Rc8) : (prepareProgram k s).rnd.round = s.rnd.round := by
  unfold prepareProgram
  split <;> simp
@[simp] theorem effPrepare_round (s : Rc8) : (effPrepare s).rnd.round = s.rnd.round := by
  unfold effPrepare
  split
  · rfl
  · extract_lets s0 s1 s2
    have program : s0.rnd.round = s.rnd.round := by simp [s0]
    have tables : s2.rnd.round = s1.rnd.round := by
      refine foldl_round _ (fun s x => ?_) _ s1
      dsimp only
      split <;> rfl
    have kept : s2.rnd.round = s.rnd.round := tables.trans ((effBankCopy_round s0).trans program)
    split
    · exact kept
    · refine (foldl_round _ (fun s n => ?_) bothNets s2).trans kept
      split
      · rfl
      · dsimp only
        split <;> rfl
@[simp] theorem effArm_round (s : Rc8) : (effArm s).rnd.round = s.rnd.round := by simp [effArm]

/-! ### Permits (11) -/

@[simp] theorem zeroPermits_round (s : Rc8) : (zeroPermits s).rnd.round = s.rnd.round := by
  unfold zeroPermits
  refine foldl_round _ (fun s a => ?_) _ s
  split <;> rfl

/-! ### Safety commands (11) -/

@[simp] theorem safetyLog_round (kind port : Nat) (old new : Option (List Byte)) (operator : List Byte) (s : Rc8) :
    (safetyLog kind port old new operator s).rnd.round = s.rnd.round := rfl
@[simp] theorem effSafetyLoad_round (b : List Byte) (s : Rc8) : (effSafetyLoad b s).rnd.round = s.rnd.round := rfl
@[simp] theorem ownSafetyLoad_round (port : Nat) (b : List Byte) (s : Rc8) : (ownSafetyLoad port b s).rnd.round = s.rnd.round := rfl
@[simp] theorem effSafetyActivate_round (port : Nat) (operator : List Byte) (s : Rc8) :
    (effSafetyActivate port operator s).rnd.round = s.rnd.round := by
  unfold effSafetyActivate
  split <;> simp
@[simp] theorem ownSafetyActivate_round (port : Nat) (operator : List Byte) (s : Rc8) :
    (ownSafetyActivate port operator s).rnd.round = s.rnd.round := by simp [ownSafetyActivate]
@[simp] theorem safetyActivateEnds_round (s : Rc8) : (safetyActivateEnds s).rnd.round = s.rnd.round := rfl
@[simp] theorem effPassword_round (keep : Option (Fin 4)) (op : List Byte) (s : Rc8) : (effPassword keep op s).rnd.round = s.rnd.round := by
  unfold effPassword
  split <;> simp
@[simp] theorem ownPassword_round (p : Fin 4) (op : List Byte) (s : Rc8) :
    (ownPassword p op s).rnd.round = s.rnd.round := by simp [ownPassword]
@[simp] theorem effStopReset_round (mask outs : Nat) (s : Rc8) : (effStopReset mask outs s).rnd.round = s.rnd.round := rfl
@[simp] theorem ownStopReset_round (port mask outs : Nat) (s : Rc8) : (ownStopReset port mask outs s).rnd.round = s.rnd.round := rfl

/-! ### Safety outputs (11) -/

@[simp] theorem openSafety_round (s : Rc8) : (openSafety s).rnd.round = s.rnd.round := rfl
@[simp] theorem smlBoundary_round (s : Rc8) : (smlBoundary s).rnd.round = s.rnd.round := rfl

/-! ### Plant time (13) -/

@[simp] theorem setPtpPort_round (e : Fin 2) (st : Nat) (s : Rc8) : (setPtpPort e st s).rnd.round = s.rnd.round := by simp [setPtpPort]
@[simp] theorem setGrandmaster_round (e : Fin 2) (gm : Nat) (s : Rc8) :
    (setGrandmaster e gm s).rnd.round = s.rnd.round := by simp [setGrandmaster]
@[simp] theorem ptpDecide_round (e : Fin 2) (kind : Nat) (content : List Byte) (s : Rc8) :
    (ptpDecide e kind content s).rnd.round = s.rnd.round := by simp [ptpDecide]
@[simp] theorem ptpRestart_round (s : Rc8) : (ptpRestart s).rnd.round = s.rnd.round := by simp [ptpRestart]
@[simp] theorem cancelStep_round (s : Rc8) : (cancelStep s).rnd.round = s.rnd.round := by simp [cancelStep]
@[simp] theorem timeTakeOver_round (s : Rc8) : (timeTakeOver s).rnd.round = s.rnd.round := by simp [timeTakeOver]
@[simp] theorem timeBecomeStandby_round (s : Rc8) : (timeBecomeStandby s).rnd.round = s.rnd.round := by simp [timeBecomeStandby]
@[simp] theorem ethCount_round (e : Fin 2) (i : Fin 11) (s : Rc8) : (ethCount e i s).rnd.round = s.rnd.round := rfl
@[simp] theorem dropLate_round (e : Fin 2) (f : EthFrame) (s : Rc8) : (dropLate e f s).rnd.round = s.rnd.round := by
  unfold dropLate
  split <;> simp
@[simp] theorem effTimeConfigure_round (r : List Byte) (s : Rc8) :
    (effTimeConfigure r s).rnd.round = s.rnd.round := by simp [effTimeConfigure]

/-! ### Plant Ethernet (13) -/

@[simp] theorem startFrame_round (e : Fin 2) (s : Rc8) : (startFrame e s).rnd.round = s.rnd.round := by
  unfold startFrame
  dsimp only
  repeat' split
  all_goals simp
@[simp] theorem queueFrame_round (e : Fin 2) (f : EthFrame) (s : Rc8) : (queueFrame e f s).rnd.round = s.rnd.round := by simp [queueFrame]
@[simp] theorem ethDown_round (e : Fin 2) (s : Rc8) : (ethDown e s).rnd.round = s.rnd.round := by simp [ethDown]
@[simp] theorem gratuitousArp_round (s : Rc8) : (gratuitousArp s).rnd.round = s.rnd.round := by simp [gratuitousArp]
@[simp] theorem effEthConfigure_round (r : List Byte) (s : Rc8) : (effEthConfigure r s).rnd.round = s.rnd.round := by simp [effEthConfigure]
@[simp] theorem effPeerConfigure_round (r : List Byte) (s : Rc8) : (effPeerConfigure r s).rnd.round = s.rnd.round := rfl

/-! ### CAN (14) -/

@[simp] theorem canTakeOver_round (s : Rc8) : (canTakeOver s).rnd.round = s.rnd.round := rfl
@[simp] theorem canBecomeStandby_round (s : Rc8) : (canBecomeStandby s).rnd.round = s.rnd.round := rfl
@[simp] theorem effCanConfigure_round (r : List Byte) (s : Rc8) : (effCanConfigure r s).rnd.round = s.rnd.round := by simp [effCanConfigure]
@[simp] theorem effRxConfigure_round (r : List Byte) (s : Rc8) : (effRxConfigure r s).rnd.round = s.rnd.round := rfl
@[simp] theorem effTxWrite_round (r : List Byte) (s : Rc8) : (effTxWrite r s).rnd.round = s.rnd.round := rfl
@[simp] theorem effTxCancel_round (r : List Byte) (s : Rc8) : (effTxCancel r s).rnd.round = s.rnd.round := rfl
@[simp] theorem effCanStop_round (r : List Byte) (s : Rc8) : (effCanStop r s).rnd.round = s.rnd.round := by
  unfold effCanStop
  refine foldl_round _ (fun s c => ?_) _ s
  rfl

/-! ### Pins (15) -/

@[simp] theorem modPin_round (i : Fin 32) (f : Pin → Pin) (s : Rc8) : (modPin i f s).rnd.round = s.rnd.round := rfl
@[simp] theorem switchPin_round (i : Fin 32) (on : Bool) (s : Rc8) : (switchPin i on s).rnd.round = s.rnd.round := rfl
@[simp] theorem pinsOff_round (s : Rc8) : (pinsOff s).rnd.round = s.rnd.round := rfl
@[simp] theorem clearPins_round (mask : BitVec 32) (s : Rc8) : (clearPins mask s).rnd.round = s.rnd.round := by simp [clearPins]
@[simp] theorem fieldPower_round (s : Rc8) : (fieldPower s).rnd.round = s.rnd.round := rfl
@[simp] theorem effDioConfigure_round (r : List Byte) (s : Rc8) : (effDioConfigure r s).rnd.round = s.rnd.round := by simp [effDioConfigure]
@[simp] theorem effDioReset_round (r : List Byte) (s : Rc8) : (effDioReset r s).rnd.round = s.rnd.round := by simp [effDioReset]
@[simp] theorem ownDioReset_round (port : Nat) (r : List Byte) (s : Rc8) :
    (ownDioReset port r s).rnd.round = s.rnd.round := by simp [ownDioReset]

/-! ### Loops (15) -/

@[simp] theorem modLoop_round (c : Fin 8) (f : Loop → Loop) (s : Rc8) : (modLoop c f s).rnd.round = s.rnd.round := rfl
@[simp] theorem loopsSettle_round (s : Rc8) : (loopsSettle s).rnd.round = s.rnd.round := by simp [loopsSettle]
@[simp] theorem loopsHold_round (s : Rc8) : (loopsHold s).rnd.round = s.rnd.round := rfl
@[simp] theorem effLoopConfigure_round (r : List Byte) (s : Rc8) :
    (effLoopConfigure r s).rnd.round = s.rnd.round := by simp [effLoopConfigure]

/-! ### The token and the partner (10) -/

@[simp] theorem partnerAbsent_round (s : Rc8) : (partnerAbsent s).rnd.round = s.rnd.round := by simp [partnerAbsent]
@[simp] theorem stepEnds_round (k : Nat) (s : Rc8) : (stepEnds k s).rnd.round = s.rnd.round := by simp [stepEnds]
@[simp] theorem stepsAdvance_round (s : Rc8) : (stepsAdvance s).rnd.round = s.rnd.round := by simp [stepsAdvance]
@[simp] theorem settle_round (s : Rc8) : (settle s).rnd.round = s.rnd.round := rfl
@[simp] theorem gainReady_round (s : Rc8) : (gainReady s).rnd.round = s.rnd.round := by simp [gainReady]
@[simp] theorem loseReady_round (s : Rc8) : (loseReady s).rnd.round = s.rnd.round := rfl
@[simp] theorem updateReady_round (s0 : Rc8) : (updateReady s0).rnd.round = s0.rnd.round := by
  unfold updateReady
  dsimp only
  split <;> simp
@[simp] theorem sendItems_round (l : List CopyItem) (s : Rc8) : (sendItems l s).rnd.round = s.rnd.round := by simp [sendItems]
@[simp] theorem sendTransfer_round (s : Rc8) : (sendTransfer s).rnd.round = s.rnd.round := by simp [sendTransfer]
@[simp] theorem copyPass_round (s : Rc8) : (copyPass s).rnd.round = s.rnd.round := by simp [copyPass]
@[simp] theorem firstPass_round (s : Rc8) : (firstPass s).rnd.round = s.rnd.round := by simp [firstPass]
@[simp] theorem startResync_round (cause : Nat) (s : Rc8) : (startResync cause s).rnd.round = s.rnd.round := by simp [startResync]
@[simp] theorem endHand_round (h : Handover) (st : Status) (s : Rc8) : (endHand h st s).rnd.round = s.rnd.round := by
  unfold endHand
  split <;> simp
@[simp] theorem abandonHand_round (cause : Nat) (st : Status) (s : Rc8) : (abandonHand cause st s).rnd.round = s.rnd.round := by
  unfold abandonHand
  split <;> simp
@[simp] theorem fixHandover_round (s : Rc8) : (fixHandover s).rnd.round = s.rnd.round := by
  unfold fixHandover
  split <;> simp
@[simp] theorem becomeStandby_round (s : Rc8) : (becomeStandby s).rnd.round = s.rnd.round := by simp [becomeStandby]
@[simp] theorem releaseToken_round (cause : Nat) (s : Rc8) : (releaseToken cause s).rnd.round = s.rnd.round := by simp [releaseToken]
@[simp] theorem tokenFault_round (s : Rc8) : (tokenFault s).rnd.round = s.rnd.round := by
  unfold tokenFault
  split <;> simp
@[simp] theorem enterUnclaimed_round (s : Rc8) : (enterUnclaimed s).rnd.round = s.rnd.round := by simp [enterUnclaimed]
@[simp] theorem takeoverRefused_round (why : Nat) (s : Rc8) : (takeoverRefused why s).rnd.round = s.rnd.round := rfl
@[simp] theorem startLease_round (s : Rc8) : (startLease s).rnd.round = s.rnd.round := rfl
@[simp] theorem launchNow_round (s : Rc8) : (launchNow s).rnd.round = s.rnd.round := rfl
@[simp] theorem beginHolding_round (cause gap : Nat) (s : Rc8) :
    (beginHolding cause gap s).rnd.round = s.rnd.round := by simp [beginHolding]
@[simp] theorem takeToken_round (cause : Nat) (s : Rc8) : (takeToken cause s).rnd.round = s.rnd.round := by simp [takeToken]
@[simp] theorem takeAtBoundary_round (s : Rc8) : (takeAtBoundary s).rnd.round = s.rnd.round := by
  unfold takeAtBoundary
  repeat' split
  all_goals simp
@[simp] theorem handoverBoundary_round (s : Rc8) : (handoverBoundary s).rnd.round = s.rnd.round := by
  unfold handoverBoundary
  dsimp only
  repeat' split
  all_goals simp
@[simp] theorem effSetHome_round (r : List Byte) (s : Rc8) : (effSetHome r s).rnd.round = s.rnd.round := by simp [effSetHome]
@[simp] theorem ownSetHome_round (port : Nat) (r : List Byte) (s : Rc8) :
    (ownSetHome port r s).rnd.round = s.rnd.round := by simp [ownSetHome]

/-! ### Operations at their boundary (03 R112) -/

@[simp] theorem effSwitchRound_round (r : List Byte) (round : Nat) (s : Rc8) :
    (effSwitchRound r round s).rnd.round = s.rnd.round := by simp [effSwitchRound]
@[simp] theorem commandBoth_round (code : Nat) (r : List Byte) (s : Rc8) : (commandBoth code r s).rnd.round = s.rnd.round := by
  unfold commandBoth
  split <;> simp
@[simp] theorem commandOwn_round (code : Nat) (r : List Byte) (p : Fin 4) (s : Rc8) : (commandOwn code r p s).rnd.round = s.rnd.round := by
  unfold commandOwn
  split <;> simp
@[simp] theorem commandPartner_round (code : Nat) (r : List Byte) (round : Nat) (s : Rc8) :
    (commandPartner code r round s).rnd.round = s.rnd.round := by
  unfold commandPartner
  split <;> simp
@[simp] theorem opOwn_round (op : PairOp) (p : Fin 4) (s : Rc8) : (opOwn op p s).rnd.round = s.rnd.round := by
  unfold opOwn
  split <;> simp
@[simp] theorem opPartner_round (op : PairOp) (round : Nat) (s : Rc8) : (opPartner op round s).rnd.round = s.rnd.round := by
  unfold opPartner
  split <;> simp
@[simp] theorem opFails_round (op : PairOp) (s : Rc8) : (opFails op s).rnd.round = s.rnd.round := by
  unfold opFails
  split <;> simp
@[simp] theorem opDropped_round (op : PairOp) (s : Rc8) : (opDropped op s).rnd.round = s.rnd.round := by simp [opDropped]
@[simp] theorem opDone_round (op : PairOp) (s : Rc8) : (opDone op s).rnd.round = s.rnd.round := by simp [opDone]
@[simp] theorem dueOwn_round (x : PendOp) (s : Rc8) : (dueOwn x s).rnd.round = s.rnd.round := by
  unfold dueOwn
  repeat' split
  all_goals simp
@[simp] theorem duePartner_round (x : PendOp) (s : Rc8) : (duePartner x s).rnd.round = s.rnd.round := by
  unfold duePartner
  split <;> simp
@[simp] theorem takeDue_round (engine : Bool) (round : Nat) (s : Rc8) :
    (takeDue engine round s).rnd.round = s.rnd.round := by simp [takeDue]
@[simp] theorem applyDue_round (round : Nat) (s : Rc8) : (applyDue round s).rnd.round = s.rnd.round := by simp [applyDue]

/-! ### The networks' management (04) -/

@[simp] theorem addWork_round (n : Fin 2) (l : List MgmtWork) (s : Rc8) : (addWork n l s).rnd.round = s.rnd.round := rfl

/-! ### The cycle (03 R112) -/

@[simp] theorem firstLaunch_round (n : Fin 2) (s : Rc8) : (firstLaunch n s).rnd.round = s.rnd.round := by
  unfold firstLaunch
  split <;> simp
@[simp] theorem openBanks_round (s : Rc8) :
    (openBanks s).rnd.round = s.rnd.round := (zeroPermits_round _).trans (foldl_round _ (fun _ _ => rfl) bothNets s)
@[simp] theorem syncBoundary_round (s : Rc8) : (syncBoundary s).rnd.round = s.rnd.round := by simp [syncBoundary]
@[simp] theorem shadowFault_round (s : Rc8) : (shadowFault s).rnd.round = s.rnd.round := by simp [shadowFault]
@[simp] theorem pairBoundary_round (s : Rc8) : (pairBoundary s).rnd.round = s.rnd.round := rfl
@[simp] theorem nextRound_round (s : Rc8) : (nextRound s).rnd.round = (s.rnd.round + 1) % 2 ^ 64 := rfl

/-- The round boundary takes the round number one on: `nextRound` does, and nothing that takes effect after it touches the number. -/
theorem roundBoundary_round (s : Rc8) : (roundBoundary s).rnd.round = (s.rnd.round + 1) % 2 ^ 64 := by
  have counted : (pairBoundary (nextRound (shadowFault s))).rnd.round = (s.rnd.round + 1) % 2 ^ 64 := by
    rw [pairBoundary_round, nextRound_round, shadowFault_round]
  unfold roundBoundary
  simp only [updateReady_round, syncBoundary_round, foldl_round _ (fun u n => firstLaunch_round n u), shadowOn_round, fixHandover_round,
    handoverBoundary_round, takeAtBoundary_round, smlBoundary_round, openBanks_round, modFfe_rnd, countBare_round,
    foldl_round _ (fun u n => reflectBoundary_round n u), switchBoundary_round, applyModes_round, applyDue_round, counted]

/-- Settles O22: the step to the next round counts, and every operation of the boundary leaves the number. -/
theorem roundBoundaryCountsRounds : Obligations.RoundBoundaryCountsRounds := by
  intro s
  refine leads_of_act rfl ?_
  rw [State.after_toRc8]
  exact roundBoundary_round s.toRc8

end Sys2Proof.Machine
end

section
/-! SUPPORT. The commands on schedules and stop commands, and the statement about them (05 R175, R181 to R183, R186). -/

namespace Sys2Proof.Machine

open Sys2Proof

/-! ### Stored schedules, and the networks that a mask names -/

/-- A stored schedule bears the id that it is looked up by. -/
theorem storedSched_id {n : Fin 2} {id : Nat} {s : Rc8} {c : Schedule} (h : storedSched n id s = some c) : c.id = id := by
  simpa using List.find?_some h

/-- Only what is stored decides what is found. -/
theorem storedSched_congr {s t : Rc8} (h : t.nv.schedules = s.nv.schedules) (n : Fin 2) (id : Nat) :
    storedSched n id t = storedSched n id s := by
  simp [storedSched, h]

/-- A mask names no network twice. -/
theorem maskNets_nodup (e : Exec) : (maskNets e).Nodup := List.Nodup.filter _ (by decide)

/-- What a change of an entry keeps of it, it keeps of every entry. -/
theorem vmod_keeps {α β : Type} {m : Nat} {f : α → α} {part : α → β} (h : ∀ x, part (f x) = part x)
    (v : Vector α m) (n k : Fin m) : part (vmod v n f)[k] = part v[k] := by
  by_cases hv : n.val = k.val
  · obtain rfl := Fin.ext hv
    simp [h]
  · simp [hv]

/-- A change by a number in range is a change of its entry. -/
theorem vput_eq_vmod {α : Type} {m : Nat} (v : Vector α m) (i : Fin m) (f : α → α) : vput v i.val f = vmod v i f :=
  vput_eq_set rfl v f

/-- A change made on each network of a list reaches these and no other. -/
theorem foldl_modSch_getElem (f : Sched → Sched) {l : List (Fin 2)} (hl : l.Nodup) (k : Fin 2) (s : Rc8) :
    (l.foldl (fun s n => modSch n f s) s).sch[k] = if k ∈ l then f s.sch[k] else s.sch[k] := by
  induction l generalizing s with
  | nil => simp
  | cons n l ih =>
    obtain ⟨fresh, rest⟩ := List.nodup_cons.1 hl
    rw [List.foldl_cons, ih rest]
    by_cases h : n = k
    · subst h
      simp [fresh]
    · have hv : n.val ≠ k.val := Fin.val_ne_of_ne h
      simp [hv, Ne.symm h]

/-- Such changes leave the networks' joining state and what is stored. -/
theorem foldl_modSch_net (f : Sched → Sched) (l : List (Fin 2)) (s : Rc8) : (l.foldl (fun s n => modSch n f s) s).net = s.net :=
  foldl_keeps (fun r => r.net) _ (fun r n => modSch_net n f r) l s
theorem foldl_modSch_nv (f : Sched → Sched) (l : List (Fin 2)) (s : Rc8) : (l.foldl (fun s n => modSch n f s) s).nv = s.nv :=
  foldl_keeps (fun r => r.nv) _ (fun r n => modSch_nv n f r) l s

/-! ### The round-plan check leaves the schedules (03 R105; 04 R128) -/

section planCheck
variable {β : Type} {part : Rc8 → β} (hm : ∀ n f s, part (modNet n f s) = part s) (hr : ∀ e s, part (raise e s) = part s)
include hm hr

/-- The margins of the networks, and the events about them, are all that the check changes. -/
theorem updateMargins_keeps (n : Fin 2) (s : Rc8) : part (updateMargins n s) = part s := by
  unfold updateMargins
  split
  · exact hm ..
  · dsimp only
    split
    · exact hm ..
    · split
      · exact (hr ..).trans (hm ..)
      · exact hm ..

theorem runPlanCheck_keeps (s : Rc8) : part (runPlanCheck s).1 = part s :=
  (updateMargins_keeps hm hr 1 _).trans (updateMargins_keeps hm hr 0 s)

end planCheck

@[simp] theorem runPlanCheck_schedules (s : Rc8) : (runPlanCheck s).1.nv.schedules = s.nv.schedules :=
  runPlanCheck_keeps (part := fun r => r.nv.schedules) (fun _ _ _ => rfl) (fun _ _ => rfl) s
@[simp] theorem runPlanCheck_sch (s : Rc8) : (runPlanCheck s).1.sch = s.sch := runPlanCheck_keeps modNet_sch raise_sch s
@[simp] theorem runPlanCheck_pair (s : Rc8) : (runPlanCheck s).1.pair = s.pair := runPlanCheck_keeps modNet_pair raise_pair s

/-! ### Loading (05 R181) -/

/-- The load that the first block of a schedule begins. -/
def firstLoad (e : Exec) (finishing : Option Nat) : SchedLoad :=
  { port := e.port, id := u16At e.req 2, total := u32At e.req 4, data := e.req.drop 16, finishing := finishing }

/-- A module that has taken the first block of a schedule. -/
def Rc8.firstBlock (s : Rc8) (e : Exec) (n : Fin 2) (finishing : Option Nat) : Rc8 :=
  modSch n (fun k => { k with load := some (firstLoad e finishing) }) s

/-- The block is in the network's load. -/
theorem firstBlock_load (s : Rc8) (e : Exec) (n : Fin 2) (x : Option Nat) :
    ((s.firstBlock e n x).sch[n]).load = some (firstLoad e x) := by
  simp [Rc8.firstBlock]

/-- No schedule in force is touched by a block. -/
theorem firstBlock_inForce (s : Rc8) (e : Exec) (n k : Fin 2) (x : Option Nat) :
    ((s.firstBlock e n x).sch[k]).inForce = (s.sch[k]).inForce :=
  vmod_keeps (part := Sched.inForce) (fun _ => by rfl) s.sch n k

section load
variable {e : Exec} {n : Fin 2} {s : Rc8} (hn : netAt e 0 = n) (hb : schedLoadBlocked e s = none) (h0 : u32At e.req 8 = 0)
include hn hb h0

/-- A first block with more to come opens the load, and its command ends with the bytes received. -/
theorem schedLoad_opens (hl : bitAt (u8At e.req 1) 0 = false) (stored : Bool) :
    schedLoad stored e s = (s.firstBlock e n none).ended e.id .done (le 4 (e.req.drop 16).length ++ zeros 4) := by
  subst hn
  simp [schedLoad, hb, h0, hl, endExec_done, Rc8.firstBlock, firstLoad]

/-- A first block that is the last one too is the whole image. -/
theorem schedLoad_single (hl : bitAt (u8At e.req 1) 0 = true) (stored : Bool) :
    schedLoad stored e s = finishLoad e n (e.req.drop 16) stored (s.firstBlock e n (some e.id)) := by
  subst hn
  simp [schedLoad, hb, h0, hl, Rc8.firstBlock, firstLoad]

end load

/-- The block in the load has no part in the checks of a schedule. -/
theorem schedRefusal_firstBlock (s : Rc8) (e : Exec) (n k : Fin 2) (x : Option Nat) (c : Schedule) :
    schedRefusal k c (otherSched k (s.firstBlock e n x)) (s.firstBlock e n x) = schedRefusal k c (otherSched k s) s := by
  have other : otherSched k (s.firstBlock e n x) = otherSched k s := by
    unfold otherSched
    split
    · exact firstBlock_inForce s e n 1 x
    · exact firstBlock_inForce s e n 0 x
  rw [other]
  rfl

/-- An image that passes every check is stored, by a module alone at once (R156, R181). -/
theorem finishLoad_stores {e : Exec} {n : Fin 2} {image : List Byte} {s : Rc8} (hc : schedCrcOk image = true)
    (h1 : schedCond1 image (s.net[n]).media s.rnd.period (u32At e.req 4) (u16At e.req 2) n.val = true)
    (hr : schedRefusal n (parseSchedule image) (otherSched n s) s = none) (hp : s.pair.partner.present = false) :
    finishLoad e n image true s =
      (effSchedLoad n e.port.val image (runPlanCheck (pendNow e s)).1).ended e.id .done [] := by
  have alone : ((runPlanCheck (pendNow e s)).1).pair.partner.present = false := by simpa using hp
  simp only [finishLoad, hc, h1, hr, Bool.not_true, Bool.false_eq_true, if_false, if_true]
  exact pairStore_now alone false

/-- A single block that passes every check is stored. -/
theorem schedLoad_stores {e : Exec} {n : Fin 2} {s : Rc8} (hn : netAt e 0 = n) (hb : schedLoadBlocked e s = none)
    (h0 : u32At e.req 8 = 0) (hl : bitAt (u8At e.req 1) 0 = true) (hc : schedCrcOk (e.req.drop 16) = true)
    (h1 : schedCond1 (e.req.drop 16) (s.net[n]).media s.rnd.period (u32At e.req 4) (u16At e.req 2) n.val = true)
    (hr : schedRefusal n (parseSchedule (e.req.drop 16)) (otherSched n s) s = none) (hp : s.pair.partner.present = false) :
    schedLoad true e s = (effSchedLoad n e.port.val (e.req.drop 16)
      (runPlanCheck (pendNow e (s.firstBlock e n (some e.id)))).1).ended e.id .done [] := by
  have passed := (schedRefusal_firstBlock s e n n (some e.id) (parseSchedule (e.req.drop 16))).trans hr
  rw [schedLoad_single hn hb h0 hl]
  exact finishLoad_stores hc h1 passed hp

/-- The storage adds the image to its network's schedules. -/
theorem effSchedLoad_schedules (n : Fin 2) (port : Nat) (image : List Byte) (s : Rc8) :
    (effSchedLoad n port image s).nv.schedules = s.nv.schedules.set n (s.nv.schedules[n] ++ [parseSchedule image]) := by
  rw [← vput_eq_set rfl s.nv.schedules fun l => l ++ [parseSchedule image]]
  rfl

/-- The storage puts nothing in force. -/
theorem effSchedLoad_inForce (n k : Fin 2) (port : Nat) (image : List Byte) (s : Rc8) :
    ((effSchedLoad n port image s).sch[k]).inForce = (s.sch[k]).inForce := by
  have stored : (effSchedStore n.val image s).sch =
      vput s.sch n.val fun x => { x with toDelete := x.toDelete.filter fun d => d.1 != (parseSchedule image).id } := rfl
  rw [effSchedLoad, raise_sch, stored, vput_eq_vmod]
  exact vmod_keeps (part := Sched.inForce) (fun _ => by rfl) s.sch n k

/-! ### Deleting (05 R183; 10 R569) -/

/-- The deletion takes the schedule off its network's store, and its failed deletions are kept no longer. -/
theorem effSchedDelete_eq (n : Fin 2) (id : Nat) (s : Rc8) :
    effSchedDelete n.val id s =
      { s with nv := { s.nv with schedules := s.nv.schedules.set n (s.nv.schedules[n].filter fun c => c.id != id) },
               sch := vmod s.sch n fun k => { k with kept := k.kept.filter fun x => x != id } } := by
  simp only [effSchedDelete, vput_eq_set (i := n) rfl]
  rfl

/-! ### Stop commands (05 R169, R186) -/

/-- With room in the queue of every network named, each of these takes the stop. -/
theorem nodeStop_queues {e : Exec} {s : Rc8} (hq : ∀ k ∈ maskNets e, (s.sch[k]).stops.length < 16) :
    ∃ resp, nodeStop e s =
      ((maskNets e).foldl (fun s n => modSch n (queueStop (u8At e.req 1) (u8At e.req 2)) s) s).ended e.id .done resp := by
  have room : ((maskNets e).any fun n => decide (16 ≤ (s.sch[n]).stops.length)) = false := by simpa using hq
  simp only [nodeStop, room, Bool.false_eq_true, if_false, endExec_done]
  exact ⟨_, rfl⟩

/-! ### Switching (05 R175, R182) -/

/-- A switch made pending on one network: what SCHED_SWITCH does to each one it names. -/
def makePending (e : Exec) (s : Rc8) (n : Fin 2) : Rc8 :=
  match storedSched n (switchId e n) s with
  | none => s
  | some c => copySchedule n c <| modSch n (fun k => { k with
      pending := some { id := c.id, round := none, asked := u64At e.req 8, since := s.clk.refosc, exec := some e.id },
      work := k.work ++ offerWork n c s }) s

@[simp] theorem copySchedule_sch (n : Fin 2) (c : Schedule) (s : Rc8) : (copySchedule n c s).sch = s.sch := by
  unfold copySchedule
  split <;> simp
@[simp] theorem copySchedule_nv (n : Fin 2) (c : Schedule) (s : Rc8) : (copySchedule n c s).nv = s.nv := by
  unfold copySchedule
  split <;> simp

/-- A switch that is pending stores no schedule and puts none in force. -/
@[simp] theorem makePending_schedules (e : Exec) (s : Rc8) (n : Fin 2) : (makePending e s n).nv.schedules = s.nv.schedules := by
  unfold makePending
  split <;> simp
@[simp] theorem makePending_inForce (e : Exec) (s : Rc8) (n k : Fin 2) :
    ((makePending e s n).sch[k]).inForce = (s.sch[k]).inForce := by
  unfold makePending
  split
  · rfl
  · rw [copySchedule_sch]
    exact vmod_keeps (part := Sched.inForce) (fun _ => by rfl) s.sch n k

/-- The networks not named keep their switch; the one named has the switch to its id. -/
theorem makePending_other (e : Exec) (s : Rc8) {n k : Fin 2} (h : n ≠ k) :
    ((makePending e s n).sch[k]).pending = (s.sch[k]).pending := by
  have hv : n.val ≠ k.val := Fin.val_ne_of_ne h
  unfold makePending
  split <;> simp [hv]
theorem makePending_same {e : Exec} {s : Rc8} {n : Fin 2} {c : Schedule} (h : storedSched n (switchId e n) s = some c) :
    ((makePending e s n).sch[n]).pending =
      some { id := switchId e n, round := none, asked := u64At e.req 8, since := s.clk.refosc, exec := some e.id } := by
  simp [makePending, h, storedSched_id h]

/-- Every pending switch asks for the earliest round. -/
def AsksEarliest (s : Rc8) : Prop := ∀ (n : Fin 2) (w : SchedSwitch), (s.sch[n]).pending = some w → w.asked = 0

/-- A further switch that asks for the earliest round, too, leaves it so. -/
theorem makePending_asksEarliest {e : Exec} {s : Rc8} (ha : u64At e.req 8 = 0) (hs : AsksEarliest s) (n : Fin 2) :
    AsksEarliest (makePending e s n) := by
  intro k w hw
  by_cases h : n = k
  · subst h
    cases hc : storedSched n (switchId e n) s with
    | none => exact hs n w (by simpa [makePending, hc] using hw)
    | some c =>
      rw [makePending_same hc] at hw
      cases hw
      exact ha
  · exact hs k w (makePending_other e s h ▸ hw)

/-- Once every network of a list has had its switch made pending, each has one to its id. -/
theorem foldl_makePending_id {e : Exec} {k : Fin 2} (l : List (Fin 2)) (s : Rc8)
    (hl : ∀ n ∈ l, ∃ c, storedSched n (switchId e n) s = some c)
    (hk : (s.sch[k]).pending.map (·.id) = some (switchId e k) ∨ k ∈ l) :
    ((l.foldl (makePending e) s).sch[k]).pending.map (·.id) = some (switchId e k) := by
  induction l generalizing s with
  | nil => simpa using hk
  | cons n l ih =>
    obtain ⟨c, hc⟩ := hl n List.mem_cons_self
    rw [List.foldl_cons]
    refine ih _ (fun m hm => ?_) ?_
    · rw [storedSched_congr (makePending_schedules e s n)]
      exact hl m (List.mem_cons_of_mem _ hm)
    · by_cases h : n = k
      · subst h
        exact .inl (by rw [makePending_same hc]; rfl)
      · rw [makePending_other e s h]
        exact hk.imp_right fun mem => (List.mem_cons.1 mem).resolve_left (Ne.symm h)

/-- What the fixing of a switch's round leaves of a network: what is stored, the schedule in force, and the id of the pending one. -/
def Rc8.switching (s : Rc8) (n : Fin 2) : Vector (List Schedule) 2 × Option Schedule × Option Nat :=
  (s.nv.schedules, (s.sch[n]).inForce, (s.sch[n]).pending.map (·.id))

/-- A network's pending switch, if it has one, fixed for a round. -/
def fixRound (r : Nat) (k : Sched) : Sched := { k with pending := k.pending.map fun w => { w with round := some r } }

/-- A round that is fixed for a pending switch changes nothing else of it. -/
theorem modSch_fixRound_switching (n k : Fin 2) (r : Nat) (s : Rc8) : (modSch n (fixRound r) s).switching k = s.switching k := by
  have kept := vmod_keeps (f := fixRound r) (part := fun x => (x.inForce, x.pending.map (·.id)))
    (fun x => by simp [fixRound, Function.comp_def]) s.sch n k
  exact congrArg (Prod.mk s.nv.schedules) kept

/-- Messages on the pair link leave the schedules. -/
theorem plkSend_switching (t g : Nat) (b : PlkBody) (s : Rc8) (k : Fin 2) : (plkSend t g b s).switching k = s.switching k := by
  simp [Rc8.switching]

/-- A switch to the earliest round, where its round is fixed, stays pending. -/
theorem tryFixSwitch_switching {s : Rc8} (ha : AsksEarliest s) (k : Fin 2) : (tryFixSwitch s).switching k = s.switching k := by
  have asked : ∀ l : List (Fin 2), ((l.head?.bind fun n => (s.sch[n]).pending).map (·.asked)).getD 0 = 0 := fun l => by
    cases h : l.head?.bind fun n => (s.sch[n]).pending with
    | none => rfl
    | some w =>
      obtain ⟨n, -, hw⟩ := Option.bind_eq_some_iff.1 h
      exact ha n w hw
  have fixed : ∀ (l : List (Fin 2)) (r : Nat), (l.foldl (fun s n => modSch n (fixRound r) s) s).switching k = s.switching k :=
    fun l r => foldl_keeps (Rc8.switching · k) _ (fun u n => modSch_fixRound_switching n k r u) l s
  unfold tryFixSwitch
  dsimp only
  rw [asked]
  split
  · rfl
  · rw [if_neg (by simp)]
    split
    · exact (plkSend_switching ..).trans (fixed ..)
    · exact fixed ..

/-- A schedule that passes the checks of a whole image and those of R156 fails no condition of a switch. -/
theorem switchChecks_passed {n : Fin 2} {c : Schedule} {other : Option Schedule} {s : Rc8} (hc : schedCrcOk c.image = true)
    (h1 : schedCond1 c.image (s.net[n]).media s.rnd.period c.image.length c.id n.val = true) (hr : schedRefusal n c other s = none) :
    (switchCondition n c other s <|> schedRefusal n c other s) = none := by
  have conditions : schedConditions c other = none := by
    unfold schedRefusal at hr
    split at hr
    · cases hr
    · assumption
  have own : switchCondition n c other s = none := by
    rw [switchCondition, hc, h1]
    exact conditions
  rw [own, hr]
  rfl

/-- A switch to schedules that pass every condition is pending on each network it names, and its round is fixed if it can be. -/
theorem schedSwitch_pends {e : Exec} {s : Rc8} (hc : changeArmed s = false)
    (hs : ∀ n ∈ maskNets e, ∃ c, storedSched n (switchId e n) s = some c ∧ schedCrcOk c.image = true ∧
      schedCond1 c.image (s.net[n]).media s.rnd.period c.image.length c.id n.val = true ∧
      schedRefusal n c (afterSwitch e (if n = 0 then 1 else 0) s) s = none) :
    schedSwitch e s = tryFixSwitch ((maskNets e).foldl (makePending e) (runPlanCheck (pendNow e s)).1) := by
  have none_bad : ((maskNets e).findSome? fun n =>
      (storedSched n (switchId e n) s).bind fun c =>
        (switchCondition n c (afterSwitch e (if n = 0 then 1 else 0) s) s <|>
          schedRefusal n c (afterSwitch e (if n = 0 then 1 else 0) s) s).map fun k => (n, c.id, k)) = none := by
    refine List.findSome?_eq_none_iff.2 fun n hn => ?_
    obtain ⟨c, found, crc, cond1, passed⟩ := hs n hn
    rw [found, Option.bind_some, switchChecks_passed crc cond1 passed]
    rfl
  unfold schedSwitch
  rw [if_neg (by simp [hc])]
  dsimp only
  rw [none_bad]
  rfl

/-- With no switch in progress no network has one pending. -/
theorem pending_of_not_switchRuns {s : Rc8} (h : switchRuns s = false) (n : Fin 2) : (s.sch[n]).pending = none := by
  simp only [switchRuns, Bool.or_eq_false_iff, Option.isSome_eq_false_iff, Option.isNone_iff_eq_none] at h
  obtain ⟨n0, n1⟩ := h
  match n with
  | 0 => exact n0
  | 1 => exact n1

/-! ### A switch that ends without success (05 R182) -/

/-- The pending switch of one network ended: what a failed switch does to each network. -/
def endSwitch (st : Status) (cause : Nat) (s : Rc8) (n : Fin 2) : Rc8 :=
  match (s.sch[n]).pending with
  | none => s
  | some w =>
    endOpt w.exec st (raise { src := 35 + 8 * n.val, reason := 0x04, sev := .error, p0 := w.id, p1 := unconfirmed n s, p2 := cause }
      (modSch n (fun k => { k with pending := none, work := k.work.filter fun x => x.code != 3 }) s))

theorem failSwitch_eq (st : Status) (cause : Nat) (s : Rc8) :
    failSwitch st cause s = endSwitch st cause (endSwitch st cause s 0) 1 := rfl

@[simp] theorem endSwitch_clk (st : Status) (cause : Nat) (s : Rc8) (n : Fin 2) : (endSwitch st cause s n).clk = s.clk := by
  unfold endSwitch
  split <;> simp
theorem endSwitch_pending (st : Status) (cause : Nat) (s : Rc8) (n k : Fin 2) :
    ((endSwitch st cause s n).sch[k]).pending = if n = k then none else (s.sch[k]).pending := by
  unfold endSwitch
  split
  next none_pending =>
    split
    next h => exact h ▸ none_pending
    next => rfl
  next =>
    by_cases h : n = k
    · subst h
      simp
    · have hv : n.val ≠ k.val := Fin.val_ne_of_ne h
      simp [h, hv]
@[simp] theorem endSwitch_inForce (st : Status) (cause : Nat) (s : Rc8) (n k : Fin 2) :
    ((endSwitch st cause s n).sch[k]).inForce = (s.sch[k]).inForce := by
  unfold endSwitch
  split
  · rfl
  · rw [endOpt_sch, raise_sch]
    exact vmod_keeps (part := Sched.inForce) (fun _ => by rfl) s.sch n k

/-- A failed switch leaves no switch pending, the schedules in force, and the time. -/
theorem failSwitch_ends (st : Status) (cause : Nat) (s : Rc8) :
    (∀ k : Fin 2, ((failSwitch st cause s).sch[k]).pending = none ∧
      ((failSwitch st cause s).sch[k]).inForce = (s.sch[k]).inForce) ∧ (failSwitch st cause s).clk = s.clk := by
  rw [failSwitch_eq]
  refine ⟨fun k => ⟨?_, by simp only [endSwitch_inForce]⟩, by simp only [endSwitch_clk]⟩
  rw [endSwitch_pending, endSwitch_pending]
  match k with
  | 0 => rfl
  | 1 => rfl

/-- Ten seconds after a switch that waits for its round began, it ends on both networks. -/
theorem exec_scheduleSwitchTimeout {s : State} {w : SchedSwitch}
    (hw : (bothNets.findSome? fun n => (s.sch[n]).pending.filter fun w => w.round.isNone) = some w) :
    exec .scheduleSwitchTimeout s =
      .next (s.after fun r => failSwitch .tooLate 2 (atRefosc (w.since + 10000000000) r)) := by
  show execScheduleSwitchTimeout s = _
  refine act_eq_of_eq ?_
  rw [hw]

/-! ### The statement -/

/-- Settles O29: a first block opens a load or is the whole image; the stop, and the switch to the earliest round, reach each network
named; a switch that times out ends on both networks. -/
theorem schedules : Obligations.Schedules := by
  refine ⟨fun s p m e n => ⟨fun he hn hb h0 => ⟨fun stored hl => leads_of_act rfl ?opens,
      fun hl hcrc h1 hr hp => leads_of_act rfl ?stores⟩, fun he hn _ => leads_of_act rfl ?deletes,
      fun he hq => leads_of_act rfl ?stops⟩,
    fun s p m e he hc hrun ha hs => leads_of_act rfl ?switches, fun s w hw => ⟨_, exec_scheduleSwitchTimeout hw, rfl, ?timeout⟩⟩
  case opens =>
    rw [State.after_toRc8, runCmd_found he, schedLoad_opens hn hb h0 hl]
    exact ⟨firstBlock_load .., rfl, rfl, rfl⟩
  case stores =>
    rw [State.after_toRc8, runCmd_found he, schedLoad_stores hn hb h0 hl hcrc h1 hr hp]
    simp only [Rc8.ended, effSchedLoad_schedules, effSchedLoad_inForce, runPlanCheck_schedules, runPlanCheck_sch, pendNow_nv,
      pendNow_sch, firstBlock_inForce, and_true]
    rfl
  case deletes =>
    subst hn
    rw [State.after_toRc8, runCmd_found he]
    simp [schedDelete, effSchedDelete_eq, endExec_done, Rc8.ended, Rc8.marked]
  case stops =>
    rw [State.after_toRc8, runCmd_found he]
    obtain ⟨resp, queued⟩ := nodeStop_queues hq
    rw [queued]
    have reached := fun k => foldl_modSch_getElem (queueStop (u8At e.req 1) (u8At e.req 2)) (maskNets_nodup e) k s.toRc8
    have stopped := fun k hk => (reached k).trans (if_pos hk)
    exact ⟨fun k hk => ⟨congrArg Sched.stopSeq (stopped k hk), congrArg Sched.stops (stopped k hk)⟩,
      fun k hk => (reached k).trans (if_neg hk), foldl_modSch_net .., foldl_modSch_nv ..⟩
  case switches =>
    rw [State.after_toRc8, runCmd_found he, schedSwitch_pends hc hs]
    generalize hr : (runPlanCheck (pendNow e s.toRc8)).1 = r
    have sch : r.sch = s.sch := by rw [← hr, runPlanCheck_sch, pendNow_sch]
    have stored : r.nv.schedules = s.nv.schedules := by rw [← hr, runPlanCheck_schedules, pendNow_nv]
    have asks : AsksEarliest ((maskNets e).foldl (makePending e) r) :=
      List.foldlRecOn _ _ (fun n w hw => by rw [sch, pending_of_not_switchRuns hrun n] at hw; cases hw)
        fun _ h n _ => makePending_asksEarliest ha h n
    have fixed := tryFixSwitch_switching asks
    refine ⟨fun n hn => ⟨?pending, ?inForce⟩, ?schedules⟩
    case pending =>
      refine (congrArg (·.2.2) (fixed n)).trans (foldl_makePending_id _ r (fun k hk => ?_) (.inr hn))
      obtain ⟨c, found, -⟩ := hs k hk
      exact ⟨c, (storedSched_congr stored ..).trans found⟩
    case inForce =>
      refine (congrArg (·.2.1) (fixed n)).trans ?_
      refine (foldl_keeps (fun u => (u.sch[n]).inForce) _ (fun u k => makePending_inForce e u k n) _ r).trans ?_
      rw [sch]
    case schedules =>
      refine (congrArg (·.1) (fixed 0)).trans ?_
      exact (foldl_keeps (fun u => u.nv.schedules) _ (makePending_schedules e) _ r).trans stored
  case timeout =>
    obtain ⟨ended, clk⟩ := failSwitch_ends .tooLate 2 (atRefosc (w.since + 10000000000) s.toRc8)
    exact ⟨ended, clk ▸ le_atRefosc ..⟩

end Sys2Proof.Machine
end

section
/-! SUPPORT. Commands that act on both modules at the effective round, and the statement about them (06 R212, R221; 07 R235, R242; 10
R569). -/

namespace Sys2Proof.Machine

open Sys2Proof

/-! ### Operations told to a partner that is absent (10 R569) -/

/-- A module alone fixes an operation for its round, and nothing else changes. -/
theorem pairTell_alone {s : Rc8} (hp : s.pair.partner.present = false) (id : Option Nat) (op : PairOp) (round : Nat) (resp : List Byte)
    (late : Bool) : pairTell id op round resp late s =
      { s with pair := { s.pair with pend := s.pair.pend ++ [PendOp.own round op id resp late] } } := by
  simp [pairTell, hp, modPair, PendOp.own]

@[simp] theorem pairTell_nv (id : Option Nat) (op : PairOp) (round : Nat) (resp : List Byte) (late : Bool) (s : Rc8) :
    (pairTell id op round resp late s).nv = s.nv := by
  unfold pairTell; split <;> simp
@[simp] theorem pairTell_learn (id : Option Nat) (op : PairOp) (round : Nat) (resp : List Byte) (late : Bool) (s : Rc8) :
    (pairTell id op round resp late s).learn = s.learn := by
  unfold pairTell; split <;> simp

/-! ### The commands' own rows (06 R221; 07 R242) -/

section rows
variable {s : Rc8} {e : Exec}

/-- A learning command that acts on both modules ends with DONE and its effective round, at which its operation stands fixed. -/
theorem learnAt_alone (hp : s.pair.partner.present = false) : learnAt e s = s.atEffective e := by
  simp [learnAt, pairTell_alone hp, endExec_done, Rc8.ended, Rc8.marked, Rc8.atEffective, roundResponse, lo32]

/-- ENGINE_AXIS_RESET and ENGINE_AXIS_HALT end as the learning commands of their kind. -/
theorem axisRequest_eq_learnAt (e : Exec) (s : Rc8) : axisRequest e s = learnAt e s := rfl

/-- LEARN_CONTROL and LEARN_CLEAR are refused only while something of one of their axes waits. -/
theorem learnMask_idle (h : learnBusy (maskAxes e.req 0) s = false) : learnMask e s = learnAt e s :=
  if_neg (by simp [h])

/-- LEARN_TABLE_WRITE is refused only while something of its axis waits. -/
theorem learnTableWrite_idle (h : learnBusy [u16At e.req 0] s = false) : learnTableWrite e s = learnAt e s :=
  if_neg (by simp [h])

/-- LEARN_CONFIGURE that keeps the table's form is a command of the effective round. -/
theorem learnConfigure_keeps (h : learnBusy [u16At e.req 0] s = false) (hr : learnResamples e.req s = false) :
    learnConfigure e s = learnAt e s := by
  simp [learnConfigure, h, hr]

/-- LEARN_CONFIGURE that changes the table's form waits for its round, with the table's domain on. -/
theorem learnConfigure_resamples (h : learnBusy [u16At e.req 0] s = false) (hr : learnResamples e.req s = true) :
    learnConfigure e s = learnLater e (domainOn 4 s) := by
  simp [learnConfigure, h, hr]

end rows

/-- A command that runs on until its round answers PENDING, its operation stands fixed, and no table moves yet. -/
theorem learnLater_waits (e : Exec) (s : Rc8) :
    (learnLater e s).pair.pend = s.pair.pend ++ [PendOp.own (effectiveRound s) (.command e.code e.req) (some e.id) [] true] ∧
    (learnLater e s).execs = s.markedLong e.id .waiting ∧ (learnLater e s).learn = s.learn ∧ (learnLater e s).nv = s.nv := by
  simp [learnLater, pendNow_execs]

/-! ### The statement -/

/-- Settles O32: each row is `learnAt` unless something waits, and a change of the table's form is `learnLater`. -/
theorem effectiveRoundCommands : Obligations.EffectiveRoundCommands := by
  intro s p m e hp
  refine ⟨fun he => ?reset, fun he => ?halt, fun he idle => ⟨fun hr => ?configure, fun hr => ?resample⟩, fun he idle => ?control,
    fun he idle => ?tableWrite, fun he idle => ?clear⟩
  case reset => exact act_runCmd he ((axisRequest_eq_learnAt e _).trans (learnAt_alone hp))
  case halt => exact act_runCmd he ((axisRequest_eq_learnAt e _).trans (learnAt_alone hp))
  case configure => exact act_runCmd he ((learnConfigure_keeps idle hr).trans (learnAt_alone hp))
  case resample =>
    refine leads_of_act rfl ?_
    rw [State.after_toRc8, runCmd_found he, learnConfigure_resamples idle hr]
    exact learnLater_waits e (domainOn 4 s.toRc8)
  case control => exact act_runCmd he ((learnMask_idle idle).trans (learnAt_alone hp))
  case tableWrite => exact act_runCmd he ((learnTableWrite_idle idle).trans (learnAt_alone hp))
  case clear => exact act_runCmd he ((learnMask_idle idle).trans (learnAt_alone hp))

end Sys2Proof.Machine
end

section
/-! SUPPORT. The engine's parameter banks, its swaps and its self-test, and the statement about them (06 R209, R217, R219, R220). -/

namespace Sys2Proof.Machine

open Sys2Proof

/-! ### Association lists: an axis's parameters and what the engine keeps of it -/

/-- After a key is put, it is found with its value, and every other key as before. -/
theorem find?_assocPut {α β : Type} [DecidableEq α] (l : List (α × β)) (k a : α) (v : β) :
    (assocPut l k v).find? (fun x => x.1 == a) = if a = k then some (k, v) else l.find? fun x => x.1 == a := by
  unfold assocPut
  split
  case isTrue present =>
    have key : ((fun x : α × β => x.1 == a) ∘ fun x => if x.1 == k then (k, v) else x) = fun x => x.1 == a := by
      funext x
      by_cases hx : x.1 = k <;> simp [hx]
    rw [List.find?_map, key]
    cases hf : l.find? fun x => x.1 == a with
    | none =>
      have absent : a ≠ k := by
        rintro rfl
        rw [List.find?_eq_none] at hf
        exact (List.any_eq_true.1 present).elim fun x hx => hf x hx.1 hx.2
      simp [absent]
    | some x =>
      have hx : x.1 = a := by simpa using List.find?_some hf
      simp [hx, apply_ite some]
  case isFalse absent =>
    have missing : (l.find? fun x => x.1 == k) = none :=
      List.find?_eq_none.2 fun x hx same => absent (List.any_eq_true.2 ⟨x, hx, same⟩)
    rw [List.find?_append]
    split
    case isTrue same => simp [same, missing]
    case isFalse other => simp [Ne.symm other]

/-- A block that is put is the block of its axis, and the other axes keep theirs (06 R191). -/
theorem block_assocPut (b : Bank) (k a : Nat) (v : List Byte) (g : Nat) :
    ({ blocks := assocPut b.blocks k v, generation := g } : Bank).block a = if a = k then v else b.block a := by
  unfold Bank.block
  rw [find?_assocPut]
  split <;> rfl

/-- What is put for an axis is what the engine keeps of it, and of the other axes it keeps what it did. -/
theorem axisOf_putAxis (k a : Nat) (x : Axis) (s : Rc8) : axisOf a (putAxis k x s) = if a = k then x else axisOf a s := by
  unfold axisOf putAxis
  rw [modEng_eng, find?_assocPut]
  split <;> rfl

/-- What the engine keeps of an axis is the engine's alone. -/
theorem axisOf_congr {s t : Rc8} (h : t.eng.axes = s.eng.axes) (a : Nat) : axisOf a t = axisOf a s := by
  simp [axisOf, h]

/-! ### The banks (06 R217, R219) -/

/-- The shadow bank is not the active one. -/
theorem shadowBank_ne (s : Rc8) : (shadowBank s).val ≠ s.nv.bankActive.val :=
  Fin.val_ne_of_ne ((by decide : ∀ b : Fin 2, otherBank b ≠ b) s.nv.bankActive)

/-- A write puts one block into the shadow bank, whose generation counts; the engine, the commands and the number of the active bank
stay. -/
theorem ownParamWrite_writes (port : Nat) (r : List Byte) (s : Rc8) :
    (ownParamWrite port r s).nv.banks = vmod s.nv.banks (shadowBank s) (fun b =>
      { blocks := assocPut b.blocks (u16At r 0) (slice r 8 768), generation := (b.generation + 1) % 2 ^ 32 }) ∧
    (ownParamWrite port r s).nv.bankActive = s.nv.bankActive ∧ (ownParamWrite port r s).eng = s.eng ∧
    (ownParamWrite port r s).execs = s.execs := by
  simp [ownParamWrite, paramsWritten, effParamWrite, domainOn]

/-- A copy puts the active bank into the shadow bank; the engine and the number of the active bank stay. -/
theorem ownBankCopy_copies (port : Nat) (s : Rc8) :
    (ownBankCopy port s).nv.banks = vmod s.nv.banks (shadowBank s) (fun _ => s.nv.banks[s.nv.bankActive]) ∧
    (ownBankCopy port s).nv.bankActive = s.nv.bankActive ∧ (ownBankCopy port s).eng = s.eng := by
  simp [ownBankCopy, paramsWritten, effBankCopy]

section rows
variable {s : Rc8} {e : Exec} (free : engineBusy e s = false)
include free

/-- ENGINE_PARAM_WRITE of a module alone writes its block at once, and answers the shadow's new generation. -/
theorem paramWrite_stored (hp : s.pair.partner.present = false) : paramWrite true e s =
    (ownParamWrite e.port.val e.req s).ended e.id .done (le 4 (((s.nv.banks[shadowBank s]).generation + 1) % 2 ^ 32) ++ zeros 4) := by
  simp [paramWrite, free, pairStore_now hp, shadowGen]

/-- ENGINE_PARAM_WRITE whose read-back differs ends with INTEGRITY_FAIL. -/
theorem paramWrite_failed : paramWrite false e s = endWith e.id .integrityFail s := by
  simp [paramWrite, free]

/-- ENGINE_BANK_COPY of a module alone copies at once, and answers the generation copied. -/
theorem bankCopy_stored (hp : s.pair.partner.present = false) : bankCopy true e s =
    (ownBankCopy e.port.val s).ended e.id .done (le 4 (s.nv.banks[s.nv.bankActive]).generation ++ zeros 4) := by
  simp [bankCopy, free, pairStore_now hp]

end rows

/-! ### The swap (06 R220) -/

/-- An operation fixed for a round joins those that wait, and nothing changes but the pair link and its messages. -/
theorem pairAt_fixes (id : Nat) (op : PairOp) (round : Nat) (s : Rc8) :
    (pairAt id op round s).pair.pend.length = s.pair.pend.length + 1 ∧ (pairAt id op round s).eng = s.eng ∧
    (pairAt id op round s).nv = s.nv ∧ (pairAt id op round s).execs = s.execs := by
  unfold pairAt
  dsimp only
  split <;> simp

/-- The round of a swap: the one asked for, or the first one it can take. -/
def swapRound (e : Exec) (s : Rc8) : Nat := if u64At e.req 0 = 0 then roundAfter 1000000 s else u64At e.req 0

/-- A swap that is not refused answers PENDING and is fixed for its round. -/
theorem bankSwap_fixes {s : Rc8} {e : Exec} (hc : changeArmed s = false)
    (hr : u64At e.req 0 = 0 ∨ roundAfter 1000000 s ≤ u64At e.req 0) : bankSwap e s =
      pairAt e.id (.command e.code e.req) (swapRound e s) (modEng (fun g => { g with swapAt := some (swapRound e s) }) (pendNow e s)) := by
  have inTime : ¬ (u64At e.req 0 ≠ 0 ∧ u64At e.req 0 < roundAfter 1000000 s) := by omega
  simp only [bankSwap, hc, Bool.false_eq_true, if_false, if_neg inTime]
  rfl

/-! ### The self-test (06 R209) -/

/-- What a passed self-test makes of an axis that is not IDLE: in FAULT, and sending quick stop. -/
def quickFault (a : Nat) (s : Rc8) : Rc8 :=
  let x := axisOf a s
  if x.st = .fault then putAxis a { x with quick := true } s
  else raise { src := 49, reason := 0x02, sev := .error, p0 := a, p1 := 6, p2 := 3 }
    (modEng (fun e => { e with axisFaults := inc32 e.axisFaults })
      (putAxis a { (x.toFault (activeBlock a s) 6 s.rnd.round) with quick := true } s))

/-- An axis stands in FAULT and sends quick stop. -/
def StopsQuick (a : Nat) (s : Rc8) : Prop := (axisOf a s).st = .fault ∧ (axisOf a s).quick = true

/-- An axis that is put in FAULT sends quick stop. -/
theorem quickFault_stops (a : Nat) (s : Rc8) : StopsQuick a (quickFault a s) := by
  unfold quickFault
  dsimp only
  split
  case isTrue faulted => simp [StopsQuick, axisOf_putAxis, faulted]
  case isFalse =>
    have kept := axisOf_putAxis a a { (axisOf a s).toFault (activeBlock a s) 6 s.rnd.round with quick := true } s
    rw [if_pos rfl] at kept
    exact ⟨congrArg Axis.st kept, congrArg Axis.quick kept⟩

/-- Putting an axis in FAULT leaves the other axes. -/
theorem axisOf_quickFault_other {a b : Nat} (h : b ≠ a) (s : Rc8) : axisOf b (quickFault a s) = axisOf b s := by
  have other := fun x => (axisOf_putAxis a b x s).trans (if_neg h)
  unfold quickFault
  dsimp only
  split
  · exact other _
  · exact (axisOf_congr (by rw [raise_eng]; rfl) b).trans (other _)

/-- An axis that sends quick stop goes on with it while others are put in FAULT. -/
theorem StopsQuick.quickFault {b : Nat} {s : Rc8} (h : StopsQuick b s) (a : Nat) : StopsQuick b (quickFault a s) := by
  by_cases hba : b = a
  · subst hba
    exact quickFault_stops b s
  · rwa [StopsQuick, axisOf_quickFault_other hba]

/-- Every axis of a list is put in FAULT. -/
theorem foldl_quickFault_stops {l : List Nat} {a : Nat} (ha : a ∈ l) (s : Rc8) :
    StopsQuick a (l.foldl (fun r b => quickFault b r) s) := by
  induction l generalizing s with
  | nil => cases ha
  | cons b l ih =>
    rw [List.foldl_cons]
    rcases List.mem_cons.1 ha with rfl | ha
    · exact List.foldlRecOn l _ (quickFault_stops a s) fun r h b _ => h.quickFault b
    · exact ih ha _

/-- Every configured axis that is not IDLE put in FAULT. -/
def stopRestless (s : Rc8) : Rc8 := ((configuredAxes s).filter fun a => (axisOf a s).st != .idle).foldl (fun r a => quickFault a r) s

/-- A configured axis that was not IDLE sends quick stop then. -/
theorem stopRestless_stops {a : Nat} {s : Rc8} (ha : a ∈ configuredAxes s) (h : (axisOf a s).st ≠ .idle) :
    StopsQuick a (stopRestless s) :=
  foldl_quickFault_stops (List.mem_filter.2 ⟨ha, by simpa using h⟩) s

/-- A passed self-test ends recovery, with every axis that was not IDLE in FAULT. -/
theorem selfTestDone_passed {s : Rc8} (h : s.eng.st = .recover) : (selfTestDone true s).eng =
    { (stopRestless s).eng with st := .run, recovered := some s.rnd.round, started := false, done := false } := by
  simp only [selfTestDone, h, ne_eq, not_true_eq_false, if_false, if_true, raise_eng, modEng_eng]
  rfl

/-- A self-test that fails ends in FAILED. -/
theorem selfTestDone_failed {s : Rc8} (h : s.eng.st = .recover) : (selfTestDone false s).eng = { s.eng with st := .failed } := by
  simp [selfTestDone, h]

/-! ### The resync that a standby asks for after its recovery leaves the engine (10 R326, R328, R335) -/

/-- None of what such a request does concerns the engine. -/
@[simp] theorem stepEnds_eng (k : Nat) (s : Rc8) : (stepEnds k s).eng = s.eng := by
  unfold stepEnds
  split <;> simp
@[simp] theorem stepsAdvance_eng (s : Rc8) : (stepsAdvance s).eng = s.eng := by
  have endsIf : ∀ (k : Nat) (c : Prop) [Decidable c] (r : Rc8), (if c then stepEnds k r else r).eng = r.eng := fun k c _ r => by
    split <;> simp
  exact (endsIf ..).trans ((endsIf ..).trans (endsIf ..))
theorem updateReady_eng (s : Rc8) : (updateReady s).eng = s.eng := by
  unfold updateReady gainReady loseReady settle
  dsimp only
  repeat' split
  all_goals simp
@[simp] theorem sendItems_eng (l : List CopyItem) (s : Rc8) : (sendItems l s).eng = s.eng :=
  foldl_keeps (fun r => r.eng) _ (fun _ _ => plkSend_eng ..) l s
@[simp] theorem firstPass_eng (s : Rc8) : (firstPass s).eng = s.eng := by
  unfold firstPass copyPass sendTransfer
  repeat' split
  all_goals simp
theorem startResync_eng (cause : Nat) (s : Rc8) : (startResync cause s).eng = s.eng := by
  unfold startResync
  repeat' split
  all_goals simp
/-- Of the engine, the row leaves what the self-test leaves. -/
theorem engineRecovers_eng (passed : Bool) (s : Rc8) : (engineRecovers passed s).eng = (selfTestDone passed s).eng := by
  unfold engineRecovers
  dsimp only
  split
  · exact (updateReady_eng _).trans (startResync_eng ..)
  · rfl

/-! ### The statement -/

/-- Settles O31: a write and a copy change the shadow bank alone, a swap is fixed by `pairAt`, and the self-test's end puts one axis
after the other in FAULT. -/
theorem engineBanksAndSelfTest : Obligations.EngineBanksAndSelfTest := by
  refine ⟨fun s p m e => ⟨fun he free alone => ⟨leads_of_act rfl ?write, ?readBackDiffers⟩,
      fun he free alone => leads_of_act rfl ?copy⟩,
    fun s p m e he hc hr => leads_of_act rfl ?swap,
    fun s hs => ⟨leads_of_act rfl ?passed, leads_of_act rfl ((engineRecovers_eng false _).trans (selfTestDone_failed hs))⟩⟩
  case write =>
    rw [State.after_toRc8, runCmd_found he, paramWrite_stored free alone]
    obtain ⟨banks, active, eng, execs⟩ := ownParamWrite_writes e.port.val e.req s.toRc8
    simp only [Rc8.ended, Rc8.marked, banks, active, eng, execs]
    simp +contextual [block_assocPut, shadowBank_ne]
  case readBackDiffers => exact act_runCmd he (paramWrite_failed free)
  case copy =>
    rw [State.after_toRc8, runCmd_found he, bankCopy_stored free alone]
    obtain ⟨banks, active, eng⟩ := ownBankCopy_copies e.port.val s.toRc8
    simp [Rc8.ended, banks, active, eng, shadowBank_ne]
  case swap =>
    rw [State.after_toRc8, runCmd_found he, bankSwap_fixes hc hr]
    obtain ⟨pend, eng, nv, execs⟩ := pairAt_fixes e.id (.command e.code e.req) (swapRound e s.toRc8)
      (modEng (fun g => { g with swapAt := some (swapRound e s.toRc8) }) (pendNow e s.toRc8))
    refine ⟨eng.trans ?_, congrArg Nv.bankActive (nv.trans (pendNow_nv e s.toRc8)), execs.trans (pendNow_execs e s.toRc8), pend.trans ?_⟩
    · rw [modEng_eng, pendNow_eng]
      rfl
    · rw [modEng_pair, pendNow_pair]
  case passed =>
    rw [State.after_toRc8]
    have ends := (engineRecovers_eng true s.toRc8).trans (selfTestDone_passed hs)
    refine ⟨congrArg Engine.st ends, congrArg Engine.recovered ends, congrArg Engine.started ends, fun a ha notIdle => ?_⟩
    have kept : axisOf a (engineRecovers true s.toRc8) = axisOf a (stopRestless s.toRc8) := axisOf_congr (by rw [ends]) a
    exact kept ▸ stopRestless_stops ha notIdle

end Sys2Proof.Machine
end

section
/-! SUPPORT. Snapshots, restores and moves of the learning tables, and the statement about them (07 R237 to R240, R242; 09 R290). -/

namespace Sys2Proof.Machine

open Sys2Proof

/-! ### One axis's learning among the others' -/

/-- What is put for an axis is its learning, and the other axes keep theirs. -/
theorem learnOf_putLearn (k a : Nat) (l : Learn) (s : Rc8) : learnOf a (putLearn k l s) = if a = k then l else learnOf a s := by
  simp only [learnOf, putLearn, find?_assocPut]
  split <;> rfl

/-- An axis's learning is the learning tables' alone. -/
theorem learnOf_congr {s t : Rc8} (h : t.learn = s.learn) (a : Nat) : learnOf a t = learnOf a s := by
  simp [learnOf, h]

/-- After a change of one axis's learning, it is changed and the others' stay. -/
theorem learnOf_modLearn (k a : Nat) (f : Learn → Learn) (s : Rc8) :
    learnOf a (modLearn k f s) = if a = k then f (learnOf k s) else learnOf a s := learnOf_putLearn k a _ s

/-- Of two values put for one key, the second stays. -/
theorem assocPut_assocPut {α β : Type} [DecidableEq α] (l : List (α × β)) (k : α) (v w : β) :
    assocPut (assocPut l k v) k w = assocPut l k w := by
  by_cases present : l.any (fun x => x.1 == k) = true
  · have key : ∀ x : α × β, ((if x.1 == k then (k, v) else x).1 == k) = (x.1 == k) := fun x => by
      by_cases hx : x.1 = k <;> simp [hx]
    have again : (l.map fun x => if x.1 == k then (k, v) else x).any (fun x => x.1 == k) = true := by
      rw [List.any_map]
      exact (congrArg l.any (funext key)).trans present
    unfold assocPut
    rw [if_pos present, if_pos present, if_pos again, List.map_map]
    exact List.map_congr_left fun x _ => by by_cases hx : x.1 = k <;> simp [hx]
  · have keep : (l.map fun x => if x.1 == k then (k, w) else x) = l :=
      (List.map_congr_left fun x hx => if_neg fun hk => present (List.any_eq_true.2 ⟨x, hx, hk⟩)).trans (List.map_id' l)
    unfold assocPut
    rw [if_neg present, if_neg present, if_pos (by simp), List.map_append, keep]
    simp

/-- What an association list holds after a key is put: its new value, and what it held under other keys. -/
theorem mem_assocPut {α β : Type} [DecidableEq α] {l : List (α × β)} {k : α} {v : β} {x : α × β} (h : x ∈ assocPut l k v) :
    x = (k, v) ∨ (x ∈ l ∧ x.1 ≠ k) := by
  unfold assocPut at h
  split at h
  case isTrue =>
    obtain ⟨y, hy, rfl⟩ := List.mem_map.1 h
    by_cases hk : y.1 = k
    · simp [hk]
    · simp [hk, hy]
  case isFalse absent =>
    rcases List.mem_append.1 h with hx | hx
    · exact .inr ⟨hx, fun hk => absent (List.any_eq_true.2 ⟨x, hx, by simpa using hk⟩)⟩
    · exact .inl (by simpa using hx)

/-- A change made to each axis of a mask reaches an axis of the mask with its learning and what is stored as they were. -/
theorem foldl_axis {g : Rc8 → Nat → Rc8} (other : ∀ s a b, b ≠ a → learnOf b (g s a) = learnOf b s) (nv : ∀ s a, (g s a).nv = s.nv)
    {l : List Nat} (nd : l.Nodup) {a : Nat} (ha : a ∈ l) (s : Rc8) :
    ∃ u : Rc8, learnOf a u = learnOf a s ∧ u.nv = s.nv ∧ learnOf a (l.foldl g s) = learnOf a (g u a) := by
  have away : ∀ (l : List Nat) (s : Rc8), a ∉ l → learnOf a (l.foldl g s) = learnOf a s := fun l => by
    induction l with
    | nil => exact fun _ _ => rfl
    | cons b l ih =>
      intro s hl
      obtain ⟨hb, hl⟩ := not_or.1 (List.mem_cons.not.1 hl)
      rw [List.foldl_cons, ih _ hl, other s b a hb]
  induction l generalizing s with
  | nil => cases ha
  | cons b l ih =>
    obtain ⟨hb, nd⟩ := List.nodup_cons.1 nd
    rw [List.foldl_cons]
    rcases List.mem_cons.1 ha with rfl | ha
    · exact ⟨s, rfl, rfl, away l _ hb⟩
    · obtain ⟨u, same, stored, reached⟩ := ih nd ha (g s b)
      exact ⟨u, same.trans (other s b a fun h => hb (h ▸ ha)), stored.trans (nv s b), reached⟩

/-- No mask names an axis twice. -/
theorem maskAxes_nodup (r : List Byte) (o : Nat) : (maskAxes r o).Nodup := List.nodup_range.filter _

/-! ### Which snapshot a restore takes (07 R239) -/

/-- The snapshot of an axis is what is stored of it. -/
theorem restoreSlot_congr {s t : Rc8} (h : t.nv = s.nv) (a : Nat) : restoreSlot a t = restoreSlot a s := by
  simp [restoreSlot, slotsOf, h]

/-- Where every axis has a valid snapshot, none is found without one. -/
theorem find?_slotMissing_none {l : List Nat} {s : Rc8} (h : ∀ a ∈ l, (restoreSlot a s).isSome = true) :
    (l.find? fun a => (restoreSlot a s).isNone) = none :=
  List.find?_eq_none.2 fun a ha => by simp [Option.isSome_iff_ne_none.1 (h a ha)]

/-- Where an axis has none, one is found. -/
theorem find?_slotMissing_some {l : List Nat} {s : Rc8} {a : Nat} (ha : a ∈ l) (h : restoreSlot a s = none) :
    ∃ b, (l.find? fun a => (restoreSlot a s).isNone) = some b :=
  Option.isSome_iff_exists.1 (List.find?_isSome.2 ⟨a, ha, by simp [h]⟩)

@[simp] theorem restoreFailed_learn (a : Nat) (s : Rc8) : (restoreFailed a s).learn = s.learn := raise_learn ..
@[simp] theorem restoreFailed_execs (a : Nat) (s : Rc8) : (restoreFailed a s).execs = s.execs := raise_execs ..
@[simp] theorem restoreFailed_pair (a : Nat) (s : Rc8) : (restoreFailed a s).pair = s.pair := raise_pair ..
@[simp] theorem restoreFailed_snaps (a : Nat) (s : Rc8) : (restoreFailed a s).nv.snaps = s.nv.snaps := by simp [restoreFailed]

/-! ### The commands' own rows (07 R240, R242) -/

/-- Messages on the pair link leave the snapshots that the partner has not reported. -/
theorem plkMessage_snapWait (k g : Nat) (b : PlkBody) (s : Rc8) : (plkMessage k g b s).pair.snapWait = s.pair.snapWait := rfl
@[simp] theorem plkSend_snapWait (k g : Nat) (b : PlkBody) (s : Rc8) : (plkSend k g b s).pair.snapWait = s.pair.snapWait := by
  unfold plkSend
  split
  · exact foldl_keeps (fun r => r.pair.snapWait) _ (fun r _ => plkMessage_snapWait _ _ _ r) _ _
  · rfl

@[simp] theorem pairTell_eng (id : Option Nat) (op : PairOp) (round : Nat) (resp : List Byte) (late : Bool) (s : Rc8) :
    (pairTell id op round resp late s).eng = s.eng := by
  unfold pairTell; split <;> simp
@[simp] theorem pairTell_snapWait (id : Option Nat) (op : PairOp) (round : Nat) (resp : List Byte) (late : Bool) (s : Rc8) :
    (pairTell id op round resp late s).pair.snapWait = s.pair.snapWait := by
  unfold pairTell; split <;> simp

/-- A command that runs on until its round leaves the engine, and the snapshots that the partner has not reported. -/
theorem learnLater_leaves (e : Exec) (s : Rc8) :
    (learnLater e s).eng = s.eng ∧ (learnLater e s).pair.snapWait = s.pair.snapWait := by
  simp [learnLater]

/-- A command that has answered PENDING and then ends. -/
theorem marked_pendNow (e : Exec) (ph : Phase) (s : Rc8) : (pendNow e s).marked e.id ph = s.markedLong e.id ph := by
  unfold Rc8.marked
  rw [pendNow_execs]
  unfold Rc8.markedLong
  rw [List.map_map]
  refine List.map_congr_left fun x _ => ?_
  by_cases h : x.id = e.id <;> simp [h]

section rows
variable {s : Rc8} {e : Exec} (idle : learnBusy (maskAxes e.req 0) s = false)
include idle

/-- LEARN_SNAPSHOT waits for its round, and for the partner's report where the partner is told. -/
theorem learnSnapshot_idle : learnSnapshot e s =
    modPair (fun q => { q with snapWait := q.snapWait ++
      if s.pair.partner.present = true ∧ s.pair.plk.up = true then [(plkNextSeq 0x20 s, e.id)] else [] }) (learnLater e s) := by
  simp only [learnSnapshot, idle, Bool.false_eq_true, if_false, Bool.and_eq_true]
  split
  · rfl
  · simp [modPair]

/-- LEARN_RESTORE with a valid snapshot for every axis waits for its round. -/
theorem learnRestore_valid (valid : ∀ a ∈ maskAxes e.req 0, (restoreSlot a s).isSome = true) : learnRestore e s = learnLater e s := by
  simp only [learnRestore, idle, Bool.false_eq_true, if_false, find?_slotMissing_none valid]

/-- LEARN_RESTORE without one ends with INTEGRITY_FAIL. -/
theorem learnRestore_invalid {a : Nat} (ha : a ∈ maskAxes e.req 0) (h : restoreSlot a s = none) :
    ∃ b, learnRestore e s = endWith e.id .integrityFail (restoreFailed b (pendNow e s)) := by
  obtain ⟨b, found⟩ := find?_slotMissing_some ha h
  exact ⟨b, by simp only [learnRestore, idle, Bool.false_eq_true, if_false, found]⟩

end rows

/-! ### At ENGINE_START of the effective round (07 R238 to R240) -/

/-- The one operation that waits is taken at ENGINE_START of its round. -/
theorem takeDue_atEngine {s : Rc8} {w n code : Nat} {r resp : List Byte} {x : Option Nat} {late : Bool} (hw : w ≠ 0) (hn : w ≤ n)
    (hc : (PairOp.command code r).atEngine = true) (hp : s.pair.pend = [PendOp.own w (.command code r) x resp late]) :
    takeDue true n s = dueOwn (PendOp.own w (.command code r) x resp late) s.drained := by
  have due : PendOp.due true n (PendOp.own w (.command code r) x resp late) = true := by
    simp [PendOp.due, PendOp.own, hw, hn, hc]
  unfold takeDue modPair
  simp only [hp, List.filter_cons, due, if_true, List.filter_nil, List.foldl_cons, List.foldl_nil, Bool.not_true]
  rfl

/-- A snapshot that waits changes the learning tables alone. -/
theorem dueLearnSnapshot_pair (why : SnapFor) (r : List Byte) (s : Rc8) : (dueLearnSnapshot why r s).pair = s.pair :=
  foldl_keeps Rc8.pair _ (fun _ _ => putLearn_pair ..) _ s

/-- Every axis that a LEARN_SNAPSHOT names waits for its snapshot. -/
theorem learnOf_dueLearnSnapshot {why : SnapFor} {r : List Byte} {a : Nat} (ha : a ∈ maskAxes r 0) (s : Rc8) :
    learnOf a (dueLearnSnapshot why r s) = { learnOf a s with snapFor := some why } := by
  obtain ⟨u, same, -, reached⟩ := foldl_axis (g := fun s a => modLearn a (fun l => { l with snapFor := some why }) s)
    (fun s a b h => (learnOf_modLearn ..).trans (if_neg h)) (fun _ _ => putLearn_nv ..) (maskAxes_nodup r 0) ha s
  rw [dueLearnSnapshot, reached, learnOf_modLearn, if_pos rfl, same]

/-- The restore of one axis of a LEARN_RESTORE: its snapshot is armed. -/
def armEach (exec : Option Nat) (s : Rc8) (a : Nat) : Rc8 :=
  match restoreSlot a s with
  | some x => armRestore 2 exec a x s
  | none => s

/-- A restore that is armed is a move to the axis's configuration in force, and nothing else changes of its learning. -/
theorem learnOf_armEach {exec : Option Nat} {a : Nat} {s : Rc8} (h : (restoreSlot a s).isSome = true) :
    ∃ mv, mv.why = 2 ∧ mv.exec = exec ∧ mv.cfg = (learnOf a s).cfg ∧
      learnOf a (armEach exec s a) = { learnOf a s with move := some mv } := by
  obtain ⟨x, hx⟩ := Option.isSome_iff_exists.1 h
  simp only [armEach, hx, armRestore, learnOf_modLearn, if_true]
  exact ⟨_, rfl, rfl, rfl, rfl⟩

/-- Arming one axis leaves the learning of the others, what is stored, and the pair. -/
theorem learnOf_armEach_other (exec : Option Nat) (s : Rc8) (a b : Nat) (h : b ≠ a) : learnOf b (armEach exec s a) = learnOf b s := by
  unfold armEach
  split
  · exact (learnOf_modLearn ..).trans (if_neg h)
  · rfl
theorem armEach_nv (exec : Option Nat) (s : Rc8) (a : Nat) : (armEach exec s a).nv = s.nv := by
  unfold armEach
  split <;> rfl
theorem armEach_pair (exec : Option Nat) (s : Rc8) (a : Nat) : (armEach exec s a).pair = s.pair := by
  unfold armEach
  split <;> rfl

/-- LEARN_RESTORE with a valid snapshot for every axis arms them all. -/
theorem dueLearnRestore_valid {r : List Byte} {s : Rc8} (exec : Option Nat) (valid : ∀ a ∈ maskAxes r 0, (restoreSlot a s).isSome = true) :
    dueLearnRestore exec r s = (maskAxes r 0).foldl (armEach exec) s := by
  simp only [dueLearnRestore, find?_slotMissing_none valid]
  rfl

/-- LEARN_RESTORE left without one ends with INTEGRITY_FAIL. -/
theorem dueLearnRestore_invalid {r : List Byte} {s : Rc8} {a : Nat} (id : Nat) (ha : a ∈ maskAxes r 0) (h : restoreSlot a s = none) :
    ∃ b, dueLearnRestore (some id) r s = endWith id .integrityFail (restoreFailed b s) := by
  obtain ⟨b, found⟩ := find?_slotMissing_some ha h
  exact ⟨b, by simp only [dueLearnRestore, found]; rfl⟩

/-- Every axis that it names waits for its restored table. -/
theorem learnOf_dueLearnRestore {r : List Byte} {s : Rc8} (exec : Option Nat) (valid : ∀ a ∈ maskAxes r 0, (restoreSlot a s).isSome = true)
    {a : Nat} (ha : a ∈ maskAxes r 0) : ∃ mv, mv.why = 2 ∧ mv.exec = exec ∧ mv.cfg = (learnOf a s).cfg ∧
      learnOf a (dueLearnRestore exec r s) = { learnOf a s with move := some mv } := by
  obtain ⟨u, same, stored, reached⟩ := foldl_axis (learnOf_armEach_other exec) (armEach_nv exec) (maskAxes_nodup r 0) ha s
  rw [dueLearnRestore_valid exec valid, reached, ← same]
  exact learnOf_armEach (restoreSlot_congr stored a ▸ valid a ha)

/-- The restore leaves the pair, whether every axis has its snapshot or not. -/
theorem dueLearnRestore_pair (id : Nat) (r : List Byte) (s : Rc8) : (dueLearnRestore (some id) r s).pair = s.pair := by
  by_cases valid : ∀ a ∈ maskAxes r 0, (restoreSlot a s).isSome = true
  · rw [dueLearnRestore_valid _ valid]
    exact foldl_keeps Rc8.pair _ (armEach_pair _) _ s
  · push Not at valid
    obtain ⟨a, ha, h⟩ := valid
    obtain ⟨b, ends⟩ := dueLearnRestore_invalid id ha (by simpa using h)
    rw [ends]
    exact restoreFailed_pair b s

/-! ### Moves in their gap (07 R237; 09 R290) -/

section moves
variable {s : Rc8} {a : Nat} {mv : TableMove} (armed : (learnOf a s).move = some mv) (stored : Bool)
include armed

/-- A move in its window that no other condition holds back is made. -/
theorem tableMove_moves (window : moveWindow mv.cfg.n s = true) (h3 : mv.why ≠ 3) (h5 : mv.why = 5 → mv.round < gapRound s) :
    tableMove a stored s = moveFinish mv.exec (moved mv.cfg.n (applyMove a mv s)) := by
  simp only [tableMove, armed]
  exact if_neg (by rintro (h | ⟨h, -⟩ | ⟨h, late⟩); exacts [by simp [window] at h, h3 h, by have := h5 h; omega])

/-- Outside its window a move waits, and so does the way back until its waymark's round is over. -/
theorem tableMove_waits (h : moveWindow mv.cfg.n s = false ∨ (mv.why = 5 ∧ gapRound s ≤ mv.round)) : tableMove a stored s = s := by
  simp only [tableMove, armed]
  exact if_pos (h.imp_right .inr)

end moves

/-- The end of a move leaves all but the commands. -/
theorem moveFinish_learn (exec : Option Nat) (s : Rc8) : (moveFinish exec s).learn = s.learn := by
  unfold moveFinish
  repeat' split
  all_goals rfl

/-- A command ends with DONE once none of its tables waits. -/
theorem moveFinish_last {s : Rc8} {id : Nat} (h : ∀ x ∈ s.learn, (x.2.move.bind (·.exec)) ≠ some id) :
    moveFinish (some id) s = endWith id .done s :=
  if_neg (by simpa using h)

/-- A new table stands whole under its configuration (07 R241). -/
@[simp] theorem Learn.replaced_cfg (l : Learn) (c : LearnCfg) (t : List Int) : (l.replaced c t).cfg = c := by
  unfold Learn.replaced
  dsimp only
  split <;> rfl
@[simp] theorem Learn.replaced_table (l : Learn) (c : LearnCfg) (t : List Int) : (l.replaced c t).table = fullTable t c.n := by
  unfold Learn.replaced
  dsimp only
  split <;> rfl

/-- The way back puts the old table in place. -/
theorem applyMove_back {mv : TableMove} (h : mv.why = 5) (a : Nat) (s : Rc8) : (applyMove a mv s).learn =
    (putLearn a { learnOf a s with table := if tablesHeld s then mv.table else [], move := none, skip := false } s).learn := by
  simp only [applyMove, h, if_true]
  rfl

/-- A learning state other than LEARNING is put in force. -/
theorem learnGoto_learn {new : LearnSt} (h : new ≠ .learning) (a cause : Nat) (s : Rc8) :
    (learnGoto a new cause s).learn = (putLearn a { learnOf a s with st := new } s).learn := by
  simp only [learnGoto, learnChanged, h, false_and, if_false]
  split <;> simp

/-- The learning of an axis whose table has moved: the table and configuration of the move, and no move any more; without a master it is
OFF (07 R231, R241). -/
def Learn.movedBy (l : Learn) (mv : TableMove) : Learn :=
  let new := { l.replaced mv.cfg mv.table with oldTable := none, move := none }
  if mv.cfg.kind = 0 then { new with st := .off } else new

@[simp] theorem Learn.movedBy_move (l : Learn) (mv : TableMove) : (l.movedBy mv).move = none := by
  unfold Learn.movedBy
  dsimp only
  split <;> rfl
@[simp] theorem Learn.movedBy_cfg (l : Learn) (mv : TableMove) : (l.movedBy mv).cfg = mv.cfg := by
  unfold Learn.movedBy
  dsimp only
  split <;> exact Learn.replaced_cfg ..
@[simp] theorem Learn.movedBy_table (l : Learn) (mv : TableMove) : (l.movedBy mv).table = fullTable mv.table mv.cfg.n := by
  unfold Learn.movedBy
  dsimp only
  split <;> exact Learn.replaced_table ..

/-- A move puts its table and configuration in force for its axis alone. -/
theorem applyMove_learn {mv : TableMove} {s : Rc8} (h3 : mv.why ≠ 3) (h5 : mv.why ≠ 5) (held : tablesHeld s = true) (a : Nat) :
    (applyMove a mv s).learn = (putLearn a ((learnOf a s).movedBy mv) s).learn := by
  have fresh : tablesHeld (tableFresh a (fun _ => true) s) = true := held
  have stored : ∀ u : Rc8, (if mv.why = 1 then storeLearnCfg a mv.cfg u else u).learn = u.learn := fun u => by
    split <;> rfl
  simp only [applyMove, h3, h5, fresh, if_true, if_false, or_false, apply_ite Rc8.learn, raise_learn, ite_self, Learn.movedBy]
  split
  case isTrue =>
    rw [learnGoto_learn (by decide), learnOf_congr (stored _), learnOf_putLearn, if_pos rfl]
    exact (congrArg (assocPut · a _) (stored _)).trans (assocPut_assocPut ..)
  case isFalse => split <;> rfl

/-- A move leaves the commands, and so does the learning state that comes with it. -/
theorem learnGoto_execs (a : Nat) (new : LearnSt) (cause : Nat) (s : Rc8) : (learnGoto a new cause s).execs = s.execs :=
  congrArg (fun parts => parts.2.2.1) (learnGoto_parts s.nv.recLog a new cause s)
theorem applyMove_execs (a : Nat) (mv : TableMove) (s : Rc8) : (applyMove a mv s).execs = s.execs := by
  have stored : ∀ u : Rc8, (storeLearnCfg a mv.cfg u).execs = u.execs := fun _ => rfl
  have fresh : (tableFresh a (fun _ => true) s).execs = s.execs := rfl
  simp only [applyMove, apply_ite Rc8.execs, raise_execs, putLearn_execs, learnGoto_execs, stored, fresh, ite_self]

section made
variable {s : Rc8} {a : Nat} {mv : TableMove} (armed : (learnOf a s).move = some mv) (h3 : mv.why ≠ 3) (h5 : mv.why ≠ 5)
  (held : tablesHeld s = true) (window : moveWindow mv.cfg.n s = true) (stored : Bool)
include armed h3 h5 held window

/-- TABLE_MOVE of a move in its window puts it in force. -/
theorem tableMove_learn : (tableMove a stored s).learn = (putLearn a ((learnOf a s).movedBy mv) s).learn := by
  rw [tableMove_moves armed stored window h3 (absurd · h5), moveFinish_learn]
  exact applyMove_learn h3 h5 held a

/-- The last move of a command ends it with DONE. -/
theorem tableMove_ends {id : Nat} (hexec : mv.exec = some id) (last : ∀ x ∈ s.learn, x.1 ≠ a → (x.2.move.bind (·.exec)) ≠ some id) :
    (tableMove a stored s).execs = s.marked id (.ended .done []) := by
  have none : ∀ x ∈ (moved mv.cfg.n (applyMove a mv s)).learn, (x.2.move.bind (·.exec)) ≠ some id := fun x hx => by
    have hx : x ∈ (applyMove a mv s).learn := hx
    rw [applyMove_learn h3 h5 held a] at hx
    rcases mem_assocPut hx with rfl | ⟨hx, other⟩
    · simp
    · exact last x hx other
  rw [tableMove_moves armed stored window h3 (absurd · h5), hexec, moveFinish_last none, endWith_eq]
  exact congrArg (List.map _) (applyMove_execs a mv s)

end made

/-! ### Snapshots in their gap (07 R238, R240, R242) -/

/-- TABLE_MOVE of an axis that waits for a snapshot alone. -/
theorem tableMove_snapshot {s : Rc8} {a : Nat} {why : SnapFor} (none : (learnOf a s).move = none) (waits : (learnOf a s).snapFor = some why)
    (stored : Bool) : tableMove a stored s = if moveWindow (learnOf a s).cfg.n s = false then s
      else if stored then snapFinish why (moved (learnOf a s).cfg.n (takeSnapshot a s)) else snapFails why s := by
  simp only [tableMove, none, waits]

/-- TABLE_MOVE of an axis for which nothing waits changes nothing. -/
theorem tableMove_idle {s : Rc8} {a : Nat} (none : (learnOf a s).move = none) (idle : (learnOf a s).snapFor = Option.none) (stored : Bool) :
    tableMove a stored s = s := by
  simp only [tableMove, none, idle]

/-- A TABLE_MOVE whose action changes nothing leaves the block. -/
theorem exec_tableMove_still {s : State} {a : Fin 256} {stored : Bool} (h : tableMove a.val stored s.toRc8 = s.toRc8) :
    exec (.tableMove a stored) s = .next s := act_eq_of_eq (g := id) h

/-- The end of a snapshot leaves the learning tables and what is stored. -/
theorem snapFinish_keeps (why : SnapFor) (s : Rc8) : (snapFinish why s).learn = s.learn ∧ (snapFinish why s).nv = s.nv := by
  unfold snapFinish
  repeat' split
  all_goals simp

/-- The slots of an axis are what is stored for it. -/
theorem slotsOf_congr {s t : Rc8} (h : t.nv = s.nv) (a : Nat) : slotsOf a t = slotsOf a s := by
  simp [slotsOf, h]
theorem slotsOf_assocPut {a : Nat} {v : Vector (Option SnapSlot) 2} {s t : Rc8} (h : t.nv.snaps = assocPut s.nv.snaps a v) :
    slotsOf a t = v := by
  simp [slotsOf, h, find?_assocPut]

/-- A snapshot leaves the table, and the axis waits for it no more. -/
theorem takeSnapshot_learn (a : Nat) (s : Rc8) :
    (takeSnapshot a s).learn = (putLearn a { learnOf a s with snapFor := none, lastSnap := gapRound s } s).learn := by
  simp only [takeSnapshot, raise_learn]
  rfl

/-- A snapshot is written whole, under the boundary of the gap, into a slot that does not hold the newest valid one. -/
theorem takeSnapshot_slots (a : Nat) (s : Rc8) : ∃ (i : Fin 2) (x : SnapSlot), slotsOf a (takeSnapshot a s) = (slotsOf a s).set i (some x) ∧
    x.entries = fullTable (learnOf a s).table (learnOf a s).cfg.n ∧ x.round = gapRound s ∧
    (newestSlot (SnapSlot.good a) (slotsOf a s)).map (·.1) ≠ some i := by
  cases newest : newestSlot (SnapSlot.good a) (slotsOf a s) with
  | none => exact ⟨0, _, slotsOf_assocPut (s := s) (by simp only [takeSnapshot, newest, raise_nv]; rfl), rfl, rfl, by simp⟩
  | some y =>
    obtain ⟨i, y⟩ := y
    have slots : i = 0 ∨ i = 1 := by omega
    rcases slots with rfl | rfl
    · exact ⟨1, _, slotsOf_assocPut (s := s) (by simp only [takeSnapshot, newest, raise_nv]; rfl), rfl, rfl, by simp⟩
    · exact ⟨0, _, slotsOf_assocPut (s := s) (by simp only [takeSnapshot, newest, raise_nv]; rfl), rfl, rfl, by simp⟩

/-- No axis waits for a snapshot that is dropped; nothing else changes of its learning. -/
theorem learnOf_snapDrop {a : Nat} {why : SnapFor} {s : Rc8} (waits : (learnOf a s).snapFor = some why) :
    learnOf a (snapDrop why s) = { learnOf a s with snapFor := none } := by
  have key : ((fun x : Nat × Learn => x.1 == a) ∘ fun x => if x.2.snapFor = some why then (x.1, { x.2 with snapFor := none }) else x) =
      fun x => x.1 == a := by
    funext x
    by_cases hx : x.2.snapFor = some why <;> simp [hx]
  unfold learnOf at waits ⊢
  simp only [snapDrop, List.find?_map, key]
  cases found : s.learn.find? fun x => x.1 == a with
  | none => simp [found, Learn.reset] at waits
  | some x =>
    rw [found] at waits
    simp only [Option.map_some, Option.getD_some] at waits ⊢
    rw [if_pos waits]

/-! ### The statement -/

/-- Settles O33: LEARN_SNAPSHOT and LEARN_RESTORE are `learnLater` and reach each of their axes once at their round, and TABLE_MOVE is
`applyMove`, `takeSnapshot` or `snapFails` in its gap. -/
theorem tablesSnapshotsRestores : Obligations.TablesSnapshotsRestores := by
  refine ⟨fun s p m e => ⟨fun he idle => leads_of_act rfl ?snapshot, fun he idle => ⟨fun valid => leads_of_act rfl ?restore,
      fun a ha missing => leads_of_act rfl ?refused⟩⟩,
    fun s r w n id hw hn => ⟨fun hp => ?dueSnapshot, fun hp => ?dueRestore, fun hp a ha missing => ?dueRefused⟩,
    fun s a stored => ⟨fun mv armed back => ⟨fun late window => leads_of_act rfl ?back,
        fun early => exec_tableMove_still (tableMove_waits armed stored (.inr ⟨back, early⟩))⟩,
      fun mv armed h3 h5 held => ⟨fun window => leads_of_act rfl ?moves,
        fun closed => exec_tableMove_still (tableMove_waits armed stored (.inl closed))⟩,
      fun why idle waits => ⟨fun closed => exec_tableMove_still ((tableMove_snapshot idle waits stored).trans (if_pos closed)),
        fun window good => leads_of_act rfl ?taken, fun id own window bad => leads_of_act rfl ?failed⟩,
      fun idle none => exec_tableMove_still (tableMove_idle idle none stored)⟩⟩
  case snapshot =>
    rw [State.after_toRc8, runCmd_found he, learnSnapshot_idle idle]
    obtain ⟨pend, execs, learn, nv⟩ := learnLater_waits e s.toRc8
    obtain ⟨eng, snapWait⟩ := learnLater_leaves e s.toRc8
    exact ⟨pend, congrArg (· ++ _) snapWait, execs, learn, nv, eng⟩
  case restore =>
    rw [State.after_toRc8, runCmd_found he, learnRestore_valid idle valid]
    obtain ⟨pend, execs, learn, nv⟩ := learnLater_waits e s.toRc8
    exact ⟨pend, execs, learn, nv, (learnLater_leaves e s.toRc8).1⟩
  case refused =>
    obtain ⟨b, ends⟩ := learnRestore_invalid idle ha missing
    rw [State.after_toRc8, runCmd_found he, ends, endWith_eq]
    exact ⟨marked_pendNow .., pendNow_learn .., congrArg Pair.pend (pendNow_pair ..),
      (restoreFailed_snaps ..).trans (congrArg Nv.snaps (pendNow_nv ..))⟩
  case dueSnapshot =>
    rw [takeDue_atEngine hw hn rfl hp]
    exact ⟨congrArg Pair.pend (dueLearnSnapshot_pair (.own id) r s.drained), fun a ha => learnOf_dueLearnSnapshot ha s.drained⟩
  case dueRestore =>
    rw [takeDue_atEngine hw hn rfl hp]
    exact ⟨congrArg Pair.pend (dueLearnRestore_pair id r s.drained), fun valid a ha => learnOf_dueLearnRestore (s := s.drained) (some id) valid ha⟩
  case dueRefused =>
    obtain ⟨b, ends⟩ := dueLearnRestore_invalid (s := s.drained) id ha missing
    rw [(takeDue_atEngine hw hn rfl hp).trans ends, endWith_eq]
    exact ⟨rfl, rfl⟩
  case back =>
    rw [State.after_toRc8, tableMove_moves armed stored window (by omega) fun _ => late]
    have result := (moveFinish_learn mv.exec (moved mv.cfg.n (applyMove a.val mv s.toRc8))).trans (applyMove_back back a.val s.toRc8)
    refine ⟨(learnOf_congr result _).trans ((learnOf_putLearn ..).trans (if_pos rfl)),
      fun b other => (learnOf_congr result b).trans ((learnOf_putLearn ..).trans (if_neg other))⟩
  case moves =>
    rw [State.after_toRc8]
    have result := tableMove_learn armed h3 h5 held window stored
    have own := (learnOf_congr result a.val).trans ((learnOf_putLearn ..).trans (if_pos rfl))
    rw [own]
    exact ⟨Learn.movedBy_move .., Learn.movedBy_cfg .., Learn.movedBy_table ..,
      fun b other => (learnOf_congr result b).trans ((learnOf_putLearn ..).trans (if_neg other)),
      fun id hexec last => tableMove_ends armed h3 h5 held window stored hexec last⟩
  case taken =>
    rw [State.after_toRc8, tableMove_snapshot idle waits, if_neg (by simp [window]), if_pos good]
    obtain ⟨learn, nv⟩ := snapFinish_keeps why (moved (learnOf a.val s.toRc8).cfg.n (takeSnapshot a.val s.toRc8))
    obtain ⟨i, x, slots, entries, round, notNewest⟩ := takeSnapshot_slots a.val s.toRc8
    have own := (learnOf_congr (learn.trans (takeSnapshot_learn a.val s.toRc8)) a.val).trans ((learnOf_putLearn ..).trans (if_pos rfl))
    have stands := (slotsOf_congr nv a.val).trans slots
    rw [own, stands]
    refine ⟨rfl, rfl, rfl, i, by simp [entries, round], notNewest, fun j other => ?_⟩
    simp [Fin.val_ne_of_ne other.symm]
  case failed =>
    subst own bad
    rw [State.after_toRc8, tableMove_snapshot idle waits, if_neg (by simp [window]), if_neg (by simp)]
    exact ⟨congrArg Learn.snapFor (learnOf_snapDrop waits), rfl, congrArg Rc8.execs (endWith_eq ..)⟩

end Sys2Proof.Machine
end

section
/-! SUPPORT. Digest records, APPLY and CONFIRM over the pair link, and the statement about them (10 R309, R324, R325, R327, R342; 07 R242; 09
R286). -/

namespace Sys2Proof.Machine

open Sys2Proof

/-! ### A message that acts (10 R308) -/

/-- The module after it has heard a message. -/
def heard (s : Rc8) : Rc8 := modPair (fun q => { q with plk := { q.plk with lastRx := s.clk.refosc } }) s

/-- The module after it has acknowledged a reliable message that is new to it. -/
def acknowledged (type : Nat) (h : PlkHdr) (s : Rc8) : Rc8 :=
  modPair (fun q => { q with plk := { q.plk with rx := ((type, h.seq) :: q.plk.rx).take 256 } }) (plkAck type h (heard s))

/-- Which module of the pair a module is depends on its token alone. -/
theorem isStandby_of_token {s t : Rc8} (h : t.pair.token = s.pair.token) : isStandby t = isStandby s := by simp [isStandby, h]
theorem holdsToken_of_token {s t : Rc8} (h : t.pair.token = s.pair.token) : holdsToken t = holdsToken s := by simp [holdsToken, h]

section acknowledged
/-! The acknowledgement is about the link alone. -/
variable (type : Nat) (h : PlkHdr) (s : Rc8)
@[simp] theorem acknowledged_nv : (acknowledged type h s).nv = s.nv := by simp [acknowledged, plkAck, heard]
@[simp] theorem acknowledged_clk : (acknowledged type h s).clk = s.clk := by simp [acknowledged, plkAck, heard]
@[simp] theorem acknowledged_rnd : (acknowledged type h s).rnd = s.rnd := by simp [acknowledged, plkAck, heard]
@[simp] theorem acknowledged_chg : (acknowledged type h s).chg = s.chg := by simp [acknowledged, plkAck, heard]
@[simp] theorem acknowledged_up : (acknowledged type h s).pair.plk.up = s.pair.plk.up := by simp [acknowledged, plkAck, heard]
@[simp] theorem acknowledged_pend : (acknowledged type h s).pair.pend = s.pair.pend := by simp [acknowledged, plkAck, heard]
@[simp] theorem acknowledged_token : (acknowledged type h s).pair.token = s.pair.token := by simp [acknowledged, plkAck, heard]
@[simp] theorem acknowledged_isStandby : isStandby (acknowledged type h s) = isStandby s := isStandby_of_token (acknowledged_token ..)
@[simp] theorem acknowledged_holdsToken : holdsToken (acknowledged type h s) = holdsToken s := holdsToken_of_token (acknowledged_token ..)
@[simp] theorem acknowledged_confirmBy (round : Nat) : confirmBy round (acknowledged type h s) = confirmBy round s := by
  simp [confirmBy]
end acknowledged

section receive
variable {h : PlkHdr} {s : Rc8} {type : Nat} (up : s.pair.plk.up = true) (crc : h.crcOk = true) (message : h.ack = false)
include up crc message

/-- A message that is not acknowledged acts as it comes. -/
theorem plkReceive_unreliable (ht : plkReliable type = false) (f : Rc8 → Rc8) : plkReceive type h f s = f (heard s) := by
  simp [plkReceive, up, crc, message, ht, heard]

/-- A reliable message acts as it comes first. -/
theorem plkReceive_new (ht : plkReliable type = true) (new : (type, h.seq) ∉ s.pair.plk.rx) (f : Rc8 → Rc8) :
    plkReceive type h f s = f (acknowledged type h s) := by
  have first : s.pair.plk.rx.contains (type, h.seq) = false := by simpa using new
  simp only [plkReceive, up, crc, message, ht, first, Bool.not_true, Bool.false_eq_true, if_false, if_true]
  rfl

end receive

/-- A row that is known to act has every property of what its action leaves. -/
theorem leads_of_exec {c : Instr} {s : State} {f : Rc8 → Rc8} {P : State → Prop} (h : exec c s = .next (s.after f)) (hp : P (s.after f)) :
    Leads c s P := ⟨_, h, rfl, hp⟩

section rows
variable {h : PlkHdr} {s : State} (up : s.pair.plk.up = true) (crc : h.crcOk = true) (message : h.ack = false)
include up crc message

/-- A DIGEST of one record compares it. -/
theorem exec_digestMessage (d : DigestRec) : exec (.digestMessage h [d]) s = .next (s.after fun r => compareDigest 1 (heard r) d) := by
  have row : exec (.digestMessage h [d]) s = act (plkReceive 0x02 h fun s => [d].foldl (compareDigest 1) s) s := rfl
  exact row.trans (act_eq_of_eq (plkReceive_unreliable (s := s.toRc8) up crc message rfl _))

/-- An APPLY that is new acts. -/
theorem exec_applyMessage (new : ∀ ty, (ty, h.seq) ∉ s.pair.plk.rx) (op : PairOp) (round : Nat) (stored : Bool) :
    exec (.applyMessage h op round stored) s = .next (s.after fun r => applyOp h.seq op round stored (acknowledged 0x20 h r)) :=
  act_eq_of_eq (plkReceive_new (s := s.toRc8) up crc message rfl (new _) _)

/-- A CONFIRM that is new acts. -/
theorem exec_confirmMessage (new : ∀ ty, (ty, h.seq) ∉ s.pair.plk.rx) (c : ConfirmMsg) :
    exec (.confirmMessage h c) s = .next (s.after fun r => confirmReceived c (acknowledged 0x21 h r)) :=
  act_eq_of_eq (plkReceive_new (s := s.toRc8) up crc message rfl (new _) _)

end rows

/-! ### Digest records (10 R324, R325) -/

/-- An entry by a number in range is found. -/
theorem vget_of_val {α : Type} {n k : Nat} {i : Fin n} (h : k = i.val) (v : Vector α n) (d : α) : vget v k d = v[i.val] := by
  subst h
  simp [vget]

section digest
variable {s : Rc8} {d : DigestRec} {k : Fin 9} (standby : isStandby s = true) (synced : s.pair.synced = true) (forwarded : d.own = false)
  (kind : d.kind = k.val)
include standby synced forwarded kind

/-- A synchronised standby compares every record on forwarded inputs; one that it has none of its own for counts as uncompared. -/
theorem compareDigest_unknown (unknown : (s.pair.history[k.val]).find? (fun x => x.seq == d.seq) = none) (path : Nat) :
    compareDigest path s d = modPair (fun q => { q with uncompared := inc32 q.uncompared }) s := by
  have inRange : ¬ 8 < d.kind := by omega
  simp [compareDigest, compares, standby, synced, forwarded, inRange, vget_of_val kind, unknown]

/-- One that its own record equals changes nothing, and one that differs is a mismatch. -/
theorem compareDigest_known {x : DigestRec} (known : (s.pair.history[k.val]).find? (fun x => x.seq == d.seq) = some x) (own : x.own = false)
    (path : Nat) : compareDigest path s d = if x.chain = d.chain then s else digestMismatch d path s := by
  have inRange : ¬ 8 < d.kind := by omega
  simp [compareDigest, compares, standby, synced, forwarded, inRange, vget_of_val kind, known, own]

end digest

/-- What a comparison of digests decides: whether the standby is synchronised, the mismatches, and the resync. -/
def Pair.verdict (q : Pair) : Bool × Bool × Nat × Resync := (q.synced, q.mismatch, q.mismatches, q.resync)

/-- Readiness that is judged anew leaves it. -/
@[simp] theorem settle_verdict (s : Rc8) : (settle s).pair.verdict = s.pair.verdict := by simp [settle, Pair.verdict]
@[simp] theorem stepEnds_verdict (k : Nat) (s : Rc8) : (stepEnds k s).pair.verdict = s.pair.verdict := by
  unfold stepEnds
  split
  · simp [Pair.verdict]
  · rfl
theorem stepsAdvance_verdict (s : Rc8) : (stepsAdvance s).pair.verdict = s.pair.verdict := by
  have endsIf : ∀ (k : Nat) (c : Prop) [Decidable c] (r : Rc8), (if c then stepEnds k r else r).pair.verdict = r.pair.verdict := fun k c _ r => by
    split
    · exact stepEnds_verdict k r
    · rfl
  exact (endsIf ..).trans ((endsIf ..).trans (endsIf ..))
theorem updateReady_verdict (s : Rc8) : (updateReady s).pair.verdict = s.pair.verdict := by
  unfold updateReady
  extract_lets r
  have advanced : r.pair.verdict = s.pair.verdict := by
    unfold r
    split
    · exact stepsAdvance_verdict s
    · rfl
  have gained : (gainReady r).pair.verdict = r.pair.verdict := by
    simp only [gainReady, settle_verdict, stepEnds_verdict, raise_pair]
    rfl
  have lost : (loseReady r).pair.verdict = r.pair.verdict := by
    simp only [loseReady, settle_verdict, raise_pair]
    rfl
  rw [← advanced]
  split
  · split
    · exact gained
    · rfl
  · split
    · exact lost
    · rfl
  · rfl

/-- A standby that asks for a resync sends nothing of its own. -/
theorem firstPass_standby {s : Rc8} (h : isStandby s = true) : firstPass s = s := if_pos h

/-- A standby that starts a resync is synchronised no more, and the resync is of its cause. -/
theorem startResync_standby {s : Rc8} (h : isStandby s = true) (cause : Nat) : (startResync cause s).pair.synced = false ∧
    (startResync cause s).pair.mismatch = s.pair.mismatch ∧ (startResync cause s).pair.mismatches = s.pair.mismatches ∧
    (startResync cause s).pair.resync.cause = cause := by
  unfold startResync
  extract_lets s0
  have unsynced : s0 = modPair (fun q => { q with synced := false }) s := if_pos h
  split
  · rw [firstPass_standby ((isStandby_of_token (by simp [unsynced])).trans h), raise_pair, unsynced]
    simp
  · simp [unsynced]

/-- A record that differs from the synchronised standby's own is a mismatch, and a resync of cause 2 starts. -/
theorem digestMismatch_standby {s : Rc8} (h : isStandby s = true) (d : DigestRec) (path : Nat) :
    (digestMismatch d path s).pair.mismatch = true ∧ (digestMismatch d path s).pair.mismatches = inc32 s.pair.mismatches ∧
    (digestMismatch d path s).pair.synced = false ∧ (digestMismatch d path s).pair.resync.cause = 2 := by
  unfold digestMismatch
  extract_lets s1
  rw [if_pos h]
  generalize hu : settle (modPair (fun q => { q with mismatch := true, windowMatch := q.plk.up && q.windowMatch }) s1) = u
  have token : u.pair.token = s.pair.token := by simp [← hu, settle, s1]
  have counted : u.pair.mismatch = true ∧ u.pair.mismatches = inc32 s.pair.mismatches := by simp [← hu, settle, s1]
  obtain ⟨synced, mismatch, mismatches, cause⟩ := startResync_standby ((isStandby_of_token token).trans h) 2
  have kept := updateReady_verdict (startResync 2 u)
  simp only [Pair.verdict, Prod.mk.injEq] at kept
  obtain ⟨readySynced, readyMismatch, readyMismatches, readyResync⟩ := kept
  exact ⟨readyMismatch.trans (mismatch.trans counted.1), readyMismatches.trans (mismatches.trans counted.2), readySynced.trans synced,
    (congrArg Resync.cause readyResync).trans cause⟩

/-! ### APPLY on the standby (10 R309; 07 R242) -/

/-- A message goes out where the link is up. -/
theorem plkSend_sends {s : Rc8} (up : s.pair.plk.up = true) (k : Nat) (b : PlkBody) :
    ∃ q, .plk k 0 q s.rnd.round b (plkWire k 0 q s.rnd.round b) ∈ (plkSend k 0 b s).out := by
  refine ⟨plkNextSeq k s, ?_⟩
  simp only [plkSend, up, if_true, ite_self]
  refine List.foldlRecOn (motive := fun r : Rc8 => _ ∈ r.out) _ _ ?_ fun r sent i _ => List.mem_append_left _ sent
  exact List.mem_append_right _ (List.mem_singleton.2 rfl)

/-- What an operation stores at once changes nothing of the pair, and no message goes out. -/
@[simp] theorem opStored_pair (op : PairOp) (s : Rc8) : (opStored op s).pair = s.pair := by
  unfold opStored
  split <;> rfl
@[simp] theorem opStored_out (op : PairOp) (s : Rc8) : (opStored op s).out = s.out := by
  unfold opStored
  split <;> rfl

/-- Only a MILESTONE_WRITE stores anything at once (03 R115). -/
theorem opStored_nv {code : Nat} (h : code ≠ 0x0A41) (r : List Byte) (s : Rc8) : (opStored (.command code r) s).nv = s.nv := by
  unfold opStored
  split
  case h_1 same => exact absurd (PairOp.command.inj same).1 h
  case h_2 => rfl

/-- An operation told by the holder, as it waits on the standby. -/
def PendOp.told (seq : Nat) (op : PairOp) (round : Nat) : PendOp :=
  { seq := some seq, round := round, op := op, exec := none, confirmed := !op.twoWay, resp := [], late := false, fromPartner := true }

/-- It joins those that wait. -/
theorem joinOp_joins (seq : Nat) (op : PairOp) (round : Nat) (s : Rc8) :
    (joinOp seq op round s).pair.pend = s.pair.pend ++ [PendOp.told seq op round] ∧ (joinOp seq op round s).out = s.out := by
  simp only [joinOp, modPair_pair, modPair_out, opStored_pair, opStored_out]
  split <;> exact ⟨rfl, rfl⟩
theorem joinOp_nv {code : Nat} (h : code ≠ 0x0A41) (seq : Nat) (r : List Byte) (round : Nat) (s : Rc8) :
    (joinOp seq (.command code r) round s).nv = s.nv := by
  simp only [joinOp, modPair_nv, opStored_nv h]
  split <;> rfl

/-- An APPLY of a later round comes in time. -/
theorem inTime_ahead {s : Rc8} {round : Nat} (h : s.rnd.round < round) (op : PairOp) : inTime op round s = true := by
  simp [inTime, h]

/-- A standby's read-back that matches: the operation joins, and is confirmed, but for a LEARN_SNAPSHOT, whose slots are reported. -/
theorem applyOp_stored {s : Rc8} {code round : Nat} (standby : isStandby s = true) (other : code ≠ 0x0412) (ahead : s.rnd.round < round)
    (seq : Nat) (r : List Byte) : applyOp seq (.command code r) round true s =
      joinOp seq (.command code r) round (if code = 0x0606 then s else plkSend 0x21 0 (.confirm seq true) s) := by
  have later : ¬ (round = 0 ∨ code = 0x0412) := by omega
  simp [applyOp, standby, inTime_ahead ahead, later]

/-- One that differs: the operation is refused, and nothing of the pair, the stored objects or the messages changes but for that. -/
theorem applyOp_differs {s : Rc8} (standby : isStandby s = true) (seq code round : Nat) (r : List Byte) :
    (applyOp seq (.command code r) round false s).pair = (plkSend 0x21 0 (.confirm seq false) s).pair ∧
    (applyOp seq (.command code r) round false s).out = (plkSend 0x21 0 (.confirm seq false) s).out ∧
    (applyOp seq (.command code r) round false s).nv = (plkSend 0x21 0 (.confirm seq false) s).nv := by
  simp only [applyOp, standby, Bool.true_or, if_true, Bool.false_and, Bool.false_eq_true, if_false, Bool.not_false]
  split <;> exact ⟨rfl, rfl, rfl⟩

/-- A later APPLY that reads back joins the standby's operations, and is confirmed; only a MILESTONE_WRITE stores anything yet. -/
theorem applyOp_joins {s : Rc8} {code round : Nat} (up : s.pair.plk.up = true) (standby : isStandby s = true) (other : code ≠ 0x0412)
    (ahead : s.rnd.round < round) (seq : Nat) (r : List Byte) :
    (applyOp seq (.command code r) round true s).pair.pend = s.pair.pend ++ [PendOp.told seq (.command code r) round] ∧
    (code ≠ 0x0606 → ∃ q, .plk 0x21 0 q s.rnd.round (.confirm seq true) (plkWire 0x21 0 q s.rnd.round (.confirm seq true)) ∈
      (applyOp seq (.command code r) round true s).out) ∧
    (code ≠ 0x0A41 → (applyOp seq (.command code r) round true s).nv = s.nv) := by
  rw [applyOp_stored standby other ahead]
  obtain ⟨joined, sent⟩ := joinOp_joins seq (.command code r) round (if code = 0x0606 then s else plkSend 0x21 0 (.confirm seq true) s)
  refine ⟨joined.trans (congrArg (· ++ _) ?_), fun confirmed => ?_, fun stores => (joinOp_nv stores ..).trans ?_⟩
  · split
    · rfl
    · exact plkSend_pend ..
  · rw [sent, if_neg confirmed]
    exact plkSend_sends up ..
  · split
    · rfl
    · exact plkSend_nv ..

/-- One that does not is refused, and stores nothing. -/
theorem applyOp_refuses {s : Rc8} (up : s.pair.plk.up = true) (standby : isStandby s = true) (seq code round : Nat) (r : List Byte) :
    (applyOp seq (.command code r) round false s).pair.pend = s.pair.pend ∧
    (∃ q, .plk 0x21 0 q s.rnd.round (.confirm seq false) (plkWire 0x21 0 q s.rnd.round (.confirm seq false)) ∈
      (applyOp seq (.command code r) round false s).out) ∧
    (applyOp seq (.command code r) round false s).nv = s.nv := by
  obtain ⟨pair, out, nv⟩ := applyOp_differs standby seq code round r
  rw [pair, out, nv]
  exact ⟨plkSend_pend .., plkSend_sends up .., plkSend_nv ..⟩

/-! ### CONFIRM (10 R309, R327, R342; 09 R286) -/

/-- The copy's verification ends the resync of its holder. -/
theorem copiedConfirm_holder {s : Rc8} (h : holdsToken s = true) (ok : Bool) : (copiedConfirm ok s).pair.resync.running = false ∧
    (copiedConfirm ok s).pair.resync.requested = false ∧ (copiedConfirm ok s).pair.resync.exec = none ∧
    (copiedConfirm ok s).pair.token = s.pair.token := by
  simp [copiedConfirm, h]

/-- A candidate that is confirmed in time is confirmed. -/
theorem waymarkConfirm_inTime {s : Rc8} {round : Nat} (h : s.clk.ptu ≤ confirmBy round s) :
    (waymarkConfirm round true s).chg = { s.chg with confirmed := s.chg.confirmed ++ [round] } :=
  congrArg Rc8.chg (if_pos ⟨rfl, h⟩)

/-- One that is refused, or confirmed too late, is not. -/
theorem waymarkConfirm_late {s : Rc8} {round : Nat} {ok : Bool} (h : ok = false ∨ confirmBy round s < s.clk.ptu) :
    (waymarkConfirm round ok s).chg = s.chg :=
  congrArg Rc8.chg <| if_neg fun both => h.elim (by simp [both.1]) (Nat.not_lt.2 both.2)

/-- An operation of a round that is confirmed waits on for its round. -/
theorem opConfirmed_pair {x : PendOp} (oneWay : x.op.twoWay = false) (round : x.round ≠ 0) (s : Rc8) : (opConfirmed x s).pair =
    { s.pair with pend := s.pair.pend.map fun y => if y == x then { y with confirmed := true } else y } := by
  simp only [opConfirmed, oneWay, round, Bool.false_eq_true, if_false]
  split <;> simp

/-- The confirmation of the one operation that waits for it. -/
theorem applyConfirmed_single {s : Rc8} {x : PendOp} {seq : Nat} (alone : s.pair.pend = [x]) (sent : x.seq = some seq)
    (waits : x.confirmed = false) (own : x.fromPartner = false) (oneWay : x.op.twoWay = false) (round : x.round ≠ 0) :
    (applyConfirmed seq true s).pair.pend = [{ x with confirmed := true }] := by
  have found : (s.pair.pend.find? fun x => x.seq == some seq && !x.confirmed) = some x := by simp [alone, sent, waits]
  simp only [applyConfirmed, found, own, Bool.false_eq_true, if_false, if_true, opConfirmed_pair oneWay round]
  simp [alone, own]

/-! ### The statement -/

/-- Settles O41: a digest record is compared by `compareDigest`, and what an APPLY and a CONFIRM do is `applyOp` and `confirmReceived` of the
module that has acknowledged them. -/
theorem digestsAndConfirmation : Obligations.DigestsAndConfirmation := by
  refine ⟨fun s h d k up crc message standby synced forwarded kind => ?digests, fun s h up crc message new => ?confirmation⟩
  case digests =>
    have row := exec_digestMessage up crc message d
    refine ⟨fun unknown => leads_of_exec row ?unknown,
      fun x known own => ⟨fun equal => leads_of_exec row ?equal, fun differs => leads_of_exec row ?mismatch⟩⟩
    case unknown =>
      have absent : (s.pair.history[k]).find? (fun x => x.seq == d.seq) = none := by simpa using unknown
      rw [State.after_toRc8, compareDigest_unknown (s := heard s.toRc8) standby synced forwarded kind absent]
      exact ⟨rfl, rfl, synced⟩
    case equal =>
      rw [State.after_toRc8, compareDigest_known (s := heard s.toRc8) standby synced forwarded kind known own, if_pos equal]
      exact ⟨rfl, rfl⟩
    case mismatch =>
      rw [State.after_toRc8, compareDigest_known (s := heard s.toRc8) standby synced forwarded kind known own, if_neg differs]
      exact digestMismatch_standby (s := heard s.toRc8) standby d 1
  case confirmation =>
    have applies := exec_applyMessage up crc message new
    have confirms := exec_confirmMessage up crc message new
    refine ⟨fun standby code r round other ahead => ⟨leads_of_exec (applies ..) ?stored, leads_of_exec (applies ..) ?differs⟩,
      fun holder ok => leads_of_exec (confirms _) ?copied, fun round inTime => leads_of_exec (confirms _) ?waymark,
      fun round ok unconfirmed => leads_of_exec (confirms _) ?notConfirmed,
      fun x seq alone sent waits own oneWay later => leads_of_exec (confirms _) ?confirmed⟩
    case stored =>
      have joins := applyOp_joins (s := acknowledged 0x20 h s.toRc8) (by simpa using up) (by simpa using standby) other (by simpa using ahead) h.seq r
      rw [acknowledged_pend, acknowledged_rnd, acknowledged_nv] at joins
      obtain ⟨joined, confirmed, nv⟩ := joins
      exact ⟨⟨_, rfl, rfl, rfl, rfl, joined⟩, confirmed, nv⟩
    case differs =>
      have refuses := applyOp_refuses (s := acknowledged 0x20 h s.toRc8) (by simpa using up) (by simpa using standby) h.seq code round r
      rwa [acknowledged_pend, acknowledged_rnd, acknowledged_nv] at refuses
    case copied =>
      have ends := copiedConfirm_holder (s := acknowledged 0x21 h s.toRc8) (by simpa using holder) ok
      rwa [acknowledged_token] at ends
    case waymark =>
      have counts := waymarkConfirm_inTime (s := acknowledged 0x21 h s.toRc8) (round := round) (by simpa using inTime)
      rwa [acknowledged_chg] at counts
    case notConfirmed =>
      have keeps := waymarkConfirm_late (s := acknowledged 0x21 h s.toRc8) (round := round) (ok := ok) (by simpa using unconfirmed)
      rwa [acknowledged_chg] at keeps
    case confirmed =>
      exact applyConfirmed_single (s := acknowledged 0x21 h s.toRc8) (by simpa using alone) sent waits own oneWay later

end Sys2Proof.Machine
end

section
/-! SUPPORT. A shadow cycle that waits at its end with the services it called, and the statement about cycles (08 R248, R270; 10
R321). -/

namespace Sys2Proof.Machine

open Sys2Proof

/-! ### What a shadow cycle keeps while it waits (10 R321) -/

/-- The code of a task that executes ends after the services it called. -/
theorem exec_taskCycleEnd {s : State} {t : Fin 8} (runs : executes t s.toRc8 = true) (o : CycleOut) :
    exec (.taskCycleEnd t o) s = .next (s.after fun r => cycleEnd t o (o.calls.foldl (taskCall t) r)) :=
  act_eq_of_eq (if_pos runs)

/-- A shadow cycle that waits for its holder's decision keeps what it is to hand over (10 R321). -/
theorem cycleEnd_waits {s : Rc8} {t : Fin 8} (runs : executes t s = true) (waits : endWaits t s = true) (o : CycleOut) :
    cycleEnd t o s = modTask t (fun y => { y with ending := true, parked := some o })
      (evalInstances t o (atRefosc ((s.run.tasks[t]).since + o.ns) s)) :=
  (if_neg (by simp [runs])).trans (if_pos waits)

/-- It keeps the whole of it, its calls included. -/
theorem cycleEnd_parked {s : Rc8} {t : Fin 8} (runs : executes t s = true) (waits : endWaits t s = true) (o : CycleOut) :
    ((cycleEnd t o s).run.tasks[t]).parked = some o := by
  simp [cycleEnd_waits runs waits, modTask]

/-- So where a cycle still executes and waits once its services are called, its end is that of a cycle without calls only if it made
none. -/
theorem calls_eq_nil_of_parked {s : State} {t : Fin 8} {o : CycleOut} (runs : executes t s.toRc8 = true)
    (called : executes t (o.calls.foldl (taskCall t) s.toRc8) = true) (waits : endWaits t (o.calls.foldl (taskCall t) s.toRc8) = true)
    (same : exec (.taskCycleEnd t o) s =
      exec (.taskCycleEnd t { o with calls := [] }) (s.after fun r => o.calls.foldl (taskCall t) r)) : o.calls = [] := by
  rw [exec_taskCycleEnd runs, exec_taskCycleEnd (s := s.after fun r => o.calls.foldl (taskCall t) r) called] at same
  have parked := congrArg (fun u : State => (u.run.tasks[t]).parked) (Host.Outcome.next.inj same)
  simp only [State.after_toRc8, List.foldl_nil] at parked
  rw [cycleEnd_parked called waits, cycleEnd_parked called waits] at parked
  exact congrArg CycleOut.calls (Option.some.inj parked)

/-! ### Such a cycle -/

/-- A task on core 0 that is released in every round. -/
def everyRound : TaskEntry := { core := 0, images := 1, period := 1, phase := 0, offset := 100000, entry := 0 }

/-- A standby in RUN whose link to its holder is up, with the cycle of task 0 running and no CYCLE_END of it received. -/
def shadowCycleRuns : State := State.reset.after fun s =>
  { s with
    run := { s.run with mode := .run, tasks := s.run.tasks.set 0 { s.run.tasks[0] with cfg := some everyRound, st := .running } }
    pair := { s.pair with token := .standby, synced := true, partner := { s.pair.partner with present := true },
                          plk := { s.pair.plk with up := true } } }

/-- A cycle that has raised an event. -/
def cycleWithEvent : CycleOut :=
  { ns := 5000, motion := [], station := [], granules := [], data := [], requests := [], calls := [.event 1 0 0 0 0], timers := [],
    edges := [] }

/-- Refutes O34: the end of a cycle is not that of one without calls in the state that the calls leave, where a shadow cycle waits at
its end for its holder's CYCLE_END: what it keeps for its hand-over still lists the calls that it made. -/
theorem not_tasksAndRetainedData : ¬ Obligations.TasksAndRetainedData := by
  rintro ⟨-, ⟨afterCalls, -⟩, -⟩
  have none_called : cycleWithEvent.calls = [] :=
    calls_eq_nil_of_parked (s := shadowCycleRuns) (t := 0) (by decide) (by decide) (by decide)
      (afterCalls shadowCycleRuns 0 cycleWithEvent (by decide))
  cases none_called

end Sys2Proof.Machine
end

section
/-! SUPPORT. Images that are loaded in blocks and activated, and the statement about them (08 R244, R253, R263, R274, R275; 09 R284). -/

namespace Sys2Proof.Machine

open Sys2Proof

/-! ### The first block of an image (08 R274; 09 R284) -/

/-- Telling the partner changes what is sent and what waits for an answer, and nothing else. -/
theorem tellPartner_frame (op : PairOp) (s : Rc8) :
    tellPartner op s = { s with pair := (tellPartner op s).pair, out := (tellPartner op s).out } := by
  unfold tellPartner
  split
  · exact plkSend_frame _ _ _ s
  · rfl

/-- A module alone tells nobody. -/
theorem tellPartner_alone {s : Rc8} (alone : s.pair.partner.present = false) (op : PairOp) : tellPartner op s = s :=
  if_neg (by simp [alone])

/-- A change package goes with the state of its change; the rest of the module stays, but for the messages to the partner. -/
theorem discardPackage_frame (s : Rc8) :
    discardPackage s = { s with chg := (discardPackage s).chg, nv := { s.nv with package := (discardPackage s).nv.package },
                                pair := (discardPackage s).pair, out := (discardPackage s).out } := by
  unfold discardPackage dropPackage
  rw [tellPartner_frame]
  split
  · simp
  · rfl

/-- On a module alone nothing of the pair changes with it. -/
theorem discardPackage_alone {s : Rc8} (alone : s.pair.partner.present = false) : (discardPackage s).pair = s.pair := by
  unfold discardPackage dropPackage
  rw [tellPartner_alone alone]
  repeat' split
  all_goals rfl

/-- The load that the first block of an image begins. -/
def firstProgramLoad (e : Exec) (finishing : Option Nat) : BlockLoad :=
  { total := u32At e.req 4, data := e.req.drop 16, finishing := finishing }

/-- A module that has taken the first block of an image: the loaded image and a change package are discarded. -/
def Rc8.firstProgramBlock (s : Rc8) (e : Exec) (finishing : Option Nat) : Rc8 :=
  modRun (fun r => { r with load := some (firstProgramLoad e finishing) })
    (discardPackage (effProgramLoad [] (tellPartner (.command 0x0103 []) s)))

/-- The first block opens the load and discards the loaded image; the commands, the rest of the runtime, the image in use and the
firmware stay. -/
theorem firstProgramBlock_leaves (s : Rc8) (e : Exec) (x : Option Nat) :
    (s.firstProgramBlock e x).run = { s.run with load := some (firstProgramLoad e x) } ∧
    (s.firstProgramBlock e x).execs = s.execs ∧ (s.firstProgramBlock e x).nv.loaded = none ∧
    (s.firstProgramBlock e x).nv.active = s.nv.active ∧ (s.firstProgramBlock e x).nv.parts = s.nv.parts := by
  unfold Rc8.firstProgramBlock
  rw [discardPackage_frame, tellPartner_frame]
  exact ⟨rfl, rfl, rfl, rfl, rfl⟩

/-- On a module alone the first block leaves the pair. -/
theorem firstProgramBlock_pair {s : Rc8} (alone : s.pair.partner.present = false) (e : Exec) (x : Option Nat) :
    (s.firstProgramBlock e x).pair = s.pair := by
  unfold Rc8.firstProgramBlock
  rw [tellPartner_alone alone]
  exact discardPackage_alone (s := effProgramLoad [] s) alone

section load
variable {e : Exec} {s : Rc8} (noChange : s.chg.load = none) (unarmed : changeArmed s = false) (idle : s.run.activating = none)
  (free : BlockLoad.runs s.run.load s = false) (first : u32At e.req 8 = 0)
include noChange unarmed idle free first

/-- A first block with more to come opens the load, and its command ends with the bytes received. -/
theorem programLoad_opens (more : bitAt (u8At e.req 0) 0 = false) (stored : Bool) :
    programLoad stored e s = (s.firstProgramBlock e none).ended e.id .done (le 4 (e.req.drop 16).length ++ zeros 4) := by
  simp [programLoad, noChange, unarmed, idle, free, first, blockLast, more, endExec_done, blockTake, blockBefore, blockResponse,
    Rc8.firstProgramBlock, firstProgramLoad]

/-- A first block that is the last one too is the whole image. -/
theorem programLoad_single (last : bitAt (u8At e.req 0) 0 = true) (stored : Bool) :
    programLoad stored e s = finishProgram e (e.req.drop 16) stored (s.firstProgramBlock e (some e.id)) := by
  simp [programLoad, noChange, unarmed, idle, free, first, blockLast, last, blockTake, blockBefore,
    Rc8.firstProgramBlock, firstProgramLoad]

end load

/-! ### The last block (08 R244, R274) -/

/-- Only the installed runtime decides which header fields pass. -/
theorem imageFieldsOk_congr {s t : Rc8} (h : t.nv.parts = s.nv.parts) (b : List Byte) : imageFieldsOk b t = imageFieldsOk b s := by
  simp only [imageFieldsOk, providesLevel, h]

/-- No header stands in an empty image. -/
theorem ne_nil_of_imageFieldsOk {s : Rc8} {b : List Byte} (h : imageFieldsOk b s = true) : b ≠ [] := by
  rintro rfl
  have magic : (u32At [] 0 == 0x31475250) = false := by decide
  simp [imageFieldsOk, magic] at h

/-- An image that passes every check takes the loaded slot, on a module alone at once. -/
theorem finishProgram_stores {e : Exec} {image : List Byte} {s : Rc8} (intact : imageIntact image = true)
    (fields : imageFieldsOk image s = true) (alone : s.pair.partner.present = false) :
    finishProgram e image true s = (ownProgramLoad e.port.val image (pendNow e s)).ended e.id .done [] := by
  simp only [finishProgram, intact, fields, Bool.not_true, Bool.false_eq_true, if_false]
  exact pairStore_now (by simpa using alone) false

/-- An image whose check value or digest is wrong is not stored. -/
theorem finishProgram_broken {e : Exec} {image : List Byte} {s : Rc8} (broken : imageIntact image = false) (stored : Bool) :
    finishProgram e image stored s = endWith e.id .integrityFail (pendNow e s) :=
  if_pos (by simp [broken])

/-- An image that is loaded stands in the loaded slot; the image in use and the mode stay. -/
theorem ownProgramLoad_stores {image : List Byte} (nonempty : image ≠ []) (port : Nat) (s : Rc8) :
    (ownProgramLoad port image s).nv.loaded = some (parseImage image) ∧ (ownProgramLoad port image s).nv.active = s.nv.active ∧
    (ownProgramLoad port image s).run = s.run := by
  simp [ownProgramLoad, effProgramLoad, nonempty]

/-! ### The start of the runtime (08 R253, R255, R263) -/

/-- The other of two areas or banks is not the one given. -/
theorem otherBank_ne : ∀ b : Fin 2, otherBank b ≠ b := by decide

/-- Without a journal no retained area is switched. -/
theorem takeSwitch_of_journal_nil {s : Rc8} (h : s.nv.journal = []) : takeSwitch s = s := by
  simp [takeSwitch, h]

theorem publishStops_nv (s : Rc8) : (publishStops s).nv = s.nv := by
  unfold publishStops
  split <;> rfl

/-- What the runtime is about when it starts: its mode, whether it has started, its monotonic time, and an activation in progress. -/
def Runtime.course (r : Runtime) : Mode × Bool × Nat × Option Nat := (r.mode, r.started, r.mono, r.activating)

theorem publishStops_course (s : Rc8) : (publishStops s).run.course = s.run.course := by
  unfold publishStops
  split <;> rfl

/-- With an empty journal the start of the runtime leaves the images and the retained area in use, and begins its monotonic time at 0
in the mode in force. -/
theorem startRuntime_starts {s : Rc8} (h : s.nv.journal = []) :
    (startRuntime s).run.course = (s.run.mode, true, 0, s.run.activating) ∧ (startRuntime s).nv.active = s.nv.active ∧
    (startRuntime s).nv.loaded = s.nv.loaded ∧ (startRuntime s).nv.retainUse = s.nv.retainUse ∧ (startRuntime s).nv.journal = [] := by
  unfold startRuntime codeRules commitRules
  simp only [modItg_run, modItg_nv, publishStops_course, publishStops_nv]
  simp [loadCode, Runtime.course, retainReplayed, replayJournal, takeSwitch_of_journal_nil h]

/-! ### Activation (08 R275) -/

/-- PROGRAM_ACTIVATE of a module alone activates the loaded image at once. -/
theorem programActivate_activates {e : Exec} {s : Rc8} {x : Image} (noChange : s.chg.load = none) (idle : s.chg.st = .idle)
    (loaded : s.nv.loaded = some x) (alone : s.pair.partner.present = false) (plan : imagePlanFails x s = false)
    (cores : coresPresent x (imageDomains x s) = true) (data : (activateRetained (u8At e.req 0) x s).isSome = true) :
    programActivate true e s = (ownActivate (u8At e.req 0)
      (modRun (fun r => { r with activating := some e.id }) (pendNow e s))).ended e.id .done [] := by
  have carried : (activateRetained (u8At e.req 0) x s).isNone = false := by simpa using data
  simp only [programActivate, noChange, idle, loaded, plan, cores, carried, Option.isSome_none, ne_eq, not_true_eq_false, Bool.false_eq_true,
    Bool.true_eq_false, Bool.not_true, or_self, if_false]
  exact pairStore_now (by simpa using alone) false

/-- What a module stores with an image in use, its retained data in the other area, and the image before it in the loaded slot. -/
def Rc8.swappedNv (s : Rc8) (kind : Nat) (x : Image) : Nv :=
  { s.nv with active := some x, loaded := s.nv.active, journal := [], retainUse := otherBank s.nv.retainUse,
              retain := s.nv.retain.set (otherBank s.nv.retainUse) (((activateRetained kind x s).map (·.1)).getD []) }

/-- A module that stores this, with no command that activates. -/
def Rc8.swapped (s : Rc8) (kind : Nat) (x : Image) : Rc8 :=
  modRun (fun r => { r with activating := none }) (imageDomains x { s with nv := s.swappedNv kind x })

/-- Switching on the domain of an image's tasks leaves the runtime and what is stored. -/
theorem imageDomains_leaves (x : Image) (s : Rc8) : (imageDomains x s).run = s.run ∧ (imageDomains x s).nv = s.nv := by
  unfold imageDomains
  split <;> exact ⟨rfl, rfl⟩

theorem swapped_leaves (s : Rc8) (kind : Nat) (x : Image) :
    (s.swapped kind x).run = { s.run with activating := none } ∧ (s.swapped kind x).nv = s.swappedNv kind x := by
  simp [Rc8.swapped, imageDomains_leaves]

/-- A command that waits for the rules in force leaves the runtime and what is stored. -/
theorem awaitOpt_leaves (id : Option Nat) (s : Rc8) : (awaitOpt id s).run = s.run ∧ (awaitOpt id s).nv = s.nv := by
  cases id <;> exact ⟨rfl, rfl⟩

/-- The activation starts the runtime of the module so swapped. -/
theorem effActivate_starts {s : Rc8} {x : Image} (loaded : s.nv.loaded = some x) (kind : Nat) :
    (effActivate kind s).run = (startRuntime (s.swapped kind x)).run ∧
    (effActivate kind s).nv = (startRuntime (s.swapped kind x)).nv := by
  unfold effActivate
  rw [loaded]
  exact awaitOpt_leaves _ _

/-- PROGRAM_ACTIVATE's operation swaps the images and the retained areas and starts the runtime, in the mode in force. -/
theorem ownActivate_swaps {s : Rc8} {x : Image} (loaded : s.nv.loaded = some x) (kind : Nat) :
    (ownActivate kind s).run.course = (s.run.mode, true, 0, none) ∧ (ownActivate kind s).nv.active = some x ∧
    (ownActivate kind s).nv.loaded = s.nv.active ∧ (ownActivate kind s).nv.retainUse = otherBank s.nv.retainUse ∧
    (ownActivate kind s).nv.journal = [] := by
  obtain ⟨run, nv⟩ := effActivate_starts loaded kind
  unfold ownActivate
  simp only [loaded, raise_run, raise_nv, run, nv]
  obtain ⟨swappedRun, swappedNv⟩ := swapped_leaves s kind x
  have starts := startRuntime_starts (s := s.swapped kind x) (by rw [swappedNv]; rfl)
  rwa [swappedRun, swappedNv] at starts

/-! ### The statement -/

/-- Settles O37: a first block is `firstProgramBlock`, the last one ends in the loaded slot or nowhere, and the activation swaps what
is stored and starts the runtime. -/
theorem programLoadAndActivate : Obligations.ProgramLoadAndActivate := by
  refine fun s p m e => ⟨fun found noChange unarmed idle free first => ?load,
    fun x found noChange chgIdle loaded alone plan cores data => leads_of_act rfl ?activate⟩
  case load =>
    refine ⟨fun stored more => leads_of_act rfl ?opens, fun last intact fields alone => leads_of_act rfl ?stores,
      fun last broken stored => leads_of_act rfl ?refused⟩
    case opens =>
      rw [State.after_toRc8, runCmd_found found, programLoad_opens noChange unarmed idle free first more]
      obtain ⟨run, execs, loaded, active, -⟩ := firstProgramBlock_leaves s.toRc8 e none
      exact ⟨run, loaded, active, by simp [Rc8.ended, Rc8.marked, execs]⟩
    case stores =>
      obtain ⟨run, -, -, active, parts⟩ := firstProgramBlock_leaves s.toRc8 e (some e.id)
      have passed := (imageFieldsOk_congr parts (e.req.drop 16)).trans fields
      have still := (congrArg (fun q : Pair => q.partner.present) (firstProgramBlock_pair alone e (some e.id))).trans alone
      rw [State.after_toRc8, runCmd_found found, programLoad_single noChange unarmed idle free first last,
        finishProgram_stores intact passed still]
      obtain ⟨slot, image, runtime⟩ := ownProgramLoad_stores (ne_nil_of_imageFieldsOk fields) e.port.val
        (pendNow e (s.firstProgramBlock e (some e.id)))
      exact ⟨slot, image.trans (by rw [pendNow_nv, active]), (congrArg Runtime.mode runtime).trans (by rw [pendNow_run, run])⟩
    case refused =>
      obtain ⟨-, execs, loaded, -⟩ := firstProgramBlock_leaves s.toRc8 e (some e.id)
      rw [State.after_toRc8, runCmd_found found, programLoad_single noChange unarmed idle free first last, finishProgram_broken broken,
        endWith_eq]
      exact ⟨(congrArg Nv.loaded (pendNow_nv ..)).trans loaded, (marked_pendNow ..).trans (by rw [Rc8.markedLong, execs]; rfl)⟩
  case activate =>
    rw [State.after_toRc8, runCmd_found found, programActivate_activates noChange chgIdle loaded alone plan cores data]
    obtain ⟨course, active, before, area, journal⟩ := ownActivate_swaps
      (s := modRun (fun r => { r with activating := some e.id }) (pendNow e s.toRc8)) (by simpa using loaded) (u8At e.req 0)
    obtain ⟨mode, started, mono, activating⟩ : _ ∧ _ ∧ _ ∧ _ := by simpa [Runtime.course] using course
    have otherArea := ne_of_eq_of_ne (area.trans (by simp)) (otherBank_ne s.nv.retainUse)
    exact ⟨active, before.trans (by simp), otherArea, journal, started, mono, activating, mode⟩

end Sys2Proof.Machine
end

section
/-! SUPPORT. An online change: what its load, its preparation, its abandonment and its waymark leave, and the statement about it (09
R281, R283 to R290, R295, R297, R300 to R302). -/

namespace Sys2Proof.Machine

open Sys2Proof

/-! ### The package (09 R284, R300) -/

section telling
variable (op : PairOp) (s : Rc8)

@[simp] theorem tellPartner_chg : (tellPartner op s).chg = s.chg := by rw [tellPartner_frame]
@[simp] theorem tellPartner_nv : (tellPartner op s).nv = s.nv := by rw [tellPartner_frame]
@[simp] theorem tellPartner_execs : (tellPartner op s).execs = s.execs := by rw [tellPartner_frame]
@[simp] theorem tellPartner_clk : (tellPartner op s).clk = s.clk := by rw [tellPartner_frame]
@[simp] theorem tellPartner_rnd : (tellPartner op s).rnd = s.rnd := by rw [tellPartner_frame]

end telling

/-- A loaded package that is discarded goes with the change that it was loaded for. -/
theorem discardPackage_loaded {s : Rc8} (loaded : s.chg.st = .loaded) :
    (discardPackage s).chg = { s.chg with st := .idle } ∧ (discardPackage s).nv = { s.nv with package := none } := by
  simp [discardPackage, dropPackage, loaded]

/-- A first block with more to come opens the load, discards the package kept before, and its command ends with the bytes received. -/
theorem changeLoad_opens {e : Exec} {s : Rc8} (unarmed : changeArmed s = false) (free : BlockLoad.runs s.run.load s = false)
    (idle : s.run.activating = none) (first : u32At e.req 8 = 0) (more : bitAt (u8At e.req 0) 0 = false) (stored : Bool) :
    changeLoad stored e s = (modChg (fun c => { c with load := some (firstProgramLoad e none) }) (discardPackage s)).ended e.id .done
      (le 4 (e.req.drop 16).length ++ zeros 4) := by
  simp [changeLoad, unarmed, idle, free, first, blockLast, more, endExec_done, blockTake, blockBefore, blockResponse, firstProgramLoad]

/-! ### Preparation (09 R285 to R287, R301) -/

/-- What preparation on a module leaves: the state of the change, the commands, the image and the engine's bank in use. -/
def Rc8.unprepared (s : Rc8) : Change × List Exec × Option Image × Fin 2 := (s.chg, s.execs, s.nv.active, s.nv.bankActive)

theorem prepareProgram_unprepared (k : Package) (s : Rc8) : (prepareProgram k s).unprepared = s.unprepared := by
  unfold prepareProgram fillOther
  split
  · rfl
  · split <;> rfl

/-- Preparation writes what is not in use. -/
theorem effPrepare_unprepared (s : Rc8) : (effPrepare s).unprepared = s.unprepared := by
  unfold effPrepare
  split
  · rfl
  next k _ =>
    extract_lets s0 s1 s2
    have program : s0.unprepared = s.unprepared := (prepareProgram_unprepared k _).trans (by split <;> rfl)
    have bank : s1.unprepared = s.unprepared := program
    have resamples : s2.unprepared = s.unprepared :=
      (foldl_keeps Rc8.unprepared _ (fun r x => by dsimp only; split <;> rfl) _ _).trans bank
    split
    · exact resamples
    · refine (foldl_keeps Rc8.unprepared _ (fun r n => ?_) _ _).trans resamples
      split
      · rfl
      · dsimp only
        split <;> rfl

/-- A change whose preparation has begun with CHANGE_ARM. -/
def Change.begun (c : Change) (e : Exec) (k : Package) (fails : Option (Nat × Nat)) : Change :=
  { c with st := .preparing, exec := some e.id, notBefore := u64At e.req 16, failed := fails,
           deadline := some (e.start + (if u32At e.req 8 = 0 then k.timeout else u32At e.req 8) * 1000000),
           candidate := none, confirmed := [], fixed := false, missed := 0, cut := 0 }

/-- CHANGE_ARM begins the preparation, whichever of its steps fail, and its command waits. -/
theorem changeArm_begins {e : Exec} {s : Rc8} {k : Package} (package : s.nv.package = some k) (loaded : s.chg.st = .loaded)
    (unblocked : changeBlocked s = false) : (changeArm e s).unprepared =
      (s.chg.begun e k (prepareFails k s), s.markedLong e.id .waiting, s.nv.active, s.nv.bankActive) := by
  unfold changeArm
  simp -zeta only [package]
  rw [if_neg (by simp [loaded]), if_neg (by simp [unblocked])]
  extract_lets ms fails s0 s1
  have refused : s0.unprepared = s.unprepared := by
    unfold s0
    split
    · simp [Rc8.unprepared, scheduleRefused]
    · rfl
  obtain ⟨chg, execs, active, bank⟩ : s0.chg = s.chg ∧ s0.execs = s.execs ∧ s0.nv.active = s.nv.active ∧
      s0.nv.bankActive = s.nv.bankActive := by simpa [Rc8.unprepared] using refused
  have begun : s1.unprepared = (s.chg.begun e k fails, s.markedLong e.id .waiting, s.nv.active, s.nv.bankActive) := by
    simp [Rc8.unprepared, s1, pendNow_execs, Rc8.markedLong, chg, execs, active, bank, Change.begun, ms]
  split
  · exact begun
  · rw [effPrepare_unprepared, ← begun]
    split
    · simp [Rc8.unprepared]
    · rfl

/-- Offering a candidate changes the candidate of the change, those confirmed, and what is sent. -/
theorem offerCandidate_leaves (w : Nat) (s : Rc8) :
    (offerCandidate w s).chg = { s.chg with candidate := some w, confirmed := s.chg.confirmed.filter fun x => decide (w ≤ x) } ∧
    (offerCandidate w s).nv = s.nv := by
  have told : ∀ l : List Nat, (l.foldl (fun r x => plkSend 0x20 0 (.apply .waymark x) r) s).chg = s.chg ∧
      (l.foldl (fun r x => plkSend 0x20 0 (.apply .waymark x) r) s).nv = s.nv := fun l =>
    ⟨foldl_keeps Rc8.chg _ (fun r x => plkSend_chg _ _ _ r) l s, foldl_keeps Rc8.nv _ (fun r x => plkSend_nv _ _ _ r) l s⟩
  unfold offerCandidate
  dsimp only
  split
  · simp [told]
  · simp

section preparationEnd
variable {s : Rc8} {k : Package} (package : s.nv.package = some k) (preparing : s.chg.st = .preparing)
  (confirmed : changeUnconfirmed s = false) (holder : isStandby s = false)
include package preparing confirmed holder

/-- Preparation that has passed every check arms the change with a candidate. -/
theorem preparationEnd_arms (passed : s.chg.failed = none) : (preparationEnd true s).chg.st = .armed ∧
    (preparationEnd true s).chg.candidate.isSome = true ∧ (preparationEnd true s).chg.fixed = k.hasSched ∧
    (preparationEnd true s).nv.active = s.nv.active := by
  unfold preparationEnd
  simp -zeta only [package]
  rw [if_neg (by simp [preparing, confirmed, holder])]
  simp -zeta only [passed, Bool.not_true, Bool.false_eq_true, if_false]
  extract_lets first w s1 s2
  have chg : s2.chg = s1.chg := foldl_keeps Rc8.chg _ (fun r n => modSch_chg n _ r) _ _
  have nv : s2.nv = s1.nv := foldl_keeps Rc8.nv _ (fun r n => modSch_nv n _ r) _ _
  simp [offerCandidate_leaves, chg, nv, s1]

/-- Preparation of which a step has failed abandons the change with that step's cause. -/
theorem preparationEnd_fails {f : Nat × Nat} (failed : s.chg.failed = some f) (verified : Bool) :
    preparationEnd verified s = abandon f.1 f.2 s := by
  simp [preparationEnd, package, preparing, confirmed, holder, failed]

/-- Preparation of which a read-back does not match abandons the change with cause 7. -/
theorem preparationEnd_unverified (passed : s.chg.failed = none) : preparationEnd false s = abandon 7 0 s := by
  simp [preparationEnd, package, preparing, confirmed, holder, passed]

end preparationEnd

/-- A standby does not end the preparation by itself. -/
theorem preparationEnd_standby {s : Rc8} (standby : isStandby s = true) (verified : Bool) : preparationEnd verified s = s := by
  unfold preparationEnd
  split
  · rfl
  · exact if_pos (.inl standby)

/-! ### Abandoning (09 R284, R287, R297) -/

/-- A change that is undone: its package is kept, and nothing of its arming is left. -/
def Change.reloaded (c : Change) (round : Nat) : Change :=
  { c with st := .loaded, candidate := none, confirmed := [], fixed := false, deadline := none, exec := none, aborts := [],
           failed := none, undone := round }

/-- Undoing a change touches the learning tables, the schedules and the second code area; what is stored and the commands stay. -/
theorem undoChange_leaves (skip : Bool) (s : Rc8) : (undoChange skip s).chg = s.chg.reloaded s.rnd.round ∧
    (undoChange skip s).nv = s.nv ∧ (undoChange skip s).execs = s.execs ∧ (undoChange skip s).clk = s.clk := by
  unfold undoChange
  extract_lets s1 s2
  have restored : (s1.chg, s1.nv, s1.execs, s1.clk) = (s.chg, s.nv, s.execs, s.clk) := rfl
  have withdrawn : (s2.chg, s2.nv, s2.execs, s2.clk) = (s1.chg, s1.nv, s1.execs, s1.clk) :=
    foldl_keeps (fun r => (r.chg, r.nv, r.execs, r.clk)) _ (fun r n => by
      split
      · split <;> simp
      · rfl) _ s1
  clear_value s2 s1
  obtain ⟨chg, nv, execs, clk⟩ : s2.chg = s.chg ∧ s2.nv = s.nv ∧ s2.execs = s.execs ∧ s2.clk = s.clk := by
    simpa using withdrawn.trans restored
  exact ⟨by simp [secondCode, chg, Change.reloaded], nv, execs, clk⟩

section endAborts
variable (st : Status) (s : Rc8)

/-- The aborts that end change the commands alone. -/
theorem endAborts_frame : endAborts st s = { s with execs := (endAborts st s).execs } := by
  unfold endAborts
  generalize s.chg.aborts = l
  induction l generalizing s with
  | nil => rfl
  | cons id l ih => rw [List.foldl_cons, ih, endWith_eq]; rfl

@[simp] theorem endAborts_chg : (endAborts st s).chg = s.chg := by rw [endAborts_frame]
@[simp] theorem endAborts_nv : (endAborts st s).nv = s.nv := by rw [endAborts_frame]
@[simp] theorem endAborts_clk : (endAborts st s).clk = s.clk := by rw [endAborts_frame]
@[simp] theorem endAborts_rnd : (endAborts st s).rnd = s.rnd := by rw [endAborts_frame]
@[simp] theorem endAborts_run : (endAborts st s).run = s.run := by rw [endAborts_frame]

end endAborts

section abandon
variable (cause cond : Nat) (s : Rc8)

/-- A change that is abandoned is undone, with its cause. -/
theorem abandon_chg : (abandon cause cond s).chg = { s.chg.reloaded s.rnd.round with result := 2, cause := cause } := by
  unfold abandon
  dsimp only
  split <;> simp [undoChange_leaves]

/-- What is stored stays, but for the event. -/
theorem abandon_nv : (abandon cause cond s).nv = { s.nv with recLog := (abandon cause cond s).nv.recLog } := by
  unfold abandon
  dsimp only
  split <;> simp [undoChange_leaves]

/-- Abandoning takes no time. -/
theorem abandon_clk : (abandon cause cond s).clk = s.clk := by
  unfold abandon
  dsimp only
  split <;> simp [undoChange_leaves]

/-- An abandoned change is loaded again, with its cause, its package kept, and everything in use as it was. -/
theorem abandon_keeps : (abandon cause cond s).chg.st = .loaded ∧ (abandon cause cond s).chg.result = 2 ∧
    (abandon cause cond s).chg.cause = cause ∧ (abandon cause cond s).nv.package = s.nv.package ∧
    (abandon cause cond s).nv.active = s.nv.active ∧ (abandon cause cond s).nv.bankActive = s.nv.bankActive ∧
    (abandon cause cond s).nv.retainUse = s.nv.retainUse := by
  rw [abandon_chg, abandon_nv]
  exact ⟨rfl, rfl, rfl, rfl, rfl, rfl, rfl⟩

variable {cause cond s}

/-- An abort that waits alone ends with DONE where no CHANGE_ARM waits. -/
theorem abandon_execs {id : Nat} (alone : s.chg.aborts = [id]) (unarmed : s.chg.exec = none) :
    (abandon cause cond s).execs = s.marked id (.ended .done []) := by
  unfold abandon
  dsimp only
  split <;> simp [undoChange_leaves, endAborts, alone, unarmed, endOpt, endWith_eq, Rc8.ended, Rc8.marked]

end abandon

/-! ### The waymark (09 R281, R283, R286, R288, R290) -/

/-- The images and the journal of the program, and the engine's bank, the retained area and the code area in use. -/
structure ProgramInUse where
  active : Option Image
  loaded : Option Image
  package : Option Package
  journal : List JournalRec
  bank : Fin 2
  area : Fin 2
  code : Fin 2

/-- What a module has in use. -/
def Rc8.program (s : Rc8) : ProgramInUse :=
  { active := s.nv.active, loaded := s.nv.loaded, package := s.nv.package, journal := s.nv.journal, bank := s.nv.bankActive,
    area := s.nv.retainUse, code := s.run.codeUse }

theorem raise_program (e : Ev) (s : Rc8) : (raise e s).program = s.program := by simp [Rc8.program]

theorem endOpt_program (id : Option Nat) (st : Status) (s : Rc8) : (endOpt id st s).program = s.program := by simp [Rc8.program]

theorem endAborts_program (st : Status) (s : Rc8) : (endAborts st s).program = s.program := by simp [Rc8.program]

theorem learnGoto_program (a : Nat) (new : LearnSt) (cause : Nat) (s : Rc8) : (learnGoto a new cause s).program = s.program := by
  unfold learnGoto learnChanged
  dsimp only
  split
  · rfl
  · exact raise_program _ _

theorem learnGotoIf_program (c : Prop) [Decidable c] (a : Nat) (new : LearnSt) (cause : Nat) (s : Rc8) :
    (if c then learnGoto a new cause s else s).program = s.program := by
  split
  · exact learnGoto_program a new cause s
  · rfl

theorem applyMove_program (a : Nat) (mv : TableMove) (s : Rc8) : (applyMove a mv s).program = s.program := by
  unfold applyMove
  extract_lets s0 l new s1 s3 s2
  split
  · rfl
  · have stored : s3.program = s.program := by unfold s3; split <;> rfl
    have off : s2.program = s.program := (learnGotoIf_program ..).trans stored
    split <;> rw [raise_program, off]

/-- The learning configurations of the package take force beside the program. -/
theorem changeLearn_program (k : Package) (s : Rc8) : (changeLearn k s).program = s.program := by
  refine foldl_keeps Rc8.program _ (fun r x => ?_) _ _
  extract_lets c s1 s2
  have moved : s1.program = r.program := by
    unfold s1
    split
    · split
      · exact applyMove_program ..
      · rfl
    · rfl
  exact (learnGotoIf_program ..).trans moved

/-- The bank, the retained area and the code area in use. -/
def Rc8.halves (s : Rc8) : Fin 2 × Fin 2 × Fin 2 := (s.nv.bankActive, s.nv.retainUse, s.run.codeUse)

/-- Cycles that are cut change no half in use. -/
theorem cutCycles_halves (w : Nat) (s : Rc8) : (cutCycles w s).halves = s.halves :=
  foldl_keeps Rc8.halves _ (fun r t => by simp [Rc8.halves]) _ _

/-- A cycle that closes changes no half in use. -/
theorem closeCycle_halves (t : Fin 8) (us : Nat) (s : Rc8) : (closeCycle t us s).halves = s.halves := by
  unfold closeCycle finishLayby taskHalted
  extract_lets s1
  have cycle : s1.halves = s.halves := rfl
  split
  · split <;> exact (by simp [Rc8.halves] : _ = s1.halves).trans cycle
  · exact cycle

/-- Commits that complete change no half in use. -/
theorem finishCommits_halves (s : Rc8) : (finishCommits s).halves = s.halves := by
  unfold finishCommits
  dsimp only
  refine (foldl_keeps Rc8.halves _ (fun r t => ?_) _ _).trans rfl
  split
  · exact closeCycle_halves ..
  · rfl

/-- The program that a waymark brings to a module with these halves in use: the new image is active and the old one loaded, with the
other halves in use. -/
def changedProgram (k : Package) (old : Image) (halves : Fin 2 × Fin 2 × Fin 2) : ProgramInUse :=
  { active := some k.image, loaded := some old, package := none, journal := [switchRec k.image.id (otherBank halves.2.1)],
    bank := otherBank halves.1, area := otherBank halves.2.1, code := otherBank halves.2.2 }

theorem imageDomains_program (x : Image) (s : Rc8) : (imageDomains x s).program = s.program := by
  unfold imageDomains
  split <;> rfl

theorem codeRules_program (s : Rc8) : (codeRules s).program = s.program := rfl

theorem tableChanged_program (s : Rc8) : (tableChanged s).program = s.program := rfl

/-- Timers, edges and the data of a program are beside what is in use. -/
theorem carryInstances_program (old new : Image) (s : Rc8) : (carryInstances old new s).program = s.program := rfl

theorem convertData_halves (old new : Image) (bad : Option Nat) (s : Rc8) : (convertData old new bad s).halves = s.halves := rfl

/-- The switch record brings the program but for the engine's bank. -/
theorem switchImages_program (k : Package) (old : Image) (bad : Option Nat) (s : Rc8) :
    (switchImages k old bad s).program = { changedProgram k old s.halves with bank := s.halves.1 } := rfl

/-- A swap brings the engine's other bank. -/
theorem swapBanks_program (cause : Nat) (s : Rc8) :
    (swapBanks cause s).program = { s.program with bank := otherBank s.nv.bankActive } := raise_program _ _

section waymark
variable {s : Rc8} {k : Package} {old : Image} (package : s.nv.package = some k) (active : s.nv.active = some old) (w : Nat)
  (bad : Option Nat)
include package active

/-- The change that is applied brings its program. -/
theorem effWaymark_program : (effWaymark w bad s).program = changedProgram k old s.halves := by
  unfold effWaymark
  simp -zeta only [package, active]
  extract_lets s1 clipped s2 s3 s4
  have halves : s1.halves = s.halves := (finishCommits_halves _).trans (cutCycles_halves w s)
  have switched : s2.program = { changedProgram k old s.halves with bank := s.halves.1 } := by
    simp only [s2, codeRules_program, tableChanged_program, imageDomains_program, carryInstances_program, switchImages_program,
      convertData_halves, halves]
  have swapped : s3.program = changedProgram k old s.halves := by
    have bank : s2.nv.bankActive = s.halves.1 := congrArg ProgramInUse.bank switched
    simp only [s3, changeLearn_program, swapBanks_program, switched, bank]
    rfl
  have ended : s4.program = changedProgram k old s.halves := (endOpt_program ..).trans ((endAborts_program ..).trans swapped)
  exact (raise_program _ _).trans ended

/-- The change that is applied is over, and its waymark is kept. -/
theorem effWaymark_chg : (effWaymark w bad s).chg.st = .idle ∧ (effWaymark w bad s).chg.result = 1 ∧
    (effWaymark w bad s).chg.candidate = none ∧ (effWaymark w bad s).chg.waymark = w := by
  simp [effWaymark, package, active]

end waymark

/-! ### A candidate (09 R286, R290, R295, R297) -/

section clock
variable (t : Nat) (s : Rc8)
/-! What decides on a candidate does not ask for the time. -/

@[simp] theorem runningAffected_atPtu : runningAffected (atPtu t s) = runningAffected s := rfl
@[simp] theorem conversionFails_atPtu (bad : Option Nat) : conversionFails bad (atPtu t s) = conversionFails bad s := rfl

end clock

/-- An event within its limit leaves what is stored, but for the event. -/
theorem raiseLimited_nv (place : Option (Fin 3)) (e : Ev) (s : Rc8) :
    (raiseLimited place e s).nv = { s.nv with recLog := (raiseLimited place e s).nv.recLog } := by
  unfold raiseLimited raiseWindow
  dsimp only
  split
  · split <;> simp
  · split <;> simp

/-- A module whose candidate is missed, before it tries the next one. -/
def Rc8.missed (s : Rc8) (w : Nat) : Rc8 :=
  raiseLimited none { src := 24, reason := 0x03, sev := .warning, p1 := lo32 w, p2 := inc32 s.chg.missed,
                      p0 := (runningAffected s).foldl (fun m t => m + 2 ^ t.val) 0 + (if candidateConfirmed w s then 0 else 256) }
    (effMissed (if s.pair.partner.present then plkSend 0x20 0 (.apply .missed w) s else s))

/-- The missed candidate is counted; the commands and what is stored stay. -/
theorem missed_leaves (s : Rc8) (w : Nat) : (s.missed w).chg = { s.chg with missed := inc32 s.chg.missed } ∧
    (s.missed w).execs = s.execs ∧ (s.missed w).nv.active = s.nv.active ∧ (s.missed w).nv.package = s.nv.package := by
  unfold Rc8.missed
  rw [raiseLimited_nv]
  simp only [raiseLimited_chg, raiseLimited_execs]
  split <;> simp [effMissed]

section candidate
variable {s : Rc8} {w : Nat} (candidate : s.chg.candidate = some w) (holder : isStandby s = false) (unfixed : s.chg.fixed = false)
include candidate holder unfixed

/-- A candidate at which an affected task runs is missed. -/
theorem waymarkCandidate_missed (running : runningAffected s ≠ []) (bad : Option Nat) :
    waymarkCandidate bad s = missWaymark w (atPtu (w * s.rnd.period * fracPerNs) s) := by
  simp [waymarkCandidate, candidate, holder, unfixed, running]

/-- The next candidate is then offered. -/
theorem waymarkCandidate_next (running : runningAffected s ≠ []) (noAbort : s.chg.aborts = []) (bad : Option Nat) :
    waymarkCandidate bad s = offerCandidate (w + candidatePeriod s) ((atPtu (w * s.rnd.period * fracPerNs) s).missed w) := by
  rw [waymarkCandidate_missed candidate holder unfixed running]
  exact if_neg (by simp [noAbort])

/-- An abort that waits takes effect instead. -/
theorem waymarkCandidate_aborted (running : runningAffected s ≠ []) (aborted : s.chg.aborts ≠ []) (bad : Option Nat) :
    waymarkCandidate bad s = abandon 1 0 ((atPtu (w * s.rnd.period * fracPerNs) s).missed w) := by
  rw [waymarkCandidate_missed candidate holder unfixed running]
  exact if_pos (by simpa using aborted)

variable (idle : runningAffected s = []) (alone : s.pair.partner.present = false)
include idle alone

/-- On a module alone on which no affected task runs the change is applied where its conversion succeeds. -/
theorem waymarkCandidate_applies (converts : conversionFails none s = false) :
    waymarkCandidate none s = effWaymark w none (atPtu (w * s.rnd.period * fracPerNs) s) := by
  simp [waymarkCandidate, applyWaymark, candidateConfirmed, candidate, holder, unfixed, idle, alone, converts]

/-- Where its conversion fails the change is abandoned. -/
theorem waymarkCandidate_abandons {bad : Option Nat} (fails : conversionFails bad s = true) :
    waymarkCandidate bad s = abandon 5 0 (atPtu (w * s.rnd.period * fracPerNs) s) := by
  simp [waymarkCandidate, candidateConfirmed, candidate, holder, unfixed, idle, alone, fails]

end candidate

/-- A standby decides on no candidate. -/
theorem waymarkCandidate_standby {s : Rc8} (standby : isStandby s = true) (bad : Option Nat) : waymarkCandidate bad s = s := by
  unfold waymarkCandidate
  split
  · rfl
  · exact if_pos standby

/-! ### The statement -/

/-- Settles O38: what an abandoned change leaves is `abandon_keeps`, what an applied one brings `effWaymark_program`, and the rows of
the change lead to one of them or to `effPrepare`, which writes what is not in use. -/
theorem onlineChange : Obligations.OnlineChange := by
  refine ⟨⟨fun s p m e found unarmed free idle _ first more stored => leads_of_act rfl ?load,
    fun s p m e k found package loaded unblocked => leads_of_act rfl ?arm,
    fun s k package preparing confirmed holder => ⟨fun passed => leads_of_act rfl ?armed,
      fun f verified failed => leads_of_act rfl ?failed, fun passed => leads_of_act rfl ?unverified⟩,
    fun s w k old candidate package active holder unfixed idle alone => ⟨fun converts => leads_of_act rfl ?applied,
      fun bad fails => leads_of_act rfl ?unconverted⟩,
    fun s standby => ⟨fun verified => ?standbyPrepares, fun bad => ?standbyDecides⟩⟩,
    fun s p m e found => ⟨fun loaded => leads_of_act rfl ?abortLoaded, fun preparing => leads_of_act rfl ?abortPreparing,
      fun armed fixed => ?abortFixed, fun w armed unfixed candidate => ⟨fun near => leads_of_act rfl ?abortWaits,
        fun far => leads_of_act rfl ?abortArmed⟩⟩,
    fun s d deadline unfixed => leads_of_act rfl ?timeout,
    fun s w bad candidate unfixed holder running => ⟨fun noAbort => leads_of_act rfl ?next,
      fun id aborts noArm => leads_of_act rfl ?aborted⟩⟩
  case load =>
    rw [State.after_toRc8, runCmd_found found, changeLoad_opens unarmed free idle first more, discardPackage_frame]
    exact ⟨rfl, rfl, rfl, rfl⟩
  case arm =>
    rw [State.after_toRc8, runCmd_found found]
    obtain ⟨chg, execs, active, bank⟩ : _ ∧ _ ∧ _ ∧ _ := by
      simpa [Rc8.unprepared] using changeArm_begins (e := e) package loaded unblocked
    rw [chg]
    exact ⟨rfl, rfl, rfl, rfl, rfl, active, bank, execs⟩
  case armed => exact preparationEnd_arms package preparing confirmed holder passed
  case failed =>
    rw [State.after_toRc8, preparationEnd_fails package preparing confirmed holder failed]
    obtain ⟨st, result, cause, -, active, -⟩ := abandon_keeps f.1 f.2 s.toRc8
    exact ⟨st, result, cause, active⟩
  case unverified =>
    rw [State.after_toRc8, preparationEnd_unverified package preparing confirmed holder passed]
    obtain ⟨st, result, cause, -, active, -⟩ := abandon_keeps 7 0 s.toRc8
    exact ⟨st, result, cause, active⟩
  case applied =>
    rw [State.after_toRc8, waymarkCandidate_applies candidate holder unfixed idle alone converts]
    obtain ⟨st, result, noCandidate, waymark⟩ :=
      effWaymark_chg (s := atPtu (w * s.rnd.period * fracPerNs) s.toRc8) package active w none
    have program : _ = changedProgram k old s.halves :=
      effWaymark_program (s := atPtu (w * s.rnd.period * fracPerNs) s.toRc8) package active w none
    generalize effWaymark w none (atPtu (w * s.rnd.period * fracPerNs) s.toRc8) = r at st result noCandidate waymark program ⊢
    have area : r.nv.retainUse = otherBank s.nv.retainUse := congrArg ProgramInUse.area program
    have bank : r.nv.bankActive = otherBank s.nv.bankActive := congrArg ProgramInUse.bank program
    have code : r.run.codeUse = otherBank s.run.codeUse := congrArg ProgramInUse.code program
    exact ⟨congrArg ProgramInUse.active program, congrArg ProgramInUse.loaded program, congrArg ProgramInUse.package program, st, result,
      noCandidate, waymark, ne_of_eq_of_ne bank (otherBank_ne _), ne_of_eq_of_ne area (otherBank_ne _),
      (congrArg ProgramInUse.journal program).trans (by rw [area]; rfl), ne_of_eq_of_ne code (otherBank_ne _)⟩
  case unconverted =>
    rw [State.after_toRc8, waymarkCandidate_abandons candidate holder unfixed idle alone fails]
    obtain ⟨st, result, cause, package', active', bank, area⟩ := abandon_keeps 5 0 (atPtu (w * s.rnd.period * fracPerNs) s.toRc8)
    exact ⟨active', package', st, result, cause, bank, area⟩
  case standbyPrepares => exact congrArg Host.Outcome.next (after_unchanged (preparationEnd_standby standby verified))
  case standbyDecides => exact congrArg Host.Outcome.next (after_unchanged (waymarkCandidate_standby standby bad))
  case abortLoaded =>
    rw [State.after_toRc8, runCmd_found found]
    obtain ⟨chg, nv⟩ := discardPackage_loaded loaded
    have execs : (discardPackage s.toRc8).execs = s.execs := by rw [discardPackage_frame]
    simp [changeAbort, loaded, chg, nv, endWith_eq, Rc8.ended, Rc8.marked, execs]
  case abortPreparing =>
    rw [State.after_toRc8, runCmd_found found]
    obtain ⟨st, result, cause, package, -⟩ := abandon_keeps 1 0 s.toRc8
    simp [changeAbort, preparing, st, result, cause, package]
  case abortFixed => exact congrArg Host.Outcome.next (after_congr (by rw [runCmd_found found]; simp [changeAbort, armed, fixed]))
  case abortWaits =>
    rw [State.after_toRc8, runCmd_found found]
    simp [changeAbort, armed, unfixed, candidate, Nat.not_le.mpr near, waitExec_eq, Rc8.marked]
  case abortArmed =>
    rw [State.after_toRc8, runCmd_found found]
    obtain ⟨st, result, cause, package, -⟩ := abandon_keeps 1 0 s.toRc8
    simp [changeAbort, armed, unfixed, candidate, far, st, result, cause, package]
  case timeout =>
    have abandoned : changeTimeout s.toRc8 = abandon 2 0 (atRefosc d s.toRc8) := by simp [changeTimeout, deadline, unfixed]
    rw [State.after_toRc8, abandoned]
    obtain ⟨st, result, cause, package, -⟩ := abandon_keeps 2 0 (atRefosc d s.toRc8)
    refine ⟨st, result, cause, by rw [abandon_chg]; rfl, package, ?_⟩
    rw [abandon_clk]
    exact le_atRefosc d s.toRc8
  case next =>
    rw [State.after_toRc8, waymarkCandidate_next candidate holder unfixed running noAbort]
    obtain ⟨chg, -, active, package⟩ := missed_leaves (atPtu (w * s.rnd.period * fracPerNs) s.toRc8) w
    rw [(offerCandidate_leaves ..).1, (offerCandidate_leaves ..).2, chg]
    exact ⟨rfl, rfl, rfl, active, package⟩
  case aborted =>
    rw [State.after_toRc8, waymarkCandidate_aborted candidate holder unfixed running (by simp [aborts])]
    obtain ⟨chg, execs, -, package⟩ := missed_leaves (atPtu (w * s.rnd.period * fracPerNs) s.toRc8) w
    generalize Rc8.missed _ w = r at chg execs package ⊢
    obtain ⟨st, result, cause, kept, -⟩ := abandon_keeps 1 0 r
    have ended : (abandon 1 0 r).execs = r.marked id (.ended .done []) :=
      abandon_execs (by rw [chg]; exact aborts) (by rw [chg]; exact noArm)
    exact ⟨by rw [abandon_chg]; rfl, st, result, cause, ended.trans (by rw [Rc8.marked, execs]; rfl), kept.trans package⟩

end Sys2Proof.Machine
end

section
/-! SUPPORT. Resets and the start of the module: what each stage of a start leaves, and the statement about them (09 R283, R296; 17
R519, R521, R524; 18 R540 to R545, R552). -/

namespace Sys2Proof.Machine

open Sys2Proof

/-! ### What a start brings about -/

/-- How far a module has started: what PD0 and the reset left to report, the key, the power, its position as read and as coded, its
self-test, its runtime, and whether its mailboxes are served. -/
structure StartProgress where
  armedAtReset : Bool
  mismatch : Option Nat
  violation : Option AsvEntry
  key : Key
  powered : Bool
  position : Nat
  slot : Nat
  selfTest : Bool
  runtime : Bool
  served : Bool

/-- The progress of a module. -/
def Rc8.progress (s : Rc8) : StartProgress :=
  { armedAtReset := s.nv.armedAtReset, mismatch := s.nv.pd0Mismatch, violation := s.nv.pd0Violation, key := s.run.key,
    powered := s.pwr.powered, position := s.pair.position, slot := s.ident.slot, selfTest := s.pair.selfTest,
    runtime := s.run.started, served := s.svpReady }

/-- The old-format copies, and objects that have one. -/
structure CopiedObjects where
  oldFormat : Option StoredCfg
  media : Vector Media 2
  home : Nat
  canCfg : Vector CanCfg 4
  trims : Vector Trim 8

/-- The copies of a module, and the objects in force. -/
def Rc8.copied (s : Rc8) : CopiedObjects :=
  { oldFormat := s.nv.oldFormat, media := s.nv.media, home := s.nv.home, canCfg := s.nv.canCfg, trims := s.nv.trims }

/-- The objects of old-format copies in force, with no copies left. -/
def StoredCfg.restored (c : StoredCfg) : CopiedObjects :=
  { oldFormat := none, media := c.media, home := c.home, canCfg := c.canCfg, trims := c.trims }

/-- What a start brings about. -/
structure StartOutcome where
  progress : StartProgress
  upd : Update
  copied : CopiedObjects

/-- The outcome so far on a module. -/
def Rc8.outcome (s : Rc8) : StartOutcome := { progress := s.progress, upd := s.nv.upd, copied := s.copied }

theorem raise_outcome (e : Ev) (s : Rc8) : (raise e s).outcome = s.outcome := by
  simp [Rc8.outcome, Rc8.progress, Rc8.copied]

/-- A choice between modules with one outcome has it. -/
theorem ite_outcome {c : Prop} [Decidable c] {a b s : Rc8} (ha : a.outcome = s.outcome) (hb : b.outcome = s.outcome) :
    (if c then a else b).outcome = s.outcome := by
  split
  · exact ha
  · exact hb

/-! ### Installation, trial and revert (18 R540 to R545) -/

/-- Reading the old-format copies is no progress, and the update stays. -/
theorem readOldFormat_leaves (s : Rc8) : (readOldFormat s).progress = s.progress ∧ (readOldFormat s).nv.upd = s.nv.upd := by
  unfold readOldFormat
  split <;> exact ⟨rfl, rfl⟩

/-- The old-format copies take force, once. -/
theorem readOldFormat_copied {s : Rc8} {c : StoredCfg} (copies : s.nv.oldFormat = some c) : (readOldFormat s).copied = c.restored := by
  simp [readOldFormat, copies, Rc8.copied, StoredCfg.restored, Nv.withConfigs, Rc8.resetWith]

/-- Without copies nothing is read. -/
theorem readOldFormat_none {s : Rc8} (none : s.nv.oldFormat = none) : readOldFormat s = s := by
  simp [readOldFormat, none]

/-- A revert that waits is taken; the update stays in its state. -/
theorem pendingRevert_leaves (s : Rc8) : (pendingRevert s).progress = s.progress ∧ (pendingRevert s).nv.upd.revert = [] ∧
    (pendingRevert s).nv.upd.st = s.nv.upd.st := by
  unfold pendingRevert
  split
  next empty => exact ⟨rfl, empty, rfl⟩
  · obtain ⟨progress, upd⟩ := readOldFormat_leaves
      (modUpd (fun u => { u with revert := [], result := 3 }) (revertSlots s.nv.upd.revert s))
    exact ⟨progress, by rw [upd]; rfl, by rw [upd]; rfl⟩

/-- A revert that waits reads the old-format copies. -/
theorem pendingRevert_copied {s : Rc8} {c : StoredCfg} (copies : s.nv.oldFormat = some c) (waits : s.nv.upd.revert ≠ []) :
    (pendingRevert s).copied = c.restored := by
  unfold pendingRevert
  rw [if_neg waits]
  exact readOldFormat_copied copies

/-- An update that is given up is IDLE; what waits to be reverted stays. -/
theorem giveUp_leaves (cause : Nat) (parts : List Nat) (s : Rc8) : (giveUp cause parts s).progress = s.progress ∧
    (giveUp cause parts s).nv.upd = { updateIdle s.nv.upd with result := 3 } := by
  have reverted : (updateReverted cause 1 (revertSlots parts.reverse s)).outcome = s.outcome := raise_outcome _ _
  unfold giveUp
  generalize updateReverted cause 1 (revertSlots parts.reverse s) = r at reverted ⊢
  obtain ⟨progress, upd⟩ := readOldFormat_leaves r
  have kept : r.nv.upd = s.nv.upd := congrArg StartOutcome.upd reverted
  exact ⟨progress.trans (congrArg StartOutcome.progress reverted), by rw [modUpd_nv, upd, kept]⟩

/-- An update that is given up reads the old-format copies. -/
theorem giveUp_copied {s : Rc8} (cause : Nat) (parts : List Nat) {c : StoredCfg} (copies : s.nv.oldFormat = some c) :
    (giveUp cause parts s).copied = c.restored :=
  readOldFormat_copied (s := updateReverted cause 1 (revertSlots parts.reverse s)) copies

/-- Without copies it leaves the objects. -/
theorem giveUp_uncopied {s : Rc8} (cause : Nat) (parts : List Nat) (none : s.nv.oldFormat = none) :
    (giveUp cause parts s).copied = s.copied := by
  have read : readOldFormat (updateReverted cause 1 (revertSlots parts.reverse s)) = _ := readOldFormat_none none
  unfold giveUp
  rw [read]
  rfl

theorem installPart_outcome (step : Nat) (m : ManEntry) (s : Rc8) : (installPart step m s).outcome = s.outcome := raise_outcome _ _

/-- The parts that are installed are no progress of the start, and the update stays. -/
theorem installParts_outcome (l : List ManEntry) : ∀ (step : Nat) (checks : List Bool) (done : List Nat) (s : Rc8),
    (installParts step checks l done s).2.2.outcome = s.outcome := by
  induction l with
  | nil => exact fun _ _ _ _ => rfl
  | cons m l ih =>
    intro step checks done s
    unfold installParts
    split
    · exact (ih ..).trans (installPart_outcome ..)
    · rfl

theorem settingsMigrated_leaves (x : StartReport) (s : Rc8) : (settingsMigrated x s).progress = s.progress ∧
    (settingsMigrated x s).nv.upd = { s.nv.upd with migrated := x.migrated } := by
  unfold settingsMigrated
  dsimp only
  split
  · exact ⟨rfl, rfl⟩
  · exact ⟨congrArg StartOutcome.progress (raise_outcome _ _), by simp⟩

theorem trialStarts_outcome (s : Rc8) : (trialStarts s).outcome = s.outcome := raise_outcome _ _

/-- An installation ends in a trial or is given up. -/
theorem install_leaves (x : StartReport) (s : Rc8) : (install x s).progress = s.progress ∧
    (install x s).nv.upd.revert = s.nv.upd.revert ∧ (install x s).nv.upd.st ≠ .armed := by
  have given : ∀ (parts : List Nat) (r : Rc8), r.outcome = s.outcome → (giveUp 3 parts r).progress = s.progress ∧
      (giveUp 3 parts r).nv.upd.revert = s.nv.upd.revert ∧ (giveUp 3 parts r).nv.upd.st ≠ .armed := fun parts r same => by
    obtain ⟨progress, upd⟩ := giveUp_leaves 3 parts r
    rw [upd, show r.nv.upd = s.nv.upd from congrArg StartOutcome.upd same]
    exact ⟨progress.trans (congrArg StartOutcome.progress same), rfl, by simp [updateIdle]⟩
  unfold install
  extract_lets r s1
  have installed : r.2.2.outcome = s.outcome := installParts_outcome ..
  split
  · exact given _ _ rfl
  · split
    · exact given _ _ installed
    · have started := trialStarts_outcome { s1 with nv := { s1.nv with oldFormat := some s1.nv.configs } }
      have trial : (trialStarts { s1 with nv := { s1.nv with oldFormat := some s1.nv.configs } }).nv.upd.st = .trial :=
        congrArg (·.upd.st) started
      generalize trialStarts { s1 with nv := { s1.nv with oldFormat := some s1.nv.configs } } = u at started trial ⊢
      obtain ⟨progress, upd⟩ := settingsMigrated_leaves x u
      rw [upd]
      exact ⟨progress.trans ((congrArg StartOutcome.progress started).trans (congrArg StartOutcome.progress installed)),
        (congrArg (·.upd.revert) started).trans (congrArg (·.upd.revert) installed), ne_of_eq_of_ne trial (by decide)⟩

/-- After a start no revert waits and no update is armed. -/
theorem updateStart_leaves (x : StartReport) (s : Rc8) : (updateStart x s).progress = s.progress ∧
    (updateStart x s).nv.upd.revert = [] ∧ (updateStart x s).nv.upd.st ≠ .armed := by
  obtain ⟨progress, revert, -⟩ := pendingRevert_leaves s
  unfold updateStart
  extract_lets r
  split
  · obtain ⟨installed, kept, unarmed⟩ := install_leaves x r
    exact ⟨installed.trans progress, kept.trans revert, unarmed⟩
  · split
    · obtain ⟨given, upd⟩ := giveUp_leaves 2 (manifestParts r) r
      exact ⟨given.trans progress, by rw [upd]; exact revert, by rw [upd]; simp [updateIdle]⟩
    next trial _ =>
      have starts := trialStarts_outcome (modUpd (fun u => { u with trial := u.trial + 1 }) r)
      exact ⟨(congrArg StartOutcome.progress starts).trans progress, (congrArg (·.upd.revert) starts).trans revert,
        ne_of_eq_of_ne ((congrArg (·.upd.st) starts).trans trial) (by decide)⟩
  next unarmed _ => exact ⟨progress, revert, unarmed⟩

/-- A start that reverts, at once or as the third trial start has passed, reads the old-format copies (18 R544). -/
theorem updateStart_copied {s : Rc8} {c : StoredCfg} (copies : s.nv.oldFormat = some c)
    (reverts : (s.nv.upd.revert ≠ [] ∧ s.nv.upd.st ≠ .armed) ∨ (s.nv.upd.st = .trial ∧ 3 ≤ s.nv.upd.trial)) (x : StartReport) :
    (updateStart x s).copied = c.restored := by
  by_cases waits : s.nv.upd.revert = []
  case pos =>
    obtain ⟨trial, third⟩ := reverts.resolve_left fun h => h.1 waits
    have still : pendingRevert s = s := if_pos waits
    simp only [updateStart, still, trial, third, if_true]
    exact giveUp_copied _ _ copies
  case neg =>
    obtain ⟨-, -, st⟩ := pendingRevert_leaves s
    have restored := pendingRevert_copied copies waits
    have unarmed : s.nv.upd.st ≠ .armed := by
      rcases reverts with h | h
      · exact h.2
      · simp [h.1]
    unfold updateStart
    extract_lets r
    split
    next armed => exact absurd (st.symm.trans armed) unarmed
    · split
      · exact (giveUp_uncopied _ _ (congrArg CopiedObjects.oldFormat restored)).trans restored
      · exact (congrArg StartOutcome.copied (trialStarts_outcome _)).trans restored
    · exact restored

/-! ### Bring-up (17 R519) -/

/-- What the recorder recovers is no outcome of the start. -/
theorem recRecover_outcome (s : Rc8) : (recRecover s).outcome = s.outcome := by
  unfold recRecover
  split
  · rfl
  · dsimp only
    split
    · rfl
    · exact raise_outcome _ _

/-- What PD0 recorded is reported once. -/
theorem raisePd0_outcome (s : Rc8) :
    (raisePd0 s).outcome = { s.outcome with progress := { s.outcome.progress with mismatch := none, violation := none } } := by
  unfold raisePd0
  extract_lets s1 s2
  have first : s1.outcome = s.outcome := by
    unfold s1
    split
    · rfl
    · exact raise_outcome _ _
  have second : s2.outcome = s.outcome := by
    unfold s2
    split
    · exact first
    · exact (raise_outcome _ _).trans first
  show { s2.outcome with progress := { s2.outcome.progress with mismatch := none, violation := none } } = _
  rw [second]

/-- A change that the reset met is reported once. -/
theorem abandonAtStart_outcome (s : Rc8) :
    (abandonAtStart s).outcome = { s.outcome with progress := { s.outcome.progress with armedAtReset := false } } := by
  unfold abandonAtStart
  split
  · exact raise_outcome _ _
  next unarmed => rw [← Bool.not_eq_true _ |>.mp unarmed]; rfl

/-- The position is read. -/
theorem readPosition_outcome (s : Rc8) :
    (readPosition s).outcome = { s.outcome with progress := { s.outcome.progress with position := s.outcome.progress.slot } } := by
  unfold readPosition
  dsimp only
  split
  · exact raise_outcome _ _
  · rfl

theorem startStep_outcome (k ms : Nat) (s : Rc8) : (startStep k ms s).outcome = s.outcome :=
  (raise_outcome _ _).trans (ite_outcome rfl rfl)

/-- The progress of a module whose bring-up has ended. -/
def StartProgress.broughtUp (p : StartProgress) (key : Key) : StartProgress :=
  { p with armedAtReset := false, mismatch := none, violation := none, key := key, powered := true, position := p.slot }

/-- A module that is on after its first two steps. -/
def Rc8.switchedOn (s : Rc8) (x : StartReport) : Rc8 :=
  passMs (x.steps[0] + x.steps[1]) { s with pwr := { s.pwr with powered := true }, run := { s.run with key := x.key } }

theorem switchedOn_outcome (s : Rc8) (x : StartReport) :
    (s.switchedOn x).outcome = { s.outcome with progress := { s.outcome.progress with key := x.key, powered := true } } := rfl

/-- A module that is on and has reported what was recorded. -/
def Rc8.reported (s : Rc8) (x : StartReport) : Rc8 :=
  abandonAtStart (raisePd0 (raise (startEvent (s.switchedOn x)) (recRecover (s.switchedOn x))))

/-- Nothing but progress has come about so far. -/
theorem reported_outcome (s : Rc8) (x : StartReport) : (s.reported x).outcome =
    { s.outcome with progress := { s.outcome.progress with armedAtReset := false, mismatch := none, violation := none,
                                                           key := x.key, powered := true } } := by
  unfold Rc8.reported
  have recovered := (raise_outcome (startEvent (s.switchedOn x)) _).trans ((recRecover_outcome _).trans (switchedOn_outcome s x))
  generalize raise (startEvent (s.switchedOn x)) (recRecover (s.switchedOn x)) = r at recovered ⊢
  rw [abandonAtStart_outcome, raisePd0_outcome, recovered]

/-- The bring-up ends with what its installation leaves, and the position as coded. -/
theorem bringUp_outcome (x : StartReport) (s : Rc8) : (bringUp x s).outcome =
    { progress := s.progress.broughtUp x.key, upd := (updateStart x (s.reported x)).nv.upd,
      copied := (updateStart x (s.reported x)).copied } := by
  have stepped : (bringUp x s).outcome = (readPosition (updateStart x (s.reported x))).outcome :=
    (startStep_outcome ..).trans ((startStep_outcome ..).trans (raise_outcome _ _))
  have progress : (updateStart x (s.reported x)).outcome.progress = (s.reported x).outcome.progress :=
    (updateStart_leaves x (s.reported x)).1
  rw [stepped, readPosition_outcome, progress, reported_outcome]
  rfl

/-! ### Self-test and runtime (08 R253; 11 R346, R360) -/

/-- The self-test is reported. -/
theorem selfTest_outcome (x : StartReport) (s : Rc8) :
    (selfTest x s).outcome = { s.outcome with progress := { s.outcome.progress with selfTest := x.selfTest } } := by
  have split : ∀ r : Rc8, (splitCheck r).outcome = r.outcome := fun r => ite_outcome (raise_outcome _ _) rfl
  exact (startStep_outcome ..).trans (split _)

/-- The replay of the journal is no outcome of the start. -/
theorem takeSwitch_outcome (s : Rc8) : (takeSwitch s).outcome = s.outcome := by
  unfold takeSwitch
  split
  · rfl
  · dsimp only
    split <;> rfl

theorem publishStops_outcome (s : Rc8) : (publishStops s).outcome = s.outcome := by
  unfold publishStops
  split <;> rfl

theorem codeRules_outcome (s : Rc8) : (codeRules s).outcome = s.outcome := rfl

/-- The runtime has started. -/
theorem startRuntime_outcome (s : Rc8) :
    (startRuntime s).outcome = { s.outcome with progress := { s.outcome.progress with runtime := true } } := by
  have replayed : (retainReplayed s).outcome = s.outcome := (raise_outcome _ _).trans (takeSwitch_outcome s)
  unfold startRuntime
  dsimp only
  generalize retainReplayed s = r at replayed ⊢
  refine (codeRules_outcome _).trans ((publishStops_outcome _).trans ?_)
  rw [← replayed]
  rfl

/-- The check of the stored plan is no outcome of the start. -/
theorem checkStoredPlan_outcome (s : Rc8) : (checkStoredPlan s).outcome = s.outcome := by
  have margins : ∀ (n : Fin 2) (r : Rc8), (updateMargins n r).outcome = r.outcome := fun n r => by
    unfold updateMargins
    split
    · rfl
    · dsimp only
      split
      · rfl
      · exact ite_outcome (raise_outcome _ _) rfl
  unfold checkStoredPlan
  extract_lets r
  have checked : r.outcome = s.outcome := (margins 1 _).trans (margins 0 s)
  split
  · exact checked
  · exact (raise_outcome _ _).trans checked

/-! ### The holds and the last steps (01 R38; 10 R335; 13 R430) -/

theorem netEvent_linksReady_outcome (n : Fin 2) (s : Rc8) : (netEvent n .linksReady s).outcome = s.outcome := by
  have went : (netGoto n .listen .linksReady s).outcome = s.outcome :=
    ite_outcome rfl ((raise_outcome _ _).trans (ite_outcome rfl rfl))
  unfold netEvent
  cases (s.net[n]).state
  case bypassed => exact went
  all_goals rfl

theorem setHold_outcome (n c : Fin 2) (on : Bool) (cause by_ : Nat) (s : Rc8) : (setHold n c on cause by_ s).outcome = s.outcome :=
  ite_outcome rfl (raise_outcome _ _)

theorem startAttach_outcome (n : Fin 2) (exec : Option Nat) (by_ : Nat) (s : Rc8) : (startAttach n exec by_ s).outcome = s.outcome := by
  unfold startAttach
  extract_lets k q s1
  have held : s1.outcome = s.outcome := ite_outcome (setHold_outcome ..) (setHold_outcome ..)
  exact ite_outcome ((netEvent_linksReady_outcome n s1).trans held) held

theorem attachAll_outcome (s : Rc8) : (attachAll s).outcome = s.outcome :=
  foldl_keeps Rc8.outcome _ (fun r n => startAttach_outcome n none 0xFF r) _ s

theorem setLoopHold_outcome (c : Fin 8) (on : Bool) (s : Rc8) : (setLoopHold c on s).outcome = s.outcome := rfl

theorem loopsHold_outcome (s : Rc8) : (loopsHold s).outcome = s.outcome :=
  foldl_keeps Rc8.outcome _ (fun r c => setLoopHold_outcome c _ r) _ s

theorem setPtpPort_outcome (e : Fin 2) (st : Nat) (s : Rc8) : (setPtpPort e st s).outcome = s.outcome :=
  ite_outcome rfl (raise_outcome _ _)

theorem ptpDecide_outcome (e : Fin 2) (kind : Nat) (content : List Byte) (s : Rc8) : (ptpDecide e kind content s).outcome = s.outcome := by
  unfold ptpDecide
  extract_lets d slave st s1 s2
  have first : s1.outcome = s.outcome := ite_outcome (setPtpPort_outcome ..) rfl
  have second : s2.outcome = s.outcome := ite_outcome ((setPtpPort_outcome ..).trans first) first
  exact ite_outcome second ((raise_outcome _ _).trans second)

theorem ptpRestart_outcome (s : Rc8) : (ptpRestart s).outcome = s.outcome := by
  unfold ptpRestart
  extract_lets off
  have disabled : off.outcome = s.outcome := foldl_keeps Rc8.outcome _ (fun r e => ite_outcome rfl (setPtpPort_outcome e 0 r)) _ s
  refine ite_outcome ?_ (ite_outcome disabled ((ptpDecide_outcome ..).trans disabled))
  exact (foldl_keeps Rc8.outcome _ (fun r e => ite_outcome (setPtpPort_outcome e 7 r) rfl) _ off).trans disabled

theorem stepsAdvance_outcome (s : Rc8) : (stepsAdvance s).outcome = s.outcome := by
  have ends : ∀ (k : Nat) (r : Rc8), (stepEnds k r).outcome = r.outcome := fun k r => ite_outcome (raise_outcome _ _) rfl
  have endsIf : ∀ (k : Nat) (c : Prop) [Decidable c] (r : Rc8), (if c then stepEnds k r else r).outcome = r.outcome :=
    fun k c _ r => ite_outcome (ends k r) rfl
  exact (endsIf ..).trans ((endsIf ..).trans (endsIf ..))

/-! ### The start (17 R519) -/

/-- A module whose SVP does not run, or that has started, ignores a start. -/
theorem moduleStart_ignored {s : Rc8} (x : StartReport) (h : s.svpReady = true ∨ svpRuns s = false) : moduleStart x s = s :=
  if_pos (by rcases h with h | h <;> simp [h])

theorem serviceReady_outcome (s : Rc8) :
    (serviceReady s).outcome = { s.outcome with progress := { s.outcome.progress with served := true } } := rfl

theorem startPrograms_outcome (x : StartReport) (s : Rc8) : (startPrograms x s).outcome = (startRuntime s).outcome := rfl

/-- A module that starts is brought up and tested, its runtime runs and its mailboxes are served. -/
theorem moduleStart_outcome {s : Rc8} (x : StartReport) (down : s.svpReady = false) (svp : svpRuns s = true) :
    (moduleStart x s).outcome =
      { progress := { s.progress.broughtUp x.key with selfTest := x.selfTest, runtime := true, served := true },
        upd := (updateStart x (s.reported x)).nv.upd, copied := (updateStart x (s.reported x)).copied } := by
  unfold moduleStart
  rw [if_neg (by simp [down, svp])]
  dsimp only
  rw [stepsAdvance_outcome, ptpRestart_outcome, loopsHold_outcome, attachAll_outcome, serviceReady_outcome, checkStoredPlan_outcome,
    startPrograms_outcome, startRuntime_outcome, selfTest_outcome, bringUp_outcome]

/-! ### The statement -/

/-- Settles O58: a reset is `Rc8.resetWith` over what is stored, and a start brings about `moduleStart_outcome`. -/
theorem resetAndStart : Obligations.ResetAndStart := by
  refine ⟨fun s => leads_of_act rfl ⟨rfl, rfl, rfl, rfl, ?armed⟩, fun s => leads_of_act rfl ⟨rfl, rfl, rfl⟩,
    fun s idle => ?idle, fun s due => leads_of_act rfl ?due, fun s r migrated oldFormat newFormat => ?start⟩
  case armed => simp [powerLost, moduleReset, storedAtReset, Rc8.resetWith, and_assoc]
  case idle => exact congrArg Host.Outcome.next (after_unchanged (by simp [updateRestart, idle]))
  case due =>
    obtain ⟨at_, due⟩ := Option.isSome_iff_exists.mp due
    have reset : updateRestart s.toRc8 = moduleReset 1 s.toRc8 := by simp [updateRestart, due]
    rw [State.after_toRc8, reset]
    exact ⟨rfl, rfl, rfl⟩
  case start =>
    have sent : exec (.moduleStart r) s = .next (s.after (moduleStart r)) :=
      actIf_eq (decide_eq_true ⟨migrated, oldFormat, newFormat⟩) _ _ s
    refine ⟨fun ignored => sent.trans (congrArg Host.Outcome.next (after_unchanged (moduleStart_ignored r ignored))),
      fun down svp => leads_of_exec sent ?starts, fun c down svp copies reverts => leads_of_exec sent ?reverted⟩
    case starts =>
      have outcome := moduleStart_outcome r down svp
      obtain ⟨-, revert, unarmed⟩ := updateStart_leaves r (s.reported r)
      have progress := congrArg StartOutcome.progress outcome
      have upd := congrArg StartOutcome.upd outcome
      exact ⟨congrArg StartProgress.served progress, congrArg StartProgress.key progress, congrArg StartProgress.runtime progress,
        congrArg StartProgress.selfTest progress, congrArg StartProgress.position progress, congrArg StartProgress.powered progress,
        congrArg StartProgress.armedAtReset progress, congrArg StartProgress.mismatch progress, congrArg StartProgress.violation progress,
        (congrArg Update.revert upd).trans revert, ne_of_eq_of_ne (congrArg Update.st upd) unarmed, moduleStart_rights r s.toRc8⟩
    case reverted =>
      have outcome := moduleStart_outcome r down svp
      have reported := reported_outcome s.toRc8 r
      have upd : (s.reported r).nv.upd = s.nv.upd := congrArg StartOutcome.upd reported
      have restored := (congrArg StartOutcome.copied outcome).trans
        (updateStart_copied ((congrArg (·.copied.oldFormat) reported).trans copies) (by rw [upd]; exact reverts) r)
      exact ⟨congrArg CopiedObjects.oldFormat restored, congrArg CopiedObjects.media restored, congrArg CopiedObjects.home restored,
        congrArg CopiedObjects.canCfg restored, congrArg CopiedObjects.trims restored⟩

end Sys2Proof.Machine
end

section
/-! SUPPORT. What the shared operations of the pair leave: messages on the link, readiness judged anew, a resync that starts, and a partner
that comes or goes (10 R306, R308, R318, R326, R336). -/

namespace Sys2Proof.Machine

open Sys2Proof

/-! ### What changes the pair alone -/

/-- A module with its pair, and what events and messages write, taken from another one. -/
def Rc8.withPair (s t : Rc8) : Rc8 :=
  { s with hp := t.hp, rcd := t.rcd, limits := t.limits, out := t.out, pair := t.pair, nv := { s.nv with recLog := t.nv.recLog } }

/-- The second module is the first but for what events and messages write, and for its pair, of which a part is as it was. -/
def PairKeeps {β : Type} (part : Pair → β) (s t : Rc8) : Prop := t = s.withPair t ∧ part t.pair = part s.pair

namespace PairKeeps
variable {β : Type} {part : Pair → β} {s t u : Rc8}

theorem refl : PairKeeps part s s := ⟨rfl, rfl⟩
theorem trans (h : PairKeeps part s t) (g : PairKeeps part t u) : PairKeeps part s u :=
  ⟨g.1.trans (congrArg (·.withPair u) h.1), g.2.trans h.2⟩
theorem ite {c : Prop} [Decidable c] (h : PairKeeps part s t) (g : PairKeeps part s u) : PairKeeps part s (if c then t else u) := by
  split
  · exact h
  · exact g
theorem foldl {α : Type} {g : Rc8 → α → Rc8} (h : ∀ s x, PairKeeps part s (g s x)) (l : List α) (s : Rc8) : PairKeeps part s (l.foldl g s) := by
  induction l generalizing s with
  | nil => exact .refl
  | cons x l ih => exact (h s x).trans (ih _)
/-- A part of what is kept is kept. -/
theorem mono {γ : Type} {less : Pair → γ} (h : PairKeeps part s t) (f : β → γ) (hf : ∀ q, less q = f (part q)) : PairKeeps less s t :=
  ⟨h.1, (hf _).trans ((congrArg f h.2).trans (hf _).symm)⟩
theorem pair (h : PairKeeps part s t) : part t.pair = part s.pair := h.2
theorem field {γ : Type} (f : Rc8 → γ) (h : PairKeeps part s t) : f t = f (s.withPair t) := congrArg f h.1

section parts
variable (h : PairKeeps part s t)
include h
theorem clk : t.clk = s.clk := h.field Rc8.clk
theorem rnd : t.rnd = s.rnd := h.field Rc8.rnd
theorem run : t.run = s.run := h.field Rc8.run
theorem net : t.net = s.net := h.field Rc8.net
theorem execs : t.execs = s.execs := h.field Rc8.execs
theorem banks : t.nv.banks = s.nv.banks := h.field (·.nv.banks)
theorem parts : t.nv.parts = s.nv.parts := h.field (·.nv.parts)
end parts

end PairKeeps

variable {β : Type} {part : Pair → β}
theorem pairKeeps_modPair {f : Pair → Pair} {s : Rc8} (h : part (f s.pair) = part s.pair) : PairKeeps part s (modPair f s) := ⟨rfl, h⟩
theorem pairKeeps_raise (e : Ev) (s : Rc8) : PairKeeps part s (raise e s) := ⟨rfl, rfl⟩

/-! ### Messages on the link (10 R308) -/

/-- A pair without what its link counts of the messages sent. -/
def Pair.unsent (q : Pair) : Pair := { q with plk := { q.plk with tx := [], awaiting := [], lastTx := 0 } }

theorem plkSend_keeps (k g : Nat) (b : PlkBody) (s : Rc8) : PairKeeps Pair.unsent s (plkSend k g b s) := by
  have message : ∀ (k g : Nat) (b : PlkBody) (s : Rc8), PairKeeps Pair.unsent s (plkMessage k g b s) := fun _ _ _ _ => ⟨rfl, rfl⟩
  unfold plkSend
  split
  · exact (message ..).trans (.foldl (fun r i => message ..) ..)
  · exact .refl
theorem sendItems_keeps (l : List CopyItem) (s : Rc8) : PairKeeps Pair.unsent s (sendItems l s) := .foldl (fun r _ => plkSend_keeps _ _ _ r) l s

/-! ### Readiness judged anew (10 R318, R328, R335) -/

/-- A pair without what readiness that is judged anew may change: the token, the insertion steps and the settle time. -/
def Pair.unready (q : Pair) : Pair :=
  { q with token := .standby, step := 0, stepFrom := 0, stepFailed := 0, settleFrom := none, reclaim := false }

theorem stepEnds_keeps (k : Nat) (s : Rc8) : PairKeeps Pair.unready s (stepEnds k s) := .ite ((pairKeeps_modPair rfl).trans (pairKeeps_raise ..)) .refl
theorem stepsAdvance_keeps (s : Rc8) : PairKeeps Pair.unready s (stepsAdvance s) := by
  have endsIf : ∀ (k : Nat) (c : Prop) [Decidable c] (r : Rc8), PairKeeps Pair.unready r (if c then stepEnds k r else r) :=
    fun k c _ r => .ite (stepEnds_keeps k r) .refl
  exact (endsIf ..).trans ((endsIf ..).trans (endsIf ..))
theorem settle_keeps (s : Rc8) : PairKeeps Pair.unready s (settle s) := pairKeeps_modPair rfl
theorem gainReady_keeps (s : Rc8) : PairKeeps Pair.unready s (gainReady s) :=
  (pairKeeps_modPair rfl).trans ((pairKeeps_raise ..).trans ((stepEnds_keeps 8 _).trans (settle_keeps _)))
theorem loseReady_keeps (s : Rc8) : PairKeeps Pair.unready s (loseReady s) :=
  (pairKeeps_modPair rfl).trans ((pairKeeps_raise ..).trans (settle_keeps _))
theorem updateReady_keeps (s : Rc8) : PairKeeps Pair.unready s (updateReady s) := by
  unfold updateReady
  extract_lets r
  have advanced : PairKeeps Pair.unready s r := .ite (stepsAdvance_keeps s) .refl
  refine advanced.trans ?_
  clear_value r
  split
  · exact .ite (gainReady_keeps r) .refl
  · exact .ite (loseReady_keeps r) .refl
  · exact .refl

/-! ### A resync that starts (10 R326, R327, R336) -/

/-- A pair without what a resync that starts may change: the resync itself, whether the standby is synchronised, whether the items of the two
modules are equal, and what the link counts. -/
def Pair.unsynced (q : Pair) : Pair :=
  { q.unsent with synced := false, resyncs := 0, resync := Resync.reset, partner := { q.partner with equalItems := false } }

theorem PairKeeps.unsynced {s t : Rc8} (h : PairKeeps Pair.unsent s t) : PairKeeps Pair.unsynced s t := h.mono Pair.unsynced fun _ => rfl

theorem sendTransfer_keeps (s : Rc8) : PairKeeps Pair.unsynced s (sendTransfer s) :=
  .ite ((sendItems_keeps ..).unsynced.trans (pairKeeps_modPair rfl)) .refl
theorem copyPass_keeps (s : Rc8) : PairKeeps Pair.unsynced s (copyPass s) := (pairKeeps_modPair rfl).trans (sendItems_keeps ..).unsynced
theorem firstPass_keeps (s : Rc8) : PairKeeps Pair.unsynced s (firstPass s) := .ite .refl ((sendTransfer_keeps s).trans (copyPass_keeps _))
theorem startResync_keeps (cause : Nat) (s : Rc8) : PairKeeps Pair.unsynced s (startResync cause s) := by
  have desynced : PairKeeps Pair.unsynced s (if isStandby s then modPair (fun q => { q with synced := false }) s else s) :=
    .ite (pairKeeps_modPair rfl) .refl
  exact desynced.trans (.ite ((pairKeeps_modPair rfl).trans ((pairKeeps_raise ..).trans (firstPass_keeps _))) (pairKeeps_modPair rfl))

end Sys2Proof.Machine
end

section
/-! SUPPORT. Planned crossovers, the home module, resyncs asked for and insertion steps that take too long, and the statement about them (10
R327, R332, R333, R335, R339, R341, R342). -/

namespace Sys2Proof.Machine

open Sys2Proof

/-! ### Requests for a planned crossover (10 R331, R332, R339) -/

/-- A request waits with its limit, or has its round fixed at once. -/
theorem requestHandover_asks (by_ : HandBy) (notBefore ms : Nat) (s : Rc8) : ∃ round, requestHandover by_ notBefore ms s =
    modPair (fun q => { q with hand := some { by_ := by_, notBefore := notBefore, waitEnd := s.clk.refosc + ms * 1000000, round := round,
                                              confirmed := false, committed := false } }) s := by
  unfold requestHandover fixHandover
  simp only [modPair_pair]
  split
  · exact ⟨none, rfl⟩
  · exact ⟨_, rfl⟩

/-- CROSSOVER_REQUEST's limit. -/
def waitLimit (r : List Byte) : Nat := if u32At r 8 = 0 then 30000 else u32At r 8

theorem crossoverRequest_asks {e : Exec} {s : Rc8} (free : s.pair.hand = none) :
    crossoverRequest e s = requestHandover (.command e.id) (u64At e.req 0) (waitLimit e.req) (pendNow e s) := if_neg (by simp [free])

/-- A command's request that is abandoned ends its command. -/
theorem abandonHand_command {s : Rc8} {h : Handover} {id : Nat} (asked : s.pair.hand = some h) (by_ : h.by_ = .command id) (cause : Nat)
    (st : Status) : (abandonHand cause st s).pair = { s.pair with hand := none } ∧
    (abandonHand cause st s).execs = s.marked id (.ended st []) ∧ (abandonHand cause st s).clk = s.clk := by
  unfold abandonHand endHand
  rw [asked]
  simp only [by_, raise_pair, raise_execs, raise_clk, modPair_pair, modPair_execs, modPair_clk, endWith_eq]
  exact ⟨rfl, rfl, rfl⟩

/-- A request whose round is not fixed ends at its limit. -/
theorem crossoverWaitLimit_ends {s : Rc8} {h : Handover} (asked : s.pair.hand = some h) (waits : h.round = none) :
    crossoverWaitLimit s = abandonHand 1 .tooLate (atRefosc h.waitEnd s) := by
  unfold crossoverWaitLimit
  rw [asked]
  exact if_neg (by simp [waits])

/-! ### The home module (10 R333, R341) -/

/-- The home setting is stored, and a new one restarts the settle time. -/
theorem effSetHome_stores (r : List Byte) (s : Rc8) : (effSetHome r s).nv.home = u8At r 0 ∧
    (effSetHome r s).nv.settle = (if u16At r 2 = 0 then s.nv.settle else u16At r 2) ∧
    (u8At r 0 ≠ s.nv.home → (effSetHome r s).pair.reclaim = false) ∧ (effSetHome r s).execs = s.execs := by
  unfold effSetHome
  extract_lets settleTime
  split
  case isTrue same => exact ⟨same.1.symm, same.2.symm, fun new => absurd same.1 new, rfl⟩
  case isFalse => exact ⟨rfl, rfl, fun _ => rfl, rfl⟩

/-- HOME_CHANGED leaves what is stored, the pair and the commands. -/
theorem ownSetHome_stores (port : Nat) (r : List Byte) (s : Rc8) : (ownSetHome port r s).nv.home = u8At r 0 ∧
    (ownSetHome port r s).nv.settle = (if u16At r 2 = 0 then s.nv.settle else u16At r 2) ∧
    (u8At r 0 ≠ s.nv.home → (ownSetHome port r s).pair.reclaim = false) ∧ (ownSetHome port r s).execs = s.execs :=
  effSetHome_stores r s

/-- After the settle time a ready home module asks for the token. -/
theorem homeReclaim_asks {s : Rc8} {t : Nat} (settling : s.pair.settleFrom = some t) (ready : s.pair.token = .standbyReady) :
    homeReclaim s = modPair (fun q => { q with reclaim := true, settleFrom := none }) (atRefosc (t + s.nv.settle * 1000000000) s) := by
  simp [homeReclaim, settling, ready]

/-! ### Resyncs (10 R326, R327, R342) -/

/-- The first pass of a copy changes of the resync what has been copied. -/
theorem sendTransfer_resync (s : Rc8) : (sendTransfer s).pair.resync = s.pair.resync := by
  unfold sendTransfer
  split
  · have items := congrArg Pair.resync (sendItems_keeps (transferItems s) s).pair
    exact items
  · rfl
theorem firstPass_resync (s : Rc8) : (firstPass s).pair.resync = { s.pair.resync with sent := (firstPass s).pair.resync.sent } := by
  unfold firstPass copyPass
  split
  · rfl
  · extract_lets l
    have items := congrArg Pair.resync (sendItems_keeps (l.filter fun i => !(sendTransfer s).pair.resync.sent.contains i)
      (modPair (fun q => { q with resync := { q.resync with sent := l } }) (sendTransfer s))).pair
    have copied := items.trans (congrArg (fun x => { x with sent := l }) (sendTransfer_resync s))
    exact copied.trans (congrArg (fun l => { s.pair.resync with sent := l }) (congrArg Resync.sent copied).symm)

/-- A resync that starts is of its cause, and runs where a copy may. -/
theorem startResync_cause (cause : Nat) (s : Rc8) :
    (startResync cause s).pair.resync.cause = cause ∧ (startResync cause s).pair.resync.running = copyAllowed s := by
  unfold startResync
  extract_lets s0
  split
  case isTrue allowed =>
    rw [firstPass_resync]
    exact ⟨rfl, allowed.symm⟩
  case isFalse refused => exact ⟨rfl, (Bool.eq_false_iff.2 refused).symm⟩

/-- PAIR_RESYNC starts a resync that waits for its end. -/
theorem pairResync_starts {e : Exec} {s : Rc8} (idle : s.pair.resync.running = false) :
    pairResync e s = modPair (fun q => { q with resync := { q.resync with exec := some e.id } }) (startResync 4 (pendNow e s)) := by
  simp [pairResync, idle]

/-- Whether a copy may run is a matter of the pair and the firmware. -/
theorem copyAllowed_congr {s t : Rc8} (pair : t.pair = s.pair) (parts : t.nv.parts = s.nv.parts) : copyAllowed t = copyAllowed s := by
  simp [copyAllowed, pairLevel, pair, parts]

/-! ### Insertion steps (10 R335) -/

/-- A step that is not the one in order does not end. -/
theorem stepEnds_other {k : Nat} {s : Rc8} (h : s.pair.step ≠ k) : stepEnds k s = s := if_neg h

/-- A module whose step goes on: joining while a network is not joined, the resync while it is not synchronised. -/
def Rc8.stepGoesOn (s : Rc8) : Prop :=
  (s.pair.step = 4 ∧ ∃ n ∈ nets s, (s.net[n]).state ≠ .joined) ∨ (s.pair.step = 7 ∧ s.pair.synced = false) ∨ s.pair.step = 0

theorem stepsAdvance_goesOn {s : Rc8} (h : s.stepGoesOn) : stepsAdvance s = s := by
  have joining : ¬ (s.pair.step = 4 ∧ (nets s).all (fun n => (s.net[n]).state == .joined) = true) := by
    rintro ⟨step, all⟩
    rcases h with ⟨-, n, mem, waits⟩ | ⟨other, -⟩ | other
    · exact waits (by simpa using List.all_eq_true.1 all n mem)
    · omega
    · omega
  have six : ¬ s.pair.step = 6 := by rcases h with ⟨step, -⟩ | ⟨step, -⟩ | step <;> omega
  have seven : ¬ (s.pair.step = 7 ∧ s.pair.synced = true) := by
    rintro ⟨step, synced⟩
    rcases h with ⟨other, -⟩ | ⟨-, waits⟩ | other
    · omega
    · simp [waits] at synced
    · omega
  unfold stepsAdvance
  simp only [if_neg joining, six, false_and, if_false, if_neg seven]

/-- Readiness judged anew leaves a step that goes on, and the bits of steps that took too long. -/
theorem updateReady_goesOn {s : Rc8} (h : s.stepGoesOn) : (updateReady s).pair.stepFailed = s.pair.stepFailed := by
  have eight : s.pair.step ≠ 8 := by rcases h with ⟨step, -⟩ | ⟨step, -⟩ | step <;> omega
  have advanced : (if isStandby s then stepsAdvance s else s) = s := by rw [stepsAdvance_goesOn h, ite_self]
  have gained : (gainReady s).pair.stepFailed = s.pair.stepFailed := by
    unfold gainReady
    extract_lets r
    rw [stepEnds_other (s := raise _ r) eight]
    rfl
  unfold updateReady
  simp only [advanced]
  split
  · split
    · exact gained
    · rfl
  · split <;> rfl
  · rfl

/-- A step that reaches its maximum sets its bit, at its time. -/
theorem insertionTimeout_sets {s : Rc8} {x : Nat × Nat} (standby : isStandby s = true) (due : firstStep (stepsDue s) = some x)
    (h : s.stepGoesOn) : (insertionTimeout s).pair.stepFailed = s.pair.stepFailed ||| stepBit x.2 ∧
    x.1 ≤ (insertionTimeout s).clk.refosc := by
  unfold insertionTimeout
  rw [due]
  simp only [standby, if_true]
  refine ⟨updateReady_goesOn h, ?_⟩
  rw [(updateReady_keeps _).clk]
  exact le_atRefosc ..

/-- With no step due nothing happens. -/
theorem insertionTimeout_none {s : Rc8} (h : stepsDue s = []) : insertionTimeout s = s := by
  unfold insertionTimeout
  rw [h]
  rfl

/-- The step in order is the only one due, unless its bit stands already. -/
theorem stepsDue_inOrder {s : Rc8} (alone : s.pair.training = none) (k : s.pair.step = 4 ∨ s.pair.step = 6 ∨ s.pair.step = 7) :
    stepsDue s = if s.pair.stepFailed &&& stepBit s.pair.step = 0 then [(s.pair.stepFrom + stepMaximum s.pair.step, s.pair.step)] else [] := by
  simp [stepsDue, alone, k, List.filter_cons]

/-- Link training is the only one due. -/
theorem stepsDue_training {s : Rc8} {t : Nat} (training : s.pair.training = some t) (step : s.pair.step = 0)
    (clear : s.pair.stepFailed &&& 2 ^ 10 = 0) : stepsDue s = [(t + 100000000, 5)] := by
  have free : s.pair.stepFailed &&& 1024 = 0 := clear
  simp [stepsDue, training, step, stepMaximum, stepBit, free]

/-- A bit that stands stays. -/
theorem or_two_pow_of_and_ne_zero {n k : Nat} (h : n &&& 2 ^ k ≠ 0) : n ||| 2 ^ k = n := by
  have bit : n.testBit k = true := by
    by_contra clear
    exact h (by simp [Nat.and_two_pow, Bool.eq_false_iff.2 clear])
  apply Nat.eq_of_testBit_eq
  intro j
  rw [Nat.testBit_or, Nat.testBit_two_pow]
  by_cases same : k = j
  · subst same
    simp [bit]
  · simp [same]

/-! ### The statement -/

/-- Settles O43: requests by `requestHandover_asks`, PAIR_RESYNC by `startResync_cause`, and a step's bit by `insertionTimeout_sets`. -/
theorem crossoverHomeResync : Obligations.CrossoverHomeResync := by
  intro s p m e
  refine ⟨fun found free => leads_of_exec (act_runCmd found rfl) ?request,
    fun h id asked waits by_ => leads_of_act rfl ?limit,
    fun found alone => leads_of_exec (act_runCmd found rfl) ?home,
    fun found idle => leads_of_exec (act_runCmd found rfl) ?resync,
    fun t0 settling ready => leads_of_act rfl ?reclaim,
    fun running holder => act_eq_of_eq (if_pos ⟨running, holder⟩),
    fun standby alone four waits => leads_of_act rfl ?joining,
    fun standby alone seven unsynced clear => leads_of_act rfl ?resyncStep,
    fun t0 standby training zero clear => leads_of_act rfl ?training⟩
  case request =>
    obtain ⟨round, asks⟩ := requestHandover_asks (.command e.id) (u64At e.req 0) (waitLimit e.req) (pendNow e s.toRc8)
    rw [State.after_toRc8, crossoverRequest_asks free, asks]
    refine ⟨⟨_, rfl, rfl, rfl, ?_⟩, ?_, ?_⟩
    · rw [pendNow_clk]
      rfl
    · simp
    · simp [pendNow_execs]
  case limit =>
    rw [State.after_toRc8, crossoverWaitLimit_ends asked waits]
    obtain ⟨pair, execs, clk⟩ := abandonHand_command (s := atRefosc h.waitEnd s.toRc8) asked by_ 1 .tooLate
    rw [pair, execs, clk]
    exact ⟨rfl, rfl, le_atRefosc .., rfl⟩
  case home =>
    obtain ⟨home, settleTime, reclaim, execs⟩ := ownSetHome_stores e.port.val e.req s.toRc8
    have row : setHome true e s.toRc8 = (ownSetHome e.port.val e.req s.toRc8).ended e.id .done [] := pairStore_now alone false
    rw [State.after_toRc8, row]
    exact ⟨home, settleTime, reclaim, congrArg (List.map _) execs⟩
  case resync =>
    have keeps := startResync_keeps 4 (pendNow e s.toRc8)
    obtain ⟨cause, running⟩ := startResync_cause 4 (pendNow e s.toRc8)
    rw [State.after_toRc8, pairResync_starts idle]
    refine ⟨cause, rfl, running.trans (copyAllowed_congr (by simp) (by simp)), ?_, keeps.execs.trans (pendNow_execs ..)⟩
    have token := congrArg Pair.token keeps.pair
    rw [pendNow_pair] at token
    exact token
  case reclaim =>
    rw [State.after_toRc8, homeReclaim_asks settling ready, modPair_pair, modPair_clk, atRefosc_pair]
    exact ⟨rfl, le_atRefosc ..⟩
  case joining =>
    have due := stepsDue_inOrder alone (.inl four)
    rw [four] at due
    rw [State.after_toRc8]
    split at due
    case isTrue => exact (insertionTimeout_sets standby (congrArg firstStep due) (.inl ⟨four, waits⟩)).1
    case isFalse stands => rw [insertionTimeout_none due, or_two_pow_of_and_ne_zero stands]
  case resyncStep =>
    have due := stepsDue_inOrder alone (.inr (.inr seven))
    rw [seven, if_pos (by exact clear)] at due
    exact insertionTimeout_sets standby (congrArg firstStep due) (.inr (.inl ⟨seven, unsynced⟩))
  case training =>
    exact insertionTimeout_sets standby (congrArg firstStep (stepsDue_training training zero clear)) (.inr (.inr zero))

end Sys2Proof.Machine
end

section
/-! SUPPORT. A partner that comes or goes, lease records and answers, and the statement about them (10 R306, R312, R314, R318, R331). -/

namespace Sys2Proof.Machine

open Sys2Proof

/-! ### A partner that comes or goes (10 R306) -/

/-- What a partner's presence is about: the pair, the time, and the firmware that the levels are read from. -/
def Rc8.footing (s : Rc8) : Pair × Clock × Rounds × Vector FwSlots 6 := (s.pair, s.clk, s.rnd, s.nv.parts)

theorem loopsSettle_footing (s : Rc8) : (loopsSettle s).footing = s.footing :=
  foldl_keeps Rc8.footing _ (fun r c => by split <;> rfl) _ s
theorem compareKeys_footing (s : Rc8) : (compareKeys s).footing = s.footing := by
  unfold compareKeys
  dsimp only
  split
  · split
    · rfl
    · split <;> rfl
  · rfl
theorem partnerPresent_footing (path : Nat) (s : Rc8) : (partnerPresent path s).footing =
    ({ s.pair with partner := { s.pair.partner with present := true } }, s.clk, s.rnd, s.nv.parts) := by
  unfold partnerPresent
  split
  case isTrue present =>
    rw [← present]
    rfl
  case isFalse => exact (compareKeys_footing _).trans (loopsSettle_footing _)
theorem partnerAbsent_footing (s : Rc8) : (partnerAbsent s).footing = if s.pair.partner.present
    then ({ s.pair with partner := { s.pair.partner with present := false, role := 0, inelig := 0xFFFF } }, s.clk, s.rnd, s.nv.parts)
    else s.footing := by
  unfold partnerAbsent
  split
  · exact (compareKeys_footing _).trans (loopsSettle_footing _)
  · rfl

/-- Lease traffic in the management window makes the partner present, and is heard there. -/
theorem windowPresence_window (s : Rc8) : (windowPresence .window s).footing =
    ({ s.pair with partner := { s.pair.partner with present := true, heard := some s.rnd.round } }, s.clk, s.rnd, s.nv.parts) :=
  partnerPresent_footing 2 _

/-- A turned key of the partner leaves the pair and the time. -/
theorem partnerKey_leaves (k : Nat) (s : Rc8) :
    (partnerKey k s).pair = s.pair ∧ (partnerKey k s).clk = s.clk ∧ (partnerKey k s).rnd = s.rnd := by
  unfold partnerKey
  split
  · have turning := endSessions_turning 3 s
    simp only [Rc8.turning, Prod.mk.injEq] at turning
    exact turning.2.2
  · exact ⟨rfl, rfl, rfl⟩

/-! ### Lease records on the standby (10 R314, R318) -/

/-- A record's epoch is never newer than itself. -/
theorem newerEpoch_self (e : Nat) : newerEpoch e e = false := by
  simp [newerEpoch]

/-- The highest epoch seen is no part of the pair. -/
theorem seeEpoch_leaves (e : Nat) (s : Rc8) : (seeEpoch e s).pair = s.pair ∧ (seeEpoch e s).clk = s.clk ∧ (seeEpoch e s).rnd = s.rnd := by
  unfold seeEpoch
  split <;> exact ⟨rfl, rfl, rfl⟩

/-- What a renewal leaves of a standby: its timer, its epoch, the round of the renewal, what is known of the partner, and its token. -/
structure Renewed (r : LeaseRec) (s t : Rc8) : Prop where
  leaseEnd : t.pair.leaseEnd = s.clk.refosc + 40 * standbyCycles s.rnd.period
  epoch : t.pair.epoch = r.epoch
  lastRenewal : t.pair.lastRenewal = fullRound r.round s
  partner : t.pair.partner = s.pair.partner
  token : t.pair.token = s.pair.token

theorem standbyRenewal_renews {r : LeaseRec} (s : Rc8) (renew : r.kind = .renew) : Renewed r s (standbyRenewal r s) := by
  unfold standbyRenewal
  rw [renew]
  dsimp only
  split <;> exact ⟨rfl, rfl, rfl, rfl, rfl⟩

/-- A standby takes a renewal of its own epoch. -/
theorem renewalRecord_standby {r : LeaseRec} {s : Rc8} (seen : Nat) (standby : isStandby s = true) (epoch : r.epoch = s.pair.epoch) :
    renewalRecord seen r s = standbyRenewal r s := by
  have planned : unplannedTaken r s = s := by
    unfold unplannedTaken
    split
    · exact if_neg (by simp [epoch, newerEpoch_self])
    · rfl
  unfold renewalRecord
  rw [planned]
  cases token : s.pair.token
  case standby => exact if_pos (.inl epoch)
  case standbyReady => exact if_pos (.inl epoch)
  all_goals simp [isStandby, token] at standby

/-- Lease traffic on either path tells at most of the partner's presence. -/
theorem windowPresence_footing (path : PairPath) (s : Rc8) : ∃ present heard, (windowPresence path s).footing =
    ({ s.pair with partner := { s.pair.partner with present := present, heard := heard } }, s.clk, s.rnd, s.nv.parts) := by
  cases path
  case pairLink => exact ⟨s.pair.partner.present, s.pair.partner.heard, rfl⟩
  case window => exact ⟨true, some s.rnd.round, windowPresence_window s⟩

/-- A module that has taken what a lease record says of its sender. -/
def recordHeard (path : PairPath) (r : LeaseRec) (s : Rc8) : Rc8 :=
  seeEpoch r.epoch (windowPresence path
    (modPair (fun q => { q with partner := { q.partner with position := r.position, key := r.key, mode := r.mode } }) (partnerKey r.key s)))

theorem recordHeard_leaves (path : PairPath) (r : LeaseRec) (s : Rc8) : (recordHeard path r s).pair.token = s.pair.token ∧
    (recordHeard path r s).pair.epoch = s.pair.epoch ∧ (recordHeard path r s).pair.partner.position = r.position ∧
    (recordHeard path r s).pair.partner.key = r.key ∧ (recordHeard path r s).clk = s.clk ∧ (recordHeard path r s).rnd = s.rnd := by
  unfold recordHeard
  generalize told : modPair (fun q => { q with partner := { q.partner with position := r.position, key := r.key, mode := r.mode } })
    (partnerKey r.key s) = u
  obtain ⟨pair, clk, rnd⟩ := partnerKey_leaves r.key s
  have uPair : u.pair = { s.pair with partner := { s.pair.partner with position := r.position, key := r.key, mode := r.mode } } := by
    rw [← told, modPair_pair, pair]
  have uClk : u.clk = s.clk := by rw [← told, modPair_clk, clk]
  have uRnd : u.rnd = s.rnd := by rw [← told, modPair_rnd, rnd]
  obtain ⟨present, heard, footing⟩ := windowPresence_footing path u
  simp only [Rc8.footing, Prod.mk.injEq] at footing
  obtain ⟨vPair, vClk, vRnd, -⟩ := footing
  obtain ⟨seenPair, seenClk, seenRnd⟩ := seeEpoch_leaves r.epoch (windowPresence path u)
  rw [seenPair, seenClk, seenRnd, vPair, vClk, vRnd, uPair, uClk, uRnd]
  exact ⟨rfl, rfl, rfl, rfl, rfl, rfl⟩

/-- The standby's answer to a record is sent over the pair link. -/
def answerRecord (path : PairPath) (r : LeaseRec) (s : Rc8) : Rc8 :=
  if isStandby s && r.kind != .claim && r.kind != .release && path == .pairLink
    then plkSend 0x01 0 (.lease (.answer (leaseAnswer r s))) s else s

theorem answerRecord_keeps (path : PairPath) (r : LeaseRec) (s : Rc8) : PairKeeps Pair.unsent s (answerRecord path r s) :=
  .ite (plkSend_keeps ..) .refl

/-- A renewal of the standby's epoch is kept, and answered. -/
theorem recordReceived_renews {path : PairPath} {r : LeaseRec} {s : Rc8} (renew : r.kind = .renew) (standby : isStandby s = true)
    (epoch : r.epoch = s.pair.epoch) :
    recordReceived path r s = answerRecord path r (compareKeys (standbyRenewal r (recordHeard path r s))) := by
  obtain ⟨token, epoch', -⟩ := recordHeard_leaves path r s
  have taken := renewalRecord_standby s.nv.highestEpoch ((isStandby_of_token token).trans standby) (epoch.trans epoch'.symm)
  rw [← taken]
  unfold recordReceived answerRecord
  rw [renew]
  rfl

theorem recordReceived_standby (path : PairPath) {r : LeaseRec} {s : Rc8} (renew : r.kind = .renew) (standby : isStandby s = true)
    (epoch : r.epoch = s.pair.epoch) : (recordReceived path r s).pair.leaseEnd = s.clk.refosc + 40 * standbyCycles s.rnd.period ∧
    (recordReceived path r s).pair.epoch = r.epoch ∧ (recordReceived path r s).pair.lastRenewal = fullRound r.round s ∧
    (recordReceived path r s).pair.partner.position = r.position ∧ (recordReceived path r s).pair.partner.key = r.key ∧
    (recordReceived path r s).pair.token = s.pair.token := by
  rw [recordReceived_renews renew standby epoch]
  obtain ⟨token, -, position, key, clk, rnd⟩ := recordHeard_leaves path r s
  have renewed := standbyRenewal_renews (recordHeard path r s) renew
  obtain ⟨-, -, -, compared⟩ := compareKeys_kept (standbyRenewal r (recordHeard path r s))
  have answered := (answerRecord_keeps path r (compareKeys (standbyRenewal r (recordHeard path r s)))).pair
  rw [compared] at answered
  generalize answerRecord path r _ = t at answered ⊢
  have round : fullRound r.round (recordHeard path r s) = fullRound r.round s := by simp only [fullRound, rnd]
  have leaseEnd := renewed.leaseEnd
  rw [clk, rnd] at leaseEnd
  have partner := (congrArg Pair.partner answered).trans renewed.partner
  exact ⟨(congrArg Pair.leaseEnd answered).trans leaseEnd, (congrArg Pair.epoch answered).trans renewed.epoch,
    (congrArg Pair.lastRenewal answered).trans (renewed.lastRenewal.trans round), (congrArg Partner.position partner).trans position,
    (congrArg Partner.key partner).trans key, (congrArg Pair.token answered).trans (renewed.token.trans token)⟩

/-! ### Lease answers at the holder (10 R312, R331) -/

/-- A holder that has taken what a lease answer in the window says of its sender. -/
def answerHeard (a : LeaseAns) (s : Rc8) : Rc8 :=
  compareKeys (windowPresence .window
    (modPair (fun q => { q with partner := { q.partner with position := a.position, key := a.key, role := a.role, inelig := a.inelig } })
      (partnerKey a.key s)))

theorem answerHeard_pair (a : LeaseAns) (s : Rc8) : (answerHeard a s).pair = { s.pair with partner := { s.pair.partner with
    position := a.position, key := a.key, role := a.role, inelig := a.inelig, present := true, heard := some s.rnd.round } } := by
  obtain ⟨pair, -, rnd⟩ := partnerKey_leaves a.key s
  have window := congrArg Prod.fst (windowPresence_window (modPair (fun q => { q with partner :=
    { q.partner with position := a.position, key := a.key, role := a.role, inelig := a.inelig } }) (partnerKey a.key s)))
  obtain ⟨-, -, -, compared⟩ := compareKeys_kept (windowPresence .window (modPair (fun q => { q with partner :=
    { q.partner with position := a.position, key := a.key, role := a.role, inelig := a.inelig } }) (partnerKey a.key s)))
  refine compared.trans (window.trans ?_)
  rw [modPair_pair, modPair_rnd, pair, rnd]

/-- A holder that a standby has answered: what the standby confirms commits, then what it asks for is done. -/
def answerServed (was : Nat) (a : LeaseAns) (s : Rc8) : Rc8 :=
  let s2 := if a.confirmed then commitHandover s else s
  let s3 := if a.homeReclaim ∧ a.role = 3 ∧ s2.pair.hand.isNone = true ∧ s2.pair.reclaimAfter ≤ s2.clk.refosc then requestHandover .homeReclaim 0 30000 s2 else s2
  if a.resync ∧ s3.pair.resync.running = false ∧ s3.pair.resync.requested = false then startResync (if was = 3 then 3 else 1) s3 else s3

theorem answerReceived_holder (a : LeaseAns) {s : Rc8} (holder : s.pair.token = .holder) :
    answerReceived .window a s = answerServed (partnerKey a.key s).pair.partner.role a (answerHeard a s) := by
  have holds : holdsToken (answerHeard a s) = true := by simp [holdsToken, answerHeard_pair, holder]
  exact if_pos holds

/-- What a standby asks for leaves what is known of it and the token, and, of a handover asked for, all. -/
theorem answerServed_partner (was : Nat) (a : LeaseAns) (s : Rc8) :
    (answerServed was a s).pair.partner.role = s.pair.partner.role ∧ (answerServed was a s).pair.partner.inelig = s.pair.partner.inelig ∧
    (answerServed was a s).pair.partner.key = s.pair.partner.key ∧ (answerServed was a s).pair.partner.heard = s.pair.partner.heard := by
  unfold answerServed
  extract_lets s2 s3
  have committed : s2.pair.partner = s.pair.partner := by
    unfold s2 commitHandover
    repeat' split
    all_goals rfl
  have asked : s3.pair.partner = s2.pair.partner := by
    unfold s3
    split
    · obtain ⟨round, asks⟩ := requestHandover_asks .homeReclaim 0 30000 s2
      rw [asks]
      rfl
    · rfl
  have served : PairKeeps Pair.unsynced s3 (if a.resync ∧ s3.pair.resync.running = false ∧ s3.pair.resync.requested = false
      then startResync (if was = 3 then 3 else 1) s3 else s3) := .ite (startResync_keeps ..) .refl
  have partner := congrArg Pair.partner served.pair
  generalize (if a.resync ∧ s3.pair.resync.running = false ∧ s3.pair.resync.requested = false
      then startResync (if was = 3 then 3 else 1) s3 else s3) = t at partner ⊢
  rw [← committed, ← asked]
  exact ⟨(congrArg Partner.role partner :), (congrArg Partner.inelig partner :), (congrArg Partner.key partner :), (congrArg Partner.heard partner :)⟩

/-- A confirmation commits the handover that is asked for, and without one the holder stays holder. -/
theorem answerServed_hand {s : Rc8} {hd : Handover} (was : Nat) (a : LeaseAns) (holder : s.pair.token = .holder)
    (asked : s.pair.hand = some hd) (fixed : hd.round.isSome = true) (open_ : hd.committed = false) :
    (a.confirmed = true → (answerServed was a s).pair.token = .handover ∧
      (answerServed was a s).pair.hand = some { hd with confirmed := true, committed := true }) ∧
    (a.confirmed = false → (answerServed was a s).pair.token = .holder) := by
  unfold answerServed
  extract_lets s2 s3
  have commits : a.confirmed = true → s2.pair.token = .handover ∧ s2.pair.hand = some { hd with confirmed := true, committed := true } := by
    intro confirmed
    have committed : s2 = modPair (fun q => { q with token := .handover, hand := some { hd with confirmed := true, committed := true } }) s := by
      simp [s2, confirmed, commitHandover, asked, fixed, open_, holder]
    rw [committed]
    exact ⟨rfl, rfl⟩
  have stays : a.confirmed = false → s2 = s := fun refused => if_neg (by simp [refused])
  have known : s2.pair.hand.isNone = false := by
    cases confirmed : a.confirmed
    · simp [stays confirmed, asked]
    · simp [(commits confirmed).2]
  have same : s3 = s2 := if_neg (by simp [known])
  have served : PairKeeps Pair.unsynced s3 (if a.resync ∧ s3.pair.resync.running = false ∧ s3.pair.resync.requested = false
      then startResync (if was = 3 then 3 else 1) s3 else s3) := .ite (startResync_keeps ..) .refl
  have token := congrArg Pair.token served.pair
  have hand := congrArg Pair.hand served.pair
  rw [same] at token hand ⊢
  generalize (if a.resync ∧ s2.pair.resync.running = false ∧ s2.pair.resync.requested = false
      then startResync (if was = 3 then 3 else 1) s2 else s2) = t at token hand ⊢
  refine ⟨fun confirmed => ?_, fun refused => ?_⟩
  · obtain ⟨committed, handed⟩ := commits confirmed
    exact ⟨token.trans committed, hand.trans handed⟩
  · rw [stays refused] at token
    exact token.trans holder

/-! ### The statement -/

/-- A lease message acts on a module whose SVP runs: in the window at once, and over the link once it has been heard. -/
theorem leaseReceived_window {s : Rc8} (runs : svpRuns s = true) (h : PlkHdr) (r : LeaseRec) :
    leaseReceived .window h (.record r) s = recordReceived .window r s := if_neg (by simp [runs])
theorem leaseReceived_answer {s : Rc8} (runs : svpRuns s = true) (h : PlkHdr) (a : LeaseAns) :
    leaseReceived .window h (.answer a) s = answerReceived .window a s := if_neg (by simp [runs])
theorem leaseReceived_link {s : Rc8} {h : PlkHdr} (runs : svpRuns s = true) (up : s.pair.plk.up = true) (crc : h.crcOk = true)
    (message : h.ack = false) (r : LeaseRec) :
    leaseReceived .pairLink h (.record r) s = recordReceived .pairLink r (heard s) :=
  (if_neg (by simp [runs])).trans (plkReceive_unreliable up crc message rfl _)
theorem leaseReceived_stopped {s : Rc8} (stopped : svpRuns s = false) (path : PairPath) (h : PlkHdr) (m : LeaseMsg) :
    leaseReceived path h m s = s := if_pos (by simp [stopped])

/-- Settles O40: a renewal on the standby is `recordReceived_standby`, an answer at the holder is `answerServed`. -/
theorem leaseMessages : Obligations.LeaseMessages := by
  refine ⟨fun s h r runs standby renew epoch path carried => leads_of_act rfl ?record, fun s h a runs holder => leads_of_act rfl ?answer,
    fun s h m stopped => congrArg Host.Outcome.next (after_unchanged (leaseReceived_stopped stopped .window h m))⟩
  case record =>
    rw [State.after_toRc8]
    cases path
    case window =>
      rw [leaseReceived_window runs]
      exact recordReceived_standby .window renew standby epoch
    case pairLink =>
      obtain ⟨up, crc, message⟩ : s.pair.plk.up = true ∧ h.crcOk = true ∧ h.ack = false := carried.resolve_left (by decide)
      rw [leaseReceived_link runs up crc message]
      exact recordReceived_standby .pairLink (s := heard s.toRc8) renew standby epoch
  case answer =>
    rw [State.after_toRc8, leaseReceived_answer runs, answerReceived_holder a holder]
    have pair := answerHeard_pair a s.toRc8
    obtain ⟨role, inelig, key, heard⟩ := answerServed_partner (partnerKey a.key s.toRc8).pair.partner.role a (answerHeard a s.toRc8)
    rw [pair] at role inelig key heard
    refine ⟨role, inelig, key, heard, fun hd asked fixed open_ => ?_⟩
    exact answerServed_hand _ a (s := answerHeard a s.toRc8) (by rw [pair]; exact holder) (by rw [pair]; exact asked) fixed open_

end Sys2Proof.Machine
end

section
/-! SUPPORT. A module's tenure: its clock, what it holds of the token, and whether its pair link is up. What the shared operations leave of it
(10 R310, R313, R314, R317). -/

namespace Sys2Proof.Machine

open Sys2Proof

/-- What a module holds of the token at its time of day, and over what link; a link that is up may owe messages. -/
def Rc8.tenure (s : Rc8) : Clock × Token × Bool × Nat × Nat × Bool × Nat × List PlkAwait :=
  (s.clk, s.pair.token, s.pair.pulse, s.pair.epoch, s.nv.highestEpoch, s.pair.plk.up, s.pair.plk.lanes, if s.pair.plk.up then [] else s.pair.plk.awaiting)

theorem tenure_ite {c : Prop} [Decidable c] {s t u : Rc8} (h : t.tenure = s.tenure) (g : u.tenure = s.tenure) :
    (if c then t else u).tenure = s.tenure := by
  split
  · exact h
  · exact g

theorem tenure_foldl {α : Type} {g : Rc8 → α → Rc8} (h : ∀ s x, (g s x).tenure = s.tenure) (l : List α) (s : Rc8) :
    (l.foldl g s).tenure = s.tenure := foldl_keeps Rc8.tenure g h l s

/-- What keeps the clock, the pair and the highest epoch seen keeps the tenure. -/
theorem tenure_of {s t : Rc8} (clk : t.clk = s.clk) (pair : t.pair = s.pair) (nv : t.nv.highestEpoch = s.nv.highestEpoch) : t.tenure = s.tenure := by
  simp only [Rc8.tenure, clk, pair, nv]

section of_tenure
variable {s t : Rc8} (h : t.tenure = s.tenure)
include h
theorem clk_of_tenure : t.clk = s.clk := congrArg (·.1) h
theorem token_of_tenure : t.pair.token = s.pair.token := congrArg (·.2.1) h
theorem pulse_of_tenure : t.pair.pulse = s.pair.pulse := congrArg (·.2.2.1) h
theorem epoch_of_tenure : t.pair.epoch = s.pair.epoch := congrArg (·.2.2.2.1) h
theorem highestEpoch_of_tenure : t.nv.highestEpoch = s.nv.highestEpoch := congrArg (·.2.2.2.2.1) h
theorem up_of_tenure : t.pair.plk.up = s.pair.plk.up := congrArg (·.2.2.2.2.2.1) h
theorem lanes_of_tenure : t.pair.plk.lanes = s.pair.plk.lanes := congrArg (·.2.2.2.2.2.2.1) h
theorem awaiting_of_tenure (down : s.pair.plk.up = false) : t.pair.plk.awaiting = s.pair.plk.awaiting := by
  have owed := congrArg (·.2.2.2.2.2.2.2) h
  simpa [Rc8.tenure, up_of_tenure h, down] using owed
end of_tenure

/-! ### Events, answers, messages -/

@[simp] theorem modNet_tenure (n : Fin 2) (f : Net → Net) (s : Rc8) : (modNet n f s).tenure = s.tenure := tenure_of rfl rfl rfl
@[simp] theorem modSch_tenure (n : Fin 2) (f : Sched → Sched) (s : Rc8) : (modSch n f s).tenure = s.tenure := tenure_of rfl rfl rfl
@[simp] theorem modEng_tenure (f : Engine → Engine) (s : Rc8) : (modEng f s).tenure = s.tenure := tenure_of rfl rfl rfl
@[simp] theorem modRun_tenure (f : Runtime → Runtime) (s : Rc8) : (modRun f s).tenure = s.tenure := tenure_of rfl rfl rfl
@[simp] theorem modTask_tenure (k : Fin 8) (f : Task → Task) (s : Rc8) : (modTask k f s).tenure = s.tenure := tenure_of rfl rfl rfl
@[simp] theorem modChg_tenure (f : Change → Change) (s : Rc8) : (modChg f s).tenure = s.tenure := tenure_of rfl rfl rfl
@[simp] theorem modSaf_tenure (f : Safety → Safety) (s : Rc8) : (modSaf f s).tenure = s.tenure := tenure_of rfl rfl rfl
@[simp] theorem modTim_tenure (f : PlantTime → PlantTime) (s : Rc8) : (modTim f s).tenure = s.tenure := tenure_of rfl rfl rfl
@[simp] theorem modFfe_tenure (f : FieldFront → FieldFront) (s : Rc8) : (modFfe f s).tenure = s.tenure := tenure_of rfl rfl rfl
@[simp] theorem bar2Publish_tenure (sec : Fin 5) (round time : Nat) (data : List Byte) (s : Rc8) :
    (bar2Publish sec round time data s).tenure = s.tenure := tenure_of rfl rfl rfl

@[simp] theorem raise_tenure (e : Ev) (s : Rc8) : (raise e s).tenure = s.tenure := tenure_of rfl rfl rfl
@[simp] theorem raiseLimited_tenure (place : Option (Fin 3)) (e : Ev) (s : Rc8) : (raiseLimited place e s).tenure = s.tenure :=
  tenure_of (raiseLimited_clk ..) (raiseLimited_pair ..) (congrArg Nv.highestEpoch (raiseLimited_nv place e s) :)
@[simp] theorem endWith_tenure (id : Nat) (st : Status) (s : Rc8) : (endWith id st s).tenure = s.tenure := tenure_of rfl rfl rfl
@[simp] theorem endOpt_tenure (id : Option Nat) (st : Status) (s : Rc8) : (endOpt id st s).tenure = s.tenure := by
  cases id <;> exact tenure_of rfl rfl rfl
@[simp] theorem pendNow_tenure (e : Exec) (s : Rc8) : (pendNow e s).tenure = s.tenure := tenure_of (by simp) (by simp) (by simp)
@[simp] theorem plkSend_tenure (k g : Nat) (b : PlkBody) (s : Rc8) : (plkSend k g b s).tenure = s.tenure := by
  cases up : s.pair.plk.up
  case false => rw [plkSend, if_neg (by simp [up])]
  case true =>
    have sent := plkSend_keeps k g b s
    have pair := sent.pair
    have token : (plkSend k g b s).pair.token = s.pair.token := (congrArg Pair.token pair :)
    have pulse : (plkSend k g b s).pair.pulse = s.pair.pulse := (congrArg Pair.pulse pair :)
    have epoch : (plkSend k g b s).pair.epoch = s.pair.epoch := (congrArg Pair.epoch pair :)
    have lanes : (plkSend k g b s).pair.plk.lanes = s.pair.plk.lanes := (congrArg (·.plk.lanes) pair :)
    have kept : (plkSend k g b s).pair.plk.up = s.pair.plk.up := (congrArg (·.plk.up) pair :)
    have nv : (plkSend k g b s).nv.highestEpoch = s.nv.highestEpoch := sent.field (·.nv.highestEpoch)
    simp only [Rc8.tenure, sent.clk, token, pulse, epoch, nv, lanes, kept, up, if_true]
@[simp] theorem pairTell_tenure (id : Option Nat) (op : PairOp) (round : Nat) (resp : List Byte) (late : Bool) (s : Rc8) :
    (pairTell id op round resp late s).tenure = s.tenure := tenure_ite (s := s) (plkSend_tenure ..) rfl
@[simp] theorem requestMode_tenure (target : Mode) (cause : Nat) (exec : Option Nat) (s : Rc8) : (requestMode target cause exec s).tenure = s.tenure :=
  pairTell_tenure ..
@[simp] theorem faultStop_tenure (cause : Nat) (s : Rc8) : (faultStop cause s).tenure = s.tenure :=
  tenure_ite rfl (tenure_ite rfl (requestMode_tenure ..))

/-! ### The token lost (10 R306, R313, R314) -/

theorem undoChange_tenure (skip : Bool) (s : Rc8) : (undoChange skip s).tenure = s.tenure := by
  unfold undoChange
  extract_lets s1 s2
  have restored : s1.tenure = s.tenure := tenure_of rfl rfl rfl
  have cleared : s2.tenure = s1.tenure := by
    refine tenure_foldl (fun r n => ?_) bothNets s1
    split
    · exact tenure_ite (modSch_tenure ..) rfl
    · rfl
  exact (modChg_tenure ..).trans ((modRun_tenure ..).trans (cleared.trans restored))

theorem tellPartner_tenure (op : PairOp) (s : Rc8) : (tellPartner op s).tenure = s.tenure := tenure_ite (plkSend_tenure ..) rfl
theorem endAborts_tenure (st : Status) (s : Rc8) : (endAborts st s).tenure = s.tenure :=
  tenure_foldl (fun r id => endWith_tenure id st r) _ s

theorem abandon_tenure (cause cond : Nat) (s : Rc8) : (abandon cause cond s).tenure = s.tenure := by
  unfold abandon
  extract_lets s0 s1
  have told : s0.tenure = s.tenure := tenure_ite (tellPartner_tenure ..) rfl
  have ended : s1.tenure = s.tenure := (endOpt_tenure ..).trans ((endAborts_tenure ..).trans told)
  exact (raise_tenure ..).trans ((modChg_tenure ..).trans ((undoChange_tenure ..).trans ended))

@[simp] theorem changeInterrupted_tenure (s : Rc8) : (changeInterrupted s).tenure = s.tenure :=
  tenure_ite (abandon_tenure ..) (modChg_tenure ..)

theorem pinsOff_tenure (s : Rc8) : (pinsOff s).tenure = s.tenure :=
  (modFfe_tenure ..).trans (tenure_foldl (fun r i => (tenure_of rfl rfl rfl : (switchPin i false r).tenure = r.tenure)) allPins s)

theorem endHand_tenure (h : Handover) (st : Status) (s : Rc8) : (endHand h st s).tenure = s.tenure := by
  unfold endHand
  split
  · exact endWith_tenure ..
  · rfl
  · exact tenure_ite (tenure_of rfl rfl rfl) (tenure_of rfl rfl rfl)

theorem abandonHand_tenure (cause : Nat) (st : Status) (s : Rc8) : (abandonHand cause st s).tenure = s.tenure := by
  unfold abandonHand
  split
  · rfl
  · exact (raise_tenure ..).trans (endHand_tenure ..)

@[simp] theorem startListen_tenure (n : Fin 2) (s : Rc8) : (startListen n s).tenure = s.tenure := modNet_tenure ..
@[simp] theorem netGoto_tenure (n : Fin 2) (dest : NetState) (ev : NetEv) (s : Rc8) : (netGoto n dest ev s).tenure = s.tenure :=
  tenure_ite rfl ((raise_tenure ..).trans (tenure_ite (modNet_tenure ..) (tenure_of rfl rfl rfl)))

theorem netEvent_tenure (n : Fin 2) (ev : NetEv) (s : Rc8) : (netEvent n ev s).tenure = s.tenure := by
  unfold netEvent
  dsimp only
  split <;> simp [apply_ite Rc8.tenure]

theorem netLease_tenure (gained : Bool) (s : Rc8) : (netLease gained s).tenure = s.tenure :=
  (tenure_foldl (fun r n => netEvent_tenure n _ r) bothNets _).trans (tenure_of rfl rfl rfl)

/-! ### Plant time and the bus at a crossover -/

@[simp] theorem setPtpPort_tenure (e : Fin 2) (st : Nat) (s : Rc8) : (setPtpPort e st s).tenure = s.tenure :=
  tenure_ite rfl ((raise_tenure ..).trans (modTim_tenure ..))
theorem setGrandmaster_tenure (e : Fin 2) (gm : Nat) (s : Rc8) : (setGrandmaster e gm s).tenure = s.tenure :=
  tenure_ite rfl ((raise_tenure ..).trans (modTim_tenure ..))
theorem ptpDecide_tenure (e : Fin 2) (kind : Nat) (content : List Byte) (s : Rc8) : (ptpDecide e kind content s).tenure = s.tenure :=
  (setGrandmaster_tenure ..).trans ((tenure_ite (setPtpPort_tenure ..) rfl).trans (tenure_ite (setPtpPort_tenure ..) rfl))
theorem ptpRestart_tenure (s : Rc8) : (ptpRestart s).tenure = s.tenure := by
  have off : (([0, 1] : List (Fin 2)).foldl (fun s e => if bitAt s.nv.ptp.mask e.val then s else setPtpPort e 0 s) s).tenure = s.tenure :=
    tenure_foldl (fun r e => tenure_ite rfl (setPtpPort_tenure e 0 r)) _ s
  refine tenure_ite ((tenure_foldl (fun r e => ?_) _ _).trans off) (tenure_ite off ((ptpDecide_tenure ..).trans off))
  exact tenure_ite (setPtpPort_tenure e 7 r) rfl
@[simp] theorem cancelStep_tenure (s : Rc8) : (cancelStep s).tenure = s.tenure := (endOpt_tenure ..).trans (modTim_tenure ..)
theorem timeBecomeStandby_tenure (s : Rc8) : (timeBecomeStandby s).tenure = s.tenure := (ptpRestart_tenure _).trans (cancelStep_tenure s)

theorem timeGoto_tenure (st : TimeSt) (s : Rc8) : (timeGoto st s).tenure = s.tenure := by
  have told : ∀ (op : PairOp) (round : Nat) (r : Rc8), (tellTime op round r).tenure = r.tenure := fun op round r =>
    tenure_ite (plkSend_tenure ..) rfl
  exact tenure_ite rfl ((told ..).trans ((raise_tenure ..).trans (modTim_tenure ..)))
theorem timeTakeOver_tenure (s : Rc8) : (timeTakeOver s).tenure = s.tenure := by
  have cancelled := cancelStep_tenure s
  exact tenure_ite ((timeGoto_tenure ..).trans cancelled) cancelled

/-! ### Frames -/

theorem dropLate_tenure (e : Fin 2) (f : EthFrame) (s : Rc8) : (dropLate e f s).tenure = s.tenure := by
  unfold dropLate
  refine (raiseLimited_tenure ..).trans ?_
  split <;> exact tenure_of rfl rfl rfl
theorem startFrame_tenure (e : Fin 2) (s : Rc8) : (startFrame e s).tenure = s.tenure := by
  unfold startFrame
  dsimp only
  split
  · rfl
  · split
    · rfl
    · split
      · rfl
      · exact tenure_of rfl rfl rfl
theorem queueFrame_tenure (e : Fin 2) (f : EthFrame) (s : Rc8) : (queueFrame e f s).tenure = s.tenure :=
  tenure_ite (tenure_of rfl rfl rfl) (tenure_ite (dropLate_tenure ..) ((startFrame_tenure ..).trans (tenure_of rfl rfl rfl)))
theorem gratuitousArp_tenure (s : Rc8) : (gratuitousArp s).tenure = s.tenure :=
  tenure_foldl (fun _ _ => tenure_ite (queueFrame_tenure ..) rfl) _ s

/-! ### The token taken (10 R311, R317; 07 R239) -/

theorem beginHolding_tenure (cause gap : Nat) (s : Rc8) : (beginHolding cause gap s).tenure = s.tenure := by
  have onBus : ∀ r : Rc8, (canTakeOver r).tenure = r.tenure := fun r => tenure_of rfl rfl rfl
  have launched : ∀ r : Rc8, (launchNow r).tenure = r.tenure := fun r => tenure_of rfl rfl rfl
  unfold beginHolding
  extract_lets s1 s2 unplanned s3 s4
  have fresh : s1.tenure = s.tenure := rfl
  have leased : s2.tenure = s.tenure := (launched _).trans ((netLease_tenure true s1).trans fresh)
  have outputs : s3.tenure = s.tenure := (modSaf_tenure ..).trans ((modFfe_tenure ..).trans leased)
  have held : s4.tenure = s.tenure := (onBus _).trans ((gratuitousArp_tenure _).trans ((ptpRestart_tenure _).trans ((timeTakeOver_tenure s3).trans outputs)))
  exact tenure_ite ((changeInterrupted_tenure _).trans held) held

theorem restoreAxis_tenure (a : Nat) (s : Rc8) : (restoreAxis a s).tenure = s.tenure := by
  have goto : ∀ (new : LearnSt) (cause : Nat) (r : Rc8), (learnGoto a new cause r).tenure = r.tenure := fun new cause r =>
    tenure_ite (tenure_of rfl rfl rfl) ((raise_tenure ..).trans (tenure_of rfl rfl rfl))
  have applied : ∀ (mv : TableMove) (r : Rc8), (applyMove a mv r).tenure = r.tenure := by
    intro mv r
    unfold applyMove
    extract_lets s l new s1 s3 s2
    have h3 : s3.tenure = r.tenure := tenure_ite (tenure_of rfl rfl rfl) (tenure_of rfl rfl rfl)
    have h2 : s2.tenure = r.tenure := tenure_ite ((goto ..).trans h3) h3
    exact tenure_ite (tenure_of rfl rfl rfl) (tenure_ite ((raise_tenure ..).trans h2) ((raise_tenure ..).trans h2))
  unfold restoreAxis
  split
  · exact raise_tenure ..
  · dsimp only
    split
    · exact (applied ..).trans (tenure_of rfl rfl rfl)
    · exact tenure_of rfl rfl rfl
theorem restoreTables_tenure (s : Rc8) : (restoreTables s).tenure = s.tenure := by
  have axes : ∀ (l : List (Nat × LearnCfg)) (r : Rc8), (l.foldl (fun r x => restoreAxis x.1 r) r).tenure = r.tenure :=
    tenure_foldl fun r x => restoreAxis_tenure x.1 r
  unfold restoreTables
  split
  · rfl
  · exact (axes ..).trans (tenure_of rfl rfl rfl)

theorem publishMotion_tenure (img : List Byte) (s : Rc8) : (publishMotion img s).tenure = s.tenure :=
  (bar2Publish_tenure ..).trans (modRun_tenure ..)
theorem takeSwitch_tenure (s : Rc8) : (takeSwitch s).tenure = s.tenure := by
  unfold takeSwitch
  split
  · rfl
  · exact tenure_ite (tenure_of rfl rfl rfl) (tenure_of rfl rfl rfl)
theorem replayJournal_tenure (s : Rc8) : (replayJournal s).tenure = s.tenure := by
  unfold replayJournal
  extract_lets switched area
  exact Eq.trans (b := switched.tenure) (tenure_of rfl rfl rfl) (takeSwitch_tenure s)
theorem publishStops_tenure (s : Rc8) : (publishStops s).tenure = s.tenure := by
  unfold publishStops
  split
  · exact publishMotion_tenure ..
  · exact (bar2Publish_tenure ..).trans ((publishMotion_tenure ..).trans (modRun_tenure ..))
theorem startRuntime_tenure (s : Rc8) : (startRuntime s).tenure = s.tenure := by
  have ruled : ∀ r : Rc8, (codeRules r).tenure = r.tenure := fun r => tenure_of rfl rfl rfl
  have loaded : ∀ r : Rc8, (loadCode r).tenure = r.tenure := fun r => modRun_tenure ..
  have replayed : (retainReplayed s).tenure = s.tenure := (raise_tenure ..).trans (replayJournal_tenure s)
  exact (ruled _).trans ((publishStops_tenure _).trans ((loaded _).trans ((modRun_tenure ..).trans replayed)))
theorem startRuntime_started (s : Rc8) : (startRuntime s).run.started = true := by
  have stops : ∀ r : Rc8, (publishStops r).run.started = r.run.started := by
    intro r
    unfold publishStops
    split <;> rfl
  exact stops _

theorem startAtClaim_tenure (s : Rc8) : (claim.startAtClaim s).tenure = s.tenure := by
  unfold claim.startAtClaim
  extract_lets s0 s1 target
  have started : s1.tenure = s.tenure := by
    have restored : s0.tenure = s.tenure := restoreTables_tenure s
    exact tenure_ite restored ((startRuntime_tenure s0).trans restored)
  exact tenure_ite started ((requestMode_tenure ..).trans started)

end Sys2Proof.Machine
end

section
/-! SUPPORT. Where the token goes when the lease timer runs out, a claim is made or the partner goes, and the statement about it
(10 R306, R311, R313, R314, R317, R318). -/

namespace Sys2Proof.Machine

open Sys2Proof

/-! ### The token lost -/

/-- A module that becomes standby waits for the state copy; its epoch and its time stay. -/
theorem becomeStandby_token (s : Rc8) : (becomeStandby s).pair.token = .standby ∧ (becomeStandby s).pair.pulse = false ∧
    (becomeStandby s).pair.epoch = s.pair.epoch ∧ (becomeStandby s).pair.synced = false ∧ (becomeStandby s).clk = s.clk := by
  unfold becomeStandby
  have onBus : ∀ r : Rc8, (canBecomeStandby r).tenure = r.tenure := fun r => tenure_of rfl rfl rfl
  generalize passive : modPair _ s = p
  have token : p.pair.token = .standby := by rw [← passive, modPair_pair]
  have pulse : p.pair.pulse = false := by rw [← passive, modPair_pair]
  have epoch : p.pair.epoch = s.pair.epoch := by rw [← passive, modPair_pair]
  have clk : p.clk = s.clk := by rw [← passive, modPair_clk]
  have left : (canBecomeStandby (timeBecomeStandby (netLease false p))).tenure = p.tenure :=
    (onBus _).trans ((timeBecomeStandby_tenure _).trans (netLease_tenure false p))
  generalize canBecomeStandby (timeBecomeStandby (netLease false p)) = u at left
  have uToken := (token_of_tenure left).trans token
  have standby : isStandby u = true := by simp [isStandby, uToken]
  obtain ⟨unsynced, -⟩ := startResync_standby standby 1
  have resync := startResync_keeps 1 u
  have kToken : (startResync 1 u).pair.token = u.pair.token := (congrArg Pair.token resync.pair :)
  have kPulse : (startResync 1 u).pair.pulse = u.pair.pulse := (congrArg Pair.pulse resync.pair :)
  have kEpoch : (startResync 1 u).pair.epoch = u.pair.epoch := (congrArg Pair.epoch resync.pair :)
  exact ⟨kToken.trans uToken, kPulse.trans ((pulse_of_tenure left).trans pulse), kEpoch.trans ((epoch_of_tenure left).trans epoch), unsynced,
    resync.clk.trans ((clk_of_tenure left).trans clk)⟩

/-- A token that goes, whatever the cause, leaves a standby of the same epoch. -/
theorem releaseToken_token (cause : Nat) (s : Rc8) : (releaseToken cause s).pair.token = .standby ∧ (releaseToken cause s).pair.pulse = false ∧
    (releaseToken cause s).pair.epoch = s.pair.epoch ∧ (releaseToken cause s).pair.synced = false ∧ (releaseToken cause s).clk = s.clk := by
  unfold releaseToken
  extract_lets s1 s2
  have interrupted := changeInterrupted_tenure s
  have opened : s1.tenure = s.tenure :=
    tenure_ite ((modSaf_tenure ..).trans ((modFfe_tenure ..).trans interrupted)) ((modSaf_tenure ..).trans ((pinsOff_tenure _).trans interrupted))
  have ended : s2.tenure = s.tenure := tenure_ite opened ((abandonHand_tenure ..).trans opened)
  obtain ⟨token, pulse, epoch, synced, clk⟩ := becomeStandby_token
    (raise { src := 60, reason := 0x02, sev := .warning, p0 := s.pair.epoch, p1 := cause, p2 := lo32 s.rnd.round } s2)
  exact ⟨token, pulse, epoch.trans (epoch_of_tenure ended), synced, clk.trans (clk_of_tenure ended)⟩

/-- A standby whose holder is silent is UNCLAIMED from now on, with its partner gone. -/
theorem enterUnclaimed_token (s : Rc8) : (enterUnclaimed s).pair.token = .unclaimed ∧ (enterUnclaimed s).pair.partner.present = false ∧
    (enterUnclaimed s).pair.claimRef = s.clk.refosc ∧ (enterUnclaimed s).clk = s.clk := by
  unfold enterUnclaimed
  generalize left : modPair _ _ = u
  have token : u.pair.token = .unclaimed := by rw [← left, modPair_pair]
  have claimRef : u.pair.claimRef = s.clk.refosc := by rw [← left, modPair_pair]
  have clk : u.clk = s.clk := by rw [← left, modPair_clk]
  have footing := partnerAbsent_footing u
  generalize partnerAbsent u = t at footing
  split at footing
  case isTrue =>
    simp only [Rc8.footing, Prod.mk.injEq] at footing
    obtain ⟨pair, tClk, -⟩ := footing
    rw [pair, tClk]
    exact ⟨token, rfl, claimRef, clk⟩
  case isFalse absent =>
    simp only [Rc8.footing, Prod.mk.injEq] at footing
    obtain ⟨pair, tClk, -⟩ := footing
    rw [pair, tClk]
    exact ⟨token, by simpa using absent, claimRef, clk⟩

/-! ### The token taken -/

/-- The runtime has started once a claim has been made. -/
theorem startAtClaim_started (s : Rc8) : (claim.startAtClaim s).run.started = true := by
  unfold claim.startAtClaim
  extract_lets s0 s1 target
  have started : s1.run.started = true := by
    unfold s1
    split
    next before => exact before
    next => exact startRuntime_started s0
  split
  · exact started
  · exact (congrArg Runtime.started (requestMode_run ..)).trans started

/-- A claim takes the token with the next epoch, and with the pulse. -/
theorem claim_token {s : Rc8} (may : mayClaim s = true) : (claim s).pair.token = .holder ∧ (claim s).pair.pulse = true ∧
    (claim s).pair.epoch = (s.nv.highestEpoch + 1) % 65536 ∧ (claim s).nv.highestEpoch = (s.nv.highestEpoch + 1) % 65536 ∧
    s.pair.claimRef + claimWait s ≤ (claim s).clk.refosc ∧ (claim s).run.started = true := by
  have claimed : claim s = claim.startAtClaim (beginHolding 1 0 (startLease (atRefosc (s.pair.claimRef + claimWait s) s))) := if_pos may
  have due := le_atRefosc (s.pair.claimRef + claimWait s) s
  rw [claimed]
  generalize hold : startLease (atRefosc _ s) = u
  have token : u.pair.token = .holder := by rw [← hold]; rfl
  have pulse : u.pair.pulse = true := by rw [← hold]; rfl
  have epoch : u.pair.epoch = (s.nv.highestEpoch + 1) % 65536 := by rw [← hold]; rfl
  have highest : u.nv.highestEpoch = (s.nv.highestEpoch + 1) % 65536 := by rw [← hold]; rfl
  have clk : u.clk = (atRefosc (s.pair.claimRef + claimWait s) s).clk := by rw [← hold]; rfl
  have held := (startAtClaim_tenure _).trans (beginHolding_tenure 1 0 u)
  refine ⟨(token_of_tenure held).trans token, (pulse_of_tenure held).trans pulse, (epoch_of_tenure held).trans epoch,
    (highestEpoch_of_tenure held).trans highest, ?_, startAtClaim_started _⟩
  rw [clk_of_tenure held, clk]
  exact due

/-! ### The partner gone -/

/-- A partner that is present and silent on the link and in the window goes absent. -/
theorem partnerSilent_absent {s : Rc8} (down : s.pair.plk.up = false) (present : s.pair.partner.present = true)
    (quiet : ∀ r, s.pair.partner.heard = some r → r + 8 < s.rnd.round) :
    (partnerSilent s).pair.partner.present = false ∧ (partnerSilent s).pair.partner.role = 0 := by
  have silent : partnerSilent s = updateReady (partnerAbsent s) := by
    refine if_pos ⟨down, ?_⟩
    split
    next => rfl
    next r heard => exact decide_eq_true (quiet r heard)
  have footing := partnerAbsent_footing s
  rw [if_pos present] at footing
  have gone := congrArg (·.1.partner) footing
  have judged : (updateReady (partnerAbsent s)).pair.partner = (partnerAbsent s).pair.partner := (congrArg Pair.partner (updateReady_keeps _).pair :)
  rw [silent, judged.trans gone]
  exact ⟨rfl, rfl⟩

/-! ### The statement -/

section timer
variable {s : Rc8} (runs : svpRuns s = true)
include runs

theorem leaseTimerOut_running : leaseTimerOut s = match s.pair.token with
    | .unclaimed => s
    | .holder => if s.pair.pulse then releaseToken 1 (atRefosc s.pair.leaseEnd s) else s
    | .handover => if s.pair.pulse then releaseToken 1 (atRefosc s.pair.leaseEnd s) else s
    | .standby => enterUnclaimed (takeoverRefused 1 (atRefosc s.pair.leaseEnd s))
    | .standbyReady => modPair (fun q => { q with takeAt := some (2, s.rnd.round + 1) }) (atRefosc s.pair.leaseEnd s) := by
  unfold leaseTimerOut
  rw [if_neg (by simp [runs])]
  rfl

end timer

/-- Settles O42: the lease timer by the token that the module has, the claim (`claim_token`), and the partner's silence. -/
theorem tokenMoves : Obligations.TokenMoves := by
  intro s runs
  refine ⟨fun holds pulse => leads_of_act rfl ?lost, fun ready => leads_of_act rfl ?due, fun standby => leads_of_act rfl ?unclaimed,
    fun may => leads_of_act rfl ?claimed, fun down present quiet => leads_of_act rfl ?absent⟩
  case lost =>
    have lost : leaseTimerOut s.toRc8 = releaseToken 1 (atRefosc s.pair.leaseEnd s.toRc8) := by
      rw [leaseTimerOut_running runs]
      rcases holds with holder | handover
      · rw [holder]; exact if_pos pulse
      · rw [handover]; exact if_pos pulse
    rw [State.after_toRc8, lost]
    obtain ⟨token, off, epoch, synced, clk⟩ := releaseToken_token 1 (atRefosc s.pair.leaseEnd s.toRc8)
    rw [clk]
    exact ⟨token, off, epoch, synced, le_atRefosc ..⟩
  case due =>
    rw [State.after_toRc8, leaseTimerOut_running runs, ready, modPair_pair]
    exact ⟨rfl, ready⟩
  case unclaimed =>
    rw [State.after_toRc8, leaseTimerOut_running runs, standby]
    obtain ⟨token, absent, ref, clk⟩ := enterUnclaimed_token (takeoverRefused 1 (atRefosc s.pair.leaseEnd s.toRc8))
    rw [clk]
    exact ⟨token, absent, ref⟩
  case claimed => exact claim_token may
  case absent => exact partnerSilent_absent down present quiet

end Sys2Proof.Machine
end

section
/-! SUPPORT. The link itself: what its training, its silence and its failure leave (10 R306 to R310, R319, R334). -/

namespace Sys2Proof.Machine

open Sys2Proof

/-! ### Shadow tasks and operations leave a module's tenure -/

theorem tellRelease_tenure (k : Fin 8) (released : Bool) (time mono : Nat) (s : Rc8) : (tellRelease k released time mono s).tenure = s.tenure :=
  tenure_ite (plkSend_tenure ..) rfl
theorem skipRelease_tenure (k : Fin 8) (s : Rc8) : (skipRelease k s).tenure = s.tenure := by
  unfold skipRelease
  extract_lets n s1 rule s2
  have overran : s1.tenure = s.tenure := (raiseLimited_tenure ..).trans (modTask_tenure ..)
  have limit : s2.tenure = s.tenure := (raise_tenure ..).trans ((modTask_tenure ..).trans overran)
  exact tenure_ite (tenure_ite ((faultStop_tenure ..).trans limit) limit) overran
theorem beginWith_tenure (k : Fin 8) (debug : Bool) (time mono : Nat) (motion station : List Byte) (s : Rc8) :
    (beginWith k debug time mono motion station s).tenure = s.tenure := by
  unfold beginWith
  extract_lets im s1 s2 s3
  have motionIn : s1.tenure = s.tenure := tenure_ite (bar2Publish_tenure ..) rfl
  have stationIn : s2.tenure = s.tenure := tenure_ite ((bar2Publish_tenure ..).trans motionIn) motionIn
  have served : s3.tenure = s2.tenure := rfl
  exact (modTask_tenure ..).trans (served.trans stationIn)
theorem ownRelease_tenure (k : Fin 8) (time mono : Nat) (s : Rc8) : (ownRelease k time mono s).tenure = s.tenure := by
  have begins : ∀ debug, (tellRelease k true time mono (beginCycle k debug time mono s)).tenure = s.tenure := fun debug =>
    (tellRelease_tenure ..).trans (beginWith_tenure ..)
  have holds : (holdRelease k time mono s).tenure = s.tenure := modRun_tenure ..
  unfold ownRelease
  dsimp only
  split
  · rfl
  · exact tenure_ite ((tellRelease_tenure ..).trans (skipRelease_tenure ..)) (tenure_ite rfl (tenure_ite holds (begins false)))
  · exact tenure_ite (tenure_ite holds (begins true)) rfl
theorem shadowOne_tenure (k : Fin 8) (s : Rc8) : (shadowOne k s).tenure = s.tenure := by
  have taken : (takeRelease k s).2.tenure = s.tenure := rfl
  unfold shadowOne
  split
  · rfl
  · extract_lets r next
    have left : ∀ u : Rc8, (next u).tenure = u.tenure := fun u => modTask_tenure ..
    refine tenure_ite ((ownRelease_tenure ..).trans ((left _).trans taken)) ?_
    split
    · rfl
    · refine tenure_ite ((skipRelease_tenure ..).trans ((left _).trans taken)) (tenure_ite rfl ?_)
      split
      · rfl
      · exact tenure_ite rfl ((beginWith_tenure ..).trans ((left _).trans taken))

theorem publishCycle_tenure (k : Fin 8) (o : CycleOut) (s : Rc8) : (publishCycle k o s).tenure = s.tenure := by
  have motion : (if k = 0 then publishMotion (o.motion.take 65536) s else s).tenure = s.tenure := tenure_ite (publishMotion_tenure ..) rfl
  have station : ∀ r : Rc8, (publishStation k (o.station.take 65536) r).tenure = r.tenure := fun r =>
    (bar2Publish_tenure ..).trans (modTask_tenure ..)
  exact tenure_ite ((station _).trans motion) motion
theorem queueCommit_tenure (k : Fin 8) (g : List (Nat × List Byte)) (s : Rc8) : (queueCommit k g s).tenure = s.tenure := by
  have failed : ∀ (cause bytes : Nat) (r : Rc8), (commitFailed k.val cause bytes r).tenure = r.tenure := fun cause bytes r =>
    (faultStop_tenure ..).trans (raise_tenure ..)
  have journalled : ∀ r : JournalRec, (if s.run.commits = [] then { s with nv := { s.nv with journal := s.nv.journal ++ [r] } } else s).tenure = s.tenure :=
    fun r => tenure_ite (tenure_of rfl rfl rfl) rfl
  exact tenure_ite (modTask_tenure ..) (tenure_ite ((failed ..).trans (modTask_tenure ..))
    ((modTask_tenure ..).trans ((modRun_tenure ..).trans (journalled _))))
theorem closeCycle_tenure (k : Fin 8) (us : Nat) (s : Rc8) : (closeCycle k us s).tenure = s.tenure := by
  have layby : ∀ r : Rc8, (finishLayby r).tenure = r.tenure := fun r => tenure_ite ((endOpt_tenure ..).trans (modRun_tenure ..)) rfl
  have halted : ∀ r : Rc8, (taskHalted k 1 r).tenure = r.tenure := fun r => raise_tenure ..
  exact tenure_ite ((layby _).trans ((halted _).trans (modTask_tenure ..))) (modTask_tenure ..)
theorem handOver_tenure (k : Fin 8) (o : CycleOut) (s : Rc8) : (handOver k o s).tenure = s.tenure := by
  have told : ∀ (published : Bool) (r : Rc8), (tellCycle k published r).tenure = r.tenure := fun published r =>
    tenure_ite (plkSend_tenure ..) rfl
  have digest : ∀ (published : Bool) (r : Rc8), (cycleDigest k o published r).tenure = r.tenure := fun published r => plkSend_tenure ..
  unfold handOver
  extract_lets x published s1 s3 s4
  have publishes : s1.tenure = s.tenure := tenure_ite (publishCycle_tenure ..) rfl
  have commits : s3.tenure = s.tenure := (queueCommit_tenure ..).trans ((modRun_tenure ..).trans publishes)
  have digests : s4.tenure = s.tenure := (digest ..).trans ((told ..).trans commits)
  exact tenure_ite ((modTask_tenure ..).trans digests) ((closeCycle_tenure ..).trans digests)
theorem endParked_tenure (k : Fin 8) (s : Rc8) : (endParked k s).tenure = s.tenure := by
  unfold endParked
  split
  · rfl
  · exact tenure_ite rfl (handOver_tenure ..)

/-- Shadow tasks that go on leave the clock, the token and the link. -/
theorem shadowOn_tenure (s : Rc8) : (shadowOn s).tenure = s.tenure := by
  have shadows : ∀ r : Rc8, (shadowAll r).tenure = r.tenure := tenure_foldl (fun r k => shadowOne_tenure k r) allTasks
  have ends : ∀ r : Rc8, (allTasks.foldl (fun r k => endParked k r) r).tenure = r.tenure := tenure_foldl (fun r k => endParked_tenure k r) allTasks
  exact (shadows _).trans (ends s)

theorem opFails_tenure (op : PairOp) (s : Rc8) : (opFails op s).tenure = s.tenure := by
  have kept : (effBankSwap false s).tenure = s.tenure := modEng_tenure ..
  have ends : (safetyActivateEnds s).tenure = s.tenure := modSaf_tenure ..
  unfold opFails
  split <;> simp [kept, ends]
theorem opRefused_tenure (x : PendOp) (s : Rc8) : (opRefused x s).tenure = s.tenure := by
  have dropped : ∀ r : Rc8, (dropOp x r).tenure = r.tenure := fun r => rfl
  unfold opRefused
  split
  · rfl
  · split
    next e _ =>
      have answered : (if e.pendingSent then s else pendNow e s).tenure = s.tenure := tenure_ite rfl (pendNow_tenure ..)
      exact tenure_ite ((endWith_tenure ..).trans ((opFails_tenure ..).trans (dropped _)))
        ((endWith_tenure ..).trans ((opFails_tenure ..).trans ((dropped _).trans answered)))
    · exact (opFails_tenure ..).trans (dropped _)
  · exact (endOpt_tenure ..).trans ((opFails_tenure ..).trans (dropped _))
theorem snapFinish_tenure (why : SnapFor) (s : Rc8) : (snapFinish why s).tenure = s.tenure := by
  refine tenure_ite rfl ?_
  split
  · exact tenure_ite rfl (endWith_tenure ..)
  · exact plkSend_tenure ..

/-- Operations that no partner will confirm leave the clock, the token and the link. -/
theorem opsUnconfirmed_tenure (s : Rc8) : (opsUnconfirmed s).tenure = s.tenure := by
  have finish : ∀ (l : List (Nat × Nat)) (r : Rc8), (l.foldl (fun r x => snapFinish (.own x.2) r) r).tenure = r.tenure :=
    tenure_foldl fun r x => snapFinish_tenure (.own x.2) r
  have refuse : ∀ (l : List PendOp) (r : Rc8), (l.foldl (fun r x => opRefused x r) r).tenure = r.tenure := tenure_foldl fun r x => opRefused_tenure x r
  unfold opsUnconfirmed snapAlone
  exact (finish ..).trans (refuse ..)

/-! ### The link goes down (10 R310) -/

/-- A link that was up is down, and nothing awaits an acknowledgement; the clock stays. -/
theorem plkDown_link (cause : Nat) {s : Rc8} (up : s.pair.plk.up = true) : (plkDown cause s).pair.plk.up = false ∧
    (plkDown cause s).pair.plk.lanes = 0 ∧ (plkDown cause s).pair.plk.awaiting = [] ∧ (plkDown cause s).clk = s.clk := by
  unfold plkDown
  rw [if_pos up]
  extract_lets s1
  generalize told : raise _ s1 = u
  have uPlk : u.pair.plk = { s.pair.plk with up := false, lanes := 0, awaiting := [] } := by rw [← told, raise_pair, modPair_pair]
  have uClk : u.clk = s.clk := by rw [← told, raise_clk, modPair_clk]
  have suspended : ∀ r : Rc8, (suspendResync r).tenure = r.tenure := fun r => tenure_ite rfl rfl
  have left := (suspended _).trans ((opsUnconfirmed_tenure _).trans (shadowOn_tenure u))
  generalize suspendResync _ = v at left
  have judged := updateReady_keeps v
  have plk : (updateReady v).pair.plk = v.pair.plk := (congrArg Pair.plk judged.pair :)
  rw [plk, judged.clk, up_of_tenure left, lanes_of_tenure left, awaiting_of_tenure left (by rw [uPlk]), clk_of_tenure left, uPlk]
  exact ⟨rfl, rfl, rfl, uClk⟩

theorem plkLost_link (lost : Bool) {s : Rc8} (up : s.pair.plk.up = true) : (plkLost lost s).pair.plk.up = false ∧
    (plkLost lost s).pair.plk.lanes = 0 ∧ (plkLost lost s).pair.plk.awaiting = [] ∧
    (lost = false → s.pair.plk.lastRx + 50000 ≤ (plkLost lost s).clk.refosc) := by
  cases lost
  case true =>
    obtain ⟨down, lanes, awaiting, -⟩ := plkDown_link 1 up
    exact ⟨down, lanes, awaiting, by simp⟩
  case false =>
    obtain ⟨down, lanes, awaiting, clk⟩ := plkDown_link 2 (s := atRefosc (s.pair.plk.lastRx + 50000) s) up
    refine ⟨down, lanes, awaiting, fun _ => ?_⟩
    have due := le_atRefosc (s.pair.plk.lastRx + 50000) s
    rw [← clk] at due
    exact due

/-! ### The link comes up (10 R307, R310, R336) -/

/-- What the two modules tell each other as their link comes up leaves all but what the link counts. -/
def Rc8.greeting (s : Rc8) : Pair × Vector FwSlots 6 := (s.pair.unsent, s.nv.parts)

theorem plkSend_greeting (k g : Nat) (b : PlkBody) (s : Rc8) : (plkSend k g b s).greeting = s.greeting := by
  have sent := plkSend_keeps k g b s
  simp only [Rc8.greeting, sent.pair, sent.parts]
theorem resendDeletes_greeting (s : Rc8) : (resendDeletes s).greeting = s.greeting := by
  have one : ∀ (n : Fin 2) (r : Rc8) (id : Nat), (resendDelete n r id).greeting = r.greeting := fun n r id =>
    Eq.trans (b := (plkSend 0x20 0 (.apply (.command 0x0413 (le 1 n.val ++ zeros 1 ++ le 2 id)) 0) r).greeting) rfl (plkSend_greeting ..)
  exact foldl_keeps Rc8.greeting _ (fun r n => foldl_keeps Rc8.greeting _ (one n) _ r) bothNets s
theorem sendMaps_greeting (s : Rc8) : (sendMaps s).greeting = s.greeting := by
  refine foldl_keeps Rc8.greeting _ (fun r n => ?_) bothNets s
  unfold sendMap
  dsimp only
  split
  · exact plkSend_greeting ..
  · rfl
theorem compatibility_greeting (level : Nat) (splitEqual : Bool) (s : Rc8) : (compatibility level splitEqual s).greeting = s.greeting := by
  unfold compatibility
  dsimp only
  split
  · rfl
  · split <;> rfl

/-- A transfer makes the items equal where the split settings are. -/
theorem sendTransfer_equalItems (s : Rc8) : (sendTransfer s).pair.partner.equalItems =
    if holdsToken s && s.pair.partner.present && s.pair.plk.up && s.pair.partner.level == pairLevel s && !s.pair.partner.equalItems
      then s.pair.partner.split else s.pair.partner.equalItems := by
  have sent : (sendItems (transferItems s) s).pair.partner = s.pair.partner := (congrArg Pair.partner (sendItems_keeps (transferItems s) s).pair :)
  unfold sendTransfer
  split
  · rw [modPair_pair, sent]
  · rfl

/-- A resync that starts leaves the items as they are where this module transfers nothing, or has transferred all. -/
theorem startResync_equalItems (cause : Nat) {s : Rc8} (settled : holdsToken s = false ∨ s.pair.partner.equalItems = s.pair.partner.split) :
    (startResync cause s).pair.partner.equalItems = s.pair.partner.equalItems := by
  have transfers : ∀ r : Rc8, r.pair.token = s.pair.token → r.pair.partner = s.pair.partner →
      (sendTransfer r).pair.partner.equalItems = s.pair.partner.equalItems := by
    intro r token partner
    rw [sendTransfer_equalItems, partner, holdsToken_of_token token]
    rcases settled with standby | equal
    · simp [standby]
    · simp [equal]
  have passes : ∀ r : Rc8, r.pair.token = s.pair.token → r.pair.partner = s.pair.partner →
      (firstPass r).pair.partner.equalItems = s.pair.partner.equalItems := by
    intro r token partner
    unfold firstPass
    split
    · rw [partner]
    · have copied : (copyPass (sendTransfer r)).pair.partner = (sendTransfer r).pair.partner := (congrArg Pair.partner (sendItems_keeps ..).pair :)
      rw [copied]
      exact transfers r token partner
  unfold startResync
  extract_lets s0
  have token : s0.pair.token = s.pair.token := by
    unfold s0
    split <;> rfl
  have partner : s0.pair.partner = s.pair.partner := by
    unfold s0
    split <;> rfl
  split
  · exact passes _ token partner
  · exact congrArg Partner.equalItems partner

/-- A link that has just come up, with what the training tells of the partner. -/
structure LinkUp (lanes level : Nat) (splitEqual equal : Bool) (s t : Rc8) : Prop where
  up : t.pair.plk.up = true
  lanes : t.pair.plk.lanes = lanes
  rx : t.pair.plk.rx = []
  partner : t.pair.partner = { s.pair.partner with present := true, level := level, split := splitEqual, equalItems := equal && splitEqual }
  token : t.pair.token = s.pair.token
  parts : t.nv.parts = s.nv.parts

theorem LinkUp.congr {lanes level : Nat} {splitEqual equal : Bool} {s t u : Rc8} (h : LinkUp lanes level splitEqual equal s t)
    (plk : u.pair.plk = t.pair.plk) (partner : u.pair.partner = t.pair.partner) (token : u.pair.token = t.pair.token)
    (parts : u.nv.parts = t.nv.parts) : LinkUp lanes level splitEqual equal s u :=
  ⟨plk ▸ h.up, plk ▸ h.lanes, plk ▸ h.rx, partner.trans h.partner, token.trans h.token, parts.trans h.parts⟩

theorem LinkUp.of_greeting {lanes level : Nat} {splitEqual equal : Bool} {s t u : Rc8} (h : LinkUp lanes level splitEqual equal s t)
    (g : u.greeting = t.greeting) : LinkUp lanes level splitEqual equal s u := by
  simp only [Rc8.greeting, Prod.mk.injEq] at g
  obtain ⟨pair, parts⟩ := g
  have up : u.pair.plk.up = t.pair.plk.up := (congrArg (·.plk.up) pair :)
  have lanes : u.pair.plk.lanes = t.pair.plk.lanes := (congrArg (·.plk.lanes) pair :)
  have rx : u.pair.plk.rx = t.pair.plk.rx := (congrArg (·.plk.rx) pair :)
  have partner : u.pair.partner = t.pair.partner := (congrArg Pair.partner pair :)
  have token : u.pair.token = t.pair.token := (congrArg Pair.token pair :)
  exact ⟨up.trans h.up, lanes.trans h.lanes, rx.trans h.rx, partner.trans h.partner, token.trans h.token, parts.trans h.parts⟩

/-- What of the pair a transfer, a resync that goes on and readiness that is judged anew leave alike. -/
def Pair.acquainted (q : Pair) : Bool × Nat × List (Nat × Nat) × Bool × Nat × Bool :=
  (q.plk.up, q.plk.lanes, q.plk.rx, q.partner.present, q.partner.level, q.partner.split)

/-- What the training leaves: the link up, its partner present, and step 5 of the insertion ended. -/
def trained (lanes ms level : Nat) (splitEqual equal : Bool) (s : Rc8) : Rc8 :=
  let s2 := partnerPresent 1 (raise { src := 62, reason := 0x01, sev := .notice, p0 := lanes, p1 := ms, p2 := 0 }
    (modPair (fun q => { q with plk := { q.plk with up := true, lanes := lanes, rx := [], awaiting := [], lastTx := s.clk.refosc, lastRx := s.clk.refosc },
                                partner := { q.partner with level := level, split := splitEqual, equalItems := equal && splitEqual } }) s))
  if s.pair.training.isSome then
    raise { src := 63, reason := 0x04, sev := .info, p0 := 5, p1 := ms, p2 := 0 }
      (modPair (fun q => { q with training := none, stepFailed := stepClears 5 q.stepFailed }) s2)
  else s2

theorem trained_linkUp (lanes ms level : Nat) (splitEqual equal : Bool) (s : Rc8) :
    LinkUp lanes level splitEqual equal s (trained lanes ms level splitEqual equal s) := by
  unfold trained
  extract_lets s2
  have footing : s2.footing = _ := partnerPresent_footing 1 _
  simp only [Rc8.footing, Prod.mk.injEq, raise_pair, modPair_pair, raise_nv, modPair_nv] at footing
  obtain ⟨pair, -, -, parts⟩ := footing
  have present : LinkUp lanes level splitEqual equal s s2 :=
    { up := by rw [pair], lanes := by rw [pair], rx := by rw [pair], partner := by rw [pair], token := by rw [pair], parts := parts }
  split
  · exact present.congr (by rw [raise_pair, modPair_pair]) (by rw [raise_pair, modPair_pair]) (by rw [raise_pair, modPair_pair]) rfl
  · exact present

/-- A link that was down and has trained is up, with its partner present; a holder transfers the items that differ. -/
theorem plkUp_link {lanes : Nat} (ms level : Nat) (splitEqual equal : Bool) {s : Rc8} (down : s.pair.plk.up = false) (some_ : lanes ≠ 0) :
    (plkUp lanes ms level splitEqual equal s).pair.plk.up = true ∧ (plkUp lanes ms level splitEqual equal s).pair.plk.lanes = lanes ∧
    (plkUp lanes ms level splitEqual equal s).pair.plk.rx = [] ∧ (plkUp lanes ms level splitEqual equal s).pair.partner.present = true ∧
    (plkUp lanes ms level splitEqual equal s).pair.partner.level = level ∧
    (holdsToken s = false → (plkUp lanes ms level splitEqual equal s).pair.partner.equalItems = (equal && splitEqual)) ∧
    (holdsToken s = true → level = pairLevel s → (plkUp lanes ms level splitEqual equal s).pair.partner.equalItems = splitEqual) := by
  have comesUp : plkUp lanes ms level splitEqual equal s = updateReady (resumeResync (sendTransfer (sendMaps (resendDeletes
      (compatibility level splitEqual (trained lanes ms level splitEqual equal s)))))) := by
    unfold plkUp
    rw [if_neg (by simp [down, some_])]
    extract_lets now s1 s2 s3 s4
    have training : s3 = trained lanes ms level splitEqual equal s := rfl
    rw [← training]
  rw [comesUp]
  have greeted := (trained_linkUp lanes ms level splitEqual equal s).of_greeting
    ((sendMaps_greeting _).trans ((resendDeletes_greeting _).trans (compatibility_greeting level splitEqual _)))
  generalize sendMaps _ = u at greeted
  have judged := (updateReady_keeps (resumeResync (sendTransfer u))).pair
  have transfer := (sendTransfer_keeps u).pair
  have resumed : PairKeeps Pair.unsynced (sendTransfer u) (resumeResync (sendTransfer u)) := .ite (startResync_keeps ..) .refl
  have resync := resumed.pair
  have equalItems : holdsToken u = false ∨ (sendTransfer u).pair.partner.equalItems = (sendTransfer u).pair.partner.split →
      (resumeResync (sendTransfer u)).pair.partner.equalItems = (sendTransfer u).pair.partner.equalItems := by
    intro settled
    have token : (sendTransfer u).pair.token = u.pair.token := (congrArg Pair.token transfer :)
    unfold resumeResync
    split
    · exact startResync_equalItems _ (settled.imp_left fun standby => (holdsToken_of_token token).trans standby)
    · rfl
  have transferred := sendTransfer_equalItems u
  generalize resumeResync (sendTransfer u) = w at judged resync equalItems ⊢
  generalize sendTransfer u = v at transfer resync equalItems transferred
  have left : (updateReady w).pair.acquainted = u.pair.acquainted :=
    (congrArg Pair.acquainted judged :).trans ((congrArg Pair.acquainted resync :).trans (congrArg Pair.acquainted transfer :))
  simp only [Pair.acquainted, Prod.mk.injEq, greeted.up, greeted.lanes, greeted.rx, greeted.partner] at left
  obtain ⟨up, lanes', rx, present, level', -⟩ := left
  have split : v.pair.partner.split = u.pair.partner.split := (congrArg (·.partner.split) transfer :)
  have items : (updateReady w).pair.partner.equalItems = w.pair.partner.equalItems := (congrArg (·.partner.equalItems) judged :)
  have holds : holdsToken u = holdsToken s := holdsToken_of_token greeted.token
  have levels : pairLevel u = pairLevel s := by simp only [pairLevel, greeted.parts]
  simp only [holds, greeted.up, greeted.partner, levels] at transferred split equalItems
  refine ⟨up, lanes', rx, present, level', fun standby => ?_, fun holder equalLevels => ?_⟩
  · rw [items, equalItems (.inl standby), transferred]
    simp [standby]
  · have same : v.pair.partner.equalItems = splitEqual := by
      rw [transferred]
      cases equal <;> cases splitEqual <;> simp [holder, equalLevels]
    rw [items, equalItems (.inr (same.trans split.symm)), same]

/-! ### Messages of the link itself (10 R307, R308) -/

/-- A keepalive is one message without a body, 10 µs after the last one. -/
theorem keepaliveSend_sends {s : Rc8} (up : s.pair.plk.up = true) :
    (∃ q, (keepaliveSend s).out = s.out ++ [.plk 0x3F 0 q s.rnd.round .none (plkWire 0x3F 0 q s.rnd.round .none)]) ∧
    (keepaliveSend s).pair.plk.lastTx = (keepaliveSend s).clk.refosc ∧ s.pair.plk.lastTx + 10000 ≤ (keepaliveSend s).clk.refosc := by
  have late : (atRefosc (s.pair.plk.lastTx + 10000) s).pair.plk.up = true := by rw [atRefosc_pair]; exact up
  have sends : keepaliveSend s = plkMessage 0x3F 0 .none (atRefosc (s.pair.plk.lastTx + 10000) s) := by
    unfold keepaliveSend plkSend
    rw [if_pos up, if_pos late]
    rfl
  rw [sends]
  exact ⟨⟨plkNextSeq 0x3F (atRefosc (s.pair.plk.lastTx + 10000) s), rfl⟩, rfl, le_atRefosc ..⟩

/-- The oldest message that awaits its acknowledgement goes out again, 20 µs after it did. -/
theorem retransmit_again {s : Rc8} {x : PlkAwait} {rest : List PlkAwait} (awaits : s.pair.plk.awaiting = x :: rest) (few : x.tries < 3) :
    (retransmit s).pair.plk.awaiting = rest ++ [{ x with tries := x.tries + 1, since := (retransmit s).clk.refosc }] ∧
    (retransmit s).out = s.out ++ [.plk x.type x.flags x.seq x.round x.body (plkWire x.type x.flags x.seq x.round x.body)] ∧
    x.since + 20000 ≤ (retransmit s).clk.refosc ∧ (retransmit s).pair.plk.up = s.pair.plk.up := by
  unfold retransmit
  rw [awaits]
  dsimp only
  rw [if_pos few]
  exact ⟨rfl, rfl, le_atRefosc (x.since + 20000) s, rfl⟩
theorem retransmit_fails {s : Rc8} {x : PlkAwait} {rest : List PlkAwait} (awaits : s.pair.plk.awaiting = x :: rest) (many : 3 ≤ x.tries) :
    retransmit s = plkDown 3 (atRefosc (x.since + 20000) s) := by
  unfold retransmit
  rw [awaits]
  exact if_neg (by omega)

theorem laneDegraded_lanes (lane : Fin 2) {s : Rc8} (up : s.pair.plk.up = true) :
    (laneDegraded lane s).pair = { s.pair with plk := { s.pair.plk with lanes := 1 } } := by
  unfold laneDegraded
  rw [if_pos up, raise_pair, modPair_pair]

end Sys2Proof.Machine
end

section
/-! SUPPORT. Messages that do not act, and what the standby takes at once of its holder (10 R308, R310, R319, R327; 11 R364; 15 R484). -/

namespace Sys2Proof.Machine

open Sys2Proof

/-! ### Messages that do not act (10 R308, R310) -/

section rows
variable (s : State) (h : PlkHdr) (l : List DigestRec) (m : RelMsg) (y : CycMsg) (c : ConfirmMsg) (op : PairOp) (round task : Nat)
  (data : List Byte) (stored : Bool)

/-- The rows by which a message of the pair link arrives. -/
def messageRows : List Instr :=
  [.digestMessage h l, .releaseMessage h m, .cycleEndMessage h y, .confirmMessage h c, .applyMessage h op round stored, .serviceMessage h task data,
   .keepaliveMessage h]

/-- Each of them receives its message. -/
theorem exec_messageRows (short : l.length ≤ 64) : ∀ i ∈ messageRows h l m y c op round task data stored,
    ∃ type f, exec i s = act (plkReceive type h f) s := by
  have digest : exec (.digestMessage h l) s = act (plkReceive 0x02 h fun s => l.foldl (compareDigest 1) s) s :=
    actIf_eq (decide_eq_true short) ..
  intro i listed
  simp only [messageRows, List.mem_cons, List.not_mem_nil, or_false] at listed
  rcases listed with rfl | rfl | rfl | rfl | rfl | rfl | rfl
  · exact ⟨_, _, digest⟩
  all_goals exact ⟨_, _, rfl⟩

end rows

theorem plkReceive_down {s : Rc8} (down : s.pair.plk.up = false) (type : Nat) (h : PlkHdr) (f : Rc8 → Rc8) : plkReceive type h f s = s :=
  if_pos (by simp [down])
theorem plkReceive_badCrc {s : Rc8} {h : PlkHdr} (up : s.pair.plk.up = true) (bad : h.crcOk = false) (type : Nat) (f : Rc8 → Rc8) :
    plkReceive type h f s = plkCrcError type s := by
  simp [plkReceive, up, bad]

/-- A reliable message that has come before is acknowledged again and no more. -/
theorem plkReceive_again {s : Rc8} {h : PlkHdr} {type : Nat} (up : s.pair.plk.up = true) (crc : h.crcOk = true) (message : h.ack = false)
    (reliable : plkReliable type = true) (known : (type, h.seq) ∈ s.pair.plk.rx) (f : Rc8 → Rc8) :
    plkReceive type h f s = plkAck type h (heard s) := by
  have again : s.pair.plk.rx.contains (type, h.seq) = true := by simpa using known
  simp only [plkReceive, up, crc, message, reliable, again, Bool.not_true, Bool.false_eq_true, if_false, if_true]
  rfl

/-- A message with a wrong CRC counts, and changes nothing else of the pair. -/
theorem plkCrcError_pair (type : Nat) (s : Rc8) :
    (plkCrcError type s).pair = { s.pair with plk := { s.pair.plk with crcErrors := min 0xFFFFFFFF (s.pair.plk.crcErrors + 1) } } := by
  rw [plkCrcError, raiseLimited_pair, modPair_pair, inc32_eq]
theorem plkCrcError_run (type : Nat) (s : Rc8) : (plkCrcError type s).run = s.run := by
  rw [plkCrcError, raiseLimited_run, modPair_run]

/-! ### What the messages of a resync leave (10 R327, R336, R342) -/

theorem plkSend_verdict (k g : Nat) (b : PlkBody) (s : Rc8) : (plkSend k g b s).pair.verdict = s.pair.verdict :=
  (congrArg Pair.verdict (plkSend_keeps k g b s).pair :)
theorem copyFailed_leaves (s : Rc8) : (copyFailed s).nv.banks = s.nv.banks ∧ (copyFailed s).pair.verdict =
    (s.pair.synced, s.pair.mismatch, s.pair.mismatches, { s.pair.resync with running := false, requested := true }) := by
  unfold copyFailed
  extract_lets s1
  have banks : s1.nv.banks = s.nv.banks := (plkSend_keeps ..).banks
  have stopped : s1.pair.verdict = _ := plkSend_verdict 0x21 0 (.copied false) (modPair _ s)
  clear_value s1
  split
  · exact ⟨banks, stopped⟩
  · exact ⟨banks, stopped⟩
theorem takeItems_bank (b : Fin 2) (x : Bank) (s : Rc8) :
    (takeItems [.bank b x] s).nv.banks = vmod s.nv.banks b (fun _ => x) ∧ (takeItems [.bank b x] s).pair = s.pair := by
  unfold takeItems
  dsimp only
  split <;> exact ⟨rfl, rfl⟩
theorem takeMode_leaves (s : Rc8) : (takeMode s).pair = s.pair ∧ (takeMode s).run.started = s.run.started := by
  unfold takeMode
  dsimp only
  split <;> exact ⟨rfl, rfl⟩

/-! ### The standby takes a message (10 R319, R327) -/

section standby
variable {s : Rc8} (standby : isStandby s = true)
include standby

theorem forwarded_acts {h : PlkHdr} (runs : dmaStopped 14 s = false) (now : h.round = s.rnd.round) (f : Rc8 → Rc8) : forwarded h f s = f s :=
  if_pos (by simp [standby, runs, now])

/-- The results of a task's services wait for it, and its oldest request is no more in flight. -/
theorem serviceReceived_task {task : Nat} (isTask : task < 8) (data : List Byte) :
    (serviceReceived task data s).pair.services = s.pair.services ++ [(task, data)] ∧ (serviceReceived task data s).can = s.can := by
  unfold serviceReceived
  rw [if_neg (by simp [standby]), if_pos isTask]
  exact ⟨rfl, rfl⟩

/-- A page that fails its verification stops the copy. -/
theorem stateCopy_fails (runs : dmaStopped 14 s = false) {items : List CopyItem} (holders : items.all CopyItem.fromAny = false) :
    (stateCopy items false s).nv.banks = s.nv.banks ∧ (stateCopy items false s).pair.resync.running = false ∧
    (stateCopy items false s).pair.resync.requested = true := by
  have fails : stateCopy items false s = updateReady (copyFailed s) := by
    simp [stateCopy, runs, holders, standby]
  obtain ⟨banks, verdict⟩ := copyFailed_leaves s
  have judged := (updateReady_verdict (copyFailed s)).trans verdict
  rw [fails, (updateReady_keeps _).banks, banks]
  generalize updateReady (copyFailed s) = t at judged ⊢
  have resync : t.pair.resync = { s.pair.resync with running := false, requested := true } := congrArg (·.2.2.2) judged
  rw [resync]
  exact ⟨rfl, rfl, rfl⟩

/-- A bank that is copied stands as the holder has it, and the resync goes on. -/
theorem stateCopy_bank (runs : dmaStopped 14 s = false) (b : Fin 2) (x : Bank) :
    ((stateCopy [.bank b x] true s).nv.banks[b]) = x ∧ (stateCopy [.bank b x] true s).pair.resync.running = true ∧
    (stateCopy [.bank b x] true s).pair.resync.requested = false := by
  have copies : stateCopy [.bank b x] true s = updateReady (takeItems [.bank b x]
      (modPair (fun q => { q with resync := { q.resync with requested := false, running := true } }) s)) := by
    simp [stateCopy, runs, standby, CopyItem.fromAny]
  rw [copies]
  generalize goesOn : modPair _ s = r
  have going : r.pair.resync = { s.pair.resync with requested := false, running := true } := by rw [← goesOn, modPair_pair]
  obtain ⟨banks, pair⟩ := takeItems_bank b x r
  have judged := updateReady_verdict (takeItems [.bank b x] r)
  rw [pair] at judged
  rw [(updateReady_keeps _).banks, banks]
  generalize updateReady (takeItems [.bank b x] r) = t at judged ⊢
  have resync : t.pair.resync = { s.pair.resync with requested := false, running := true } := (congrArg (·.2.2.2) judged).trans going
  rw [resync]
  exact ⟨by simp, rfl, rfl⟩

/-- The final pass synchronises the standby, and its runtime has started. -/
theorem copyDone_final (round pages : Nat) : (copyDone round true pages s).pair.synced = true ∧ (copyDone round true pages s).pair.mismatch = false ∧
    (copyDone round true pages s).pair.resync.running = false ∧ (copyDone round true pages s).run.started = true := by
  have done : copyDone round true pages s = resyncDone round s := by
    simp [copyDone, standby]
  rw [done]
  unfold resyncDone
  extract_lets ms s1
  have synced : s1.pair.synced = true ∧ s1.pair.mismatch = false ∧ s1.pair.resync.running = false := ⟨rfl, rfl, rfl⟩
  generalize begun : modRun _ _ = r
  have rPair : r.pair = s1.pair := by rw [← begun]; rfl
  have rStarted : r.run.started = true := by rw [← begun]; rfl
  obtain ⟨mPair, mStarted⟩ := takeMode_leaves r
  generalize takeMode r = u at mPair mStarted
  have judged := (updateReady_verdict _).trans (plkSend_verdict 0x21 0 (.copied true) u)
  have run := (updateReady_keeps (plkSend 0x21 0 (.copied true) u)).run.trans (plkSend_keeps ..).run
  rw [mPair, rPair] at judged
  generalize updateReady _ = t at judged run ⊢
  obtain ⟨done, equal, stopped⟩ := synced
  refine ⟨(congrArg (·.1) judged :).trans done, (congrArg (·.2.1) judged :).trans equal, ?_, ?_⟩
  · exact (congrArg (·.2.2.2.running) judged :).trans stopped
  · exact (congrArg Runtime.started run).trans (mStarted.trans rStarted)

theorem copyDone_further (round pages : Nat) : (copyDone round false pages s).pair.synced = s.pair.synced ∧
    (copyDone round false pages s).pair.resync.passes = s.pair.resync.passes + 1 ∧ (copyDone round false pages s).pair.resync.pages = pages := by
  have further : copyDone round false pages s = modPair (fun q => { q with resync := { q.resync with passes := q.resync.passes + 1, pages := pages } }) s := by
    simp [copyDone, standby]
  rw [further, modPair_pair]
  exact ⟨rfl, rfl, rfl⟩

end standby

end Sys2Proof.Machine
end

section
/-! SUPPORT. The standby's shadow tasks: what a release and a cycle end of the holder do to them (10 R319, R321, R322). -/

namespace Sys2Proof.Machine

open Sys2Proof

/-! ### A step over all tasks that acts at one of them -/

theorem foldl_still {α : Type} {g : Rc8 → α → Rc8} {s : Rc8} {l : List α} (still : ∀ x ∈ l, g s x = s) : l.foldl g s = s := by
  induction l with
  | nil => rfl
  | cons x l ih =>
    rw [List.foldl_cons, still x List.mem_cons_self]
    exact ih fun y listed => still y (List.mem_cons_of_mem _ listed)

theorem foldl_only {g : Rc8 → Fin 8 → Rc8} {s : Rc8} {k : Fin 8} (before : ∀ j, j ≠ k → g s j = s) (after_ : ∀ j, j ≠ k → g (g s k) j = g s k) :
    allTasks.foldl g s = g s k := by
  have listed : ∀ j : Fin 8, j ∈ allTasks := by decide
  obtain ⟨l, r, split⟩ := List.append_of_mem (listed k)
  have once : (l ++ k :: r).Nodup := split ▸ (by decide : allTasks.Nodup)
  obtain ⟨-, -, apart⟩ := List.nodup_append.1 once
  have left : ∀ j ∈ l, j ≠ k := fun j inLeft => apart j inLeft k List.mem_cons_self
  have right : ∀ j ∈ r, j ≠ k := fun j inRight same => (List.nodup_cons.1 (List.nodup_append.1 once).2.1).1 (same ▸ inRight)
  rw [split, List.foldl_append, foldl_still fun j inLeft => before j (left j inLeft), List.foldl_cons]
  exact foldl_still fun j inRight => after_ j (right j inRight)

/-! ### Nothing waits -/

theorem shadowOne_idle {s : Rc8} {k : Fin 8} (idle : (s.run.tasks[k]).held = []) : shadowOne k s = s := by
  unfold shadowOne
  rw [idle]
theorem shadowAll_idle {s : Rc8} (idle : ∀ k : Fin 8, (s.run.tasks[k]).held = []) : shadowAll s = s := foldl_still fun k _ => shadowOne_idle (idle k)
theorem endParked_idle {s : Rc8} {k : Fin 8} (idle : (s.run.tasks[k]).parked = none) : endParked k s = s := by
  unfold endParked
  rw [idle]

/-- With no cycle that waits for its end, only releases go on. -/
theorem shadowOn_unparked {s : Rc8} (idle : ∀ k : Fin 8, (s.run.tasks[k]).parked = none) : shadowOn s = shadowAll s :=
  congrArg shadowAll (foldl_still fun k _ => endParked_idle (idle k))

/-! ### A shadow lag (10 R322) -/

/-- A shadow cycle that still runs at the next release is a lag, and a resync starts. -/
def shadowLag (round : Nat) (m : RelMsg) (s : Rc8) : Rc8 :=
  updateReady (startResync 3 (raise { src := 61, reason := 0x08, sev := .error, p0 := m.task, p1 := lo32 round, p2 := 0 } (modPair (fun q => { q with lag := true }) s)))

theorem shadowLag_leaves {s : Rc8} (standby : isStandby s = true) (round : Nat) (m : RelMsg) : (shadowLag round m s).run = s.run ∧
    (shadowLag round m s).pair.releases = s.pair.releases ∧ (shadowLag round m s).pair.lag = true ∧ (shadowLag round m s).pair.resync.cause = 3 := by
  unfold shadowLag
  generalize lags : raise _ (modPair _ s) = u
  have uPair : u.pair = { s.pair with lag := true } := by rw [← lags, raise_pair, modPair_pair]
  have uRun : u.run = s.run := by rw [← lags, raise_run, modPair_run]
  have uStandby : isStandby u = true := (isStandby_of_token (by rw [uPair])).trans standby
  obtain ⟨-, -, -, cause⟩ := startResync_standby uStandby 3
  have resync := startResync_keeps 3 u
  have releases : (startResync 3 u).pair.releases = u.pair.releases := (congrArg Pair.releases resync.pair :)
  have lag : (startResync 3 u).pair.lag = u.pair.lag := (congrArg Pair.lag resync.pair :)
  have resyncRun := resync.run
  generalize startResync 3 u = v at cause releases lag resyncRun
  have judged := updateReady_keeps v
  have jReleases : (updateReady v).pair.releases = v.pair.releases := (congrArg Pair.releases judged.pair :)
  have jLag : (updateReady v).pair.lag = v.pair.lag := (congrArg Pair.lag judged.pair :)
  have jCause : (updateReady v).pair.resync = v.pair.resync := (congrArg Pair.resync judged.pair :)
  rw [judged.run, resyncRun, uRun, jReleases, releases, jLag, lag, jCause, cause, uPair]
  exact ⟨rfl, rfl, rfl, rfl⟩

/-! ### RELEASE (10 R321, R322) -/

/-- A release acts on no standby that is not synchronised or decides itself. -/
theorem releaseReceived_dropped {s : Rc8} (own : s.pair.synced = false ∨ ownDecides s = true) (round : Nat) (m : RelMsg) :
    releaseReceived round m s = s := by
  refine if_neg ?_
  rcases own with waits | decides
  · simp [waits]
  · simp [decides]

/-- A change of one task leaves every other. -/
theorem modTask_other {k j : Fin 8} (other : j ≠ k) (f : Task → Task) (s : Rc8) : (modTask k f s).run.tasks[j] = s.run.tasks[j] := by
  simp [Fin.val_ne_of_ne other.symm]

/-- A release that a standby skips is an overrun of its task, and changes no other task. -/
theorem skipRelease_tasks (k : Fin 8) {s : Rc8} (standby : isStandby s = true) :
    ((skipRelease k s).run.tasks[k]).held = (s.run.tasks[k]).held ∧ ((skipRelease k s).run.tasks[k]).overran = true ∧
    ((skipRelease k s).run.tasks[k]).seq = (s.run.tasks[k]).seq ∧ ∀ j, j ≠ k → (skipRelease k s).run.tasks[j] = s.run.tasks[j] := by
  unfold skipRelease
  extract_lets n s1 rule s2
  have run1 : s1.run = (modTask k (fun x => { x with overran := true, consec := n, overruns := inc32 x.overruns }) s).run := raiseLimited_run ..
  have pair1 : s1.pair = s.pair := raiseLimited_pair ..
  have overran : (s1.run.tasks[k]).held = (s.run.tasks[k]).held ∧ (s1.run.tasks[k]).overran = true ∧
      (s1.run.tasks[k]).seq = (s.run.tasks[k]).seq ∧ ∀ j, j ≠ k → s1.run.tasks[j] = s.run.tasks[j] := by
    rw [run1]
    exact ⟨by simp, by simp, by simp, fun j other => modTask_other other _ s⟩
  have run2 : s2.run = (modTask k (fun x => { x with limitRaised := true }) s1).run := raise_run ..
  have pair2 : s2.pair = s.pair := (raise_pair ..).trans pair1
  have raised : (s2.run.tasks[k]).held = (s.run.tasks[k]).held ∧ (s2.run.tasks[k]).overran = true ∧
      (s2.run.tasks[k]).seq = (s.run.tasks[k]).seq ∧ ∀ j, j ≠ k → s2.run.tasks[j] = s.run.tasks[j] := by
    obtain ⟨held, overruns, seq, others⟩ := overran
    rw [run2]
    refine ⟨?_, ?_, ?_, fun j other => (modTask_other other _ s1).trans (others j other)⟩
    · simpa using held
    · simpa using overruns
    · simpa using seq
  have stays : faultStop 3 s2 = s2 := if_pos ((isStandby_of_token (congrArg Pair.token pair2)).trans standby)
  rw [stays, ite_self]
  split
  · exact raised
  · exact overran

/-- A cycle that begins runs its task on a snapshot of the times it is given, under the next sequence, and changes no other task. -/
theorem beginWith_tasks (k : Fin 8) (debug : Bool) (time mono : Nat) (motion station : List Byte) (s : Rc8) :
    ((beginWith k debug time mono motion station s).run.tasks[k]).held = (s.run.tasks[k]).held ∧
    ((beginWith k debug time mono motion station s).run.tasks[k]).st = .running ∧
    ((beginWith k debug time mono motion station s).run.tasks[k]).snap.time = time ∧
    ((beginWith k debug time mono motion station s).run.tasks[k]).snap.mono = mono ∧
    ((beginWith k debug time mono motion station s).run.tasks[k]).seq = ((s.run.tasks[k]).seq + 1) % 2 ^ 64 ∧
    ∀ j, j ≠ k → (beginWith k debug time mono motion station s).run.tasks[j] = s.run.tasks[j] := by
  unfold beginWith
  extract_lets im s1 s2 s3
  have run1 : s1.run = s.run := by
    unfold s1
    split <;> rfl
  have run2 : s2.run = s1.run := by
    unfold s2
    split <;> rfl
  have run3 : s3.run = s.run := run2.trans run1
  refine ⟨?_, by simp, by simp, by simp, ?_, fun j other => (modTask_other other _ s3).trans (by rw [run3])⟩
  · simp [run3]
  · simp [run3]

/-- A standby with a release of the holder kept. -/
def withRelease (m : RelMsg) (s : Rc8) : Rc8 := modPair (fun q => { q with releases := q.releases ++ [m] }) s

/-- A standby whose task waits for no release any more, and that has none of the holder's left. -/
def taken (k : Fin 8) (s : Rc8) : Rc8 := modTask k (fun x => { x with held := [] }) (modPair (fun q => { q with releases := [] }) s)

section release
variable {s : Rc8} (standby : isStandby s = true) (synced : s.pair.synced = true) (follows : ownDecides s = false) (mode : s.run.mode ≠ .layby)
  (unparked : ∀ k : Fin 8, (s.run.tasks[k]).parked = none)
include standby synced follows mode unparked

/-- Any other standby keeps the release for what waits for it, and a cycle that still runs is a lag. -/
theorem releaseReceived_kept (round : Nat) (m : RelMsg) : releaseReceived round m s =
    if m.released && stillRuns m.task round s then shadowLag round m (shadowAll (withRelease m s))
      else shadowAll (withRelease m s) := by
  have goesOn : shadowOn (withRelease m s) = shadowAll (withRelease m s) := shadowOn_unparked unparked
  unfold releaseReceived
  rw [if_pos (by simp [standby, synced, follows])]
  extract_lets s1
  have shadows : s1 = shadowAll (withRelease m s) := (if_neg mode).trans goesOn
  rw [shadows]
  rfl

/-- One that waits for no task is kept. -/
theorem releaseReceived_waits (idle : ∀ k : Fin 8, (s.run.tasks[k]).held = []) (round : Nat) (m : RelMsg) :
    (releaseReceived round m s).pair.releases = s.pair.releases ++ [m] ∧ (releaseReceived round m s).run = s.run ∧
    (m.released = true → stillRuns m.task round s = true →
      (releaseReceived round m s).pair.lag = true ∧ (releaseReceived round m s).pair.resync.cause = 3) := by
  have still : shadowAll (withRelease m s) = withRelease m s := shadowAll_idle idle
  have releases : (withRelease m s).pair.releases = s.pair.releases ++ [m] := by rw [withRelease, modPair_pair]
  have run : (withRelease m s).run = s.run := modPair_run ..
  rw [releaseReceived_kept standby synced follows mode unparked, still]
  obtain ⟨lagRun, lagReleases, lag, cause⟩ := shadowLag_leaves (s := withRelease m s) standby round m
  split
  next => exact ⟨lagReleases.trans releases, lagRun.trans run, fun _ _ => ⟨lag, cause⟩⟩
  next fits => exact ⟨releases, run, fun released runs => absurd (by simp [released, runs]) fits⟩

section held
variable {k : Fin 8} {x : Nat × Nat × Nat} {m : RelMsg} (task : m.task = k.val) (held : (s.run.tasks[k]).held = [x])
  (others : ∀ j : Fin 8, j ≠ k → (s.run.tasks[j]).held = []) (none_ : s.pair.releases = [])
include task held others none_

omit synced mode unparked others in
/-- The one release that waits takes the holder's decision: its cycle is skipped, or begins with the holder's times and images. -/
theorem shadowOne_takes {y : List Byte × List Byte} :
    (m.released = false → shadowOne k (withRelease m s) = skipRelease k (taken k s)) ∧
    (m.released = true → (s.run.tasks[k]).st = .waiting → codeWaits s = false → contentCame s = true → shadowImages k m s = some y →
      shadowOne k (withRelease m s) = beginWith k false m.time m.mono y.1 y.2 (taken k s)) := by
  have waits : ((withRelease m s).run.tasks[k]).held = [x] := held
  have takes : takeRelease k (withRelease m s) = (some m, modPair (fun q => { q with releases := [] }) s) := by
    simp [takeRelease, withRelease, none_, task]
    rfl
  have holders : (ownDecides (withRelease m s) || !isStandby (withRelease m s)) = false := by
    have decides : ownDecides (withRelease m s) = false := follows
    have second : isStandby (withRelease m s) = true := standby
    rw [decides, second]
    rfl
  unfold shadowOne
  rw [waits, takes, holders]
  dsimp only
  rw [if_neg Bool.false_ne_true]
  refine ⟨fun skips => if_pos skips, fun releases waiting code content images => ?_⟩
  have ready : (codeWaits (withRelease m s) || !contentCame (withRelease m s)) = false := by
    have rules : codeWaits (withRelease m s) = false := code
    have came : contentCame (withRelease m s) = true := content
    rw [rules, came]
    rfl
  have chosen : shadowImages k m (withRelease m s) = some y := images
  have idle : ((withRelease m s).run.tasks[k]).st ≠ .running := by
    have same : ((withRelease m s).run.tasks[k]).st = .waiting := waiting
    rw [same]
    decide
  rw [if_neg (by simp [releases]), ready, if_neg Bool.false_ne_true, chosen]
  exact if_neg idle

/-- A release of the holder with one that waits for it ends the wait: its cycle is skipped, or runs with the holder's times. -/
theorem releaseReceived_held (round : Nat) :
    (m.released = false → ((releaseReceived round m s).run.tasks[k]).held = [] ∧ ((releaseReceived round m s).run.tasks[k]).overran = true ∧
      ((releaseReceived round m s).run.tasks[k]).seq = (s.run.tasks[k]).seq) ∧
    (∀ y, m.released = true → (s.run.tasks[k]).st = .waiting → codeWaits s = false → contentCame s = true → shadowImages k m s = some y →
      ((releaseReceived round m s).run.tasks[k]).held = [] ∧ ((releaseReceived round m s).run.tasks[k]).st = .running ∧
      ((releaseReceived round m s).run.tasks[k]).snap.time = m.time ∧ ((releaseReceived round m s).run.tasks[k]).snap.mono = m.mono ∧
      ((releaseReceived round m s).run.tasks[k]).seq = ((s.run.tasks[k]).seq + 1) % 2 ^ 64) := by
  have own : ((taken k s).run.tasks[k]).held = [] ∧ ((taken k s).run.tasks[k]).seq = (s.run.tasks[k]).seq := by simp [taken]
  have idle : ∀ j, j ≠ k → ((taken k s).run.tasks[j]).held = [] := fun j other =>
    (congrArg Task.held (modTask_other other _ _)).trans (others j other)
  have only : ∀ t : Rc8, shadowOne k (withRelease m s) = t → (∀ j, j ≠ k → t.run.tasks[j] = (taken k s).run.tasks[j]) →
      shadowAll (withRelease m s) = t := by
    intro t acts left
    refine (foldl_only (k := k) (fun j other => shadowOne_idle (s := withRelease m s) (others j other)) fun j other => ?_).trans acts
    rw [acts]
    exact shadowOne_idle ((congrArg Task.held (left j other)).trans (idle j other))
  have run : ∀ t : Rc8, shadowAll (withRelease m s) = t → isStandby t = true → (releaseReceived round m s).run = t.run := by
    intro t shadows second
    rw [releaseReceived_kept standby synced follows mode unparked, shadows]
    split
    · exact (shadowLag_leaves second round m).1
    · rfl
  refine ⟨fun skips => ?_, fun y releases waiting code content images => ?_⟩
  · obtain ⟨acts, -⟩ := shadowOne_takes standby follows task held none_ (y := ([], []))
    obtain ⟨heldLeft, overran, seq, left⟩ := skipRelease_tasks k (s := taken k s) standby
    have shadows := only _ (acts skips) left
    rw [run _ shadows ((isStandby_of_token (token_of_tenure (skipRelease_tenure k (taken k s)))).trans standby)]
    exact ⟨heldLeft.trans own.1, overran, seq.trans own.2⟩
  · obtain ⟨-, acts⟩ := shadowOne_takes standby follows task held none_ (y := y)
    obtain ⟨heldLeft, running, time, mono, seq, left⟩ := beginWith_tasks k false m.time m.mono y.1 y.2 (taken k s)
    have shadows := only _ (acts releases waiting code content images) left
    rw [run _ shadows ((isStandby_of_token (token_of_tenure (beginWith_tenure k false m.time m.mono y.1 y.2 (taken k s)))).trans standby)]
    exact ⟨heldLeft.trans own.1, running, time, mono, seq.trans (by rw [own.2])⟩

end held

end release

/-! ### CYCLE_END (10 R321) -/

/-- What a shadow cycle's end is about: the cycles and releases that wait, the output image, and what the holder has told. -/
def Rc8.awaited (s : Rc8) : (Fin 8 → Option CycleOut × List (Nat × Nat × Nat)) × List Byte × List CycMsg × Token :=
  (fun j => ((s.run.tasks[j]).parked, (s.run.tasks[j]).held), s.run.motionOut, s.pair.cycles, s.pair.token)

theorem awaited_of {s t : Rc8} (tasks : t.run.tasks = s.run.tasks) (motion : t.run.motionOut = s.run.motionOut) (cycles : t.pair.cycles = s.pair.cycles)
    (token : t.pair.token = s.pair.token) : t.awaited = s.awaited := by
  simp only [Rc8.awaited, tasks, motion, cycles, token]
theorem modTask_awaited_congr (k : Fin 8) (f g : Task → Task) (s : Rc8) (alike : ∀ x, (f x).parked = (g x).parked ∧ (f x).held = (g x).held) :
    (modTask k f s).awaited = (modTask k g s).awaited := by
  have tasks : (fun j : Fin 8 => (((modTask k f s).run.tasks[j]).parked, ((modTask k f s).run.tasks[j]).held)) =
      fun j => (((modTask k g s).run.tasks[j]).parked, ((modTask k g s).run.tasks[j]).held) := by
    funext j
    by_cases own : j = k
    · subst own
      simp [alike]
    · rw [modTask_other own, modTask_other own]
  simp only [Rc8.awaited, tasks]
  rfl
theorem modTask_awaited (k : Fin 8) (f : Task → Task) (s : Rc8) (keeps : ∀ x, (f x).parked = x.parked ∧ (f x).held = x.held) :
    (modTask k f s).awaited = s.awaited := by
  have unchanged : modTask k id s = s := by simp [modTask, modRun, vmod]
  exact (modTask_awaited_congr k f id s keeps).trans (congrArg Rc8.awaited unchanged)
theorem raise_awaited (e : Ev) (s : Rc8) : (raise e s).awaited = s.awaited := awaited_of rfl rfl rfl rfl

theorem publishCycle_awaited (k : Fin 8) (o : CycleOut) (s : Rc8) :
    (publishCycle k o s).awaited = (if k = 0 then publishMotion (o.motion.take 65536) s else s).awaited := by
  have station : ∀ r : Rc8, (publishStation k (o.station.take 65536) r).awaited = r.awaited := fun r =>
    Eq.trans (b := (modTask k (fun x => { x with stationOut := o.station.take 65536 }) r).awaited) (awaited_of rfl rfl rfl rfl)
      (modTask_awaited k _ r fun _ => ⟨rfl, rfl⟩)
  unfold publishCycle
  extract_lets s1
  split
  · exact station s1
  · rfl
theorem queueCommit_awaited (k : Fin 8) (g : List (Nat × List Byte)) {s : Rc8} (standby : isStandby s = true) :
    (queueCommit k g s).awaited = s.awaited := by
  have counted : (modTask k (fun x => { x with lastCommit := 0 }) s).awaited = s.awaited := modTask_awaited k _ s fun _ => ⟨rfl, rfl⟩
  have failed : ∀ (cause bytes : Nat) (r : Rc8), isStandby r = true → (commitFailed k.val cause bytes r).awaited = r.awaited := by
    intro cause bytes r second
    have stays : commitFailed k.val cause bytes r = raise { src := 18, reason := 0x03, sev := .error, p0 := k.val, p1 := cause, p2 := bytes } r :=
      if_pos second
    rw [stays]
    exact raise_awaited ..
  unfold queueCommit
  split
  · exact counted
  · extract_lets limit r journal s1
    split
    · refine (failed 1 _ _ ?_).trans counted
      exact standby
    · have journalled : s1.awaited = s.awaited := by
        unfold s1
        split
        · exact awaited_of rfl rfl rfl rfl
        · rfl
      have queued : (modRun (fun u => { u with commits := u.commits ++ [r] }) s1).awaited = s1.awaited := awaited_of rfl rfl rfl rfl
      refine (modTask_awaited k _ _ ?_).trans (queued.trans journalled)
      exact fun _ => ⟨rfl, rfl⟩
theorem cycleDigest_awaited (k : Fin 8) (o : CycleOut) (published : Bool) (s : Rc8) : (cycleDigest k o published s).awaited = s.awaited := by
  unfold cycleDigest chainStep
  extract_lets seq v d
  generalize chained : modPair _ s = r
  have same : r.awaited = s.awaited := by
    rw [← chained]
    exact awaited_of rfl rfl rfl rfl
  have sent := plkSend_keeps 0x02 0 (.digest [d]) r
  have cycles : (plkSend 0x02 0 (.digest [d]) r).pair.cycles = r.pair.cycles := (congrArg Pair.cycles sent.pair :)
  have token : (plkSend 0x02 0 (.digest [d]) r).pair.token = r.pair.token := (congrArg Pair.token sent.pair :)
  exact (awaited_of (congrArg Runtime.tasks sent.run) (congrArg Runtime.motionOut sent.run) cycles token).trans same
theorem modTask_unparked_awaited (k : Fin 8) (s : Rc8) : (modTask k (fun y => { y with parked := none }) s).awaited =
    (fun j => (if j = k then none else (s.awaited.1 j).1, (s.awaited.1 j).2), s.awaited.2) := by
  refine Prod.ext (funext fun j => ?_) rfl
  by_cases own : j = k
  · subst own
    simp [Rc8.awaited]
  · refine (congrArg (fun x : Task => (x.parked, x.held)) (modTask_other own _ s)).trans ?_
    simp [Rc8.awaited, own]
theorem closeCycle_awaited (k : Fin 8) (us : Nat) (s : Rc8) : (closeCycle k us s).awaited =
    (fun j => (if j = k then none else (s.awaited.1 j).1, (s.awaited.1 j).2), s.awaited.2) := by
  have layby : ∀ r : Rc8, (finishLayby r).awaited = r.awaited := by
    intro r
    unfold finishLayby
    split
    · exact awaited_of (by simp) (by simp) (by simp) (by simp)
    · rfl
  unfold closeCycle
  extract_lets s1
  have closed : s1.awaited = (modTask k (fun y => { y with parked := none }) s).awaited := modTask_awaited_congr k _ _ s fun _ => ⟨rfl, rfl⟩
  rw [← modTask_unparked_awaited]
  split
  · exact (layby _).trans ((raise_awaited _ s1).trans closed)
  · exact closed

/-- A shadow cycle that ends waits no more, nor does what the holder has told of it; task 0 publishes where the holder has. -/
theorem handOver_awaited (k : Fin 8) (o : CycleOut) {s : Rc8} (standby : isStandby s = true) {published : Bool} (told : holderPublished k s = some published) :
    (handOver k o s).awaited = (fun j => (if j = k then none else (s.run.tasks[j]).parked, (s.run.tasks[j]).held),
      if published = true ∧ k = 0 then o.motion.take 65536 else s.run.motionOut,
      s.pair.cycles.filter fun c => !(c.task == k.val && decide (c.seq ≤ (s.run.tasks[k]).seq)), s.pair.token) := by
  unfold handOver
  extract_lets x shown s1 s3 s4
  have decided : shown = published := by
    unfold shown
    rw [told]
    rfl
  have publishes : s1.awaited = (s.awaited.1, if published = true ∧ k = 0 then o.motion.take 65536 else s.run.motionOut, s.awaited.2.2) := by
    unfold s1
    rw [decided]
    cases published
    · rfl
    · refine (publishCycle_awaited k o s).trans ?_
      by_cases first : k = 0 <;> simp only [first, if_true, if_false, and_true, and_false] <;> rfl
  have second : isStandby s1 = true := (isStandby_of_token (congrArg (·.2.2.2) publishes)).trans standby
  have commits : s3.awaited = s1.awaited := by
    refine (queueCommit_awaited k _ ?_).trans (awaited_of rfl rfl rfl rfl)
    exact second
  have quiet : ∀ r : Rc8, isStandby r = true → tellCycle k shown r = r := by
    intro r third
    refine if_neg ?_
    cases token : r.pair.token <;> simp_all [isStandby, holdsToken]
  have digests : s4.awaited = (s.awaited.1, (if published = true ∧ k = 0 then o.motion.take 65536 else s.run.motionOut),
      s.pair.cycles.filter (fun c => !(c.task == k.val && decide (c.seq ≤ (s.run.tasks[k]).seq))), s.pair.token) := by
    have third : isStandby s3 = true := (isStandby_of_token (congrArg (·.2.2.2) commits)).trans second
    refine (cycleDigest_awaited k o shown _).trans ((congrArg Rc8.awaited (quiet _ ?_)).trans ?_)
    · exact third
    have told : ∀ (f : List CycMsg → List CycMsg) (r : Rc8), (modPair (fun q => { q with cycles := f q.cycles }) r).awaited =
        (r.awaited.1, r.awaited.2.1, f r.awaited.2.2.1, r.awaited.2.2.2) := fun _ _ => rfl
    rw [told (fun l => l.filter fun c => !(c.task == k.val && decide (c.seq ≤ (s.run.tasks[k]).seq))), commits, publishes]
    rfl
  split
  · refine Eq.trans (b := (modTask k (fun y => { y with parked := none }) s4).awaited) (modTask_awaited_congr k _ _ s4 fun _ => ⟨rfl, rfl⟩) ?_
    rw [modTask_unparked_awaited, digests]
    rfl
  · rw [closeCycle_awaited, digests]
    rfl

/-- A standby with a cycle end of the holder kept. -/
def withCycle (m : CycMsg) (s : Rc8) : Rc8 := modPair (fun q => { q with cycles := q.cycles ++ [m] }) s

/-- What a standby does with a cycle end of the holder. -/
def cycleEndReceived (m : CycMsg) (s : Rc8) : Rc8 := if isStandby s then shadowOn (withCycle m s) else s

section cycleEnd
variable {s : Rc8} (standby : isStandby s = true) (idle : ∀ k : Fin 8, (s.run.tasks[k]).held = []) (m : CycMsg)
include standby idle

/-- A cycle end that no cycle waits for is kept. -/
theorem cycleEndReceived_kept (unparked : ∀ k : Fin 8, (s.run.tasks[k]).parked = none) :
    (cycleEndReceived m s).pair.cycles = s.pair.cycles ++ [m] ∧ (cycleEndReceived m s).run = s.run := by
  have kept : cycleEndReceived m s = withCycle m s :=
    (if_pos standby).trans ((shadowOn_unparked (s := withCycle m s) unparked).trans (shadowAll_idle (s := withCycle m s) idle))
  rw [kept, withCycle, modPair_pair, modPair_run]
  exact ⟨rfl, rfl⟩

/-- The one cycle that waits for its end ends with the holder's. -/
theorem cycleEndReceived_ends {k : Fin 8} {o : CycleOut} (parked : (s.run.tasks[k]).parked = some o)
    (others : ∀ j : Fin 8, j ≠ k → (s.run.tasks[j]).parked = none) (task : m.task = k.val) (seq : m.seq = (s.run.tasks[k]).seq)
    (none_ : s.pair.cycles = []) :
    ((cycleEndReceived m s).run.tasks[k]).parked = none ∧ (cycleEndReceived m s).pair.cycles = [] ∧
    (k = 0 → (cycleEndReceived m s).run.motionOut = (if m.published = true then o.motion.take 65536 else s.run.motionOut)) := by
  have cycles : (withCycle m s).pair.cycles = [m] := by rw [withCycle, modPair_pair, none_]; rfl
  have second : isStandby (withCycle m s) = true := standby
  have told : holderPublished k (withCycle m s) = some m.published := by
    have same : (withCycle m s).run = s.run := modPair_run ..
    simp [holderPublished, second, cycles, task, seq, same]
  have ready : endWaits k (withCycle m s) = false := by simp [endWaits, told]
  have ended := handOver_awaited k o second told
  have waits : ((withCycle m s).run.tasks[k]).parked = some o := parked
  have acts : endParked k (withCycle m s) = handOver k o (withCycle m s) := by
    unfold endParked
    rw [waits]
    exact if_neg (by simp [ready])
  generalize handOver k o (withCycle m s) = t at ended acts
  have tasks : ∀ j : Fin 8, (t.run.tasks[j]).parked = (if j = k then none else (s.run.tasks[j]).parked) ∧ (t.run.tasks[j]).held = (s.run.tasks[j]).held :=
    fun j => Prod.mk.inj (congrFun (congrArg (·.1) ended) j)
  have only : allTasks.foldl (fun r j => endParked j r) (withCycle m s) = t := by
    refine (foldl_only (k := k) (fun j other => endParked_idle (s := withCycle m s) (others j other)) fun j other => ?_).trans acts
    rw [acts]
    exact endParked_idle ((tasks j).1.trans ((if_neg other).trans (others j other)))
  have final : cycleEndReceived m s = t :=
    (if_pos standby).trans ((congrArg shadowAll only).trans (shadowAll_idle fun j => (tasks j).2.trans (idle j)))
  rw [final]
  refine ⟨(tasks k).1.trans (if_pos rfl), ?_, fun first => ?_⟩
  · have left : t.pair.cycles = _ := congrArg (·.2.2.1) ended
    rw [left, cycles]
    have same : (withCycle m s).run = s.run := modPair_run ..
    simp [task, seq, same]
  · have motion : t.run.motionOut = _ := congrArg (·.2.1) ended
    rw [motion]
    simp only [first, and_true]
    rfl

end cycleEnd

end Sys2Proof.Machine
end

section
/-! SUPPORT. The statement about pair messages (10 R306 to R310, R319, R321, R322, R327; 11 R364; 15 R484). -/

namespace Sys2Proof.Machine

open Sys2Proof

/-- A message that does not act, on a link that is down. -/
theorem messages_down {s : State} {h : PlkHdr} {l : List DigestRec} {m : RelMsg} {y : CycMsg} {c : ConfirmMsg} {op : PairOp} {round task : Nat}
    {data : List Byte} {stored : Bool} (down : s.pair.plk.up = false) (short : l.length ≤ 64) :
    ∀ i ∈ messageRows h l m y c op round task data stored, exec i s = .next s := by
  intro i listed
  obtain ⟨type, f, row⟩ := exec_messageRows s h l m y c op round task data stored short i listed
  rw [row]
  exact congrArg Host.Outcome.next (after_unchanged (plkReceive_down (s := s.toRc8) down type h f))

/-- A message whose CRC is wrong is discarded and counted. -/
theorem messages_badCrc {s : State} {h : PlkHdr} {l : List DigestRec} {m : RelMsg} {y : CycMsg} {c : ConfirmMsg} {op : PairOp} {round task : Nat}
    {data : List Byte} {stored : Bool} (up : s.pair.plk.up = true) (bad : h.crcOk = false) (short : l.length ≤ 64) :
    ∀ i ∈ messageRows h l m y c op round task data stored, Leads i s fun t =>
      t.pair = { s.pair with plk := { s.pair.plk with crcErrors := min 0xFFFFFFFF (s.pair.plk.crcErrors + 1) } } ∧ t.run = s.run := by
  intro i listed
  obtain ⟨type, f, row⟩ := exec_messageRows s h l m y c op round task data stored short i listed
  refine leads_of_act row ?_
  rw [State.after_toRc8, plkReceive_badCrc (s := s.toRc8) up bad]
  exact ⟨plkCrcError_pair type s.toRc8, plkCrcError_run type s.toRc8⟩

/-! ### What an acknowledgement leaves (10 R308) -/

section acknowledged
variable (type : Nat) (h : PlkHdr) (s : Rc8)
@[simp] theorem acknowledged_run : (acknowledged type h s).run = s.run := rfl
@[simp] theorem acknowledged_sch : (acknowledged type h s).sch = s.sch := rfl
@[simp] theorem acknowledged_itg : (acknowledged type h s).itg = s.itg := rfl
@[simp] theorem acknowledged_can : (acknowledged type h s).can = s.can := rfl
@[simp] theorem acknowledged_synced : (acknowledged type h s).pair.synced = s.pair.synced := rfl
@[simp] theorem acknowledged_releases : (acknowledged type h s).pair.releases = s.pair.releases := rfl
@[simp] theorem acknowledged_cycles : (acknowledged type h s).pair.cycles = s.pair.cycles := rfl
@[simp] theorem acknowledged_services : (acknowledged type h s).pair.services = s.pair.services := rfl
@[simp] theorem acknowledged_resync : (acknowledged type h s).pair.resync = s.pair.resync := rfl
@[simp] theorem acknowledged_fwdDone : (acknowledged type h s).pair.fwdDone = s.pair.fwdDone := rfl
@[simp] theorem acknowledged_ownRound : (acknowledged type h s).pair.ownRound = s.pair.ownRound := rfl
@[simp] theorem acknowledged_sourceKnown : (acknowledged type h s).pair.sourceKnown = s.pair.sourceKnown := rfl
@[simp] theorem acknowledged_ownDecides : ownDecides (acknowledged type h s) = ownDecides s := by simp [ownDecides]
@[simp] theorem acknowledged_dmaStopped (k : Nat) : dmaStopped k (acknowledged type h s) = dmaStopped k s := by simp [dmaStopped]
@[simp] theorem acknowledged_stillRuns (task round : Nat) : stillRuns task round (acknowledged type h s) = stillRuns task round s := by
  unfold stillRuns
  rw [acknowledged_run]
@[simp] theorem acknowledged_codeWaits : codeWaits (acknowledged type h s) = codeWaits s := by simp [codeWaits, ruleDone]
@[simp] theorem acknowledged_contentCame : contentCame (acknowledged type h s) = contentCame s := by simp [contentCame, anySched]
@[simp] theorem acknowledged_shadowImages (k : Fin 8) (m : RelMsg) : shadowImages k m (acknowledged type h s) = shadowImages k m s := by
  simp [shadowImages, taskImages]
end acknowledged

/-- Windows and round inputs that arrive are taken as forwarded for the round. -/
theorem windows_heard (l : List (Nat × Nat × List Byte)) {h : PlkHdr} {s : Rc8} (standby : isStandby s = true) (runs : dmaStopped 14 s = false)
    (now : h.round = s.rnd.round) :
    (forwarded h (modPair fun q => { q with fwdWindows := l ++ q.fwdWindows }) (heard s)).pair.fwdWindows = l ++ s.pair.fwdWindows ∧
    (forwarded h (modPair fun q => { q with fwdWindows := l ++ q.fwdWindows }) (heard s)).sch = s.sch := by
  have acts := forwarded_acts (s := heard s) (h := h) ((isStandby_of_token (by simp [heard])).trans standby)
    ((by simp [dmaStopped, heard] : dmaStopped 14 (heard s) = dmaStopped 14 s).trans runs) (by simp [heard, now])
  rw [acts]
  simp [heard]
theorem roundInputs_heard (setpoint : Nat) (states : List (Nat × Nat × Nat × Nat)) (field : List Byte) (groups : BitVec 16) {h : PlkHdr} {s : Rc8}
    (standby : isStandby s = true) (runs : dmaStopped 14 s = false) (now : h.round = s.rnd.round) {t : Rc8}
    (taken : t = forwarded h (roundInputs h.last setpoint states field groups) (heard s)) :
    t.pair.fwdSetpoint = setpoint ∧ t.pair.fwdStates = s.pair.fwdStates ++ states ∧ t.pair.fwdDone = (s.pair.fwdDone || (h.last && inputsInTime s)) ∧
    t.ffe = { s.ffe with holder := field } ∧ t.saf = { s.saf with partnerMask := groups } ∧ t.run = s.run := by
  have acts := forwarded_acts (s := heard s) (h := h) ((isStandby_of_token (by simp [heard])).trans standby)
    ((by simp [dmaStopped, heard] : dmaStopped 14 (heard s) = dmaStopped 14 s).trans runs) (by simp [heard, now])
  have inTime : inputsInTime (heard s) = inputsInTime s := by
    simp only [inputsInTime, roundStart, heard, modPair_sch, modPair_clk, modPair_rnd]
    rfl
  rw [taken, acts]
  simp [roundInputs, inTime]
  simp [heard]

section arrives
variable {s : State} {h : PlkHdr} (up : s.pair.plk.up = true) (crc : h.crcOk = true) (message : h.ack = false)
include up crc message

/-- A message that is not acknowledged acts. -/
theorem leads_of_unreliable {i : Instr} {type : Nat} {f : Rc8 → Rc8} {P : State → Prop} (row : exec i s = act (plkReceive type h f) s)
    (reliable : plkReliable type = false) (hp : P (s.after fun r => f (heard r))) : Leads i s P :=
  leads_of_exec (row.trans (act_eq_of_eq (plkReceive_unreliable (s := s.toRc8) up crc message reliable f))) hp

/-- A reliable message that is new acts. -/
theorem leads_of_reliable {i : Instr} {type : Nat} {f : Rc8 → Rc8} {P : State → Prop} (row : exec i s = act (plkReceive type h f) s)
    (reliable : plkReliable type = true) (new : ∀ ty, (ty, h.seq) ∉ s.pair.plk.rx) (hp : P (s.after fun r => f (acknowledged type h r))) : Leads i s P :=
  leads_of_exec (row.trans (act_eq_of_eq (plkReceive_new (s := s.toRc8) up crc message reliable (new type) f))) hp

end arrives

/-- A pass that has ended is told to the standby over the link. -/
theorem exec_copyDoneMessage {s : State} (standby : isStandby s.toRc8 = true) (h : PlkHdr) (final : Bool) (pages : Nat) :
    exec (.copyDoneMessage h final pages) s = act (plkReceive 0x31 h (copyDone h.round final pages)) s := by
  have second : holdsToken s.toRc8 = false := by
    cases token : s.pair.token <;> simp_all [isStandby, holdsToken]
  have received : copyDoneEvent h final pages s.toRc8 = plkReceive 0x31 h (copyDone h.round final pages) s.toRc8 := if_neg (by simp [second])
  exact act_eq_of_eq received

/-- Settles O39: messages that do not act by `exec_messageRows`, the standby's by what each does once it is acknowledged, and the link's own events
by what its training, its silence and its failure leave. -/
theorem pairMessages : Obligations.PairMessages := by
  refine ⟨?discarded, ?standby, ?link⟩
  case discarded =>
    intro s h l m y c op round task data stored
    refine ⟨fun down short => ?_, fun up bad short => messages_badCrc up bad short, fun up crc message => ⟨fun known => leads_of_act rfl ?_,
      fun known => leads_of_act rfl ?_⟩⟩
    · have still := messages_down (h := h) (m := m) (y := y) (c := c) (op := op) (round := round) (task := task) (data := data) (stored := stored) down short
      exact ⟨still _ (by simp [messageRows]), still _ (by simp [messageRows]), still _ (by simp [messageRows]), still _ (by simp [messageRows]),
        still _ (by simp [messageRows]), still _ (by simp [messageRows]), still _ (by simp [messageRows])⟩
    · rw [State.after_toRc8, plkReceive_again (s := s.toRc8) up crc message rfl known]
      simp [plkAck, heard]
    · rw [State.after_toRc8, plkReceive_again (s := s.toRc8) up crc message rfl known]
      simp [plkAck, heard]
  case standby =>
    intro s h up crc message new standby runs
    refine ⟨act_eq_of_eq (plkReceive_unreliable (s := s.toRc8) up crc message rfl id),
      fun n l now => leads_of_unreliable up crc message (f := forwarded h (modPair fun q => { q with fwdWindows := (l.map fun x => (n.val, x.1, x.2)) ++ q.fwdWindows })) rfl rfl ?windows,
      fun setpoint states fb field groups now => leads_of_unreliable up crc message rfl rfl ?inputs,
      fun m => ⟨fun own => leads_of_reliable up crc message rfl rfl new ?dropped, fun synced follows mode unparked =>
        ⟨fun idle => leads_of_reliable up crc message rfl rfl new ?waits, fun k x y task held others none_ =>
          ⟨fun skips => leads_of_reliable up crc message rfl rfl new ?skips,
            fun releases waiting code content images => leads_of_reliable up crc message rfl rfl new ?begins⟩⟩⟩,
      fun m idle => ⟨fun unparked => leads_of_reliable up crc message (f := cycleEndReceived m) rfl rfl new ?kept,
        fun k o parked others task seq none_ follows => leads_of_reliable up crc message (f := cycleEndReceived m) rfl rfl new ?ends⟩,
      fun task data isTask => leads_of_reliable up crc message rfl rfl new ?service,
      fun b x => ⟨leads_of_reliable up crc message rfl rfl new ?bank, leads_of_reliable up crc message rfl rfl new ?fails⟩,
      fun pages => ⟨leads_of_reliable up crc message (exec_copyDoneMessage standby h true pages) rfl new ?final,
        leads_of_reliable up crc message (exec_copyDoneMessage standby h false pages) rfl new ?further⟩⟩
    case windows =>
      rw [State.after_toRc8]
      exact windows_heard (l.map fun x => (n.val, x.1, x.2)) standby runs now
    case inputs =>
      rw [State.after_toRc8]
      exact roundInputs_heard setpoint states field groups standby runs now rfl
    case dropped =>
      have dropped := releaseReceived_dropped (s := acknowledged 0x12 h s.toRc8) (by simpa using own) h.round m
      rw [State.after_toRc8, dropped]
      exact ⟨acknowledged_releases .., acknowledged_run ..⟩
    case waits =>
      have waits := releaseReceived_waits (s := acknowledged 0x12 h s.toRc8) (by simpa using standby) (by simpa using synced)
        (by simpa using follows) (by simpa using mode) (by simpa using unparked) (by simpa using idle) h.round m
      simpa only [State.after_toRc8, acknowledged_run, acknowledged_releases, acknowledged_stillRuns] using waits
    case skips =>
      have skipped := (releaseReceived_held (s := acknowledged 0x12 h s.toRc8) (by simpa using standby) (by simpa using synced)
        (by simpa using follows) (by simpa using mode) (by simpa using unparked) task (by simpa using held) (by simpa using others)
        (by simpa using none_) h.round).1 skips
      simpa only [State.after_toRc8, acknowledged_run] using skipped
    case begins =>
      have begun := (releaseReceived_held (s := acknowledged 0x12 h s.toRc8) (by simpa using standby) (by simpa using synced)
        (by simpa using follows) (by simpa using mode) (by simpa using unparked) task (by simpa using held) (by simpa using others)
        (by simpa using none_) h.round).2 y releases (by simpa using waiting) (by simpa using code) (by simpa using content) (by simpa using images)
      simpa only [State.after_toRc8, acknowledged_run] using begun
    case kept =>
      have kept := cycleEndReceived_kept (s := acknowledged 0x13 h s.toRc8) (by simpa using standby) (by simpa using idle) m (by simpa using unparked)
      simpa only [State.after_toRc8, acknowledged_run, acknowledged_cycles] using kept
    case ends =>
      have ends := cycleEndReceived_ends (s := acknowledged 0x13 h s.toRc8) (by simpa using standby) (by simpa using idle) m (by simpa using parked)
        (by simpa using others) task (by simpa using seq) (by simpa using none_)
      simpa only [State.after_toRc8, acknowledged_run] using ends
    case service =>
      have served := serviceReceived_task (s := acknowledged 0x14 h s.toRc8) (by simpa using standby) isTask data
      simpa only [State.after_toRc8, acknowledged_services, acknowledged_can] using served
    case bank =>
      rw [State.after_toRc8]
      exact stateCopy_bank (s := acknowledged 0x30 h s.toRc8) (by simpa using standby) (by simpa using runs) b x
    case fails =>
      have fails := stateCopy_fails (s := acknowledged 0x30 h s.toRc8) (by simpa using standby) (by simpa using runs) (items := [.bank b x]) rfl
      simpa only [State.after_toRc8, acknowledged_nv] using fails
    case final =>
      rw [State.after_toRc8]
      exact copyDone_final (s := acknowledged 0x31 h s.toRc8) (by simpa using standby) h.round pages
    case further =>
      have further := copyDone_further (s := acknowledged 0x31 h s.toRc8) (by simpa using standby) h.round pages
      simpa only [State.after_toRc8, acknowledged_synced, acknowledged_resync] using further
  case link =>
    intro s
    refine ⟨fun lanes ms level splitEqual equal down some_ => leads_of_act rfl ?up,
      fun up => ⟨fun lane => leads_of_act rfl (laneDegraded_lanes lane (s := s.toRc8) up), leads_of_act rfl (keepaliveSend_sends (s := s.toRc8) up),
        fun x rest awaits few => leads_of_act rfl ?again, fun x rest awaits many => leads_of_act rfl ?gone, fun lost => leads_of_act rfl ?lost⟩⟩
    case up => exact plkUp_link ms level splitEqual equal (s := s.toRc8) down (fun none_ => some_ (Fin.ext none_))
    case again =>
      obtain ⟨awaiting, sent, due, link⟩ := retransmit_again (s := s.toRc8) awaits few
      exact ⟨awaiting, sent, due, link.trans up⟩
    case gone =>
      rw [State.after_toRc8, retransmit_fails (s := s.toRc8) awaits many]
      obtain ⟨down, lanes, awaiting, -⟩ := plkDown_link 3 (s := atRefosc (x.since + 20000) s.toRc8) up
      exact ⟨down, lanes, awaiting⟩
    case lost => exact plkLost_link lost (s := s.toRc8) up

end Sys2Proof.Machine
end

section
/-! SUPPORT. What an occurrence leaves in the recorder, what several events leave of the module, and the statement about them (02 R75; 16 R504,
R505, R507). -/

namespace Sys2Proof.Machine

open Sys2Proof

/-! ### An occurrence at the recorder (16 R504, R505, R507) -/

/-- An occurrence that repeats the open record is counted in it. -/
theorem recAdd_repeat {r : Recorder} {code p0 p1 : Nat} (h : recMatches r code p0 p1 = true) (time : Nat) (l : RecLog) :
    ∃ x y, r.buf.getLast? = some x ∧ recAdd code p0 p1 time r l =
      ({ r with buf := r.buf.dropLast ++ [y], openDirty := r.openDirty || r.waiting == 0 }, l) := by
  cases last : r.buf.getLast? with
  | none => simp [recMatches, last] at h
  | some x => exact ⟨x, { x with rep := inc16 x.rep, lastOff := recOffset x.time time }, rfl, by simp [recAdd, h, last]⟩

/-- An occurrence that finds 4,096 records waiting is dropped and counted. -/
theorem recAdd_drop {r : Recorder} {code p0 p1 : Nat} (h : recMatches r code p0 p1 = false) (full : 4096 ≤ r.waiting) (time : Nat) (l : RecLog) :
    recAdd code p0 p1 time r l =
      ({ r with dropped := inc32 r.dropped, droppedTotal := inc32 r.droppedTotal,
                lastBefore := if r.dropped = 0 then (l.nextSeq + 0xFFFFFFFF) % 2 ^ 32 else r.lastBefore }, l) := by
  simp [recAdd, h, full]

/-- Any other occurrence gets a record of its own with the next sequence. -/
theorem recAdd_new {r : Recorder} {code p0 p1 : Nat} (h : recMatches r code p0 p1 = false) (room : r.waiting < 4096) (time : Nat) (l : RecLog) :
    recAdd code p0 p1 time r l =
      ({ r with buf := (if 4096 ≤ r.buf.length then r.buf.drop 1 else r.buf) ++
                  [{ code := code, rep := 1, seq := l.nextSeq, time := time, lastOff := 0, p0 := lo32 p0, p1 := lo32 p1 }],
                waiting := r.waiting + 1, isOpen := true },
       { l with nextSeq := (l.nextSeq + 1) % 2 ^ 32 }) := by
  simp [recAdd, h, Nat.not_le.2 room]

/-- An event's record, but for the FAULT LED's time. -/
theorem raise_rcd (e : Ev) (s : Rc8) :
    (raise e s).rcd = { (recAdd e.code e.p0 e.p1 s.clk.ptu s.rcd s.nv.recLog).1 with alarm := (raise e s).rcd.alarm } ∧
    (raise e s).nv.recLog = (recAdd e.code e.p0 e.p1 s.clk.ptu s.rcd s.nv.recLog).2 := by
  refine ⟨?_, rfl⟩
  rw [raise, ringEvent_rcd, recordEvent]
  dsimp only
  split <;> rfl

/-- Settles O8: the frame of an event, and the three branches of the recorder. -/
theorem eventsAreRecordedAndChangeNothingElse : Obligations.EventsAreRecordedAndChangeNothingElse := by
  refine ⟨fun e s => ⟨raise_frame e s, raise_out_grows e s, fun p he => raise_evq_disabled he e⟩, fun e s => ?_⟩
  obtain ⟨rcd, recLog⟩ := raise_rcd e s
  refine ⟨fun repeats => ?repeats, fun differs full => ?drops, fun differs room => ?new⟩
  case repeats =>
    obtain ⟨x, y, last, added⟩ := recAdd_repeat repeats s.clk.ptu s.nv.recLog
    have holds : s.rcd.buf ≠ [] := fun empty => by simp [empty] at last
    rw [added] at rcd recLog
    rw [rcd, recLog]
    exact ⟨rfl, by simp [Nat.sub_add_cancel (List.length_pos_iff.2 holds)], rfl⟩
  case drops =>
    rw [recAdd_drop differs full] at rcd recLog
    rw [rcd, recLog]
    exact ⟨rfl, rfl, rfl⟩
  case new =>
    rw [recAdd_new differs room] at rcd recLog
    rw [rcd, recLog]
    exact ⟨by simp [lo32], rfl, rfl⟩

/-! ### Several events of one row (02 R75, R568) -/

/-- A module is another one but for what events may write. -/
def Rc8.UpToEvents (s t : Rc8) : Prop := t = s.withEvents t

theorem Rc8.UpToEvents.refl (s : Rc8) : s.UpToEvents s := by
  have hp : s.hp = (s.withEvents s).hp := by
    ext1 k hk
    rcases (by omega : k = 0 ∨ k = 1 ∨ k = 2 ∨ k = 3) with rfl | rfl | rfl | rfl <;> simp [Rc8.withEvents]
  exact congrArg (fun v => ({ s with hp := v } : Rc8)) hp

theorem Rc8.UpToEvents.trans {r s t : Rc8} (h : r.UpToEvents s) (k : s.UpToEvents t) : r.UpToEvents t := by
  have twice : (r.withEvents s).withEvents t = r.withEvents t := by simp [Rc8.withEvents]
  unfold UpToEvents at h k ⊢
  rw [← twice, ← h]
  exact k

/-- A change that does not touch what events write, of two modules that are equal up to events. -/
theorem Rc8.UpToEvents.map {s t : Rc8} (h : s.UpToEvents t) {f : Rc8 → Rc8} (commutes : f (s.withEvents t) = (f s).withEvents (f t)) :
    (f s).UpToEvents (f t) := (congrArg f h).trans commutes

theorem upToEvents_raise (e : Ev) (s : Rc8) : s.UpToEvents (raise e s) := raise_frame e s
theorem upToEvents_limits (l : List Limit) (s : Rc8) : s.UpToEvents { s with limits := l } := by
  have same : s = s.withEvents s := Rc8.UpToEvents.refl s
  have limited := congrArg (fun r : Rc8 => ({ r with limits := l } : Rc8)) same
  exact limited
theorem upToEvents_raiseWindow (window key : Nat) (place : Option (Fin 3)) (e : Ev) (s : Rc8) : s.UpToEvents (raiseWindow window key place e s) := by
  unfold raiseWindow
  extract_lets x due
  split
  · exact (upToEvents_limits _ s).trans (upToEvents_raise _ _)
  · exact upToEvents_limits _ s
theorem upToEvents_raiseLimited (place : Option (Fin 3)) (e : Ev) (s : Rc8) : s.UpToEvents (raiseLimited place e s) :=
  upToEvents_raiseWindow ..

/-- A row that leaves a module up to events leads to it. -/
theorem leadsTo_of_exec {c : Instr} {s : State} {f : Rc8 → Rc8} {r : Rc8} (h : exec c s = .next (s.after f)) (hr : r.UpToEvents (f s.toRc8)) :
    LeadsTo c s r := ⟨s.after f, h, rfl, hr⟩

end Sys2Proof.Machine
end

section
/-! SUPPORT. What the LEDs show, and the statement about them (12 R391; 15 R494; 17 R518, R524; 19 R562). -/

namespace Sys2Proof.Machine

open Sys2Proof

/-! ### When an LED shows its meaning (19 R562) -/

theorem ledShows_unpowered {s : Rc8} (off : s.pwr.powered = false) (l : Led) : ledShows l s = .off := by
  simp [ledShows, off]

/-- Without power no LED shows anything (17 R524). -/
theorem powerLost_dark (l : Led) (s : Rc8) : ledShows l (powerLost s) = .off :=
  ledShows_unpowered (by rw [powerLost, modPwr_pwr]) l
theorem exec_powerLost (s : State) : exec .powerLost s = .next (s.after powerLost) := rfl

section
variable {s : Rc8} (powered : s.pwr.powered = true)
include powered

/-- In TEST the FAULT LED alone is lit. -/
theorem ledShows_test (test : s.itg.test = true) (l : Led) : ledShows l s = if l = .fault then .on .red else .off := by
  simp [ledShows, powered, test]

/-- In the first second of a start every LED is lit. -/
theorem ledShows_lampTest (test : s.itg.test = false) (start : s.clk.refosc < 1000000000) (l : Led) : ledShows l s = .on (lampColour l) := by
  simp [ledShows, powered, test, lampTest, start]

/-- After it each LED shows its state. -/
theorem ledShows_meaning (test : s.itg.test = false) (later : 1000000000 ≤ s.clk.refosc) (l : Led) : ledShows l s = meaningOf l s := by
  simp [ledShows, powered, test, lampTest, Nat.not_lt.2 later]

end

/-- RUN, TOKEN and SAFE light green in the lamp test, FAULT red and every other LED yellow. -/
theorem lampColour_yellow {l : Led} (run : l ≠ .run) (token : l ≠ .token) (safe : l ≠ .safe) (fault : l ≠ .fault) : lampColour l = .yellow := by
  cases l with
  | run => exact absurd rfl run
  | token => exact absurd rfl token
  | safe => exact absurd rfl safe
  | fault => exact absurd rfl fault
  | detour => rfl
  | feed f => rfl
  | chan n c => rfl
  | pair => rfl

/-! ### Feeds (17 R518) -/

/-- The state that a voltage outside the hysteresis bands gives, whatever the state before. -/
theorem feedState_missing (old : FeedSt) {v : Nat} (h : v < 1200) : feedState old v = .missing := by
  cases old with
  | ok => simp [feedState, h]
  | low => simp [feedState, h]
  | missing => exact if_pos (by omega)
theorem feedState_low (old : FeedSt) {v : Nat} (least : 1250 ≤ v) (most : v < 1920) : feedState old v = .low := by
  cases old with
  | ok => exact (if_neg (by omega)).trans (if_pos most)
  | low => exact (if_neg (by omega)).trans (if_pos (by omega))
  | missing => exact (if_neg (by omega)).trans (if_pos (by omega))
theorem feedState_ok (old : FeedSt) {v : Nat} (h : 1970 ≤ v) : feedState old v = .ok := by
  cases old with
  | ok => exact (if_neg (by omega)).trans (if_neg (by omega))
  | low => exact (if_neg (by omega)).trans (if_neg (by omega))
  | missing => exact (if_neg (by omega)).trans (if_neg (by omega))

/-- A measured feed, with the state of its voltage. -/
def Rc8.feedMeasured (s : Rc8) (f : Fin 2) (v : Nat) : Rc8 :=
  { s with pwr := { s.pwr with feeds := s.pwr.feeds.set f { st := feedState (s.pwr.feeds[f]).st v, volt := v } } }

/-- A measurement leaves the feed measured, and an event where its state changes. -/
theorem feedChanged_eq (f : Fin 2) (v : Nat) (s : Rc8) : ∃ e, feedChanged f v s =
    if feedState (s.pwr.feeds[f]).st v = (s.pwr.feeds[f]).st then s.feedMeasured f v else raiseLimited none e (s.feedMeasured f v) := ⟨_, rfl⟩

theorem feedChanged_leaves (f : Fin 2) (v : Nat) (s : Rc8) : (feedChanged f v s).pwr = (s.feedMeasured f v).pwr ∧
    (feedChanged f v s).itg = s.itg ∧ (feedChanged f v s).clk = s.clk := by
  obtain ⟨e, changed⟩ := feedChanged_eq f v s
  rw [changed]
  split
  · exact ⟨rfl, rfl, rfl⟩
  · simp [Rc8.feedMeasured]

/-- A voltage that a monitor can measure is taken. -/
theorem exec_feedChanged {v : Nat} (bound : v < 65536) (f : Fin 2) (s : State) :
    exec (.feedChanged f v) s = .next (s.after (feedChanged f v)) := actIf_eq (decide_eq_true bound) ..

/-- After a measurement the feed's LED shows the state of its voltage. -/
theorem feedChanged_led {s : Rc8} (powered : s.pwr.powered = true) (test : s.itg.test = false) (later : 1000000000 ≤ s.clk.refosc)
    (f : Fin 2) (v : Nat) : ledShows (.feed f) (feedChanged f v s) =
      match feedState (s.pwr.feeds[f]).st v with
      | .ok => .on .green
      | .low => .on .yellow
      | .missing => .off := by
  obtain ⟨pwr, itg, clk⟩ := feedChanged_leaves f v s
  have shown := ledShows_meaning (s := feedChanged f v s) (by rw [pwr]; exact powered) (by rw [itg]; exact test) (by rw [clk]; exact later) (.feed f)
  rw [shown, meaningOf, feedLed, pwr]
  simp [Rc8.feedMeasured] <;> rfl

/-! ### The other LEDs (19 R562) -/

section
variable {s : Rc8}

theorem safeLed_latched (h : latchedGroups s ≠ 0) : safeLed s = .on .red := by
  rw [safeLed, beq_false_of_ne h, bne_iff_ne.2 h]
  simp
theorem safeLed_unlatched (h : latchedGroups s = 0) :
    safeLed s = if s.saf.faults ≠ 0 then .flash .red 8 else if (activeSet s).isSome then .on .green else .off := by
  rw [safeLed, h]
  by_cases faults : s.saf.faults = 0
  · simp [faults]
  · rw [beq_false_of_ne faults, bne_iff_ne.2 faults, if_pos faults]
    simp

theorem runLed_eq (s : Rc8) : runLed s = if s.svpReady = false then .flash .green 16 else if s.ffe.trim.isSome then .flash .green 8
    else if s.run.mode = .run then .on .green else if s.run.mode = .layby then .flash .green 4 else .off := by
  unfold runLed
  cases s.svpReady <;> cases s.run.mode <;> rfl

theorem detourLed_eq (s : Rc8) : detourLed s = if detourState s = 0 then .off else if detourState s = 1 then .flash .yellow 4
    else if detourState s = 2 then .on .yellow else .flash .yellow 16 := by
  unfold detourLed
  split
  next is => rw [is]; rfl
  next is => rw [is]; rfl
  next is => rw [is]; rfl
  next not0 not1 not2 => rw [if_neg not0, if_neg not1, if_neg not2]

/-- Without flashes of the trim procedure FAULT shows what stands, and else an alarm of the last minute. -/
theorem faultLed_eq (still : s.ffe.flashes = none) : faultLed s =
    if faultStands s then .on .red
    else if (s.rcd.alarm.map fun t => decide (s.clk.refosc < t + 60000000000)).getD false then .flash .red 4 else .off := by
  have steady : flashing true s = false := by rw [flashing, still]; rfl
  rw [faultLed, steady, if_neg Bool.false_ne_true]

/-- A network that is out of service lights none of its channels. -/
theorem chanLed_off {n c : Fin 2} (trim : s.ffe.trim = none) (out : (s.net[n]).state = .notConfigured ∨ (s.net[n]).state = .bypassed) :
    chanLed n c s = .off := by
  rw [chanLed, trim]
  exact if_pos (out.imp_right .inl)

theorem pairLed_present (present : s.pair.partner.present = true) : pairLed s =
    if s.pair.plk.up then (if s.pair.plk.lanes = 2 then .on .green else .flash .green 4) else .on .yellow := by
  rw [pairLed, present]
  cases s.pair.plk.up <;> simp

end

/-! ### The statement -/

/-- Settles O60: which of the four cases of R562 holds decides, and in the last each LED's own table line. -/
theorem ledMeanings : Obligations.LedMeanings := by
  refine ⟨fun s => leads_of_exec (exec_powerLost s) fun l => powerLost_dark l s.toRc8, fun s powered test l => ledShows_test powered test l,
    fun s powered test start => ?lampTest, fun s powered test later => ?meanings⟩
  case lampTest =>
    have lit := ledShows_lampTest powered test start
    refine ⟨fun l green => ?_, lit .fault, fun l run token safe fault => by rw [lit, lampColour_yellow run token safe fault]⟩
    rcases green with rfl | rfl | rfl <;> exact lit _
  case meanings =>
    have shows := ledShows_meaning powered test later
    have token : ledShows .token s.toRc8 = tokenLed s.toRc8 := shows .token
    refine ⟨fun f v bound => ?feeds, (shows .run).trans (runLed_eq _), fun h => ?holder, fun h => ?handover, fun h => ?ready, fun h => ?standby,
      fun h => ?unclaimed, fun latched => (shows .safe).trans (safeLed_latched latched),
      fun unlatched => (shows .safe).trans (safeLed_unlatched unlatched), (shows .detour).trans (detourLed_eq _), fun still => ?fault,
      fun n c trim out => (shows (.chan n c)).trans (chanLed_off trim out), fun present => (shows .pair).trans (pairLed_present present)⟩
    case feeds =>
      refine leads_of_exec (exec_feedChanged bound f s) ?_
      simp only [State.after_toRc8]
      have led := feedChanged_led powered test later f v
      refine ⟨fun low => ?_, fun least most => ?_, fun high => ?_⟩
      · rw [feedState_missing _ low] at led; exact led
      · rw [feedState_low _ least most] at led; exact led
      · rw [feedState_ok _ high] at led; exact led
    case holder => rw [token, tokenLed, h]
    case handover => rw [token, tokenLed, h]
    case ready => rw [token, tokenLed, h]
    case standby => rw [token, tokenLed, h]
    case unclaimed => rw [token, tokenLed, h]
    case fault =>
      have led := (shows .fault).trans (faultLed_eq still)
      refine ⟨fun stands => led.trans (if_pos stands), fun clear quiet => ?_, fun t0 clear alarm => ?_⟩
      · rw [led, clear, quiet]; rfl
      · rw [led, clear, alarm, Option.map_some, Option.getD_some]
        by_cases recent : s.clk.refosc < t0 + 60000000000
        · rw [decide_eq_true recent, if_pos recent]; rfl
        · rw [decide_eq_false recent, if_neg recent]; rfl

end Sys2Proof.Machine
end

section
/-! SUPPORT. How a row is shown to lead somewhere, from what its meaning makes of the module. -/

namespace Sys2Proof.Machine

open Sys2Proof

section
variable {c : Instr} {s : State} {f : Rc8 → Rc8} {P : State → Prop}

/-- A row that acts has every property of a block whose module its action has made. -/
theorem leads_of_row (row : exec c s = act f s) (hp : ∀ t : State, t.toRc8 = f s.toRc8 → P t) : Leads c s P :=
  leads_of_act row (hp _ rfl)

/-- A guarded row whose operands can be sent acts. -/
theorem actIf_act {ok : Bool} (h : ok = true) (name : String) (f : Rc8 → Rc8) (s : State) : actIf ok name f s = act f s := if_pos h

/-- A command's row has every property of a block whose module its body has made of the command found. -/
theorem leads_of_command {code : Nat} {p : Fin 4} {m : Fin 8} {e : Exec} {body : Exec → Rc8 → Rc8}
    (he : findChecked s.toRc8 code p m = some e) (row : exec c s = act (runCmd code p m body) s)
    (hp : ∀ t : State, t.toRc8 = body e s.toRc8 → P t) : Leads c s P :=
  leads_of_row row fun t made => hp t (made.trans (runCmd_found he body))

/-- A row that leaves a module up to events leads to it. -/
theorem leadsTo_of_row {r : Rc8} (row : exec c s = act f s) (hr : r.UpToEvents (f s.toRc8)) : LeadsTo c s r := leadsTo_of_act row hr

/-- A command's row that leaves a module up to events leads to it. -/
theorem leadsTo_of_command {code : Nat} {p : Fin 4} {m : Fin 8} {e : Exec} {body : Exec → Rc8 → Rc8} {r : Rc8}
    (he : findChecked s.toRc8 code p m = some e) (row : exec c s = act (runCmd code p m body) s) (hr : r.UpToEvents (body e s.toRc8)) :
    LeadsTo c s r :=
  leadsTo_of_row row ((runCmd_found he body).symm ▸ hr)

/-- A row that leaves the module as it is leaves the block. -/
theorem act_unchanged (h : f s.toRc8 = s.toRc8) : act f s = .next s := by rw [act_eq, after_unchanged h]

end

end Sys2Proof.Machine
end


section
/-! SUPPORT. Safety sessions: how they open, fail, lock and end, what a new password leaves, and the statement about them (11 R368, R369, R375,
R381). -/

namespace Sys2Proof.Machine

open Sys2Proof

/-! ### SAFETY_LOGIN (11 R368, R375) -/

/-- A refused login ends its command, and leaves an event. -/
theorem loginFailed_leaves (e : Exec) (st : Status) (fails lock : Nat) (s : Rc8) :
    (loginFailed e st fails lock s).saf = s.saf ∧ (loginFailed e st fails lock s).execs = s.marked e.id (.ended st []) := by
  refine ⟨by simp [loginFailed], ?_⟩
  rw [loginFailed, endWith_eq]
  simp [Rc8.ended, Rc8.marked]

section login
variable {e : Exec} {s : Rc8}

/-- A password of a wrong length is refused, and no failure counts. -/
theorem safetyLogin_wrongLength (h : (1 ≤ u8At e.req 0 ∧ u8At e.req 0 < 8) ∨ 32 < u8At e.req 0) :
    safetyLogin e s = loginFailed e .badField s.saf.fails 0 s := if_pos (by simp [h])

variable (length : (8 ≤ u8At e.req 0 ∧ u8At e.req 0 ≤ 32) ∨ (u8At e.req 0 = 0 ∧ s.nv.password = none))
  (chars : passwordChars (slice e.req 4 (u8At e.req 0)) = true)
  (unlocked : s.saf.lockUntil = none ∨ ∃ t0, s.saf.lockUntil = some t0 ∧ t0 ≤ s.clk.refosc)
include length chars unlocked

/-- A password in form, while no lock runs, is compared. -/
theorem safetyLogin_compared : safetyLogin e s =
    if passwordRight e.req s then
      endWith e.id .done (raise { src := 72, reason := 0x04, sev := .notice, p0 := e.port.val, p1 := u32At (slice e.req 36 16) 0, p2 := 0 }
        (modSaf (fun x => { x with
          fails := 0, lockUntil := none,
          sess := x.sess.set e.port (some { operator := slice e.req 36 16, last := s.clk.refosc, first := s.nv.password.isNone }) }) s))
    else if 5 ≤ s.saf.fails + 1 then
      loginFailed e .integrityFail (s.saf.fails + 1) 1 (modSaf (fun x => { x with fails := 0, lockUntil := some (s.clk.refosc + 60000000000) }) s)
    else loginFailed e .integrityFail (s.saf.fails + 1) 0 (modSaf (fun x => { x with fails := s.saf.fails + 1 }) s) := by
  have form : ¬ (decide (1 ≤ u8At e.req 0 ∧ u8At e.req 0 < 8 ∨ 32 < u8At e.req 0) || (u8At e.req 0 == 0 && s.nv.password.isSome) ||
      !passwordChars (slice e.req 4 (u8At e.req 0))) = true := by
    rcases length with inForm | ⟨zero, unset⟩
    · have bounds : ¬ (1 ≤ u8At e.req 0 ∧ u8At e.req 0 < 8 ∨ 32 < u8At e.req 0) := by omega
      have given : u8At e.req 0 ≠ 0 := by omega
      rw [chars, decide_eq_false bounds, beq_false_of_ne given]
      simp
    · rw [chars, zero, unset]
      simp
  have noLock : ¬ ((s.saf.lockUntil.map fun t => decide (s.clk.refosc < t)).getD false) = true := by
    rcases unlocked with never | ⟨t0, locked, ended⟩
    · rw [never]
      simp
    · rw [locked, Option.map_some, Option.getD_some, decide_eq_false (Nat.not_lt.2 ended)]
      simp
  exact (if_neg form).trans (if_neg noLock)

end login

/-! ### The end of sessions (11 R369, R381) -/

/-- The end of a port's session ends no other. -/
theorem endSession_saf (p : Fin 4) (cause : Nat) (s : Rc8) : (endSession p cause s).saf = { s.saf with sess := s.saf.sess.set p none } := by
  unfold endSession
  split
  · rw [raise_saf, modSaf_saf]
  · next closed =>
    have none_ : s.saf.sess[p] = none := by simpa [sessionOpen] using closed
    exact congrArg (fun v => ({ s.saf with sess := v } : Safety)) (by rw [← none_]; simp)

theorem endSession_password (p : Fin 4) (cause : Nat) (s : Rc8) : (endSession p cause s).nv.password = s.nv.password := by
  unfold endSession
  split
  · rw [raise_nv, modSaf_nv]
  · rfl

/-- Ending every session but one port's ends each other, and leaves the password. -/
theorem endOtherSessions_leaves (p : Fin 4) (cause : Nat) (s : Rc8) :
    (∀ q : Fin 4, q ≠ p → (endOtherSessions p cause s).saf.sess[q] = none) ∧ (endOtherSessions p cause s).saf.sess[p] = s.saf.sess[p] ∧
    (endOtherSessions p cause s).nv.password = s.nv.password := by
  have step : ∀ (q k : Fin 4) (r : Rc8), (if q = p then r else endSession q cause r).saf.sess[k] = if k = q ∧ k ≠ p then none else r.saf.sess[k] := by
    intro q k r
    by_cases own : q = p
    · subst own
      simp
    · by_cases same : k = q
      · subst same
        simp [own, endSession_sess]
      · simp only [if_neg own, endSession_sess, same, false_and, if_false]
        exact vector_set_other same _ _
  have fold : ∀ (l : List (Fin 4)) (k : Fin 4) (r : Rc8), (l.foldl (fun s q => if q = p then s else endSession q cause s) r).saf.sess[k] =
      if k ∈ l ∧ k ≠ p then none else r.saf.sess[k] := by
    intro l k
    induction l with
    | nil => intro r; simp
    | cons q l ih =>
      intro r
      rw [List.foldl_cons, ih, step]
      by_cases own : k = p
      · simp [own]
      · by_cases first : k = q
        · rw [if_pos (⟨first, own⟩ : k = q ∧ k ≠ p), ite_self, if_pos ⟨List.mem_cons.2 (.inl first), own⟩]
        · simp [own, first]
  have listed : ∀ k : Fin 4, k ∈ ([0, 1, 2, 3] : List (Fin 4)) := by decide
  refine ⟨fun q other => (fold _ q s).trans (if_pos ⟨listed q, other⟩), (fold _ p s).trans (if_neg fun h => h.2 rfl),
    foldl_keeps (fun r => r.nv.password) _ (fun r q => ?_) _ _⟩
  split
  · rfl
  · exact endSession_password ..

/-! ### SAFETY_PASSWORD (11 R381) -/

theorem safetyLog_password (kind port : Nat) (old new : Option (List Byte)) (operator : List Byte) (s : Rc8) :
    (safetyLog kind port old new operator s).nv.password = s.nv.password ∧ (safetyLog kind port old new operator s).saf = s.saf := ⟨rfl, rfl⟩

/-- A new password is stored, every other session ends, and its port's goes on as a full one. -/
theorem ownPassword_leaves (p : Fin 4) (op : List Byte) (s : Rc8) : (ownPassword p op s).nv.password = some (slice op 0 16, slice op 16 32) ∧
    (∀ q : Fin 4, q ≠ p → (ownPassword p op s).saf.sess[q] = none) ∧
    (ownPassword p op s).saf.sess[p] = s.saf.sess[p].map (fun y => { y with first := false }) := by
  have stored : ∀ r : Rc8, ∃ e, ownPassword p op s = raise e (effPassword (some p) op s) := fun _ => ⟨_, rfl⟩
  obtain ⟨e, raised⟩ := stored s
  rw [raised, raise_nv, raise_saf]
  generalize logged : safetyLog 3 (u8At op 64) s.nv.safeActive s.nv.safeActive (slice op 48 16)
    ({ s with nv := { s.nv with password := some (slice op 0 16, slice op 16 32) } } : Rc8) = r
  have effect : effPassword (some p) op s =
      modSaf (fun x => { x with sess := x.sess.set p (x.sess[p].map fun y => { y with first := false }) }) (endOtherSessions p 4 r) := by
    rw [← logged]; rfl
  obtain ⟨others, own, password⟩ := endOtherSessions_leaves p 4 r
  have kept : r.nv.password = some (slice op 0 16, slice op 16 32) ∧ r.saf = s.saf := by rw [← logged]; exact ⟨rfl, rfl⟩
  rw [effect, modSaf_nv, modSaf_saf]
  refine ⟨password.trans kept.1, fun q other => (vector_set_other other _ _).trans (others q other), ?_⟩
  have same : (endOtherSessions p 4 r).saf.sess[p] = s.saf.sess[p] := own.trans (by rw [kept.2])
  rw [← same]
  exact Vector.getElem_set_self _

/-! ### The bytes of an operation (11 R381) -/

/-- What stands at the front is read whole, and what stands behind it as if it stood there. -/
theorem slice_append_front (a b : List Byte) : slice (a ++ b) 0 a.length = a := by
  simp [slice, padTo]
theorem slice_append_behind (a b : List Byte) (n : Nat) : slice (a ++ b) a.length n = slice b 0 n := by
  simp [slice]
theorem padTo_of_length {n : Nat} {b : List Byte} (h : b.length = n) : padTo n b = b := by
  subst h
  simp [padTo]

/-- The operation of SAFETY_PASSWORD: salt, value, operator and port. -/
def passwordOp (e : Exec) (salt : List Byte) (s : Rc8) : List Byte :=
  padTo 16 salt ++ padTo 32 (pbkdf2 (slice e.req 4 (u8At e.req 0)) (padTo 16 salt) 10000) ++ padTo 16 (operatorOf e.port s) ++ le 1 e.port.val

theorem passwordOp_fields (e : Exec) {salt : List Byte} (salted : salt.length = 16) (s : Rc8) : slice (passwordOp e salt s) 0 16 = salt ∧
    slice (passwordOp e salt s) 16 32 = padTo 32 (pbkdf2 (slice e.req 4 (u8At e.req 0)) salt 10000) := by
  generalize value : padTo 32 (pbkdf2 (slice e.req 4 (u8At e.req 0)) salt 10000) = v
  have long : v.length = 32 := by rw [← value]; exact padTo_length ..
  have parts : passwordOp e salt s = salt ++ (v ++ (padTo 16 (operatorOf e.port s) ++ le 1 e.port.val)) := by
    simp [passwordOp, padTo_of_length salted, value]
  rw [parts]
  refine ⟨salted ▸ slice_append_front _ _, ?_⟩
  rw [← salted, slice_append_behind, ← long, slice_append_front]

/-- A module alone takes a new password at once. -/
theorem safetyPassword_alone {s : Rc8} (alone : s.pair.partner.present = false) (salt : List Byte) (e : Exec) :
    safetyPassword true salt e s = (ownPassword e.port (passwordOp e salt s) s).ended e.id .done [] :=
  (if_neg (by simp)).trans (pairStore_now alone false)

theorem exec_safetyPassword {salt : List Byte} (salted : salt.length = 16) (p : Fin 4) (m : Fin 8) (stored : Bool) (s : State) :
    exec (.safetyPassword p m stored salt) s = act (runCmd 0x0808 p m (safetyPassword stored salt)) s :=
  actIf_eq (beq_iff_eq.2 salted) ..

/-! ### The statement -/

/-- Settles O44: each row is its own branch of the login, or ends the sessions it names. -/
theorem safetySessions : Obligations.SafetySessions := by
  intro s p m e
  refine ⟨fun he unlocked length chars => ⟨fun right => ?opens, fun wrong few => ?fails, fun wrong many => ?locks⟩, fun he length => ?length,
    fun he => ?logout, fun x running => ?idle, fun salt he salted alone => ?password⟩
  case opens =>
    refine leads_of_command he rfl fun t made => ?_
    rw [made, safetyLogin_compared length chars unlocked, if_pos right]
    simp [endWith_eq, Rc8.ended, Rc8.marked]
  case fails =>
    refine leads_of_command he rfl fun t made => ?_
    rw [made, safetyLogin_compared length chars unlocked, if_neg (by simp [wrong]), if_neg (by omega)]
    exact loginFailed_leaves ..
  case locks =>
    refine leads_of_command he rfl fun t made => ?_
    rw [made, safetyLogin_compared length chars unlocked, if_neg (by simp [wrong]), if_pos (by omega)]
    exact loginFailed_leaves ..
  case length =>
    refine leads_of_command he rfl fun t made => ?_
    rw [made, safetyLogin_wrongLength length]
    exact loginFailed_leaves ..
  case logout =>
    refine leads_of_command he rfl fun t made => ?_
    rw [made, safetyLogout, endWith_eq, ← endSession_saf e.port 1]
    simp [Rc8.ended, Rc8.marked]
  case idle =>
    refine leads_of_row rfl fun t made => ?_
    rw [made, safetySessionIdle, running]
    have due : x.last + 900000000000 ≤ (atRefosc (x.last + sessionIdle) s.toRc8).clk.refosc := le_atRefosc (x.last + sessionIdle) s.toRc8
    simp only [endSession_saf, endSession_clk, atRefosc_saf, true_and]
    exact due
  case password =>
    refine leads_of_command he (exec_safetyPassword salted ..) fun t made => ?_
    rw [made, safetyPassword_alone alone]
    obtain ⟨saltField, value⟩ := passwordOp_fields e salted s.toRc8
    obtain ⟨password, others, own⟩ := ownPassword_leaves e.port (passwordOp e salt s.toRc8) s.toRc8
    rw [saltField, value] at password
    exact ⟨password, others, own⟩

end Sys2Proof.Machine
end

section
/-! SUPPORT. The recorder's flush, clear and seal, feed loss, the hold-up store, and the statement about them (16 R506 to R508, R510, R514; 17 R518,
R522, R523, R527, R528). -/

namespace Sys2Proof.Machine

open Sys2Proof

/-! ### What an event leaves of the log (16 R504) -/

/-- An occurrence leaves whether a flush failed, and of the log everything but the next sequence. -/
theorem recAdd_keeps (code p0 p1 time : Nat) (r : Recorder) (l : RecLog) : (recAdd code p0 p1 time r l).1.failing = r.failing ∧
    (recAdd code p0 p1 time r l).2 = { l with nextSeq := (recAdd code p0 p1 time r l).2.nextSeq } := by
  unfold recAdd
  split
  · exact ⟨rfl, rfl⟩
  · split
    · exact ⟨rfl, rfl⟩
    · exact ⟨rfl, rfl⟩

theorem raise_failing (e : Ev) (s : Rc8) : (raise e s).rcd.failing = s.rcd.failing := by
  rw [(raise_rcd e s).1]
  exact (recAdd_keeps ..).1
theorem raise_recLog (e : Ev) (s : Rc8) : (raise e s).nv.recLog = { s.nv.recLog with nextSeq := (raise e s).nv.recLog.nextSeq } := by
  rw [(raise_rcd e s).2]
  exact (recAdd_keeps ..).2
theorem raise_log (e : Ev) (s : Rc8) : (raise e s).nv.recLog.log = s.nv.recLog.log := by rw [raise_recLog]
theorem raise_sealed (e : Ev) (s : Rc8) : (raise e s).nv.recLog.sealed = s.nv.recLog.sealed := by rw [raise_recLog]

/-! ### A flush (16 R506 to R508) -/

/-- A flush that has room in the log keeps every record. -/
theorem recAll_flushCopy {s : Rc8} (room : (recAll s).length ≤ 524288) : recAll (flushCopy s) = recAll s := by
  have none_ : (recAll s).length - 524288 = 0 := by omega
  simp [recAll, flushCopy, logNow, Recorder.unflushed, logPlaces] at none_ ⊢
  simp [none_]

theorem flushCopy_log (s : Rc8) : (flushCopy s).nv.recLog.log = (recAll s).drop ((recAll s).length - 524288) := by
  simp only [flushCopy, logPlaces]

/-- A flush leaves the next sequence. -/
theorem flushCopy_nextSeq (s : Rc8) : (flushCopy s).nv.recLog.nextSeq = s.nv.recLog.nextSeq := by
  have copied : ∃ log slot, (flushCopy s).nv.recLog = { log := log, slot := slot, sealed := false, nextSeq := s.nv.recLog.nextSeq } := ⟨_, _, rfl⟩
  obtain ⟨log, slot, recLog⟩ := copied
  rw [recLog]

theorem reportDrops_none {s : Rc8} (h : s.rcd.dropped = 0) : reportDrops s = s := if_pos h

theorem reportDrops_pwr (s : Rc8) : (reportDrops s).pwr = s.pwr := by
  unfold reportDrops
  split <;> simp
theorem reportDrops_run (s : Rc8) : (reportDrops s).run = s.run := by
  unfold reportDrops
  split <;> simp
theorem reportDrops_clk (s : Rc8) : (reportDrops s).clk = s.clk := by
  unfold reportDrops
  split <;> simp

section flush
variable {s : Rc8}

theorem recFlush_sealed (h : s.nv.recLog.sealed = true ∧ s.pwr.loss = true) (x : FlushResult) : recFlush x s = s :=
  if_pos (by rw [h.1, h.2]; rfl)

variable (free : s.nv.recLog.sealed = false ∨ s.pwr.loss = false)
include free

theorem recFlush_free (x : FlushResult) : recFlush x s =
    match x with
    | .stored => reportDrops (flushCopy s)
    | .recordFailed => flushFailed 1 s
    | .headerFailed => flushFailed 2 s := by
  refine if_neg fun held => ?_
  obtain ⟨sealed, loss⟩ := Bool.and_eq_true_iff.1 held
  rcases free with unsealed | up
  · exact Bool.noConfusion (sealed.symm.trans unsealed)
  · exact Bool.noConfusion (loss.symm.trans up)

theorem recFlush_stored (h : s.rcd.dropped = 0) : recFlush .stored s = flushCopy s :=
  (recFlush_free free .stored).trans (reportDrops_none (s := flushCopy s) h)

/-- A flush that fails is remembered, and leaves the log. -/
theorem recFlush_failed {x : FlushResult} (h : x = .recordFailed ∨ x = .headerFailed) :
    (recFlush x s).rcd.failing = true ∧ (recFlush x s).nv.recLog.log = s.nv.recLog.log := by
  obtain ⟨cause, failed⟩ : ∃ cause, recFlush x s = flushFailed cause s := by
    rcases h with rfl | rfl
    · exact ⟨1, recFlush_free free .recordFailed⟩
    · exact ⟨2, recFlush_free free .headerFailed⟩
  rw [failed, flushFailed, raise_failing, raise_log]
  exact ⟨rfl, rfl⟩

end flush

/-- A seal leaves a sealed log, and of the rest of the module power, tasks and clocks. -/
theorem recSeal_leaves (s : Rc8) : (recSeal s).nv.recLog.sealed = true ∧ (recSeal s).pwr = s.pwr ∧ (recSeal s).run = s.run ∧ (recSeal s).clk = s.clk :=
  ⟨rfl, reportDrops_pwr _, reportDrops_run _, reportDrops_clk _⟩

/-! ### A clear (16 R510, R514) -/

/-- A clear that fails keeps the records not yet flushed. -/
theorem clearFailed_unflushed (s : Rc8) : (clearFailed s).rcd.unflushed = s.rcd.unflushed := by
  have all : s.rcd.unflushed.length - s.rcd.waiting = 0 := by
    rw [Recorder.unflushed, List.length_drop]
    omega
  show s.rcd.unflushed.drop (s.rcd.unflushed.length - s.rcd.waiting) = s.rcd.unflushed
  rw [all, List.drop_zero]

/-- A clear that fails leaves of the log what is still readable. -/
theorem clearFailed_log (s : Rc8) : (clearFailed s).nv.recLog.log.Sublist (logNow s.rcd s.nv.recLog) := List.filter_sublist

/-- A clear leaves RECORDER_CLEARED alone. -/
theorem recClear_leaves (by_ : Nat) (s : Rc8) : (recClear by_ s).nv.recLog =
      { log := [clearedRecord by_ (recAll s).length s.clk.ptu s.nv.recLog.nextSeq], slot := 0, sealed := false, nextSeq := (s.nv.recLog.nextSeq + 1) % 2 ^ 32 } ∧
    (recClear by_ s).rcd = { s.rcd with buf := [], waiting := 0, isOpen := false, openDirty := false, clears := inc32 s.rcd.clears } ∧
    (recClear by_ s).execs = s.execs := ⟨rfl, rfl, rfl⟩

/-- The body of RECORDER_CLEAR. -/
def recorderClear (p : Fin 4) (stored : Bool) (e : Exec) (s : Rc8) : Rc8 :=
  if otherWaiting s 0x0302 e.id then endWith e.id .busy s
  else if stored then endExec e.id .done (le 4 s.nv.recLog.nextSeq) (recClear p.val s)
  else endWith e.id .integrityFail (clearFailed s)

theorem exec_recorderClear (p : Fin 4) (m : Fin 8) (stored : Bool) (s : State) :
    exec (.recorderClear p m stored) s = act (runCmd 0x0302 p m (recorderClear p stored)) s := rfl

section clear
variable {s : Rc8} {e : Exec}

theorem recorderClear_busy (h : otherWaiting s 0x0302 e.id = true) (p : Fin 4) (b : Bool) : recorderClear p b e s = endWith e.id .busy s := if_pos h

theorem recorderClear_failed (h : otherWaiting s 0x0302 e.id = false) (p : Fin 4) :
    recorderClear p false e s = (clearFailed s).ended e.id .integrityFail [] :=
  (if_neg (by simp [h])).trans ((if_neg (by simp)).trans (endWith_eq ..))
theorem recorderClear_stored (h : otherWaiting s 0x0302 e.id = false) (p : Fin 4) :
    recorderClear p true e s = (recClear p.val s).ended e.id .done (le 4 s.nv.recLog.nextSeq) :=
  (if_neg (by simp [h])).trans ((if_pos rfl).trans (endExec_done ..))

end clear

/-! ### Feed loss and the hold-up store (17 R522, R523, R527, R528) -/

/-- A module whose power-fail flush has ended, with its times. -/
def Rc8.flushEnded (s : Rc8) (commitWait sealTime : Nat) : Rc8 :=
  modPwr (fun x => { x with flushing := false }) { s with nv := { s.nv with commitWait := commitWait, sealTime := sealTime } }

theorem powerFlushed_flushing {s : Rc8} (flushing : s.pwr.flushing = true) (w n : Nat) :
    ∃ e, powerFlushed w n s = raise e ((recSeal (atRefosc (s.pwr.lossAt + 1000 * n) s)).flushEnded w n) := ⟨_, if_pos flushing⟩

/-- The event after the power-fail flush leaves its seal, its times and the rest. -/
theorem raise_flushEnded (e : Ev) (w n : Nat) (s : Rc8) : (raise e (s.flushEnded w n)).nv.recLog.sealed = s.nv.recLog.sealed ∧
    (raise e (s.flushEnded w n)).pwr = { s.pwr with flushing := false } ∧ (raise e (s.flushEnded w n)).nv.commitWait = w ∧
    (raise e (s.flushEnded w n)).nv.sealTime = n ∧ (raise e (s.flushEnded w n)).clk = s.clk ∧ (raise e (s.flushEnded w n)).run = s.run := by
  rw [raise_sealed, raise_pwr, raise_nv, raise_clk, raise_run]
  exact ⟨rfl, rfl, rfl, rfl, rfl, rfl⟩

/-- The end of the power-fail flush seals the recorder. -/
theorem powerFlushed_leaves {s : Rc8} (flushing : s.pwr.flushing = true) (w n : Nat) : (powerFlushed w n s).nv.recLog.sealed = true ∧
    (powerFlushed w n s).pwr = { s.pwr with flushing := false } ∧ (powerFlushed w n s).nv.commitWait = w ∧ (powerFlushed w n s).nv.sealTime = n ∧
    s.pwr.lossAt + 1000 * n ≤ (powerFlushed w n s).clk.refosc ∧ (powerFlushed w n s).run = s.run := by
  obtain ⟨e, ended⟩ := powerFlushed_flushing flushing w n
  obtain ⟨sealed, pwr, run, clk⟩ := recSeal_leaves (atRefosc (s.pwr.lossAt + 1000 * n) s)
  obtain ⟨stillSealed, power, waited, sealedAt, clock, tasks⟩ := raise_flushEnded e w n (recSeal (atRefosc (s.pwr.lossAt + 1000 * n) s))
  rw [ended, stillSealed, power, waited, sealedAt, clock, tasks, sealed, pwr, run, clk, atRefosc_pwr, atRefosc_run]
  exact ⟨rfl, rfl, rfl, rfl, le_atRefosc .., rfl⟩

/-- A measured capacitance is kept, and one below 1.76 mF marks the store. -/
theorem upToEvents_measured (store cap : Nat) (s : Rc8) :
    ({ s with pwr := { s.pwr with cap := cap, degraded := s.pwr.degraded || decide (cap < 1760) } } : Rc8).UpToEvents (measured store cap s) := by
  unfold measured
  split
  · exact upToEvents_raise ..
  · exact .refl _

theorem holdupReady_charging {s : Rc8} (h : s.pwr.holdup = .charging) (store cap ms : Nat) :
    ({ atRefosc (s.pwr.chargeFrom + 1000000 * ms) s with
      pwr := { s.pwr with holdup := .ready, cap := cap, degraded := s.pwr.degraded || decide (cap < 1760) } } : Rc8).UpToEvents (holdupReady store cap ms s) := by
  rw [holdupReady, if_pos h]
  refine Rc8.UpToEvents.trans ?_ (upToEvents_measured ..)
  exact Rc8.UpToEvents.map (f := modPwr fun x => { x with cap := cap, degraded := x.degraded || decide (cap < 1760) }) (upToEvents_raise ..) rfl

/-! ### The statement -/

theorem recorder_flushes_and_clears (s : State) :
    (s.nv.recLog.sealed = true ∧ s.pwr.loss = true → ∀ x, exec (.recorderFlush x) s = .next s) ∧
    (s.nv.recLog.sealed = false ∨ s.pwr.loss = false →
      (s.rcd.dropped = 0 → Leads (.recorderFlush .stored) s fun t => t.nv.recLog.log = (recAll s.toRc8).drop ((recAll s.toRc8).length - 524288) ∧
        t.rcd.waiting = 0 ∧ t.nv.recLog.sealed = false ∧ t.nv.recLog.nextSeq = s.nv.recLog.nextSeq ∧
        ((recAll s.toRc8).length ≤ 524288 → recAll t.toRc8 = recAll s.toRc8)) ∧
      (∀ x, x = .recordFailed ∨ x = .headerFailed → Leads (.recorderFlush x) s fun t => t.rcd.failing = true ∧ t.nv.recLog.log = s.nv.recLog.log)) := by
  refine ⟨fun h x => act_unchanged (recFlush_sealed h x), fun free => ⟨fun none_ => leads_of_row rfl fun t made => ?_, fun x failed =>
    leads_of_row rfl fun t made => made ▸ recFlush_failed free failed⟩⟩
  rw [made, recFlush_stored free none_]
  exact ⟨flushCopy_log _, rfl, rfl, flushCopy_nextSeq _, recAll_flushCopy⟩

theorem recorder_clear (s : State) (p : Fin 4) (m : Fin 8) (e : Exec) (he : findChecked s.toRc8 0x0302 p m = some e) :
    (otherWaiting s.toRc8 0x0302 e.id = true → ∀ b, exec (.recorderClear p m b) s = .next (s.after (endWith e.id .busy))) ∧
    (otherWaiting s.toRc8 0x0302 e.id = false →
      (Leads (.recorderClear p m false) s fun t => t.execs = s.marked e.id (.ended .integrityFail []) ∧ t.rcd.unflushed = s.rcd.unflushed ∧
        t.rcd.waiting = s.rcd.waiting ∧ t.nv.recLog.log.Sublist (logNow s.rcd s.nv.recLog) ∧ t.nv.recLog.nextSeq = s.nv.recLog.nextSeq ∧
        t.rcd.clears = s.rcd.clears) ∧
      Leads (.recorderClear p m true) s fun t => t.rcd.buf = [] ∧ t.rcd.waiting = 0 ∧ t.rcd.clears = inc32 s.rcd.clears ∧
        t.execs = s.marked e.id (.ended .done (le 4 s.nv.recLog.nextSeq)) ∧ t.nv.recLog.nextSeq = (s.nv.recLog.nextSeq + 1) % 2 ^ 32 ∧ t.nv.recLog.sealed = false ∧
        t.nv.recLog.log = [{ code := 0x7001, rep := 1, seq := s.nv.recLog.nextSeq, time := s.clk.ptu, lastOff := 0, p0 := p.val, p1 := (recAll s.toRc8).length }]) := by
  refine ⟨fun busy b => ?busy, fun alone => ⟨?failed, ?cleared⟩⟩
  case busy =>
    rw [exec_recorderClear]
    exact act_runCmd he (recorderClear_busy busy p b)
  case failed =>
    refine leads_of_command he (exec_recorderClear ..) fun t made => ?_
    rw [made, recorderClear_failed alone]
    exact ⟨rfl, clearFailed_unflushed _, rfl, clearFailed_log _, rfl, rfl⟩
  case cleared =>
    refine leads_of_command he (exec_recorderClear ..) fun t made => ?_
    obtain ⟨recLog, rcd, execs⟩ := recClear_leaves p.val s.toRc8
    rw [made, recorderClear_stored alone]
    simp only [Rc8.ended, Rc8.marked, recLog, rcd, execs, true_and]
    rfl

/-- Settles O57: flush and clear by their branches, feeds and the store by what their rows leave up to events. -/
theorem recorderAndPower : Obligations.RecorderAndPower := by
  refine ⟨⟨recorder_flushes_and_clears, recorder_clear⟩, fun s => ⟨fun f v short => ?feed, fun store short loss => ?lossAgain, fun store short up => ?loss,
    fun w n most short flushing => ?flushed, fun us store which long short loss => ?returned, fun us store which long short up => ?stays,
    fun store cap ms short small long charging => ?ready, fun store cap short small ready => ?topup⟩⟩
  case feed =>
    refine ⟨leadsTo_of_row (actIf_act (decide_eq_true short) ..) ?_, feedState_missing _, feedState_ok _⟩
    obtain ⟨e, changed⟩ := feedChanged_eq f v s.toRc8
    rw [changed]
    split
    · exact .refl _
    · exact upToEvents_raiseLimited ..
  case lossAgain => exact (actIf_act (decide_eq_true short) ..).trans (act_unchanged (if_pos loss))
  case loss =>
    refine leadsTo_of_row (actIf_act (decide_eq_true short) ..) ?_
    rw [feedLoss, if_neg (by simp [up])]
    exact upToEvents_raise ..
  case flushed =>
    exact leads_of_row (actIf_act (decide_eq_true ⟨most, short⟩) ..) fun t made => made ▸ powerFlushed_leaves flushing w n
  case returned =>
    refine leads_of_row (actIf_act (decide_eq_true ⟨long, short⟩) ..) fun t made => ?_
    have due := le_atRefosc (s.pwr.lossAt + 1000 * us) s.toRc8
    rw [made, feedReturn, if_pos loss]
    simp only [raise_pwr, raise_nv, raise_clk]
    exact ⟨rfl, rfl, rfl, due⟩
  case stays => exact (actIf_act (decide_eq_true ⟨long, short⟩) ..).trans (act_unchanged (if_neg (by simp [up])))
  case ready => exact leadsTo_of_row (actIf_act (decide_eq_true ⟨short, small, long⟩) ..) (holdupReady_charging charging ..)
  case topup =>
    refine leadsTo_of_row (actIf_act (decide_eq_true ⟨short, small⟩) ..) ?_
    rw [holdupTopup, if_pos ready]
    exact upToEvents_measured ..

end Sys2Proof.Machine
end

section
/-! SUPPORT. Current loops, trim mode and trims, and the statement about them (15 R488 to R495, R500). -/

namespace Sys2Proof.Machine

open Sys2Proof

/-! ### One loop channel (15 R488, R489) -/

theorem modLoop_ffe (c : Fin 8) (f : Loop → Loop) (s : Rc8) : (modLoop c f s).ffe = { s.ffe with loops := s.ffe.loops.set c (f s.ffe.loops[c]) } := rfl

theorem modLoop_loop (c : Fin 8) (f : Loop → Loop) (s : Rc8) : (modLoop c f s).ffe.loops[c] = f s.ffe.loops[c] := by
  rw [modLoop_ffe]
  exact Vector.getElem_set_self c.isLt

theorem modLoop_clk (c : Fin 8) (f : Loop → Loop) (s : Rc8) : (modLoop c f s).clk = s.clk := modFfe_clk ..

theorem setLoopHold_loop (c : Fin 8) (on : Bool) (s : Rc8) : (setLoopHold c on s).ffe.loops[c] =
    if s.ffe.loops[c].hold = on || (on && s.itg.test) then s.ffe.loops[c] else { s.ffe.loops[c] with hold := on, settleEnd := some (s.clk.refosc + 10000000) } :=
  modLoop_loop ..

theorem setLoopHold_clk (c : Fin 8) (on : Bool) (s : Rc8) : (setLoopHold c on s).clk = s.clk := modFfe_clk ..

/-- Outside TEST a hold output takes what it is switched to; when it retries stays. -/
theorem setLoopHold_hold (c : Fin 8) {on : Bool} {s : Rc8} (h : on = false ∨ s.itg.test = false) :
    (setLoopHold c on s).ffe.loops[c].hold = on ∧ (setLoopHold c on s).ffe.loops[c].retryAt = s.ffe.loops[c].retryAt := by
  rw [setLoopHold_loop]
  split
  · next same =>
    have taken : s.ffe.loops[c].hold = on := by
      rcases h with rfl | h
      · simpa using same
      · simpa [h] using same
    exact ⟨taken, rfl⟩
  · exact ⟨rfl, rfl⟩

theorem overcurrentRelease_leaves {c : Fin 8} {s : Rc8} {t0 : Nat} (limiting : (s.ffe.loops[c]).limitFrom = some t0) (passive : (s.nv.loopCfg[c]).mode = 1)
    (holds : (s.ffe.loops[c]).hold = true) : ((overcurrentRelease c s).ffe.loops[c]).hold = false ∧ ((overcurrentRelease c s).ffe.loops[c]).over_ = true ∧
      ((overcurrentRelease c s).ffe.loops[c]).retryAt = some ((overcurrentRelease c s).clk.refosc + 10000000000) ∧
      ((overcurrentRelease c s).ffe.loops[c]).limitFrom = none ∧ t0 + 50000000 ≤ (overcurrentRelease c s).clk.refosc := by
  have due := le_atRefosc (t0 + 50000000) s
  obtain ⟨released, -⟩ := setLoopHold_hold c (on := false) (s := atRefosc (t0 + 50000000) s) (.inl rfl)
  rw [← setLoopHold_clk c false] at due
  rw [overcurrentRelease, limiting]
  dsimp only
  rw [if_pos ⟨passive, holds⟩]
  generalize setLoopHold c false (atRefosc (t0 + 50000000) s) = r at due released ⊢
  rw [modLoop_loop, modLoop_clk]
  exact ⟨released, rfl, rfl, rfl, due⟩

theorem holdRetry_leaves {c : Fin 8} {s : Rc8} {t0 : Nat} (released : (s.ffe.loops[c]).retryAt = some t0) (test : s.itg.test = false) :
    ((holdRetry c s).ffe.loops[c]).hold = (loopUsed c s && s.pwr.domains.getLsbD 11) ∧ ((holdRetry c s).ffe.loops[c]).retryAt = none ∧
      t0 ≤ (holdRetry c s).clk.refosc := by
  have due := le_atRefosc t0 s
  rw [holdRetry, released]
  dsimp only
  have retried := setLoopHold_hold c (on := loopUsed c s && s.pwr.domains.getLsbD 11)
    (s := modLoop c (fun x => { x with retryAt := none }) (atRefosc t0 s)) (.inr test)
  rw [modLoop_loop] at retried
  exact ⟨retried.1, retried.2, due⟩

/-! ### Conversions (15 R490 to R493) -/

/-- A channel after a conversion. -/
def convertedLoop (c : Fin 8) (x : LoopSample) (s : Rc8) : Loop :=
  let lim := limitFlags s.nv.loopCfg[c].mode x.limit s.clk.refosc s.ffe.loops[c]
  let i := trimmed s.nv.trims[c] x.current
  let h := headroom2000 s.nv.loopCfg[c] x i
  { lim with current := i, status := loopStatus lim.over_ i, headroom := roundDivAway h 2000, compliance := complianceOf s.ffe.loops[c].compliance h,
             convAt := s.clk.ptu }

/-- A conversion of a configured channel is kept in it, and touches of the field front nothing else but a capture. -/
theorem loopConversion_ffe {c : Fin 8} {s : Rc8} (used : (s.nv.loopCfg[c]).mode ≠ 0) (power : s.pwr.domains.getLsbD 11 = true) (x : LoopSample) :
    (loopConversion c x s).ffe.loops = s.ffe.loops.set c (convertedLoop c x s) ∧ (loopConversion c x s).ffe.pins = s.ffe.pins := by
  have converts : ¬ ((s.nv.loopCfg[c]).mode = 0 ∨ s.pwr.domains.getLsbD 11 = false) :=
    fun h => h.elim used fun off => Bool.noConfusion (power.symm.trans off)
  have kept : (loopConversion c x s).ffe = (modLoop c (fun _ => convertedLoop c x s) (captureTake c x.current s)).ffe := by
    rw [loopConversion, if_neg converts]
    dsimp only
    rw [apply_ite Rc8.ffe, raise_ffe, ite_self, apply_ite Rc8.ffe, raise_ffe, ite_self, apply_ite Rc8.ffe, raiseLimited_ffe, ite_self]
    rfl
  rw [kept, modLoop_ffe]
  exact ⟨rfl, rfl⟩

section compliance
variable (old : Bool) {h : Int}

theorem complianceOf_low (low : h < 2000000) : complianceOf old h = true := if_pos low
theorem complianceOf_high (high : 2400000 ≤ h) : complianceOf old h = false := (if_neg (by omega)).trans (if_pos high)
theorem complianceOf_between (least : 2000000 ≤ h) (most : h < 2400000) : complianceOf old h = old := (if_neg (by omega)).trans (if_neg (by omega))

end compliance

/-! ### Trim mode (15 R494, R495) -/

/-- The trim mode of the field front, entered, stepped or left. -/
def Rc8.trimming (s : Rc8) (t : Option TrimMode) : Rc8 := { s with ffe := { s.ffe with trim := t } }

theorem leaveTrim_some {s : Rc8} {x : TrimMode} (h : s.ffe.trim = some x) (cause : Nat) : ∃ e, leaveTrim cause s = raise e (s.trimming none) := by
  rw [leaveTrim, h]
  exact ⟨_, rfl⟩

/-- Trim mode is left at an instant of REFOSC. -/
theorem upToEvents_leaveTrim_atRefosc {s : Rc8} {x : TrimMode} (h : s.ffe.trim = some x) (cause target : Nat) :
    ({ atRefosc target s with ffe := { s.ffe with trim := none } } : Rc8).UpToEvents (leaveTrim cause (atRefosc target s)) := by
  have on : (atRefosc target s).ffe.trim = some x := (congrArg FieldFront.trim (atRefosc_ffe ..)).trans h
  obtain ⟨e, left⟩ := leaveTrim_some on cause
  rw [left, Rc8.trimming, atRefosc_ffe]
  exact upToEvents_raise ..

section select
variable {s : Rc8} {ms : Nat} (idle : (s.execs.any fun e => e.code == 0x0C04) = false)
include idle

theorem selPress_enters {c : Nat} {l : List Nat} (off : s.ffe.trim = none) (long : 3000 ≤ ms) (used : usedLoops s = c :: l) (stop : s.run.key = .stop) :
    ∃ e, selPress ms s = raise e (s.trimming (some (zeroStep c s.clk.refosc))) := by
  rw [selPress, off]
  dsimp only
  rw [if_pos ⟨long, idle⟩, enterTrim, used]
  dsimp only
  rw [if_pos stop]
  exact ⟨_, rfl⟩
theorem selPress_leaves {x : TrimMode} (on : s.ffe.trim = some x) (long : 3000 ≤ ms) : selPress ms s = leaveTrim 1 s := by
  rw [selPress, on]
  dsimp only
  rw [if_pos long, if_neg (by simp [idle])]

end select

theorem selPress_steps {s : Rc8} {ms : Nat} {x : TrimMode} (on : s.ffe.trim = some x) (short : ms < 1000) (zero : x.span = false) :
    selPress ms s = s.trimming (some (zeroStep (nextLoop x.chan (usedLoops s)) s.clk.refosc)) := by
  rw [selPress, on]
  dsimp only
  rw [if_neg (by omega), if_pos short, zero]
  rfl

theorem setPress_idle {s : Rc8} {x : TrimMode} (on : s.ffe.trim = some x) (none_ : x.capture = none) (ms : Nat) :
    setPress ms s = s.trimming (some { x with press := s.clk.refosc, capture := if 2000 ≤ ms then some [] else none }) := by
  simp [setPress, modFfe, Rc8.trimming, on, none_]

/-! ### Captures (15 R494) -/

/-- Flashes of the trim procedure start. -/
theorem upToEvents_flashes {r s : Rc8} (h : r.UpToEvents s) (fault : Bool) : (flashes fault r).UpToEvents (flashes fault s) := h.map rfl

theorem foldl_add_eq_sum (l : List Int) : l.foldl (· + ·) 0 = l.sum := List.sum_eq_foldl.symm

section capture
variable {s : Rc8} {x : TrimMode} {l : List Int} (on : s.ffe.trim = some x) (capture : x.capture = some l) (full : 64 ≤ l.length)
include on capture full

theorem captureDone_full : captureDone s =
    if !x.span then
      if 64 * 7000 ≤ l.sum ∧ l.sum ≤ 64 * 9000 then
        s.trimming (some { x with capture := none, span := true, z := roundDivAway (l.sum - 64 * 8000) 64 })
      else trimRefused x.chan 1 (clampInt 0 65535 (roundDivAway l.sum 64)).toNat (s.trimming (some { x with capture := none }))
    else
      let d := l.sum - 64 * (8000 + x.z)
      let k := if 0 < d then roundDivAway ((64 * 32000 - d) * 65536) d.toNat else 65536
      if 64 * 38000 ≤ l.sum ∧ l.sum ≤ 64 * 42000 ∧ -3277 ≤ k ∧ k ≤ 3277 then
        flashes false (storeTrim x.chan x.z k 2 2 (s.trimming (some (zeroStep x.chan x.press))))
      else trimRefused x.chan 2 (clampInt 0 65535 (roundDivAway l.sum 64)).toNat (s.trimming (some { x with capture := none })) := by
  rw [← foldl_add_eq_sum, captureDone, on]
  dsimp only
  rw [capture]
  dsimp only
  rw [if_neg (Nat.not_lt.2 full)]
  rfl

/-- A mean of the zero step in range gives the zero. -/
theorem captureDone_zero (step : x.span = false) (least : 64 * 7000 ≤ l.sum) (most : l.sum ≤ 64 * 9000) : captureDone s =
    s.trimming (some { x with capture := none, span := true, z := roundDivAway (l.sum - 64 * 8000) 64 }) := by
  rw [captureDone_full on capture full, if_pos (by rw [step]; rfl), if_pos ⟨least, most⟩]

/-- One out of range is refused. -/
theorem captureDone_zeroRefused (step : x.span = false) (outside : l.sum < 64 * 7000 ∨ 64 * 9000 < l.sum) :
    ∃ mean, captureDone s = trimRefused x.chan 1 mean (s.trimming (some { x with capture := none })) := by
  have far : ¬ (64 * 7000 ≤ l.sum ∧ l.sum ≤ 64 * 9000) := fun ⟨least, most⟩ => outside.elim (Int.not_lt.2 least) (Int.not_lt.2 most)
  rw [captureDone_full on capture full, if_pos (by rw [step]; rfl), if_neg far]
  exact ⟨_, rfl⟩

/-- A mean of the span step in range that gives a slope in range stores both trims, and the next capture is the zero's. -/
theorem captureDone_span {k : Int} (step : x.span = true) (least : 64 * 38000 ≤ l.sum) (most : l.sum ≤ 64 * 42000)
    (above : 0 < l.sum - 64 * (8000 + x.z))
    (slope : k = roundDivAway ((64 * 32000 - (l.sum - 64 * (8000 + x.z))) * 65536) (l.sum - 64 * (8000 + x.z)).toNat) (low : -3277 ≤ k) (high : k ≤ 3277) :
    captureDone s = flashes false (storeTrim x.chan x.z k 2 2 (s.trimming (some (zeroStep x.chan x.press)))) := by
  rw [captureDone_full on capture full, if_neg (by rw [step]; exact Bool.false_ne_true)]
  dsimp only
  rw [if_pos above, ← slope, if_pos ⟨least, most, low, high⟩]

end capture

/-! ### FFE_LOOP_TRIM (15 R500) -/

/-- A module with the trims of a channel. -/
def Rc8.trimsStored (s : Rc8) (c : Fin 8) (x : Trim) : Rc8 := { s with nv := { s.nv with trims := s.nv.trims.set c x } }

theorem trimsStored_trims (s : Rc8) (c : Fin 8) (x : Trim) : (s.trimsStored c x).nv.trims[c] = x := Vector.getElem_set_self c.isLt

theorem upToEvents_storeTrim (c : Fin 8) (z k : Int) (source why : Nat) (s : Rc8) :
    (s.trimsStored c { z := z, s := k, source := source }).UpToEvents (storeTrim c.val z k source why s) := by
  rw [storeTrim, vput_const rfl]
  exact upToEvents_raise ..

theorem storeTrim_trims (c : Fin 8) (z k : Int) (source why : Nat) (s : Rc8) :
    (storeTrim c.val z k source why s).nv.trims[c] = { z := z, s := k, source := source } := by
  rw [storeTrim, vput_const rfl, raise_nv]
  exact trimsStored_trims ..

theorem eq_loopAt {e : Exec} {c : Fin 8} (h : u8At e.req 0 = c.val) : c = loopAt e := Fin.ext (h ▸ (Nat.mod_eq_of_lt (h ▸ c.isLt)).symm)

section trim
variable {e : Exec} {c : Fin 8} (named : u8At e.req 0 = c.val) {s : Rc8}
include named

theorem loopTrim_read (read : u8At e.req 1 = 3) (b : Bool) : loopTrim b e s = endExec e.id .done (trimBytes s.nv.trims[c]) s := by
  obtain rfl := eq_loopAt named
  exact if_pos read

theorem loopTrim_free (writes : u8At e.req 1 ≠ 3) (free : s.ffe.trim = none) (b : Bool) : loopTrim b e s =
    if !b then endWith e.id .integrityFail s
    else
      let s1 := if u8At e.req 1 = 1 then storeTrim c.val (s16At e.req 2) (s16At e.req 4) 1 1 s else storeTrim c.val 0 0 1 3 s
      endExec e.id .done (trimBytes s1.nv.trims[c]) s1 := by
  obtain rfl := eq_loopAt named
  exact (if_neg writes).trans (if_neg (by rw [free]; exact Bool.false_ne_true))

/-- Trims written or cleared are kept and answered. -/
theorem loopTrim_stores {x : Trim} (free : s.ffe.trim = none) (asked : (u8At e.req 1 = 1 ∧ x = { z := s16At e.req 2, s := s16At e.req 4, source := 1 }) ∨
    (u8At e.req 1 = 2 ∧ x = { z := 0, s := 0, source := 1 })) : ((s.trimsStored c x).ended e.id .done (trimBytes x)).UpToEvents (loopTrim true e s) := by
  obtain ⟨why, stored⟩ : ∃ why, loopTrim true e s = (storeTrim c.val x.z x.s x.source why s).ended e.id .done (trimBytes x) := by
    rcases asked with ⟨write, rfl⟩ | ⟨clear, rfl⟩
    · refine ⟨1, (loopTrim_free named (by omega) free true).trans ?_⟩
      rw [if_pos write]
      exact (if_neg (by simp)).trans (by rw [endExec_done, storeTrim_trims])
    · refine ⟨3, (loopTrim_free named (by omega) free true).trans ?_⟩
      rw [if_neg (by omega : u8At e.req 1 ≠ 1)]
      exact (if_neg (by simp)).trans (by rw [endExec_done, storeTrim_trims])
  rw [stored]
  exact (upToEvents_storeTrim ..).map (f := fun r => r.ended e.id .done (trimBytes x)) rfl

end trim

theorem loopTrim_busy {e : Exec} {s : Rc8} (writes : u8At e.req 1 ≠ 3) (trims : s.ffe.trim.isSome = true) (b : Bool) :
    loopTrim b e s = endWith e.id .busy s :=
  (if_neg writes).trans (if_pos trims)

/-! ### The statement -/

/-- Settles O56: each row by its branch, and what it raises up to events. -/
theorem loopsAndTrims : Obligations.LoopsAndTrims := by
  refine ⟨fun s c => ⟨fun x unused => ?unused, fun x used power => ?converted, fun t0 limiting passive holds => ?released, fun t0 released test => ?retried,
    fun t0 settles => ?settled⟩, fun s ms idle => ⟨fun c l off long used stop => ?enters, fun x on long => ?leaves, fun x on short zero => ?steps⟩,
    fun s ms x on none_ => ?set, fun s x l c on capture channel full => ⟨fun step least most => ?zero, fun step outside => ?refused,
      fun k step least most above slope low high => ?span⟩, fun s x on => ?timeout,
    fun s p m e c he named => ⟨fun b read => ?read, fun b writes trims => ?busy, fun writes free => ?failed, fun x free asked => ?stores⟩⟩
  case unused => exact act_unchanged (if_pos (.inl unused))
  case converted =>
    refine leads_of_row rfl fun t made => ?_
    obtain ⟨loops, pins⟩ := loopConversion_ffe used power x
    have converted : t.ffe.loops[c] = convertedLoop c x s.toRc8 := by
      rw [made]
      simp [loops]
    rw [converted]
    refine ⟨rfl, rfl, rfl, complianceOf_low _, complianceOf_high _, complianceOf_between _, rfl, made ▸ pins, fun d other => ?_⟩
    rw [made]
    simp [loops, Fin.val_ne_of_ne other.symm]
  case released => exact leads_of_row rfl fun t made => made ▸ overcurrentRelease_leaves limiting passive holds
  case retried => exact leads_of_row rfl fun t made => made ▸ holdRetry_leaves released test
  case settled =>
    refine leads_of_row rfl fun t made => ?_
    rw [made, settlingEnd, settles]
    exact ⟨rfl, le_atRefosc .., rfl⟩
  case enters =>
    refine leadsTo_of_row rfl ?_
    obtain ⟨e, entered⟩ := selPress_enters idle off long used stop
    rw [entered]
    exact upToEvents_raise ..
  case leaves =>
    refine leadsTo_of_row rfl ?_
    obtain ⟨e, left⟩ := leaveTrim_some on 1
    rw [selPress_leaves idle on long, left]
    exact upToEvents_raise ..
  case steps => exact act_eq_of_eq (selPress_steps on short zero)
  case set => exact act_eq_of_eq (setPress_idle on none_ ms)
  case zero => exact act_eq_of_eq (captureDone_zero on capture full step least most)
  case refused =>
    refine leadsTo_of_row rfl ?_
    obtain ⟨mean, refused⟩ := captureDone_zeroRefused on capture full step outside
    rw [refused]
    exact upToEvents_raise ..
  case span =>
    refine leadsTo_of_row rfl ?_
    rw [captureDone_span on capture full step least most above slope low high, channel]
    exact upToEvents_flashes (upToEvents_storeTrim ..) false
  case timeout =>
    refine leadsTo_of_row rfl ?_
    rw [trimTimeout, on]
    dsimp only
    exact upToEvents_leaveTrim_atRefosc on 2 _
  case read => exact act_runCmd he (loopTrim_read named read b)
  case busy => exact act_runCmd he (loopTrim_busy writes trims b)
  case failed => exact act_runCmd he ((loopTrim_free named writes free false).trans (if_pos rfl))
  case stores => exact leadsTo_of_command he rfl (loopTrim_stores named free asked)

end Sys2Proof.Machine
end

section
/-! SUPPORT. Test pulses and their end, and the statement about them (11 R363, R364). -/

namespace Sys2Proof.Machine

open Sys2Proof

/-! ### The start of a pulse (11 R363, R364) -/

/-- A pulse that no command asked for starts at the module's clock, and the next one takes the output's other side. -/
theorem startPulse_own (j : Fin 8) (dark : Bool) (side : Fin 2) (s : Rc8) :
    (startPulse j dark side none s).saf.pulse = some { out := j, dark := dark, side := side, start := (startPulse j dark side none s).clk.refosc, exec := none } ∧
    (startPulse j dark side none s).saf.nextSide[j] ≠ side ∧ (startPulse j dark side none s).saf.ch = s.saf.ch := by
  have next : (startPulse j dark side none s).saf.nextSide[j] = if side = 0 then 1 else 0 := by simp [startPulse]
  have turns : ∀ k : Fin 2, (if k = 0 then (1 : Fin 2) else 0) ≠ k := by decide
  exact ⟨rfl, next ▸ turns side, rfl⟩

/-- The instant from which an output's next pulse may start. -/
def pulseInstant (set : List Byte) (j : Fin 8) (s : Rc8) : Nat := max (pulseFree s) (s.saf.testFrom[j] + outInterval set j.val * 1000000000)

section due
variable {s : Rc8} {j : Fin 8} {set : List Byte} (idle : s.saf.pulse = none) (none_ : s.saf.resetTests = []) (active : activeSet s = some set)
  (used : bitAt (outMode set j.val) 0 = true)
include idle none_ active used

/-- An output in use whose pulse no other one precedes is tested as the module's place, its command and the set have it. -/
theorem testPulse_due (named : Bool) : testPulse j named s =
    if isStandby s then
      if named && commandKnown s && bitAt (u8At s.ffe.holder 262) j.val && !(commandedLow s).getLsbD j.val && !(commandedHigh s).getLsbD j.val &&
        bitAt (outMode set j.val) 2 then startPulse j false s.saf.nextSide[j] none (atRefosc (pulseInstant set j s) s) else s
    else if (commandedLow s).getLsbD j.val && (commandedHigh s).getLsbD j.val && bitAt (outMode set j.val) 1 then
      startPulse j true s.saf.nextSide[j] none (atRefosc (pulseInstant set j s) s)
    else if !(commandedLow s).getLsbD j.val && !(commandedHigh s).getLsbD j.val && bitAt (outMode set j.val) 2 then
      startPulse j false s.saf.nextSide[j] none (atRefosc (pulseInstant set j s) s)
    else s := by
  rw [testPulse, if_neg (by rw [idle]; exact Bool.false_ne_true), none_]
  dsimp only
  rw [active]
  dsimp only
  rw [if_neg (by rw [used]; exact Bool.false_ne_true)]
  rfl

theorem testPulse_standby (standby : isStandby s = true) {named : Bool} (named_ : named = true) (known : commandKnown s = true)
    (round : bitAt (u8At s.ffe.holder 262) j.val = true) (low : (commandedLow s).getLsbD j.val = false) (high : (commandedHigh s).getLsbD j.val = false)
    (light : bitAt (outMode set j.val) 2 = true) :
    testPulse j named s = startPulse j false s.saf.nextSide[j] none (atRefosc (pulseInstant set j s) s) := by
  rw [testPulse_due idle none_ active used, if_pos standby, named_, known, round, low, high, light]
  rfl

theorem testPulse_standby_unnamed (standby : isStandby s = true) {named : Bool} (unnamed : named = false ∨ bitAt (u8At s.ffe.holder 262) j.val = false) :
    testPulse j named s = s := by
  rw [testPulse_due idle none_ active used, if_pos standby]
  refine if_neg fun test => ?_
  rcases unnamed with rfl | round
  · simp at test
  · simp [round] at test

/-- On the module that drives the switches, its own are the commanded ones. -/
theorem testPulse_own (own : isStandby s = false) (named : Bool) : testPulse j named s =
    if s.saf.ch[0].closed.getLsbD j.val && s.saf.ch[1].closed.getLsbD j.val && bitAt (outMode set j.val) 1 then
      startPulse j true s.saf.nextSide[j] none (atRefosc (pulseInstant set j s) s)
    else if !s.saf.ch[0].closed.getLsbD j.val && !s.saf.ch[1].closed.getLsbD j.val && bitAt (outMode set j.val) 2 then
      startPulse j false s.saf.nextSide[j] none (atRefosc (pulseInstant set j s) s)
    else s := by
  have drives : ¬ isStandby s = true := by simp [own]
  rw [testPulse_due idle none_ active used, if_neg drives, commandedLow, if_neg drives, commandedHigh, if_neg drives]

end due

/-! ### The end of a pulse (11 R363) -/

theorem outputFault_saf (j : Fin 8) (cause other : Nat) (s : Rc8) : (outputFault j cause other s).saf =
    { s.saf with faults := s.saf.faults ||| (1#8 <<< j.val), ch := vmap (fun c => { c with closed := c.closed &&& ~~~(1#8 <<< j.val) }) s.saf.ch } := by
  unfold outputFault
  extract_lets m s1
  split
  · rfl
  · exact raise_saf ..

/-- No pulse runs, and the output is faulty and open at both channels. -/
def openedByFault (j : Fin 8) (s : Rc8) : Prop :=
  s.saf.pulse = none ∧ s.saf.faults.getLsbD j.val = true ∧ ∀ c : Fin 2, s.saf.ch[c].closed.getLsbD j.val = false

theorem outputFault_opens {s : Rc8} (idle : s.saf.pulse = none) (j : Fin 8) (cause other : Nat) : openedByFault j (outputFault j cause other s) := by
  have own : ∀ k : Fin 8, (1#8 <<< k.val).getLsbD k.val = true := by decide
  rw [openedByFault, outputFault_saf]
  refine ⟨idle, ?_, fun c => ?_⟩
  · rw [BitVec.getLsbD_or, own, Bool.or_true]
  · simp only [Fin.getElem_fin, vmap_getElem, BitVec.getLsbD_and, BitVec.getLsbD_not, own, Bool.not_true, Bool.and_false]

/-- Another output's fault leaves this one's. -/
theorem openedByFault_outputFault {s : Rc8} {j : Fin 8} (h : openedByFault j s) (k : Fin 8) (cause other : Nat) :
    openedByFault j (outputFault k cause other s) := by
  obtain ⟨idle, fault, opened⟩ := h
  rw [openedByFault, outputFault_saf]
  refine ⟨idle, ?_, fun c => ?_⟩
  · rw [BitVec.getLsbD_or, fault, Bool.true_or]
  · have still := opened c
    simp only [Fin.getElem_fin, vmap_getElem, BitVec.getLsbD_and] at still ⊢
    rw [still, Bool.false_and]

/-- The module at the end of a pulse's width, with what was read. -/
def pulseRead (q : Pulse) (pc mc : BitVec 8) (s : Rc8) : Rc8 :=
  modSaf (fun x => { x with pulse := none, readP := pc, readM := mc })
    (atRefosc (q.start + ((activeSet s).map fun set => outWidth set q.out.val).getD 100 * 1000) s)

theorem pulseRead_saf (q : Pulse) (pc mc : BitVec 8) (s : Rc8) : (pulseRead q pc mc s).saf = { s.saf with pulse := none, readP := pc, readM := mc } := by
  rw [pulseRead, modSaf_saf, atRefosc_saf]
theorem le_pulseRead (q : Pulse) (pc mc : BitVec 8) (s : Rc8) : q.start ≤ (pulseRead q pc mc s).clk.refosc := by
  rw [pulseRead, modSaf_clk]
  exact (Nat.le_add_right ..).trans (le_atRefosc ..)

section pulseEnd
variable {s : Rc8} {q : Pulse} (runs : s.saf.pulse = some q) (own : q.exec = none) (pc mc : BitVec 8)
include runs own

theorem testPulseEnd_own : testPulseEnd pc mc s =
    (allOutputs.filter (followsPulse q (commandedLow s) (commandedHigh s) pc mc)).foldl
      (fun s k => outputFault k 3 q.out.val (outputFault q.out 3 k.val s))
      (if pulseFollows q pc mc then pulseRead q pc mc s else outputFault q.out (if q.dark then 5 else 4) 0xFF (pulseRead q pc mc s)) := by
  rw [testPulseEnd, runs]
  dsimp only
  rw [own]
  rfl

/-- Readbacks that follow the pulse end it. -/
theorem testPulseEnd_follows (follows : pulseFollows q pc mc = true)
    (alone : allOutputs.filter (followsPulse q (commandedLow s) (commandedHigh s) pc mc) = []) : testPulseEnd pc mc s = pulseRead q pc mc s := by
  rw [testPulseEnd_own runs own, alone, if_pos follows, List.foldl_nil]

/-- A readback that does not follow opens the output by its fault. -/
theorem testPulseEnd_fails (fails : pulseFollows q pc mc = false) : openedByFault q.out (testPulseEnd pc mc s) := by
  rw [testPulseEnd_own runs own, if_neg (by simp [fails])]
  have opened : openedByFault q.out (outputFault q.out (if q.dark then 5 else 4) 0xFF (pulseRead q pc mc s)) :=
    outputFault_opens (by rw [pulseRead_saf]) ..
  generalize outputFault q.out (if q.dark then 5 else 4) 0xFF (pulseRead q pc mc s) = r at opened ⊢
  generalize allOutputs.filter (followsPulse q (commandedLow s) (commandedHigh s) pc mc) = others
  induction others generalizing r with
  | nil => exact opened
  | cons k others ih => exact ih _ (openedByFault_outputFault (openedByFault_outputFault opened ..) ..)

end pulseEnd

/-! ### The statement -/

/-- Settles O46: the branches of a pulse's start, and the fault that its readback leaves. -/
theorem testPulses : Obligations.TestPulses := by
  refine ⟨fun s j set named idle none_ active used => ⟨fun standby named_ known round low high light => ?standby, fun standby unnamed => ?unnamed,
    fun own low high dark => ?dark, fun own low high light => ?light, fun own low high noDark => ?untested⟩,
    fun s q pc mc runs own => ⟨fun follows alone => ?follows, fun fails => ?fails⟩⟩
  case standby =>
    refine leads_of_row rfl fun t made => ?_
    rw [made, testPulse_standby idle none_ active used standby named_ known round low high light]
    exact (startPulse_own ..).1
  case unnamed => exact act_unchanged (testPulse_standby_unnamed idle none_ active used standby unnamed)
  case dark =>
    refine leads_of_row rfl fun t made => ?_
    rw [made, testPulse_own idle none_ active used own, if_pos (by rw [low, high, dark]; rfl)]
    exact startPulse_own ..
  case light =>
    refine leads_of_row rfl fun t made => ?_
    obtain ⟨pulse, -, channels⟩ := startPulse_own j false s.saf.nextSide[j] (atRefosc (pulseInstant set j s.toRc8) s.toRc8)
    rw [made, testPulse_own idle none_ active used own, if_neg (by rw [low]; exact Bool.false_ne_true), if_pos (by rw [low, high, light]; rfl)]
    exact ⟨pulse, channels⟩
  case untested =>
    refine act_unchanged ?_
    rw [testPulse_own idle none_ active used own, if_neg (by rw [noDark, Bool.and_false]; exact Bool.false_ne_true),
      if_neg (by rw [low]; exact Bool.false_ne_true)]
  case follows =>
    refine leads_of_row rfl fun t made => ?_
    rw [made, testPulseEnd_follows runs own pc mc follows alone]
    exact ⟨pulseRead_saf .., le_pulseRead ..⟩
  case fails => exact leads_of_row rfl fun t made => made ▸ testPulseEnd_fails runs own pc mc fails

end Sys2Proof.Machine
end

section
/-! SUPPORT. Safety parameter sets, their activation and the reset of safe stops, and the statement about them (11 R354, R363, R367, R370, R376, R377,
R382). -/

namespace Sys2Proof.Machine

open Sys2Proof

/-! ### Commands that ran long, and operations fixed for a round (02 R59; 10 R309, R569) -/

/-- A command that has answered PENDING ends. -/
theorem endWith_pendNow_execs (e : Exec) (st : Status) (s : Rc8) : (endWith e.id st (pendNow e s)).execs = s.markedLong e.id (.ended st []) := by
  rw [endWith_eq]
  exact marked_pendNow ..

/-- An operation fixed for a round joins those that wait for theirs, and touches nothing else but the pair link. -/
theorem pairAt_leaves (id : Nat) (op : PairOp) (round : Nat) (s : Rc8) : (pairAt id op round s).saf = s.saf ∧ (pairAt id op round s).nv = s.nv ∧
    (pairAt id op round s).pair.pend.length = s.pair.pend.length + 1 := by
  unfold pairAt
  extract_lets sent s1
  have told : s1.saf = s.saf ∧ s1.nv = s.nv ∧ s1.pair.pend = s.pair.pend := by
    unfold s1
    split
    · exact ⟨plkSend_saf .., plkSend_nv .., plkSend_pend ..⟩
    · exact ⟨rfl, rfl, rfl⟩
  obtain ⟨saf, nv, pend⟩ := told
  rw [modPair_saf, modPair_nv, modPair_pair, List.length_append, pend]
  exact ⟨saf, nv, rfl⟩

/-! ### SAFETY_LOAD (11 R367, R376) -/

/-- A safety set with a block more. -/
def Rc8.setBlock (s : Rc8) (e : Exec) : Rc8 := modSaf (fun x => { x with load := some (blockTake s.saf.load e) }) s

section load
variable {e : Exec} {s : Rc8} (free : BlockLoad.runs s.saf.load s = false) (stored : Bool)
include free

/-- A block that is not the last is kept. -/
theorem safetyLoad_more (more : bitAt (u8At e.req 0) 0 = false) :
    safetyLoad stored e s = endExec e.id .done (blockResponse (blockTake s.saf.load e)) (s.setBlock e) :=
  (if_neg (by rw [free]; exact Bool.false_ne_true)).trans (if_neg (by rw [blockLast, more]; exact Bool.false_ne_true))

/-- The last block is judged. -/
theorem safetyLoad_last (last : bitAt (u8At e.req 0) 0 = true) : safetyLoad stored e s =
    if !setCrcOk (blockTake s.saf.load e).data then endWith e.id .integrityFail (pendNow e (s.setBlock e))
    else if !setFieldsOk (blockTake s.saf.load e).data then endWith e.id .badField (pendNow e (s.setBlock e))
    else if !stored then endWith e.id .integrityFail (pendNow e (s.setBlock e))
    else pairStore e.id (.command 0x0802 (blockTake s.saf.load e).data) 0 [] false (ownSafetyLoad e.port.val (blockTake s.saf.load e).data) (pendNow e (s.setBlock e)) :=
  (if_neg (by rw [free]; exact Bool.false_ne_true)).trans (if_pos last)

theorem safetyLoad_badCrc (last : bitAt (u8At e.req 0) 0 = true) (bad : setCrcOk (blockTake s.saf.load e).data = false) :
    safetyLoad stored e s = endWith e.id .integrityFail (pendNow e (s.setBlock e)) := by
  rw [safetyLoad_last free stored last, bad]
  rfl

end load

/-- A set that is stored is pending, and the active one stays. -/
theorem ownSafetyLoad_nv (port : Nat) (b : List Byte) (s : Rc8) :
    (ownSafetyLoad port b s).nv.safePending = some b ∧ (ownSafetyLoad port b s).nv.safeActive = s.nv.safeActive := by
  rw [ownSafetyLoad, raise_nv]
  exact ⟨rfl, rfl⟩

/-- A module alone stores a set that passes every check. -/
theorem safetyLoad_stores {e : Exec} {s : Rc8} (free : BlockLoad.runs s.saf.load s = false) (last : bitAt (u8At e.req 0) 0 = true)
    (crc : setCrcOk (blockTake s.saf.load e).data = true) (fields : setFieldsOk (blockTake s.saf.load e).data = true)
    (alone : s.pair.partner.present = false) : (safetyLoad true e s).nv.safePending = some (blockTake s.saf.load e).data ∧
      (safetyLoad true e s).nv.safeActive = s.nv.safeActive := by
  have stillAlone : (pendNow e (s.setBlock e)).pair.partner.present = false := (congrArg (·.partner.present) (pendNow_pair e (s.setBlock e))).trans alone
  have stored := pairStore_now (id := e.id) (op := .command 0x0802 (blockTake s.saf.load e).data) (resp := [])
    (eff := ownSafetyLoad e.port.val (blockTake s.saf.load e).data) stillAlone false
  obtain ⟨pending, active⟩ := ownSafetyLoad_nv e.port.val (blockTake s.saf.load e).data (pendNow e (s.setBlock e))
  rw [pendNow_nv] at active
  rw [safetyLoad_last free true last, crc, fields]
  simp only [Bool.not_true, Bool.false_eq_true, if_false]
  rw [stored]
  exact ⟨pending, active⟩

/-! ### SAFETY_ACTIVATE (11 R370, R377) -/

section activate
variable {e : Exec} {s : Rc8} (noHand : s.pair.hand = none) (noCopy : s.pair.resync.running = false)
include noHand noCopy

theorem safetyActivate_free (smlOk : Bool) : safetyActivate smlOk e s =
    if s.pair.partner.present && !s.pair.plk.up then endWith e.id .wrongState s
    else if !smlOk then endWith e.id .integrityFail (pendNow e s)
    else
      let asked := u64At e.req 8
      let w := if asked = 0 then roundAfter 2000000 s else asked
      let s1 := modSaf (fun x => { x with activating := some (e.id, w), sml := { x.sml with crc := u32At e.req 4 } }) (loadMaps s)
      pairAt e.id (activateOp e s) w (if s.pair.partner.present then waitExec e.id s1 else pendNow e s1) :=
  if_neg (by rw [noHand, noCopy]; exact Bool.false_ne_true)

theorem safetyActivate_unreachable (there : s.pair.partner.present = true) (down : s.pair.plk.up = false) (smlOk : Bool) :
    safetyActivate smlOk e s = endWith e.id .wrongState s := by
  rw [safetyActivate_free noHand noCopy, there, down]
  rfl

variable (reached : s.pair.partner.present = false ∨ s.pair.plk.up = true)
include reached

theorem safetyActivate_smlFails : safetyActivate false e s = endWith e.id .integrityFail (pendNow e s) := by
  rw [safetyActivate_free noHand noCopy]
  refine (if_neg ?_).trans (if_pos rfl)
  rcases reached with alone | up
  · rw [alone]; exact Bool.false_ne_true
  · rw [up, Bool.not_true, Bool.and_false]; exact Bool.false_ne_true

/-- The activation is fixed for its round. -/
theorem safetyActivate_fixes :
    (safetyActivate true e s).saf.activating = some (e.id, if u64At e.req 8 = 0 then roundAfter 2000000 s else u64At e.req 8) ∧
    (safetyActivate true e s).saf.sml.crc = u32At e.req 4 ∧ (safetyActivate true e s).nv = s.nv ∧
    (safetyActivate true e s).pair.pend.length = s.pair.pend.length + 1 := by
  have connected : ¬ (s.pair.partner.present && !s.pair.plk.up) = true := by
    rcases reached with alone | up
    · rw [alone]; exact Bool.false_ne_true
    · rw [up, Bool.not_true, Bool.and_false]; exact Bool.false_ne_true
  rw [safetyActivate_free noHand noCopy, if_neg connected, if_neg (by simp)]
  extract_lets asked w s1
  obtain ⟨saf, nv, pend⟩ := pairAt_leaves e.id (activateOp e s) w (if s.pair.partner.present then waitExec e.id s1 else pendNow e s1)
  have waits : (if s.pair.partner.present then waitExec e.id s1 else pendNow e s1).saf = s1.saf ∧
      (if s.pair.partner.present then waitExec e.id s1 else pendNow e s1).nv = s.nv ∧
      (if s.pair.partner.present then waitExec e.id s1 else pendNow e s1).pair = s.pair := by
    split
    · exact ⟨waitExec_saf .., waitExec_nv .., waitExec_pair ..⟩
    · exact ⟨pendNow_saf .., pendNow_nv .., pendNow_pair ..⟩
  obtain ⟨safety, stored, pair⟩ := waits
  rw [saf, nv, pend, safety, stored, pair]
  exact ⟨rfl, rfl, rfl, rfl⟩

end activate

/-! ### SAFE_STOP_RESET (11 R354, R382) -/

section reset
variable {e : Exec} {s : Rc8}

theorem fixStopReset_fixes (allowed : resetAllowed (u16At e.req 0) s = true) : (fixStopReset e s).pair.pend.length = s.pair.pend.length + 1 ∧
    (fixStopReset e s).saf = s.saf ∧ (fixStopReset e s).execs = s.marked e.id .waiting := by
  rw [fixStopReset, if_neg (by rw [allowed]; exact Bool.false_ne_true), waitExec_eq]
  simp [Rc8.marked]

theorem safeStopReset_untested (none_ : resetTestsOf (u8At e.req 2) s = []) : safeStopReset e s = fixStopReset e s :=
  if_pos (by rw [none_]; rfl)

theorem safeStopReset_tested (tests : resetTestsOf (u8At e.req 2) s ≠ []) (allowed : resetAllowed (u16At e.req 0) s = true) :
    safeStopReset e s = waitExec e.id (modSaf (fun x => { x with resetTests := resetTestsOf (u8At e.req 2) s }) s) :=
  (if_neg (by simpa using tests)).trans (if_neg (by rw [allowed]; exact Bool.false_ne_true))

/-- Groups that cannot be reset refuse the command, with tests or without. -/
theorem safeStopReset_refused (refused : resetAllowed (u16At e.req 0) s = false) : safeStopReset e s = endWith e.id .wrongState s := by
  have fixed : fixStopReset e s = endWith e.id .wrongState s := if_pos (by rw [refused]; rfl)
  unfold safeStopReset
  extract_lets l
  split
  · exact fixed
  · exact if_pos (by rw [refused]; rfl)

end reset

/-! ### The statement -/

/-- Settles O45: each command by the checks that decide its branch. -/
theorem safetySetsAndResets : Obligations.SafetySetsAndResets := by
  refine ⟨fun s p m e => ⟨fun he free => ⟨fun more stored => ?more, fun last crc fields alone => ?stores, fun last bad stored => ?badCrc⟩,
    fun he noHand noCopy there down smlOk => ?unreachable, fun he noHand noCopy reached => ⟨?fixes, ?smlFails⟩⟩,
    fun s p m e he => ⟨fun none_ allowed => ?untested, fun tests allowed => ?tested, fun refused => ?refused⟩⟩
  case more =>
    refine leads_of_command he rfl fun t made => ?_
    rw [made, safetyLoad_more free stored more, endExec_done]
    exact ⟨rfl, rfl, rfl⟩
  case stores => exact leads_of_command he rfl fun t made => made ▸ safetyLoad_stores free last crc fields alone
  case badCrc =>
    refine leads_of_command he rfl fun t made => ?_
    rw [made, safetyLoad_badCrc free stored last bad, endWith_pendNow_execs, endWith_nv, pendNow_nv]
    exact ⟨rfl, rfl⟩
  case unreachable => exact act_runCmd he (safetyActivate_unreachable noHand noCopy there down smlOk)
  case fixes => exact leads_of_command he rfl fun t made => made ▸ safetyActivate_fixes noHand noCopy reached
  case smlFails =>
    refine leads_of_command he rfl fun t made => ?_
    rw [made, safetyActivate_smlFails noHand noCopy reached, endWith_pendNow_execs, endWith_nv, pendNow_nv, endWith_saf, pendNow_saf]
    exact ⟨rfl, rfl, rfl⟩
  case untested =>
    refine leads_of_command he rfl fun t made => ?_
    rw [made, safeStopReset_untested none_]
    exact fixStopReset_fixes allowed
  case tested =>
    refine leads_of_command he rfl fun t made => ?_
    rw [made, safeStopReset_tested tests allowed, waitExec_eq]
    exact ⟨rfl, rfl⟩
  case refused => exact act_runCmd he (safeStopReset_refused refused)

end Sys2Proof.Machine
end

section
/-! SUPPORT. The CAN ports: their objects by number, and what the shared steps of transmission leave (14 R455 to R460). -/

namespace Sys2Proof.Machine

open Sys2Proof

/-! ### One port (14 R455) -/

theorem modCan_port (c : Fin 4) (f : CanPort → CanPort) (s : Rc8) : (modCan c f s).can[c] = f s.can[c] := by
  rw [modCan_can]
  exact Vector.getElem_set_self c.isLt
theorem modCan_other {c d : Fin 4} (h : d ≠ c) (f : CanPort → CanPort) (s : Rc8) : (modCan c f s).can[d] = s.can[d] := by
  rw [modCan_can]
  exact vector_set_other h ..

/-- The standby is told an object's status over the pair link, and nothing else changes. -/
theorem tellCan_frame (c : Fin 4) (i : Int) (s : Rc8) : tellCan c i s = { s with pair := (tellCan c i s).pair, out := (tellCan c i s).out } := by
  unfold tellCan
  split
  · split
    · exact plkSend_frame ..
    · rfl
  · rfl

@[simp] theorem tellCan_can (c : Fin 4) (i : Int) (s : Rc8) : (tellCan c i s).can = s.can := by rw [tellCan_frame]
@[simp] theorem tellCan_run (c : Fin 4) (i : Int) (s : Rc8) : (tellCan c i s).run = s.run := by rw [tellCan_frame]
@[simp] theorem tellCan_nv (c : Fin 4) (i : Int) (s : Rc8) : (tellCan c i s).nv = s.nv := by rw [tellCan_frame]

theorem plkMessage_out_grows (k g : Nat) (b : PlkBody) (s : Rc8) : ∃ l, (plkMessage k g b s).out = s.out ++ l := ⟨_, rfl⟩

theorem plkSend_out_grows (k g : Nat) (b : PlkBody) (s : Rc8) : ∃ l, (plkSend k g b s).out = s.out ++ l := by
  unfold plkSend
  extract_lets m
  split
  · have grows : ∀ (l : List Nat) (r : Rc8) (sent : List Out), r.out = s.out ++ sent → ∃ sent,
        (l.foldl (fun s j => plkMessage k (if j + 1 = m then g else 0) (.part (j + 1) b) s) r).out = s.out ++ sent := by
      intro l
      induction l with
      | nil => exact fun r sent h => ⟨sent, h⟩
      | cons j l ih =>
        intro r sent h
        obtain ⟨more, message⟩ := plkMessage_out_grows k (if j + 1 = m then g else 0) (.part (j + 1) b) r
        exact ih _ (sent ++ more) (by rw [message, h, List.append_assoc])
    obtain ⟨first, message⟩ := plkMessage_out_grows k (if m = 0 then g else 0) b s
    exact grows _ _ _ message
  · exact ⟨[], by simp⟩

theorem tellCan_out_grows (c : Fin 4) (i : Int) (s : Rc8) : ∃ l, (tellCan c i s).out = s.out ++ l := by
  unfold tellCan
  split
  · split
    · exact plkSend_out_grows ..
    · exact ⟨[], by simp⟩
  · exact ⟨[], by simp⟩

/-! ### Objects by number (14 R455, R457) -/

/-- The numbers of objects: −2 the stop object, −1 the reference object, 0 to 63 the transmit objects. -/
def objectNumber (i : Int) : Prop := i = -2 ∨ i = -1 ∨ ∃ j : Fin 64, i = (j.val : Int)

theorem mem_canObjects {x : CanPort} {y : Int × TxObj} :
    y ∈ canObjects x ↔ y = (-2, x.stop) ∨ y = (-1, x.ref) ∨ ∃ j : Fin 64, y = ((j.val : Int), x.tx[j]) := by
  have listed : y ∈ ((List.range 64).zip (vlist x.tx)).map (fun z => ((z.1 : Int), z.2)) ↔ ∃ j : Fin 64, y = ((j.val : Int), x.tx[j]) := by
    rw [List.mem_map]
    constructor
    · rintro ⟨⟨k, o⟩, found, rfl⟩
      obtain ⟨n, bound, at_⟩ := List.mem_iff_getElem.1 found
      have short : n < 64 := by simpa using bound
      simp only [List.getElem_zip, List.getElem_range, Prod.mk.injEq] at at_
      obtain ⟨rfl, rfl⟩ := at_
      exact ⟨⟨n, short⟩, by simp [vlist]⟩
    · rintro ⟨j, rfl⟩
      refine ⟨(j.val, x.tx[j]), List.mem_iff_getElem.2 ⟨j.val, by simp, ?_⟩, rfl⟩
      simp [vlist]
  rw [canObjects, List.mem_cons, List.mem_cons, listed]

theorem objectNumber_of_mem {x : CanPort} {y : Int × TxObj} (h : y ∈ canObjects x) : objectNumber y.1 := by
  rcases mem_canObjects.1 h with rfl | rfl | ⟨j, rfl⟩
  · exact .inl rfl
  · exact .inr (.inl rfl)
  · exact .inr (.inr ⟨j, rfl⟩)

section modObj
variable (x : CanPort) (f : TxObj → TxObj)

theorem modObj_stop : x.modObj (-2) f = { x with stop := f x.stop } := rfl
theorem modObj_ref : x.modObj (-1) f = { x with ref := f x.ref } := rfl
theorem modObj_tx (j : Fin 64) : x.modObj (j.val : Int) f = { x with tx := x.tx.set j (f x.tx[j]) } := by
  have first : (j.val : Int) ≠ -2 := by omega
  have second : (j.val : Int) ≠ -1 := by omega
  rw [CanPort.modObj, if_neg first, if_neg second, vput_eq_set (Int.toNat_natCast ..)]

end modObj

/-- A transmit object after one object has changed. -/
theorem modObj_txAt {i : Int} (h : objectNumber i) (x : CanPort) (f : TxObj → TxObj) (j : Fin 64) :
    (x.modObj i f).tx[j] = if (j.val : Int) = i then f x.tx[j] else x.tx[j] := by
  rcases h with rfl | rfl | ⟨k, rfl⟩
  · exact (if_neg (by omega)).symm
  · exact (if_neg (by omega)).symm
  · rw [modObj_tx]
    by_cases same : j = k
    · subst same
      rw [if_pos rfl]
      exact Vector.getElem_set_self j.isLt
    · have apart : j.val ≠ k.val := fun e => same (Fin.ext e)
      rw [if_neg (by omega)]
      exact Vector.getElem_set_ne k.isLt j.isLt apart.symm

/-! ### Error states (14 R460) -/

/-- Error passive or active, by the counters. -/
def CanPort.errorState (x : CanPort) : CanErr :=
  if x.err = .busOff ∨ x.err = .recovering then x.err else if 127 < x.tec ∨ 127 < x.rec_ then .passive else .active

theorem modCan_same {c : Fin 4} {f : CanPort → CanPort} {s : Rc8} (h : f s.can[c] = s.can[c]) : (modCan c f s).can = s.can := by
  show s.can.set c (f s.can[c]) = s.can
  rw [h]
  exact Vector.set_getElem_self c.isLt

/-- Only the port's error state can change. -/
theorem canErrState_can (c : Fin 4) (s : Rc8) : (canErrState c s).can = (modCan c (fun y => { y with err := y.errorState }) s).can := by
  unfold canErrState
  extract_lets x
  by_cases off : x.err = .busOff ∨ x.err = .recovering
  · have same : x.errorState = x.err := if_pos off
    rw [if_pos off, modCan_same (congrArg (fun e => ({ x with err := e } : CanPort)) same)]
  · rw [if_neg off]
    by_cases many : 127 < x.tec ∨ 127 < x.rec_
    · have passive : x.errorState = .passive := (if_neg off).trans (if_pos many)
      rw [if_pos many]
      cases err : x.err with
      | active =>
        rw [if_pos rfl, raise_can]
        show s.can.set c { x with err := .passive } = s.can.set c { x with err := x.errorState }
        rw [passive]
      | passive =>
        rw [if_neg (by simp), modCan_same (congrArg (fun e => ({ x with err := e } : CanPort)) (passive.trans err.symm))]
      | busOff => exact absurd (.inl err) off
      | recovering => exact absurd (.inr err) off
    · have active : x.errorState = .active := (if_neg off).trans (if_neg many)
      rw [if_neg many]
      show s.can.set c { x with err := .active } = s.can.set c { x with err := x.errorState }
      rw [active]

theorem canErrState_port (c : Fin 4) (s : Rc8) : (canErrState c s).can[c] = { s.can[c] with err := (s.can[c]).errorState } := by
  rw [canErrState_can, modCan_port]
theorem canErrState_other {c d : Fin 4} (h : d ≠ c) (s : Rc8) : (canErrState c s).can[d] = s.can[d] := by
  rw [canErrState_can, modCan_other h]
theorem canErrState_out_grows (c : Fin 4) (s : Rc8) : ∃ l, (canErrState c s).out = s.out ++ l := by
  unfold canErrState
  extract_lets x
  split
  · exact ⟨[], by simp⟩
  · split
    · split
      · exact raise_out_grows ..
      · exact ⟨[], by simp⟩
    · exact ⟨[], by simp⟩

/-- A port that sends is neither in bus-off nor recovering. -/
theorem canSends_err {c : Fin 4} {s : Rc8} (h : canSends c s = true) : (s.can[c]).err ≠ .busOff ∧ (s.can[c]).err ≠ .recovering := by
  simp only [canSends, Bool.and_eq_true, bne_iff_ne] at h
  exact ⟨h.1.2, h.2⟩

end Sys2Proof.Machine
end

section
/-! SUPPORT. CAN selection, attempts, bus-off, recovery and receive errors, and the statement about them (14 R455 to R460, R465). -/

namespace Sys2Proof.Machine

open Sys2Proof

/-! ### Selection (14 R457) -/

section winner
variable {step : Option (Int × TxObj) → Int × TxObj → Option (Int × TxObj)} (first : ∀ y, step none y = some y)
  (next : ∀ b y, step (some b) y = if arbitration y.2 < arbitration b.2 then some y else some b)
include next

/-- The best object so far stays, or a later one that wins against it takes its place. -/
theorem foldl_winner_some (l : List (Int × TxObj)) (b : Int × TxObj) : ∃ y, l.foldl step (some b) = some y ∧ y ∈ b :: l ∧
    ∀ z ∈ b :: l, arbitration y.2 ≤ arbitration z.2 := by
  induction l generalizing b with
  | nil => exact ⟨b, rfl, List.mem_cons_self, fun z h => (List.mem_singleton.1 h) ▸ le_rfl⟩
  | cons y l ih =>
    rw [List.foldl_cons, next]
    by_cases wins : arbitration y.2 < arbitration b.2
    · obtain ⟨w, won, listed, least⟩ := ih y
      rw [if_pos wins]
      refine ⟨w, won, List.mem_cons_of_mem _ listed, fun z h => ?_⟩
      rcases List.mem_cons.1 h with rfl | h
      · exact (least y List.mem_cons_self).trans wins.le
      · exact least z h
    · obtain ⟨w, won, listed, least⟩ := ih b
      rw [if_neg wins]
      refine ⟨w, won, ?_, fun z h => ?_⟩
      · rcases List.mem_cons.1 listed with rfl | listed
        · exact List.mem_cons_self
        · exact List.mem_cons_of_mem _ (List.mem_cons_of_mem _ listed)
      · rcases List.mem_cons.1 h with rfl | h
        · exact least z List.mem_cons_self
        · rcases List.mem_cons.1 h with rfl | h
          · exact (least b List.mem_cons_self).trans (Nat.not_lt.1 wins)
          · exact least z (List.mem_cons_of_mem _ h)

include first

/-- The winner of a list is listed, and no listed object wins against it. -/
theorem foldl_winner {l : List (Int × TxObj)} {y : Int × TxObj} (h : l.foldl step none = some y) :
    y ∈ l ∧ ∀ z ∈ l, arbitration y.2 ≤ arbitration z.2 := by
  cases l with
  | nil => exact absurd h (by simp)
  | cons b l =>
    rw [List.foldl_cons, first] at h
    obtain ⟨w, won, facts⟩ := foldl_winner_some next l b
    obtain rfl := Option.some.inj (won.symm.trans h)
    exact facts

end winner

theorem canWinner_spec {x : CanPort} {y : Int × TxObj} (h : canWinner x = some y) : y ∈ canObjects x ∧ y.2.st = .pending ∧
    ∀ z ∈ canObjects x, z.2.st = .pending → arbitration y.2 ≤ arbitration z.2 := by
  obtain ⟨listed, least⟩ := foldl_winner (fun _ => rfl) (fun _ _ => rfl) h
  obtain ⟨object, pending⟩ := List.mem_filter.1 listed
  exact ⟨object, beq_iff_eq.1 pending, fun z h pends => least z (List.mem_filter.2 ⟨h, beq_iff_eq.2 pends⟩)⟩

/-- A free port that sends selects its winner. -/
theorem canSelection_free {c : Fin 4} {s : Rc8} (sends : canSends c s = true) (free : canSelected s.can[c] = none) (runs : dmaStopped 9 s = false) :
    canSelection c s = match canWinner s.can[c] with
      | none => s
      | some y => tellCan c y.1 (modCan c (fun x => x.modObj y.1 fun o => { o with st := .selected }) s) :=
  if_neg (by rw [sends, free, runs]; exact Bool.false_ne_true)

/-! ### Attempts (14 R458) -/

section attempt
variable {c : Fin 4} {s : Rc8} (sends : canSends c s = true)
include sends

theorem attemptEnd_selected {i : Int} {o : TxObj} (selected : canSelected s.can[c] = some (i, o)) (how : CanEnd) (ns : Nat) : attemptEnd c how ns s =
    match how with
    | .sent =>
      let data := if i = -1 then referenceData o.fd (s.clk.ptu - ns * fracPerNs) (s.can[c]).refNow else o.data.take (dlcBytes o.fd o.dlc)
      let s1 := modCan c (fun x => { (x.modObj i fun o => { o with st := .sent }) with sentCount := inc32 x.sentCount, tec := x.tec - 1 }) s
      let s2 := { s1 with out := s1.out ++ [.can c i (o.id + if o.ext then 2 ^ 31 else 0) o.dlc data] }
      canErrState c (sentInternal c i o (tellCan c i s2))
    | .lost => notSent c i o 1 s
    | .error counted =>
      let s1 := if counted then canErrState c (modCan c (fun x => { x with tec := x.tec + 8 }) s) else s
      if 256 ≤ (s1.can[c]).tec then s1 else notSent c i o 2 s1 := by
  rw [attemptEnd, selected]
  exact if_neg (by rw [sends]; exact Bool.false_ne_true)

end attempt

/-- A port with a frame of one of its objects sent. -/
def CanPort.sent (x : CanPort) (i : Int) : CanPort :=
  { (x.modObj i fun o => { o with st := .sent }) with sentCount := inc32 x.sentCount, tec := x.tec - 1 }

/-- The module after a frame is on the bus. -/
def frameOnBus (c : Fin 4) (i : Int) (o : TxObj) (data : List Byte) (s : Rc8) : Rc8 :=
  tellCan c i { modCan c (fun x => x.sent i) s with out := s.out ++ [.can c i (o.id + if o.ext then 2 ^ 31 else 0) o.dlc data] }

theorem frameOnBus_port (c : Fin 4) (i : Int) (o : TxObj) (data : List Byte) (s : Rc8) : (frameOnBus c i o data s).can[c] = (s.can[c]).sent i := by
  have told : (frameOnBus c i o data s).can = (modCan c (fun x => x.sent i) s).can := tellCan_can ..
  rw [told, modCan_port]
theorem frameOnBus_out (c : Fin 4) (i : Int) (o : TxObj) (data : List Byte) (s : Rc8) :
    ∃ l, (frameOnBus c i o data s).out = s.out ++ .can c i (o.id + if o.ext then 2 ^ 31 else 0) o.dlc data :: l := by
  obtain ⟨l, told⟩ := tellCan_out_grows c i { modCan c (fun x => x.sent i) s with out := s.out ++ [.can c i (o.id + if o.ext then 2 ^ 31 else 0) o.dlc data] }
  exact ⟨l, told.trans (by simp)⟩

section ends
variable {c : Fin 4} {s : Rc8} (sends : canSends c s = true)
include sends

/-- A transmit object's frame is sent. -/
theorem attemptEnd_sent {j : Fin 64} {o : TxObj} (selected : canSelected s.can[c] = some ((j.val : Int), o)) (ns : Nat) :
    attemptEnd c .sent ns s = canErrState c (frameOnBus c j.val o (o.data.take (dlcBytes o.fd o.dlc)) s) := by
  have notStop : (j.val : Int) ≠ -2 := by omega
  have notRef : (j.val : Int) ≠ -1 := by omega
  rw [attemptEnd_selected sends selected]
  dsimp only
  rw [sentInternal, if_neg notStop, if_neg notRef, if_neg notRef]
  rfl

/-- A lost attempt fails in one-shot mode. -/
theorem attemptEnd_lost {i : Int} {o : TxObj} (selected : canSelected s.can[c] = some (i, o)) (ns : Nat) : attemptEnd c .lost ns s = notSent c i o 1 s :=
  attemptEnd_selected sends selected ..

end ends

theorem txFailed_can (c : Fin 4) (i : Int) (cause : Nat) (s : Rc8) : (txFailed c i cause s).can =
    (modCan c (fun x => { (x.modObj i fun o => { o with st := .failed }) with failures := inc32 x.failures }) s).can := by
  rw [txFailed, raiseLimited_can, tellCan_can]

/-- What follows an attempt of a transmit object that was not sent leaves it in its status. -/
theorem attemptLeft_tx (j : Fin 64) (st : TxSt) (cfg : CanCfg) (x : CanPort) :
    attemptLeft j.val st cfg x = x.modObj j.val fun o => { o with st := st } := by
  have notStop : (j.val : Int) ≠ -2 := by omega
  have notRef : (j.val : Int) ≠ -1 := by omega
  rw [attemptLeft, afterAttempt, if_neg notStop, if_neg notRef, modObj_tx, modObj_tx]
  simp

/-! ### The stop object (14 R465) -/

/-- After a stop frame the next repeat, if one is left, is PENDING. -/
theorem nextStop_repeats {x : CanPort} (none_ : x.stopNext = none) (sent : x.stop.st = .sent) :
    (nextStop x).stop.st = (if x.stopLeft = 0 then .sent else .pending) ∧ (nextStop x).stopLeft = x.stopLeft - 1 := by
  rw [nextStop, none_]
  dsimp only
  by_cases last : x.stopLeft = 0
  · rw [if_pos last, if_pos last, last]
    exact ⟨sent, rfl⟩
  · rw [if_neg last, if_neg last]
    exact ⟨rfl, rfl⟩

theorem attemptEnd_stopSent {c : Fin 4} {s : Rc8} {o : TxObj} (sends : canSends c s = true) (selected : canSelected s.can[c] = some (-2, o))
    (none_ : (s.can[c]).stopNext = none) (ns : Nat) : ((attemptEnd c .sent ns s).can[c]).stop.st = (if (s.can[c]).stopLeft = 0 then .sent else .pending) ∧
      ((attemptEnd c .sent ns s).can[c]).stopLeft = (s.can[c]).stopLeft - 1 := by
  obtain ⟨data, e, after_⟩ : ∃ data e, attemptEnd c .sent ns s =
      canErrState c (raise e (modCan c (afterAttempt (-2) s.nv.canCfg[c]) (frameOnBus c (-2) o data s))) := by
    rw [attemptEnd_selected sends selected]
    dsimp only
    rw [sentInternal, if_pos rfl, tellCan_nv]
    exact ⟨_, _, rfl⟩
  have next : afterAttempt (-2) s.nv.canCfg[c] ((s.can[c]).sent (-2)) = nextStop ((s.can[c]).sent (-2)) := (if_pos rfl).trans (if_pos rfl)
  rw [after_, canErrState_port, raise_can, modCan_port, frameOnBus_port, next]
  exact nextStop_repeats (x := (s.can[c]).sent (-2)) none_ rfl

/-! ### Bus-off (14 R460) -/

/-- Transmit objects of these numbers take a status; the other ones, the port's count of bus-offs and the other ports stay. -/
def canMarked (c : Fin 4) (l : List Int) (st : TxSt) (s t : Rc8) : Prop :=
  (∀ j : Fin 64, ((t.can[c]).tx[j]).st = if (j.val : Int) ∈ l then st else ((s.can[c]).tx[j]).st) ∧ (t.can[c]).busOffs = (s.can[c]).busOffs ∧
  ∀ d : Fin 4, d ≠ c → t.can[d] = s.can[d]

/-- Object after object is marked. -/
theorem canMarked_foldl {c : Fin 4} {st : TxSt} {step : Rc8 → Int × TxObj → Rc8}
    (marks : ∀ r y, objectNumber y.1 → canMarked c [y.1] st r (step r y)) (l : List (Int × TxObj)) (numbers : ∀ y ∈ l, objectNumber y.1) (s : Rc8) :
    canMarked c (l.map (·.1)) st s (l.foldl step s) := by
  induction l generalizing s with
  | nil => exact ⟨fun j => by simp, rfl, fun _ _ => rfl⟩
  | cons y l ih =>
    obtain ⟨firstTx, firstCount, firstOther⟩ := marks s y (numbers y List.mem_cons_self)
    obtain ⟨tx, count, other⟩ := ih (fun z h => numbers z (List.mem_cons_of_mem _ h)) (step s y)
    refine ⟨fun j => ?_, count.trans firstCount, fun d h => (other d h).trans (firstOther d h)⟩
    rw [List.foldl_cons, tx, firstTx, List.map_cons]
    by_cases later : (j.val : Int) ∈ l.map (·.1)
    · rw [if_pos later, if_pos (List.mem_cons_of_mem _ later)]
    · by_cases same : (j.val : Int) = y.1 <;> simp [later, same]

theorem modObj_busOffs (x : CanPort) (i : Int) (f : TxObj → TxObj) : (x.modObj i f).busOffs = x.busOffs := by
  unfold CanPort.modObj
  split
  · rfl
  · split <;> rfl

/-- A port with a status put into an object, however the rest of it changes. -/
theorem canMarked_modCan {c : Fin 4} {i : Int} {st : TxSt} {f : CanPort → CanPort} {s t : Rc8} (can : t.can = (modCan c f s).can)
    (tx : ∀ j : Fin 64, ((f s.can[c]).tx[j]).st = if (j.val : Int) = i then st else ((s.can[c]).tx[j]).st) (count : (f s.can[c]).busOffs = (s.can[c]).busOffs) :
    canMarked c [i] st s t := by
  rw [canMarked, can, modCan_port]
  exact ⟨fun j => by simpa using tx j, count, fun d h => modCan_other h ..⟩

theorem canMarked_txFailed {i : Int} (h : objectNumber i) (c : Fin 4) (cause : Nat) (s : Rc8) : canMarked c [i] .failed s (txFailed c i cause s) :=
  canMarked_modCan (txFailed_can ..) (fun j => by
    have at_ := congrArg TxObj.st (modObj_txAt h s.can[c] (fun o => { o with st := .failed }) j)
    exact at_.trans (apply_ite TxObj.st ..)) (modObj_busOffs ..)

/-- What takes an internal object after its attempt leaves the transmit objects and the count of bus-offs. -/
theorem afterAttempt_keeps (i : Int) (cfg : CanCfg) (x : CanPort) : (afterAttempt i cfg x).tx = x.tx ∧ (afterAttempt i cfg x).busOffs = x.busOffs := by
  have next : (nextStop x).tx = x.tx ∧ (nextStop x).busOffs = x.busOffs := by
    unfold nextStop
    split
    · exact ⟨rfl, rfl⟩
    · split <;> exact ⟨rfl, rfl⟩
  unfold afterAttempt
  split
  · split
    · exact next
    · split <;> exact ⟨rfl, rfl⟩
  · split
    · split <;> exact ⟨rfl, rfl⟩
    · exact ⟨rfl, rfl⟩

theorem attemptLeft_txAt {i : Int} (h : objectNumber i) (st : TxSt) (cfg : CanCfg) (x : CanPort) (j : Fin 64) :
    ((attemptLeft i st cfg x).tx[j]).st = if (j.val : Int) = i then st else (x.tx[j]).st := by
  rw [attemptLeft, modObj_txAt h]
  by_cases same : (j.val : Int) = i
  · rw [if_pos same, if_pos same]
  · rw [if_neg same, if_neg same]
    simp only [(afterAttempt_keeps ..).1]
    rw [modObj_txAt h, if_neg same]
theorem attemptLeft_busOffs (i : Int) (st : TxSt) (cfg : CanCfg) (x : CanPort) : (attemptLeft i st cfg x).busOffs = x.busOffs := by
  rw [attemptLeft, modObj_busOffs, (afterAttempt_keeps ..).2, modObj_busOffs]

theorem canMarked_held {i : Int} (h : objectNumber i) (c : Fin 4) (cfg : CanCfg) (s : Rc8) :
    canMarked c [i] .held s (tellCan c i (modCan c (attemptLeft i .held cfg) s)) :=
  canMarked_modCan (tellCan_can ..) (fun j => attemptLeft_txAt h .held cfg s.can[c] j) (attemptLeft_busOffs ..)

/-- The objects of a port that bus-off meets in PENDING or SELECTED, one-shot or not. -/
def liveObjects (oneShot : Bool) (x : CanPort) : List (Int × TxObj) :=
  ((canObjects x).filter fun y => y.2.st == .pending || y.2.st == .selected).filter fun y => y.2.oneShot == oneShot

theorem mem_liveObjects {oneShot : Bool} {x : CanPort} {j : Fin 64} : (j.val : Int) ∈ (liveObjects oneShot x).map (·.1) ↔
    ((x.tx[j]).st = .pending ∨ (x.tx[j]).st = .selected) ∧ (x.tx[j]).oneShot = oneShot := by
  rw [List.mem_map]
  constructor
  · rintro ⟨y, listed, number⟩
    obtain ⟨live, shot⟩ := List.mem_filter.1 listed
    obtain ⟨object, st⟩ := List.mem_filter.1 live
    rcases mem_canObjects.1 object with rfl | rfl | ⟨k, rfl⟩
    · exact absurd number (by simp only; omega)
    · exact absurd number (by simp only; omega)
    · obtain rfl : k = j := Fin.ext (Int.ofNat_inj.1 number)
      exact ⟨by simpa using st, beq_iff_eq.1 shot⟩
  · rintro ⟨st, shot⟩
    exact ⟨((j.val : Int), x.tx[j]), List.mem_filter.2 ⟨List.mem_filter.2 ⟨mem_canObjects.2 (.inr (.inr ⟨j, rfl⟩)), by simpa using st⟩, beq_iff_eq.2 shot⟩, rfl⟩

theorem liveObjects_number {oneShot : Bool} {x : CanPort} : ∀ y ∈ liveObjects oneShot x, objectNumber y.1 :=
  fun _ h => objectNumber_of_mem (List.mem_of_mem_filter (List.mem_of_mem_filter h))

/-- Bus-off fails the live one-shot objects and holds the other live ones, and the port's state and count follow. -/
theorem canBusOff_eq {c : Fin 4} {s : Rc8} (many : 256 ≤ (s.can[c]).tec) (notOff : (s.can[c]).err ≠ .busOff) (notBack : (s.can[c]).err ≠ .recovering) :
    ∃ e, canBusOff c s = raise e (modCan c
      (fun x => { x with err := if bitAt (s.nv.canCfg[c]).flags 4 then .recovering else .busOff, offAt := s.clk.refosc, byCommand := false,
                         busOffs := inc32 x.busOffs })
      ((liveObjects false s.can[c]).foldl (fun s y => tellCan c y.1 (modCan c (attemptLeft y.1 .held s.nv.canCfg[c]) s))
        ((liveObjects true s.can[c]).foldl (fun s y => txFailed c y.1 3 s) s))) := by
  have live : ¬ ((s.can[c]).tec < 256 ∨ (s.can[c]).err = .busOff ∨ (s.can[c]).err = .recovering) :=
    fun h => h.elim (Nat.not_lt.2 many) fun h => h.elim notOff notBack
  have shots : (fun y : Int × TxObj => y.2.oneShot == true) = fun y => y.2.oneShot := by funext y; simp
  have repeated : (fun y : Int × TxObj => y.2.oneShot == false) = fun y => !y.2.oneShot := by funext y; simp
  unfold canBusOff
  rw [if_neg live]
  unfold liveObjects
  rw [shots, repeated]
  exact ⟨_, rfl⟩

theorem canBusOff_leaves {c : Fin 4} {s : Rc8} (many : 256 ≤ (s.can[c]).tec) (notOff : (s.can[c]).err ≠ .busOff) (notBack : (s.can[c]).err ≠ .recovering) :
    ((canBusOff c s).can[c]).err = (if bitAt (s.nv.canCfg[c]).flags 4 then .recovering else .busOff) ∧
    ((canBusOff c s).can[c]).busOffs = inc32 (s.can[c]).busOffs ∧
    (∀ j : Fin 64, (((canBusOff c s).can[c]).tx[j]).st = (if ((s.can[c]).tx[j]).st = .pending ∨ ((s.can[c]).tx[j]).st = .selected then
      (if ((s.can[c]).tx[j]).oneShot then .failed else .held) else ((s.can[c]).tx[j]).st)) ∧ ∀ d : Fin 4, d ≠ c → (canBusOff c s).can[d] = s.can[d] := by
  obtain ⟨e, off⟩ := canBusOff_eq many notOff notBack
  obtain ⟨failed, failedCount, failedOther⟩ := canMarked_foldl (step := fun s y => txFailed c y.1 3 s)
    (fun r y h => canMarked_txFailed h c 3 r) (liveObjects true s.can[c]) liveObjects_number s
  generalize (liveObjects true s.can[c]).foldl (fun s y => txFailed c y.1 3 s) s = r at off failed failedCount failedOther
  obtain ⟨held, heldCount, heldOther⟩ := canMarked_foldl (step := fun s y => tellCan c y.1 (modCan c (attemptLeft y.1 .held s.nv.canCfg[c]) s))
    (fun r y h => canMarked_held h c r.nv.canCfg[c] r) (liveObjects false s.can[c]) liveObjects_number r
  generalize (liveObjects false s.can[c]).foldl (fun s y => tellCan c y.1 (modCan c (attemptLeft y.1 .held s.nv.canCfg[c]) s)) r = u
    at off held heldCount heldOther
  rw [off, raise_can, modCan_port]
  refine ⟨rfl, congrArg inc32 (heldCount.trans failedCount), fun j => (held j).trans ?_,
    fun d h => (modCan_other h ..).trans ((heldOther d h).trans (failedOther d h))⟩
  rw [failed]
  simp only [mem_liveObjects]
  generalize (s.can[c]).tx[j] = o
  by_cases live : o.st = .pending ∨ o.st = .selected
  · cases shot : o.oneShot <;> simp [live]
  · simp [live]

/-! ### Recovery (14 R460) -/

/-- A port whose objects of these numbers have changed. -/
def CanPort.changed (x : CanPort) (l : List Int) (f : TxObj → TxObj) : CanPort :=
  { x with stop := if (-2 : Int) ∈ l then f x.stop else x.stop, ref := if (-1 : Int) ∈ l then f x.ref else x.ref,
           tx := Vector.ofFn fun j : Fin 64 => if (j.val : Int) ∈ l then f x.tx[j] else x.tx[j] }

/-- One object's change and then that of others; none changes twice. -/
theorem changed_modObj {f : TxObj → TxObj} (once : ∀ o, f (f o) = f o) {i : Int} (h : objectNumber i) (l : List Int) (x : CanPort) :
    (x.modObj i f).changed l f = x.changed (i :: l) f := by
  have aboveStop : ∀ j : Fin 64, (j.val : Int) ≠ -2 := fun j => by omega
  have aboveRef : ∀ j : Fin 64, (j.val : Int) ≠ -1 := fun j => by omega
  have tx : (Vector.ofFn fun j : Fin 64 => if (j.val : Int) ∈ l then f (x.modObj i f).tx[j] else (x.modObj i f).tx[j]) =
      Vector.ofFn fun j : Fin 64 => if (j.val : Int) ∈ i :: l then f x.tx[j] else x.tx[j] := by
    refine congrArg Vector.ofFn (funext fun j => ?_)
    rw [modObj_txAt h]
    by_cases same : (j.val : Int) = i <;> simp [same, once]
  unfold CanPort.changed
  rw [tx]
  rcases h with rfl | rfl | ⟨k, rfl⟩
  · simp [modObj_stop, once]
  · simp [modObj_ref, once]
  · simp [modObj_tx, (aboveStop k).symm, (aboveRef k).symm]

theorem foldl_modObj {f : TxObj → TxObj} (once : ∀ o, f (f o) = f o) (l : List (Int × TxObj)) (numbers : ∀ y ∈ l, objectNumber y.1) (x : CanPort) :
    l.foldl (fun x y => x.modObj y.1 f) x = x.changed (l.map (·.1)) f := by
  induction l generalizing x with
  | nil => simp [CanPort.changed]
  | cons y l ih =>
    rw [List.foldl_cons, ih fun z h => numbers z (List.mem_cons_of_mem _ h), changed_modObj once (numbers y List.mem_cons_self)]
    rfl

/-- Objects changed one by one, each told to the standby, are the port's objects changed. -/
theorem foldl_tellCan (c : Fin 4) (f : TxObj → TxObj) (l : List (Int × TxObj)) (s : Rc8) :
    (l.foldl (fun s y => tellCan c y.1 (modCan c (fun x => x.modObj y.1 f) s)) s).can =
      (modCan c (fun x => l.foldl (fun x y => x.modObj y.1 f) x) s).can ∧
    (l.foldl (fun s y => tellCan c y.1 (modCan c (fun x => x.modObj y.1 f) s)) s).run = s.run ∧
    (l.foldl (fun s y => tellCan c y.1 (modCan c (fun x => x.modObj y.1 f) s)) s).nv = s.nv := by
  induction l generalizing s with
  | nil => exact ⟨(modCan_same rfl).symm, rfl, rfl⟩
  | cons y l ih =>
    obtain ⟨can, run, nv⟩ := ih (tellCan c y.1 (modCan c (fun x => x.modObj y.1 f) s))
    rw [List.foldl_cons, can, run, nv, tellCan_run, tellCan_nv]
    refine ⟨?_, rfl, rfl⟩
    rw [modCan_can, tellCan_can, modCan_can, modCan_can]
    simp [vmod]

/-- The held objects of a port. -/
def heldObjects (x : CanPort) : List (Int × TxObj) := (canObjects x).filter fun y => y.2.st == .held

/-- Every held object changed is the objects changed that are held. -/
theorem changed_heldObjects (f : TxObj → TxObj) (x : CanPort) :
    x.changed ((heldObjects x).map (·.1)) f = x.mapObj fun o => if o.st = .held then f o else o := by
  have listed : ∀ i : Int, i ∈ (heldObjects x).map (·.1) ↔ ∃ o, (i, o) ∈ canObjects x ∧ o.st = .held := by
    intro i
    simp [heldObjects]
  have stop : (-2 : Int) ∈ (heldObjects x).map (·.1) ↔ x.stop.st = .held := by
    rw [listed]
    constructor
    · rintro ⟨o, object, held⟩
      rcases mem_canObjects.1 object with h | h | ⟨j, h⟩
      · exact (Prod.mk.inj h).2 ▸ held
      · exact absurd (Prod.mk.inj h).1 (by omega)
      · exact absurd (Prod.mk.inj h).1 (by omega)
    · exact fun held => ⟨x.stop, mem_canObjects.2 (.inl rfl), held⟩
  have ref : (-1 : Int) ∈ (heldObjects x).map (·.1) ↔ x.ref.st = .held := by
    rw [listed]
    constructor
    · rintro ⟨o, object, held⟩
      rcases mem_canObjects.1 object with h | h | ⟨j, h⟩
      · exact absurd (Prod.mk.inj h).1 (by omega)
      · exact (Prod.mk.inj h).2 ▸ held
      · exact absurd (Prod.mk.inj h).1 (by omega)
    · exact fun held => ⟨x.ref, mem_canObjects.2 (.inr (.inl rfl)), held⟩
  have tx : ∀ j : Fin 64, (j.val : Int) ∈ (heldObjects x).map (·.1) ↔ (x.tx[j]).st = .held := by
    intro j
    rw [listed]
    constructor
    · rintro ⟨o, object, held⟩
      rcases mem_canObjects.1 object with h | h | ⟨k, h⟩
      · exact absurd (Prod.mk.inj h).1 (by omega)
      · exact absurd (Prod.mk.inj h).1 (by omega)
      · obtain ⟨number, rfl⟩ := Prod.mk.inj h
        obtain rfl : j = k := Fin.ext (Int.ofNat_inj.1 number)
        exact held
    · exact fun held => ⟨x.tx[j], mem_canObjects.2 (.inr (.inr ⟨j, rfl⟩)), held⟩
  have map : (Vector.ofFn fun j : Fin 64 => if (j.val : Int) ∈ (heldObjects x).map (·.1) then f x.tx[j] else x.tx[j]) =
      vmap (fun o => if o.st = .held then f o else o) x.tx := by
    ext1 k short
    have at_ := tx ⟨k, short⟩
    rw [vmap_getElem, Vector.getElem_ofFn]
    simp only [at_, Fin.getElem_fin]
  unfold CanPort.changed CanPort.mapObj
  simp only [map, stop, ref]

theorem canRecovered_leaves {c : Fin 4} {s : Rc8} (recovering : (s.can[c]).err = .recovering) :
    (canRecovered c s).can = s.can.set c { (s.can[c]).mapObj (fun o => if o.st = .held then { o with st := .pending } else o) with
      err := .active, tec := 0, rec_ := 0 } ∧ (canRecovered c s).nv.canCfg = s.nv.canCfg ∧ (canRecovered c s).run = s.run := by
  obtain ⟨e, back⟩ : ∃ e, canRecovered c s = raise e ((heldObjects s.can[c]).foldl
      (fun s y => tellCan c y.1 (modCan c (fun x => x.modObj y.1 fun o => { o with st := .pending }) s))
      (modCan c (fun x => { x with err := .active, tec := 0, rec_ := 0 }) s)) := ⟨_, if_pos recovering⟩
  obtain ⟨can, run, nv⟩ := foldl_tellCan c (fun o => { o with st := .pending }) (heldObjects s.can[c])
    (modCan c (fun x => { x with err := .active, tec := 0, rec_ := 0 }) s)
  have numbers : ∀ y ∈ heldObjects s.can[c], objectNumber y.1 := fun _ h => objectNumber_of_mem (List.mem_of_mem_filter h)
  rw [back, raise_can, raise_nv, raise_run, can, run, nv, modCan_run, modCan_nv]
  refine ⟨?_, rfl, rfl⟩
  rw [modCan_can, vmod, modCan_port, modCan_can, vmod, Vector.set_set, foldl_modObj (f := fun o => { o with st := .pending }) (fun _ => rfl) _ numbers]
  have changed := changed_heldObjects (fun o => { o with st := .pending }) s.can[c]
  have active := congrArg (fun x : CanPort => ({ x with err := .active, tec := 0, rec_ := 0 } : CanPort)) changed
  exact congrArg (fun x => s.can.set c x) active

/-! ### Receive errors (14 R460) -/

theorem canReceiveError_leaves {c : Fin 4} {s : Rc8} (sends : canSends c s = true) (eight : Bool) :
    ((canReceiveError c eight s).can[c]).rec_ = min 255 ((s.can[c]).rec_ + if eight then 8 else 1) ∧
    ((canReceiveError c eight s).can[c]).tec = (s.can[c]).tec ∧
    ((canReceiveError c eight s).can[c]).err =
      (if 127 < ((canReceiveError c eight s).can[c]).tec ∨ 127 < ((canReceiveError c eight s).can[c]).rec_ then .passive else .active) := by
  obtain ⟨notOff, notBack⟩ := canSends_err sends
  rw [canReceiveError, if_pos sends, canErrState_port, modCan_port]
  exact ⟨rfl, rfl, if_neg fun h => h.elim notOff notBack⟩

/-! ### The statement -/

/-- Settles O53: each row by the rule of what it leaves at its port. -/
theorem canTransmission : Obligations.CanTransmission := by
  refine ⟨fun x y won => canWinner_spec won, fun s c y sends free runs => ⟨fun won => ?selected, fun none_ => ?idle⟩,
    fun s c j o ns sends selected => ⟨?sent, fun shot => ?failed, fun again => ?again⟩, fun s c o ns sends selected none_ => ?stop,
    fun s c many notOff notBack => ?busOff, fun s c few => ?noBusOff, fun s c recovering => ?recovered, fun s c eight sends => ?error,
    fun s c eight silent => ?silent⟩
  case selected =>
    refine leads_of_row rfl fun t made => ?_
    rw [made, canSelection_free sends free runs, won]
    dsimp only
    rw [tellCan_can, tellCan_run]
    exact ⟨rfl, rfl⟩
  case idle =>
    refine act_unchanged ?_
    rw [canSelection_free sends free runs, none_]
  case sent =>
    refine leads_of_row rfl fun t made => ?_
    rw [made, attemptEnd_sent sends selected]
    obtain ⟨l, out⟩ := frameOnBus_out c j.val o (o.data.take (dlcBytes o.fd o.dlc)) s.toRc8
    obtain ⟨more, later⟩ := canErrState_out_grows c (frameOnBus c j.val o (o.data.take (dlcBytes o.fd o.dlc)) s.toRc8)
    rw [canErrState_port, frameOnBus_port]
    refine ⟨?_, rfl, ?_, l ++ more, by rw [later, out]; simp⟩
    · have at_ := congrArg TxObj.st (modObj_txAt (.inr (.inr ⟨j, rfl⟩)) s.can[c] (fun o => { o with st := .sent }) j)
      exact at_.trans (congrArg TxObj.st (if_pos rfl))
    · rfl
  case failed =>
    refine leads_of_row rfl fun t made => ?_
    have at_ := congrArg TxObj.st (modObj_txAt (.inr (.inr ⟨j, rfl⟩)) s.can[c] (fun o => { o with st := .failed }) j)
    rw [made, attemptEnd_lost sends selected, notSent, if_pos shot, txFailed_can, modCan_port]
    exact ⟨at_.trans (congrArg TxObj.st (if_pos rfl)), rfl⟩
  case again =>
    refine leads_of_row rfl fun t made => ?_
    have at_ := attemptLeft_txAt (.inr (.inr ⟨j, rfl⟩)) .pending s.nv.canCfg[c] s.can[c] j
    rw [made, attemptEnd_lost sends selected, notSent, if_neg (by simp [again]), tellCan_can, modCan_port]
    exact ⟨at_.trans (if_pos rfl), by rw [attemptLeft_tx, modObj_tx]⟩
  case stop => exact leads_of_row rfl fun t made => made ▸ attemptEnd_stopSent sends selected none_ ns
  case busOff => exact leads_of_row rfl fun t made => made ▸ canBusOff_leaves many notOff notBack
  case noBusOff => exact act_unchanged (if_pos (.inl few))
  case recovered => exact leads_of_row rfl fun t made => made ▸ canRecovered_leaves recovering
  case error => exact leads_of_row rfl fun t made => made ▸ canReceiveError_leaves sends eight
  case silent => exact act_unchanged (if_neg (by simp [silent]))

end Sys2Proof.Machine
end

section
/-! SUPPORT. CAN reception, the time reference and the CAN commands, and the statement about them (14 R450 to R454, R456, R459, R461, R464, R470, R471,
R474, R475). -/

namespace Sys2Proof.Machine

open Sys2Proof

/-! ### Received frames (14 R450 to R454) -/

/-- A good frame counts down the port's receive errors. -/
def receiveCounted (c : Fin 4) (s : Rc8) : Rc8 :=
  if canSends c s then canErrState c (modCan c (fun x => { x with rec_ := if 127 < x.rec_ then 119 + Config.recAfter x.rec_ % 9 else x.rec_ - 1 }) s) else s

theorem receiveCounted_port (c : Fin 4) (s : Rc8) : ∃ e k, (receiveCounted c s).can[c] = { s.can[c] with err := e, rec_ := k } := by
  unfold receiveCounted
  by_cases sends : canSends c s = true
  · rw [if_pos sends, canErrState_port, modCan_port]
    exact ⟨_, _, rfl⟩
  · rw [if_neg sends]
    exact ⟨_, _, rfl⟩

/-- What a frame leaves in its receive object. -/
def frameTaken (f : CanRx) (now : Nat) (old : RxObj) : RxObj :=
  { ext := f.ext, id := f.id, dlc := f.dlc.val, flags := flagBit f.fd 0 + flagBit f.brs 1 + flagBit f.esi 2 + flagBit f.rtr 3, isNew := true,
    lost := old.lost || old.isNew, generation := (old.generation + 2) % 65536, time := now - f.sinceStart * fracPerNs,
    overwrites := if old.isNew then satAdd 0xFFFF old.overwrites 1 else old.overwrites,
    data := if f.rtr then zeros 64 else padTo 64 (f.data.take (dlcBytes f.fd f.dlc.val)) }

/-- The receive objects after one of them has taken a frame. -/
theorem rxObj_assocPut (x : CanPort) (n k : Nat) (o : RxObj) (overwrites received : Nat) :
    rxObj { x with rx := assocPut x.rx n o, overwrites := overwrites, received := received } k = if k = n then o else rxObj x k := by
  unfold rxObj
  rw [find?_assocPut]
  split <;> rfl

section receive
variable {c : Fin 4} {f : CanRx} {s : Rc8} (enabled : bitAt (s.nv.canCfg[c]).flags 0 = true) (power : s.pwr.domains.getLsbD 9 = true)
  (notOff : (s.can[c]).err ≠ .busOff) (notBack : (s.can[c]).err ≠ .recovering) (runs : dmaStopped 9 s = false)
include enabled power notOff notBack runs

theorem receives : ¬ (!bitAt (s.nv.canCfg[c]).flags 0 || !s.pwr.domains.getLsbD 9 || (s.can[c]).err == .busOff || (s.can[c]).err == .recovering ||
    dmaStopped 9 s) = true := by
  rw [enabled, power, runs, beq_false_of_ne notOff, beq_false_of_ne notBack]
  exact Bool.false_ne_true

/-- A frame without an object is counted and discarded. -/
theorem canReceived_discards (none_ : rxObjectOf s.nv.canRx[c] f.ext f.id = none) : canReceived c f s =
    modCan c (fun x => { x with discarded := inc32 x.discarded }) (modCan c (fun x => { x with received := inc32 x.received }) (receiveCounted c s)) := by
  rw [canReceived, if_neg (receives enabled power notOff notBack runs), none_]
  rfl

/-- A frame with an object is taken by it. -/
theorem canReceived_can {n : Nat} (object : rxObjectOf s.nv.canRx[c] f.ext f.id = some n) : (canReceived c f s).can =
    (modCan c (fun x => { x with rx := assocPut x.rx n (frameTaken f s.clk.ptu (rxObj s.can[c] n)),
                                 overwrites := if (rxObj s.can[c] n).isNew then inc32 x.overwrites else x.overwrites })
      (modCan c (fun x => { x with received := inc32 x.received }) (receiveCounted c s))).can := by
  rw [canReceived, if_neg (receives enabled power notOff notBack runs), object]
  dsimp only
  rw [apply_ite Rc8.can, raise_can, ite_self, apply_ite Rc8.can, raiseLimited_can, ite_self]
  rfl

end receive

/-! ### The time reference (14 R461) -/

theorem fireEntry_can (e : Milestone) (s : Rc8) : (fireEntry e s).can = s.can := atPtu_can ..
theorem fireEntry_nv (e : Milestone) (s : Rc8) : (fireEntry e s).nv = s.nv := atPtu_nv ..
theorem fireEntry_pair (e : Milestone) (s : Rc8) : (fireEntry e s).pair = s.pair := atPtu_pair ..

theorem atNext_due {kind param : Nat} {e : Milestone} {s : Rc8} (h : dueEntry kind param s = some e) (f : Nat → Rc8 → Rc8) :
    atNext kind param f s = f e.off (fireEntry e s) := by
  rw [atNext, h]

theorem modCan_modCan (c : Fin 4) (f g : CanPort → CanPort) (s : Rc8) : modCan c g (modCan c f s) = modCan c (fun x => g (f x)) s := by
  simp [modCan, vmod]
theorem modCan_congr {c : Fin 4} {f g : CanPort → CanPort} {s : Rc8} (h : f s.can[c] = g s.can[c]) : modCan c f s = modCan c g s := by
  rw [modCan, modCan, vmod, vmod, h]

/-- A reference message waits for the one in progress, or is loaded. -/
theorem canReference_can {c : Fin 4} {s : Rc8} (holds : holdsToken s = true) (enabled : bitAt (s.nv.canCfg[c]).flags 0 = true) (ref : (s.nv.canCfg[c]).ref ≠ 0) :
    (canReference c s).can = (modCan c (fun x =>
      if x.ref.st = .pending ∨ x.ref.st = .selected ∨ x.ref.st = .held then
        { x with refSeq := (x.refSeq + 1) % 2 ^ 32, refNext := some ((x.refSeq + 1) % 2 ^ 32), refSkipped := inc32 x.refSkipped }
      else loadReference ((x.refSeq + 1) % 2 ^ 32) s.nv.canCfg[c] { x with refSeq := (x.refSeq + 1) % 2 ^ 32 }) s).can := by
  unfold canReference
  extract_lets cfg x q s1
  have sends : ¬ (!holdsToken s || !bitAt cfg.flags 0 || cfg.ref == 0) = true := by
    rw [holds, enabled, beq_false_of_ne ref]
    exact Bool.false_ne_true
  rw [if_neg sends]
  by_cases waits : x.ref.st = .pending ∨ x.ref.st = .selected ∨ x.ref.st = .held
  · rw [if_pos waits, raiseLimited_can, modCan_modCan]
    exact congrArg Rc8.can (modCan_congr (if_pos waits).symm)
  · rw [if_neg waits, tellCan_can, modCan_modCan]
    exact congrArg Rc8.can (modCan_congr (if_neg waits).symm)

/-! ### Writes, cancels and recovery (14 R456, R459, R470, R471, R474) -/

theorem applyBoth_alone {s : Rc8} (alone : s.pair.partner.present = false) (e : Exec) (eff : Rc8 → Rc8) : applyBoth e eff s = eff s :=
  if_neg (by simp [alone])

theorem eq_canAt {e : Exec} {c : Fin 4} (h : u8At e.req 0 = c.val) : c = canAt e := Fin.ext (h ▸ (Nat.mod_eq_of_lt (h ▸ c.isLt)).symm)

section object
variable {e : Exec} {c : Fin 4} {j : Fin 64} {s : Rc8} (port : u8At e.req 0 = c.val) (object : u8At e.req 1 = j.val)
include port object

theorem txStatus_named : txStatus (canAt e) (u8At e.req 1) s = ((s.can[c]).tx[j]).st := by
  obtain rfl := eq_canAt port
  rw [txStatus, vget_of_val object]
  rfl

/-- A change of the object that a command names. -/
theorem named_object_can (f : TxObj → TxObj) : (vput s.can (u8At e.req 0) fun x => { x with tx := vput x.tx (u8At e.req 1) f }) =
    s.can.set c { s.can[c] with tx := (s.can[c]).tx.set j (f (s.can[c]).tx[j]) } := by
  rw [vput_eq_set port, vput_eq_set object]

theorem canWrite_free (alone : s.pair.partner.present = false) (idle : ((s.can[c]).tx[j]).st ≠ .pending) (notSelected : ((s.can[c]).tx[j]).st ≠ .selected)
    (notHeld : ((s.can[c]).tx[j]).st ≠ .held) : canWrite e s =
      { s with can := s.can.set c { s.can[c] with tx := (s.can[c]).tx.set j (txObjOf e.req) }, execs := s.marked e.id (.ended .done []) } := by
  have free : ¬ (((s.can[c]).tx[j]).st = .pending ∨ ((s.can[c]).tx[j]).st = .selected ∨ ((s.can[c]).tx[j]).st = .held) :=
    fun h => h.elim idle fun h => h.elim notSelected notHeld
  rw [canWrite, txStatus_named port object, if_neg free, applyBoth_alone alone, effTxWrite, named_object_can port object, endWith_eq]
  rfl

theorem canWrite_busy (busy : ((s.can[c]).tx[j]).st = .pending ∨ ((s.can[c]).tx[j]).st = .selected ∨ ((s.can[c]).tx[j]).st = .held) :
    canWrite e s = endWith e.id .busy s := by
  rw [canWrite, txStatus_named port object]
  exact if_pos busy

theorem txCancel_cancels (alone : s.pair.partner.present = false) (live : ((s.can[c]).tx[j]).st = .pending ∨ ((s.can[c]).tx[j]).st = .held) : txCancel e s =
      { s with can := s.can.set c { s.can[c] with tx := (s.can[c]).tx.set j { (s.can[c]).tx[j] with st := .cancelled } },
               execs := s.marked e.id (.ended .done [5, 0, 0, 0]) } := by
  have row : txCancel e s = endExec e.id .done (le 1 TxSt.cancelled.code ++ zeros 3) (applyBoth e (effTxCancel e.req) s) := by
    rw [txCancel, txStatus_named port object]
    rcases live with st | st
    · rw [st]
    · rw [st]
  rw [row, applyBoth_alone alone, effTxCancel, named_object_can port object, if_pos live, endExec_done]
  rfl

theorem txCancel_late (selected : ((s.can[c]).tx[j]).st = .selected) : txCancel e s = endWith e.id .tooLate s := by
  rw [txCancel, txStatus_named port object, selected]

theorem txCancel_ended (ended : ((s.can[c]).tx[j]).st ∈ [TxSt.empty, .sent, .failed, .cancelled]) : txCancel e s = endWith e.id .wrongState s := by
  rw [txCancel, txStatus_named port object]
  simp only [List.mem_cons, List.not_mem_nil, or_false] at ended
  rcases ended with st | st | st | st
  · rw [st]
  · rw [st]
  · rw [st]
  · rw [st]

end object

theorem canRecover_eq {e : Exec} {c : Fin 4} (port : u8At e.req 0 = c.val) (s : Rc8) : canRecover e s =
    { s with can := s.can.set c { s.can[c] with err := .recovering, byCommand := true }, execs := s.marked e.id (.ended .done []) } := by
  obtain rfl := eq_canAt port
  rw [canRecover, endWith_eq]
  rfl

/-! ### CAN_STOP (14 R464, R465, R475) -/

/-- A port that a stop names: while a stop frame is on the bus, the new one waits. -/
def stopTaken (r : List Byte) (s : Rc8) (c : Fin 4) (x : CanPort) : CanPort :=
  let q := (x.stopSeq + 1) % 65536
  let d := le 1 (u8At r 1) ++ le 1 (u8At r 2) ++ le 2 q ++ le 4 (lo32 s.rnd.round)
  let n := (s.nv.canCfg[c]).repeats
  let y := { x with stopSeq := q }
  if x.stop.st = .selected then { y with stopNext := some (d, n), stopLeft := 0 } else loadStop d n y

/-- Port after port takes the stop, each once. -/
theorem foldl_stopTaken (r : List Byte) {l : List (Fin 4)} (once : l.Nodup) (s : Rc8) (d : Fin 4) :
    (l.foldl (fun s c => modCan c (stopTaken r s c) s) s).can[d] = if d ∈ l then stopTaken r s d s.can[d] else s.can[d] := by
  induction l generalizing s with
  | nil => simp
  | cons c l ih =>
    obtain ⟨apart, once⟩ := List.nodup_cons.1 once
    rw [List.foldl_cons, ih once]
    by_cases own : d = c
    · subst own
      rw [if_neg apart, if_pos List.mem_cons_self, modCan_port]
    · rw [modCan_other own]
      simp [own]
      rfl

theorem effCanStop_port (r : List Byte) (s : Rc8) (d : Fin 4) :
    (effCanStop r s).can[d] = if bitAt (u8At r 0) d.val then stopTaken r s d s.can[d] else s.can[d] := by
  have once : (stopPorts r).Nodup := List.Nodup.filter _ (by decide)
  have listed : d ∈ stopPorts r ↔ bitAt (u8At r 0) d.val = true := by
    have all : ∀ k : Fin 4, k ∈ ([0, 1, 2, 3] : List (Fin 4)) := by decide
    simp only [stopPorts, List.mem_filter, all d, true_and]
  have taken := foldl_stopTaken r once s d
  simp only [listed] at taken
  exact taken

/-- What a stop leaves at a port it names. -/
theorem stopTaken_leaves (r : List Byte) (s : Rc8) (d : Fin 4) (x : CanPort) : (stopTaken r s d x).stopSeq = (x.stopSeq + 1) % 65536 ∧ (stopTaken r s d x).tx = x.tx ∧
    (x.stop.st ≠ .selected → (stopTaken r s d x).stop.st = .pending ∧ (stopTaken r s d x).stop.id = 0 ∧
      (stopTaken r s d x).stopLeft = (s.nv.canCfg[d]).repeats - 1) ∧
    (x.stop.st = .selected → (stopTaken r s d x).stop = x.stop ∧ (stopTaken r s d x).stopNext.isSome = true) := by
  unfold stopTaken
  extract_lets q data n y
  by_cases onBus : x.stop.st = .selected
  · rw [if_pos onBus]
    exact ⟨rfl, rfl, fun h => absurd onBus h, fun _ => ⟨rfl, rfl⟩⟩
  · rw [if_neg onBus]
    exact ⟨rfl, rfl, fun _ => ⟨rfl, rfl, rfl⟩, fun h => absurd h onBus⟩

theorem canStop_can {e : Exec} {s : Rc8} (alone : s.pair.partner.present = false) : (canStop e s).can = (effCanStop e.req s).can := by
  rw [canStop, applyBoth_alone alone, endExec_done]
  rfl

/-! ### The statement -/

/-- Settles O54: reception and the reference by what they leave at their port, the commands by their branches. -/
theorem canReceptionAndCommands : Obligations.CanReceptionAndCommands := by
  refine ⟨⟨fun s c f bound enabled power notOff notBack runs => ⟨fun none_ => ?discarded, fun n object => ?taken⟩, fun s c x due holds enabled ref => ?reference⟩,
    fun s p m e alone => ⟨fun c j he port object => ⟨fun idle notSelected notHeld => ?writes, fun busy => ?busy⟩,
      fun c j he port object => ⟨fun live => ?cancels, fun selected => ?late, fun ended => ?wrong⟩, fun c he port => ?recovers, fun he => ?stops⟩⟩
  case discarded =>
    refine leads_of_row (actIf_act (decide_eq_true bound) ..) fun t made => ?_
    obtain ⟨err, k, counted⟩ := receiveCounted_port c s.toRc8
    rw [made, canReceived_discards enabled power notOff notBack runs none_, modCan_port, modCan_port, counted]
    exact ⟨rfl, rfl, rfl⟩
  case taken =>
    refine leads_of_row (actIf_act (decide_eq_true bound) ..) fun t made => ?_
    obtain ⟨err, k, counted⟩ := receiveCounted_port c s.toRc8
    have port : t.can[c] = { s.can[c] with
        err := err, rec_ := k, received := inc32 (s.can[c]).received, rx := assocPut (s.can[c]).rx n (frameTaken f s.clk.ptu (rxObj s.can[c] n)),
        overwrites := if (rxObj s.can[c] n).isNew then inc32 (s.can[c]).overwrites else (s.can[c]).overwrites } := by
      rw [made, canReceived_can enabled power notOff notBack runs object, modCan_port, modCan_port, counted]
    have objects : ∀ i, rxObj t.can[c] i = if i = n then frameTaken f s.clk.ptu (rxObj s.can[c] n) else rxObj s.can[c] i := fun i => by
      rw [port]
      exact rxObj_assocPut { s.can[c] with err := err, rec_ := k } ..
    rw [objects n, if_pos rfl, port]
    refine ⟨rfl, rfl, rfl, rfl, rfl, rfl, rfl, fun data => if_neg (by simp [data]), fun i other => ?_⟩
    rw [← port, objects, if_neg other]
  case reference =>
    refine leads_of_row rfl fun t made => ?_
    have can := canReference_can (c := c) (s := fireEntry x s.toRc8)
      ((holdsToken_of_token (by rw [fireEntry_pair])).trans holds) (by rw [fireEntry_nv]; exact enabled) (by rw [fireEntry_nv]; exact ref)
    rw [made, atNext_due due, can, modCan_port, fireEntry_can]
    by_cases waits : (s.can[c]).ref.st = .pending ∨ (s.can[c]).ref.st = .selected ∨ (s.can[c]).ref.st = .held
    · rw [if_pos waits]
      exact ⟨rfl, rfl, fun ⟨idle, notSelected, notHeld⟩ => (waits.elim idle fun h => h.elim notSelected notHeld).elim, fun _ => ⟨rfl, rfl, rfl⟩⟩
    · rw [if_neg waits]
      exact ⟨rfl, rfl, fun _ => ⟨rfl, rfl, rfl⟩, fun h => absurd h waits⟩
  case writes => exact act_runCmd he (canWrite_free port object alone idle notSelected notHeld)
  case busy => exact act_runCmd he (canWrite_busy port object busy)
  case cancels => exact act_runCmd he (txCancel_cancels port object alone live)
  case late => exact act_runCmd he (txCancel_late port object selected)
  case wrong => exact act_runCmd he (txCancel_ended port object ended)
  case recovers => exact act_runCmd he (canRecover_eq port _)
  case stops =>
    refine leads_of_command he rfl fun t made => ?_
    intro d
    have port : t.can[d] = if bitAt (u8At e.req 0) d.val then stopTaken e.req s.toRc8 d s.can[d] else s.can[d] := by
      rw [made, canStop_can alone, effCanStop_port]
    rw [port]
    refine ⟨fun unnamed => if_neg (by simp [unnamed]), fun named => ?_⟩
    rw [if_pos named]
    exact stopTaken_leaves ..

end Sys2Proof.Machine
end

section
/-! SUPPORT. Plant Ethernet: frames, links, peer channels and services, and the statement about them (13 R432 to R436, R439, R447). -/

namespace Sys2Proof.Machine

open Sys2Proof

/-! ### One port and one channel (13 R432, R438) -/

theorem modEth_port (e : Fin 2) (f : EthPort → EthPort) (s : Rc8) : (modEth e f s).eth[e] = f s.eth[e] := by
  rw [modEth_eth]
  exact Vector.getElem_set_self e.isLt

theorem modEth_modEth (e : Fin 2) (f g : EthPort → EthPort) (s : Rc8) : modEth e g (modEth e f s) = modEth e (fun x => g (f x)) s := by
  simp [modEth, vmod]

theorem modEth_congr {e : Fin 2} {f g : EthPort → EthPort} {s : Rc8} (h : f s.eth[e] = g s.eth[e]) : modEth e f s = modEth e g s := by
  rw [modEth, modEth, vmod, vmod, h]
theorem modEth_same {e : Fin 2} {f : EthPort → EthPort} {s : Rc8} (h : f s.eth[e] = s.eth[e]) : modEth e f s = s := by
  rw [modEth, vmod, h]
  simp

theorem modPeer_channel (ch : Fin 16) (f : Peer → Peer) (s : Rc8) : (modPeer ch f s).peers[ch] = f s.peers[ch] := by
  rw [modPeer_peers]
  exact Vector.getElem_set_self ch.isLt
theorem modPeer_other {ch k : Fin 16} (h : k ≠ ch) (f : Peer → Peer) (s : Rc8) : (modPeer ch f s).peers[k] = s.peers[k] := by
  rw [modPeer_peers]
  exact Vector.getElem_set_ne ch.isLt k.isLt fun e => h (Fin.ext e.symm)

/-! ### Received frames (13 R434, R435, R439) -/

section receive
variable {s : Rc8} {e : Fin 2} {f : EthRx} (link : (s.eth[e]).link = true) (enabled : (s.nv.ethCfg[e]).enabled = true) (runs : dmaStopped 8 s = false)
include link enabled runs

theorem ethReceived_here : ethReceived e f s =
    if !f.fcsOk then ethCount e 5 s
    else if (if f.pcp = 7 then decide (32 ≤ f.buffers) else decide (31 ≤ f.buffers)) then
      raiseLimited (some 1) { src := 92, reason := 0x04, sev := .warning, p0 := e.val, p1 := 0, p2 := 0 } (ethCount e 2 (ethCount e 1 s))
    else ethDeliver e f (ethCount e 1 s) :=
  if_neg (by rw [link, enabled, runs]; exact Bool.false_ne_true)

theorem ethReceived_badFcs (bad : f.fcsOk = false) : ethReceived e f s = ethCount e 5 s := by
  rw [ethReceived_here link enabled runs]
  exact if_pos (by rw [bad]; rfl)

/-- A frame with a right FCS that has a buffer is counted and delivered. -/
theorem ethReceived_delivers (right : f.fcsOk = true) (free : f.buffers < 31) : ethReceived e f s = ethDeliver e f (ethCount e 1 s) := by
  have buffered : (if f.pcp = 7 then decide (32 ≤ f.buffers) else decide (31 ≤ f.buffers)) = false := by
    split
    · exact decide_eq_false (by omega)
    · exact decide_eq_false (by omega)
  rw [ethReceived_here link enabled runs, if_neg (by rw [right]; exact Bool.false_ne_true), if_neg (by rw [buffered]; exact Bool.false_ne_true)]

end receive

theorem ethDeliver_wrongSize {e : Fin 2} {f : EthRx} (h : f.size < 64 ∨ 1522 < f.size) (s : Rc8) : ethDeliver e f s = ethCount e 3 s := if_pos h

section deliver
variable {e : Fin 2} {f : EthRx} (least : 64 ≤ f.size) (most : f.size ≤ 1522)
include least most

theorem rightSize : ¬ (f.size < 64 ∨ 1522 < f.size) := by omega

theorem ethDeliver_pause (pause : f.content = .pause) (s : Rc8) : ethDeliver e f s = ethCount e 4 s := by
  rw [ethDeliver, if_neg (rightSize least most), pause]

theorem ethDeliver_udp {sender port : Nat} {pay : List Byte} {ch : Fin 16} (udp : f.content = .udp sender port pay) {s : Rc8}
    (accepts : allPeers.find? (peerAccepts e sender port pay s) = some ch) : ethDeliver e f s = peerTake e ch pay s := by
  rw [ethDeliver, if_neg (rightSize least most), udp]
  dsimp only
  rw [accepts]

end deliver

theorem peerAccepts_ethCount (e : Fin 2) (i : Fin 11) (sender port : Nat) (pay : List Byte) (s : Rc8) :
    peerAccepts e sender port pay (ethCount e i s) = peerAccepts e sender port pay s := rfl

/-- A channel takes an accepted frame, and no other channel does. -/
theorem peerTake_leaves (e : Fin 2) (ch : Fin 16) (pay : List Byte) (s : Rc8) : (((peerTake e ch pay s).peers[ch]).st = 1 ∧
    ((peerTake e ch pay s).peers[ch]).rx = pay.drop 16 ∧ ((peerTake e ch pay s).peers[ch]).rxSeq = some (u32At pay 4) ∧
    ((peerTake e ch pay s).peers[ch]).rxRound = s.rnd.round) ∧ (∀ k : Fin 16, k ≠ ch → (peerTake e ch pay s).peers[k] = s.peers[k]) ∧
    (peerTake e ch pay s).run = s.run := by
  obtain ⟨ev, f, taken, took⟩ : ∃ ev f, (f s.peers[ch] = { s.peers[ch] with
        st := 1, rx := pay.drop 16, rxSeq := some (u32At pay 4), rxRound := s.rnd.round, rxTime := (f s.peers[ch]).rxTime }) ∧
      peerTake e ch pay s = if (s.peers[ch]).st = 2 then raise ev (modPeer ch f s) else modPeer ch f s := ⟨_, _, rfl, rfl⟩
  have peers : (peerTake e ch pay s).peers = (modPeer ch f s).peers := by
    rw [took, apply_ite Rc8.peers, raise_peers, ite_self]
  have run : (peerTake e ch pay s).run = s.run := by
    rw [took, apply_ite Rc8.run, raise_run, ite_self, modPeer_run]
  rw [peers, modPeer_channel, taken]
  exact ⟨⟨rfl, rfl, rfl, rfl⟩, fun k other => modPeer_other other .., run⟩

/-! ### Frames that start (13 R435, R436) -/

theorem serveQueue_none (x : EthPort) (weights : List Nat) : serveQueue x weights [] = none := by
  simp [serveQueue]

/-- With nothing queued no frame starts. -/
theorem startFrame_empty {e : Fin 2} {s : Rc8} (h : (s.eth[e]).queue = []) : startFrame e s = s := by
  unfold startFrame
  extract_lets x ready
  have none_ : ready = [] := by simp only [ready, x, h]; rfl
  rw [none_, serveQueue_none]
  exact ite_self _

/-- While a frame is on the wire no other starts. -/
theorem startFrame_busy {e : Fin 2} {s : Rc8} (h : (s.eth[e]).sending.isSome = true) : startFrame e s = s := if_pos (by rw [h]; rfl)

/-- A frame that starts touches its port and what is put out. -/
theorem startFrame_peers (e : Fin 2) (s : Rc8) : (startFrame e s).peers = s.peers ∧ (startFrame e s).run = s.run := by
  unfold startFrame
  extract_lets x ready
  split
  · exact ⟨rfl, rfl⟩
  · split
    · exact ⟨rfl, rfl⟩
    · dsimp only
      split <;> exact ⟨rfl, rfl⟩

/-- A LATE frame is counted at its port and at its channel. -/
theorem dropLate_leaves (e : Fin 2) (f : EthFrame) (s : Rc8) : (dropLate e f s).eth = (ethCount e 6 s).eth ∧ (dropLate e f s).run = s.run ∧
    ∀ k : Fin 16, ∃ n, (dropLate e f s).peers[k] = { s.peers[k] with late := n } := by
  obtain ⟨v, ev, late, dropped⟩ : ∃ v ev, (∀ k : Fin 16, ∃ n, (v : Vector Peer 16)[k] = { s.peers[k] with late := n }) ∧
      dropLate e f s = raiseLimited (some 1) ev (ethCount e 6 { s with peers := v }) := by
    cases peer : f.peerOf with
    | none => exact ⟨s.peers, _, fun k => ⟨_, rfl⟩, by rw [dropLate, peer]⟩
    | some x =>
      refine ⟨vput s.peers x.1 fun y => { y with late := inc32 y.late }, _, fun k => ?_, by rw [dropLate, peer]⟩
      unfold vput
      split
      · by_cases own : x.1 = k.val
        · exact ⟨inc32 (s.peers[k]).late, by simp [own]⟩
        · exact ⟨(s.peers[k]).late, by simp [own]⟩
      · exact ⟨_, rfl⟩
  rw [dropped, raiseLimited_eth, raiseLimited_run, raiseLimited_peers]
  exact ⟨rfl, rfl, late⟩

/-- A frame that is queued, started or dropped leaves its channel, but for the count of late frames. -/
theorem queueFrame_peers (e : Fin 2) (f : EthFrame) (s : Rc8) : (queueFrame e f s).run = s.run ∧
    ∀ k : Fin 16, ∃ n, (queueFrame e f s).peers[k] = { s.peers[k] with late := n } := by
  unfold queueFrame
  extract_lets x
  split
  · exact ⟨rfl, fun k => ⟨_, rfl⟩⟩
  · split
    · obtain ⟨-, run, late⟩ := dropLate_leaves e f s
      exact ⟨run, late⟩
    · obtain ⟨peers, run⟩ := startFrame_peers e (modEth e (fun x => { x with queue := x.queue ++ [f] }) s)
      exact ⟨run, fun k => ⟨(s.peers[k]).late, congrArg (fun v : Vector Peer 16 => v[k]) peers⟩⟩

/-! ### Launch times (13 R436) -/

section launch
variable {s : Rc8} {e : Fin 2} {f : EthFrame} {l : Nat} (runs : dmaStopped 8 s = false) (queue : (s.eth[e]).queue = [f]) (launch : f.launch = some l)
include runs queue launch

/-- The only frame that waits leaves its queue at its launch time. -/
theorem frameLaunch_only : frameLaunch e s =
    if (s.eth[e]).sending.isSome || !(s.eth[e]).link || (s.eth[e]).speed == 3 then
      startFrame e (dropLate e f (modEth e (fun x => { x with queue := x.queue.eraseIdx 0 }) (atPtu l s)))
    else modEth e (fun x => { x with sending := some f })
      { modEth e (fun x => { x with queue := x.queue.eraseIdx 0 }) (atPtu l s) with
        out := (modEth e (fun x => { x with queue := x.queue.eraseIdx 0 }) (atPtu l s)).out ++ [.eth e f] } := by
  have next : nextLaunch s.eth[e] = some l := by rw [nextLaunch, queue, List.foldl_cons, List.foldl_nil, launch]
  have first : (s.eth[e]).queue.findIdx (fun f => f.launch == some l) = 0 := by
    rw [queue, List.findIdx_cons, launch, beq_self_eq_true]
    rfl
  have found : (s.eth[e]).queue[0]? = some f := by rw [queue]; rfl
  rw [frameLaunch, if_neg (by rw [runs]; exact Bool.false_ne_true), next]
  dsimp only
  rw [first, found]

theorem frameLaunch_starts (free : (s.eth[e]).sending = none) (link : (s.eth[e]).link = true) (speed : (s.eth[e]).speed ≠ 3) : frameLaunch e s =
    { atPtu l s with eth := s.eth.set e { s.eth[e] with queue := [], sending := some f }, out := s.out ++ [.eth e f] } := by
  have empty : (s.eth[e]).queue.eraseIdx 0 = [] := by rw [queue]; rfl
  have goes : ¬ ((s.eth[e]).sending.isSome || !(s.eth[e]).link || (s.eth[e]).speed == 3) = true := by
    rw [free, link, beq_false_of_ne speed]
    exact Bool.false_ne_true
  rw [frameLaunch_only runs queue launch, if_neg goes]
  simp only [modEth, vmod, Fin.getElem_fin, Vector.getElem_set_self, Vector.set_set, atPtu_eth, atPtu_out]
  simp only [Fin.getElem_fin] at empty
  rw [empty]

theorem frameLaunch_late (busy : (s.eth[e]).sending.isSome = true) : ((frameLaunch e s).eth[e]).queue = [] ∧
    ((frameLaunch e s).eth[e]).sending = (s.eth[e]).sending ∧ ((frameLaunch e s).eth[e]).count[6] = inc32 (s.eth[e]).count[6] := by
  have empty : (s.eth[e]).queue.eraseIdx 0 = [] := by rw [queue]; rfl
  obtain ⟨eth, -, -⟩ := dropLate_leaves e f (modEth e (fun x => { x with queue := x.queue.eraseIdx 0 }) (atPtu l s))
  have port : (dropLate e f (modEth e (fun x => { x with queue := x.queue.eraseIdx 0 }) (atPtu l s))).eth[e] =
      { s.eth[e] with queue := [], count := vmod (s.eth[e]).count 6 inc32 } := by
    rw [eth, ethCount, modEth_modEth, modEth_port, atPtu_eth, empty]
  have still : ((dropLate e f (modEth e (fun x => { x with queue := x.queue.eraseIdx 0 }) (atPtu l s))).eth[e]).sending.isSome = true := by
    rw [port]
    exact busy
  rw [frameLaunch_only runs queue launch, if_pos (by rw [busy]; rfl), startFrame_busy still, port]
  exact ⟨rfl, rfl, by simp⟩

end launch

/-! ### Frames sent (13 R433, R435) -/

/-- A port that has counted a frame as sent. -/
def portCounted (f : EthFrame) (x : EthPort) : EthPort :=
  { x with sending := none, count := if f.queue = 7 then vmod (vmod x.count 0 inc32) 9 inc32 else vmod x.count 0 inc32 }

/-- A port with the timestamp of a peer channel's frame. -/
def portStamped (f : EthFrame) (now : Nat) (x : EthPort) : EthPort :=
  match f.peerOf with
  | none => x
  | some (_, id) =>
    if 16 ≤ x.ts.length then { x with tsOver := true, tsDropped := inc32 x.tsDropped, count := vmod x.count 7 inc32 }
    else { x with ts := x.ts ++ [{ id := id, correction := txCorrection x.speed, time := f.launch.getD now }] }

theorem portStamped_keeps (f : EthFrame) (now : Nat) (x : EthPort) : (portStamped f now x).sending = x.sending ∧ (portStamped f now x).queue = x.queue ∧
    (portStamped f now x).count[0] = x.count[0] ∧ (portStamped f now x).count[9] = x.count[9] := by
  unfold portStamped
  split
  · exact ⟨rfl, rfl, rfl, rfl⟩
  · split
    · exact ⟨rfl, rfl, by simp, by simp⟩
    · exact ⟨rfl, rfl, rfl, rfl⟩

theorem stampFrame_eq (e : Fin 2) (f : EthFrame) (s : Rc8) : stampFrame e f s = modEth e (portStamped f s.clk.ptu) s := by
  unfold stampFrame
  cases peer : f.peerOf with
  | none =>
    have same : portStamped f s.clk.ptu s.eth[e] = s.eth[e] := by rw [portStamped, peer]
    exact (modEth_same same).symm
  | some x =>
    dsimp only
    by_cases full : 16 ≤ (s.eth[e]).ts.length
    · rw [if_pos full, ethCount, modEth_modEth]
      refine modEth_congr ?_
      rw [portStamped, peer]
      exact (if_pos full).symm
    · rw [if_neg full]
      refine modEth_congr ?_
      rw [portStamped, peer]
      exact (if_neg full).symm

/-- A frame sent from a port with nothing else queued leaves it free, counted and stamped. -/
theorem frameSent_last {s : Rc8} {e : Fin 2} {f : EthFrame} (queue : (s.eth[e]).queue = []) (sending : (s.eth[e]).sending = some f) :
    frameSent e s = modEth e (fun x => portStamped f s.clk.ptu (portCounted f x)) s := by
  have counted : (if f.queue = 7 then ethCount e 9 (ethCount e 0 (modEth e (fun x => { x with sending := none }) s))
      else ethCount e 0 (modEth e (fun x => { x with sending := none }) s)) = modEth e (portCounted f) s := by
    unfold ethCount portCounted
    by_cases top : f.queue = 7
    · rw [if_pos top, modEth_modEth, modEth_modEth]
      simp only [if_pos top]
    · rw [if_neg top, modEth_modEth]
      simp only [if_neg top]
  have empty : ((modEth e (fun x => portStamped f s.clk.ptu (portCounted f x)) s).eth[e]).queue = [] := by
    rw [modEth_port, (portStamped_keeps ..).2.1]
    exact queue
  rw [frameSent, sending]
  dsimp only
  rw [counted, stampFrame_eq, modEth_modEth]
  exact startFrame_empty empty

theorem frameSent_leaves {s : Rc8} {e : Fin 2} {f : EthFrame} (queue : (s.eth[e]).queue = []) (sending : (s.eth[e]).sending = some f) :
    ((frameSent e s).eth[e]).sending = none ∧ ((frameSent e s).eth[e]).count[0] = inc32 (s.eth[e]).count[0] ∧
    ((frameSent e s).eth[e]).count[9] = (if f.queue = 7 then inc32 (s.eth[e]).count[9] else (s.eth[e]).count[9]) ∧ (frameSent e s).nv = s.nv ∧
    (frameSent e s).out = s.out ∧ (∀ c id, f.peerOf = some (c, id) → (s.eth[e]).ts.length < 16 → ((frameSent e s).eth[e]).ts =
      (s.eth[e]).ts ++ [{ id := id, correction := txCorrection (s.eth[e]).speed, time := f.launch.getD s.clk.ptu }]) := by
  obtain ⟨free, -, first, last⟩ := portStamped_keeps f s.clk.ptu (portCounted f s.eth[e])
  rw [frameSent_last queue sending, modEth_nv, modEth_out, modEth_port, free, first, last]
  refine ⟨rfl, ?_, ?_, rfl, rfl, fun c id peer room => ?_⟩
  · unfold portCounted
    dsimp only
    split <;> simp
  · unfold portCounted
    dsimp only
    split <;> simp
  · rw [portStamped, peer]
    exact congrArg EthPort.ts (if_neg (Nat.not_le.2 room))

/-! ### Links (13 R434, R447) -/

section up
variable {s : Rc8} {e : Fin 2} {speed : EthSpeed}

theorem ethUp_otherSpeed (fixed : (s.nv.ethCfg[e]).speed ≠ 0) (other : (s.nv.ethCfg[e]).speed ≠ ethSpeedCode speed) : ethUp e speed s = s :=
  if_pos (by simp only [bne_iff_ne.2 fixed, bne_iff_ne.2 other, Bool.and_self, Bool.or_true])

theorem ethUp_comes (down : (s.eth[e]).link = false) (enabled : (s.nv.ethCfg[e]).enabled = true) (queue : (s.eth[e]).queue = [])
    (fits : (s.nv.ethCfg[e]).speed = 0 ∨ (s.nv.ethCfg[e]).speed = ethSpeedCode speed) :
    ∃ ev, ethUp e speed s = raise ev (modEth e (fun x => { x with link := true, speed := ethSpeedCode speed }) s) := by
  have comes : ¬ ((s.eth[e]).link || !(s.nv.ethCfg[e]).enabled || ((s.nv.ethCfg[e]).speed != 0 && (s.nv.ethCfg[e]).speed != ethSpeedCode speed)) = true := by
    rw [down, enabled]
    rcases fits with free | fixed
    · rw [free, bne_self_eq_false, Bool.false_and]
      exact Bool.false_ne_true
    · rw [fixed, bne_self_eq_false, Bool.and_false]
      exact Bool.false_ne_true
  refine ⟨_, (if_neg comes).trans (startFrame_empty ?_)⟩
  rw [raise_eth, modEth_port]
  exact queue

end up

theorem ethDown_goes {s : Rc8} {e : Fin 2} (link : (s.eth[e]).link = true) : ∃ ev, ethDown e s =
    raise ev { s with eth := s.eth.set e { s.eth[e] with link := false, speed := 0, sending := none, count := (s.eth[e]).count.set 10 (inc32 (s.eth[e]).count[10]) } } := by
  refine ⟨_, (if_pos link).trans (congrArg (raise _) ?_)⟩
  rw [ethCount, modEth_modEth]
  rfl

/-! ### Peer channels (13 R439) -/

section launchChannel
variable {s : Rc8} {e : Fin 2} {ch : Fin 16} (holds : holdsToken s = true) (uses : peerUses s.nv.peerCfg[ch] 1 = true)
  (port : (s.nv.peerCfg[ch]).port = e.val) (room : txFull s.eth[e] (s.nv.peerCfg[ch]).pcp = false)
include holds uses port room

/-- A channel's launch takes its next sequence. -/
theorem ethLaunch_leaves (off : Nat) : ((ethLaunch e ch off s).peers[ch]).sent = ((s.peers[ch]).sent + 1) % 2 ^ 32 ∧
    ((ethLaunch e ch off s).peers[ch]).fresh = false ∧ ((ethLaunch e ch off s).peers[ch]).tx = (s.peers[ch]).tx ∧ (ethLaunch e ch off s).run = s.run := by
  have launches : ¬ (!holdsToken s || !peerUses s.nv.peerCfg[ch] 1 || (s.nv.peerCfg[ch]).port != e.val) = true := by
    rw [holds, uses, port, bne_self_eq_false]
    exact Bool.false_ne_true
  unfold ethLaunch
  extract_lets c p seq s1 s2
  rw [if_neg launches, if_neg (by rw [room]; exact Bool.false_ne_true)]
  have told : s2.peers = s1.peers ∧ s2.run = s.run := by
    unfold s2
    split
    · exact ⟨plkSend_peers .., plkSend_run ..⟩
    · exact ⟨rfl, rfl⟩
  obtain ⟨run, late⟩ := queueFrame_peers e
    { queue := c.pcp, vlan := c.vlan, launch := some (roundStart s + (off + c.delay) * fracPerNs),
      payload := .peer ch.val seq (1 + 2 * b2n (!p.fresh)) s.rnd.round (padTo c.len p.tx) } s2
  obtain ⟨n, channel⟩ := late ch
  rw [channel, run, told.1, told.2, modPeer_channel]
  exact ⟨rfl, rfl, rfl, rfl⟩

end launchChannel

/-! ### Services in the call (13 R433, R439; 08 R270) -/

theorem serviceInCall_alone {s : Rc8} (own : isStandby s = false) (alone : s.pair.partner.present = false) (t : Fin 8) (effect : Rc8 → Rc8) (st : Status)
    (data : List Byte) : serviceInCall t effect st data s = { effect s with out := (effect s).out ++ [.serviceStatus t st data] } :=
  (if_neg (by rw [own]; exact Bool.false_ne_true)).trans (if_neg fun h => Bool.noConfusion (alone.symm.trans h.2))

/-- A channel's port, as its record names it. -/
theorem portNamed {n : Nat} {e : Fin 2} (h : n = e.val) : (if n = 0 then (0 : Fin 2) else 1) = e := by
  subst h
  revert e
  decide

theorem act_whileRunning_eq {s : State} {t : Fin 8} (runs : executes t s.toRc8 = true) {f g : Rc8 → Rc8} (h : f s.toRc8 = g s.toRc8) :
    act (whileRunning t f) s = .next (s.after g) := by
  rw [act_whileRunning runs, after_congr h]

section services
variable {s : Rc8} (own : isStandby s = false) (alone : s.pair.partner.present = false)
include own alone

theorem tsRead_alone (i : Fin 8) {e : Fin 2} (fits : (s.eth[e]).tsOver = false) : tsRead i e s =
    { s with eth := s.eth.set e { s.eth[e] with ts := (s.eth[e]).ts.drop 1, tsOver := false, tsDropped := 0 },
             out := s.out ++ [.serviceStatus i .done (le 4 0 ++ le 4 (s.eth[e]).tsDropped ++ ((s.eth[e]).ts.take 1).flatMap TsEntry.bytes)] } := by
  rw [tsRead, serviceInCall_alone own alone, fits]
  rfl

theorem peerWrite_alone (i : Fin 8) {ch : Fin 16} {e : Fin 2} (port : (s.nv.peerCfg[ch]).port = e.val)
    (room : txFull s.eth[e] (s.nv.peerCfg[ch]).pcp = false) (data : List Byte) : peerWrite i ch data s =
      { s with peers := s.peers.set ch { s.peers[ch] with tx := data, fresh := true }, out := s.out ++ [.serviceStatus i .done []] } := by
  have named := portNamed port
  subst named
  exact (if_neg (by rw [room]; exact Bool.false_ne_true)).trans (serviceInCall_alone own alone ..)

theorem peerWrite_full (i : Fin 8) {ch : Fin 16} {e : Fin 2} (port : (s.nv.peerCfg[ch]).port = e.val)
    (full : txFull s.eth[e] (s.nv.peerCfg[ch]).pcp = true) (data : List Byte) : peerWrite i ch data s =
      { ethCount e 8 s with out := s.out ++ [.serviceStatus i .noSpace []] } := by
  have named := portNamed port
  subst named
  exact (if_pos full).trans (serviceInCall_alone own alone ..)

/-- A read answers 20 bytes about the frame accepted last, and its data. -/
theorem peerRead_alone (i : Fin 8) (ch : Fin 16) : ∃ d : List Byte, d.drop 20 = (s.peers[ch]).rx ∧
    peerRead i ch s = { s with out := s.out ++ [.serviceStatus i .done d] } := by
  refine ⟨_, ?_, serviceInCall_alone own alone i (fun s => s) .done _⟩
  exact List.drop_left' (by simp)

end services

/-! ### The statement -/

/-- Settles O52: each row by what it leaves at its port or channel. -/
theorem plantEthernet : Obligations.PlantEthernet := by
  refine ⟨fun s e f link enabled runs => ⟨fun bad => ?badFcs, fun right free size => ?size, fun right free least most pause => ?pause,
      fun sender port pay ch right free least most udp accepts => ?accepted⟩,
    fun s e f l runs queue launch => ⟨fun free link speed => ?launched, fun busy => ?late⟩, fun s e f queue sending => ?sent,
    fun s e speed down enabled queue => ⟨fun fits => ?up, fun fixed other => ?otherSpeed⟩, fun s e link => ?down,
    fun s e ch x due holds uses port room => ?channel, fun s ch uses valid => ⟨fun lost => ?lost, fun near => ?near⟩,
    fun s i e ch data runs own alone => ⟨fun fits => ?tsRead, fun port room => ?write, fun port full => ?full, ?read⟩⟩
  case badFcs => exact act_eq_of_eq (ethReceived_badFcs link enabled runs bad)
  case size => exact act_eq_of_eq ((ethReceived_delivers link enabled runs right free).trans (ethDeliver_wrongSize size _))
  case pause => exact act_eq_of_eq ((ethReceived_delivers link enabled runs right free).trans (ethDeliver_pause least most pause _))
  case accepted =>
    refine leads_of_row rfl fun t made => ?_
    rw [made, ethReceived_delivers link enabled runs right free, ethDeliver_udp least most udp (by rw [peerAccepts_ethCount]; exact accepts)]
    obtain ⟨⟨st, rx, seq, round⟩, others, run⟩ := peerTake_leaves e ch pay (ethCount e 1 s.toRc8)
    exact ⟨st, rx, seq, round, others, run⟩
  case launched => exact act_eq_of_eq (frameLaunch_starts runs queue launch free link speed)
  case late => exact leads_of_row rfl fun t made => made ▸ frameLaunch_late runs queue launch busy
  case sent => exact leads_of_row rfl fun t made => made ▸ frameSent_leaves queue sending
  case up =>
    obtain ⟨ev, comes⟩ := ethUp_comes down enabled queue fits
    refine leadsTo_of_row rfl ?_
    rw [comes]
    exact upToEvents_raise ..
  case otherSpeed => exact act_unchanged (ethUp_otherSpeed fixed other)
  case down =>
    obtain ⟨ev, goes⟩ := ethDown_goes link
    refine leadsTo_of_row rfl ?_
    rw [goes]
    exact upToEvents_raise ..
  case channel =>
    refine leads_of_row rfl fun t made => ?_
    rw [made, atNext_due due]
    obtain ⟨clk, rnd, fired⟩ : ∃ clk rnd, fireEntry x s.toRc8 = { s.toRc8 with clk := clk, rnd := rnd } := ⟨_, _, rfl⟩
    rw [fired]
    exact ethLaunch_leaves (s := { s.toRc8 with clk := clk, rnd := rnd }) holds uses port room x.off
  case lost =>
    refine leadsTo_of_row rfl ?_
    rw [peerLost, if_pos ⟨uses, valid, lost⟩]
    exact upToEvents_raise ..
  case near => exact act_unchanged (if_neg fun h => Nat.not_le.2 near h.2.2)
  case tsRead => exact act_whileRunning_eq runs (tsRead_alone own alone i fits)
  case write => exact act_whileRunning_eq runs (peerWrite_alone own alone i port room data)
  case full => exact act_whileRunning_eq runs (peerWrite_full own alone i port full data)
  case read =>
    obtain ⟨d, data, reads⟩ := peerRead_alone own alone i ch
    exact ⟨d, data, act_whileRunning_eq runs reads⟩

end Sys2Proof.Machine
end

section
/-! SUPPORT. Delivery, verification, arming, confirmation and expiry of a firmware update, and the statement about them (18 R536 to R540, R543, R544,
R549 to R553). -/

namespace Sys2Proof.Machine

open Sys2Proof

theorem marked_of_execs {s t : Rc8} (h : t.execs = s.execs) (id : Nat) (ph : Phase) : t.marked id ph = s.marked id ph := by
  rw [Rc8.marked, h, Rc8.marked]

theorem endWith_execs (id : Nat) (st : Status) (s : Rc8) : (endWith id st s).execs = s.marked id (.ended st []) := by
  rw [endWith_eq]
  rfl

/-! ### Sessions and granules (18 R549, R550) -/

theorem newSession_session (length : Nat) (hash : List Byte) (u : Update) : (newSession length hash u).session ≠ 0 := by
  simp only [newSession]
  split
  · decide
  · assumption

/-- A new session answers that nothing is held. -/
theorem le_zero_zeros (n k : Nat) : le n 0 ++ zeros k = zeros (n + k) := by
  have none_ : ∀ n, le n 0 = zeros n := fun n => by
    induction n with
    | zero => rfl
    | succ n ih => simp [le, ih, zeros, List.replicate_succ]
  rw [none_]
  exact List.replicate_append_replicate ..

theorem updateBegin_resumes {e : Exec} {s : Rc8}
    (same : s.nv.upd.st = .receiving ∧ s.nv.upd.length = u32At e.req 0 ∧ s.nv.upd.hash = slice e.req 8 32) :
    updateBegin e s = endExec e.id .done (le 4 s.nv.upd.session ++ le 4 (bytesHeld s.nv.upd) ++ zeros 8) s := by
  unfold updateBegin
  dsimp only
  rw [if_pos same]

theorem updateBegin_opens {e : Exec} {s : Rc8} (other : s.nv.upd.st ≠ .receiving) : updateBegin e s =
    (modUpd (newSession (u32At e.req 0) (slice e.req 8 32)) s).ended e.id .done
      (le 4 (newSession (u32At e.req 0) (slice e.req 8 32) s.nv.upd).session ++ zeros 12) := by
  unfold updateBegin
  dsimp only
  rw [if_neg fun same => other same.1, endExec_done, List.append_assoc]
  exact congrArg (fun l => (modUpd _ s).ended e.id .done (_ ++ l)) (le_zero_zeros 4 8)

theorem mem_putGranule {held : List (Nat × List Byte)} {k : Nat} {b : List Byte} {x : Nat × List Byte} :
    x ∈ putGranule held k b ↔ x = (k, b) ∨ (x ∈ held ∧ x.1 ≠ k) := by
  simp only [putGranule, List.mem_append, List.mem_filter, List.mem_singleton, decide_eq_true_eq, Nat.ne_iff_lt_or_gt]
  tauto

/-- Granules put into staging one after another: an old one stays where none of them has its place, and the last one of its place is there. -/
theorem mem_putGranules {l held : List (Nat × List Byte)} {x : Nat × List Byte} (h : x ∈ held) (apart : ∀ g ∈ l, g.1 ≠ x.1) :
    x ∈ l.foldl (fun h g => putGranule h g.1 g.2) held := by
  induction l generalizing held with
  | nil => exact h
  | cons g l ih => exact ih (mem_putGranule.2 (.inr ⟨h, (apart g (by simp)).symm⟩)) fun y hy => apart y (by simp [hy])

theorem putGranules_holds {l : List (Nat × List Byte)} (apart : l.Pairwise fun a b => a.1 ≠ b.1) (held : List (Nat × List Byte)) {x : Nat × List Byte}
    (h : x ∈ l) : x ∈ l.foldl (fun h g => putGranule h g.1 g.2) held := by
  induction l generalizing held with
  | nil => cases h
  | cons g l ih =>
    simp only [List.foldl_cons]
    obtain ⟨first, rest⟩ := List.pairwise_cons.1 apart
    rcases List.mem_cons.1 h with rfl | later
    · exact mem_putGranules (held := putGranule held x.1 x.2) (mem_putGranule.2 (.inl rfl)) fun y hy => (first y hy).symm
    · exact ih rest _ later

/-- No granule has two places in a block. -/
theorem blockGranules_apart (e : Exec) : (blockGranules e).Pairwise fun a b => a.1 ≠ b.1 := by
  rw [blockGranules, List.pairwise_map]
  exact List.nodup_range.imp fun h => by simpa using h

theorem updateBlock_holds {e : Exec} {s : Rc8} (right : crc32c (e.req.drop 64) = u32At e.req 12) : updateBlock true e s =
    let t := modUpd (fun u => { u with held := (blockGranules e).foldl (fun h x => putGranule h x.1 x.2) u.held }) s
    t.ended e.id .done (le 4 (bytesHeld t.nv.upd) ++ zeros 4) := by
  unfold updateBlock
  rw [if_pos ⟨right, rfl⟩, endExec_done]

theorem updateBlock_drops {e : Exec} {s : Rc8} {b : Bool} (wrong : crc32c (e.req.drop 64) ≠ u32At e.req 12 ∨ b = false) : updateBlock b e s =
    (modUpd (fun u => { u with held := u.held.filter fun x => !((blockGranules e).any fun y => y.1 == x.1) }) s).ended e.id .integrityFail [] := by
  unfold updateBlock
  rw [if_neg fun h => wrong.elim (fun no => no h.1) fun no => absurd (no.symm.trans h.2) Bool.false_ne_true, endWith_eq]

/-! ### The end of a delivery (18 R539, R551) -/

theorem bundleReceived_nv (b : List Byte) (port : Nat) (s : Rc8) : ∃ l, (bundleReceived b port s).nv =
    { s.nv with recLog := l,
                upd := { s.nv.upd with st := .verified, bundle := u64At b 8, key := u8At b 20, revoke := bitAt (u8At b 7) 0, manifest := manifestOf b,
                                       refusal := 0 } } := by
  rw [bundleReceived, raise_nv]
  exact ⟨_, rfl⟩
theorem bundleReceived_execs (b : List Byte) (port : Nat) (s : Rc8) : (bundleReceived b port s).execs = s.execs := raise_execs ..
theorem updateRefused_execs (cond part port : Nat) (s : Rc8) : (updateRefused cond part port s).execs = s.execs := raise_execs ..
theorem updateRefused_nv (cond part port : Nat) (s : Rc8) : ∃ l, (updateRefused cond part port s).nv =
    { s.nv with recLog := l, upd := { s.nv.upd with result := 2, refusal := cond } } := by
  rw [updateRefused, raise_nv]
  exact ⟨_, rfl⟩

/-- A bundle that passes is kept as verified. -/
theorem updateEnd_verifies {e : Exec} {s : Rc8} (right : bundleFails (staged s.nv.upd) s = none) :
    updateEnd e s = endWith e.id .done (bundleReceived (staged s.nv.upd) e.port.val (pendNow e s)) := by
  unfold updateEnd
  dsimp only
  rw [right]

theorem updateEnd_verified {e : Exec} {s : Rc8} (right : bundleFails (staged s.nv.upd) s = none) :
    (∃ u, (updateEnd e s).nv.upd = u ∧ u.st = .verified ∧ u.manifest = manifestOf (staged s.nv.upd) ∧ u.refusal = 0) ∧
    (updateEnd e s).nv.parts = s.nv.parts ∧ (updateEnd e s).execs = s.markedLong e.id (.ended .done []) := by
  obtain ⟨l, stored⟩ := bundleReceived_nv (staged s.nv.upd) e.port.val (pendNow e s)
  rw [updateEnd_verifies right, endWith_nv, endWith_execs]
  refine ⟨⟨_, congrArg Nv.upd stored, rfl, rfl, rfl⟩, ?_, ?_⟩
  · rw [stored, pendNow_nv]
  · exact (marked_of_execs (bundleReceived_execs ..) ..).trans (marked_pendNow ..)

/-- What a refusal leaves in staging, by the status of its condition. -/
def refusedStaging (st : Status) (u : Update) : Update := if st = .integrityFail then { u with held := [] } else updateIdle u

theorem updateEnd_refuses {e : Exec} {s : Rc8} {c : Nat × Nat} (wrong : bundleFails (staged s.nv.upd) s = some c) : updateEnd e s =
    endWith e.id (conditionStatus c.1) (modUpd (refusedStaging (conditionStatus c.1)) (updateRefused c.1 c.2 e.port.val (pendNow e s))) := by
  unfold updateEnd
  dsimp only
  rw [wrong]
  dsimp only
  by_cases integrity : conditionStatus c.1 = .integrityFail
  · rw [if_pos integrity, integrity]
    rfl
  · have field : conditionStatus c.1 = .badField := by
      rw [conditionStatus] at integrity ⊢
      exact if_neg fun h => integrity (if_pos h)
    rw [if_neg integrity, field]
    rfl

theorem refusedStaging_leaves (st : Status) (u : Update) : (refusedStaging st u).result = u.result ∧ (refusedStaging st u).refusal = u.refusal ∧
    (refusedStaging st u).held = [] ∧ (st = .badField → (refusedStaging st u).st = .idle) ∧
    (st = .integrityFail → (refusedStaging st u).st = u.st) := by
  unfold refusedStaging
  split
  · rename_i integrity
    subst integrity
    exact ⟨rfl, rfl, rfl, nofun, fun _ => rfl⟩
  · rename_i other
    exact ⟨rfl, rfl, rfl, fun _ => rfl, fun h => absurd h other⟩

theorem updateEnd_refused {e : Exec} {s : Rc8} {c : Nat × Nat} (wrong : bundleFails (staged s.nv.upd) s = some c) :
    (updateEnd e s).nv.upd = refusedStaging (conditionStatus c.1) { s.nv.upd with result := 2, refusal := c.1 } ∧
    (updateEnd e s).nv.parts = s.nv.parts ∧ (updateEnd e s).execs = s.markedLong e.id (.ended (conditionStatus c.1) []) := by
  obtain ⟨l, stored⟩ := updateRefused_nv c.1 c.2 e.port.val (pendNow e s)
  rw [updateEnd_refuses wrong, endWith_nv, endWith_execs, modUpd_nv]
  refine ⟨?_, ?_, ?_⟩
  · dsimp only
    rw [stored, pendNow_nv]
  · dsimp only
    rw [stored, pendNow_nv]
  · rw [marked_of_execs ((modUpd_execs ..).trans (updateRefused_execs c.1 c.2 e.port.val (pendNow e s)))]
    exact marked_pendNow ..

/-! ### Confirmation (18 R543, R553) -/

/-- The security versions after some of a manifest's parts are confirmed. -/
def securityAfter (l : List ManEntry) (v : Vector Nat 6) : Vector Nat 6 :=
  l.foldl (fun v m => vput v (m.part - 1) fun x => max x m.image.security) v

theorem vput_max_le (v : Vector Nat 6) (k n : Nat) (i : Fin 6) : v[i] ≤ (vput v k fun x => max x n)[i] := by
  simp only [vput]
  split
  · simp only [Fin.getElem_fin, Vector.getElem_set]
    split
    · rename_i same
      subst same
      exact Nat.le_max_left ..
    · exact Nat.le_refl _
  · exact Nat.le_refl _

theorem securityAfter_le (l : List ManEntry) (v : Vector Nat 6) (i : Fin 6) : v[i] ≤ (securityAfter l v)[i] := by
  induction l generalizing v with
  | nil => exact Nat.le_refl _
  | cons m l ih => exact (vput_max_le v _ _ i).trans (ih _)

theorem securityAfter_covers {l : List ManEntry} {x : ManEntry} (h : x ∈ l) {i : Fin 6} (part : x.part = i.val + 1) (v : Vector Nat 6) :
    x.image.security ≤ (securityAfter l v)[i] := by
  induction l generalizing v with
  | nil => cases h
  | cons m l ih =>
    rcases List.mem_cons.1 h with rfl | later
    · refine Nat.le_trans ?_ (securityAfter_le l _ i)
      have raised : (vput v (x.part - 1) fun y => max y x.image.security)[i] = max v[i] x.image.security := by
        rw [vput_eq_set (i := i) (by omega)]
        simp
      exact (Nat.le_max_right ..).trans_eq raised.symm
    · exact ih later _

/-- What a confirmation leaves stored. -/
theorem updateConfirm_nv (e : Exec) (s : Rc8) : ∃ l, (updateConfirm e s).nv =
    { s.nv with oldFormat := none, security := securityAfter s.nv.upd.manifest s.nv.security,
                floor := if s.nv.upd.revoke then max s.nv.floor s.nv.upd.key else s.nv.floor,
                upd := { updateIdle s.nv.upd with result := 1 }, recLog := l } := by
  unfold updateConfirm
  rw [endWith_nv, raise_nv]
  exact ⟨_, rfl⟩

/-! ### Arming (18 R540, R552) -/

/-- What UPDATE_ARM leaves of an update. -/
def armedUpdate (arm : Bool) (w : Nat) (u : Update) : Update :=
  if arm then { u with st := .armed, window := w } else { u with st := .verified, window := 0 }

theorem updateArm_nv (e : Exec) (s : Rc8) : ∃ l, (updateArm e s).nv =
    { s.nv with upd := armedUpdate (u8At e.req 0 == 1) (if u16At e.req 2 = 0 then 15 else u16At e.req 2) s.nv.upd, recLog := l } := by
  unfold updateArm
  rw [endWith_nv]
  split <;> (dsimp only; rw [raise_nv]; exact ⟨_, rfl⟩)

theorem updateArm_leaves (e : Exec) (s : Rc8) : (updateArm e s).execs = s.marked e.id (.ended .done []) ∧
    (updateArm e s).restartAt =
      if (u8At e.req 0 == 1 && bitAt (u8At e.req 1) 0) = true then some (s.clk.refosc + 100000000) else s.restartAt := by
  unfold updateArm
  extract_lets arm w s1
  rw [endWith_execs]
  change _ ∧ _ = if (arm && bitAt (u8At e.req 1) 0) = true then _ else _
  generalize (arm && bitAt (u8At e.req 1) 0) = now
  refine ⟨marked_of_execs ?_ .., ?_⟩ <;> (cases now <;> rfl)

/-! ### Expiry (18 R542, R544) -/

/-- What an expiry leaves of an update, with its result. -/
def expiredUpdate (result : Nat) (u : Update) : Update := { updateIdle u with result := result, revert := u.manifest.map (·.part) }

/-- A module whose trial is given up. -/
def trialGivenUp (result when_ : Nat) (s : Rc8) : Rc8 :=
  modUpd (expiredUpdate result) { updateReverted 1 when_ s with trialFrom := none }

theorem trialGivenUp_nv (result when_ : Nat) (s : Rc8) :
    ∃ l, (trialGivenUp result when_ s).nv = { s.nv with upd := expiredUpdate result s.nv.upd, recLog := l } := by
  rw [trialGivenUp, modUpd_nv, updateReverted]
  dsimp only
  rw [raise_nv]
  exact ⟨_, rfl⟩

theorem trialGivenUp_pair (result when_ : Nat) (s : Rc8) : (trialGivenUp result when_ s).pair = s.pair := rfl
theorem trialGivenUp_run (result when_ : Nat) (s : Rc8) : (trialGivenUp result when_ s).run = s.run := rfl
theorem trialGivenUp_trialFrom (result when_ : Nat) (s : Rc8) : (trialGivenUp result when_ s).trialFrom = none := rfl

section expiry
variable {s : Rc8} {t0 : Nat} (from_ : s.trialFrom = some t0) (trial : s.nv.upd.st = .trial)
include from_ trial

theorem confirmExpiry_standby (without : holdsToken s = false) :
    confirmExpiry s = moduleReset 1 (trialGivenUp 3 1 (atRefosc (t0 + windowNs s.nv.upd) s)) := by
  unfold confirmExpiry
  rw [from_, trial]
  exact if_neg (by rw [holdsToken_of_token (congrArg Pair.token (atRefosc_pair ..)), without]; exact Bool.false_ne_true)

theorem confirmExpiry_handsOver (holds : holdsToken s = true) (ready : partnerReady s = true) (free : s.pair.hand = none) : confirmExpiry s =
    requestHandover .expiry 0 30000 { trialGivenUp 3 1 (atRefosc (t0 + windowNs s.nv.upd) s) with expiryHandover := true } := by
  unfold confirmExpiry
  rw [from_, trial]
  refine (if_pos ((holdsToken_of_token (congrArg Pair.token (atRefosc_pair ..))).trans holds)).trans (if_pos ⟨?_, ?_⟩)
  · rw [partnerReady, atRefosc_pair]
    exact ready
  · rw [atRefosc_pair, free]
    rfl

theorem confirmExpiry_alone (holds : holdsToken s = true) (notReady : partnerReady s = false) :
    confirmExpiry s = trialGivenUp 4 2 (atRefosc (t0 + windowNs s.nv.upd) s) := by
  unfold confirmExpiry
  rw [from_, trial]
  refine (if_pos ((holdsToken_of_token (congrArg Pair.token (atRefosc_pair ..))).trans holds)).trans (if_neg fun h => ?_)
  have ready := h.1
  rw [partnerReady, atRefosc_pair] at ready
  exact Bool.false_ne_true (notReady.symm.trans ready)

end expiry

/-- Outside a trial nothing expires. -/
theorem confirmExpiry_idle {s : Rc8} (h : s.nv.upd.st ≠ .trial) : confirmExpiry s = s := by
  unfold confirmExpiry
  split
  · rename_i trial
    exact absurd trial h
  · rfl

/-- Settles O59: what each row leaves of the update, and of the stored objects beside it. -/
theorem firmwareUpdate : Obligations.FirmwareUpdate := by
  refine ⟨fun s p m e => ⟨fun he => ⟨?resumes, ?opens⟩, fun he => ⟨?holds, ?drops⟩, ?ends⟩,
    fun s p m e => ⟨fun he => ⟨?arms, ?disarms⟩, ?confirms, fun t0 from_ trial => ⟨?standby, ?handsOver, ?alone⟩, ?idle⟩⟩
  case resumes =>
    intro st length hash
    exact act_runCmd he (updateBegin_resumes ⟨st, length, hash⟩)
  case opens =>
    intro other
    refine leads_of_command he rfl fun t made => ?_
    rw [made, updateBegin_opens other]
    exact ⟨rfl, rfl, rfl, rfl, newSession_session _ _ s.nv.upd, rfl, rfl, rfl⟩
  case holds =>
    intro right
    refine leads_of_command he rfl fun t made => ?_
    rw [made, updateBlock_holds right]
    exact ⟨fun g hg => putGranules_holds (blockGranules_apart e) _ hg, fun x hx apart => mem_putGranules hx apart, rfl, rfl⟩
  case drops =>
    intro b wrong
    refine leads_of_command he rfl fun t made => ?_
    rw [made, updateBlock_drops wrong]
    refine ⟨fun g hg x hx same => ?_, rfl, rfl⟩
    have left : (!(blockGranules e).any fun y => y.1 == x.1) = true := (List.mem_filter.1 hx).2
    have covered : (blockGranules e).any (fun y => y.1 == x.1) = true := List.any_eq_true.2 ⟨g, hg, beq_iff_eq.2 same.symm⟩
    rw [covered] at left
    exact Bool.false_ne_true left
  case ends =>
    intro he
    refine leads_of_command he rfl fun t made => ?_
    rw [made]
    cases verdict : bundleFails (staged s.nv.upd) s.toRc8 with
    | none =>
      obtain ⟨⟨u, stored, st, manifest, refusal⟩, parts, execs⟩ := updateEnd_verified (e := e) verdict
      exact ⟨parts, (congrArg Update.st stored).trans st, (congrArg Update.manifest stored).trans manifest,
        (congrArg Update.refusal stored).trans refusal, execs⟩
    | some c =>
      obtain ⟨stored, parts, execs⟩ := updateEnd_refused (e := e) verdict
      obtain ⟨result, refusal, held, field, integrity⟩ := refusedStaging_leaves (conditionStatus c.1) { s.nv.upd with result := 2, refusal := c.1 }
      exact ⟨parts, (congrArg Update.result stored).trans result, (congrArg Update.refusal stored).trans refusal,
        (congrArg Update.held stored).trans held, fun h => (congrArg Update.st stored).trans (field h),
        fun h => (congrArg Update.st stored).trans (integrity h), execs⟩
  case arms =>
    intro arm
    refine leads_of_command he rfl fun t made => ?_
    obtain ⟨l, stored⟩ := updateArm_nv e s.toRc8
    obtain ⟨execs, restart⟩ := updateArm_leaves e s.toRc8
    rw [made, stored, execs, restart, arm]
    exact ⟨rfl, rfl, rfl, rfl, rfl, rfl⟩
  case disarms =>
    intro disarm
    refine leads_of_command he rfl fun t made => ?_
    obtain ⟨l, stored⟩ := updateArm_nv e s.toRc8
    obtain ⟨execs, restart⟩ := updateArm_leaves e s.toRc8
    rw [made, stored, execs, restart, disarm]
    exact ⟨rfl, rfl, rfl, rfl, rfl⟩
  case confirms =>
    intro he
    refine leads_of_command he rfl fun t made => ?_
    obtain ⟨l, stored⟩ := updateConfirm_nv e s.toRc8
    rw [made, stored]
    refine ⟨rfl, rfl, rfl, rfl, rfl, ?_, securityAfter_le _ _, fun x hx i part => securityAfter_covers hx part _, ?_⟩
    · dsimp only
      split
      · exact Nat.le_max_left ..
      · exact Nat.le_refl _
    · exact (endWith_execs ..).trans (marked_of_execs (raise_execs ..) ..)
  case standby =>
    intro without
    refine leads_of_row rfl fun t made => ?_
    obtain ⟨l, stored⟩ := trialGivenUp_nv 3 1 (atRefosc (t0 + windowNs s.nv.upd) s.toRc8)
    have reset : t.nv = storedAtReset (trialGivenUp 3 1 (atRefosc (t0 + windowNs s.nv.upd) s.toRc8)) := by
      rw [made, confirmExpiry_standby from_ trial without]
      rfl
    rw [storedAtReset, stored, atRefosc_nv] at reset
    rw [reset, made, confirmExpiry_standby from_ trial without]
    exact ⟨rfl, rfl, rfl, rfl, rfl, rfl⟩
  case handsOver =>
    intro holds ready free
    refine leads_of_row rfl fun t made => ?_
    obtain ⟨l, stored⟩ := trialGivenUp_nv 3 1 (atRefosc (t0 + windowNs s.nv.upd) s.toRc8)
    rw [made, confirmExpiry_handsOver from_ trial holds ready free]
    obtain ⟨round, asks⟩ := requestHandover_asks .expiry 0 30000
      { trialGivenUp 3 1 (atRefosc (t0 + windowNs s.nv.upd) s.toRc8) with expiryHandover := true }
    rw [asks, modPair_nv, modPair_pair, modPair_trialFrom, modPair_expiryHandover]
    dsimp only
    rw [stored, atRefosc_nv, trialGivenUp_pair, trialGivenUp_trialFrom, atRefosc_pair]
    exact ⟨rfl, rfl, rfl, rfl, rfl, rfl, rfl⟩
  case alone =>
    intro holds notReady
    refine leads_of_row rfl fun t made => ?_
    obtain ⟨l, stored⟩ := trialGivenUp_nv 4 2 (atRefosc (t0 + windowNs s.nv.upd) s.toRc8)
    rw [made, confirmExpiry_alone from_ trial holds notReady, stored, atRefosc_nv, trialGivenUp_run, trialGivenUp_pair,
      trialGivenUp_trialFrom, atRefosc_run, atRefosc_pair]
    exact ⟨rfl, rfl, rfl, rfl, rfl, rfl⟩
  case idle => exact fun other => act_unchanged (confirmExpiry_idle other)

end Sys2Proof.Machine
end

section
/-! SUPPORT. Lockstep pairs, the memory code and its errors, and the statement about them (12 R385, R390, R393 to R397, R414). -/

namespace Sys2Proof.Machine

open Sys2Proof

theorem vmod_same {α : Type} {n : Nat} (v : Vector α n) (i : Fin n) (f : α → α) : (vmod v i f)[i] = f v[i] := by simp
theorem vmod_apart {α : Type} {n : Nat} {i j : Fin n} (h : j ≠ i) (v : Vector α n) (f : α → α) : (vmod v i f)[j] = v[j] := by
  simp only [Fin.getElem_fin, vmod_getElem]
  exact if_neg fun same => h (Fin.ext same.symm)

/-! ### Lockstep pairs (12 R385, R390) -/

theorem modLs_pairs (k : Fin 3) (f : LsPair → LsPair) (s : Rc8) : (modLs k f s).itg.pairs = vmod s.itg.pairs k f := rfl

theorem pairHalted_itg (s : Rc8) : (pairHalted s).itg = s.itg := by
  unfold pairHalted
  split
  · rw [updateReady_itg, tokenFault_itg]
  · rw [programFault_itg, tokenFault_itg]

/-- A mismatch of AP0 or AP1 halts its pair. -/
theorem mismatch_pairs {k : Fin 3} {s : Rc8} (runs : (s.itg.pairs[k]).st = .lockstep) (other : k ≠ 2) :
    (mismatch k s).itg.pairs = vmod s.itg.pairs k fun x => { x with st := .halted } := by
  unfold mismatch
  rw [if_neg (fun h => h runs), if_neg other, pairHalted_itg, raise_itg, modLs_pairs]

theorem mismatch_svp {s : Rc8} (runs : (s.itg.pairs[(2 : Fin 3)]).st = .lockstep) : mismatch 2 s = svpMismatch s := by
  unfold mismatch
  rw [if_neg (fun h => h runs), if_pos rfl]

theorem mismatch_stands {k : Fin 3} {s : Rc8} (no : (s.itg.pairs[k]).st ≠ .lockstep) : mismatch k s = s := if_pos no

/-- A mismatch of the SVP halts every pair. -/
theorem svpMismatch_halts (j : Fin 3) (s : Rc8) : ((svpMismatch s).itg.pairs[j]).st = .halted := by
  have pairs : (svpMismatch s).itg.pairs =
      vmod (vmod (vmod s.itg.pairs 0 fun x => { x with st := .halted }) 1 fun x => { x with st := .halted }) 2 fun x => { x with st := .halted } := rfl
  rw [pairs]
  match j with
  | 0 => simp
  | 1 => simp
  | 2 => simp

theorem svpMismatch_switches (s : Rc8) : (svpMismatch s).saf.ch = vmod s.saf.ch 1 fun c => { c with closed := 0 } := rfl

theorem restored_itg {k : Fin 2} {i : Fin 3} {s : Rc8} (same : i.val = k.val) (suspended : (s.itg.pairs[i]).st = .suspended)
    (ended : (s.itg.pairs[i]).endedAt.isSome = true) (idle : pairIdle i s = true) (far : releaseNear i s = false)
    (free : k = 0 → checksRun s = false ∧ checksNear s = false) : (restored k s).itg =
      { s.itg with pairs := vmod s.itg.pairs i fun y => { y with st := .lockstep, endedAt := none }, restores := inc32 s.itg.restores } := by
  obtain rfl : i = k.castLE (by decide) := Fin.ext same
  unfold restored
  have rests : ¬(k = 0 ∧ (checksRun s || checksNear s) = true) := fun ⟨zero, busy⟩ => by
    obtain ⟨runs, near⟩ := free zero
    rw [runs, near] at busy
    exact Bool.false_ne_true busy
  refine (congrArg Rc8.itg (if_pos ⟨suspended, ended, idle, far, rests⟩)).trans ?_
  rw [updateReady_itg, raise_itg]
  rfl

theorem lockstepRestoreFailed_sticks {k : Fin 2} {i : Fin 3} {t0 : Nat} {s : Rc8} (same : i.val = k.val) (ended : (s.itg.pairs[i]).endedAt = some t0) :
    lockstepRestoreFailed k s = raise { src := 85, reason := 0x03, sev := .error, p0 := k.val, p1 := lo32 s.rnd.round, p2 := 0 }
      (modLs i (fun y => { y with endedAt := none, stuck := true }) (atRefosc (t0 + 1000000000) s)) := by
  obtain rfl : i = k.castLE (by decide) := Fin.ext same
  unfold lockstepRestoreFailed
  extract_lets
  rw [ended]

/-! ### The memory code (12 R393) -/

theorem codeRead_of_errors {err : BitVec 80} {fault : BitVec 29} (right : onesIn fault.getLsbD 29 = 0) :
    (onesIn err.getLsbD 80 = 1 ∨ onesIn err.getLsbD 80 = 2 → codeRead err fault = .corrected (decide (onesIn err.getLsbD 80 = 2))) ∧
    (onesIn err.getLsbD 80 = 3 → codeRead err fault = .data) := by
  unfold codeRead
  rw [right]
  refine ⟨fun few => ?_, fun three => by rw [three]; rfl⟩
  rcases few with one | two
  · rw [one]; rfl
  · rw [two]; rfl

theorem codeRead_of_fault {err : BitVec 80} {fault : BitVec 29} (wrong : onesIn fault.getLsbD 29 = 1 ∨ onesIn fault.getLsbD 29 = 2) :
    codeRead err fault = .address := by
  unfold codeRead
  rcases wrong with one | two
  · rw [one]; rfl
  · rw [two]; rfl

/-! ### Corrected errors (12 R394, R395) -/

/-- An area's counts after a corrected error. -/
def correctedArea (double : Bool) (y : MemArea) : MemArea :=
  if double then { y with double := inc32 y.double } else { y with single := inc32 y.single }

theorem areaCorrected_itg (area : Fin 13) (addr : Nat) (double : Bool) (s : Rc8) :
    (areaCorrected area addr double s).itg = { s.itg with areas := vmod s.itg.areas area (correctedArea double) } := raiseLimited_itg ..
theorem areaCorrected_clk (area : Fin 13) (addr : Nat) (double : Bool) (s : Rc8) : (areaCorrected area addr double s).clk = s.clk := raiseLimited_clk ..
theorem areaCorrected_run (area : Fin 13) (addr : Nat) (double : Bool) (s : Rc8) : (areaCorrected area addr double s).run = s.run := raiseLimited_run ..
theorem areaCorrected_eng (area : Fin 13) (addr : Nat) (double : Bool) (s : Rc8) : (areaCorrected area addr double s).eng = s.eng := raiseLimited_eng ..

/-- The corrected errors of a device within the last 24 h. -/
def recentErrors (now : Nat) (l : List Nat) : List Nat := l.filter fun t => decide (now < t + dayNs)

theorem deviceError_itg (d : Fin 5) (s : Rc8) :
    (deviceError d s).itg = { s.itg with device := s.itg.device.set d (recentErrors s.clk.refosc s.itg.device[d] ++ [s.clk.refosc]) } := by
  unfold deviceError
  extract_lets
  split
  · rw [raise_itg]; rfl
  · rfl
theorem deviceError_run (d : Fin 5) (s : Rc8) : (deviceError d s).run = s.run := by
  unfold deviceError
  extract_lets
  split <;> rfl
theorem deviceError_eng (d : Fin 5) (s : Rc8) : (deviceError d s).eng = s.eng := by
  unfold deviceError
  extract_lets
  split <;> rfl
theorem deviceError_clk (d : Fin 5) (s : Rc8) : (deviceError d s).clk = s.clk := by
  unfold deviceError
  extract_lets
  split <;> rfl

/-- What a corrected word of the DRAM does for one of its devices. -/
def deviceCorrected (addr : Nat) (err : BitVec 80) (s : Rc8) (d : Fin 5) : Rc8 :=
  if deviceBits err d = 0 then s else deviceError d (areaCorrected (d.castLE (by decide)) addr (deviceBits err d == 2) s)

theorem deviceCorrected_none {err : BitVec 80} {d : Fin 5} (h : deviceBits err d = 0) (addr : Nat) (s : Rc8) : deviceCorrected addr err s d = s := if_pos h

theorem deviceCorrected_itg {err : BitVec 80} {d : Fin 5} (h : deviceBits err d ≠ 0) (addr : Nat) (s : Rc8) : (deviceCorrected addr err s d).itg =
    { s.itg with areas := vmod s.itg.areas (d.castLE (by decide)) (correctedArea (deviceBits err d == 2)),
                 device := s.itg.device.set d (recentErrors s.clk.refosc s.itg.device[d] ++ [s.clk.refosc]) } := by
  rw [deviceCorrected, if_neg h, deviceError_itg, areaCorrected_itg, areaCorrected_clk]

/-- Such a step leaves what no error is kept in. -/
theorem deviceCorrected_keeps (addr : Nat) (err : BitVec 80) (s : Rc8) (d : Fin 5) :
    (deviceCorrected addr err s d).clk = s.clk ∧ (deviceCorrected addr err s d).run = s.run ∧ (deviceCorrected addr err s d).eng = s.eng ∧
    (deviceCorrected addr err s d).itg.scrubAt = s.itg.scrubAt := by
  by_cases h : deviceBits err d = 0
  · rw [deviceCorrected_none h]
    exact ⟨rfl, rfl, rfl, rfl⟩
  · refine ⟨?_, ?_, ?_, by rw [deviceCorrected_itg h]⟩ <;> rw [deviceCorrected, if_neg h]
    · rw [deviceError_clk, areaCorrected_clk]
    · rw [deviceError_run, areaCorrected_run]
    · rw [deviceError_eng, areaCorrected_eng]

/-- What is kept of one device: its area's counts, its times, and the time now. -/
def deviceCounts (d : Fin 5) (s : Rc8) : MemArea × List Nat × Nat := (s.itg.areas[d.castLE (by decide : 5 ≤ 13)], s.itg.device[d], s.clk.refosc)

/-- What a corrected word does to what is kept of one device. -/
def countsAfter (bits : Nat) (x : MemArea × List Nat × Nat) : MemArea × List Nat × Nat :=
  if bits = 0 then x else (correctedArea (bits == 2) x.1, recentErrors x.2.2 x.2.1 ++ [x.2.2], x.2.2)

theorem deviceCorrected_same (addr : Nat) (err : BitVec 80) (s : Rc8) (d : Fin 5) :
    deviceCounts d (deviceCorrected addr err s d) = countsAfter (deviceBits err d) (deviceCounts d s) := by
  by_cases h : deviceBits err d = 0
  · rw [deviceCorrected_none h, countsAfter, if_pos h]
  · obtain ⟨clk, -⟩ := deviceCorrected_keeps addr err s d
    rw [countsAfter, if_neg h, deviceCounts, clk, deviceCorrected_itg h]
    dsimp only
    rw [vmod_same]
    simp [deviceCounts]

theorem deviceCorrected_other {d e : Fin 5} (apart : e ≠ d) (addr : Nat) (err : BitVec 80) (s : Rc8) :
    deviceCounts d (deviceCorrected addr err s e) = deviceCounts d s := by
  by_cases h : deviceBits err e = 0
  · rw [deviceCorrected_none h]
  · obtain ⟨clk, -⟩ := deviceCorrected_keeps addr err s e
    have places : d.castLE (by decide : 5 ≤ 13) ≠ e.castLE (by decide : 5 ≤ 13) := fun same => apart (Fin.ext (congrArg Fin.val same).symm)
    rw [deviceCounts, clk, deviceCorrected_itg h]
    dsimp only
    rw [vmod_apart places]
    simp [deviceCounts, Fin.val_ne_of_ne apart]

/-- Steps of which one acts on a part and the others leave it. -/
theorem foldl_acts {σ α β : Type} {part : σ → β} {g : σ → α → σ} {f : β → β} {d : α} (acts : ∀ s, part (g s d) = f (part s))
    (others : ∀ s x, x ≠ d → part (g s x) = part s) {l : List α} (once : l.Nodup) (h : d ∈ l) (s : σ) : part (l.foldl g s) = f (part s) := by
  have without : ∀ l : List α, d ∉ l → ∀ s, part (l.foldl g s) = part s := fun l => by
    induction l with
    | nil => exact fun _ _ => rfl
    | cons x l ih =>
      intro no s
      rw [List.mem_cons, not_or] at no
      obtain ⟨first, rest⟩ := no
      exact (ih rest _).trans (others s x (Ne.symm first))
  induction l generalizing s with
  | nil => cases h
  | cons x l ih =>
    obtain ⟨apart, once⟩ := List.nodup_cons.1 once
    rcases List.mem_cons.1 h with rfl | later
    · exact (without l apart _).trans (acts s)
    · exact (ih once later _).trans (congrArg f (others s x fun same => apart (same ▸ later)))

section corrected
variable {s : Rc8} {addr : Nat} {err : BitVec 80} {double : Bool} (code : codeRead err 0 = .corrected double)
include code

theorem memoryCorrected_poisoned {area : Fin 13} (bad : isPoisoned area.val addr s = true) : memoryCorrected area addr err s = s := by
  unfold memoryCorrected
  rw [code]
  exact if_pos bad

theorem memoryCorrected_area {area : Fin 13} (good : isPoisoned area.val addr s = false) (outside : area ≠ 5) :
    memoryCorrected area addr err s = areaCorrected area addr double s := by
  unfold memoryCorrected
  rw [code]
  exact (if_neg (by rw [good]; exact Bool.false_ne_true)).trans (if_neg outside)

theorem memoryCorrected_dram (good : isPoisoned 5 addr s = false) :
    memoryCorrected 5 addr err s = dramDevices.foldl (deviceCorrected addr err) s := by
  unfold memoryCorrected
  rw [code]
  refine (if_neg ?_).trans (if_pos rfl)
  rw [show isPoisoned (5 : Fin 13).val addr s = false from good]
  exact Bool.false_ne_true

end corrected

theorem dramCorrected_counts (addr : Nat) (err : BitVec 80) (s : Rc8) (d : Fin 5) :
    deviceCounts d (dramDevices.foldl (deviceCorrected addr err) s) = countsAfter (deviceBits err d) (deviceCounts d s) :=
  foldl_acts (fun s => deviceCorrected_same addr err s d) (fun s _ apart => deviceCorrected_other apart addr err s) (by decide)
    (by revert d; decide) s

theorem dramCorrected_keeps (addr : Nat) (err : BitVec 80) (s : Rc8) :
    (dramDevices.foldl (deviceCorrected addr err) s).itg.scrubAt = s.itg.scrubAt ∧ (dramDevices.foldl (deviceCorrected addr err) s).run = s.run ∧
    (dramDevices.foldl (deviceCorrected addr err) s).eng = s.eng :=
  ⟨foldl_keeps (fun s => s.itg.scrubAt) _ (fun s d => (deviceCorrected_keeps addr err s d).2.2.2) _ _,
   foldl_keeps Rc8.run _ (fun s d => (deviceCorrected_keeps addr err s d).2.1) _ _,
   foldl_keeps Rc8.eng _ (fun s d => (deviceCorrected_keeps addr err s d).2.2.1) _ _⟩

/-! ### Uncorrectable errors (12 R397) -/

/-- A word that is uncorrectable is counted in its area, with its address. -/
def uncorrectableCounted (area : Fin 13) (addr : Nat) (s : Rc8) : Rc8 :=
  { s with itg := { s.itg with areas := s.itg.areas.set area { s.itg.areas[area] with uncorrectable := inc32 (s.itg.areas[area]).uncorrectable,
                                                                                      lastAddr := addr } } }

/-- The event of an uncorrectable word. -/
def uncorrectableEvent (area : Fin 13) (addr : Nat) (address : Bool) : Ev :=
  { src := 84, reason := 0x02, sev := .critical, p0 := area.val, p1 := addr, p2 := if address then 2 else 1 }

theorem uncorrectable_clean (area : Fin 13) (addr : Nat) (address : Bool) (s : Rc8) : uncorrectable area addr address .clean s =
    countCorrected area (Config.refetchedDouble area.val addr) (raise (uncorrectableEvent area addr address) s) := rfl

theorem uncorrectable_counted {r : MemRegion} (h : r ≠ .clean) (area : Fin 13) (addr : Nat) (address : Bool) (s : Rc8) :
    uncorrectable area addr address r s =
      regionFault area addr r (raise (uncorrectableEvent area addr address) (poison area addr r (uncorrectableCounted area addr s))) := by
  unfold uncorrectable
  rw [if_neg h]
  rfl

theorem poison_mram {area : Fin 13} (mram : area.val = 11) (addr : Nat) (r : MemRegion) (s : Rc8) : poison area addr r s = s := if_pos (.inl mram)

/-- A word outside the MRAM and clean lines stays uncorrectable. -/
theorem isPoisoned_poison {area : Fin 13} {r : MemRegion} (outside : area.val ≠ 11) (kept : r ≠ .clean) (addr : Nat) (s : Rc8) :
    isPoisoned area.val addr (poison area addr r s) = true := by
  unfold poison
  split
  · rename_i h
    exact h.resolve_left outside |>.resolve_left kept
  · simp [isPoisoned]

theorem isPoisoned_congr {s t : Rc8} (h : t.itg = s.itg) (area addr : Nat) : isPoisoned area addr t = isPoisoned area addr s := by
  rw [isPoisoned, h, isPoisoned]

/-- What is not read as uncorrectable has no effect. -/
theorem memoryUncorrectable_stands {area : Fin 13} {addr : Nat} {err : BitVec 80} {fault : BitVec 29} {r : MemRegion} {s : Rc8}
    (data : readResult area.val addr err fault r s ≠ .data) (address : readResult area.val addr err fault r s ≠ .address) :
    memoryUncorrectable area addr err fault r s = s := by
  unfold memoryUncorrectable
  split
  · rename_i h
    exact absurd h data
  · rename_i h
    exact absurd h address
  · rfl

theorem memoryUncorrectable_acts {area : Fin 13} {addr : Nat} {err : BitVec 80} {fault : BitVec 29} {r : MemRegion} {s : Rc8}
    (bad : readResult area.val addr err fault r s = .data ∨ readResult area.val addr err fault r s = .address) :
    ∃ address, memoryUncorrectable area addr err fault r s = uncorrectable area addr address r s := by
  unfold memoryUncorrectable
  rcases bad with data | address
  · exact ⟨false, by rw [data]⟩
  · exact ⟨true, by rw [address]⟩

theorem objectBad_events (o : StoredObj) (copy : Fin 2) (s t : Rc8) :
    objectBad o copy (s.withEvents t) = (objectBad o copy s).withEvents (objectBad o copy t) := by
  cases o <;> rfl

theorem poisonBar2_events (addr : Nat) (s t : Rc8) : poisonBar2 addr (s.withEvents t) = (poisonBar2 addr s).withEvents (poisonBar2 addr t) := by
  unfold poisonBar2
  extract_lets o mark
  split
  · split <;> rfl
  · rfl

/-- A journal record with a changed CRC is valid no more. -/
theorem journalBroken_invalid (x : JournalRec) : ({ x with crc := (recCrc x + 1) % 2 ^ 32 } : JournalRec).valid = false := by
  have changed : (recCrc x + 1) % 2 ^ 32 ≠ recCrc x := by omega
  have same : recCrc { x with crc := (recCrc x + 1) % 2 ^ 32 } = recCrc x := rfl
  rw [JournalRec.valid, same, beq_false_of_ne changed, Bool.and_false]

/-! ### The scrubber (12 R396, R414) -/

theorem scrub_next {area : Fin 13} {s : Rc8} (dram : area.val ≤ 5) (inside : s.itg.scrubAt + 1 ≠ 33554432) :
    scrub area s = { s with itg := { s.itg with scrubAt := s.itg.scrubAt + 1 } } := by
  rw [scrub, if_pos dram]
  exact congrArg (fun i => ({ s with itg := i } : Rc8)) (if_neg inside)

theorem scrub_wraps {area : Fin 13} {s : Rc8} (dram : area.val ≤ 5) (end_ : s.itg.scrubAt + 1 = 33554432) :
    scrub area s = { s with itg := { s.itg with scrubAt := 0, scrubs := inc32 s.itg.scrubs } } := by
  rw [scrub, if_pos dram]
  exact congrArg (fun i => ({ s with itg := i } : Rc8)) (if_pos end_)

theorem modLs_of_itg {s t : Rc8} (h : t.itg = s.itg) (k : Fin 3) (f : LsPair → LsPair) :
    modLs k f t = { t with itg := { s.itg with pairs := s.itg.pairs.set k (f s.itg.pairs[k]) } } := by
  rw [← h]
  rfl

/-! ### The statement's parts -/

theorem axisMemory_itg (a : Fin 256) (s : Rc8) : (axisMemory a s).itg = s.itg := rfl

/-- What an uncorrectable word does to the engine's memory of its axis. -/
theorem uncorrectable_engine {area : Fin 13} (outside : area.val ≠ 11) (addr : Nat) (address : Bool) (a : Fin 256) (s : Rc8) :
    (axisOf a.val (uncorrectable area addr address (.engine a) s)).memError = true ∧
    isPoisoned area.val addr (uncorrectable area addr address (.engine a) s) = true := by
  rw [uncorrectable_counted (r := .engine a) nofun, regionFault]
  refine ⟨by rw [axisMemory, axisOf_putAxis, if_pos rfl], ?_⟩
  rw [isPoisoned_congr ((axisMemory_itg ..).trans (raise_itg (uncorrectableEvent area addr address) _))]
  exact isPoisoned_poison (r := .engine a) outside nofun addr (uncorrectableCounted area addr s)

/-- What it does to a journal record. -/
theorem uncorrectable_journal {area : Fin 13} (mram : area.val = 11) (addr : Nat) (address : Bool) (i : Nat) (s : Rc8) :
    (uncorrectable area addr address (.journal i) s).nv.retain = s.nv.retain ∧
    (uncorrectable area addr address (.journal i) s).nv.journal =
      lmod s.nv.journal i fun r => { r with crc := (recCrc r + 1) % 2 ^ 32 } := by
  rw [uncorrectable_counted (r := .journal i) nofun, poison_mram mram]
  exact ⟨rfl, rfl⟩

/-- What it does to the snapshots of an axis. -/
theorem uncorrectable_snapshot {area : Fin 13} (mram : area.val = 11) (addr : Nat) (address : Bool) (a : Fin 256) (k : Fin 2) (s : Rc8) :
    (uncorrectable area addr address (.snapshot a k) s).nv.snaps = s.nv.snaps.map fun x => if x.1 = a.val then (x.1, x.2.set k none) else x := by
  rw [uncorrectable_counted (r := .snapshot a k) nofun, poison_mram mram]
  rfl

theorem lostSnapshot {a : Nat} {k : Fin 2} {l : List (Nat × Vector (Option Snap) 2)} {x : Nat × Vector (Option Snap) 2}
    (h : x ∈ l.map fun x => if x.1 = a then (x.1, x.2.set k none) else x) (of : x.1 = a) : x.2[k] = none := by
  obtain ⟨y, -, rfl⟩ := List.mem_map.1 h
  split at of
  · rename_i same
    rw [if_pos same]
    exact Vector.getElem_set_self ..
  · rename_i other
    exact absurd of other

/-- What it does to a clean line. -/
theorem uncorrectable_cleanLine (area : Fin 13) (addr : Nat) (address : Bool) (s : Rc8) :
    ((uncorrectable area addr address .clean s).itg.areas[area]).uncorrectable = (s.itg.areas[area]).uncorrectable ∧
    (uncorrectable area addr address .clean s).itg.poisoned = s.itg.poisoned ∧ (uncorrectable area addr address .clean s).run = s.run := by
  have areas : (uncorrectable area addr address .clean s).itg.areas =
      vmod s.itg.areas area (correctedArea (Config.refetchedDouble area.val addr)) := rfl
  refine ⟨?_, rfl, rfl⟩
  rw [areas, vmod_same, correctedArea]
  split <;> rfl

section rows
variable {s : State} {area : Fin 13} {addr : Nat} {err : BitVec 80} {fault : BitVec 29} {r : MemRegion}

theorem exec_memoryCorrected (served : 5 ≤ area.val) (range : addr < 2 ^ 32) :
    exec (.memoryCorrected area addr err) s = act (memoryCorrected area addr err) s := actIf_act (decide_eq_true ⟨served, range⟩) ..

theorem exec_memoryUncorrectable (inside : regionIn area.val r = true) (range : addr < 2 ^ 32) :
    exec (.memoryUncorrectable area addr ⟨err, fault⟩ r) s = act (memoryUncorrectable area addr err fault r) s :=
  actIf_act (Bool.and_eq_true_iff.2 ⟨inside, decide_eq_true range⟩) ..

theorem leads_of_uncorrectable {P : State → Prop} (inside : regionIn area.val r = true) (range : addr < 2 ^ 32)
    (bad : readResult area.val addr err fault r s.toRc8 = .data ∨ readResult area.val addr err fault r s.toRc8 = .address)
    (hp : ∀ (t : State) (address : Bool), t.toRc8 = uncorrectable area addr address r s.toRc8 → P t) :
    Leads (.memoryUncorrectable area addr ⟨err, fault⟩ r) s P := by
  obtain ⟨address, acts⟩ := memoryUncorrectable_acts bad
  exact leads_of_row (exec_memoryUncorrectable inside range) fun t made => hp t address (made.trans acts)

theorem leadsTo_of_uncorrectable {t : Rc8} (inside : regionIn area.val r = true) (range : addr < 2 ^ 32)
    (bad : readResult area.val addr err fault r s.toRc8 = .data ∨ readResult area.val addr err fault r s.toRc8 = .address)
    (ht : ∀ address, t.UpToEvents (uncorrectable area addr address r s.toRc8)) : LeadsTo (.memoryUncorrectable area addr ⟨err, fault⟩ r) s t := by
  obtain ⟨address, acts⟩ := memoryUncorrectable_acts bad
  exact leadsTo_of_row (exec_memoryUncorrectable inside range) (acts ▸ ht address)

end rows

/-- The rows of lockstep. -/
theorem lockstepRows (s : State) :
    (∀ k : Fin 3, (s.itg.pairs[k]).st = .lockstep →
      (k ≠ 2 → Leads (.lockstepMismatch k) s fun t => (t.itg.pairs[k]).st = .halted ∧
        (∀ j : Fin 3, j ≠ k → (t.itg.pairs[j]).st = (s.itg.pairs[j]).st)) ∧
      (k = 2 → Leads (.lockstepMismatch k) s fun t => (∀ j : Fin 3, (t.itg.pairs[j]).st = .halted) ∧ t.svpReady = false ∧ t.pair.pulse = false ∧
        t.nv = { s.nv with pd0Mismatch := some s.rnd.round } ∧ (t.saf.ch[1]).closed = 0 ∧ t.saf.ch[0] = s.saf.ch[0] ∧ t.out = s.out)) := by
  refine fun k runs => ⟨fun other => ?_, fun svp => ?_⟩
  · refine leads_of_row rfl fun t made => ?_
    rw [made, mismatch_pairs runs other, vmod_same]
    exact ⟨rfl, fun j apart => by rw [vmod_apart apart]⟩
  · subst svp
    refine leads_of_row rfl fun t made => ?_
    rw [made, mismatch_svp runs]
    refine ⟨fun j => svpMismatch_halts j s.toRc8, rfl, rfl, rfl, ?_, ?_, rfl⟩ <;> rw [svpMismatch_switches] <;> simp

/-- Settles O48: what each row leaves of the pairs, the counts and the words that stay uncorrectable. -/
theorem lockstepAndMemory : Obligations.LockstepAndMemory := by
  refine ⟨⟨lockstepRows, fun s k no => act_unchanged (mismatch_stands no), ?restores, ?sticks⟩,
    fun err fault => ⟨fun right => (codeRead_of_errors right).1, fun right => (codeRead_of_errors right).2, codeRead_of_fault⟩,
    fun s area addr err double outside range code => ⟨fun good => ?corrects, fun bad => ?poisoned⟩,
    fun s addr err double range code good => ?devices,
    fun s area addr err fault r inside range => ⟨fun data address => ?stands,
      fun bad => ⟨?object, ?bar2, ?clean, ?journal, ?retained, ?engine, ?snapshot⟩⟩,
    fun s area dram => ⟨fun next => act_eq_of_eq (scrub_next dram next), fun end_ => act_eq_of_eq (scrub_wraps dram end_)⟩⟩
  case restores =>
    intro s k i same suspended ended idle far free
    refine leads_of_row rfl fun t made => ?_
    rw [made, restored_itg same suspended ended idle far free]
    dsimp only
    rw [vmod_same]
    exact ⟨rfl, rfl, rfl⟩
  case sticks =>
    intro s k i t0 same ended
    refine leadsTo_of_row rfl ?_
    rw [lockstepRestoreFailed_sticks same ended, modLs_of_itg (atRefosc_itg (t0 + 1000000000) s.toRc8)]
    exact upToEvents_raise ..
  case corrects =>
    have other : area ≠ 5 := fun five => by rw [five] at outside; exact absurd outside (by decide)
    refine leads_of_row (exec_memoryCorrected (Nat.le_of_succ_le outside) range) fun t made => ?_
    rw [made, memoryCorrected_area code good other, areaCorrected_itg, areaCorrected_run, areaCorrected_eng]
    exact ⟨rfl, rfl, rfl⟩
  case poisoned =>
    exact (exec_memoryCorrected (Nat.le_of_succ_le outside) range).trans (act_unchanged (memoryCorrected_poisoned code bad))
  case devices =>
    refine leads_of_row (exec_memoryCorrected (Nat.le_refl _) range) fun t made => ?_
    obtain ⟨scrubAt, run, eng⟩ := dramCorrected_keeps addr err s.toRc8
    have counts := dramCorrected_counts addr err s.toRc8
    rw [← memoryCorrected_dram code good, ← made] at scrubAt run eng counts
    refine ⟨scrubAt, run, eng, fun d k same => ?_⟩
    obtain rfl : k = d.castLE (by decide) := Fin.ext same
    refine ⟨fun none_ => ?_, fun one => ?_, fun two => ?_⟩
    · have kept := counts d
      rw [none_, countsAfter, if_pos rfl] at kept
      exact ⟨congrArg Prod.fst kept, congrArg (fun x => x.2.1) kept⟩
    · have kept := counts d
      rw [one] at kept
      exact ⟨congrArg Prod.fst kept, (congrArg (fun x => x.2.1.getLast?) kept).trans (List.getLast?_concat ..)⟩
    · have kept := counts d
      rw [two] at kept
      exact ⟨congrArg Prod.fst kept, (congrArg (fun x => x.2.1.getLast?) kept).trans (List.getLast?_concat ..)⟩
  case stands => exact (exec_memoryUncorrectable inside range).trans (act_unchanged (memoryUncorrectable_stands data address))
  case object =>
    rintro o copy rfl
    have mram : area.val = 11 := beq_iff_eq.1 inside
    refine leadsTo_of_uncorrectable inside range bad fun address => ?_
    rw [uncorrectable_counted (r := .object o copy) nofun, poison_mram mram]
    exact (upToEvents_raise ..).map (objectBad_events ..)
  case bar2 =>
    rintro rfl
    refine leadsTo_of_uncorrectable inside range bad fun address => ?_
    rw [uncorrectable_counted (r := .bar2) nofun]
    exact (upToEvents_raise ..).map (poisonBar2_events ..)
  case clean =>
    rintro rfl
    exact leads_of_uncorrectable inside range bad fun t address made => made ▸ uncorrectable_cleanLine area addr address s.toRc8
  case journal =>
    rintro i rfl
    refine leads_of_uncorrectable inside range bad fun t address made => ?_
    obtain ⟨retain, journal⟩ := uncorrectable_journal (beq_iff_eq.1 inside) addr address i s.toRc8
    rw [made, retain, journal, lmod]
    refine ⟨rfl, fun x hx => ?_, fun j apart => List.getElem?_modify_ne _ _ (Ne.symm apart)⟩
    rw [List.getElem?_modify_eq] at hx
    obtain ⟨y, -, rfl⟩ := Option.map_eq_some_iff.1 hx
    exact journalBroken_invalid y
  case retained =>
    rintro rfl
    refine leads_of_uncorrectable inside range bad fun t address made => ?_
    rw [made, uncorrectable_counted (r := .retained false) nofun, poison_mram (beq_iff_eq.1 inside)]
    exact ⟨rfl, rfl⟩
  case engine =>
    rintro a rfl
    have ten : area.val = 10 := beq_iff_eq.1 inside
    exact leads_of_uncorrectable inside range bad fun t address made =>
      made ▸ uncorrectable_engine (by rw [ten]; decide) addr address a s.toRc8
  case snapshot =>
    rintro a k rfl
    refine leads_of_uncorrectable inside range bad fun t address made x hx of => ?_
    rw [made, uncorrectable_snapshot (beq_iff_eq.1 inside)] at hx
    exact lostSnapshot hx of

end Sys2Proof.Machine
end

section
/-! SUPPORT. The debug port, debug sessions, breakpoints and halted tasks, and the statement about them (12 R387 to R389, R391, R392, R401, R409, R415,
R417 to R419). -/

namespace Sys2Proof.Machine

open Sys2Proof

/-! ### The debug port (12 R387 to R389) -/

theorem sessScope_locked {s : Rc8} (locked : s.itg.sess = none) : sessScope s = 0 := by rw [sessScope, locked]; rfl

/-- No core is in the scope of no session. -/
theorem scopeCovers_zero (k : Fin 3) : scopeCovers 0 k = false := by
  rw [scopeCovers, bitAt, Nat.zero_testBit]
  exact Bool.and_false _

section port
variable {s : Rc8} (serves : dmaStopped 15 s = false)
include serves

theorem notStopped : ¬ dmaStopped 15 s = true := by rw [serves]; exact Bool.false_ne_true

theorem debugRequest_passive : debugRequest .passive s = portAnswer true s := if_neg (notStopped serves)

theorem debugRequest_scan : debugRequest .scan s = portAnswer ((s.itg.sess.map fun x => bitAt x.scope 2).getD false) s := by
  refine (if_neg (notStopped serves)).trans (congrArg (portAnswer · s) ?_)
  cases open_ : s.itg.sess with
  | none => rw [sessScope_locked open_]; rfl
  | some x => rw [sessScope, open_]; rfl

theorem debugRequest_core_refused {k : Fin 3} {op : CoreDebug} (closed : s.itg.sess = none ∨ s.run.mode = .run) :
    debugRequest (.core k op) s = portAnswer false s := by
  refine (if_neg (notStopped serves)).trans (if_neg fun both => ?_)
  obtain ⟨covers, mode⟩ := Bool.and_eq_true_iff.1 both
  rcases closed with locked | runs
  · rw [sessScope_locked locked, scopeCovers_zero] at covers
    exact Bool.false_ne_true covers
  · rw [runs] at mode
    exact Bool.false_ne_true mode

theorem debugRequest_access_refused {x : Transaction} (locked : s.itg.sess = none) : debugRequest (.access x) s = portAnswer false s :=
  (if_neg (notStopped serves)).trans (if_pos (by rw [sessScope_locked locked]))

theorem debugRequest_core {k : Fin 3} {op : CoreDebug} {x : DebugSess} (open_ : s.itg.sess = some x) (core : k.val < 2)
    (scope : bitAt x.scope k.val = true) (stands : s.run.mode ≠ .run) :
    debugRequest (.core k op) s = portAnswer true (coreDebug k op (suspend k 1 s)) := by
  refine (if_neg (notStopped serves)).trans (if_pos (Bool.and_eq_true_iff.2 ⟨?_, bne_iff_ne.2 stands⟩))
  rw [sessScope, open_, scopeCovers]
  exact Bool.and_eq_true_iff.2 ⟨decide_eq_true core, scope⟩

end port

/-- A pair that runs in lockstep is suspended by the port. -/
theorem suspend_port_itg {k : Fin 3} {s : Rc8} (lock : (s.itg.pairs[k]).st = .lockstep) : (suspend k 1 s).itg =
    { s.itg with pairs := vmod s.itg.pairs k fun x => { x with byPort := true, endedAt := none, st := .suspended, since := s.rnd.round },
                 suspensions := inc32 s.itg.suspensions } := by
  unfold suspend
  rw [lock]
  exact raise_itg ..

/-- Core debug acts on the cores and breakpoints of the port alone. -/
theorem coreDebug_pairs (k : Fin 3) (op : CoreDebug) (s : Rc8) : (portAnswer true (coreDebug k op s)).itg.pairs = s.itg.pairs ∧
    (portAnswer true (coreDebug k op s)).itg.suspensions = s.itg.suspensions := by
  cases op <;> exact ⟨rfl, rfl⟩

theorem namedCore_suspended {k : Fin 3} {s : Rc8} (suspended : (s.itg.pairs[k]).st = .suspended) (checker : Bool) : namedCore k checker s = 2 * k.val := by
  rw [namedCore, suspended]
  exact congrArg (2 * k.val + b2n ·) (Bool.and_false _)

/-! ### Sessions that wait for their rules (12 R388, R409, R415) -/

theorem comingSession_open {s : Rc8} (none_ : s.itg.sessWaits = []) : comingSession s = s.itg.sess := by rw [comingSession, none_]; rfl

theorem comingSession_congr {s t : Rc8} (h : t.itg = s.itg) : comingSession t = comingSession s := by rw [comingSession, h, comingSession]

/-- The session that waits is the newest one, with the next rule epoch. -/
theorem waitSession_itg (new : Option DebugSess) (arg by_ : Nat) (id : Option Nat) (s : Rc8) :
    (waitSession new arg by_ id s).itg.sess = s.itg.sess ∧ (waitSession new arg by_ id s).itg.epoch = (s.itg.epoch + 1) % 2 ^ 32 ∧
    (waitSession new arg by_ id s).itg.sessWaits =
      s.itg.sessWaits ++ [{ epoch := (s.itg.epoch + 1) % 2 ^ 32, sess := new, arg := arg, by_ := by_, exec := id }] ∧
    (waitSession new arg by_ id s).execs = s.execs ∧ (waitSession new arg by_ id s).clk = s.clk := ⟨rfl, rfl, rfl, rfl, rfl⟩

theorem closeSession_waits {s : Rc8} (open_ : (comingSession s).isSome = true) (cause by_ : Nat) (id : Option Nat) :
    closeSession cause by_ id s = waitSession none cause by_ id s :=
  if_neg (by rw [Option.isNone_eq_false_iff.2 open_]; exact Bool.false_ne_true)

theorem sessionExpiry_waits {s : Rc8} {x : DebugSess} (open_ : s.itg.sess = some x) (none_ : s.itg.sessWaits = []) :
    sessionExpiry s = waitSession none 2 0xFF none (atRefosc x.endAt s) := by
  unfold sessionExpiry
  rw [open_]
  refine closeSession_waits ?_ ..
  rw [comingSession_congr (atRefosc_itg ..), comingSession_open none_, open_]
  rfl

theorem waitExec_execs (id : Nat) (s : Rc8) : (waitExec id s).execs = s.marked id .waiting := by rw [waitExec_eq]

theorem debugUnlock_waits {e : Exec} {s : Rc8} (mine : ∀ x, s.itg.sess = some x → x.port = e.port)
    (mineToo : ∀ x, comingSession s = some x → x.port = e.port) : debugUnlock e s =
      waitSession (some { port := e.port, scope := u8At e.req 0, endAt := s.clk.refosc + u16At e.req 2 * 60000000000 }) (u16At e.req 2) e.port.val
        (some e.id) (waitExec e.id s) := by
  have free : ∀ o : Option DebugSess, (∀ x, o = some x → x.port = e.port) → (o.map fun x => x.port != e.port).getD false = false := fun o h => by
    cases o with
    | none => rfl
    | some x => exact bne_eq_false_iff_eq.2 (h x rfl)
  refine if_neg ?_
  rw [free _ mine, free _ mineToo]
  exact Bool.false_ne_true

theorem debugUnlock_busy {e : Exec} {s : Rc8} (other : ∃ x, s.itg.sess = some x ∧ x.port ≠ e.port) : debugUnlock e s = endWith e.id .busy s := by
  obtain ⟨x, open_, port⟩ := other
  refine if_pos (Bool.or_eq_true_iff.2 (.inl ?_))
  rw [open_]
  exact bne_iff_ne.2 port

theorem debugLock_waits {e : Exec} {s : Rc8} (mine : ∃ x, comingSession s = some x ∧ x.port = e.port) :
    debugLock e s = waitSession none 1 e.port.val (some e.id) (waitExec e.id s) := by
  obtain ⟨x, coming, port⟩ := mine
  have passes : checkLock e s = none := by
    rw [checkLock, coming]
    exact if_pos (beq_iff_eq.2 port)
  unfold debugLock
  rw [passes]
  refine (if_neg Bool.false_ne_true).trans (closeSession_waits ?_ ..)
  rw [comingSession_congr (waitExec_itg ..), coming]
  rfl

theorem debugLock_refused {e : Exec} {s : Rc8} (others : ∀ x, comingSession s = some x → x.port ≠ e.port) :
    debugLock e s = endWith e.id .wrongState s := by
  have refused : checkLock e s = some .wrongState := by
    rw [checkLock]
    refine if_neg ?_
    cases coming : comingSession s with
    | none => exact Bool.false_ne_true
    | some x =>
      intro same
      exact others x coming (beq_iff_eq.1 same)
  unfold debugLock
  rw [refused]
  rfl

/-! ### A session whose rules are complete (12 R388, R391, R409) -/

/-- The end of a suspension changes lockstep pairs alone. -/
theorem endSuspension_pairs (k : Fin 3) (s : Rc8) : ∃ pairs, endSuspension k s = { s with itg := { s.itg with pairs := pairs } } := by
  unfold endSuspension
  extract_lets x
  split
  · exact ⟨_, rfl⟩
  · exact ⟨_, rfl⟩

theorem endSuspensions_pairs (s : Rc8) : ∃ pairs, endSuspension 1 (endSuspension 0 s) = { s with itg := { s.itg with pairs := pairs } } := by
  obtain ⟨_, first⟩ := endSuspension_pairs 0 s
  obtain ⟨pairs, second⟩ := endSuspension_pairs 1 (endSuspension 0 s)
  exact ⟨pairs, second.trans (by rw [first])⟩

/-- A debug session that ends leaves no breakpoint and no halted core. -/
theorem endDebug_itg {s : Rc8} (open_ : s.itg.sess.isSome = true) (cause by_ : Nat) : ∃ pairs, (endDebug cause by_ s).itg =
    { s.itg with sess := none, breaks := Vector.replicate 4 [], portHalts := 0, portBreaks := Vector.replicate 4 [],
                 frozen := s.itg.frozen &&& ~~~(1#16 <<< 15), pairs := pairs } := by
  obtain ⟨x, hx⟩ := Option.isSome_iff_exists.1 open_
  unfold endDebug
  rw [hx]
  extract_lets s1 r s2
  obtain ⟨pairs, ends⟩ := endSuspensions_pairs s2
  rw [raise_itg, ends]
  exact ⟨pairs, rfl⟩

theorem endDebug_keeps (cause by_ : Nat) (s : Rc8) :
    (endDebug cause by_ s).execs = s.execs ∧ (endDebug cause by_ s).run.heldReleases = s.run.heldReleases := by
  unfold endDebug
  split
  · exact ⟨rfl, rfl⟩
  · extract_lets s1 r s2
    obtain ⟨pairs, ends⟩ := endSuspensions_pairs s2
    rw [raise_execs, raise_run, ends]
    exact ⟨rfl, rfl⟩

/-- One session that waits alone, whose rules are complete, opens or ends. -/
theorem rulesMet_session {s : Rc8} {w : SessWait} (waits : s.itg.sessWaits = [w]) (complete : s.itg.waiting = [])
    (noRelease : (sessionNow w (modItg (fun x => { x with sessWaits := [] }) s)).run.heldReleases = []) :
    rulesMet s = sessionNow w (modItg (fun x => { x with sessWaits := [] }) s) := by
  have done : ruleDone w.epoch s = true := by rw [ruleDone, complete]; rfl
  have due : s.itg.sessWaits.takeWhile (fun w => ruleDone w.epoch s) = [w] := by simp [waits, done]
  have left : modItg (fun x => { x with sessWaits := x.sessWaits.dropWhile fun w => ruleDone w.epoch s }) s =
      modItg (fun x => { x with sessWaits := [] }) s := by simp [modItg, waits, done]
  unfold rulesMet
  extract_lets d s1
  have opened : s1 = sessionNow w (modItg (fun x => { x with sessWaits := [] }) s) := by
    dsimp only [s1, d]
    rw [due, left]
    rfl
  rw [← opened] at noRelease ⊢
  split
  · rfl
  · rw [noRelease]
    have run : ({ s1.run with heldReleases := [] } : Runtime) = s1.run := by rw [← noRelease]
    exact congrArg (fun r => ({ s1 with run := r } : Rc8)) run

/-! ### TEST (12 R391) -/

/-- What TEST is told by: the integrity state, the runtime, the safety channels, and the pulse. -/
def Rc8.testParts (s : Rc8) : Integrity × Runtime × Safety × Bool := (s.itg, s.run, s.saf, s.pair.pulse)

@[simp] theorem raise_testParts (e : Ev) (s : Rc8) : (raise e s).testParts = s.testParts := by simp [Rc8.testParts]
@[simp] theorem modNet_testParts (n : Fin 2) (f : Net → Net) (s : Rc8) : (modNet n f s).testParts = s.testParts := rfl
theorem modFfe_testParts (f : FieldFront → FieldFront) (s : Rc8) : (modFfe f s).testParts = s.testParts := rfl

@[simp] theorem netGoto_testParts (n : Fin 2) (dest : NetState) (ev : NetEv) (s : Rc8) : (netGoto n dest ev s).testParts = s.testParts := by
  unfold netGoto
  extract_lets old
  split
  · rfl
  · rw [raise_testParts]
    split <;> rfl
@[simp] theorem startListen_testParts (n : Fin 2) (s : Rc8) : (startListen n s).testParts = s.testParts := rfl

theorem netEvent_testParts (n : Fin 2) (ev : NetEv) (s : Rc8) : (netEvent n ev s).testParts = s.testParts := by
  unfold netEvent
  dsimp only
  split <;> simp [apply_ite Rc8.testParts]

theorem setHold_testParts (n c : Fin 2) (on : Bool) (cause by_ : Nat) (s : Rc8) : (setHold n c on cause by_ s).testParts = s.testParts := by
  unfold setHold
  extract_lets was mask
  split
  · rfl
  · rw [raise_testParts]
    rfl

theorem setLoopHold_testParts (c : Fin 8) (on : Bool) (s : Rc8) : (setLoopHold c on s).testParts = s.testParts := rfl

theorem holdsOff_testParts (by_ : Nat) (s : Rc8) : (holdsOff by_ s).testParts = s.testParts := by
  unfold holdsOff
  rw [foldl_keeps Rc8.testParts _ (fun r c => setLoopHold_testParts c false r), foldl_keeps Rc8.testParts _ fun r n => ?_]
  rw [netEvent_testParts, setSeq, modNet_testParts, setHold_testParts, setHold_testParts]

theorem switchPin_testParts (i : Fin 32) (on : Bool) (s : Rc8) : (switchPin i on s).testParts = s.testParts := rfl

theorem pinsOff_testParts (s : Rc8) : (pinsOff s).testParts = s.testParts := by
  unfold pinsOff
  rw [modFfe_testParts, foldl_keeps Rc8.testParts _ fun r i => switchPin_testParts i false r]

theorem updateReady_testParts (s : Rc8) : (updateReady s).testParts = s.testParts := by
  have kept := updateReady_keeps s
  have pulse : (updateReady s).pair.pulse = s.pair.pulse := (congrArg Pair.pulse kept.pair :)
  rw [Rc8.testParts, updateReady_itg, kept.run, kept.field Rc8.saf, pulse]
  rfl

/-- Entering STOP leaves them, but for breakpoints, pairs and cycles, and holds no release. -/
theorem enterStop_leaves (cause round : Nat) (s : Rc8) : (enterStop cause round s).itg.sess = s.itg.sess ∧
    (enterStop cause round s).itg.sessWaits = s.itg.sessWaits ∧ (enterStop cause round s).itg.test = s.itg.test ∧
    (enterStop cause round s).run.heldReleases = [] ∧ (enterStop cause round s).saf = s.saf ∧ (enterStop cause round s).pair.pulse = s.pair.pulse := by
  have published : ∀ r : Rc8, (publishStops r).itg = r.itg ∧ (publishStops r).run.heldReleases = r.run.heldReleases ∧ (publishStops r).saf = r.saf ∧
      (publishStops r).pair = r.pair := fun r => by
    unfold publishStops
    split <;> exact ⟨rfl, rfl, rfl, rfl⟩
  have debug : (endTaskDebug s).itg.sess = s.itg.sess ∧ (endTaskDebug s).itg.sessWaits = s.itg.sessWaits ∧
      (endTaskDebug s).itg.test = s.itg.test ∧ (endTaskDebug s).saf = s.saf ∧ (endTaskDebug s).pair = s.pair := by
    unfold endTaskDebug
    extract_lets s1
    obtain ⟨pairs, ends⟩ := endSuspensions_pairs s1
    rw [ends]
    exact ⟨rfl, rfl, rfl, rfl, rfl⟩
  unfold enterStop modeChanged
  generalize endTaskDebug s = d at debug ⊢
  obtain ⟨sess, waits, test, saf, pair⟩ := debug
  obtain ⟨itg', held', saf', pair'⟩ := published (abortCycles d)
  rw [raise_itg, raise_run, raise_saf, raise_pair]
  exact ⟨(congrArg Integrity.sess itg').trans sess, (congrArg Integrity.sessWaits itg').trans waits, (congrArg Integrity.test itg').trans test, held',
    saf'.trans saf, congrArg Pair.pulse (pair'.trans pair)⟩

/-- The safety outputs open, and the readiness that follows leaves the rest. -/
theorem opened_leaves (s : Rc8) : (updateReady (openSafety s)).itg = s.itg ∧ (updateReady (openSafety s)).run = s.run ∧
    (updateReady (openSafety s)).pair.pulse = s.pair.pulse ∧ ∀ c : Fin 2, ((updateReady (openSafety s)).saf.ch[c]).closed = 0 := by
  have parts := updateReady_testParts (openSafety s)
  have saf : (updateReady (openSafety s)).saf = (openSafety s).saf := congrArg (·.2.2.1) parts
  refine ⟨congrArg (·.1) parts, congrArg (·.2.1) parts, congrArg (·.2.2.2) parts, fun c => ?_⟩
  rw [saf, openSafety, modSaf_saf]
  simp

/-- The TEST state: the pulse stands, every output is open, no release is held, and the session stays as it was. -/
theorem enterTest_leaves {s : Rc8} (port : Nat) (before : s.itg.test = false) (noRelease : s.run.heldReleases = []) :
    (enterTest port s).itg.sess = s.itg.sess ∧ (enterTest port s).itg.sessWaits = s.itg.sessWaits ∧ (enterTest port s).itg.test = true ∧
    (enterTest port s).run.heldReleases = [] ∧ (∀ c : Fin 2, ((enterTest port s).saf.ch[c]).closed = 0) ∧ (enterTest port s).pair.pulse = false := by
  unfold enterTest
  rw [if_neg (by rw [before]; exact Bool.false_ne_true)]
  extract_lets s1 s2
  have first : s1.testParts = ({ s.itg with test := true }, s.run, s.saf, false) := raise_testParts ..
  have off : (pinsOff (holdsOff port s1)).testParts = ({ s.itg with test := true }, s.run, s.saf, false) :=
    (pinsOff_testParts _).trans ((holdsOff_testParts ..).trans first)
  obtain ⟨itg, run, pulse, closed⟩ : s2.itg = (pinsOff (holdsOff port s1)).itg ∧ s2.run = (pinsOff (holdsOff port s1)).run ∧
    s2.pair.pulse = (pinsOff (holdsOff port s1)).pair.pulse ∧ ∀ c : Fin 2, (s2.saf.ch[c]).closed = 0 := opened_leaves _
  clear_value s2
  have sess : s2.itg.sess = s.itg.sess := (congrArg Integrity.sess itg).trans (congrArg (·.1.sess) off :)
  have waits : s2.itg.sessWaits = s.itg.sessWaits := (congrArg Integrity.sessWaits itg).trans (congrArg (·.1.sessWaits) off :)
  have test : s2.itg.test = true := (congrArg Integrity.test itg).trans (congrArg (·.1.test) off :)
  have held : s2.run.heldReleases = [] := (congrArg Runtime.heldReleases (run.trans (congrArg (·.2.1) off :))).trans noRelease
  have stands : s2.pair.pulse = false := pulse.trans (congrArg (·.2.2.2) off :)
  split
  · exact ⟨sess, waits, test, held, closed, stands⟩
  · obtain ⟨sess', waits', test', held', saf', pulse'⟩ := enterStop_leaves 2 s.rnd.round s2
    exact ⟨sess'.trans sess, waits'.trans waits, test'.trans test, held',
      fun c => (congrArg (fun f : Safety => (f.ch[c]).closed) saf').trans (closed c), pulse'.trans stands⟩

/-! ### The completion of a session's rules -/

/-- The module as a report finds it that completes the rules of the one session that waits. -/
def sessionReady (ep : Nat) (s : Rc8) : Rc8 := modItg (fun i => { i with complete := ep, waiting := [], sessWaits := [] }) s

theorem ruleComplete_session {s : Rc8} {w : SessWait} {x : Nat × Bool} (waits : s.itg.sessWaits = [w]) (epoch : s.itg.waiting = [(w.epoch, x)])
    (noRelease : (sessionNow w (sessionReady w.epoch s)).run.heldReleases = []) : ruleComplete w.epoch s = sessionNow w (sessionReady w.epoch s) :=
  (ruleComplete_eq (before := []) (after := []) epoch nofun).trans (rulesMet_session waits rfl noRelease)

theorem sessionNow_ends {w : SessWait} (h : w.sess = none) (s : Rc8) : sessionNow w s = endOpt w.exec .done (endDebug w.arg w.by_ s) := by
  rw [sessionNow, h]

/-- A session that opens, with its event. -/
def sessionOpened (w : SessWait) (y : DebugSess) (s : Rc8) : Rc8 :=
  raise { src := 124, reason := 0x01, sev := .warning, p0 := y.scope, p1 := w.arg, p2 := w.by_ } (modItg (fun i => { i with sess := some y }) s)

theorem sessionNow_opens {w : SessWait} {y : DebugSess} (h : w.sess = some y) (s : Rc8) : sessionNow w s =
    endOpt w.exec .done (if bitAt y.scope 2 then enterTest w.by_ (sessionOpened w y s) else sessionOpened w y s) := by
  rw [sessionNow, h]
  rfl

theorem sessionOpened_leaves (w : SessWait) (y : DebugSess) (s : Rc8) : (sessionOpened w y s).itg = { s.itg with sess := some y } ∧
    (sessionOpened w y s).run = s.run ∧ (sessionOpened w y s).execs = s.execs := ⟨raise_itg .., raise_run .., raise_execs ..⟩

theorem endOpt_execs {id : Option Nat} {k : Nat} (h : id = some k) (st : Status) (s : Rc8) : (endOpt id st s).execs = s.marked k (.ended st []) := by
  rw [h]
  exact endWith_execs ..

theorem mem_vlist_replicate {α : Type} {n : Nat} {a x : α} (h : x ∈ vlist (Vector.replicate n a)) : x = a := by
  rw [vlist, Vector.toArray_replicate, Array.toList_replicate] at h
  exact List.eq_of_mem_replicate h

section completion
variable {s : Rc8} {w : SessWait} {x : Nat × Bool} (waits : s.itg.sessWaits = [w]) (epoch : s.itg.waiting = [(w.epoch, x)])
  (noRelease : s.run.heldReleases = [])
include waits epoch noRelease

/-- The rules without it are complete: the session ends. -/
theorem ruleComplete_ends (ends : w.sess = none) : ruleComplete w.epoch s = endOpt w.exec .done (endDebug w.arg w.by_ (sessionReady w.epoch s)) := by
  rw [← sessionNow_ends ends]
  refine ruleComplete_session waits epoch ?_
  rw [sessionNow_ends ends, endOpt_run]
  exact (endDebug_keeps ..).2.trans noRelease

/-- A session without the boundary scan opens. -/
theorem ruleComplete_opens {y : DebugSess} (opens : w.sess = some y) (cores : bitAt y.scope 2 = false) :
    ruleComplete w.epoch s = endOpt w.exec .done (sessionOpened w y (sessionReady w.epoch s)) := by
  have now : sessionNow w (sessionReady w.epoch s) = endOpt w.exec .done (sessionOpened w y (sessionReady w.epoch s)) := by
    rw [sessionNow_opens opens, cores]
    rfl
  rw [← now]
  refine ruleComplete_session waits epoch ?_
  rw [now, endOpt_run, (sessionOpened_leaves ..).2.1]
  exact noRelease

/-- A session with the boundary scan opens with the TEST state. -/
theorem ruleComplete_tests {y : DebugSess} (opens : w.sess = some y) (scan : bitAt y.scope 2 = true) :
    ruleComplete w.epoch s = endOpt w.exec .done (enterTest w.by_ (sessionOpened w y (sessionReady w.epoch s))) := by
  have now : sessionNow w (sessionReady w.epoch s) = endOpt w.exec .done (enterTest w.by_ (sessionOpened w y (sessionReady w.epoch s))) := by
    rw [sessionNow_opens opens, if_pos scan]
  rw [← now]
  refine ruleComplete_session waits epoch ?_
  have held : (sessionOpened w y (sessionReady w.epoch s)).run.heldReleases = [] :=
    (congrArg Runtime.heldReleases (sessionOpened_leaves ..).2.1).trans noRelease
  rw [now, endOpt_run]
  by_cases before : (sessionOpened w y (sessionReady w.epoch s)).itg.test = true
  · rw [enterTest, if_pos before]
    exact held
  · obtain ⟨-, -, -, released, -, -⟩ := enterTest_leaves w.by_ (Bool.eq_false_iff.2 before) held
    exact released

end completion

/-- In TEST already, the state is not entered again. -/
theorem enterTest_again {s : Rc8} (test : s.itg.test = true) (port : Nat) : enterTest port s = s := if_pos test

/-! ### Breakpoints and halted tasks (12 R389, R392, R418, R419) -/

theorem breaksOf_core {c : Nat} {k : Fin 4} (h : c = k.val) (s : Rc8) : breaksOf c s = s.itg.breaks[k] := vget_of_val h ..

theorem putBreaks_itg {c : Nat} {k : Fin 4} (h : c = k.val) (l : List Nat) (s : Rc8) :
    (putBreaks c l s).itg = { s.itg with breaks := s.itg.breaks.set k l } := by
  rw [putBreaks, modItg_itg, vput_const h]

theorem suspend_leaves (k : Fin 3) (cause : Nat) (s : Rc8) : (suspend k cause s).itg.breaks = s.itg.breaks ∧ (suspend k cause s).execs = s.execs := by
  unfold suspend
  extract_lets mark
  split
  · rw [raise_itg, raise_execs]
    exact ⟨rfl, rfl⟩
  · exact ⟨rfl, rfl⟩
  · exact ⟨rfl, rfl⟩
  · exact ⟨rfl, rfl⟩

/-- The answer of DEBUG_BREAKPOINT: the breakpoints of the core. -/
def breakpointsAnswered (e : Exec) (s : Rc8) : Rc8 := endExec e.id .done (le 1 (breaksOf (u8At e.req 1) s).length ++ zeros 3) s

theorem breakpointsAnswered_leaves {e : Exec} {c : Fin 4} (core : u8At e.req 1 = c.val) (s : Rc8) : (breakpointsAnswered e s).itg = s.itg ∧
    (breakpointsAnswered e s).execs = s.marked e.id (.ended .done (le 1 (s.itg.breaks[c]).length ++ zeros 3)) := by
  rw [breakpointsAnswered, endExec_done, breaksOf_core core]
  exact ⟨rfl, rfl⟩

theorem debugBreakpoint_clears {e : Exec} {s : Rc8} (act : u8At e.req 0 = 3) : debugBreakpoint e s = breakpointsAnswered e (putBreaks (u8At e.req 1) [] s) := by
  unfold debugBreakpoint
  extract_lets k off l done
  rw [act]
  rfl

section breakpoint
variable {e : Exec} {s : Rc8} {c : Fin 4} (core : u8At e.req 1 = c.val)
include core

theorem debugBreakpoint_sets (act : u8At e.req 0 = 1) (new : (s.itg.breaks[c]).contains (u32At e.req 4) = false) (room : (s.itg.breaks[c]).length < 16) :
    debugBreakpoint e s =
      breakpointsAnswered e (suspend (pairOfCore (u8At e.req 1)) 2 (putBreaks (u8At e.req 1) (s.itg.breaks[c] ++ [u32At e.req 4]) s)) := by
  unfold debugBreakpoint
  extract_lets k off l done
  have kept : l = s.itg.breaks[c] := breaksOf_core core s
  rw [act, kept]
  rw [if_neg (by rw [new]; exact Bool.false_ne_true), if_neg (Nat.not_le.2 room)]
  rfl

theorem debugBreakpoint_full (act : u8At e.req 0 = 1) (new : (s.itg.breaks[c]).contains (u32At e.req 4) = false) (full : 16 ≤ (s.itg.breaks[c]).length) :
    debugBreakpoint e s = endWith e.id .noSpace s := by
  unfold debugBreakpoint
  extract_lets k off l done
  have kept : l = s.itg.breaks[c] := breaksOf_core core s
  rw [act, kept]
  rw [if_neg (by rw [new]; exact Bool.false_ne_true), if_pos full]
  rfl

theorem debugBreakpoint_set_leaves (act : u8At e.req 0 = 1) (new : (s.itg.breaks[c]).contains (u32At e.req 4) = false)
    (room : (s.itg.breaks[c]).length < 16) : (debugBreakpoint e s).itg.breaks = s.itg.breaks.set c (s.itg.breaks[c] ++ [u32At e.req 4]) ∧
      (debugBreakpoint e s).execs = s.marked e.id (.ended .done (le 1 ((s.itg.breaks[c]).length + 1) ++ zeros 3)) := by
  rw [debugBreakpoint_sets core act new room]
  generalize added : putBreaks (u8At e.req 1) (s.itg.breaks[c] ++ [u32At e.req 4]) s = t
  have breaks : t.itg.breaks = s.itg.breaks.set c (s.itg.breaks[c] ++ [u32At e.req 4]) := by rw [← added, putBreaks_itg core]
  have execs : t.execs = s.execs := by rw [← added]; rfl
  obtain ⟨kept, same⟩ := suspend_leaves (pairOfCore (u8At e.req 1)) 2 t
  obtain ⟨itg, answered⟩ := breakpointsAnswered_leaves core (suspend (pairOfCore (u8At e.req 1)) 2 t)
  have count : ((s.itg.breaks.set c (s.itg.breaks[c] ++ [u32At e.req 4]))[c]).length = (s.itg.breaks[c]).length + 1 := by simp
  rw [answered, itg, kept, breaks, count]
  exact ⟨rfl, marked_of_execs (same.trans execs) ..⟩

theorem debugBreakpoint_clear_leaves (act : u8At e.req 0 = 3) : (debugBreakpoint e s).itg = { s.itg with breaks := s.itg.breaks.set c [] } ∧
    (debugBreakpoint e s).execs = s.marked e.id (.ended .done (zeros 4)) := by
  rw [debugBreakpoint_clears act]
  obtain ⟨itg, answered⟩ := breakpointsAnswered_leaves core (putBreaks (u8At e.req 1) [] s)
  have cleared : ((s.itg.breaks.set c [])[c]).length = 0 := by simp
  rw [answered, itg, putBreaks_itg core]
  dsimp only
  rw [cleared]
  exact ⟨rfl, rfl⟩

end breakpoint

theorem taskOf_named {e : Exec} {i : Fin 8} (h : u8At e.req 0 = i.val) : taskOf e = i :=
  Fin.ext ((congrArg (· % 8) h).trans (Nat.mod_eq_of_lt i.isLt))

theorem debugTask_cycle {e : Exec} {i : Fin 8} (task : u8At e.req 0 = i.val) (act : u8At e.req 1 = 1) (s : Rc8) :
    debugTask e s = endWith e.id .done { s with run := { s.run with tasks := s.run.tasks.set i { s.run.tasks[i] with wanted := 1 } } } := by
  rw [debugTask, taskOf_named task, act]
  rfl

theorem debugTask_continue {e : Exec} {i : Fin 8} (task : u8At e.req 0 = i.val) (act : u8At e.req 1 = 2) (s : Rc8) :
    debugTask e s = endWith e.id .done { s with run := { s.run with tasks := s.run.tasks.set i { s.run.tasks[i] with st := .running } } } := by
  rw [debugTask, taskOf_named task, act]
  rfl

theorem splitSet_stored (e : Exec) (s : Rc8) : splitSet true e s =
    (raise { src := 85, reason := 0x04, sev := .notice, p0 := u8At e.req 0, p1 := e.port.val, p2 := 0 }
      { s with nv := { s.nv with split := BitVec.ofNat 2 (u8At e.req 0) } }).ended e.id .done
        (le 1 (b2n (bitAt (u8At e.req 0) 0 && !((activeSet s).map setSingle).getD false)) ++ zeros 3) := endExec_done ..

/-! ### The parts of the statement -/

/-- The rows of the debug port. -/
theorem debugPortRows (s : State) (serves : dmaStopped 15 s.toRc8 = false) :
    exec (.debugPortRequest .passive) s = .next (s.after fun r => { r with out := r.out ++ [.debugStatus true] }) ∧
    exec (.debugPortRequest .scan) s =
      .next (s.after fun r => { r with out := r.out ++ [.debugStatus ((r.itg.sess.map fun x => bitAt x.scope 2).getD false)] }) ∧
    (∀ k op, (s.itg.sess = none ∨ s.run.mode = .run) →
      exec (.debugPortRequest (.core k op)) s = .next (s.after fun r => { r with out := r.out ++ [.debugStatus false] })) ∧
    (∀ x : Transaction, 1 ≤ x.kind.val → 1 ≤ x.len → x.len ≤ 256 → x.addr < 2 ^ 32 → s.itg.sess = none →
      exec (.debugPortRequest (.access x)) s = .next (s.after fun r => { r with out := r.out ++ [.debugStatus false] })) ∧
    (∀ (k : Fin 3) (op : CoreDebug) x, s.itg.sess = some x → k.val < 2 → bitAt x.scope k.val = true → s.run.mode ≠ .run →
      (s.itg.pairs[k]).st = .lockstep →
      Leads (.debugPortRequest (.core k op)) s fun t => (t.itg.pairs[k]).st = .suspended ∧ (t.itg.pairs[k]).byPort = true ∧
        t.itg.suspensions = inc32 s.itg.suspensions ∧
        (∀ b, op = .halt b → t.itg.portHalts = s.itg.portHalts ||| (1#4 <<< (2 * k.val))) ∧
        (∀ b, op = .resume b → t.itg.portHalts = s.itg.portHalts &&& ~~~(1#4 <<< (2 * k.val)))) := by
  refine ⟨act_eq_of_eq (debugRequest_passive serves), act_eq_of_eq (debugRequest_scan serves),
    fun k op closed => act_eq_of_eq (debugRequest_core_refused serves closed),
    fun x kind some_ short range locked => ?_, fun k op x open_ core scope stands lock => ?_⟩
  · exact (actIf_act (decide_eq_true ⟨kind, some_, short, range⟩) ..).trans (act_eq_of_eq (debugRequest_access_refused serves locked))
  · refine leads_of_row rfl fun t made => ?_
    have itg := suspend_port_itg lock
    generalize suspended : suspend k 1 s.toRc8 = r at itg
    have acted : t.toRc8 = portAnswer true (coreDebug k op r) := by rw [← suspended]; exact made.trans (debugRequest_core serves open_ core scope stands)
    obtain ⟨pairs, suspensions⟩ := coreDebug_pairs k op r
    have now : r.itg.pairs = _ := congrArg Integrity.pairs itg
    have st : (r.itg.pairs[k]).st = .suspended := by rw [now, vmod_same]
    rw [acted, pairs, suspensions]
    refine ⟨st, by rw [now, vmod_same], congrArg Integrity.suspensions itg, ?_, ?_⟩
    · rintro b rfl
      have halted : (portAnswer true (coreDebug k (.halt b) r)).itg.portHalts = r.itg.portHalts ||| (1#4 <<< namedCore k b r) := rfl
      rw [halted, namedCore_suspended st, itg]
    · rintro b rfl
      have resumed : (portAnswer true (coreDebug k (.resume b) r)).itg.portHalts = r.itg.portHalts &&& ~~~(1#4 <<< namedCore k b r) := rfl
      rw [resumed, namedCore_suspended st, itg]

/-- The report that completes the rules of the session that waits. -/
theorem sessionRows (s : State) (w : SessWait) (x : Nat × Bool) (waits : s.itg.sessWaits = [w]) (epoch : s.itg.waiting = [(w.epoch, x)])
    (noRelease : s.run.heldReleases = []) :
    (w.sess = none → s.itg.sess.isSome = true → Leads (.ruleEpochComplete w.epoch) s fun t => t.itg.sess = none ∧ t.itg.sessWaits = [] ∧
      (∀ b ∈ vlist t.itg.breaks, b = []) ∧ t.itg.portHalts = 0 ∧ (∀ b ∈ vlist t.itg.portBreaks, b = []) ∧
      (∀ id, w.exec = some id → t.execs = s.marked id (.ended .done []))) ∧
    (∀ y, w.sess = some y → Leads (.ruleEpochComplete w.epoch) s fun t => t.itg.sess = some y ∧ t.itg.sessWaits = [] ∧
      (bitAt y.scope 2 = false → ∀ id, w.exec = some id → t.execs = s.marked id (.ended .done [])) ∧
      (bitAt y.scope 2 = true → s.itg.test = false → t.itg.test = true ∧ t.pair.pulse = false ∧ ∀ c : Fin 2, (t.saf.ch[c]).closed = 0)) := by
  refine ⟨fun ends open_ => ?_, fun y opens => ?_⟩
  · refine leads_of_row rfl fun t made => ?_
    obtain ⟨pairs, closed⟩ := endDebug_itg (s := sessionReady w.epoch s.toRc8) open_ w.arg w.by_
    rw [made, ruleComplete_ends waits epoch noRelease ends, endOpt_itg, closed]
    exact ⟨rfl, rfl, fun b => mem_vlist_replicate, rfl, fun b => mem_vlist_replicate,
      fun id waiting => (endOpt_execs waiting ..).trans (marked_of_execs (endDebug_keeps ..).1 ..)⟩
  · refine leads_of_row rfl fun t made => ?_
    obtain ⟨itg, run, execs⟩ := sessionOpened_leaves w y (sessionReady w.epoch s.toRc8)
    by_cases scan : bitAt y.scope 2 = true
    · rw [made, ruleComplete_tests waits epoch noRelease opens scan, endOpt_itg, endOpt_pair, endOpt_saf]
      generalize sessionOpened w y (sessionReady w.epoch s.toRc8) = r at itg run
      by_cases test : r.itg.test = true
      · rw [enterTest_again test, itg]
        refine ⟨rfl, rfl, fun no => absurd (scan.symm.trans no) (by decide), fun _ before => ?_⟩
        rw [itg] at test
        exact absurd (before.symm.trans test) Bool.false_ne_true
      · obtain ⟨sess, none_, now, -, closed, pulse⟩ :=
          enterTest_leaves w.by_ (Bool.eq_false_iff.2 test) ((congrArg Runtime.heldReleases run).trans noRelease)
        exact ⟨sess.trans (congrArg Integrity.sess itg), none_.trans (congrArg Integrity.sessWaits itg),
          fun no => absurd (scan.symm.trans no) (by decide), fun _ _ => ⟨now, pulse, closed⟩⟩
    · rw [made, ruleComplete_opens waits epoch noRelease opens (Bool.eq_false_iff.2 scan), endOpt_itg, itg]
      exact ⟨rfl, rfl, fun _ id waiting => (endOpt_execs waiting ..).trans (marked_of_execs execs ..), fun yes => absurd yes scan⟩

/-- Settles O50: what each request of the port, each session and each command for breakpoints and tasks leaves. -/
theorem debugging : Obligations.Debugging := by
  refine ⟨debugPortRows, ?expires, sessionRows, fun s p m e => ⟨?unlocks, ?busy, ?locks, ?noSession, ?splits,
    fun he c core => ⟨?sets, ?full, ?clears⟩, fun he i task => ⟨?cycle, ?continues⟩⟩, ?stops⟩
  case expires =>
    intro s x open_ none_
    refine leads_of_row rfl fun t made => ?_
    obtain ⟨sess, epoch, waits, -, clk⟩ := waitSession_itg none 2 0xFF none (atRefosc x.endAt s.toRc8)
    rw [made, sessionExpiry_waits open_ none_, sess, epoch, waits, clk, atRefosc_itg, none_]
    exact ⟨open_, le_atRefosc .., rfl, rfl⟩
  case unlocks =>
    intro he mine mineToo
    refine leads_of_command he rfl fun t made => ?_
    obtain ⟨sess, epoch, waits, execs, -⟩ := waitSession_itg
      (some { port := e.port, scope := u8At e.req 0, endAt := s.clk.refosc + u16At e.req 2 * 60000000000 }) (u16At e.req 2) e.port.val (some e.id)
      (waitExec e.id s.toRc8)
    rw [made, debugUnlock_waits mine mineToo, sess, epoch, waits, execs, waitExec_itg, waitExec_execs]
    exact ⟨rfl, rfl, rfl, _, rfl, rfl, rfl, rfl, rfl, rfl⟩
  case busy => exact fun he other => act_runCmd he (debugUnlock_busy other)
  case locks =>
    intro he mine
    refine leads_of_command he rfl fun t made => ?_
    obtain ⟨sess, epoch, waits, execs, -⟩ := waitSession_itg none 1 e.port.val (some e.id) (waitExec e.id s.toRc8)
    rw [made, debugLock_waits mine, sess, epoch, waits, execs, waitExec_itg, waitExec_execs]
    exact ⟨rfl, rfl, rfl, rfl⟩
  case noSession => exact fun he others => act_runCmd he (debugLock_refused others)
  case splits =>
    intro he
    refine leadsTo_of_command he rfl ?_
    rw [splitSet_stored]
    exact Rc8.UpToEvents.map (f := fun r => r.ended e.id .done _) (upToEvents_raise ..) rfl
  case sets =>
    intro act new room
    exact leads_of_command he rfl fun t made => made ▸ debugBreakpoint_set_leaves core act new room
  case full => exact fun act new full => act_runCmd he (debugBreakpoint_full core act new full)
  case clears =>
    intro act
    exact leads_of_command he rfl fun t made => made ▸ debugBreakpoint_clear_leaves core act
  case cycle => exact fun act => act_runCmd he (debugTask_cycle task act s.toRc8)
  case continues => exact fun act => act_runCmd he (debugTask_continue task act s.toRc8)
  case stops =>
    intro s i step layby holder runs due
    refine leadsTo_of_row rfl ?_
    unfold breakpointReached
    rw [if_pos ⟨layby, holder, runs, due⟩]
    exact upToEvents_raise ..

end Sys2Proof.Machine
end
